-- ==== Sys2Proof/Word.lean ====
section
/-! DEFINITION. The words of the block: registers are 32 bits wide (R16), memory is bytes. -/

namespace Sys2Proof

/-- One BAR0 register (R16). -/
abbrev Word := BitVec 32

/-- One byte of field memory, LPDDR5X or host memory. -/
abbrev Byte := BitVec 8

end Sys2Proof
end

