-- ==== Sys2Proof/Syntax.lean ====
section
/-! DEFINITION. The commands of the block: one constructor of `Instr` for each row of the command table, with the row's operands
(what the host, a pin, a sensor or the passing of an interval brings), and the small types those operands need. -/

namespace Sys2Proof

/-- The two host ports (R356, R378). -/
inductive Port where
  | a | b
  deriving DecidableEq, Repr

/-- One port, or both in one arbiter cycle (R364). -/
inductive WhichPorts where
  | one (p : Port)
  | both
  deriving DecidableEq, Repr

/-- What resets a port (R359, R381). -/
inductive PortCause where
  | flr | linkDown | perst | d3hot
  deriving DecidableEq, Repr

/-- The drivers' flags as the emitter matrix shifts them out: 16 rows of open and of short flags (R90, R91). -/
structure DriverFlags where
  opens : List (BitVec 12)
  shorts : List (BitVec 12)
  deriving DecidableEq, Repr

/-- What the re-arm sequence finds (R92). -/
structure RearmChecks where
  /-- EMON_FLT_N is high. -/
  emonHigh : Bool
  /-- The drivers' flags after the write to register 0x102. -/
  flags : DriverFlags
  /-- The current codes read back from the drivers, profile by profile and row by row. -/
  codes : List (BitVec 10)
  /-- A parity sweep of the accountant passes. -/
  parityOk : Bool
  deriving DecidableEq, Repr

/-- A gPTP message received (R436). -/
inductive GptpMsg where
  | sync
  | followUp (origin : Int)
  | pdelayReq
  | pdelayResp (t2 : Int)
  | pdelayRespFollowUp (t3 : Int)
  deriving DecidableEq, Repr

/-- JTAG instructions (R355). -/
inductive JtagInstr where
  | bypass | sample | preload | extest | idcode | clamp | highz
  deriving DecidableEq, Repr

/-- An error an element reports (R306). -/
inductive ElementError where
  | transient
  | permanent (cause : BitVec 8)
  | replays (n : Nat)
  deriving DecidableEq, Repr

/-- What a customer kernel did on a channel-line (R187): left the return list as it stood, left records with their colour
extensions, trapped, or exceeded its QUOTA. -/
inductive KernelRun where
  | unchanged
  | finished (records : List (BitVec 64 × BitVec 64))
  | trap
  | overQuota
  deriving DecidableEq, Repr

/-- A local-memory error of a point engine (R175). -/
inductive MemError where
  | corrected | uncorrectable | parity
  deriving DecidableEq, Repr

/-- What a selection run found on a TDC lane (R312): cell choices of the five oscillators, the slow period in 2^-16 tick, and the vernier
step of each of the four fast oscillators in 2^-24 tick. -/
structure LaneRun where
  cells : List (BitVec 32)
  period : Nat
  steps : List Nat
  deriving DecidableEq, Repr

/-- What a selection run found on a column converter (R312): comparator pair, ladder segments, test codes at 7/8 and 1/8. -/
structure ConverterRun where
  pair : BitVec 2
  ladder : BitVec 20
  high : Nat
  low : Nat
  deriving DecidableEq, Repr

/-- The two runs of a reselection (R314). -/
inductive SelectionRuns where
  | lane (a b : LaneRun)
  | converter (a b : ConverterRun)
  deriving DecidableEq, Repr

/-- What the fuse bank holds of a part: grade code and serial number (GLB_GRADE, GLB_SERIAL), the seed of the lifetime counter
(PWR_LIFE_SEED), the SHA-384 digest of the image key (R338), and for each thermometer THM_TRIM, THM_NEIGH and THM_NEIGH_OFS. -/
structure FuseBank where
  grade : BitVec 2
  serial : BitVec 64
  lifeSeed : Word
  keyHash : List Byte
  therm : List (Word × Word × Word)
  deriving DecidableEq, Repr

/-- A fuse bank with no fuse blown: what the fuse shadow holds before the fuse step. -/
def FuseBank.blank : FuseBank := { grade := 0, serial := 0, lifeSeed := 0, keyHash := [], therm := [] }

/-- The two runs of a target item on one channel, or on one pixel (R312, R421): its values in the units of the record. -/
structure TargetRun where
  index : Nat
  a : List Int
  b : List Int
  deriving DecidableEq, Repr

/-- What the parts of SELF_TEST read (R429): the accountant's words whose parity is wrong; the words of the lineup copies and of the
calibration copies that read other than the device wrote them; 64 counts of each thermometer; and the word sent over the detector link and
the word that came back. -/
structure SelfTestRead where
  eyeBad : List Nat
  lineup : List (Fin 3 × Fin 512 × Word)
  cal : List (Fin 3 × Fin 27648 × Word)
  counts : List (List Nat)
  sent : Word
  echoed : Word
  deriving DecidableEq, Repr

/-- What a long command's own measurement found: the readings of SELF_TEST (R429), or the runs of CAL_TARGET (R421). -/
inductive LongResult where
  | none
  | selfTest (r : SelfTestRead)
  | target (runs : List TargetRun)
  deriving DecidableEq, Repr

/-- A command of the block: one constructor for each row of the command table. -/
inductive Instr where
  /-- REGISTER_WRITE (R361). -/
  | registerWrite (p : Port) (off : BitVec 26) (v : Word) (c : RearmChecks) (puf : Option (BitVec 384))
  /-- RC_READ (R18). -/
  | rcRead (p : Port) (off : BitVec 26)
  /-- LOW_HALF_READ (R17). -/
  | lowHalfRead (p : Port) (off : BitVec 26)
  /-- MALFORMED_ACCESS (R360). -/
  | malformedAccess (p : Port) (write : Bool)
  /-- FACET_INDEX (R58). -/
  | facetIndex (t : Nat)
  /-- LINE_START (R25). -/
  | lineStart
  /-- SUBSTITUTION_CHANGEOVER (R307). -/
  | substitutionChangeover
  /-- IMAGE_LINE_START (R24). -/
  | imageLineStart (tests : List (BitVec 12 × BitVec 14 × BitVec 14))
  /-- SLOT_SETUP (R75). -/
  | slotSetup
  /-- SLOT_START (R75). -/
  | slotStart
  /-- SLOT_EMISSION (R75). -/
  | slotEmission (parityError : Bool) (f : DriverFlags)
  /-- LISTEN_WINDOW_CLOSE (R75). -/
  | listenWindowClose
  /-- COARSE_COUNTER_END (R125). -/
  | coarseCounterEnd (l : Fin 208)
  /-- PERIOD_MEASUREMENT_DONE (R132). -/
  | periodMeasurementDone (l : Fin 208) (a b : BitVec 14 × BitVec 6)
  /-- LOOP_SAMPLE (R42). -/
  | loopSample (t : Nat) (own : List Int) (p49 : BitVec 14 × BitVec 14) (tags : BitVec 8)
  /-- SLOT_CLOSE (R44). -/
  | slotClose (p : Port) (n : Fin 8)
  /-- SLOT_OPEN (R44). -/
  | slotOpen (p : Port) (n : Fin 8)
  /-- SLOT_MODE_CHANGE (R47). -/
  | slotModeChange (p : Port) (n : Fin 8) (mode : BitVec 2)
  /-- COEFFICIENT_WRITE (R46). -/
  | coefficientWrite (p : Port) (off : BitVec 18) (v : Word)
  /-- SETPOINT_WRITE (R49). -/
  | setpointWrite (p : Port) (n : Fin 8) (v : BitVec 16)
  /-- RC_CELL_UPDATE (R51). -/
  | rcCellUpdate
  /-- REVOLUTION_INDEX (R55). -/
  | revolutionIndex (t : Nat)
  /-- QUADRATURE_EDGE (R55). -/
  | quadratureEdge (t : Nat) (a b : Bool)
  /-- MISSING_FACET_INDEX (R55). -/
  | missingFacetIndex
  /-- MOTOR_TRIP (R54). -/
  | motorTrip (code : BitVec 14)
  /-- COOLER_TRIP (R59). -/
  | coolerTrip (code : BitVec 14)
  /-- SHOT_PROGRAM_COMMIT (R70). -/
  | shotProgramCommit (p : Port) (frameMode : Bool)
  /-- SHT_RUN_START (R72). -/
  | shtRunStart (p : Port) (frames : BitVec 16)
  /-- SHT_RUN_STOP (R72). -/
  | shtRunStop (p : Port)
  /-- SHT_RUN_ABORT (R72). -/
  | shtRunAbort (p : Port)
  /-- NONCE_WRITE (R83). -/
  | nonceWrite (p : Port) (hi : Word)
  /-- PATTERN_SWAP_REQUEST (R77). -/
  | patternSwapRequest (p : Port) (sync : BitVec 2)
  /-- PATTERN_CHECK_DONE (R77). -/
  | patternCheckDone
  /-- PATTERN_SHADOW_WRITE (R78). -/
  | patternShadowWrite (p : Port) (w : BitVec 11) (v : Word)
  /-- CURRENT_PROFILE_COMMIT (R80). -/
  | currentProfileCommit (p : Port)
  /-- CURRENT_COMMIT_DONE (R80). -/
  | currentCommitDone (codes : List (BitVec 10)) (f : DriverFlags)
  /-- DRIVER_FLAGS_READ_DONE (R81). -/
  | driverFlagsReadDone (f : DriverFlags)
  /-- EYE_LOCK (R89). -/
  | eyeLock (p : Port)
  /-- EYE_SUB_BIN_END (R87). -/
  | eyeSubBinEnd (w : Fin 2) (parityError : Bool) (f : DriverFlags)
  /-- EMON_FAULT_INPUT (R91). -/
  | emonFaultInput (f : DriverFlags)
  /-- MONITOR_PULSE (R91). -/
  | monitorPulse (t : Nat) (f : DriverFlags)
  /-- MONITOR_PULSE_MISSING (R91). -/
  | monitorPulseMissing (f : DriverFlags)
  /-- MONITOR_PULSE_EXCESS (R91). -/
  | monitorPulseExcess (tot : Nat) (f : DriverFlags)
  /-- REARM_WRITE (R92). -/
  | rearmWrite (p : Port) (v : BitVec 8) (c : RearmChecks)
  /-- FLOOD_PERIOD_START (R95). -/
  | floodPeriodStart
  /-- FLOOD_GROUP_SAMPLE (R96). -/
  | floodGroupSample (m : Fin 8) (code : BitVec 14)
  /-- FLOOD_EDGE_READBACK (R96). -/
  | floodEdgeReadback (m : Fin 8) (levels : BitVec 8)
  /-- FLOOD_LAMP_CLEAR (R98). -/
  | floodLampClear (p : Port) (lamps : BitVec 8)
  /-- SPAD_DETECTION (R111). -/
  | spadDetection (n : Fin 192) (i : Fin 48) (t : Nat)
  /-- SPAD_MASK_SUBMIT (R106). -/
  | spadMaskSubmit (p : Port) (n : Fin 192) (hi : BitVec 16)
  /-- SPAD_MASK_TIMER (R106). -/
  | spadMaskTimer
  /-- SURVEY_GO (R108). -/
  | surveyGo (p : Port)
  /-- SURVEY_PERIOD_EXPIRY (R108). -/
  | surveyPeriodExpiry
  /-- SURVEY_STEP_END (R108). -/
  | surveyStepEnd (counts : List Nat)
  /-- SURVEY_SWEEP_END (R109). -/
  | surveySweepEnd (counts : List Nat)
  /-- DETECTOR_ENABLE (R116). -/
  | detectorEnable (p : Port) (v : BitVec 2)
  /-- DETECTOR_LINK_FRAME (R117). -/
  | detectorLinkFrame (good : Bool)
  /-- COOLER_STATUS_TIMER (R119). -/
  | coolerStatusTimer (sat : Bool)
  /-- STOP_ARRIVAL (R127). -/
  | stopArrival (l : Fin 208) (t : Nat) (coarse : BitVec 14) (fine : BitVec 6)
  /-- CALIBRATION_EDGE (R134). -/
  | calibrationEdge (l : Fin 208) (bad : Bool)
  /-- CAL_RUN_COMPLETE (R135). -/
  | calRunComplete (l : Fin 208)
  /-- EVENT_LANE_PUSH (R141). -/
  | eventLanePush (l : Fin 208) (bad : Bool)
  /-- EVENT_LANE_POP (R144). -/
  | eventLanePop (l : Fin 208)
  /-- LANE_RESET (R145). -/
  | laneReset (p : Port) (l : Fin 208)
  /-- ITEM_RECEIVED (R151). -/
  | itemReceived (c : Fin 192) (bad : Bool)
  /-- COARSE_HISTOGRAM_COMPLETE (R152). -/
  | coarseHistogramComplete (c : Fin 192)
  /-- ZOOM_WINDOWS_PLACED (R157). -/
  | zoomWindowsPlaced (c : Fin 192)
  /-- FINE_PASS_COMPLETE (R160). -/
  | finePassComplete (c : Fin 192)
  /-- LINE_COLLECTION (R163). -/
  | lineCollection (c : Fin 192) (bad : Bool)
  /-- HISTOGRAM_COMMIT (R165). -/
  | histogramCommit (p : Port) (frameMode : Bool)
  /-- TAP_CONFIG_WRITE (R166). -/
  | tapConfigWrite (p : Port) (r : Fin 9) (v : Word)
  /-- POINT_CHAIN_RUN (R176). -/
  | pointChainRun (c : Fin 192) (k : KernelRun)
  /-- LOCAL_MEMORY_ERROR (R175). -/
  | localMemoryError (e : Fin 52) (c : Fin 192) (kind : MemError) (word : BitVec 14) (late : Bool)
  /-- COLOUR_FUSION_JOIN (R240). -/
  | colourFusionJoin (runs : List (BitVec 8 × KernelRun))
  /-- LINE_PACKET_ASSEMBLY (R196). -/
  | linePacketAssembly (bad : Bool)
  /-- PACKET_DESTINATION_SEND (R199). -/
  | packetDestinationSend (d : Fin 3) (full : Bool)
  /-- PACKET_CONFIG_WRITE (R200). -/
  | packetConfigWrite (p : Port) (r : Fin 4) (v : Word)
  /-- GATE_STEP (R204). -/
  | gateStep
  /-- SENSE_INTERVAL_CLOSE (R215). -/
  | senseIntervalClose (signals : List Int)
  /-- PIXEL_LINE_TRANSFER (R215). -/
  | pixelLineTransfer
  /-- PIXEL_LINE_RECEIVED (R216). -/
  | pixelLineReceived
  /-- PIXEL_HEADER_TIMEOUT (R216). -/
  | pixelHeaderTimeout
  /-- IMAGING_COMMIT (R218). -/
  | imagingCommit (p : Port)
  /-- IMG_APPLIED_FRAME_READ (R218). -/
  | imgAppliedFrameRead (p : Port)
  /-- IMAGING_ENABLE (R220). -/
  | imagingEnable (p : Port) (on : Bool)
  /-- FRAME_SYNC_IN_EDGE (R439). -/
  | frameSyncInEdge (t width : Nat)
  /-- ISP_LINE_ENQUEUE (R235). -/
  | ispLineEnqueue
  /-- ISP_LINE_PROCESS (R224). -/
  | ispLineProcess
  /-- ISP_CONTROL_WRITE (R234). -/
  | ispControlWrite (p : Port) (v : BitVec 2)
  /-- ISP_CAPTURE_REQUEST (R245). -/
  | ispCaptureRequest (p : Port) (lines : BitVec 16)
  /-- ISP_REPROC_REQUEST (R246). -/
  | ispReprocRequest (p : Port) (lines : BitVec 16)
  /-- REPROCESS_RECORD (R246). -/
  | reprocessRecord
  /-- ISP_STAT_INFO_READ (R238). -/
  | ispStatInfoRead (p : Port)
  /-- AFE_OUTPUT_SAMPLE (R264). -/
  | afeOutputSample (m : Fin 8) (a b : Int × Int) (force i : Int)
  /-- EXCITATION_ZERO_CROSSING (R252). -/
  | excitationZeroCrossing (m : Fin 8)
  /-- SETTLING_END (R262). -/
  | settlingEnd (m : Fin 8)
  /-- CHARGE_RESET_INSTANT (R257). -/
  | chargeResetInstant (m : Fin 8) (charge : Int)
  /-- CHARGE_EARLY_RESET (R258). -/
  | chargeEarlyReset (m : Fin 8) (t : Nat) (charge : Int)
  /-- AFE_CONFIG_WRITE (R275). -/
  | afeConfigWrite (p : Port) (off : BitVec 14) (v : Word)
  /-- POLY_CONFIG_WRITE (R266). -/
  | polyConfigWrite (p : Port) (j : Fin 12) (v : Word)
  /-- FLT_PEAK_READ (R267). -/
  | fltPeakRead (p : Port) (j : Fin 12)
  /-- DETECTOR_RESTART (R267). -/
  | detectorRestart (p : Port) (j : Fin 12)
  /-- INTERLOCK_TRIP_CLEAR (R271). -/
  | interlockTripClear (p : Port)
  /-- ADC_CONTROL_WRITE (R280). -/
  | adcControlWrite (p : Port) (v : BitVec 5)
  /-- REFERENCE_READY (R280). -/
  | referenceReady
  /-- ADC_TIMER_TRIGGER (R281). -/
  | adcTimerTrigger
  /-- ADC_GO (R281). -/
  | adcGo (p : Port)
  /-- ADC_SEQUENCE_END (R283). -/
  | adcSequenceEnd (check bias : Int × Int) (volts : List (Int × Int))
  /-- ADC_COMMIT (R284). -/
  | adcCommit (p : Port)
  /-- ADC_SEQ_NUM_READ (R283). -/
  | adcSeqNumRead (p : Port)
  /-- OVER_START (R298). -/
  | overStart (rate : BitVec 16)
  /-- TRANSFER_GRANT (R299). -/
  | transferGrant (t port : Nat) (waiting : BitVec 32) (bad : Option (Fin 3))
  /-- BUDGET_COMMIT (R301). -/
  | budgetCommit (p : Port)
  /-- DCF_WRITE (R296). -/
  | dcfWrite (i : Fin 24) (data : BitVec 64)
  /-- DCF_READ (R296). -/
  | dcfRead (i : Fin 24) (parityFails : Bool)
  /-- ELEMENT_ERROR_REPORT (R306). -/
  | elementErrorReport (kind : Fin 4) (i : BitVec 12) (e : ElementError)
  /-- TILE_COPY_DONE (R307). -/
  | tileCopyDone (pos : BitVec 8) (failed : List (BitVec 15))
  /-- LINEUP_CHECK (R305). -/
  | lineupCheck (upsets : List (Fin 3 × Fin 512 × Word))
  /-- SCRUB_PASS (R306). -/
  | scrubPass (words : List (BitVec 9 × BitVec 10 × BitVec 10))
  /-- LINEUP_QUERY (R310). -/
  | lineupQuery (p : Port) (kind : BitVec 4) (i : BitVec 12)
  /-- RESELECTION_REQUEST (R314). -/
  | reselectionRequest (p : Port) (kind : BitVec 4) (i : BitVec 12)
  /-- RESELECTION_DONE (R314). -/
  | reselectionDone (r : SelectionRuns)
  /-- CALIBRATION_VOTE (R317). -/
  | calibrationVote (upsets : List (Fin 3 × Fin 27648 × Word))
  /-- CAL_EXPORT_START (R319). -/
  | calExportStart (p : Port)
  /-- CAL_EXPORT_COMPLETE (R319). -/
  | calExportComplete
  /-- CAL_IMPORT_START (R320). -/
  | calImportStart (by_ : Option Port) (d : BitVec 128) (read : Option (List Byte))
  /-- CAL_IMPORT_APPLY (R321). -/
  | calImportApply
  /-- THERMOMETER_WINDOW_END (R326). -/
  | thermometerWindowEnd (counts : List Nat)
  /-- UP_INTERVAL_END (R328). -/
  | upIntervalEnd
  /-- DOWN_INTERVAL_END (R328). -/
  | downIntervalEnd
  /-- GRACE_EXPIRY (R332). -/
  | graceExpiry
  /-- THM_STOP_DONE_WRITE (R332). -/
  | thmStopDoneWrite (by_ : Option Port)
  /-- THM_RETEST_WRITE (R330). -/
  | thmRetestWrite (p : Port) (v : BitVec 28)
  /-- REFERENCE_TRIM_UPDATE (R334). -/
  | referenceTrimUpdate
  /-- KEY_LOAD_OPERATION (R342). -/
  | keyLoadOperation (by_ : Option Port) (slot : Fin 4)
  /-- KEY_UNWRAP_OPERATION (R342). -/
  | keyUnwrapOperation (by_ : Option Port) (slot : Fin 4)
  /-- KEY_ZERO_OPERATION (R342). -/
  | keyZeroOperation (by_ : Option Port) (slot : Fin 4)
  /-- KEY_OP_INVALID (R342). -/
  | keyOpInvalid (by_ : Option Port) (slot : Fin 4)
  /-- KEY_OPERATION_DONE (R343). -/
  | keyOperationDone
  /-- SEC_CFG_PLAIN_OFF (R345). -/
  | secCfgPlainOff (by_ : Option Port)
  /-- SEC_CFG_KKEY_LOCK (R345). -/
  | secCfgKkeyLock (by_ : Option Port)
  /-- SEC_CFG_RESP_LOCK (R347). -/
  | secCfgRespLock (by_ : Option Port)
  /-- SEC_RESP_WRITE (R347). -/
  | secRespWrite (by_ : Option Port) (v : BitVec 18)
  /-- MESH_MISMATCH (R346). -/
  | meshMismatch (n : Nat) (driven read : BitVec 2)
  /-- CASE_OPEN (R346). -/
  | caseOpen (t : Nat)
  /-- VOLTAGE_GLITCH (R451). -/
  | voltageGlitch (t dur failed : Nat) (vcore vio : BitVec 12)
  /-- CLOCK_GLITCH (R346). -/
  | clockGlitch (t : Nat) (period : Option Nat)
  /-- INTERLOCK_INPUT_CHANGE (R351). -/
  | interlockInputChange (t : Nat) (a b : Bool)
  /-- INTERLOCK_HOLD_EXPIRY (R351). -/
  | interlockHoldExpiry
  /-- INTERLOCK_DISCREPANCY (R351). -/
  | interlockDiscrepancy
  /-- DISCREPANCY_CLEAR (R351). -/
  | discrepancyClear (by_ : Option Port)
  /-- PIN_MISMATCH (R354). -/
  | pinMismatch (t : Nat) (emitAct level : Bool)
  /-- PIN_MISMATCH_CLEAR (R354). -/
  | pinMismatchClear (by_ : Option Port) (released : Bool)
  /-- JTAG_INSTRUCTION_LOAD (R355). -/
  | jtagInstructionLoad (i : JtagInstr) (code : BitVec 8)
  /-- PORT_RESET (R359). -/
  | portReset (p : Port) (c : PortCause)
  /-- PORT_UP (R359). -/
  | portUp (p : Port)
  /-- BAR2_WRITE (R363). -/
  | bar2Write (off : BitVec 34) (bytes : List Byte)
  /-- POSSESSION_ACQUIRE (R364). -/
  | possessionAcquire (who : WhichPorts) (g : Fin 16)
  /-- POSSESSION_RELEASE (R365). -/
  | possessionRelease (p : Port) (g : Fin 16)
  /-- DMA_TAIL_WRITE (R369). -/
  | dmaTailWrite (p : Port) (q : Fin 32) (v : BitVec 16)
  /-- DMA_DESCRIPTOR_COMPLETE (R369). -/
  | dmaDescriptorComplete (p : Port) (q : Fin 32) (hostError : Bool)
  /-- DMA_ITEM_READY (R370). -/
  | dmaItemReady (p : Port) (q : Fin 32) (desc : BitVec 128)
  /-- DMA_QUEUE_ENABLE (R372). -/
  | dmaQueueEnable (p : Port) (q : Fin 32)
  /-- DMA_QUEUE_DISABLE (R372). -/
  | dmaQueueDisable (p : Port) (q : Fin 32)
  /-- DMA_QUEUE_RESET (R372). -/
  | dmaQueueReset (p : Port) (q : Fin 32)
  /-- EVENT_RING_ENABLE (R375). -/
  | eventRingEnable (p : Port) (log2 : BitVec 4)
  /-- EVENT_READ_INDEX_WRITE (R376). -/
  | eventReadIndexWrite (p : Port) (v : BitVec 16)
  /-- EVENT_TEST (R377). -/
  | eventTest (p : Port) (src : BitVec 8)
  /-- EVENT_MASK_WRITE (R469). -/
  | eventMaskWrite (p : Port) (w : Fin 8) (v : Word)
  /-- MAILBOX_COMMAND_SEND (R384). -/
  | mailboxCommandSend (p : Port) (k : Fin 4) (hdr : Word) (payload : List Word)
  /-- MAILBOX_REPLY_POST (R384). -/
  | mailboxReplyPost (p : Port) (k : Fin 4) (hdr : Word) (payload : List Word)
  /-- MAILBOX_TAKE (R385). -/
  | mailboxTake (p : Port) (k : Fin 4)
  /-- FIRMWARE_LOAD_GO (R393). -/
  | firmwareLoadGo (who : WhichPorts) (qa qb : Fin 32) (da db : BitVec 128)
  /-- FIRMWARE_LOAD_DONE (R393). -/
  | firmwareLoadDone (image : Option (List Byte))
  /-- WATCHDOG_EXPIRY (R395). -/
  | watchdogExpiry (t : Nat) (puf : Option (BitVec 384))
  /-- LOCKSTEP_MISMATCH (R395). -/
  | lockstepMismatch (puf : Option (BitVec 384))
  /-- LONG_COMMAND_COMPLETION (R388). -/
  | longCommandCompletion (p : Port) (k : Fin 4) (r : LongResult)
  /-- COMMAND_TIMEOUT (R416). -/
  | commandTimeout (p : Port) (k : Fin 4)
  /-- UNKNOWN_COMMAND (R405). -/
  | unknownCommand (p : Port) (k : Fin 4)
  /-- IDENTIFY (R411). -/
  | identify (p : Port) (k : Fin 4)
  /-- ECHO (R411). -/
  | echo (p : Port) (k : Fin 4)
  /-- RESTART (R412). -/
  | restart (p : Port) (k : Fin 4) (puf : Option (BitVec 384))
  /-- STATUS (R411). -/
  | status (p : Port) (k : Fin 4)
  /-- REG_WRITE (R413). -/
  | regWrite (p : Port) (k : Fin 4) (c : RearmChecks) (puf : Option (BitVec 384))
  /-- REG_READ (R413). -/
  | regRead (p : Port) (k : Fin 4)
  /-- SCAN_PROFILE (R414). -/
  | scanProfile (p : Port) (k : Fin 4)
  /-- COMMIT (R415). -/
  | commit (p : Port) (k : Fin 4)
  /-- LOOP_PROFILE (R413). -/
  | loopProfile (p : Port) (k : Fin 4)
  /-- SPIN_UP (R416). -/
  | spinUp (p : Port) (k : Fin 4)
  /-- RUN_START (R417). -/
  | runStart (p : Port) (k : Fin 4)
  /-- RUN_STOP (R416). -/
  | runStop (p : Port) (k : Fin 4)
  /-- RUN_ABORT (R416). -/
  | runAbort (p : Port) (k : Fin 4)
  /-- ARM (R418). -/
  | arm (p : Port) (k : Fin 4)
  /-- DISARM (R416). -/
  | disarm (p : Port) (k : Fin 4)
  /-- SPIN_DOWN (R416). -/
  | spinDown (p : Port) (k : Fin 4)
  /-- EMITTER_REARM (R416). -/
  | emitterRearm (p : Port) (k : Fin 4) (c : RearmChecks)
  /-- IMG_SETUP (R419). -/
  | imgSetup (p : Port) (k : Fin 4)
  /-- IMG_ENABLE (R419). -/
  | imgEnable (p : Port) (k : Fin 4)
  /-- CAPTURE (R419). -/
  | capture (p : Port) (k : Fin 4)
  /-- REPROCESS (R419). -/
  | reprocess (p : Port) (k : Fin 4)
  /-- ISP_SETUP (R419). -/
  | ispSetup (p : Port) (k : Fin 4)
  /-- CAL_EXPORT (R420). -/
  | calExport (p : Port) (k : Fin 4)
  /-- CAL_IMPORT (R420). -/
  | calImport (p : Port) (k : Fin 4) (d : BitVec 128) (read : Option (List Byte))
  /-- CAL_RESELECT (R420). -/
  | calReselect (p : Port) (k : Fin 4)
  /-- CAL_TARGET (R421). -/
  | calTarget (p : Port) (k : Fin 4)
  /-- SEND_OFF (R422). -/
  | sendOff (p : Port) (k : Fin 4)
  /-- ELEMENT_QUERY (R422). -/
  | elementQuery (p : Port) (k : Fin 4)
  /-- LINEUP_FACTORY (R422). -/
  | lineupFactory (p : Port) (k : Fin 4)
  /-- THERMAL_REPORT (R423). -/
  | thermalReport (p : Port) (k : Fin 4)
  /-- SET_FLOOR (R423). -/
  | setFloor (p : Port) (k : Fin 4)
  /-- RETEST (R423). -/
  | retest (p : Port) (k : Fin 4)
  /-- EMISSION_RESET (R423). -/
  | emissionReset (p : Port) (k : Fin 4)
  /-- KEY_LOAD (R424). -/
  | keyLoad (p : Port) (k : Fin 4)
  /-- KEY_UNWRAP (R424). -/
  | keyUnwrap (p : Port) (k : Fin 4)
  /-- KEY_ZERO (R424). -/
  | keyZero (p : Port) (k : Fin 4)
  /-- KEY_AGREE (R425). -/
  | keyAgree (p : Port) (k : Fin 4)
  /-- ATTEST (R426). -/
  | attest (p : Port) (k : Fin 4)
  /-- SET_LOCKS (R424). -/
  | setLocks (p : Port) (k : Fin 4)
  /-- SET_RESPONSE (R424). -/
  | setResponse (p : Port) (k : Fin 4)
  /-- SAFETY_CLEAR (R424). -/
  | safetyClear (p : Port) (k : Fin 4)
  /-- FAULT_FORCE (R424). -/
  | faultForce (p : Port) (k : Fin 4)
  /-- KERNEL_LOAD (R427). -/
  | kernelLoad (p : Port) (k : Fin 4) (d : BitVec 128) (image : Option (List Byte))
  /-- SERVE_NONCE (R424). -/
  | serveNonce (p : Port) (k : Fin 4)
  /-- NET_STATUS (R428). -/
  | netStatus (p : Port) (k : Fin 4)
  /-- TIME_SOURCE (R428). -/
  | timeSource (p : Port) (k : Fin 4)
  /-- SERVE_PHASE (R428). -/
  | servePhase (p : Port) (k : Fin 4)
  /-- SELF_TEST (R429). -/
  | selfTest (p : Port) (k : Fin 4)
  /-- FW_LOG (R429). -/
  | fwLog (p : Port) (k : Fin 4) (added : List (BitVec 64 × Word × Word))
  /-- NET_LINK (R432). -/
  | netLink (lane : Fin 4) (lock remoteFault : Bool)
  /-- GPTP_FRAME_RECEIVED (R436). -/
  | gptpFrameReceived (t : Nat) (lane : Fin 4) (m : GptpMsg)
  /-- FOREIGN_FRAME_DROP (R432). -/
  | foreignFrameDrop (lane : Fin 4) (fcsOk : Bool) (corr uncorr : BitVec 16)
  /-- TIME_STEP (R437). -/
  | timeStep (p : Port) (hi : Word)
  /-- PPS_IN_EDGE (R438). -/
  | ppsInEdge (t : Nat)
  /-- PPS_OUT_PULSE (R438). -/
  | ppsOutPulse
  /-- HELLO_SEND (R440). -/
  | helloSend
  /-- TIME_FRAME_SEND (R440). -/
  | timeFrameSend
  /-- HELLO_RECEIVED (R441). -/
  | helloReceived (t : Nat) (c : Fin 2) (serial : BitVec 64) (members : List (BitVec 64)) (quality : Fin 3) (master : BitVec 64) (hops : BitVec 4)
  /-- TIME_FRAME_RECEIVED (R442). -/
  | timeFrameReceived (t : Nat) (c : Fin 2) (t2 t3 : Int)
  /-- CHAIN_ALARM_RECEIVED (R440). -/
  | chainAlarmReceived (t : Nat) (c : Fin 2) (level : BitVec 2) (src : BitVec 8)
  /-- CHAIN_FRAME_CRC_ERROR (R440). -/
  | chainFrameCrcError (c : Fin 2)
  /-- CHAIN_LINK_TIMEOUT (R440). -/
  | chainLinkTimeout (c : Fin 2)
  /-- COORDINATION_APPLY (R441). -/
  | coordinationApply
  /-- CHAIN_MEMBER_RESET (R441). -/
  | chainMemberReset (p : Port)
  /-- NET_CONFIG_WRITE (R443). -/
  | netConfigWrite (p : Port) (w : Fin 22) (v : Word)
  /-- RAILS_AND_CLOCKS_GOOD (R449). -/
  | railsAndClocksGood (rails clocks : Nat)
  /-- FUSE_BANK_READ (R449). -/
  | fuseBankRead (bank : FuseBank) (parityOk : Bool)
  /-- THM_DOMAIN_RELEASE (R449). -/
  | thmDomainRelease
  /-- CORE_DOMAINS_RELEASE (R449). -/
  | coreDomainsRelease (puf : Option (BitVec 384)) (emon : Option DriverFlags)
  /-- PERST_N_RISE (R449). -/
  | perstNRise (p : Port)
  /-- PWR_DDR_READY (R449). -/
  | pwrDdrReady
  /-- RAIL_FAIL (R450). -/
  | railFail (t : Nat) (rails : BitVec 9) (vio : BitVec 12)
  /-- PWR_RESET_EMISSION (R453). -/
  | pwrResetEmission (p : Port)
  /-- EMISSION_DOMAIN_RELEASE (R453). -/
  | emissionDomainRelease (emon : Option DriverFlags)
  /-- PWR_RESET_MANAGEMENT (R453). -/
  | pwrResetManagement (p : Port) (puf : Option (BitVec 384))
  /-- PWR_RESET_FULL (R453). -/
  | pwrResetFull (p : Port)
  /-- PWR_RESET_REFUSED (R453). -/
  | pwrResetRefused (p : Port) (key : BitVec 8) (domain : BitVec 2)
  /-- HARD_RECOVERY_START (R455). -/
  | hardRecoveryStart
  /-- PWR_HARD_ACK (R455). -/
  | pwrHardAck (p : Port)
  /-- GLB_FRAME_READ (R465). -/
  | glbFrameRead (p : Port)
  /-- MISSED_SYNC_MEASUREMENT (R435). -/
  | missedSyncMeasurement (t : Nat)
  /-- CHAIN_TIME_FALLBACK (R435). -/
  | chainTimeFallback
  /-- PDELAY_REQ_SEND (R436). -/
  | pdelayReqSend
  /-- TAMPER_SOURCE_CLEARED (R346). -/
  | tamperSourceCleared (src : Fin 9) (t : Nat)
  /-- SPIN_UP_PHASE_MODE (R416). -/
  | spinUpPhaseMode (p : Port) (k : Fin 4)
  deriving DecidableEq, Repr

end Sys2Proof
end

