-- ==== Sys2Proof/Decode.lean ====
section
/-! DEFINITION. The command a word spells by the bits of the command table. The table gives no row of this block any bits (every row's
field list is empty), so no word spells a command. -/

namespace Sys2Proof

/-- The command that an instruction word of `nbits` bits spells: none, since the table gives no row bits. -/
def decodeTableWord (nbits w : Nat) : Option Instr :=
  match nbits, w with
  | _, _ => none

end Sys2Proof
end

