-- ==== Sys2Proof/Machine/Events.lean ====
section
/-! DEFINITION. The event sources by number (R20, R467) and the event group of each source (R466). -/

namespace Sys2Proof.Machine

/-- FW_STATE (R396). -/
def EV_FW_STATE : Nat := 0
/-- FW_LOAD_REFUSED (R393). -/
def EV_FW_LOAD_REFUSED : Nat := 1
/-- FRAME_SHORT (R30). -/
def EV_FRAME_SHORT : Nat := 2
/-- FRAME_LONG (R30). -/
def EV_FRAME_LONG : Nat := 3
/-- BLOCKED_WRITE (R361, R363). -/
def EV_BLOCKED_WRITE : Nat := 16
/-- POS_LOST (R365). -/
def EV_POS_LOST : Nat := 17
/-- PORT_DOWN (R359). -/
def EV_PORT_DOWN : Nat := 18
/-- PORT_UP (R359). -/
def EV_PORT_UP : Nat := 19
/-- DMA_DESC_ERROR (R369, R371). -/
def EV_DMA_DESC_ERROR : Nat := 20
/-- DMA_HOST_ERROR (R371). -/
def EV_DMA_HOST_ERROR : Nat := 21
/-- MBX_FULL (R404). -/
def EV_MBX_FULL : Nat := 22
/-- MBX_TAKEN (R385). -/
def EV_MBX_TAKEN : Nat := 23
/-- MBX_ABORTED (R386). -/
def EV_MBX_ABORTED : Nat := 24
/-- SHT_CFG_ERROR (R70, R73). -/
def EV_SHT_CFG_ERROR : Nat := 48
/-- LINE_OVERRUN (R29). -/
def EV_LINE_OVERRUN : Nat := 49
/-- EMT_PAT_SWAPPED (R77). -/
def EV_EMT_PAT_SWAPPED : Nat := 50
/-- EMT_PATTERN_ERROR (R77). -/
def EV_EMT_PATTERN_ERROR : Nat := 51
/-- EMT_CFG_ERROR (R77, R78, R80, R87, R89). -/
def EV_EMT_CFG_ERROR : Nat := 52
/-- EMT_CHAIN_OPEN (R86). -/
def EV_EMT_CHAIN_OPEN : Nat := 53
/-- EMT_EYE_LIMIT (R88). -/
def EV_EMT_EYE_LIMIT : Nat := 54
/-- EMITTER_FAULT (R91). -/
def EV_EMITTER_FAULT : Nat := 55
/-- EMT_REARM_REFUSED (R92). -/
def EV_EMT_REARM_REFUSED : Nat := 56
/-- FLD_LAMP_FAULT (R96). -/
def EV_FLD_LAMP_FAULT : Nat := 57
/-- DET_CFG_ERROR (R106, R121). -/
def EV_DET_CFG_ERROR : Nat := 80
/-- DET_SPAD_SENT_OFF (R109). -/
def EV_DET_SPAD_SENT_OFF : Nat := 81
/-- DET_BENCH_EMPTY (R110). -/
def EV_DET_BENCH_EMPTY : Nat := 82
/-- DET_BELOW_MIN (R110). -/
def EV_DET_BELOW_MIN : Nat := 83
/-- DET_TRIM_CLAMP (R115). -/
def EV_DET_TRIM_CLAMP : Nat := 84
/-- DET_HV_FAULT (R116). -/
def EV_DET_HV_FAULT : Nat := 85
/-- DET_LINK_ERROR (R117). -/
def EV_DET_LINK_ERROR : Nat := 86
/-- DET_COOL_SAT (R119). -/
def EV_DET_COOL_SAT : Nat := 87
/-- TDC_STOP_DROP (R127). -/
def EV_TDC_STOP_DROP : Nat := 88
/-- TDC_LANE_OVERFLOW (R143). -/
def EV_TDC_LANE_OVERFLOW : Nat := 89
/-- TDC_CAL_FAIL (R135). -/
def EV_TDC_CAL_FAIL : Nat := 90
/-- TDC_AMB_LOW (R138). -/
def EV_TDC_AMB_LOW : Nat := 91
/-- TDC_PERIOD_RANGE (R140). -/
def EV_TDC_PERIOD_RANGE : Nat := 92
/-- TDC_CFG_ERROR (R148). -/
def EV_TDC_CFG_ERROR : Nat := 93
/-- EVL_PARITY_ERROR (R142). -/
def EV_EVL_PARITY_ERROR : Nat := 94
/-- EVL_LOST (R145). -/
def EV_EVL_LOST : Nat := 95
/-- HST_CFG_ERROR (R166). -/
def EV_HST_CFG_ERROR : Nat := 112
/-- HST_POISON (R151). -/
def EV_HST_POISON : Nat := 113
/-- HST_SEQ_ERROR (R151). -/
def EV_HST_SEQ_ERROR : Nat := 114
/-- HST_BUFFER_LATE (R163). -/
def EV_HST_BUFFER_LATE : Nat := 115
/-- HST_TAP_DROP (R167). -/
def EV_HST_TAP_DROP : Nat := 116
/-- PNT_KERNEL_LOADED (R186). -/
def EV_PNT_KERNEL_LOADED : Nat := 117
/-- PNT_KERNEL_TRAP (R187). -/
def EV_PNT_KERNEL_TRAP : Nat := 118
/-- PNT_KERNEL_QUOTA (R187). -/
def EV_PNT_KERNEL_QUOTA : Nat := 119
/-- PNT_KERNEL_DISABLED (R187). -/
def EV_PNT_KERNEL_DISABLED : Nat := 120
/-- PNT_REPLAY (R175). -/
def EV_PNT_REPLAY : Nat := 121
/-- PNT_LINE_LOST (R175). -/
def EV_PNT_LINE_LOST : Nat := 122
/-- PNT_CFG_ERROR (R200). -/
def EV_PNT_CFG_ERROR : Nat := 123
/-- PNT_PKT_DROP (R199). -/
def EV_PNT_PKT_DROP : Nat := 124
/-- IMG_APPLIED (R218). -/
def EV_IMG_APPLIED : Nat := 144
/-- IMG_CFG_ERROR (R219, R222, R234). -/
def EV_IMG_CFG_ERROR : Nat := 145
/-- LINE_SHORT (R216). -/
def EV_LINE_SHORT : Nat := 146
/-- LINE_LONG (R216). -/
def EV_LINE_LONG : Nat := 147
/-- IMG_TRIG_MISSED (R210). -/
def EV_IMG_TRIG_MISSED : Nat := 148
/-- IMG_CONV_SENT_OFF (R212). -/
def EV_IMG_CONV_SENT_OFF : Nat := 149
/-- IMG_CONV_BENCH_EMPTY (R212). -/
def EV_IMG_CONV_BENCH_EMPTY : Nat := 150
/-- ISP_STATS_READY (R238). -/
def EV_ISP_STATS_READY : Nat := 151
/-- ISP_LINE_DROP (R235). -/
def EV_ISP_LINE_DROP : Nat := 152
/-- ISP_CAPTURE_DONE (R245). -/
def EV_ISP_CAPTURE_DONE : Nat := 153
/-- ISP_REPROC_DONE (R246). -/
def EV_ISP_REPROC_DONE : Nat := 154
/-- SCAN_LOCKED (R57). -/
def EV_SCAN_LOCKED : Nat := 176
/-- SCAN_UNLOCKED (R34, R57). -/
def EV_SCAN_UNLOCKED : Nat := 177
/-- CTL_WINNER (R43). -/
def EV_CTL_WINNER : Nat := 178
/-- CTL_COEF_LOCKED (R46). -/
def EV_CTL_COEF_LOCKED : Nat := 179
/-- CTL_CFG_ERROR (R40, R47). -/
def EV_CTL_CFG_ERROR : Nat := 180
/-- CTL_SP_CLAMP (R49). -/
def EV_CTL_SP_CLAMP : Nat := 181
/-- CTL_RC_FALLBACK (R53). -/
def EV_CTL_RC_FALLBACK : Nat := 182
/-- CTL_ENC_FAULT (R55). -/
def EV_CTL_ENC_FAULT : Nat := 183
/-- CTL_MOTOR_TRIP (R54). -/
def EV_CTL_MOTOR_TRIP : Nat := 184
/-- CTL_COOL_TRIP (R59). -/
def EV_CTL_COOL_TRIP : Nat := 185
/-- AFE_CFG_ERROR (R275). -/
def EV_AFE_CFG_ERROR : Nat := 200
/-- AFE_SENSOR_FAULT (R253, R255, R256). -/
def EV_AFE_SENSOR_FAULT : Nat := 201
/-- AFE_EARLY_RESET (R258). -/
def EV_AFE_EARLY_RESET : Nat := 202
/-- FLT_SWITCH (R270). -/
def EV_FLT_SWITCH : Nat := 203
/-- FLT_INTERLOCK_TRIP (R271). -/
def EV_FLT_INTERLOCK_TRIP : Nat := 204
/-- ADC_REF_READY (R280). -/
def EV_ADC_REF_READY : Nat := 205
/-- ADC_DISAGREE (R287). -/
def EV_ADC_DISAGREE : Nat := 206
/-- ADC_OVERRUN (R281). -/
def EV_ADC_OVERRUN : Nat := 207
/-- ADC_CFG_ERROR (R284). -/
def EV_ADC_CFG_ERROR : Nat := 208
/-- BGT_STARVE (R299). -/
def EV_BGT_STARVE : Nat := 216
/-- BGT_CFG_ERROR (R301). -/
def EV_BGT_CFG_ERROR : Nat := 217
/-- BGT_CAP_LOW (R302). -/
def EV_BGT_CAP_LOW : Nat := 218
/-- FAB_LOST (R297). -/
def EV_FAB_LOST : Nat := 219
/-- LNP_SENT_OFF (R307). -/
def EV_LNP_SENT_OFF : Nat := 220
/-- LNP_SUBSTITUTED (R307). -/
def EV_LNP_SUBSTITUTED : Nat := 221
/-- LNP_BENCH_EMPTY (R307). -/
def EV_LNP_BENCH_EMPTY : Nat := 222
/-- LINEUP_SPLIT (R305). -/
def EV_LINEUP_SPLIT : Nat := 223
/-- LNP_REPAIR (R305). -/
def EV_LNP_REPAIR : Nat := 224
/-- CAL_SPLIT (R317). -/
def EV_CAL_SPLIT : Nat := 225
/-- CAL_EXPORT_DONE (R319). -/
def EV_CAL_EXPORT_DONE : Nat := 226
/-- CAL_IMPORT_DONE (R321). -/
def EV_CAL_IMPORT_DONE : Nat := 227
/-- CAL_IMPORT_REFUSED (R320). -/
def EV_CAL_IMPORT_REFUSED : Nat := 228
/-- CAL_RESEL_DONE (R314). -/
def EV_CAL_RESEL_DONE : Nat := 229
/-- THM_WARN (R327). -/
def EV_THM_WARN : Nat := 232
/-- THM_RATE_WARN (R327). -/
def EV_THM_RATE_WARN : Nat := 233
/-- THM_THROTTLE (R328). -/
def EV_THM_THROTTLE : Nat := 234
/-- THM_CRITICAL (R332). -/
def EV_THM_CRITICAL : Nat := 235
/-- THM_STOP_TIMEOUT (R332). -/
def EV_THM_STOP_TIMEOUT : Nat := 236
/-- THM_SENSOR_FAIL (R330). -/
def EV_THM_SENSOR_FAIL : Nat := 237
/-- THM_CFG_ERROR (R336). -/
def EV_THM_CFG_ERROR : Nat := 238
/-- PWR_DDR_READY (R449). -/
def EV_PWR_DDR_READY : Nat := 239
/-- PWR_CFG_ERROR (R453). -/
def EV_PWR_CFG_ERROR : Nat := 240
/-- SEC_TAMPER (R347). -/
def EV_SEC_TAMPER : Nat := 244
/-- SEC_RED_CARD (R349). -/
def EV_SEC_RED_CARD : Nat := 245
/-- SEC_KEY_LOADED (R343). -/
def EV_SEC_KEY_LOADED : Nat := 246
/-- SEC_KEY_ERROR (R343). -/
def EV_SEC_KEY_ERROR : Nat := 247
/-- SEC_ID_FAIL (R340). -/
def EV_SEC_ID_FAIL : Nat := 248
/-- ILK_DISCREPANCY (R351). -/
def EV_ILK_DISCREPANCY : Nat := 249
/-- SEC_PIN_MISMATCH (R354). -/
def EV_SEC_PIN_MISMATCH : Nat := 250
/-- NET_LINK (R432). -/
def EV_NET_LINK : Nat := 251
/-- NET_SYNC (R435). -/
def EV_NET_SYNC : Nat := 252
/-- CHN_LINK (R440). -/
def EV_CHN_LINK : Nat := 253
/-- CHN_CONFLICT (R441). -/
def EV_CHN_CONFLICT : Nat := 254
/-- NET_CFG_ERROR (R443). -/
def EV_NET_CFG_ERROR : Nat := 255

/-- The first source of each event group (R466). -/
def groupStarts : List Nat := [0, 16, 48, 80, 112, 144, 176, 200, 216, 232, 244]

/-- The event group a source belongs to (R466). -/
def groupOf (src : Nat) : Nat := (groupStarts.filter (fun a => a ≤ src)).length - 1

end Sys2Proof.Machine
end

