-- ==== Sys2Proof/Config.lean ====
section
/-! DEFINITION. What an implementation fixes and the spec leaves open: constants without a body, so that nothing can be proved of
their values. -/

namespace Sys2Proof.Config

/-- The free values of the model: `free n` is the value of the n-th open value of a run, counted by `State.freeCount`. Every use
names its log entry. -/
opaque free : Nat → Nat

/-- The rate Priard's time servo chooses for an offset measurement in ns and the rate register as it stands (R435; log entry 21). -/
opaque rateServo : Int → Nat → Int

/-- The vendor's loop profile that Priard writes when it starts: the word of a register of a loop slot, by slot and by the register's
offset within the slot's block (R63 gives no values; log entry 59). -/
opaque vendorProfile : Nat → Nat → BitVec 32

end Sys2Proof.Config
end

