-- ==== Sys2Proof/Machine/State.lean ====
section
/-! DEFINITION. The state of the block as plain data: the registers of the spec by their place, the values latched from shadow
registers, and, block by block, what the spec gives the machine beside its registers; the commands that wait; faults and refusals;
the state after reset. -/

namespace Sys2Proof.Machine

/-- What a read of a register or of BAR2 answers (R17, R359, R360). -/
inductive Completion where
  /-- The value read. -/
  | data (w : Word)
  /-- Unsupported Request status (R359, R360). -/
  | unsupported
  /-- Configuration Request Retry Status (R359). -/
  | retry
  /-- The access asked for no value. -/
  | none
  deriving DecidableEq, Repr

/-- What the block posts into host memory or sends to a host: descriptor completions and buffers (R369, R370), event ring
entries (R374), MSI-X vectors (R369, R376). Host memory lies outside the block: the posts are listed in order. -/
inductive HostMsg where
  | write (port : Nat) (addr : Nat) (data : List Byte)
  | msix (port : Nat) (vector : Nat)
  deriving DecidableEq, Repr

/-- A frame the block sends on an Ethernet lane (R433, R436), a chain link (R440) or the emitter current bus (R79). The bytes of gPTP
and chain frames lie outside the spec: what they carry is listed. -/
inductive WireFrame where
  | ecb (frame : BitVec 32)
  | ethernet (lane : Nat) (data : List Byte)
  | gptp (lane : Nat) (kind : Nat) (ns : Int)
  | hello (link serial : Nat) (members : List Nat) (quality : Nat)
  | time (link ns : Nat)
  | alarm (link level src ns : Nat)
  deriving DecidableEq, Repr

/-- A raised source waiting to be logged at the end of the step (R373), with its INFO word where one is given (R374). -/
structure Raised where
  src : Nat
  info : Option Word
  deriving DecidableEq, Repr

/-- The state of one host port that is not a register (R359, R17). -/
structure PortState where
  /-- From PORT_DOWN until PORT_UP. -/
  down : Bool
  linkDown : Bool
  perstLow : Bool
  d3hot : Bool
  /-- The tick at which the 10 µs of the reset in progress end. -/
  resetUntil : Nat
  /-- High halves and partners latched by a read of a low half (R17, R218, R465), by their key. -/
  latches : List (Nat × Word)
  /-- The statistics set selected by ISP_STAT_INFO (R238): its frame number. -/
  statSel : Option Nat
  /-- The result set selected by ADC_SEQ_NUM (R283): its sequence number. -/
  adcSel : Option Nat
  /-- What the last read answered. -/
  answer : Completion
  /-- Entries of the event ring were dropped before the next one (R375). -/
  lostPending : Bool
  /-- Event groups of the entries of the ring not yet freed, oldest first (R376). -/
  entries : List Nat
  deriving DecidableEq, Repr

/-- An item a producer holds ready for a device-to-host queue (R370). -/
structure DmaItem where
  port : Nat
  queue : Nat
  /-- 0 the packet assembler (R199), 1 the histogram tap (R167), 2 the calibration store (R319). -/
  producer : Nat
  data : List Byte
  deriving DecidableEq, Repr

/-- A descriptor taken by a queue, with the item it carries (R369). -/
structure DmaBusy where
  item : DmaItem
  addr : Nat
  length : Nat
  irq : Bool
  deriving DecidableEq, Repr

/-- DMA state beside the registers (R367 to R372). -/
structure DmaState where
  ready : List DmaItem
  /-- By 32 · port + queue. -/
  busy : List (Nat × DmaBusy)
  /-- Queues whose RESET waits for the item in progress (R372). -/
  resetWaiting : List Nat
  /-- Host-to-device queues of which a consumer holds a descriptor: the item in progress (R370, R372). -/
  consuming : List Nat
  deriving DecidableEq, Repr

/-- A command that Priard has taken and whose reply waits for an event (R388, R408). -/
structure LongCmd where
  port : Nat
  mbx : Nat
  tag : Nat
  code : Nat
  args : List Word
  /-- The port was reset since the command was taken, so its reply is discarded (R386). -/
  orphan : Bool
  /-- 0 the event is awaited; 1 it has occurred; 2 a fault ended the command; 3 a block refused it; 4 it was superseded. -/
  phase : Nat
  /-- The tick at which the command was taken. -/
  since : Nat
  /-- What the command keeps: what it awaits a change of, then what the event brought. -/
  notes : List Nat
  deriving DecidableEq, Repr

/-- Mailboxes and Priard beside the registers of R402 and R403. -/
structure FwState where
  /-- Order of the header writes (R388), by 4 · port + k; 0: none. -/
  stamps : List (Nat × Nat)
  nextStamp : Nat
  /-- Outbound mailboxes whose command was taken and not yet answered (R388), by 4 · port + k. -/
  unanswered : List Nat
  longs : List LongCmd
  /-- A load runs: the port it was taken from, the queue, and the descriptor's LENGTH and IRQ (R393). -/
  loading : Option (Nat × Nat × Nat × Bool)
  /-- The tick of the GO of that load (R393). -/
  loadAt : Nat
  /-- Priard's log (R429): device time in ns, code, detail, oldest first. -/
  log : List (BitVec 64 × Word × Word)
  /-- Frame number when the last run ended or began. -/
  lastRunFrame : Nat
  deriving DecidableEq, Repr

/-- The power-and-reset controller (R446 to R455). -/
structure PwrState where
  thmInReset : Bool
  coreInReset : Bool
  emissionInReset : Bool
  mgmtInReset : Bool
  portInReset : List Bool
  fuseOk : Bool
  ddrReady : Bool
  /-- A HARD is recorded and not acknowledged (R455). -/
  hard : Bool
  /-- The steps of the power-on sequence done: 0 waiting for rails and clocks, 1 t0 reached, 2 fuse bank read, 3 THM
  released, 4 all released; 5: stopped by a fuse parity failure or a HARD shutdown (R449, R455). -/
  seq : Nat
  /-- t0 of the sequence in progress, in ticks. -/
  t0 : Nat
  /-- Rails good, in the order of R457. -/
  railOk : BitVec 9
  /-- The fuse bank as the fuse step read it (R449, R448). -/
  fuses : FuseBank
  /-- The tick at which the 100 µs of an emission-domain reset end (R453); the last tick at which a reading of the HARD recovery
  stood too high, or that of the HARD itself (R455). -/
  emissionUntil : Nat
  hardAt : Nat
  /-- A HARD shutdown waits for its recovery (R455). -/
  hardWaiting : Bool
  /-- The source of a red card decided while the emission domain was in reset (R454). -/
  redAtRelease : Option Nat
  deriving DecidableEq, Repr

/-- The line grid and the frame in progress (R14, R23 to R30). -/
structure GridState where
  /-- A line grid runs: facet indices arrive (R58). -/
  running : Bool
  /-- A frame is in progress: from an ENC3 edge with scanner lock to its close (R30, R34, R58, R72, R113). -/
  sweep : Bool
  /-- That frame emits: the chain was whole at its start (R86). -/
  frameOpen : Bool
  linesStarted : Nat
  linesDelivered : Nat
  linesNotRun : Nat
  overruns : Nat
  /-- The tick of the last line start of the grid. -/
  lineStart : Nat
  /-- A line is in progress. -/
  lineOpen : Bool
  facet : Nat
  /-- Channel-lines of STATUS DARK or DET_OFF in the last line (R398). -/
  darkLast : Bool
  /-- The duration of the line in progress runs: it ends at the next line start (R113). -/
  lineTimed : Bool
  deriving DecidableEq, Repr

/-- A control law's states (R42, R48), for a loop slot, a lamp of slot 5 or the d axis of slot 3. -/
structure LoopState where
  closed : Bool
  /-- The first sample after a close or a mode change preloads the integrator (R45). -/
  preload : Bool
  spNow : Rat
  spRate : Rat
  yPrev : Int
  yGood : Int
  err : Int
  i : Int
  d : Int
  v : Int
  u : Int
  tagged : Bool
  /-- The target is clamped by the limits in force (R49). -/
  clamped : Bool
  deriving DecidableEq, Repr

/-- A plant's output and winner (R43). -/
structure PlantState where
  out : Int
  winner : Nat
  slewing : Bool
  /-- The output at the instant its principal slot opened (R44). -/
  held : Int
  /-- A trip forced the output to 0 until the slot closes again (R59). -/
  forced0 : Bool
  deriving DecidableEq, Repr

/-- The control engine (R39 to R65). -/
structure CtlState where
  slots : List (Nat × LoopState)
  lamps : List (Nat × LoopState)
  dAxis : LoopState
  poly : PlantState
  cool : PlantState
  /-- Outputs of slot 3: q and d axis. -/
  outQ : Int
  outD : Int
  /-- The phase outputs P46 to P48 are held low (R54, R55). -/
  phasesLow : Bool
  rcCell : Nat
  rcSum : Int
  rcCount : Nat
  rcOk : Bool
  satStreak : Nat
  /-- The second condition of R53 holds the fallback. -/
  fallback : Bool
  /-- ENABLE has been written to 0 with slot 0 open since the fallback (R53). -/
  fallbackArmed : Bool
  encA : Bool
  encB : Bool
  /-- Quadrature count since the last ENC2 edge; the angle. -/
  count : Int
  /-- Quadrature count at the last ENC3 edge. -/
  countAtFacet : Int
  facetEdges : Nat
  angleValid : Bool
  revClean : Bool
  lockStreak : Nat
  unlockStreak : Nat
  /-- Reference phase in facets (R56). -/
  refPhase : Rat
  phaseValid : Bool
  lastSampleT : Nat
  /-- The latest FRAME_SYNC_IN edge (R56, R439). -/
  fsyncT : Option Nat
  /-- The latest quadrature edge, timestamped to 1 ns, and the interval before it, in ticks; 0 while there is none (R55, R58). -/
  edgeAt : Nat
  edgeGap : Nat
  /-- The instant fixed for the next line start (R58). -/
  nextLine : Option Nat
  /-- On-times of the high-side outputs P46, P47, P48 in the PWM period, in cycles of 10 ns (R54). -/
  duty : List Nat
  /-- Outputs of the slots that drive a GPIO pin, by slot (R61). -/
  gpio : List (Nat × Int)
  /-- The last instant at which the slots sampled, in ticks (R39). -/
  sampled : Option Nat
  deriving DecidableEq, Repr

/-- The slot set up or open in the line in flight (R75). -/
structure SlotInFlight where
  slot : Nat
  kind : Nat
  /-- S, in ticks. -/
  start : Nat
  offset : Nat
  rows : BitVec 16
  cols : BitVec 12
  profile : Nat
  idle : Bool
  started : Bool
  emitted : Bool
  deriving DecidableEq, Repr

/-- The shot sequencer (R68 to R75). -/
structure ShtState where
  /-- The pending set's MODE and the tick of its commit (R68, R26). -/
  pending : Option (Bool × Nat)
  /-- The set that a commit left pending. -/
  staged : List (Nat × Word)
  startPending : Option Nat
  newCount : Option Nat
  stopAtEnd : Bool
  /-- R73 ended the run: no slot is launched. -/
  barred : Bool
  nextSlot : Nat
  /-- A slot of this line was not launched, so no later one is (R31). -/
  cut : Bool
  /-- Starts of the slots that the line launches, from the line start in ticks (R31). -/
  plan : List Nat
  /-- The idle slot of this line (R33). -/
  idleSlot : Option Nat
  lineCount : Nat
  flight : Option SlotInFlight
  /-- Slot 0 of the next line, set up before that line's start (R75). -/
  prepared : Option SlotInFlight
  /-- The key the sequencer took at the last frame start, empty for none (R82, R344). -/
  serveKey : List Byte
  deriving DecidableEq, Repr

/-- What drives the emitters (R75, R482): the column enables and the profile on ECB_SEL of the slot set up last, the rows that fire, and the
ticks of the trigger edges and of the release of the columns; none while that is not fixed. -/
structure RowDrive where
  cols : BitVec 12
  sel : Nat
  rows : BitVec 16
  rise : Nat
  fall : Nat
  release : Option Nat
  deriving DecidableEq, Repr

/-- The emitter matrix: pattern banks, current bus, accountant, monitor and re-arm (R76 to R92). -/
structure EmtState where
  /-- Two banks of 256 entries of 8 words: word 2048 · bank + 8 · entry + j. -/
  patterns : List (Nat × Word)
  activeBank : Nat
  /-- A swap is requested; its SYNC, whether the check has passed, and the tick from which a sync event counts. -/
  swap : Option (Nat × Bool × Nat)
  /-- The FRAME_SYNC_IN edge of SYNC 2 has come (R77). -/
  swapEdge : Option Nat
  flagsWaiting : Bool
  /-- Energy in sub-bin b of window w for emitter e (0 to 191) or row r (192 + r): key (65 · w + b) · 256 + e (R87). -/
  eye : List (Nat × Nat)
  /-- The current sub-bin of each window. -/
  eyePos : List Nat
  /-- The tick at which the current sub-bin of each window ends (R87). -/
  eyeEnd : List Nat
  limitRaised : Bool
  /-- Instants of emissions whose EMON_PD pulse is expected, and whether it has come (R75, R91). -/
  expected : List (Nat × Bool)
  rearmAt : Option Nat
  /-- EMON_FLT_N as last seen: it is low (R91). -/
  emonLow : Bool
  drive : RowDrive
  /-- The current codes sent to the drivers by the last commit, profile by profile and row by row (R80). -/
  codes : List (BitVec 10)
  /-- EMT_CHAIN's terms as the last step left them (R86). -/
  terms : BitVec 8
  redCard : Bool
  deriving DecidableEq, Repr

/-- The flood lamps (R93 to R98), by lamp. -/
structure FldState where
  /-- The density last computed by slot 5. -/
  computed : List (Nat × Nat)
  openRun : List (Nat × Nat)
  /-- Consecutive edges with a stuck readback; and, by 8 · lamp + neighbour, with a differing neighbour. -/
  stuckRun : List (Nat × Nat)
  pinRun : List (Nat × Nat)
  /-- The tick at which the period in progress began (R94), and the levels of the drives at the end of the one before. -/
  periodAt : Nat
  before : BitVec 8
  /-- On-group samples since the last sample of slot 5, by lamp: their sum and their number (R101). -/
  sense : List (Nat × (Nat × Nat))
  /-- By lamp, the first group of the period not yet sampled, and the first whose edge has not been read back (R93, R96). -/
  toSample : List (Nat × Nat)
  toRead : List (Nat × Nat)
  deriving DecidableEq, Repr

/-- A key operation in progress while SEC_KEY_STATUS.BUSY is 1 (R342). -/
structure KeyOp where
  /-- 0 LOAD, 1 UNWRAP. -/
  op : Nat
  slot : Nat
  material : List Byte
  /-- The tick of the command. -/
  start : Nat
  /-- A later command was refused while this one ran: ERROR keeps that command's code (R343). -/
  passed : Bool
  deriving DecidableEq, Repr

/-- The security block beside its registers (R338 to R356). -/
structure SecState where
  /-- Key material in force, by slot (R341). -/
  keys : List (Nat × List Byte)
  /-- Pending keys of slots 0 and 1 (R344). -/
  pendingKeys : List (Nat × List Byte)
  /-- SEC_KEY_DATA as written; the registers read 0 (R342). -/
  keyData : List (Nat × Word)
  busyOp : Option KeyOp
  /-- The identity private key (R340); 0: none. -/
  idKey : Nat
  /-- The first image load since the CORE release has begun (R339). -/
  minSvnClosed : Bool
  /-- Tamper sources that stand (R346). -/
  standing : List Nat
  /-- The tick at which the mesh detector was armed (R346, R488). -/
  meshAt : Nat
  /-- The land TAMP_CASE_N: the tick since when it is high (R346). -/
  caseHigh : Option Nat
  /-- Lands ILK_A and ILK_B (R351). -/
  ilkA : Bool
  ilkB : Bool
  /-- Since when the lands permit, and since when they agree in level (R351). -/
  ilkSince : Option Nat
  agreeSince : Option Nat
  permitting : Bool
  discrepancy : Bool
  pinMismatch : Bool
  /-- Levels read back at EMIT_ACT and FAULT when an outside driver holds them (R354). -/
  emitHeld : Option Bool
  faultHeld : Option Bool
  /-- Since when EMIT_ACT and FAULT differ from their drive, while the check of R354 runs. -/
  emitDiffers : Option Nat
  faultDiffers : Option Nat
  /-- JTAG instruction register (R355). -/
  jtag : JtagInstr
  deriving DecidableEq, Repr

/-- One thermometer (R326, R330). -/
structure Therm where
  started : Bool
  /-- The reading over the full span, 1/256 °C; the substituted reading while failed. -/
  reading : Int
  lastValid : Option Int
  lastCount : Nat
  /-- Consecutive windows with an identical count. -/
  same : Nat
  /-- Readings of the last second, newest first (4,000 windows). -/
  history : List Int
  critRun : Nat
  hardRun : Nat
  /-- Windows of a retest in progress (R330), and whether it has seen a fault. -/
  retest : Option Nat
  retestBad : Bool
  /-- Change of the reading in the last window and in the one before (R346 TEMP_STEP). -/
  delta : Int
  deltaPrev : Int
  rateWarnAt : Option Nat
  deriving DecidableEq, Repr

/-- The thermal manager beside its registers (R325 to R334). -/
structure ThmState where
  therms : List (Nat × Therm)
  /-- The step decided, which takes effect at the next line start (R328). -/
  stepNext : Nat
  /-- The ticks from which the UP and the DOWN interval in progress count (R328). -/
  upFrom : Option Nat
  downFrom : Option Nat
  rateStepAt : Option Nat
  /-- The tick at which the grace period of R332 began, while it runs. -/
  grace : Option Nat
  /-- The ticks of the last window's end and of the last trim of the reference buffer (R326, R334). -/
  windowAt : Nat
  trimAt : Nat
  deriving DecidableEq, Repr

/-- What the block knows of a chain neighbour (R440 to R442). -/
structure ChainLink where
  up : Bool
  /-- Good HELLO frames since the link was last down (R440). -/
  hellos : Nat
  /-- The best time master the neighbour announces: quality (2 gPTP, 1 PPS_IN, 0 free-running), serial number, hops. -/
  quality : Nat
  masterSerial : Nat
  hops : Nat
  /-- The tick of the last good frame (R440). -/
  goodAt : Nat
  /-- Device time in ns at which the last TIME frame left (R440). -/
  sentNs : Option Nat
  deriving DecidableEq, Repr

/-- Ethernet, chain links and time beside their registers (R431 to R444). -/
structure NetState where
  /-- Transmitting lanes, taken at each frame start (R434). -/
  lanes : List Nat
  ipIdent : Nat
  /-- Measurements in a row within ±100 ns (R435). -/
  goodRun : Nat
  /-- The last accepted PPS_IN edge, in ticks (R438). -/
  lastPps : Option Nat
  /-- The tick of the last measurement against the source, and that since when SYNCED is 0 (R435). -/
  measAt : Option Nat
  unsyncedAt : Nat
  /-- The ticks of the last HELLO and TIME frames sent (R440). -/
  helloAt : Nat
  timeAt : Nat
  /-- The whole second of device time of the last PPS_OUT pulse (R438). -/
  ppsSecond : Nat
  /-- P83 is high until this tick. -/
  ppsUntil : Nat
  /-- P85 is high until this tick. -/
  fsyncUntil : Nat
  /-- The receive time of the last two-step Sync, in ns (R436). -/
  syncRx : Option Nat
  /-- Times of the last Pdelay_Req sent, and of its answer received; peer delay in ns (R436). -/
  pdelayTx : Option Int
  pdelayRx : Option (Int × Int)
  peerDelay : Int
  link0 : ChainLink
  link1 : ChainLink
  /-- Serial numbers of the member set, rising (R441). -/
  members : List Nat
  /-- The set has changed: the whole second of device time, in ns, at which coordination is due (R441). -/
  coordDue : Option Nat
  /-- Coordinated values waiting for a frame start: HEAD_ID, PHASES_LOG2 (PHASE = HEAD_ID). -/
  coordLatch : Option (Nat × Nat)
  deriving DecidableEq, Repr

/-- A channel's macropixel (R106 to R115). -/
structure DetChan where
  /-- The enable mask in force (R106, R107). -/
  mask : BitVec 48
  /-- Host masks accepted and not yet in force, oldest first, with the tick from which a line start takes them. -/
  waiting : List (BitVec 48 × Nat)
  /-- The tick from which a line start takes the send-offs decided (R109). -/
  repairFrom : Option Nat
  /-- SPADs whose send-off was decided and is not yet in force (R109). -/
  pendingOff : BitVec 48
  belowMin : Bool
  depth : Nat
  /-- The thresholds counted as exceeded (R114). -/
  overTh : BitVec 5
  trim : Nat
  /-- Detections of the line in progress, and of the frame's lines that have ended (R113). -/
  amb : Nat
  ambFrame : Nat
  /-- Detections within the last W ticks: SPAD and tick (R111, R112). -/
  recent : List (Nat × Nat)
  lastStop : Option Nat
  /-- SPADs dead, with the tick at which each recovers (R111). -/
  dead : List (Nat × Nat)
  /-- SPADs found screaming in the last sweep (R109). -/
  screaming : BitVec 48
  deriving DecidableEq, Repr

/-- Settings of the detector chapter as the detector last received them (R117). -/
structure DetKept where
  enable : Bool
  window : Nat
  holdoff : Nat
  deriving DecidableEq, Repr

/-- A stop on its stop link: channel, instant, depth so far and pile flag (R112). -/
structure StopEdge where
  channel : Nat
  tick : Nat
  depth : Nat
  pile : Bool
  deriving DecidableEq, Repr

/-- The detector die (R103 to R119). -/
structure DetState where
  /-- The settings the detector keeps while the detector link has failed (R117); none while they follow the registers. -/
  kept : Option DetKept
  chans : List (Nat × DetChan)
  stops : List StopEdge
  /-- Rates of the sweep in progress, by 48 · n + s, in thousand detections per second (R108). -/
  rates : List (Nat × Rat)
  /-- The next frame start is the first after ENABLE was set (R114). -/
  firstFrame : Bool
  /-- DET_TRIM_CLAMP was raised in this frame (R115). -/
  clampRaised : Bool
  /-- Bias readings in a row outside the window; whether a reading exists (R116). -/
  hvBad : Nat
  hvSeen : Bool
  /-- The tick from which the next period of the survey counts, and that at which the step in progress began (R108). -/
  surveyAt : Nat
  stepAt : Nat
  /-- Replays of the frame on the detector link (R117). -/
  replays : Nat
  /-- Since when the controlled temperature is within the band, and since when the output is at a limit (R119). -/
  atSpSince : Option Nat
  satSince : Option Nat
  /-- Sum of the durations of the frame's lines that have ended (R113). -/
  durSum : Nat
  deriving DecidableEq, Repr

/-- A formed read word of an event lane (R141): its halfwords with their parity failures, and the sideband. -/
structure ReadWord where
  halves : List (BitVec 16 × Bool)
  sop : Bool
  eop : Bool
  deriving DecidableEq, Repr

/-- A lane's set for a line (R131): period in 2^-16 tick, skew in 1/16 tick, and the words of its table that differ from the
nominal table, by word number. -/
structure LaneSet where
  period : Nat
  skew : Int
  table : List (Nat × Word)
  valid : Bool
  deriving DecidableEq, Repr

/-- A TDC lane with its event lane and the consumer's input context (R123 to R145). -/
structure Lane where
  openWin : Bool
  slot : Nat
  line6 : Nat
  /-- The window's stops come from the random-edge generator (R129). -/
  gen : Bool
  /-- First window of its line (R132). -/
  first : Bool
  start : Nat
  closeAt : Nat
  taken : Nat
  overflow : Bool
  countLimit : Bool
  busyDrop : Bool
  spacingDrop : Bool
  lastTaken : Option Nat
  /-- Instants at which the busy fast oscillators are free again (R126). -/
  osc : List Nat
  /-- S of the line's first window, whose measurement is awaited (R132). -/
  refStart : Nat
  measDue : Bool
  /-- Reference stop A, the tries made for it, and reference stop B with the tries made and the latest edge found free (R132). -/
  refA : Option Nat
  refTries : Nat
  refB : Option Nat
  bTries : Nat
  bFree : Option Nat
  /-- Generator edges placed in the window, and the last one (R138). -/
  genCount : Nat
  lastGen : Option Nat
  /-- The output stage had no room for the window's OPEN (R143). -/
  noItem : Bool
  /-- Stamps in the output stage whose DEPTH may still grow: the stop's tick and the place of word 1 (R112). -/
  grow : List (Nat × Nat)
  /-- The output stage (R143). -/
  out : List (BitVec 16)
  forming : List (BitVec 16 × Bool)
  /-- The next halfword begins an item. -/
  newItem : Bool
  fifo : List ReadWord
  /-- The item the consumer has begun to read, and the complete items in its input context. -/
  partialItem : List (BitVec 16 × Bool)
  items : List (List (BitVec 16 × Bool))
  resetAt : Option Nat
  /-- Code-density counts of the two runs of a pair (R135), and whether the second is collected. -/
  runA : List (Nat × Nat)
  runB : List (Nat × Nat)
  second : Bool
  edges : Nat
  tableNext : Option (List Nat)
  /-- Valid measurements of period and skew since the last VTRIM step, newest first, at most 8 (R133). -/
  meas : List (Rat × Rat)
  /-- Ambient edges of the last second: tick and count (R138). -/
  ambient : List (Nat × Nat)
  /-- Lines until VTRIM may move again (R139). -/
  vtrimHold : Nat
  /-- Codes by which VTRIM rose at the start of the line in progress (R131). -/
  step : Int
  /-- The line's own measurement is awaited (R131). -/
  ownDue : Bool
  /-- Consecutive lines outside the band at the trim limit (R140). -/
  rangeRun : Nat
  deriving DecidableEq, Repr

/-- A read word of calibration returns on its way from a histogram engine to a lane (R134, R294): the fine codes of one shot, as generator or
as ambient edges. -/
structure CalReturn where
  lane : Nat
  codes : List Nat
  generated : Bool
  deriving DecidableEq, Repr

/-- The TDC block (R123 to R149). -/
structure TdcState where
  lanes : List (Nat × Lane)
  /-- Calibration returns, oldest first: the first two read words of a lane stand in its FIFO, a third waits in its engine (R294). -/
  returns : List CalReturn
  /-- Events raised in this frame: TDC_STOP_DROP, TDC_LANE_OVERFLOW, EVL_PARITY_ERROR (R127, R143, R142). -/
  dropRaised : Bool
  overflowRaised : Bool
  parityRaised : Bool
  deriving DecidableEq, Repr

/-- A dual-clock FIFO's entries, oldest first: data and poison (R295). -/
structure Dcf where
  entries : List (BitVec 64 × Bool)
  deriving DecidableEq, Repr

/-- The budget unit and the FIFOs between islands (R291 to R302). -/
structure BgtState where
  /-- The pending set (R301). -/
  staged : Option (List (Nat × Word))
  /-- Spend of the over in progress, by class. -/
  spend : List (Nat × Nat)
  /-- Since when a class's request waits at a port: 32 · port + class (R299). -/
  waiting : List (Nat × Nat)
  /-- The class granted last at a port, in a rank. -/
  lastGrant : List (Nat × Nat)
  overStart : Nat
  capLowAt : Option Nat
  dcfs : List (Nat × Dcf)
  deriving DecidableEq, Repr

/-- A change of the map that waits for its changeover (R307, R308). -/
structure LineupChange where
  kind : Nat
  index : Nat
  /-- The bench element that takes over, where there is one. -/
  sub : Option Nat
  chans : List Nat
  /-- Line starts still to come. -/
  left : Nat
  /-- A WORK or SYSTEM tile's position, which changes over when its contents are copied. -/
  copying : Option Nat
  deriving DecidableEq, Repr

/-- The lineup (R303 to R308). -/
structure LnpState where
  /-- Words of the map in force that differ from the factory default. -/
  map : List (Nat × Word)
  /-- The three copies, as what differs from the factory default. -/
  copies : List (List (Nat × Word))
  changes : List LineupChange
  /-- Transient errors and replays of an element: 4096 · kind + index, and the tick (R306). -/
  errors : List (Nat × Nat)
  replays : List (Nat × Nat)
  /-- Channels DARK since a changeover (R32). -/
  dark : List Nat
  query : Nat × Nat
  /-- The ticks of the last check of the copies and of the last scrub pass (R305, R306). -/
  checkAt : Nat
  scrubAt : Nat
  deriving DecidableEq, Repr

/-- A shot record posted to the histogram engines (R74). -/
structure ShotRec where
  seq : Nat
  /-- The line it belongs to, in the order lines started. -/
  lineSeq : Nat
  frame : Nat
  line : Nat
  slot : Nat
  kind : Nat
  offset : Nat
  rows : BitVec 16
  cols : BitVec 12
  idle : Bool
  deriving DecidableEq, Repr

/-- A line as the histogram engines, point engines and packets hold it. -/
structure HstLine where
  frame : Nat
  line : Nat
  /-- Device time of the line start, in 2^-48 ns. -/
  time : Nat
  /-- Every setting in force at its start (R165, R194, R68). -/
  cfg : List (Nat × Word)
  hstGen : Nat
  shtGen : Nat
  /-- Coarse slots and slots of the program; slots posted so far. -/
  coarseTotal : Nat
  slotTotal : Nat
  posted : Nat
  coarsePosted : Nat
  /-- No further slot is launched in this line. -/
  launchEnded : Bool
  /-- The picker takes the mean of the same line (R154). -/
  fresh : Bool
  throttle : Nat
  /-- Byte 43 of a LINE packet (R196): an idle slot, LINE_OVERRUN, lock lost in this line. -/
  idle : Bool
  overrun : Bool
  lockLost : Bool
  /-- DET_COLOUR_LINES in force (R240), 1/16 image line. -/
  colourOfs : Int
  deriving DecidableEq, Repr

/-- A stamp of a zoom shot as the engine holds it (R159, R161): t′ in 1/256 tick, PILE, fine code and DEPTH. -/
structure HeldStamp where
  time : Int
  pile : Bool
  fine : Nat
  depth : Nat
  deriving DecidableEq, Repr

/-- A run of the coarse histogram (R155). -/
structure PickRun where
  b1 : Nat
  b2 : Nat
  weight : Nat
  veil : Bool
  deriving DecidableEq, Repr

/-- A channel-line: what the engines hold of one channel in one line (R150 to R163, R172 to R192). -/
structure ChanLine where
  /-- 0 coarse pass, 1 coarse complete, 2 windows placed, 3 fine pass complete, 4 collected, 5 chain run, 6 colour joined. -/
  stage : Nat
  lane : Nat
  engine : Nat
  set : LaneSet
  /-- The period and skew measured in the line's own first window are awaited (R131). -/
  ownDue : Bool
  linkSkew : Int
  depth : Nat
  spads : Nat
  dark : Bool
  detOff : Bool
  subst : Bool
  uncal : Bool
  fresh : Bool
  notBinned : Bool
  cut : Bool
  /-- Work discarded at a changeover (R32). -/
  void : Bool
  nC : Nat
  nZ : Nat
  lost : Nat
  trunc : Nat
  outside : Nat
  coarse : List (Nat × Nat)
  /-- Stamps of the zoom shots taken, shot by shot (R159). -/
  held : List (List HeldStamp)
  /-- Runs of the coarse histogram kept (R155): first and last hot pair, weight, veil candidate. -/
  runs : List PickRun
  /-- Windows placed: start in ticks, flag byte (R157, R162). -/
  windows : List (Nat × Nat)
  fine : List (List (Nat × Nat))
  pile : List Nat
  support : List Nat
  amb : Nat
  detAmb : Nat
  /-- The line was lost in the point engine (R175). -/
  lineLost : Bool
  replays : Nat
  /-- A customer kernel was stopped on this channel-line (R187). -/
  kernelAbort : Bool
  /-- The return list: record and colour extension (R191). -/
  returns : List (Nat × Nat)
  /-- The colour sample of the channel's scene angle (R188). -/
  colour : Nat
  deriving DecidableEq, Repr

/-- The histogram engines (R150 to R167). -/
structure HstState where
  /-- Number of lines started. -/
  lineSeq : Nat
  recSeq : Nat
  /-- Shot records not yet consumed by every channel, oldest first (R74). -/
  posted : List ShotRec
  /-- The next record of each channel, by its number. -/
  next : List (Nat × Nat)
  lines : List (Nat × HstLine)
  /-- Channel-lines by 192 · lineSeq + channel. -/
  jobs : List (Nat × ChanLine)
  /-- A of each channel's previous line (R153). -/
  amb : List (Nat × Nat)
  /-- The pending set: MODE, tick of the commit, and the settings (R165). -/
  pending : Option (Bool × Nat)
  staged : List (Nat × Word)
  /-- The next line is the first of a run, or the first after a change of WIDTH (R154). -/
  freshNext : Bool
  poisonRaised : Bool
  seqRaised : Bool
  lateRaised : Bool
  deriving DecidableEq, Repr

/-- A packet waiting at a destination: its bytes, and whether room is reserved for it (R199). -/
structure Packet where
  bytes : List Byte
  reserved : Bool
  deriving DecidableEq, Repr

/-- A frame whose FRAME_END is still to be sent (R197). -/
structure FrameAcc where
  frame : Nat
  /-- END_CAUSE, end time in 2^-48 ns, lines delivered and lines not run, once it has closed. -/
  ended : Option (Nat × Nat × Nat × Nat)
  overruns : Nat
  returns : Nat
  dropped : Nat
  /-- Channels not NORMAL in some line. -/
  notNormal : List Nat
  deriving DecidableEq, Repr

/-- Point engines and packet assembler (R171 to R199). -/
structure PntState where
  /-- The customer kernel in force, and the one that waits for a frame start (R186). -/
  kernel : Option (List Byte)
  pendingKernel : Option (List Byte)
  quota : Nat
  stops : Nat
  trapRaised : Bool
  quotaRaised : Bool
  dropRaised : Bool
  /-- ENABLE has been latched at 0 since the kernel was disabled (R187). -/
  enableLow : Bool
  frames : List FrameAcc
  /-- The line buffers in the engines' local memories (R172, R173), by 131,072 · engine + byte address. -/
  buffers : List Host.Cell
  /-- Packets waiting at a destination: 0 Port A, 1 Port B, 2 Ethernet; oldest first (R199). -/
  waiting : List (Nat × Packet)
  deriving DecidableEq, Repr

/-- What a packet holds as one of set A or of set B (R205, R208, R219): the way it has moved while its shutter gates let it collect, in 1/256
gate, and whether a velocity change has met it in its window. -/
structure TdiExp where
  lit : Nat
  velChange : Bool
  deriving DecidableEq, Repr

/-- A charge packet in a TDI register (R204, R205, R218): the generation in force when it entered at gate 0, in the logic die's and
in the detector die's count, the gate steps since, and what it holds if the line it comes to is one of set A, or of set B. -/
structure TdiPacket where
  gen : Nat
  die : Nat
  age : Nat
  a : TdiExp
  b : TdiExp
  deriving DecidableEq, Repr

/-- A colour line (R206, R214 to R216). -/
structure ColourLine where
  frame : Nat
  line : Nat
  /-- Device time of its image line start, in 2^-48 ns. -/
  time : Nat
  /-- Its generation in the logic die's and in the detector die's count. -/
  gen : Nat
  die : Nat
  setB : Bool
  velChange : Bool
  cut : Bool
  stale : Bool
  /-- Packets in the line, and the velocity in force, 1/256 gate per image line. -/
  n : Nat
  vel : Nat
  /-- Its exit tap, the gate steps until its sense interval closes, and what its packets hold together once they have reached the tap
  (R205, R206). -/
  tap : Nat
  left : Nat
  lit : Option Nat
  /-- The ticks at which its sense interval closed, and from which it may be sent (R215). -/
  closedAt : Nat
  readyAt : Nat
  /-- Position in the frame's readout window, and the window's lines (R236). -/
  pos : Nat
  window : Nat
  /-- Whether the detector die reads the line out, and whether the logic die expects it (R210). -/
  read : Bool
  expect : Bool
  /-- Codes of the output pixels (R209, R211); output pixels delivered as 0 (R212). -/
  pixels : List Nat
  marked : List Nat
  short : Bool
  long : Bool
  reproc : Bool
  deriving DecidableEq, Repr

/-- A line on the pixel bus (R213): the line, its beats, and the tick at which LV rises. -/
structure PixelBus where
  line : ColourLine
  beats : List (BitVec 56)
  lvAt : Nat
  deriving DecidableEq, Repr

/-- The colour column and its readout (R202 to R223). -/
structure ImgState where
  /-- Column converters sent off, those whose bench converter waits for a frame start, pixels to be marked at the next colour line
  (R212). -/
  convOff : List Nat
  convPending : List Nat
  defectDue : List Nat
  /-- The tick of the pending commit, and its set (R218). -/
  commit : Option Nat
  staged : List (Nat × Word)
  /-- Settings of the generations still in use, by number. -/
  gens : List (Nat × List (Nat × Word))
  /-- Converters whose test is replayed in the image line in progress (R212). -/
  testing : List Nat
  /-- Frames since the release of the domain, up to 3, and the test codes measured in the first (R322): converter, at 7/8, at 1/8. -/
  testFrames : Nat
  firstCodes : List (Nat × Nat × Nat)
  /-- The generation, the velocity and the direction the detector die runs on (R117, R204, R214). -/
  dieGen : Nat
  dieVel : Nat
  dieReverse : Bool
  /-- Velocity and direction in force, and the lines per frame they were last checked with (R204, R219). -/
  vel : Nat
  reverse : Bool
  lines : Nat
  /-- Packets in a register, from gate 0 (R204). -/
  packets : List TdiPacket
  /-- A packet that entered since ENABLE has crossed the centre line (R220). -/
  started : Bool
  /-- The image line in progress: open, its number and start time; packets that have crossed in it, and the first of them. -/
  lineOpen : Bool
  line : Nat
  lineTime : Nat
  crossed : Nat
  first : Option TdiPacket
  /-- The tick at which it began, and the gate steps done in it (R204). -/
  lineAt : Nat
  steps : Nat
  /-- The position of the line in progress in a capture of SRC 2 (R210). -/
  sel : Option Nat
  /-- A capture of SRC 2: image lines still to pass, lines still to read, and the next position (R210). -/
  capture : Option (Nat × Nat × Nat)
  /-- Lines whose sense interval has not closed; the line store; the line on the pixel bus; lines the logic die expects; lines that
  left the pixel bus (R215, R216). -/
  closing : List ColourLine
  store : List ColourLine
  bus : Option PixelBus
  expected : List ColourLine
  arrived : List ColourLine
  /-- FV is high, and for which frame (R217). -/
  fv : Bool
  fvFrame : Nat
  /-- The ticks from which the converters, and the bus, are free (R215). -/
  convFree : Nat
  busFree : Nat
  shortRaised : Bool
  longRaised : Bool
  deriving DecidableEq, Repr

/-- A line after stage 5 (R224): values and flags of its output pixels, for the exposure merge and for stage 8. -/
structure StageLine where
  frame : Nat
  line : Nat
  reproc : Bool
  /-- Stage-1 codes, stage-5 values. -/
  codes : List Nat
  values : List Nat
  deriving DecidableEq, Repr

/-- A stored line for temporal noise reduction (R228). -/
structure StoredLine where
  frame : Nat
  line : Nat
  gen : Nat
  /-- It carries CUT, VEL_CHANGE, LINE_SHORT or LINE_LONG. -/
  flawed : Bool
  /-- Where its codes stand in the frame store, and how many. -/
  address : Nat
  pixels : Nat
  deriving DecidableEq, Repr

/-- The statistics of a frame (R236 to R238). -/
structure StatSet where
  /-- Which publication it is; 0 while the frame is being summed. -/
  id : Nat
  frame : Nat
  gen : Nat
  oldLines : Nat
  lines : Nat
  short : Bool
  reproc : Bool
  /-- By 4 · zone + band: sum, samples, samples with SAT. -/
  zones : List (Nat × (Nat × Nat × Nat))
  /-- By 256 · band + bin. -/
  hist : List (Nat × Nat)
  deriving DecidableEq, Repr

/-- The channel mean of a colour line (R239): sums of RED, GREEN, BLUE and NIR, samples, and the flags of its samples (R242). -/
structure ChanMean where
  sums : List Nat
  count : Nat
  sat : Bool
  filled : Bool
  merged : Bool
  deriving DecidableEq, Repr

/-- A row of the colour table (R239). -/
structure ColourRow where
  frame : Nat
  line : Nat
  err : Bool
  velChange : Bool
  genOld : Bool
  means : List (Nat × ChanMean)
  deriving DecidableEq, Repr

/-- The image pipeline (R224 to R248). -/
structure IspState where
  queue : List ColourLine
  /-- Set B lines after stage 5 that a set A line may take pixels from (R230). -/
  partners : List StageLine
  store : List StoredLine
  /-- Frames still of interest: number, generation in force, FRAME_SHORT. -/
  frames : List (Nat × Nat × Bool)
  sums : List StatSet
  published : List StatSet
  nextId : Nat
  table : List ColourRow
  dropRaised : Bool
  /-- A capture: the frame it copies once that has started, records written and the address of the next (R245). -/
  capture : Option (Option Nat × Nat × Nat)
  /-- Reprocessing: records left, the address of the next, records processed (R246). -/
  reproc : Option (Nat × Nat × Nat)
  /-- Addresses of the records of set A lines that wait for their partner's record (R230, R246). -/
  held : List Nat
  deriving DecidableEq, Repr

/-- A front-end channel beside its registers (R249 to R263). -/
structure AfeChan where
  /-- AFE_EXC or AFE_PHASE waits for a zero crossing, at this tick (R252). -/
  excDue : Option Nat
  /-- The tick of the next output sample (R259). -/
  nextOut : Nat
  /-- The tick from which the next periodic reset of the charge amplifier counts (R257). -/
  resetFrom : Nat
  /-- A settling interval begins at the next output sample (R262). -/
  settleDue : Bool
  /-- The end of the settling interval in progress, in ticks. -/
  settleUntil : Option Nat
  /-- Consecutive output samples below, and at or above, SIG_LOW (R253). -/
  lowRun : Nat
  okRun : Nat
  /-- Consecutive good output samples for OPEN (R256). -/
  goodRun : Nat
  /-- RANGE before an early reset whose SAT sample is still to come (R258). -/
  satRange : Option Nat
  /-- The carried offset in 2^-16 of the charge unit, and the tick from which it decays (R257). -/
  carried : Int
  carriedAt : Nat
  deriving DecidableEq, Repr

/-- A filter chain beside its registers (R264 to R271). -/
structure FltChain where
  /-- FLT_POLY_CFG was written and is latched at the next output sample (R266). -/
  polyDue : Bool
  /-- Its last untagged value, for chains that take it as their temperature (R265). -/
  lastT : Option Int
  /-- The RMS block in progress: sum of squares and samples (R267). -/
  rmsSum : Nat
  rmsCount : Nat
  /-- Consecutive samples that call for a change, by switch (R268). -/
  calls : List (Nat × Nat)
  deriving DecidableEq, Repr

/-- The front end (R249 to R276). -/
structure AfeState where
  chans : List (Nat × AfeChan)
  chains : List (Nat × FltChain)
  /-- Frame and tick of the last AFE_EARLY_RESET (R258). -/
  earlyAt : Option (Nat × Nat)
  deriving DecidableEq, Repr

/-- One converter's result of a step (R285): code as it stands in VALUE, the tags, and the chain's number (R286). -/
structure AdcResult where
  value : Nat
  notReady : Bool
  suspect : Bool
  clip : Bool
  num : Int
  deriving DecidableEq, Repr

/-- A published set of results (R283): results by 64 · converter + step, and the codes of the system steps. -/
structure AdcSet where
  seq : Nat
  results : List (Nat × AdcResult)
  check0 : Nat
  check1 : Nat
  bias0 : Nat
  bias1 : Nat
  deriving DecidableEq, Repr

/-- The housekeeping converters beside their registers (R277 to R290). -/
structure AdcState where
  /-- REF_EN was set at this tick (R280). -/
  refSince : Option Nat
  /-- The sequence in progress began at this tick. -/
  seqStart : Option Nat
  /-- The set that waits for the next sequence (R284). -/
  staged : Option (List (Nat × Word))
  /-- Consecutive agreeing sequences (R287). -/
  agree : Nat
  /-- The tick of the last ADC_OVERRUN event (R281). -/
  overrunAt : Option Nat
  /-- The tick from which TIMER counts (R281). -/
  timerFrom : Nat
  /-- The spans of the sequence in progress in which REF_READY was 1 before the present setting of REF_EN; since when it is 1 now
  (R280). -/
  readyBefore : List (Nat × Nat)
  readyAt : Option Nat
  /-- The sets published last and selected by a port, newest first (R283). -/
  kept : List AdcSet
  /-- Trim code of the reference buffer: in force, and computed for the next sequence (R334). -/
  trim : Nat
  trimNext : Option Nat
  deriving DecidableEq, Repr

/-- The calibration store beside its registers (R312 to R322). -/
structure CalState where
  /-- The words of the record that no register shows, where they differ from what they hold after a power-up (R316). -/
  words : List (Nat × Word)
  /-- Words whose three-way split marked an element (R317, R318). -/
  splits : List Nat
  /-- The element under reselection: kind and number (R314). -/
  resel : Option (Nat × Nat)
  /-- Elements (4096 · kind + number) whose last reselection failed (R313). -/
  failed : List Nat
  /-- EPOCH of the snapshot in export, and whether its descriptor has completed (R319). -/
  exporting : Option (Nat × Bool)
  /-- A copy write is held until the export ends (R319). -/
  held : Bool
  /-- A write of IMPORT was taken and the record is to be read (R320). -/
  importAsked : Bool
  /-- An accepted record (R320), and one whose values wait for a line start (R321). -/
  accepted : Option (List Word)
  due : Option (List Word)
  /-- The tick of the last vote (R317). -/
  voteAt : Nat
  deriving DecidableEq, Repr

/-- The state of the block. -/
structure State where
  /-- Registers that differ from their reset value, by their place (R15): port A's view of BAR0 below 64 MiB, port B's banked copies
  from 64 MiB, the mailbox pages from 128 MiB. -/
  regs : List (Nat × Word)
  /-- The values in force of shadow registers (R68, R165, R218, R284, R301), likewise. -/
  inForce : List (Nat × Word)
  /-- Ticks of 1/256 ns since power-up. -/
  now : Nat
  /-- Device time in 2^-48 ns (R9), and the correction of its rate, 2^-40 (R435). -/
  devTime : Nat
  rateCorr : Int
  portA : PortState
  portB : PortState
  dma : DmaState
  fw : FwState
  pwr : PwrState
  grid : GridState
  ctl : CtlState
  sht : ShtState
  emt : EmtState
  flood : FldState
  sec : SecState
  thm : ThmState
  net : NetState
  det : DetState
  tdc : TdcState
  bgt : BgtState
  lnp : LnpState
  hst : HstState
  pnt : PntState
  img : ImgState
  isp : IspState
  afe : AfeState
  adc : AdcState
  cal : CalState
  /-- Field memory and LPDDR5X by BAR2 address (R362, R363). -/
  mem : List Host.Cell
  /-- Poisoned 64-bit words of field memory, by word number (R151, R307). -/
  poison : List Nat
  /-- What the block has posted to the hosts' memories, and sent on Ethernet and the chain, oldest first. -/
  host : List HostMsg
  wire : List WireFrame
  /-- Sources raised in the step in progress (R373); empty between steps. -/
  raised : List Raised
  /-- The refusal the command in progress met (R413); none between steps. -/
  refused : Option Word
  /-- The model's own field: free values taken so far (Config.free). -/
  freeCount : Nat
  /-- The commands that wait, first in, first out. -/
  pending : List Instr
  deriving DecidableEq, Repr

/-- No command of this block faults: every command the spec names has an effect (a command whose condition does not hold leaves the
state as it is). The one constructor is for a fault the spec would name; no meaning raises it. -/
inductive Fault where
  /-- Raised by no command. -/
  | none
  deriving DecidableEq, Repr

/-- Refusals of the model. -/
inductive Refusal where
  /-- A command whose meaning is not written, by its mnemonic; the dispatch alone answers it (safe). -/
  | notModelled (mnemonic : String)
  deriving DecidableEq, Repr

/-- A free value: the next open value of the run, which nothing constrains. -/
def State.fresh (s : State) : Nat × State := (Config.free s.freeCount, { s with freeCount := s.freeCount + 1 })


/-- PortState right after reset (log entry 1 for what the spec gives no reset value). -/
def PortState.init : PortState :=
  { down := false, linkDown := false, perstLow := true, d3hot := false, resetUntil := 0, latches := [], statSel := none,
    adcSel := none, answer := .none, lostPending := false, entries := [] }

/-- DmaState right after reset (log entry 1 for what the spec gives no reset value). -/
def DmaState.init : DmaState :=
  { ready := [], busy := [], resetWaiting := [], consuming := [] }

/-- FwState right after reset (log entry 1 for what the spec gives no reset value). -/
def FwState.init : FwState :=
  { stamps := [], nextStamp := 1, unanswered := [], longs := [], loading := none, loadAt := 0, log := [],
    lastRunFrame := 0 }

/-- PwrState right after reset (log entry 1 for what the spec gives no reset value). -/
def PwrState.init : PwrState :=
  { thmInReset := true, coreInReset := true, emissionInReset := true, mgmtInReset := true, portInReset := [true, true],
    fuseOk := false, ddrReady := false, hard := false, seq := 0, t0 := 0, railOk := 0,
    fuses := FuseBank.blank, emissionUntil := 0, hardAt := 0, hardWaiting := false, redAtRelease := none }

/-- GridState right after reset (log entry 1 for what the spec gives no reset value). -/
def GridState.init : GridState :=
  { running := false, sweep := false, frameOpen := false, linesStarted := 0, linesDelivered := 0, linesNotRun := 0,
    overruns := 0, lineStart := 0, lineOpen := false, facet := 0, darkLast := false,
    lineTimed := false }

/-- LoopState right after reset (log entry 1 for what the spec gives no reset value). -/
def LoopState.init : LoopState :=
  { closed := false, preload := false, spNow := 0, spRate := 0, yPrev := 0, yGood := 0, err := 0, i := 0, d := 0, v := 0,
    u := 0, tagged := false, clamped := false }

/-- PlantState right after reset (log entry 1 for what the spec gives no reset value). -/
def PlantState.init : PlantState :=
  { out := 0, winner := 0, slewing := false, held := 0, forced0 := false }

/-- CtlState right after reset (log entry 1 for what the spec gives no reset value). -/
def CtlState.init : CtlState :=
  { slots := [(0, { LoopState.init with clamped := true })], lamps := [], dAxis := LoopState.init, poly := PlantState.init,
    cool := { PlantState.init with winner := 4 }, outQ := 0, outD := 0, phasesLow := false, rcCell := 0, rcSum := 0, rcCount := 0, rcOk := false,
    satStreak := 0, fallback := false, fallbackArmed := false, encA := false, encB := false, count := 0, countAtFacet := 0,
    facetEdges := 0, angleValid := false, revClean := false, lockStreak := 0,
    unlockStreak := 0, refPhase := 0, phaseValid := false, lastSampleT := 0, fsyncT := none, edgeAt := 0, edgeGap := 0,
    nextLine := none, duty := [0, 0, 0], gpio := [], sampled := none }

/-- ShtState right after reset (log entry 1 for what the spec gives no reset value). -/
def ShtState.init : ShtState :=
  { pending := none, staged := [], startPending := none, newCount := none, stopAtEnd := false, barred := false, nextSlot := 0,
    cut := false, plan := [], idleSlot := none, lineCount := 0, flight := none, prepared := none, serveKey := [] }

/-- RowDrive right after reset: no column enabled, no row triggered (R474). -/
def RowDrive.init : RowDrive := { cols := 0, sel := 0, rows := 0, rise := 0, fall := 0, release := none }

/-- EmtState right after reset (log entry 1 for what the spec gives no reset value). -/
def EmtState.init : EmtState :=
  { patterns := [], activeBank := 0, swap := none, swapEdge := none, flagsWaiting := false, eye := [], eyePos := [0, 0],
    eyeEnd := [0, 0], limitRaised := false, expected := [], rearmAt := none, emonLow := false, drive := RowDrive.init, codes := [],
    terms := 0, redCard := false }

/-- FldState right after reset (log entry 1 for what the spec gives no reset value). -/
def FldState.init : FldState :=
  { computed := [], openRun := [], stuckRun := [], pinRun := [], periodAt := 0, before := 0, sense := [], toSample := [], toRead := [] }

/-- SecState right after reset (log entry 1 for what the spec gives no reset value). -/
def SecState.init : SecState :=
  { keys := [], pendingKeys := [], keyData := [], busyOp := none, idKey := 0, minSvnClosed := false, standing := [],
    meshAt := 0, caseHigh := none, ilkA := false, ilkB := true, ilkSince := none, agreeSince := none, permitting := false,
    discrepancy := false, pinMismatch := false, emitHeld := none, faultHeld := none, emitDiffers := none, faultDiffers := none,
    jtag := .bypass }

/-- Therm right after reset (log entry 1 for what the spec gives no reset value). -/
def Therm.init : Therm :=
  { started := false, reading := 0, lastValid := none, lastCount := 0, same := 0, history := [], critRun := 0, hardRun := 0,
    retest := none, retestBad := false, delta := 0, deltaPrev := 0, rateWarnAt := none }

/-- ThmState right after reset (log entry 1 for what the spec gives no reset value). -/
def ThmState.init : ThmState :=
  { therms := [], stepNext := 0, upFrom := none, downFrom := none, rateStepAt := none, grace := none, windowAt := 0, trimAt := 0 }

/-- ChainLink right after reset (log entry 1 for what the spec gives no reset value). -/
def ChainLink.init : ChainLink :=
  { up := false, hellos := 0, quality := 0, masterSerial := 0, hops := 0, goodAt := 0, sentNs := none }

/-- NetState right after reset (log entry 1 for what the spec gives no reset value). -/
def NetState.init : NetState :=
  { lanes := [], ipIdent := 0, goodRun := 0, lastPps := none, measAt := none, unsyncedAt := 0, helloAt := 0, timeAt := 0,
    ppsSecond := 0, ppsUntil := 0, fsyncUntil := 0, syncRx := none,
    pdelayTx := none, pdelayRx := none, peerDelay := 0, link0 := ChainLink.init, link1 := ChainLink.init, members := [],
    coordDue := none, coordLatch := none }

/-- DetChan right after reset (log entry 1 for what the spec gives no reset value). -/
def DetChan.init : DetChan :=
  { mask := 0xFFFFFFFFFF, waiting := [], repairFrom := none, pendingOff := 0, belowMin := false, depth := 1, overTh := 0,
    trim := 30, amb := 0, ambFrame := 0, recent := [], lastStop := none, dead := [], screaming := 0 }

/-- DetState right after reset (log entry 1 for what the spec gives no reset value). -/
def DetState.init : DetState :=
  { kept := none, chans := [], stops := [], rates := [], firstFrame := false, clampRaised := false, hvBad := 0, hvSeen := false,
    surveyAt := 0, stepAt := 0, replays := 0,
    atSpSince := none, satSince := none, durSum := 0 }

/-- LaneSet right after reset (log entry 1 for what the spec gives no reset value). -/
def LaneSet.init : LaneSet :=
  { period := 0x400000, skew := 0, table := [], valid := false }

/-- Lane right after reset (log entry 1 for what the spec gives no reset value). -/
def Lane.init : Lane :=
  { openWin := false, slot := 0, line6 := 0, gen := false, first := false, start := 0, closeAt := 0, taken := 0,
    overflow := false, countLimit := false, busyDrop := false, spacingDrop := false, lastTaken := none, osc := [],
    refStart := 0, measDue := false, refA := none, refTries := 0, refB := none, bTries := 0, bFree := none, genCount := 0,
    lastGen := none, noItem := false, grow := [], out := [], forming := [], newItem := true, fifo := [], partialItem := [],
    items := [], resetAt := none, runA := [], runB := [], second := false, edges := 0, tableNext := none, meas := [],
    ambient := [], vtrimHold := 0, step := 0, ownDue := false, rangeRun := 0 }

/-- TdcState right after reset (log entry 1 for what the spec gives no reset value). -/
def TdcState.init : TdcState :=
  { lanes := [], returns := [], dropRaised := false, overflowRaised := false, parityRaised := false }

/-- BgtState right after reset (log entry 1 for what the spec gives no reset value). -/
def BgtState.init : BgtState :=
  { staged := none, spend := [], waiting := [], lastGrant := [], overStart := 0, capLowAt := none, dcfs := [] }

/-- LnpState right after reset (log entry 1 for what the spec gives no reset value). -/
def LnpState.init : LnpState :=
  { map := [], copies := [[], [], []], changes := [], errors := [], replays := [], dark := [], query := (0, 0), checkAt := 0,
    scrubAt := 0 }

/-- ChanLine right after reset (log entry 1 for what the spec gives no reset value). -/
def ChanLine.init : ChanLine :=
  { stage := 0, lane := 0, engine := 0, set := LaneSet.init, ownDue := false, linkSkew := 0, depth := 0, spads := 0,
    dark := false, detOff := false, subst := false, uncal := false, fresh := false, notBinned := false, cut := false,
    void := false, nC := 0, nZ := 0, lost := 0, trunc := 0, outside := 0, coarse := [], held := [], runs := [], windows := [],
    fine := [], pile := [], support := [], amb := 0, detAmb := 0, lineLost := false, replays := 0, kernelAbort := false,
    returns := [], colour := 0 }

/-- HstState right after reset (log entry 1 for what the spec gives no reset value). -/
def HstState.init : HstState :=
  { lineSeq := 0, recSeq := 0, posted := [], next := [], lines := [], jobs := [], amb := [], pending := none, staged := [],
    freshNext := true, poisonRaised := false, seqRaised := false, lateRaised := false }

/-- PntState right after reset (log entry 1 for what the spec gives no reset value). -/
def PntState.init : PntState :=
  { kernel := none, pendingKernel := none, quota := 0, stops := 0, trapRaised := false, quotaRaised := false,
    dropRaised := false, enableLow := false, frames := [], buffers := [], waiting := [] }

/-- ImgState right after reset (log entry 1 for what the spec gives no reset value). -/
def ImgState.init : ImgState :=
  { convOff := [], convPending := [], defectDue := [], commit := none, staged := [], gens := [], testing := [], testFrames := 0, firstCodes := [], dieGen := 0,
    dieVel := 0, dieReverse := false, vel := 0, reverse := false, lines := 0, packets := [], started := false, lineOpen := false,
    line := 0, lineTime := 0, crossed := 0, first := none, lineAt := 0, steps := 0, sel := none, capture := none, closing := [],
    store := [], bus := none, expected := [], arrived := [], fv := false, fvFrame := 0, convFree := 0, busFree := 0,
    shortRaised := false, longRaised := false }

/-- IspState right after reset (log entry 1 for what the spec gives no reset value). -/
def IspState.init : IspState :=
  { queue := [], partners := [], store := [], frames := [], sums := [], published := [], nextId := 0, table := [],
    dropRaised := false, capture := none, reproc := none, held := [] }

/-- AfeChan right after reset (log entry 1 for what the spec gives no reset value). -/
def AfeChan.init : AfeChan :=
  { excDue := none, nextOut := 0, resetFrom := 0, settleDue := false, settleUntil := none, lowRun := 0, okRun := 0, goodRun := 0, satRange := none,
    carried := 0, carriedAt := 0 }

/-- FltChain right after reset (log entry 1 for what the spec gives no reset value). -/
def FltChain.init : FltChain :=
  { polyDue := false, lastT := none, rmsSum := 0, rmsCount := 0, calls := [] }

/-- AfeState right after reset (log entry 1 for what the spec gives no reset value). -/
def AfeState.init : AfeState :=
  { chans := [], chains := [], earlyAt := none }

/-- AdcState right after reset (log entry 1 for what the spec gives no reset value). -/
def AdcState.init : AdcState :=
  { refSince := none, seqStart := none, staged := none, agree := 0, overrunAt := none, timerFrom := 0, readyBefore := [],
    readyAt := none, kept := [], trim := 0, trimNext := none }

/-- CalState right after reset (log entry 1 for what the spec gives no reset value). -/
def CalState.init : CalState :=
  { words := [], splits := [], resel := none, failed := [], exporting := none, held := false, importAsked := false,
    accepted := none, due := none, voteAt := 0 }

/-- The block right after reset: power applied, every domain in reset but the power controller's, every register at its reset value
(R15, R449), memory with nothing listed, no command waiting. -/
def State.reset : State :=
  { regs := [], inForce := [], now := 0, devTime := 0, rateCorr := 0, portA := PortState.init, portB := PortState.init,
    dma := DmaState.init, fw := FwState.init, pwr := PwrState.init, grid := GridState.init, ctl := CtlState.init,
    sht := ShtState.init, emt := EmtState.init, flood := FldState.init, sec := SecState.init, thm := ThmState.init,
    net := NetState.init, det := DetState.init, tdc := TdcState.init, bgt := BgtState.init, lnp := LnpState.init,
    hst := HstState.init, pnt := PntState.init, img := ImgState.init, isp := IspState.init, afe := AfeState.init,
    adc := AdcState.init, cal := CalState.init, mem := [], poison := [], host := [], wire := [], raised := [], refused := none,
    freeCount := 0, pending := [] }

end Sys2Proof.Machine
end

