-- ==== Sys2Proof/Machine/Ops.lean ====
section
/-! DEFINITION. Named operations over tables, memory and bytes. A table is a list of (key, value) pairs with keys strictly
rising and no entry equal to what an unlisted key reads as, so that equal contents are equal lists. -/

namespace Sys2Proof.Machine

/-- The entry of a key, or what an unlisted key reads as. -/
def tabGet {α : Type} (d : α) : List (Nat × α) → Nat → α
  | [], _ => d
  | (a, v) :: t, k => if k = a then v else tabGet d t k

/-- The table with every entry of `k` left out. -/
def tabErase {α : Type} : List (Nat × α) → Nat → List (Nat × α)
  | [], _ => []
  | (a, v) :: t, k => if k = a then tabErase t k else (a, v) :: tabErase t k

/-- The table with an entry for `k`, in its place. -/
def tabPut {α : Type} : List (Nat × α) → Nat → α → List (Nat × α)
  | [], k, v => [(k, v)]
  | (a, w) :: t, k, v =>
    if k = a then (k, v) :: t
    else if k < a then (k, v) :: (a, w) :: t
    else (a, w) :: tabPut t k v

/-- Write an entry, keeping the canonical form: the value an unlisted key reads as is not listed. -/
def tabSet {α : Type} [DecidableEq α] (d : α) (l : List (Nat × α)) (k : Nat) (v : α) : List (Nat × α) :=
  if v = d then tabErase l k else tabPut l k v

/-- Keys strictly rising, all above `lo`. -/
def tabSorted {α : Type} : Nat → List (Nat × α) → Bool
  | _, [] => true
  | lo, (a, _) :: t => decide (lo ≤ a) && tabSorted (a + 1) t

/-- The canonical form of a table. -/
def tabWf {α : Type} [DecidableEq α] (d : Nat → α) (l : List (Nat × α)) : Bool :=
  tabSorted 0 l && l.all (fun e => decide (e.2 ≠ d e.1))

/-- Replace the keys from `lo` to below `hi` by another table's. -/
def tabCopy {α : Type} (lo hi : Nat) (src dst : List (Nat × α)) : List (Nat × α) :=
  dst.filter (fun e => e.1 < lo) ++ src.filter (fun e => lo ≤ e.1 && e.1 < hi) ++ dst.filter (fun e => hi ≤ e.1)

/-- Leave out the keys from `lo` to below `hi`: they read as after reset again. -/
def tabDrop {α : Type} (lo hi : Nat) (l : List (Nat × α)) : List (Nat × α) :=
  l.filter (fun e => e.1 < lo || hi ≤ e.1)

/-- The memory's canonical form: addresses strictly rising, no listed byte equal to what an unlisted one reads as. -/
def Memory.wf (m : List Host.Cell) : Bool := tabWf (fun _ => (0 : Byte)) m

/-- The byte at an address. DESIGN CHOICE (log entry 2): a byte that nothing has written reads 0. -/
def memRead (m : List Host.Cell) (a : Nat) : Byte := tabGet 0 m a

/-- Write one byte. -/
def memWrite (m : List Host.Cell) (a : Nat) (b : Byte) : List Host.Cell := tabSet 0 m a b

/-- Write bytes at rising addresses. -/
def memWriteBytes (m : List Host.Cell) (a : Nat) : List Byte → List Host.Cell
  | [] => m
  | b :: t => memWriteBytes (memWrite m a b) (a + 1) t

/-- `n` bytes from an address. -/
def memReadBytes (m : List Host.Cell) (a : Nat) : Nat → List Byte
  | 0 => []
  | n + 1 => memRead m a :: memReadBytes m (a + 1) n

/-- A number as `n` bytes, least significant first. -/
def leBytes : Nat → Nat → List Byte
  | 0, _ => []
  | n + 1, v => BitVec.ofNat 8 v :: leBytes n (v / 256)

/-- A number as `n` bytes, most significant first. -/
def beBytes (n v : Nat) : List Byte := (leBytes n v).reverse

/-- The number that bytes hold, least significant first. -/
def leNat : List Byte → Nat
  | [] => 0
  | b :: t => b.toNat + 256 * leNat t

/-- The number that bytes hold, most significant first. -/
def beNat (l : List Byte) : Nat := leNat l.reverse

/-- The 32-bit words of a byte string, byte 4w in bits [7:0] of word w (R406). -/
def bytesToWords : Nat → List Byte → List Word
  | 0, _ => []
  | n + 1, l => BitVec.ofNat 32 (leNat (l.take 4)) :: bytesToWords n (l.drop 4)

/-- The bytes of words, low byte first (R406). -/
def wordsToBytes : List Word → List Byte
  | [] => []
  | w :: t => leBytes 4 w.toNat ++ wordsToBytes t

/-- The item of a list, or a default. -/
def nth {α : Type} (d : α) (l : List α) (n : Nat) : α := l.getD n d

/-- The list with item `n` replaced. -/
def setNth {α : Type} : List α → Nat → α → List α
  | [], _, _ => []
  | _ :: t, 0, v => v :: t
  | a :: t, n + 1, v => a :: setNth t n v

/-- Clamp to a span (R41). -/
def clampI (x lo hi : Int) : Int := if x < lo then lo else if hi < x then hi else x

/-- Saturate to a signed `n`-bit span (R41, R42). -/
def satI (n : Nat) (x : Int) : Int := clampI x (-(2 ^ (n - 1))) (2 ^ (n - 1) - 1)

/-- A register field read as a two's-complement number of `n` bits (R13). -/
def signedN (n v : Nat) : Int := if v < 2 ^ (n - 1) then (v : Int) else (v : Int) - 2 ^ n

/-- The low `n` bits of a two's-complement number. -/
def toBits (n : Nat) (x : Int) : Nat := (x % (2 ^ n : Int)).toNat

/-- A fold over the numbers below `n`, in rising order. -/
def loop {α : Type} : Nat → (Nat → α → α) → α → α
  | 0, _, a => a
  | n + 1, f, a => f n (loop n f a)

/-- A condition as 0 or 1. -/
def b2n (b : Bool) : Nat := if b then 1 else 0

/-- Divide, rounding to the nearest with ties upward. -/
def roundDiv (a b : Int) : Int := if b = 0 then 0 else (2 * a + b).fdiv (2 * b)

end Sys2Proof.Machine
end

