-- ==== Sys2Proof/Machine/RegMap.lean ====
section
/-! DEFINITION. The register tables of the spec as data (R15 to R18, and the table of each chapter): for every register its
place, its copies, its access code, the bits a write can change, and its reset value. A bit no row names is reserved and
reads as 0 (R16). Offsets are those of port A's view of BAR0, and of the port's own BAR4 page. -/

namespace Sys2Proof.Machine

/-- The access codes of R18. -/
inductive Acc where
  | ro | rw | wo | w1c | w1s | rc | rt
  deriving DecidableEq, Repr

/-- One register of a table: `n1` copies `s1` bytes apart, each of `n2` words `s2` bytes apart; `mask` the bits that a write
stores; the reset value of copy i, word j is `reset[i]` (the last entry for every further copy) + `step1` · i + `step2` · j. -/
structure RegRow where
  base : Nat
  n1 : Nat
  s1 : Nat
  n2 : Nat
  s2 : Nat
  acc : Acc
  mask : Nat
  reset : List Nat
  step1 : Nat
  step2 : Nat
  deriving DecidableEq, Repr

/-- The copy and word of the register that an offset names, where it names one. -/
def RegRow.locate (r : RegRow) (off : Nat) : Option (Nat × Nat) :=
  if off < r.base then none
  else
    let d := off - r.base
    let i := d / r.s1
    let e := d - i * r.s1
    let j := e / r.s2
    if i < r.n1 && j < r.n2 && e == j * r.s2 then some (i, j) else none

/-- The reset value of copy `i`, word `j`. -/
def RegRow.resetAt (r : RegRow) (i j : Nat) : Nat :=
  r.reset.getD (min i (r.reset.length - 1)) 0 + r.step1 * i + r.step2 * j

def rowsGLB : List RegRow :=
  [⟨0x0, 1, 0x4, 1, 4, .ro, 0xFFFFFFFF, [0x1921F7C], 0x0, 0x0⟩ /- GLB_ID -/,
   ⟨0x4, 1, 0x4, 1, 4, .ro, 0xFFFF, [0xB0], 0x0, 0x0⟩ /- GLB_REV -/,
   ⟨0x8, 1, 0x4, 1, 4, .ro, 0x3, [0x0], 0x0, 0x0⟩ /- GLB_GRADE -/,
   ⟨0xC, 1, 0x4, 1, 4, .ro, 0xFFFFFFFF, [0x0], 0x0, 0x0⟩ /- GLB_SERIAL_LO -/,
   ⟨0x10, 1, 0x4, 1, 4, .ro, 0xFFFFFFFF, [0x0], 0x0, 0x0⟩ /- GLB_SERIAL_HI -/,
   ⟨0x14, 1, 0x4, 1, 4, .ro, 0xFFFFFF00, [0xC034D000], 0x0, 0x0⟩ /- GLB_CAPS -/,
   ⟨0x18, 1, 0x4, 1, 4, .ro, 0xFFFF, [0x1], 0x0, 0x0⟩ /- GLB_MAP_VERSION -/,
   ⟨0x20, 1, 0x4, 1, 4, .ro, 0xFFFFFFFF, [0x0], 0x0, 0x0⟩ /- GLB_FRAME -/,
   ⟨0x24, 1, 0x4, 1, 4, .ro, 0xFFFF, [0x0], 0x0, 0x0⟩ /- GLB_LINE -/,
   ⟨0x30, 1, 0x4, 1, 4, .rw, 0xFFFFFFFF, [0x0], 0x0, 0x0⟩ /- GLB_SCRATCH -/]

def rowsPOS : List RegRow :=
  [⟨0x10000, 16, 0x4, 1, 4, .rw, 0x0, [0x0], 0x0, 0x0⟩ /- POS_GRP -/,
   ⟨0x10040, 16, 0x4, 1, 4, .ro, 0x41000000, [0x0], 0x0, 0x0⟩ /- POS_PEEK -/,
   ⟨0x10080, 1, 0x4, 1, 4, .ro, 0xFFFFFFFF, [0x0], 0x0, 0x0⟩ /- POS_OWN -/,
   ⟨0x10084, 1, 0x4, 1, 4, .ro, 0x1, [0x0], 0x0, 0x0⟩ /- POS_TIE -/,
   ⟨0x10088, 1, 0x4, 1, 4, .rc, 0xF3FFFFFF, [0x0], 0x0, 0x0⟩ /- POS_BLK_INFO -/,
   ⟨0x1008C, 1, 0x4, 1, 4, .rc, 0xFFFFFFFF, [0x0], 0x0, 0x0⟩ /- POS_BLK_COUNT -/,
   ⟨0x10090, 1, 0x4, 1, 4, .rc, 0xFFFFFFFF, [0x0], 0x0, 0x0⟩ /- POS_ACC_ERR -/]

def rowsMBX : List RegRow :=
  [⟨0x20000, 1, 0x4, 1, 4, .ro, 0xF8FF0000, [0x0], 0x0, 0x0⟩ /- MBX_FW_STATE -/,
   ⟨0x20004, 1, 0x4, 1, 4, .rw, 0x1F, [0x0], 0x0, 0x0⟩ /- MBX_FW_LOAD -/,
   ⟨0x20008, 1, 0x4, 1, 4, .ro, 0xC7010000, [0x0], 0x0, 0x0⟩ /- MBX_FW_STATUS -/,
   ⟨0x2000C, 1, 0x4, 1, 4, .ro, 0xFFFFFFFF, [0x0], 0x0, 0x0⟩ /- MBX_FW_VERSION -/,
   ⟨0x20010, 1, 0x4, 1, 4, .ro, 0xF, [0x1], 0x0, 0x0⟩ /- MBX_FW_RESET_CAUSE -/,
   ⟨0x20014, 1, 0x4, 1, 4, .ro, 0xF0F0F0F, [0x0], 0x0, 0x0⟩ /- MBX_SUMMARY -/]

def rowsDMA : List RegRow :=
  [⟨0x30100, 32, 0x20, 1, 4, .rw, 0xFFFFFFC0, [0x0], 0x0, 0x0⟩ /- DMA_Q_BASE_LO -/,
   ⟨0x30104, 32, 0x20, 1, 4, .rw, 0xFFFFFFFF, [0x0], 0x0, 0x0⟩ /- DMA_Q_BASE_HI -/,
   ⟨0x30108, 32, 0x20, 1, 4, .rw, 0x803F001F, [0x200004], 0x10000, 0x0⟩ /- DMA_Q_CFG -/,
   ⟨0x3010C, 32, 0x20, 1, 4, .rw, 0x1, [0x0], 0x0, 0x0⟩ /- DMA_Q_CTRL -/,
   ⟨0x30110, 32, 0x20, 1, 4, .rw, 0xFFFF, [0x0], 0x0, 0x0⟩ /- DMA_Q_TAIL -/,
   ⟨0x30114, 32, 0x20, 1, 4, .ro, 0xFFFF, [0x0], 0x0, 0x0⟩ /- DMA_Q_HEAD -/,
   ⟨0x30118, 32, 0x20, 1, 4, .ro, 0xFC00FFFF, [0x0], 0x0, 0x0⟩ /- DMA_Q_STATUS -/,
   ⟨0x3011C, 32, 0x20, 1, 4, .rc, 0xFFFFFFFF, [0x0], 0x0, 0x0⟩ /- DMA_Q_MISS -/]

def rowsEVT : List RegRow :=
  [⟨0x40000, 1, 0x4, 1, 4, .rw, 0xFFFFF000, [0x0], 0x0, 0x0⟩ /- EVT_RING_BASE_LO -/,
   ⟨0x40004, 1, 0x4, 1, 4, .rw, 0xFFFFFFFF, [0x0], 0x0, 0x0⟩ /- EVT_RING_BASE_HI -/,
   ⟨0x40008, 1, 0x4, 1, 4, .rw, 0x8000000F, [0x8], 0x0, 0x0⟩ /- EVT_RING_CFG -/,
   ⟨0x4000C, 1, 0x4, 1, 4, .rw, 0xFFFF, [0x0], 0x0, 0x0⟩ /- EVT_RD -/,
   ⟨0x40010, 1, 0x4, 1, 4, .ro, 0x1FFFF, [0x10000], 0x0, 0x0⟩ /- EVT_WR -/,
   ⟨0x40014, 1, 0x4, 1, 4, .rc, 0xFFFFFFFF, [0x0], 0x0, 0x0⟩ /- EVT_LOST -/,
   ⟨0x40018, 1, 0x4, 1, 4, .ro, 0xFFFFFFFF, [0x0], 0x0, 0x0⟩ /- EVT_SEQ -/,
   ⟨0x4001C, 1, 0x4, 1, 4, .wo, 0xFF, [0x0], 0x0, 0x0⟩ /- EVT_TEST -/,
   ⟨0x40100, 8, 0x4, 1, 4, .rw, 0xFFFFFFFF, [0xFE80FFF0, 0xFC04FFFF, 0x110FFFF, 0xE010FFFF, 0xF880FFFF, 0xFC04FFFF, 0x1FE04FF, 0xE00C0], 0x0, 0x0⟩ /- EVT_MASK -/,
   ⟨0x40140, 8, 0x4, 1, 4, .w1c, 0xFFFFFFFF, [0x0], 0x0, 0x0⟩ /- EVT_STATUS -/,
   ⟨0x40180, 11, 0x4, 1, 4, .rw, 0x13F, [0x80000100], 0x1, 0x0⟩ /- EVT_GRP_VEC -/]

def rowsBGT : List RegRow :=
  [⟨0x80000, 1, 0x4, 1, 4, .rw, 0xFFFFF, [0x2710], 0x0, 0x0⟩ /- BGT_OVER -/,
   ⟨0x80004, 1, 0x4, 1, 4, .rw, 0xFF, [0x8], 0x0, 0x0⟩ /- BGT_STARVE_CFG -/,
   ⟨0x80008, 1, 0x4, 1, 4, .wo, 0x1, [0x0], 0x0, 0x0⟩ /- BGT_COMMIT -/,
   ⟨0x8000C, 1, 0x4, 1, 4, .ro, 0x80000000, [0x0], 0x0, 0x0⟩ /- BGT_STATUS -/,
   ⟨0x80010, 1, 0x4, 1, 4, .rc, 0xFF00FFFF, [0x0], 0x0, 0x0⟩ /- BGT_CFG_ERR -/,
   ⟨0x80014, 1, 0x4, 1, 4, .ro, 0xFFFF, [0x1000], 0x0, 0x0⟩ /- BGT_CAP -/,
   ⟨0x80018, 1, 0x4, 1, 4, .ro, 0xFFFF, [0x0], 0x0, 0x0⟩ /- BGT_FAB_RATE -/,
   ⟨0x8001C, 1, 0x4, 1, 4, .ro, 0xFFFFFFFF, [0x0], 0x0, 0x0⟩ /- BGT_URGENT -/,
   ⟨0x80020, 1, 0x4, 1, 4, .ro, 0xFFFFFFFF, [0x0], 0x0, 0x0⟩ /- BGT_OVER_NUM -/,
   ⟨0x80024, 1, 0x4, 1, 4, .rc, 0xFFFFFFFF, [0x0], 0x0, 0x0⟩ /- BGT_PROMOTIONS -/,
   ⟨0x80100, 32, 0x8, 1, 4, .rw, 0x300FFFFF, [0x5000, 0x20000800, 0x400, 0x10040000, 0x10000800, 0x10000400, 0x10001000, 0x20004000, 0x20001000, 0x2000A000, 0x10000400, 0x30000800, 0x1000, 0x10004000, 0x20002000, 0x20000200, 0x30001000, 0x10000400, 0x30000400, 0x30000100, 0x20000400, 0x10000800, 0x10000200, 0x30002000, 0x10000100, 0x10000100, 0x30000800, 0x10000100, 0x20000200, 0x10000100, 0x10000100, 0x30000000], 0x0, 0x0⟩ /- BGT_CLASS -/,
   ⟨0x80104, 32, 0x8, 1, 4, .ro, 0xFF0FFFFF, [0x0], 0x0, 0x0⟩ /- BGT_SPENT -/,
   ⟨0x80200, 24, 0x4, 1, 4, .ro, 0xE000000F, [0x40000000], 0x0, 0x0⟩ /- BGT_DCF -/,
   ⟨0x80280, 8, 0x4, 1, 4, .rc, 0xFFFFFFFF, [0x0], 0x0, 0x0⟩ /- BGT_LOST_ITEMS -/,
   ⟨0x802A0, 9, 0x4, 1, 4, .rc, 0xFFFF, [0x0], 0x0, 0x0⟩ /- BGT_PARITY -/]

def rowsLNP : List RegRow :=
  [⟨0xC0000, 1, 0x4, 1, 4, .ro, 0xE0070000, [0x80070000], 0x0, 0x0⟩ /- LNP_STATUS -/,
   ⟨0xC0004, 1, 0x4, 1, 4, .ro, 0xFFFFFFFF, [0x0], 0x0, 0x0⟩ /- LNP_EPOCH -/,
   ⟨0xC0008, 1, 0x4, 1, 4, .rw, 0xFFFFFFFF, [0x80A0301], 0x0, 0x0⟩ /- LNP_CFG -/,
   ⟨0xC000C, 1, 0x4, 1, 4, .rw, 0xFFFF, [0xA], 0x0, 0x0⟩ /- LNP_SCRUB -/,
   ⟨0xC0010, 1, 0x4, 1, 4, .rc, 0xFFFF00FF, [0x0], 0x0, 0x0⟩ /- LNP_LAST -/,
   ⟨0xC0014, 1, 0x4, 1, 4, .wo, 0xF0000FFF, [0x0], 0x0, 0x0⟩ /- LNP_QUERY -/,
   ⟨0xC0018, 1, 0x4, 1, 4, .ro, 0xFFFFFFFF, [0x0], 0x0, 0x0⟩ /- LNP_QUERY_DATA -/,
   ⟨0xC0020, 4, 0x4, 1, 4, .ro, 0xFFFFFFFF, [0xC004000, 0x3001000, 0x10008000, 0xC0018000], 0x0, 0x0⟩ /- LNP_POOL -/,
   ⟨0xC0030, 3, 0x4, 1, 4, .ro, 0x81FFFFFF, [0x80140000], 0x10000, 0x0⟩ /- LNP_COPY -/,
   ⟨0xC0040, 6, 0x4, 1, 4, .w1c, 0xFFFFFFFF, [0x0], 0x0, 0x0⟩ /- LNP_CHANGED -/,
   ⟨0xC1000, 512, 0x4, 1, 4, .ro, 0xFFFFFFFF, [0x0], 0x0, 0x0⟩ /- LNP_MAP -/]

def rowsSHT : List RegRow :=
  [⟨0x100000, 1, 0x4, 1, 4, .rw, 0x1FFF007F, [0x8000006], 0x0, 0x0⟩ /- SHT_CFG -/,
   ⟨0x100004, 1, 0x4, 1, 4, .rw, 0x1FFFFF, [0xFA000], 0x0, 0x0⟩ /- SHT_LISTEN -/,
   ⟨0x100008, 1, 0x4, 1, 4, .rw, 0xFFF0FFF, [0x0], 0x0, 0x0⟩ /- SHT_BLANK -/,
   ⟨0x10000C, 1, 0x4, 1, 4, .rw, 0x1FF00FF, [0x100FF], 0x0, 0x0⟩ /- SHT_PAT_MAP -/,
   ⟨0x100010, 1, 0x4, 1, 4, .rw, 0x707030F, [0xA], 0x0, 0x0⟩ /- SHT_SERVE_CFG -/,
   ⟨0x100014, 1, 0x4, 1, 4, .rw, 0xFFFFFFFF, [0x0], 0x0, 0x0⟩ /- SHT_SERVE_NONCE_LO -/,
   ⟨0x100018, 1, 0x4, 1, 4, .rw, 0xFFFFFFFF, [0x0], 0x0, 0x0⟩ /- SHT_SERVE_NONCE_HI -/,
   ⟨0x100020, 1, 0x4, 1, 4, .wo, 0x3, [0x0], 0x0, 0x0⟩ /- SHT_COMMIT -/,
   ⟨0x100024, 1, 0x4, 1, 4, .wo, 0xE000FFFF, [0x0], 0x0, 0x0⟩ /- SHT_RUN -/,
   ⟨0x100028, 1, 0x4, 1, 4, .ro, 0xFFFF00FF, [0x0], 0x0, 0x0⟩ /- SHT_STATUS -/,
   ⟨0x10002C, 1, 0x4, 1, 4, .rc, 0xFF00FFFF, [0x0], 0x0, 0x0⟩ /- SHT_CFG_ERR -/,
   ⟨0x100030, 1, 0x4, 1, 4, .rc, 0xFFFFFFFF, [0x0], 0x0, 0x0⟩ /- SHT_OVERRUN -/,
   ⟨0x100034, 1, 0x4, 1, 4, .ro, 0xFFFF, [0x0], 0x0, 0x0⟩ /- SHT_GEN -/,
   ⟨0x100100, 64, 0x8, 1, 4, .rw, 0xFFFFFFF, [0x0, 0xFE000, 0x41FC000, 0x42FA000, 0x43F8000, 0x44F6000, 0x0], 0x0, 0x0⟩ /- SHT_SLOT_T -/,
   ⟨0x100104, 64, 0x8, 1, 4, .rw, 0xFF, [0x0], 0x1, 0x0⟩ /- SHT_SLOT_P -/]

def rowsEMT : List RegRow :=
  [⟨0x140000, 1, 0x4, 1, 4, .ro, 0xF01FF, [0x0], 0x0, 0x0⟩ /- EMT_CHAIN -/,
   ⟨0x140004, 1, 0x4, 1, 4, .rw, 0x1, [0x0], 0x0, 0x0⟩ /- EMT_ARM -/,
   ⟨0x140008, 1, 0x4, 1, 4, .rw, 0x3FFF3FFF, [0x4000100], 0x0, 0x0⟩ /- EMT_TRIG_CFG -/,
   ⟨0x14000C, 1, 0x4, 1, 4, .rw, 0x6, [0x0], 0x0, 0x0⟩ /- EMT_PAT_CTRL -/,
   ⟨0x140010, 1, 0x4, 1, 4, .rc, 0x800000FF, [0x0], 0x0, 0x0⟩ /- EMT_PAT_ERR -/,
   ⟨0x140020, 1, 0x4, 1, 4, .w1s, 0x1, [0x0], 0x0, 0x0⟩ /- EMT_EYE_CFG -/,
   ⟨0x140024, 2, 0x4, 1, 4, .rw, 0xFFFF, [0x10, 0x3D09], 0x0, 0x0⟩ /- EMT_EYE_WIN -/,
   ⟨0x140030, 2, 0x8, 1, 4, .rw, 0xFFFFFFFF, [0x0], 0x0, 0x0⟩ /- EMT_EYE_LIM_EMIT -/,
   ⟨0x140034, 2, 0x8, 1, 4, .rw, 0xFFFFFFFF, [0x0], 0x0, 0x0⟩ /- EMT_EYE_LIM_ROW -/,
   ⟨0x140040, 1, 0x4, 1, 4, .rc, 0xFFFFFFFF, [0x0], 0x0, 0x0⟩ /- EMT_EYE_SUPP -/,
   ⟨0x140044, 1, 0x4, 1, 4, .ro, 0xFFFF, [0x0], 0x0, 0x0⟩ /- EMT_EYE_PEAK -/,
   ⟨0x140050, 1, 0x4, 1, 4, .ro, 0x8000FF7F, [0xFF00], 0x0, 0x0⟩ /- EMT_FAULT -/,
   ⟨0x140054, 1, 0x4, 1, 4, .wo, 0xFF, [0x0], 0x0, 0x0⟩ /- EMT_REARM -/,
   ⟨0x140058, 1, 0x4, 1, 4, .rw, 0xFFFFFFFF, [0x21E1400], 0x0, 0x0⟩ /- EMT_MON_CFG -/,
   ⟨0x140060, 1, 0x4, 1, 4, .ro, 0x7, [0x0], 0x0, 0x0⟩ /- EMT_ECB_STATUS -/,
   ⟨0x140064, 1, 0x4, 1, 4, .wo, 0x1, [0x0], 0x0, 0x0⟩ /- EMT_CUR_COMMIT -/,
   ⟨0x140400, 16, 0x40, 16, 4, .rw, 0xFFFF03FF, [0x0], 0x0, 0x0⟩ /- EMT_CUR_PROFILE -/,
   ⟨0x150000, 2048, 0x4, 1, 4, .rw, 0xFFFFFFFF, [0x0], 0x0, 0x0⟩ /- EMT_PAT_SHADOW -/,
   ⟨0x152000, 2048, 0x4, 1, 4, .ro, 0xFFFFFFFF, [0x0], 0x0, 0x0⟩ /- EMT_PAT_ACTIVE -/]

def rowsFLD : List RegRow :=
  [⟨0x160000, 1, 0x4, 1, 4, .rw, 0x7, [0x0], 0x0, 0x0⟩ /- FLD_CFG -/,
   ⟨0x160004, 1, 0x4, 1, 4, .ro, 0xFFFF, [0x0], 0x0, 0x0⟩ /- FLD_STATUS -/,
   ⟨0x160008, 1, 0x4, 1, 4, .w1s, 0xFF, [0x0], 0x0, 0x0⟩ /- FLD_CLEAR -/,
   ⟨0x160010, 8, 0x4, 1, 4, .ro, 0x7F, [0x0], 0x0, 0x0⟩ /- FLD_FAULT -/,
   ⟨0x160030, 8, 0x4, 1, 4, .rw, 0x3FFF3FFF, [0x30000100], 0x0, 0x0⟩ /- FLD_LIM -/,
   ⟨0x160050, 8, 0x4, 1, 4, .rw, 0xFF80FFFF, [0x0], 0x0, 0x0⟩ /- FLD_COMP -/,
   ⟨0x160070, 8, 0x4, 1, 4, .ro, 0x3FFF, [0x0], 0x0, 0x0⟩ /- FLD_ISNS -/,
   ⟨0x160090, 8, 0x4, 1, 4, .ro, 0x1FFF, [0x0], 0x0, 0x0⟩ /- FLD_DENSITY -/]

def rowsDET : List RegRow :=
  [⟨0x170000, 1, 0x4, 1, 4, .rw, 0x3, [0x2], 0x0, 0x0⟩ /- DET_CTRL -/,
   ⟨0x170004, 1, 0x4, 1, 4, .ro, 0xF0FFFF3F, [0x20000000], 0x0, 0x0⟩ /- DET_STATUS -/,
   ⟨0x170008, 1, 0x4, 1, 4, .rc, 0xFF00FFFF, [0x0], 0x0, 0x0⟩ /- DET_CFG_ERR -/,
   ⟨0x17000C, 1, 0x4, 1, 4, .ro, 0xFFFF, [0x0], 0x0, 0x0⟩ /- DET_HV -/,
   ⟨0x170010, 1, 0x4, 1, 4, .rw, 0xFFFFFFFF, [0xE100898], 0x0, 0x0⟩ /- DET_HV_WIN -/,
   ⟨0x170014, 1, 0x4, 1, 4, .rw, 0x1F, [0x8], 0x0, 0x0⟩ /- DET_QUENCH -/,
   ⟨0x170018, 1, 0x4, 1, 4, .rw, 0xFFF, [0x300], 0x0, 0x0⟩ /- DET_COINC_WIN -/,
   ⟨0x17001C, 1, 0x4, 1, 4, .rw, 0x707, [0x601], 0x0, 0x0⟩ /- DET_ADAPT_CFG -/,
   ⟨0x170020, 5, 0x4, 1, 4, .rw, 0xFFFF, [0x8, 0x64, 0x12C, 0x244, 0x384], 0x0, 0x0⟩ /- DET_ADAPT_TH -/,
   ⟨0x170040, 1, 0x4, 1, 4, .rw, 0xFFFFFFF0, [0x3C0180], 0x0, 0x0⟩ /- DET_SURVEY_CFG -/,
   ⟨0x170044, 1, 0x4, 1, 4, .rw, 0xFFFF, [0xFA], 0x0, 0x0⟩ /- DET_SCREAM_FLOOR -/,
   ⟨0x170048, 1, 0x4, 1, 4, .wo, 0x1, [0x0], 0x0, 0x0⟩ /- DET_SURVEY_GO -/,
   ⟨0x17004C, 1, 0x4, 1, 4, .rw, 0x3F, [0x18], 0x0, 0x0⟩ /- DET_MIN_SPADS -/,
   ⟨0x170050, 1, 0x4, 1, 4, .rw, 0xFFFF, [0x9A], 0x0, 0x0⟩ /- DET_TRIM_TC -/,
   ⟨0x170054, 1, 0x4, 1, 4, .rw, 0xFFFF, [0x1400], 0x0, 0x0⟩ /- DET_TRIM_TREF -/,
   ⟨0x170058, 4, 0x4, 1, 4, .ro, 0xFFFF, [0x0], 0x0, 0x0⟩ /- DET_TEMP -/,
   ⟨0x170070, 1, 0x4, 1, 4, .rw, 0xFFFF, [0x0], 0x0, 0x0⟩ /- DET_COLOUR_OFS -/,
   ⟨0x170074, 1, 0x4, 1, 4, .ro, 0xFFFF, [0x0], 0x0, 0x0⟩ /- DET_COLOUR_LINES -/,
   ⟨0x170078, 1, 0x4, 1, 4, .ro, 0x3, [0x0], 0x0, 0x0⟩ /- DET_COOL_STATUS -/,
   ⟨0x171000, 192, 0x10, 1, 4, .rw, 0xFFFFFFFF, [0xFFFFFFFF], 0x0, 0x0⟩ /- DET_SPAD_EN_LO -/,
   ⟨0x171004, 192, 0x10, 1, 4, .rw, 0xFFFF, [0xFF], 0x0, 0x0⟩ /- DET_SPAD_EN_HI -/,
   ⟨0x171008, 192, 0x10, 1, 4, .rw, 0x3F070100, [0x1E010100], 0x0, 0x0⟩ /- DET_CH_CFG -/,
   ⟨0x17100C, 192, 0x10, 1, 4, .ro, 0xFC703F1F, [0x0], 0x0, 0x0⟩ /- DET_CH_STATUS -/,
   ⟨0x172000, 192, 0x4, 1, 4, .ro, 0xFFFFFF, [0x0], 0x0, 0x0⟩ /- DET_AMB -/,
   ⟨0x172400, 192, 0x4, 1, 4, .ro, 0xFFFF, [0x0], 0x0, 0x0⟩ /- DET_RATE -/,
   ⟨0x172800, 192, 0x8, 1, 4, .ro, 0xFFFFFFFF, [0x0], 0x0, 0x0⟩ /- DET_SCREAM_LO -/,
   ⟨0x172804, 192, 0x8, 1, 4, .ro, 0xFFFF, [0x0], 0x0, 0x0⟩ /- DET_SCREAM_HI -/]

def rowsTDC : List RegRow :=
  [⟨0x180000, 1, 0x4, 1, 4, .rw, 0x1, [0x1], 0x0, 0x0⟩ /- TDC_CTRL -/,
   ⟨0x180004, 1, 0x4, 1, 4, .ro, 0xFFFFFF01, [0x1000D000], 0x0, 0x0⟩ /- TDC_STATUS -/,
   ⟨0x180008, 1, 0x4, 1, 4, .rw, 0xFFFFFFFF, [0x1840C080], 0x0, 0x0⟩ /- TDC_CAL_CFG -/,
   ⟨0x18000C, 1, 0x4, 1, 4, .ro, 0x7FFFFF, [0x1000], 0x0, 0x0⟩ /- TDC_AMB_REQ -/,
   ⟨0x180010, 1, 0x4, 1, 4, .rw, 0x1FFF, [0x1004], 0x0, 0x0⟩ /- TDC_GEN_CFG -/,
   ⟨0x180014, 1, 0x4, 1, 4, .rw, 0xFFFFFFFF, [0x40524000], 0x0, 0x0⟩ /- TDC_BAND -/,
   ⟨0x180018, 1, 0x4, 1, 4, .ro, 0xFFFFFFFF, [0x1400], 0x0, 0x0⟩ /- TDC_VTRIM_CAL -/,
   ⟨0x18001C, 1, 0x4, 1, 4, .rc, 0xFFFFFFFF, [0x0], 0x0, 0x0⟩ /- TDC_PERIOD_SKIPS -/,
   ⟨0x180020, 1, 0x4, 1, 4, .rc, 0xFFFF, [0x0], 0x0, 0x0⟩ /- TDC_EVT_INFO -/,
   ⟨0x180024, 1, 0x4, 1, 4, .rc, 0xFF00FFFF, [0x0], 0x0, 0x0⟩ /- TDC_CFG_ERR -/,
   ⟨0x180200, 192, 0x4, 1, 4, .ro, 0xFF, [0x0], 0x1, 0x0⟩ /- TDC_XBAR -/,
   ⟨0x180600, 192, 0x4, 1, 4, .ro, 0xFFFF, [0x0], 0x0, 0x0⟩ /- TDC_LINK_SKEW -/,
   ⟨0x181000, 192, 0x40, 1, 4, .ro, 0xF3FFFFFF, [0x0], 0x10000, 0x0⟩ /- TDC_LANE_STATUS -/,
   ⟨0x184000, 16, 0x40, 1, 4, .ro, 0xF3FFFFFF, [0x40FF0000], 0x0, 0x0⟩ /- TDC_LANE_STATUS -/,
   ⟨0x181004, 208, 0x40, 1, 4, .ro, 0xFFFFFFFF, [0x400000], 0x0, 0x0⟩ /- TDC_PERIOD -/,
   ⟨0x181008, 208, 0x40, 1, 4, .ro, 0xFFFF, [0x0], 0x0, 0x0⟩ /- TDC_LANE_SKEW -/,
   ⟨0x18100C, 208, 0x40, 1, 4, .rc, 0xFFFFFFFF, [0x0], 0x0, 0x0⟩ /- TDC_DROP -/,
   ⟨0x181010, 208, 0x40, 1, 4, .ro, 0x7FFFFF, [0x0], 0x0, 0x0⟩ /- TDC_CAL_EDGES -/,
   ⟨0x181014, 208, 0x40, 1, 4, .ro, 0x3F3F, [0x2020], 0x0, 0x0⟩ /- TDC_VTRIM -/,
   ⟨0x181018, 208, 0x40, 1, 4, .w1s, 0x1, [0x0], 0x0, 0x0⟩ /- TDC_LANE_RESET -/,
   ⟨0x18101C, 208, 0x40, 1, 4, .rc, 0xFFFFFFFF, [0x0], 0x0, 0x0⟩ /- EVL_LOST_ITEMS -/,
   ⟨0x181020, 208, 0x40, 1, 4, .rc, 0xFFFF, [0x0], 0x0, 0x0⟩ /- EVL_PARITY -/,
   ⟨0x181024, 208, 0x40, 1, 4, .ro, 0xF, [0x0], 0x0, 0x0⟩ /- EVL_DEPTH -/,
   ⟨0x186000, 208, 0x80, 32, 4, .ro, 0xFFFF, [0x6000200], 0x0, 0x8000800⟩ /- TDC_CAL_TABLE -/]

def rowsHST : List RegRow :=
  [⟨0x200000, 1, 0x4, 1, 4, .rw, 0x31FFF, [0x11000], 0x0, 0x0⟩ /- HST_COARSE_CFG -/,
   ⟨0x200004, 1, 0x4, 1, 4, .rw, 0x1F0701FF, [0x8040100], 0x0, 0x0⟩ /- HST_ZOOM_CFG -/,
   ⟨0x200008, 1, 0x4, 1, 4, .rw, 0xFFFF0FF3, [0x2100220], 0x0, 0x0⟩ /- HST_PICK_CFG -/,
   ⟨0x20000C, 1, 0x4, 1, 4, .rw, 0xFFFF0003, [0xC380001], 0x0, 0x0⟩ /- HST_VEIL_CFG -/,
   ⟨0x200010, 1, 0x4, 1, 4, .rw, 0xFFF00FF, [0x1000080], 0x0, 0x0⟩ /- HST_CONS_CFG -/,
   ⟨0x200020, 1, 0x4, 1, 4, .wo, 0x3, [0x0], 0x0, 0x0⟩ /- HST_COMMIT -/,
   ⟨0x200024, 1, 0x4, 1, 4, .ro, 0xFFFF, [0x0], 0x0, 0x0⟩ /- HST_GEN -/,
   ⟨0x200028, 1, 0x4, 1, 4, .ro, 0x1, [0x0], 0x0, 0x0⟩ /- HST_STATUS -/,
   ⟨0x20002C, 1, 0x4, 1, 4, .rc, 0xFF00FFFF, [0x0], 0x0, 0x0⟩ /- HST_CFG_ERR -/,
   ⟨0x200030, 1, 0x4, 1, 4, .rc, 0xFFFFFFFF, [0x0], 0x0, 0x0⟩ /- HST_LATE -/,
   ⟨0x200034, 1, 0x4, 1, 4, .rw, 0xDF00FFFF, [0x40], 0x0, 0x0⟩ /- HST_TAP_CFG -/,
   ⟨0x200038, 1, 0x4, 1, 4, .rc, 0xFFFFFFFF, [0x0], 0x0, 0x0⟩ /- HST_TAP_DROP -/,
   ⟨0x200040, 8, 0x4, 1, 4, .rw, 0x800000FF, [0x0], 0x0, 0x0⟩ /- HST_TAP_CH -/,
   ⟨0x201000, 192, 0x10, 1, 4, .ro, 0x7F7F7F07, [0x0], 0x0, 0x0⟩ /- HST_CH_SHOTS -/,
   ⟨0x201004, 192, 0x10, 1, 4, .ro, 0xFFFFFFFF, [0x0], 0x0, 0x0⟩ /- HST_CH_AMB -/,
   ⟨0x201008, 192, 0x10, 1, 4, .ro, 0xFFFFFFFF, [0x0], 0x0, 0x0⟩ /- HST_CH_WIN -/,
   ⟨0x20100C, 192, 0x10, 1, 4, .rc, 0xFFFFFFFF, [0x0], 0x0, 0x0⟩ /- HST_CH_ERR -/]

def rowsPNT : List RegRow :=
  [⟨0x280000, 1, 0x4, 1, 4, .ro, 0xFFFFFF01, [0x4003000], 0x0, 0x0⟩ /- PNT_STATUS -/,
   ⟨0x280004, 1, 0x4, 1, 4, .rw, 0x70F, [0x403], 0x0, 0x0⟩ /- PNT_CHAIN_CFG -/,
   ⟨0x280008, 1, 0x4, 1, 4, .rw, 0xF, [0x2], 0x0, 0x0⟩ /- PNT_PEAK_CFG -/,
   ⟨0x28000C, 1, 0x4, 1, 4, .rw, 0xFF00, [0x400], 0x0, 0x0⟩ /- PNT_CONF_CFG -/,
   ⟨0x280010, 1, 0x4, 1, 4, .rw, 0xFF, [0x30], 0x0, 0x0⟩ /- PNT_VEIL_CLS -/,
   ⟨0x280014, 1, 0x4, 1, 4, .rw, 0xFFFFFFFF, [0x641000], 0x0, 0x0⟩ /- PNT_INT_CFG -/,
   ⟨0x280018, 1, 0x4, 1, 4, .rw, 0x1, [0x0], 0x0, 0x0⟩ /- PNT_KERNEL_CTRL -/,
   ⟨0x28001C, 1, 0x4, 1, 4, .ro, 0xE100FFFF, [0x0], 0x0, 0x0⟩ /- PNT_KSTATUS -/,
   ⟨0x280020, 1, 0x4, 1, 4, .rc, 0xFF00FFFF, [0x0], 0x0, 0x0⟩ /- PNT_CFG_ERR -/,
   ⟨0x280024, 1, 0x4, 1, 4, .rc, 0xFFFFFFFF, [0x0], 0x0, 0x0⟩ /- PNT_KFAULT -/,
   ⟨0x280028, 1, 0x4, 1, 4, .rc, 0xFFFFFFFF, [0x0], 0x0, 0x0⟩ /- PNT_LINE_LOST -/,
   ⟨0x28002C, 1, 0x4, 1, 4, .rc, 0xFFFFFFFF, [0x0], 0x0, 0x0⟩ /- PNT_REPLAYS -/,
   ⟨0x280040, 1, 0x4, 1, 4, .rw, 0xFF000001, [0xC0000000], 0x0, 0x0⟩ /- PNT_PKT_CFG -/,
   ⟨0x280044, 1, 0x4, 1, 4, .rw, 0xFFFFFFFF, [0x0], 0x0, 0x0⟩ /- PNT_PKT_STREAM_ID -/,
   ⟨0x280048, 1, 0x4, 1, 4, .rw, 0xFFFF, [0x7175], 0x0, 0x0⟩ /- PNT_PKT_ROUTE -/,
   ⟨0x28004C, 1, 0x4, 1, 4, .rw, 0x1F1F, [0x0], 0x0, 0x0⟩ /- PNT_PKT_QUEUE -/,
   ⟨0x280050, 1, 0x4, 1, 4, .ro, 0xFFFFFFFF, [0x0], 0x0, 0x0⟩ /- PNT_PKT_SEQ_LO -/,
   ⟨0x280054, 1, 0x4, 1, 4, .ro, 0xFFFFFFFF, [0x0], 0x0, 0x0⟩ /- PNT_PKT_SEQ_HI -/,
   ⟨0x280058, 1, 0x4, 1, 4, .ro, 0xC00000FF, [0x0], 0x0, 0x0⟩ /- PNT_PKT_STATUS -/,
   ⟨0x280060, 3, 0x4, 1, 4, .rc, 0xFFFFFFFF, [0x0], 0x0, 0x0⟩ /- PNT_PKT_DROP -/,
   ⟨0x280070, 1, 0x4, 1, 4, .rc, 0xFFFFFFFF, [0x0], 0x0, 0x0⟩ /- PNT_PKT_UNSIGNED -/,
   ⟨0x280100, 48, 0x4, 1, 4, .ro, 0xC700FFFF, [0x4000000], 0x0, 0x0⟩ /- PNT_ENG_STATUS -/,
   ⟨0x2801C0, 4, 0x4, 1, 4, .ro, 0xC700FFFF, [0x40000000], 0x0, 0x0⟩ /- PNT_ENG_STATUS -/]

def rowsIMG : List RegRow :=
  [⟨0x300000, 1, 0x4, 1, 4, .rw, 0x1, [0x0], 0x0, 0x0⟩ /- IMG_CTRL -/,
   ⟨0x300004, 1, 0x4, 1, 4, .ro, 0xF87FFFFF, [0x600000], 0x0, 0x0⟩ /- IMG_STATUS -/,
   ⟨0x300008, 1, 0x4, 1, 4, .rc, 0xFF00FFFF, [0x0], 0x0, 0x0⟩ /- IMG_CFG_ERR -/,
   ⟨0x30000C, 1, 0x4, 1, 4, .wo, 0x1, [0x0], 0x0, 0x0⟩ /- IMG_COMMIT -/,
   ⟨0x300010, 1, 0x4, 1, 4, .ro, 0xFFFF, [0x0], 0x0, 0x0⟩ /- IMG_GEN -/,
   ⟨0x300014, 1, 0x4, 1, 4, .ro, 0xFFFFFFFF, [0x0], 0x0, 0x0⟩ /- IMG_APPLIED_FRAME -/,
   ⟨0x300018, 1, 0x4, 1, 4, .ro, 0x1F1FFFFF, [0x0], 0x0, 0x0⟩ /- IMG_TDI_STATE -/,
   ⟨0x300020, 1, 0x4, 1, 4, .rw, 0xE303FFFF, [0x1900], 0x0, 0x0⟩ /- IMG_TDI_CFG -/,
   ⟨0x300024, 1, 0x4, 1, 4, .rw, 0x300007FF, [0x400], 0x0, 0x0⟩ /- IMG_SET_A -/,
   ⟨0x300028, 1, 0x4, 1, 4, .rw, 0x300007FF, [0x40], 0x0, 0x0⟩ /- IMG_SET_B -/,
   ⟨0x30002C, 1, 0x4, 1, 4, .rw, 0x7FF07FF, [0x6000000], 0x0, 0x0⟩ /- IMG_ROWS -/,
   ⟨0x300030, 1, 0x4, 1, 4, .rw, 0x7FFF3FFF, [0x0], 0x0, 0x0⟩ /- IMG_LINES -/,
   ⟨0x300034, 1, 0x4, 1, 4, .rw, 0x3, [0x0], 0x0, 0x0⟩ /- IMG_BIN -/,
   ⟨0x300038, 1, 0x4, 1, 4, .rw, 0xC0FF3FFF, [0xFF0000], 0x0, 0x0⟩ /- IMG_TRIG_CFG -/,
   ⟨0x30003C, 1, 0x4, 1, 4, .rw, 0xFFFF, [0x0], 0x0, 0x0⟩ /- IMG_TRIG_ANGLE -/,
   ⟨0x300040, 1, 0x4, 1, 4, .rw, 0x3FFF00FF, [0x1000018], 0x0, 0x0⟩ /- IMG_CONV_CFG -/,
   ⟨0x300060, 1, 0x4, 1, 4, .rc, 0xFFFFFFFF, [0x0], 0x0, 0x0⟩ /- IMG_LINE_ERR -/,
   ⟨0x300064, 1, 0x4, 1, 4, .rc, 0xFFFF, [0x0], 0x0, 0x0⟩ /- IMG_TRIG_MISSED -/,
   ⟨0x300200, 96, 0x4, 1, 4, .ro, 0xC01F00FF, [0x0], 0x0, 0x0⟩ /- IMG_CONV_GROUP -/,
   ⟨0x300400, 96, 0x4, 1, 4, .ro, 0xFFFFFFFF, [0x0], 0x0, 0x0⟩ /- IMG_DEFECT -/]

def rowsISP : List RegRow :=
  [⟨0x340000, 1, 0x4, 1, 4, .rw, 0x3, [0x1], 0x0, 0x0⟩ /- ISP_CTRL -/,
   ⟨0x340004, 1, 0x4, 1, 4, .ro, 0xC000003F, [0x0], 0x0, 0x0⟩ /- ISP_STATUS -/,
   ⟨0x340008, 1, 0x4, 1, 4, .rw, 0x1F, [0x1F], 0x0, 0x0⟩ /- ISP_CFG -/,
   ⟨0x34000C, 1, 0x4, 1, 4, .rw, 0x3FFF000F, [0x400008], 0x0, 0x0⟩ /- ISP_SNR -/,
   ⟨0x340010, 1, 0x4, 1, 4, .rw, 0xBFFF000F, [0x800008], 0x0, 0x0⟩ /- ISP_TNR -/,
   ⟨0x340014, 1, 0x4, 1, 4, .rw, 0x3FFF, [0x3E80], 0x0, 0x0⟩ /- ISP_HDR -/,
   ⟨0x340018, 1, 0x4, 1, 4, .rw, 0xFFFFF, [0x100], 0x0, 0x0⟩ /- ISP_DEMOSAIC -/,
   ⟨0x340020, 8, 0x4, 1, 4, .rw, 0xFFFFFFFF, [0x1000, 0x0, 0x10000000, 0x0, 0x0, 0x1000, 0x0, 0x10000000], 0x0, 0x0⟩ /- ISP_CCM -/,
   ⟨0x340040, 1, 0x4, 1, 4, .rw, 0xFF000007, [0x24000000], 0x0, 0x0⟩ /- ISP_OUT -/,
   ⟨0x340044, 1, 0x4, 1, 4, .rw, 0xF, [0x0], 0x0, 0x0⟩ /- ISP_FUSE -/,
   ⟨0x340048, 1, 0x4, 1, 4, .rw, 0xF, [0x6], 0x0, 0x0⟩ /- ISP_STAT_CFG -/,
   ⟨0x34004C, 1, 0x4, 1, 4, .ro, 0xFFFFFF, [0x100], 0x0, 0x0⟩ /- ISP_HDR_RATIO -/,
   ⟨0x340050, 1, 0x4, 1, 4, .rw, 0xFFFF, [0x0], 0x0, 0x0⟩ /- ISP_MEM_BASE -/,
   ⟨0x340054, 1, 0x4, 1, 4, .rw, 0xFFFF, [0x0], 0x0, 0x0⟩ /- ISP_MEM_CTRL -/,
   ⟨0x340060, 1, 0x4, 1, 4, .rt, 0xFFFFFFFF, [0x0], 0x0, 0x0⟩ /- ISP_STAT_INFO -/,
   ⟨0x340064, 1, 0x4, 1, 4, .ro, 0xFFFFFFFF, [0x0], 0x0, 0x0⟩ /- ISP_STAT_GEN -/,
   ⟨0x340068, 1, 0x4, 1, 4, .ro, 0xC000FFFF, [0x0], 0x0, 0x0⟩ /- ISP_STAT_LINES -/,
   ⟨0x340070, 1, 0x4, 1, 4, .rc, 0xFFFFFFFF, [0x0], 0x0, 0x0⟩ /- ISP_DROP -/,
   ⟨0x340074, 1, 0x4, 1, 4, .rc, 0xFFFFFFFF, [0x0], 0x0, 0x0⟩ /- ISP_TNR_SKIP -/,
   ⟨0x341000, 192, 0x10, 4, 4, .ro, 0xFF0FFFFF, [0x0], 0x0, 0x0⟩ /- ISP_STAT_ZONE -/,
   ⟨0x341C00, 192, 0x4, 1, 4, .ro, 0x1FFFF, [0x0], 0x0, 0x0⟩ /- ISP_STAT_ZCNT -/,
   ⟨0x342000, 4, 0x400, 256, 4, .ro, 0xFFFFFFFF, [0x0], 0x0, 0x0⟩ /- ISP_STAT_HIST -/,
   ⟨0x344000, 3072, 0x4, 1, 4, .ro, 0xFFFFFFFF, [0x40000000], 0x0, 0x0⟩ /- ISP_FPN -/]

def rowsCTL : List RegRow :=
  [⟨0x380000, 1, 0x4, 1, 4, .ro, 0x3FFFF7F, [0x0], 0x0, 0x0⟩ /- CTL_STATUS -/,
   ⟨0x380004, 1, 0x4, 1, 4, .ro, 0x7FFFFF, [0x53020], 0x0, 0x0⟩ /- CTL_LOAD -/,
   ⟨0x380008, 1, 0x4, 1, 4, .rc, 0xFFFF00FF, [0x0], 0x0, 0x0⟩ /- CTL_EVT_INFO -/,
   ⟨0x380010, 1, 0x4, 1, 4, .rw, 0xFFFF0FF8, [0x10000640], 0x0, 0x0⟩ /- CTL_ENC_CFG -/,
   ⟨0x380014, 1, 0x4, 1, 4, .rw, 0xFFFFFF00, [0x9C41400], 0x0, 0x0⟩ /- CTL_PWM_CFG -/,
   ⟨0x380018, 1, 0x4, 1, 4, .rw, 0x3FFF, [0x3000], 0x0, 0x0⟩ /- CTL_MOTOR_ITRIP -/,
   ⟨0x38001C, 1, 0x4, 1, 4, .rw, 0x3FFF, [0x3000], 0x0, 0x0⟩ /- CTL_COOL_ITRIP -/,
   ⟨0x380020, 1, 0x4, 1, 4, .rw, 0xFFFFFFFF, [0x100604], 0x0, 0x0⟩ /- CTL_LOCK_CFG -/,
   ⟨0x380024, 1, 0x4, 1, 4, .rw, 0xFFFF0001, [0x0], 0x0, 0x0⟩ /- CTL_PHASE_REF -/,
   ⟨0x380028, 1, 0x4, 1, 4, .ro, 0xFFFF, [0x0], 0x0, 0x0⟩ /- CTL_PHASE_ERR -/,
   ⟨0x38002C, 1, 0x4, 1, 4, .ro, 0xFFFF, [0x0], 0x0, 0x0⟩ /- CTL_SPEED -/,
   ⟨0x380030, 1, 0x4, 1, 4, .ro, 0xFFFFFFFF, [0x0], 0x0, 0x0⟩ /- CTL_LINE_T -/,
   ⟨0x380034, 1, 0x4, 1, 4, .rc, 0xFFFF, [0x0], 0x0, 0x0⟩ /- CTL_ENC_ERR -/,
   ⟨0x380040, 1, 0x4, 1, 4, .rw, 0xE0000FFF, [0x60000008], 0x0, 0x0⟩ /- CTL_RC_CFG -/,
   ⟨0x380044, 1, 0x4, 1, 4, .rw, 0xFFFFFFFF, [0x20007FBE], 0x0, 0x0⟩ /- CTL_RC_GAIN -/,
   ⟨0x380048, 1, 0x4, 1, 4, .rw, 0xFFFF, [0x2000], 0x0, 0x0⟩ /- CTL_RC_LIMIT -/,
   ⟨0x38004C, 1, 0x4, 1, 4, .ro, 0x1FFF, [0x0], 0x0, 0x0⟩ /- CTL_RC_SAT -/,
   ⟨0x380800, 8, 0x4, 1, 4, .rw, 0xFFFF, [0x0], 0x0, 0x0⟩ /- CTL_FL_SP -/,
   ⟨0x380820, 1, 0x4, 1, 4, .rw, 0xFF, [0x0], 0x0, 0x0⟩ /- CTL_FL_CLOSE -/,
   ⟨0x382000, 2048, 0x4, 1, 4, .rw, 0xFFFFFFFF, [0x0], 0x0, 0x0⟩ /- CTL_RC_TABLE -/,
   ⟨0x384000, 256, 0x4, 1, 4, .rw, 0xFFFFFFFF, [0x0], 0x0, 0x0⟩ /- CTL_COG_TABLE -/,
   ⟨0x384400, 256, 0x4, 1, 4, .rw, 0xFFFFFFFF, [0x0], 0x0, 0x0⟩ /- CTL_FRIC_TABLE -/,
   ⟨0x381000, 8, 0x80, 1, 4, .rw, 0x7, [0x0], 0x0, 0x0⟩ /- CTL_SLOT_CTRL -/,
   ⟨0x381004, 8, 0x80, 1, 4, .rw, 0xFFFFFFEF, [0x10280000, 0x10280000, 0x100A1000, 0x20280000, 0x300A0020, 0x40140040, 0xA0000, 0xA0000], 0x0, 0x0⟩ /- CTL_SLOT_CFG -/,
   ⟨0x381008, 8, 0x80, 1, 4, .rw, 0xFFFF, [0x0], 0x0, 0x0⟩ /- CTL_KP -/,
   ⟨0x38100C, 8, 0x80, 1, 4, .rw, 0xFFFF, [0x0], 0x0, 0x0⟩ /- CTL_KI -/,
   ⟨0x381010, 8, 0x80, 1, 4, .rw, 0xFFFF, [0x0], 0x0, 0x0⟩ /- CTL_KD -/,
   ⟨0x381014, 8, 0x80, 1, 4, .rw, 0xFFFF, [0x0], 0x0, 0x0⟩ /- CTL_KF -/,
   ⟨0x381018, 8, 0x80, 1, 4, .rw, 0x7FFF, [0x0], 0x0, 0x0⟩ /- CTL_ILIM -/,
   ⟨0x38101C, 8, 0x80, 1, 4, .rw, 0xFFFFFFFF, [0x0], 0x0, 0x0⟩ /- CTL_OUT_LIM -/] ++
  [⟨0x381020, 8, 0x80, 1, 4, .rw, 0xFFFF, [0x20], 0x0, 0x0⟩ /- CTL_SLEW -/,
   ⟨0x381024, 8, 0x80, 1, 4, .rw, 0xFFFF, [0x0, 0x0, 0x0, 0x0, 0x1400, 0x0, 0x0, 0x0], 0x0, 0x0⟩ /- CTL_SP -/,
   ⟨0x381028, 8, 0x80, 1, 4, .rw, 0xFFFFFFFF, [0x7FFF8000], 0x0, 0x0⟩ /- CTL_SP_LIM -/,
   ⟨0x38102C, 8, 0x80, 1, 4, .rw, 0xFFFF, [0x0], 0x0, 0x0⟩ /- CTL_SP_RATE -/,
   ⟨0x381030, 8, 0x80, 1, 4, .rw, 0xFFFF, [0x0], 0x0, 0x0⟩ /- CTL_SP_ACC -/,
   ⟨0x381034, 8, 0x80, 1, 4, .rw, 0xFFFF, [0x0], 0x0, 0x0⟩ /- CTL_MANUAL -/,
   ⟨0x381038, 8, 0x80, 1, 4, .ro, 0xFFFF, [0x0], 0x0, 0x0⟩ /- CTL_OUT -/,
   ⟨0x38103C, 8, 0x80, 1, 4, .ro, 0xFFFF, [0x0], 0x0, 0x0⟩ /- CTL_MEAS -/,
   ⟨0x381040, 8, 0x80, 1, 4, .ro, 0xFFFF, [0x0], 0x0, 0x0⟩ /- CTL_INTEG -/,
   ⟨0x381044, 8, 0x80, 1, 4, .ro, 0xFFFF, [0x0], 0x0, 0x0⟩ /- CTL_SP_NOW -/]

def rowsAFE : List RegRow :=
  [⟨0x3C0000, 1, 0x4, 1, 4, .rw, 0xFF, [0x0], 0x0, 0x0⟩ /- AFE_CTRL -/,
   ⟨0x3C0004, 1, 0x4, 1, 4, .ro, 0xFFFFFF, [0x0], 0x0, 0x0⟩ /- AFE_STATUS -/,
   ⟨0x3C0008, 1, 0x4, 1, 4, .rc, 0xFF00FFFF, [0x0], 0x0, 0x0⟩ /- AFE_CFG_ERR -/,
   ⟨0x3C000C, 1, 0x4, 1, 4, .rc, 0xF03, [0x0], 0x0, 0x0⟩ /- FLT_EVT_INFO -/,
   ⟨0x3C0010, 1, 0x4, 1, 4, .rw, 0x0, [0x0], 0x0, 0x0⟩ /- FLT_TRIP -/,
   ⟨0x3C0100, 8, 0x40, 1, 4, .rw, 0x330F, [0x1000], 0x0, 0x0⟩ /- AFE_MODE -/,
   ⟨0x3C0104, 8, 0x40, 1, 4, .rw, 0xFFF0FFF, [0x3E803E8], 0x0, 0x0⟩ /- AFE_EXC -/,
   ⟨0x3C0108, 8, 0x40, 1, 4, .rw, 0xFFFFFFFF, [0x0], 0x0, 0x0⟩ /- AFE_PHASE -/,
   ⟨0x3C010C, 8, 0x40, 1, 4, .rw, 0x3FFF00FF, [0x640014], 0x0, 0x0⟩ /- AFE_CHG -/,
   ⟨0x3C0110, 8, 0x40, 1, 4, .rw, 0xFFFF, [0x0], 0x0, 0x0⟩ /- AFE_LEAD -/,
   ⟨0x3C0114, 8, 0x40, 1, 4, .ro, 0xFFFFFFFF, [0x0], 0x0, 0x0⟩ /- AFE_RAW -/,
   ⟨0x3C0118, 8, 0x40, 1, 4, .rw, 0xFFFF, [0x800], 0x0, 0x0⟩ /- AFE_LIM -/,
   ⟨0x3C011C, 8, 0x40, 1, 4, .ro, 0x7, [0x0], 0x0, 0x0⟩ /- AFE_FAULT -/,
   ⟨0x3C1000, 8, 0x100, 1, 4, .rw, 0x3F, [0x0], 0x1, 0x0⟩ /- FLT_SRC -/,
   ⟨0x3C1800, 4, 0x100, 1, 4, .rw, 0x3F, [0x0], 0x0, 0x0⟩ /- FLT_SRC -/,
   ⟨0x3C1004, 12, 0x100, 1, 4, .rw, 0x1F77FF, [0x100], 0x0, 0x0⟩ /- FLT_POLY_CFG -/,
   ⟨0x3C1008, 12, 0x100, 1, 4, .rw, 0xFFFF, [0x1400], 0x0, 0x0⟩ /- FLT_TREF -/,
   ⟨0x3C100C, 12, 0x100, 1, 4, .ro, 0xFC00FFFF, [0x80000000], 0x0, 0x0⟩ /- FLT_VALUE -/,
   ⟨0x3C1010, 12, 0x100, 1, 4, .ro, 0xFFFFFFFF, [0x0], 0x0, 0x0⟩ /- FLT_COUNT -/,
   ⟨0x3C1020, 12, 0x100, 4, 4, .rw, 0xFFFFFFFF, [0x0], 0x0, 0x0⟩ /- FLT_COEF -/,
   ⟨0x3C1030, 12, 0x100, 1, 4, .rw, 0xFFFFFFFF, [0x8000], 0x0, 0x0⟩ /- FLT_COEF -/,
   ⟨0x3C1034, 12, 0x100, 19, 4, .rw, 0xFFFFFFFF, [0x0], 0x0, 0x0⟩ /- FLT_COEF -/,
   ⟨0x3C1080, 12, 0x100, 4, 8, .rw, 0x7FFFFFFF, [0x0], 0x0, 0x0⟩ /- FLT_SW_LEVEL -/,
   ⟨0x3C1084, 12, 0x100, 4, 8, .rw, 0xF78F00FF, [0x0], 0x0, 0x0⟩ /- FLT_SW_CFG -/,
   ⟨0x3C10A0, 12, 0x100, 1, 4, .ro, 0xFF, [0x0], 0x0, 0x0⟩ /- FLT_SW_STATE -/,
   ⟨0x3C10A4, 12, 0x100, 1, 4, .rw, 0xF000F, [0x4000A], 0x0, 0x0⟩ /- FLT_DET_CFG -/,
   ⟨0x3C10A8, 12, 0x100, 1, 4, .rt, 0xFFFFFFFF, [0x80007FFF], 0x0, 0x0⟩ /- FLT_PEAK -/,
   ⟨0x3C10AC, 12, 0x100, 1, 4, .ro, 0xFFFF, [0x0], 0x0, 0x0⟩ /- FLT_RMS -/,
   ⟨0x3C10B0, 12, 0x100, 1, 4, .ro, 0xFFFF, [0x0], 0x0, 0x0⟩ /- FLT_ENV -/,
   ⟨0x3C10B4, 12, 0x100, 1, 4, .w1s, 0x1, [0x0], 0x0, 0x0⟩ /- FLT_DET_RESTART -/]

def rowsADC : List RegRow :=
  [⟨0x400000, 1, 0x4, 1, 4, .rw, 0x13, [0x0], 0x0, 0x0⟩ /- ADC_CTRL -/,
   ⟨0x400004, 1, 0x4, 1, 4, .ro, 0xF000007F, [0x0], 0x0, 0x0⟩ /- ADC_STATUS -/,
   ⟨0x400008, 1, 0x4, 1, 4, .rc, 0xFF00FFFF, [0x0], 0x0, 0x0⟩ /- ADC_CFG_ERR -/,
   ⟨0x40000C, 1, 0x4, 1, 4, .rw, 0xC07FFFFF, [0x64], 0x0, 0x0⟩ /- ADC_SEQ_CFG -/,
   ⟨0x400010, 1, 0x4, 1, 4, .wo, 0x1, [0x0], 0x0, 0x0⟩ /- ADC_COMMIT -/,
   ⟨0x400014, 1, 0x4, 1, 4, .wo, 0x1, [0x0], 0x0, 0x0⟩ /- ADC_GO -/,
   ⟨0x400018, 1, 0x4, 1, 4, .rw, 0xFFFF, [0x1018], 0x0, 0x0⟩ /- ADC_CHECK_CFG -/,
   ⟨0x40001C, 1, 0x4, 1, 4, .ro, 0x3FFF3FFF, [0x0], 0x0, 0x0⟩ /- ADC_CHECK -/,
   ⟨0x400020, 1, 0x4, 1, 4, .ro, 0x3FFF3FFF, [0x0], 0x0, 0x0⟩ /- ADC_SYS_BIAS -/,
   ⟨0x400024, 1, 0x4, 1, 4, .rt, 0xFFFFFFFF, [0x0], 0x0, 0x0⟩ /- ADC_SEQ_NUM -/,
   ⟨0x400028, 1, 0x4, 1, 4, .rc, 0xFFFFFFFF, [0x0], 0x0, 0x0⟩ /- ADC_OVERRUN -/,
   ⟨0x40002C, 1, 0x4, 1, 4, .rc, 0xFFFFFFFF, [0x0], 0x0, 0x0⟩ /- ADC_DISAGREE_CNT -/,
   ⟨0x400100, 64, 0x4, 1, 4, .rw, 0xFF9F1F9F, [0x0], 0x0, 0x0⟩ /- ADC_STEP -/,
   ⟨0x400200, 2, 0x100, 64, 4, .ro, 0xF000FFFF, [0x0], 0x0, 0x0⟩ /- ADC_RESULT -/]

def rowsTHM : List RegRow :=
  [⟨0x410000, 1, 0x4, 1, 4, .ro, 0xFFF81FDF, [0x0], 0x0, 0x0⟩ /- THM_STATUS -/,
   ⟨0x410004, 1, 0x4, 1, 4, .rw, 0xFFFFFFFF, [0x7D736964], 0x0, 0x0⟩ /- THM_LEVEL_LOGIC -/,
   ⟨0x410008, 1, 0x4, 1, 4, .rw, 0xFFFFFFFF, [0x463C322D], 0x0, 0x0⟩ /- THM_LEVEL_DET -/,
   ⟨0x41000C, 1, 0x4, 1, 4, .rw, 0xFFFF, [0x2008], 0x0, 0x0⟩ /- THM_RATE -/,
   ⟨0x410010, 1, 0x4, 1, 4, .rw, 0xFFFFFF0F, [0xC0A0A00], 0x0, 0x0⟩ /- THM_STEP_CFG -/,
   ⟨0x410014, 1, 0x4, 1, 4, .rw, 0xFF, [0x32], 0x0, 0x0⟩ /- THM_CRIT_GRACE -/,
   ⟨0x410018, 1, 0x4, 1, 4, .w1s, 0x1, [0x0], 0x0, 0x0⟩ /- THM_STOP_DONE -/,
   ⟨0x41001C, 1, 0x4, 1, 4, .ro, 0xFFFFFFF, [0x0], 0x0, 0x0⟩ /- THM_FAILED -/,
   ⟨0x410020, 1, 0x4, 1, 4, .w1s, 0xFFFFFFF, [0x0], 0x0, 0x0⟩ /- THM_RETEST -/,
   ⟨0x410024, 1, 0x4, 1, 4, .rc, 0x1F0F, [0x0], 0x0, 0x0⟩ /- THM_EVT_INFO -/,
   ⟨0x410028, 1, 0x4, 1, 4, .rc, 0xFF00FFFF, [0x0], 0x0, 0x0⟩ /- THM_CFG_ERR -/,
   ⟨0x410100, 28, 0x4, 1, 4, .ro, 0xE000FFFF, [0x0], 0x0, 0x0⟩ /- THM_TEMP -/,
   ⟨0x410180, 28, 0x4, 1, 4, .ro, 0xFFFF, [0x0], 0x0, 0x0⟩ /- THM_RATE_NOW -/,
   ⟨0x410200, 28, 0x4, 1, 4, .rw, 0x7FFF, [0x0], 0x0, 0x0⟩ /- THM_NEIGH -/,
   ⟨0x410280, 28, 0x4, 1, 4, .ro, 0xFFFFFFFF, [0x0], 0x0, 0x0⟩ /- THM_TRIM -/,
   ⟨0x410300, 28, 0x4, 1, 4, .rw, 0xFFFFFF, [0x0], 0x0, 0x0⟩ /- THM_NEIGH_OFS -/]

def rowsCAL : List RegRow :=
  [⟨0x420000, 1, 0x4, 1, 4, .w1s, 0x3, [0x0], 0x0, 0x0⟩ /- CAL_CTRL -/,
   ⟨0x420004, 1, 0x4, 1, 4, .rw, 0x9F000000, [0x0], 0x0, 0x0⟩ /- CAL_XFER -/,
   ⟨0x420008, 1, 0x4, 1, 4, .ro, 0xF8070000, [0x70000], 0x0, 0x0⟩ /- CAL_STATUS -/,
   ⟨0x42000C, 1, 0x4, 1, 4, .ro, 0xFFFFFFFF, [0x0], 0x0, 0x0⟩ /- CAL_EPOCH -/,
   ⟨0x420010, 1, 0x4, 1, 4, .ro, 0xFFFFFFFF, [0x0], 0x0, 0x0⟩ /- CAL_EXPORT_EPOCH -/,
   ⟨0x420014, 1, 0x4, 1, 4, .rc, 0xFF00FFFF, [0x0], 0x0, 0x0⟩ /- CAL_ERR -/,
   ⟨0x420018, 1, 0x4, 1, 4, .wo, 0xF0000FFF, [0x0], 0x0, 0x0⟩ /- CAL_RESEL -/,
   ⟨0x42001C, 1, 0x4, 1, 4, .rc, 0xCF000FFF, [0x0], 0x0, 0x0⟩ /- CAL_RESEL_STATUS -/,
   ⟨0x420020, 1, 0x4, 1, 4, .rc, 0xFFFFFFFF, [0x0], 0x0, 0x0⟩ /- CAL_FIXES -/,
   ⟨0x420024, 1, 0x4, 1, 4, .rc, 0xFFFFFFFF, [0x0], 0x0, 0x0⟩ /- CAL_SPLIT_CNT -/,
   ⟨0x420028, 1, 0x4, 1, 4, .ro, 0x3, [0x3], 0x0, 0x0⟩ /- CAL_GLOBAL_UNCAL -/,
   ⟨0x420030, 3, 0x4, 1, 4, .ro, 0x81FFFFFF, [0x80140000], 0x10000, 0x0⟩ /- CAL_COPY -/,
   ⟨0x420040, 6, 0x4, 1, 4, .ro, 0xFFFFFFFF, [0xFFFFFFFF], 0x0, 0x0⟩ /- CAL_UNCAL -/]

def rowsSEC : List RegRow :=
  [⟨0x430000, 1, 0x4, 1, 4, .ro, 0xEE000000, [0x0], 0x0, 0x0⟩ /- SEC_STATUS -/,
   ⟨0x430004, 1, 0x4, 1, 4, .w1s, 0x7, [0x0], 0x0, 0x0⟩ /- SEC_CFG -/,
   ⟨0x430008, 1, 0x4, 1, 4, .rw, 0x3FFFF, [0x1166], 0x0, 0x0⟩ /- SEC_RESP -/,
   ⟨0x43000C, 1, 0x4, 1, 4, .wo, 0xC0000003, [0x0], 0x0, 0x0⟩ /- SEC_KEY_CMD -/,
   ⟨0x430010, 1, 0x4, 1, 4, .ro, 0x8F0F000F, [0x0], 0x0, 0x0⟩ /- SEC_KEY_STATUS -/,
   ⟨0x430014, 4, 0x4, 1, 4, .ro, 0xFFFFFF, [0x0], 0x0, 0x0⟩ /- SEC_KEY_KCV -/,
   ⟨0x430040, 24, 0x4, 1, 4, .wo, 0xFFFFFFFF, [0x0], 0x0, 0x0⟩ /- SEC_KEY_DATA -/,
   ⟨0x4300A0, 1, 0x4, 1, 4, .rw, 0x0, [0x0], 0x0, 0x0⟩ /- SEC_ILK -/,
   ⟨0x4300A4, 1, 0x4, 1, 4, .rw, 0x3FFF, [0x64], 0x0, 0x0⟩ /- SEC_ILK_CFG -/,
   ⟨0x4300A8, 1, 0x4, 1, 4, .ro, 0xC000007F, [0x0], 0x0, 0x0⟩ /- SEC_FAULT -/,
   ⟨0x4300AC, 1, 0x4, 1, 4, .rw, 0x1, [0x0], 0x0, 0x0⟩ /- SEC_FAULT_FORCE -/,
   ⟨0x4300B0, 1, 0x4, 1, 4, .w1s, 0x1, [0x0], 0x0, 0x0⟩ /- SEC_PIN_CLEAR -/,
   ⟨0x4300C0, 1, 0x4, 1, 4, .ro, 0xFF00FFFF, [0x0], 0x0, 0x0⟩ /- SEC_BOOT -/,
   ⟨0x4300C4, 1, 0x4, 1, 4, .rw, 0xFFFF, [0x0], 0x0, 0x0⟩ /- SEC_FW_MIN_SVN -/,
   ⟨0x4300C8, 1, 0x4, 1, 4, .rw, 0xFF, [0x14], 0x0, 0x0⟩ /- SEC_TSTEP -/,
   ⟨0x430100, 9, 0x4, 1, 4, .rc, 0xFFFF, [0x0], 0x0, 0x0⟩ /- SEC_TCOUNT -/,
   ⟨0x430180, 1, 0x4, 1, 4, .ro, 0xFFFF000F, [0x0], 0x0, 0x0⟩ /- SEC_TLOG_HEAD -/,
   ⟨0x430200, 16, 0x10, 4, 4, .ro, 0xFFFFFFFF, [0x0], 0x0, 0x0⟩ /- SEC_TLOG -/,
   ⟨0x430400, 24, 0x4, 1, 4, .ro, 0xFFFFFFFF, [0x0], 0x0, 0x0⟩ /- SEC_ID_PUB -/]

def rowsNET : List RegRow :=
  [⟨0x440000, 1, 0x4, 1, 4, .rw, 0xFF, [0x0], 0x0, 0x0⟩ /- NET_CTRL -/,
   ⟨0x440004, 1, 0x4, 1, 4, .ro, 0xF, [0x0], 0x0, 0x0⟩ /- NET_STATUS -/,
   ⟨0x440008, 1, 0x4, 1, 4, .rc, 0xFF00FFFF, [0x0], 0x0, 0x0⟩ /- NET_CFG_ERR -/,
   ⟨0x440010, 1, 0x4, 1, 4, .rw, 0xFFFFFFFF, [0x0], 0x0, 0x0⟩ /- NET_SRC_MAC_LO -/,
   ⟨0x440014, 1, 0x4, 1, 4, .rw, 0xFFFF, [0x0], 0x0, 0x0⟩ /- NET_SRC_MAC_HI -/,
   ⟨0x440018, 1, 0x4, 1, 4, .rw, 0xFFFFFFFF, [0x0], 0x0, 0x0⟩ /- NET_DST_MAC_LO -/,
   ⟨0x44001C, 1, 0x4, 1, 4, .rw, 0xFFFF, [0x0], 0x0, 0x0⟩ /- NET_DST_MAC_HI -/,
   ⟨0x440020, 1, 0x4, 1, 4, .rw, 0xF7770FFF, [0xF6450001], 0x0, 0x0⟩ /- NET_VLAN -/,
   ⟨0x440024, 1, 0x4, 1, 4, .rw, 0x803F00FF, [0x40], 0x0, 0x0⟩ /- NET_IP_CFG -/,
   ⟨0x440028, 1, 0x4, 1, 4, .rw, 0xFFFFFFFF, [0x0], 0x0, 0x0⟩ /- NET_SRC_IP4 -/,
   ⟨0x44002C, 1, 0x4, 1, 4, .rw, 0xFFFFFFFF, [0x0], 0x0, 0x0⟩ /- NET_DST_IP4 -/,
   ⟨0x440030, 4, 0x4, 1, 4, .rw, 0xFFFFFFFF, [0x0], 0x0, 0x0⟩ /- NET_SRC_IP6 -/,
   ⟨0x440040, 4, 0x4, 1, 4, .rw, 0xFFFFFFFF, [0x0], 0x0, 0x0⟩ /- NET_DST_IP6 -/,
   ⟨0x440050, 1, 0x4, 1, 4, .rw, 0xFFFFFFFF, [0x0], 0x0, 0x0⟩ /- NET_UDP -/,
   ⟨0x440054, 1, 0x4, 1, 4, .rw, 0x3FFF, [0x5DC], 0x0, 0x0⟩ /- NET_MTU -/,
   ⟨0x440100, 4, 0x10, 1, 4, .rc, 0xFFFFFFFF, [0x0], 0x0, 0x0⟩ /- NET_LANE_TX -/,
   ⟨0x440104, 4, 0x10, 1, 4, .rc, 0xFFFFFFFF, [0x0], 0x0, 0x0⟩ /- NET_LANE_RX_DROP -/,
   ⟨0x440108, 4, 0x10, 1, 4, .rc, 0xFFFFFFFF, [0x0], 0x0, 0x0⟩ /- NET_LANE_FCS_ERR -/,
   ⟨0x44010C, 4, 0x10, 1, 4, .rc, 0xFFFFFFFF, [0x0], 0x0, 0x0⟩ /- NET_LANE_FEC -/,
   ⟨0x440200, 1, 0x4, 1, 4, .rw, 0x33, [0x0], 0x0, 0x0⟩ /- NET_TIME_CTRL -/,
   ⟨0x440204, 1, 0x4, 1, 4, .ro, 0xB000000F, [0x0], 0x0, 0x0⟩ /- NET_TIME_STATUS -/,
   ⟨0x440208, 1, 0x4, 1, 4, .ro, 0xFFFFFFFF, [0x0], 0x0, 0x0⟩ /- NET_TIME_LO -/,
   ⟨0x44020C, 1, 0x4, 1, 4, .ro, 0xFFFFFFFF, [0x0], 0x0, 0x0⟩ /- NET_TIME_HI -/,
   ⟨0x440210, 1, 0x4, 1, 4, .rw, 0xFFFFFFFF, [0x0], 0x0, 0x0⟩ /- NET_TIME_RATE -/,
   ⟨0x440214, 1, 0x4, 1, 4, .wo, 0xFFFFFFFF, [0x0], 0x0, 0x0⟩ /- NET_TIME_STEP_LO -/,
   ⟨0x440218, 1, 0x4, 1, 4, .wo, 0xFFFFFFFF, [0x0], 0x0, 0x0⟩ /- NET_TIME_STEP_HI -/,
   ⟨0x44021C, 1, 0x4, 1, 4, .ro, 0xFFFFFFFF, [0x0], 0x0, 0x0⟩ /- NET_OFFSET -/,
   ⟨0x440220, 1, 0x4, 1, 4, .rw, 0xFFFF, [0x0], 0x0, 0x0⟩ /- NET_PTP_LAT -/,
   ⟨0x440280, 1, 0x4, 1, 4, .rw, 0x80FFFFFF, [0x989680], 0x0, 0x0⟩ /- NET_PPS_CFG -/,
   ⟨0x440284, 1, 0x4, 1, 4, .rw, 0xFFFFFFFF, [0x0], 0x0, 0x0⟩ /- NET_PPS_SEC -/] ++
  [⟨0x440288, 1, 0x4, 1, 4, .rw, 0x8000FFFF, [0x64], 0x0, 0x0⟩ /- NET_FSYNC_CFG -/,
   ⟨0x44028C, 1, 0x4, 1, 4, .rc, 0xFFFFFFFF, [0x0], 0x0, 0x0⟩ /- NET_SYNC_ERR -/]

def rowsCHN : List RegRow :=
  [⟨0x448000, 1, 0x4, 1, 4, .rw, 0x103, [0x103], 0x0, 0x0⟩ /- CHN_CTRL -/,
   ⟨0x448004, 1, 0x4, 1, 4, .ro, 0xC70F0303, [0x10000], 0x0, 0x0⟩ /- CHN_STATUS -/,
   ⟨0x448008, 2, 0x4, 1, 4, .rc, 0xFFFFFFFF, [0x0], 0x0, 0x0⟩ /- CHN_CRC_ERR -/,
   ⟨0x448100, 8, 0x8, 1, 4, .ro, 0xFFFFFFFF, [0x0], 0x0, 0x0⟩ /- CHN_MEMBER_LO -/,
   ⟨0x448104, 8, 0x8, 1, 4, .ro, 0xFFFFFFFF, [0x0], 0x0, 0x0⟩ /- CHN_MEMBER_HI -/]

def rowsPWR : List RegRow :=
  [⟨0x480000, 1, 0x4, 1, 4, .ro, 0xE03F01FF, [0x400001FF], 0x0, 0x0⟩ /- PWR_STATUS -/,
   ⟨0x480004, 1, 0x4, 1, 4, .ro, 0xFC0001FF, [0x80000000], 0x0, 0x0⟩ /- PWR_CAUSE -/,
   ⟨0x480008, 1, 0x4, 1, 4, .wo, 0xFF000003, [0x0], 0x0, 0x0⟩ /- PWR_RESET -/,
   ⟨0x48000C, 1, 0x4, 1, 4, .w1s, 0x1, [0x0], 0x0, 0x0⟩ /- PWR_HARD_ACK -/,
   ⟨0x480010, 1, 0x4, 1, 4, .ro, 0xFFFFFFFF, [0x0], 0x0, 0x0⟩ /- PWR_UPTIME_LO -/,
   ⟨0x480014, 1, 0x4, 1, 4, .ro, 0xFFFFFFFF, [0x0], 0x0, 0x0⟩ /- PWR_UPTIME_HI -/,
   ⟨0x480018, 1, 0x4, 1, 4, .ro, 0xFFFFFFFF, [0x0], 0x0, 0x0⟩ /- PWR_RESET_COUNT -/,
   ⟨0x48001C, 1, 0x4, 1, 4, .ro, 0xFFFFFFFF, [0x0], 0x0, 0x0⟩ /- PWR_LIFE_SEED -/,
   ⟨0x480020, 1, 0x4, 1, 4, .rc, 0xFF00FFFF, [0x0], 0x0, 0x0⟩ /- PWR_CFG_ERR -/]

def rowsBAR4 : List RegRow :=
  [⟨0x8000000, 4, 0x100, 1, 4, .rw, 0xFFFFFFFF, [0x0], 0x0, 0x0⟩ /- MBX_OB_HDR -/,
   ⟨0x8000000, 4, 0x100, 64, 4, .rw, 0xFFFFFFFF, [0x0], 0x0, 0x0⟩ /- MBX_OB_DATA -/,
   ⟨0x8000800, 4, 0x100, 1, 4, .ro, 0xFFFFFFFF, [0x0], 0x0, 0x0⟩ /- MBX_HDR -/,
   ⟨0x8000800, 4, 0x100, 64, 4, .ro, 0xFFFFFFFF, [0x0], 0x0, 0x0⟩ /- MBX_IB_DATA -/,
   ⟨0x8001000, 4, 0x4, 1, 4, .rt, 0xFFFFFFFF, [0xFFFFFFFF], 0x0, 0x0⟩ /- MBX_TAKE -/,
   ⟨0x8001010, 4, 0x4, 1, 4, .ro, 0x8007FF00, [0x0], 0x0, 0x0⟩ /- MBX_OB_STATUS -/,
   ⟨0x8001020, 4, 0x4, 1, 4, .ro, 0x8000FF00, [0x0], 0x0, 0x0⟩ /- MBX_IB_STATUS -/]

/-- The blocks of BAR0 (R459). -/
inductive Blk where
  | glb | pos | mbx | dma | evt | bgt | lnp | sht | emt | fld | det | tdc | hst | pnt | img | isp | ctl | afe | adc | thm
  | cal | sec | net | chn | pwr | msixTable | msixPba
  deriving DecidableEq, Repr

/-- The block an offset of BAR0 lies in (R459); none between the blocks (R460). -/
def blkOf (off : Nat) : Option Blk :=
  if off < 0x10000 then some .glb
  else if off < 0x20000 then some .pos
  else if off < 0x30000 then some .mbx
  else if off < 0x40000 then some .dma
  else if off < 0x80000 then some .evt
  else if off < 0xC0000 then some .bgt
  else if off < 0x100000 then some .lnp
  else if off < 0x140000 then some .sht
  else if off < 0x160000 then some .emt
  else if off < 0x170000 then some .fld
  else if off < 0x180000 then some .det
  else if off < 0x200000 then some .tdc
  else if off < 0x280000 then some .hst
  else if off < 0x300000 then some .pnt
  else if off < 0x340000 then some .img
  else if off < 0x380000 then some .isp
  else if off < 0x3C0000 then some .ctl
  else if off < 0x400000 then some .afe
  else if off < 0x410000 then some .adc
  else if off < 0x420000 then some .thm
  else if off < 0x430000 then some .cal
  else if off < 0x440000 then some .sec
  else if off < 0x448000 then some .net
  else if off < 0x480000 then some .chn
  else if off < 0x490000 then some .pwr
  else if off < 0x3F00000 then none
  else if off < 0x3F01000 then some .msixTable
  else if off < 0x3F02000 then some .msixPba
  else none

/-- The MSI-X table of a port (R360, R376): 64 vectors of address, data and control (the layout of PCIe; log entry 5). -/
def rowsMsixTable : List RegRow :=
  [⟨0x3F00000, 64, 0x10, 3, 4, .rw, 0xFFFFFFFF, [0x0], 0x0, 0x0⟩,
   ⟨0x3F0000C, 64, 0x10, 1, 4, .rw, 0x1, [0x1], 0x0, 0x0⟩]

/-- The pending bits of a port's vectors (R360). -/
def rowsMsixPba : List RegRow := [⟨0x3F01000, 1, 0x4, 2, 4, .ro, 0xFFFFFFFF, [0x0], 0x0, 0x0⟩]

/-- The register table of a block. -/
def Blk.rows : Blk → List RegRow
  | .glb => rowsGLB
  | .pos => rowsPOS
  | .mbx => rowsMBX
  | .dma => rowsDMA
  | .evt => rowsEVT
  | .bgt => rowsBGT
  | .lnp => rowsLNP
  | .sht => rowsSHT
  | .emt => rowsEMT
  | .fld => rowsFLD
  | .det => rowsDET
  | .tdc => rowsTDC
  | .hst => rowsHST
  | .pnt => rowsPNT
  | .img => rowsIMG
  | .isp => rowsISP
  | .ctl => rowsCTL
  | .afe => rowsAFE
  | .adc => rowsADC
  | .thm => rowsTHM
  | .cal => rowsCAL
  | .sec => rowsSEC
  | .net => rowsNET
  | .chn => rowsCHN
  | .pwr => rowsPWR
  | .msixTable => rowsMsixTable
  | .msixPba => rowsMsixPba

/-- The resource group of a block (R362, R459); none for the blocks that need no possession. -/
def Blk.group : Blk → Option Nat
  | .glb => some 0 | .pwr => some 0 | .bgt => some 1 | .lnp => some 1 | .sht => some 2 | .emt => some 3 | .fld => some 4
  | .det => some 5 | .tdc => some 6 | .hst => some 7 | .pnt => some 8 | .img => some 9 | .isp => some 10 | .ctl => some 11
  | .afe => some 12 | .adc => some 12 | .thm => some 13 | .cal => some 14 | .sec => some 15 | .net => some 15
  | .chn => some 15 | .pos => none | .mbx => none | .dma => none | .evt => none | .msixTable => none | .msixPba => none

/-- The row and the copy and word that an offset of BAR0 names; none where it names no register (R16). -/
def findReg (off : Nat) : Option (RegRow × Nat × Nat) :=
  match blkOf off with
  | none => none
  | some b => b.rows.findSome? (fun r => (r.locate off).map (fun ij => (r, ij.1, ij.2)))

/-- The same for an offset of a BAR4 page (R402, R462). -/
def findBar4 (off : Nat) : Option (RegRow × Nat × Nat) :=
  rowsBAR4.findSome? (fun r => (r.locate (0x8000000 + off)).map (fun ij => (r, ij.1, ij.2)))

end Sys2Proof.Machine
end

