-- ==== Sys2Proof/Machine/Registers.lean ====
section
/-! DEFINITION. The register names and fields of the spec's register tables (one definition per register, at its BAR0
offset; an arrayed register takes its indices; the banked blocks DMA and EVT and the BAR4 page take the port, R361, R402).
A register of one unnamed field gives that field the name `<REGISTER>_V`. -/

namespace Sys2Proof.Machine

/-- A field of a register, written [hi:lo] (R5). -/
structure Fld where
  reg : Nat
  hi : Nat
  lo : Nat
  deriving DecidableEq, Repr

/-- Where port B's copies of a banked register stand in the model's register space: R361 gives each port its own DMA and
EVT bank and its own MSI-X table, read at the same offset; the model keeps port B's above the 64 MiB of BAR0. -/
def bank (p : Nat) : Nat := p * 0x4000000

/-- The BAR4 page of port `p` (R402, R462) in the model's register space. -/
def page (p : Nat) : Nat := 0x8000000 + p * 0x10000


/-! ### 02_control_engine, R62 -/

def CTL_STATUS : Nat := 0x380000
def CTL_STATUS_MOTOR_TRIP : Fld := ⟨CTL_STATUS, 25, 25⟩
def CTL_STATUS_ENC_FAULT : Fld := ⟨CTL_STATUS, 24, 24⟩
def CTL_STATUS_SATURATED : Fld := ⟨CTL_STATUS, 23, 16⟩
def CTL_STATUS_CLOSED : Fld := ⟨CTL_STATUS, 15, 8⟩
def CTL_STATUS_POLY_WINNER : Fld := ⟨CTL_STATUS, 6, 4⟩
def CTL_STATUS_SLEWING : Fld := ⟨CTL_STATUS, 3, 3⟩
def CTL_STATUS_FALLBACK : Fld := ⟨CTL_STATUS, 2, 2⟩
def CTL_STATUS_RC_LEARNING : Fld := ⟨CTL_STATUS, 1, 1⟩
def CTL_STATUS_LOCK : Fld := ⟨CTL_STATUS, 0, 0⟩
def CTL_LOAD : Nat := 0x380004
def CTL_LOAD_V : Fld := ⟨CTL_LOAD, 22, 0⟩
def CTL_EVT_INFO : Nat := 0x380008
def CTL_EVT_INFO_OFFSET : Fld := ⟨CTL_EVT_INFO, 31, 16⟩
def CTL_EVT_INFO_SLOT : Fld := ⟨CTL_EVT_INFO, 7, 0⟩
def CTL_ENC_CFG : Nat := 0x380010
def CTL_ENC_CFG_CPR_DIV4 : Fld := ⟨CTL_ENC_CFG, 31, 16⟩
def CTL_ENC_CFG_FACETS : Fld := ⟨CTL_ENC_CFG, 11, 8⟩
def CTL_ENC_CFG_POLE_PAIRS : Fld := ⟨CTL_ENC_CFG, 7, 4⟩
def CTL_ENC_CFG_DIR : Fld := ⟨CTL_ENC_CFG, 3, 3⟩
def CTL_PWM_CFG : Nat := 0x380014
def CTL_PWM_CFG_PERIOD : Fld := ⟨CTL_PWM_CFG, 31, 16⟩
def CTL_PWM_CFG_DEAD : Fld := ⟨CTL_PWM_CFG, 15, 8⟩
def CTL_MOTOR_ITRIP : Nat := 0x380018
def CTL_MOTOR_ITRIP_V : Fld := ⟨CTL_MOTOR_ITRIP, 13, 0⟩
def CTL_COOL_ITRIP : Nat := 0x38001C
def CTL_COOL_ITRIP_V : Fld := ⟨CTL_COOL_ITRIP, 13, 0⟩
def CTL_LOCK_CFG : Nat := 0x380020
def CTL_LOCK_CFG_LOCK_WIN : Fld := ⟨CTL_LOCK_CFG, 31, 16⟩
def CTL_LOCK_CFG_ENTER : Fld := ⟨CTL_LOCK_CFG, 15, 8⟩
def CTL_LOCK_CFG_UNLOCK_COUNT : Fld := ⟨CTL_LOCK_CFG, 7, 0⟩
def CTL_PHASE_REF : Nat := 0x380024
def CTL_PHASE_REF_OFFSET : Fld := ⟨CTL_PHASE_REF, 31, 16⟩
def CTL_PHASE_REF_SOURCE : Fld := ⟨CTL_PHASE_REF, 0, 0⟩
def CTL_PHASE_ERR : Nat := 0x380028
def CTL_PHASE_ERR_V : Fld := ⟨CTL_PHASE_ERR, 15, 0⟩
def CTL_SPEED : Nat := 0x38002C
def CTL_SPEED_V : Fld := ⟨CTL_SPEED, 15, 0⟩
def CTL_LINE_T : Nat := 0x380030
def CTL_LINE_T_V : Fld := ⟨CTL_LINE_T, 31, 0⟩
def CTL_ENC_ERR : Nat := 0x380034
def CTL_ENC_ERR_V : Fld := ⟨CTL_ENC_ERR, 15, 0⟩
def CTL_RC_CFG : Nat := 0x380040
def CTL_RC_CFG_CELLS : Fld := ⟨CTL_RC_CFG, 31, 30⟩
def CTL_RC_CFG_ENABLE : Fld := ⟨CTL_RC_CFG, 29, 29⟩
def CTL_RC_CFG_LEAD : Fld := ⟨CTL_RC_CFG, 11, 0⟩
def CTL_RC_GAIN : Nat := 0x380044
def CTL_RC_GAIN_L : Fld := ⟨CTL_RC_GAIN, 31, 16⟩
def CTL_RC_GAIN_F : Fld := ⟨CTL_RC_GAIN, 15, 0⟩
def CTL_RC_LIMIT : Nat := 0x380048
def CTL_RC_LIMIT_V : Fld := ⟨CTL_RC_LIMIT, 15, 0⟩
def CTL_RC_SAT : Nat := 0x38004C
def CTL_RC_SAT_V : Fld := ⟨CTL_RC_SAT, 12, 0⟩
def CTL_FL_SP (m : Nat) : Nat := 0x380800 + 4 * m
def CTL_FL_SP_V (m : Nat) : Fld := ⟨(CTL_FL_SP m), 15, 0⟩
def CTL_FL_CLOSE : Nat := 0x380820
def CTL_FL_CLOSE_V : Fld := ⟨CTL_FL_CLOSE, 7, 0⟩
def CTL_RC_TABLE (w : Nat) : Nat := 0x382000 + 4 * w
def CTL_COG_TABLE (w : Nat) : Nat := 0x384000 + 4 * w
def CTL_FRIC_TABLE (w : Nat) : Nat := 0x384400 + 4 * w

/-! ### 02_control_engine, R63 -/

def CTL_SLOT_CTRL (n : Nat) : Nat := 0x381000 + 128 * n
def CTL_SLOT_CTRL_MODE (n : Nat) : Fld := ⟨(CTL_SLOT_CTRL n), 2, 1⟩
def CTL_SLOT_CTRL_CLOSE (n : Nat) : Fld := ⟨(CTL_SLOT_CTRL n), 0, 0⟩
def CTL_SLOT_CFG (n : Nat) : Nat := 0x381004 + 128 * n
def CTL_SLOT_CFG_PLANT (n : Nat) : Fld := ⟨(CTL_SLOT_CFG n), 31, 28⟩
def CTL_SLOT_CFG_GPIO_PIN (n : Nat) : Fld := ⟨(CTL_SLOT_CFG n), 27, 24⟩
def CTL_SLOT_CFG_RATE (n : Nat) : Fld := ⟨(CTL_SLOT_CFG n), 23, 16⟩
def CTL_SLOT_CFG_SOURCE (n : Nat) : Fld := ⟨(CTL_SLOT_CFG n), 15, 8⟩
def CTL_SLOT_CFG_OPEN_ACTION (n : Nat) : Fld := ⟨(CTL_SLOT_CFG n), 7, 6⟩
def CTL_SLOT_CFG_INVERT (n : Nat) : Fld := ⟨(CTL_SLOT_CFG n), 5, 5⟩
def CTL_SLOT_CFG_SHIFT (n : Nat) : Fld := ⟨(CTL_SLOT_CFG n), 3, 0⟩
def CTL_KP (n : Nat) : Nat := 0x381008 + 128 * n
def CTL_KP_V (n : Nat) : Fld := ⟨(CTL_KP n), 15, 0⟩
def CTL_KI (n : Nat) : Nat := 0x38100C + 128 * n
def CTL_KI_V (n : Nat) : Fld := ⟨(CTL_KI n), 15, 0⟩
def CTL_KD (n : Nat) : Nat := 0x381010 + 128 * n
def CTL_KD_V (n : Nat) : Fld := ⟨(CTL_KD n), 15, 0⟩
def CTL_KF (n : Nat) : Nat := 0x381014 + 128 * n
def CTL_KF_V (n : Nat) : Fld := ⟨(CTL_KF n), 15, 0⟩
def CTL_ILIM (n : Nat) : Nat := 0x381018 + 128 * n
def CTL_ILIM_V (n : Nat) : Fld := ⟨(CTL_ILIM n), 14, 0⟩
def CTL_OUT_LIM (n : Nat) : Nat := 0x38101C + 128 * n
def CTL_OUT_LIM_OUT_MAX (n : Nat) : Fld := ⟨(CTL_OUT_LIM n), 31, 16⟩
def CTL_OUT_LIM_OUT_MIN (n : Nat) : Fld := ⟨(CTL_OUT_LIM n), 15, 0⟩
def CTL_SLEW (n : Nat) : Nat := 0x381020 + 128 * n
def CTL_SLEW_V (n : Nat) : Fld := ⟨(CTL_SLEW n), 15, 0⟩
def CTL_SP (n : Nat) : Nat := 0x381024 + 128 * n
def CTL_SP_V (n : Nat) : Fld := ⟨(CTL_SP n), 15, 0⟩
def CTL_SP_LIM (n : Nat) : Nat := 0x381028 + 128 * n
def CTL_SP_LIM_SP_MAX (n : Nat) : Fld := ⟨(CTL_SP_LIM n), 31, 16⟩
def CTL_SP_LIM_SP_MIN (n : Nat) : Fld := ⟨(CTL_SP_LIM n), 15, 0⟩
def CTL_SP_RATE (n : Nat) : Nat := 0x38102C + 128 * n
def CTL_SP_RATE_V (n : Nat) : Fld := ⟨(CTL_SP_RATE n), 15, 0⟩
def CTL_SP_ACC (n : Nat) : Nat := 0x381030 + 128 * n
def CTL_SP_ACC_V (n : Nat) : Fld := ⟨(CTL_SP_ACC n), 15, 0⟩
def CTL_MANUAL (n : Nat) : Nat := 0x381034 + 128 * n
def CTL_MANUAL_V (n : Nat) : Fld := ⟨(CTL_MANUAL n), 15, 0⟩
def CTL_OUT (n : Nat) : Nat := 0x381038 + 128 * n
def CTL_OUT_V (n : Nat) : Fld := ⟨(CTL_OUT n), 15, 0⟩
def CTL_MEAS (n : Nat) : Nat := 0x38103C + 128 * n
def CTL_MEAS_V (n : Nat) : Fld := ⟨(CTL_MEAS n), 15, 0⟩
def CTL_INTEG (n : Nat) : Nat := 0x381040 + 128 * n
def CTL_INTEG_V (n : Nat) : Fld := ⟨(CTL_INTEG n), 15, 0⟩
def CTL_SP_NOW (n : Nat) : Nat := 0x381044 + 128 * n
def CTL_SP_NOW_V (n : Nat) : Fld := ⟨(CTL_SP_NOW n), 15, 0⟩

/-! ### 03_emission, R99 -/

def SHT_CFG : Nat := 0x100000
def SHT_CFG_LINES : Fld := ⟨SHT_CFG, 28, 16⟩
def SHT_CFG_SLOTS : Fld := ⟨SHT_CFG, 6, 0⟩
def SHT_LISTEN : Nat := 0x100004
def SHT_LISTEN_V : Fld := ⟨SHT_LISTEN, 20, 0⟩
def SHT_BLANK : Nat := 0x100008
def SHT_BLANK_TAIL : Fld := ⟨SHT_BLANK, 27, 16⟩
def SHT_BLANK_HEAD : Fld := ⟨SHT_BLANK, 11, 0⟩
def SHT_PAT_MAP : Nat := 0x10000C
def SHT_PAT_MAP_CYCLE : Fld := ⟨SHT_PAT_MAP, 24, 16⟩
def SHT_PAT_MAP_BLANK_ENTRY : Fld := ⟨SHT_PAT_MAP, 7, 0⟩
def SHT_SERVE_CFG : Nat := 0x100010
def SHT_SERVE_CFG_HEAD_ID : Fld := ⟨SHT_SERVE_CFG, 26, 24⟩
def SHT_SERVE_CFG_PHASE : Fld := ⟨SHT_SERVE_CFG, 18, 16⟩
def SHT_SERVE_CFG_PHASES_LOG2 : Fld := ⟨SHT_SERVE_CFG, 9, 8⟩
def SHT_SERVE_CFG_BITS : Fld := ⟨SHT_SERVE_CFG, 3, 0⟩
def SHT_SERVE_NONCE_LO : Nat := 0x100014
def SHT_SERVE_NONCE_LO_V : Fld := ⟨SHT_SERVE_NONCE_LO, 31, 0⟩
def SHT_SERVE_NONCE_HI : Nat := 0x100018
def SHT_SERVE_NONCE_HI_V : Fld := ⟨SHT_SERVE_NONCE_HI, 31, 0⟩
def SHT_COMMIT : Nat := 0x100020
def SHT_COMMIT_MODE : Fld := ⟨SHT_COMMIT, 1, 1⟩
def SHT_COMMIT_GO : Fld := ⟨SHT_COMMIT, 0, 0⟩
def SHT_RUN : Nat := 0x100024
def SHT_RUN_ABORT : Fld := ⟨SHT_RUN, 31, 31⟩
def SHT_RUN_STOP : Fld := ⟨SHT_RUN, 30, 30⟩
def SHT_RUN_START : Fld := ⟨SHT_RUN, 29, 29⟩
def SHT_RUN_FRAMES : Fld := ⟨SHT_RUN, 15, 0⟩
def SHT_STATUS : Nat := 0x100028
def SHT_STATUS_FRAMES_LEFT : Fld := ⟨SHT_STATUS, 31, 16⟩
def SHT_STATUS_RUNNING : Fld := ⟨SHT_STATUS, 7, 7⟩
def SHT_STATUS_COMMIT_PENDING : Fld := ⟨SHT_STATUS, 6, 6⟩
def SHT_STATUS_IDLE_SLOT : Fld := ⟨SHT_STATUS, 5, 5⟩
def SHT_STATUS_NONCE_SET : Fld := ⟨SHT_STATUS, 4, 4⟩
def SHT_STATUS_THROTTLE : Fld := ⟨SHT_STATUS, 3, 0⟩
def SHT_CFG_ERR : Nat := 0x10002C
def SHT_CFG_ERR_CODE : Fld := ⟨SHT_CFG_ERR, 31, 24⟩
def SHT_CFG_ERR_DETAIL : Fld := ⟨SHT_CFG_ERR, 15, 0⟩
def SHT_OVERRUN : Nat := 0x100030
def SHT_OVERRUN_V : Fld := ⟨SHT_OVERRUN, 31, 0⟩
def SHT_GEN : Nat := 0x100034
def SHT_GEN_V : Fld := ⟨SHT_GEN, 15, 0⟩
def SHT_SLOT_T (k : Nat) : Nat := 0x100100 + 8 * k
def SHT_SLOT_T_KIND (k : Nat) : Fld := ⟨(SHT_SLOT_T k), 27, 26⟩
def SHT_SLOT_T_START (k : Nat) : Fld := ⟨(SHT_SLOT_T k), 25, 0⟩
def SHT_SLOT_P (k : Nat) : Nat := 0x100104 + 8 * k
def SHT_SLOT_P_ENTRY (k : Nat) : Fld := ⟨(SHT_SLOT_P k), 7, 0⟩

/-! ### 03_emission, R100 -/

def EMT_CHAIN : Nat := 0x140000
def EMT_CHAIN_LAST_OPEN : Fld := ⟨EMT_CHAIN, 19, 16⟩
def EMT_CHAIN_ACTIVE : Fld := ⟨EMT_CHAIN, 8, 8⟩
def EMT_CHAIN_RUN : Fld := ⟨EMT_CHAIN, 7, 7⟩
def EMT_CHAIN_ARM : Fld := ⟨EMT_CHAIN, 6, 6⟩
def EMT_CHAIN_NO_RED_CARD : Fld := ⟨EMT_CHAIN, 5, 5⟩
def EMT_CHAIN_SERVE_KEY : Fld := ⟨EMT_CHAIN, 4, 4⟩
def EMT_CHAIN_MATRIX_OK : Fld := ⟨EMT_CHAIN, 3, 3⟩
def EMT_CHAIN_EYE_ARMED : Fld := ⟨EMT_CHAIN, 2, 2⟩
def EMT_CHAIN_SCAN_LOCK : Fld := ⟨EMT_CHAIN, 1, 1⟩
def EMT_CHAIN_INTERLOCK : Fld := ⟨EMT_CHAIN, 0, 0⟩
def EMT_ARM : Nat := 0x140004
def EMT_ARM_ARM : Fld := ⟨EMT_ARM, 0, 0⟩
def EMT_TRIG_CFG : Nat := 0x140008
def EMT_TRIG_CFG_TRIG_W : Fld := ⟨EMT_TRIG_CFG, 29, 16⟩
def EMT_TRIG_CFG_COL_HOLD : Fld := ⟨EMT_TRIG_CFG, 13, 0⟩
def EMT_PAT_CTRL : Nat := 0x14000C
def EMT_PAT_CTRL_PENDING : Fld := ⟨EMT_PAT_CTRL, 31, 31⟩
def EMT_PAT_CTRL_ACTIVE_BANK : Fld := ⟨EMT_PAT_CTRL, 30, 30⟩
def EMT_PAT_CTRL_SYNC : Fld := ⟨EMT_PAT_CTRL, 2, 1⟩
def EMT_PAT_CTRL_SWAP : Fld := ⟨EMT_PAT_CTRL, 0, 0⟩
def EMT_PAT_ERR : Nat := 0x140010
def EMT_PAT_ERR_VALID : Fld := ⟨EMT_PAT_ERR, 31, 31⟩
def EMT_PAT_ERR_ENTRY : Fld := ⟨EMT_PAT_ERR, 7, 0⟩
def EMT_EYE_CFG : Nat := 0x140020
def EMT_EYE_CFG_LOCK : Fld := ⟨EMT_EYE_CFG, 0, 0⟩
def EMT_EYE_WIN (w : Nat) : Nat := 0x140024 + 4 * w
def EMT_EYE_WIN_SUB (w : Nat) : Fld := ⟨(EMT_EYE_WIN w), 15, 0⟩
def EMT_EYE_LIM_EMIT (w : Nat) : Nat := 0x140030 + 8 * w
def EMT_EYE_LIM_EMIT_V (w : Nat) : Fld := ⟨(EMT_EYE_LIM_EMIT w), 31, 0⟩
def EMT_EYE_LIM_ROW (w : Nat) : Nat := 0x140034 + 8 * w
def EMT_EYE_LIM_ROW_V (w : Nat) : Fld := ⟨(EMT_EYE_LIM_ROW w), 31, 0⟩
def EMT_EYE_SUPP : Nat := 0x140040
def EMT_EYE_SUPP_V : Fld := ⟨EMT_EYE_SUPP, 31, 0⟩
def EMT_EYE_PEAK : Nat := 0x140044
def EMT_EYE_PEAK_V : Fld := ⟨EMT_EYE_PEAK, 15, 0⟩
def EMT_FAULT : Nat := 0x140050
def EMT_FAULT_LATCHED : Fld := ⟨EMT_FAULT, 31, 31⟩
def EMT_FAULT_EMITTER : Fld := ⟨EMT_FAULT, 15, 8⟩
def EMT_FAULT_EYE_PARITY : Fld := ⟨EMT_FAULT, 6, 6⟩
def EMT_FAULT_CUR_VERIFY : Fld := ⟨EMT_FAULT, 5, 5⟩
def EMT_FAULT_MON_SPURIOUS : Fld := ⟨EMT_FAULT, 4, 4⟩
def EMT_FAULT_MON_EXCESS : Fld := ⟨EMT_FAULT, 3, 3⟩
def EMT_FAULT_MON_MISSING : Fld := ⟨EMT_FAULT, 2, 2⟩
def EMT_FAULT_SHORT : Fld := ⟨EMT_FAULT, 1, 1⟩
def EMT_FAULT_OPEN : Fld := ⟨EMT_FAULT, 0, 0⟩
def EMT_REARM : Nat := 0x140054
def EMT_REARM_V : Fld := ⟨EMT_REARM, 7, 0⟩
def EMT_MON_CFG : Nat := 0x140058
def EMT_MON_CFG_DLY_MIN : Fld := ⟨EMT_MON_CFG, 31, 24⟩
def EMT_MON_CFG_DLY_MAX : Fld := ⟨EMT_MON_CFG, 23, 16⟩
def EMT_MON_CFG_TOT_MAX : Fld := ⟨EMT_MON_CFG, 15, 0⟩
def EMT_ECB_STATUS : Nat := 0x140060
def EMT_ECB_STATUS_VERIFIED : Fld := ⟨EMT_ECB_STATUS, 2, 2⟩
def EMT_ECB_STATUS_VERIFY_FAIL : Fld := ⟨EMT_ECB_STATUS, 1, 1⟩
def EMT_ECB_STATUS_BUSY : Fld := ⟨EMT_ECB_STATUS, 0, 0⟩
def EMT_CUR_COMMIT : Nat := 0x140064
def EMT_CUR_COMMIT_GO : Fld := ⟨EMT_CUR_COMMIT, 0, 0⟩
def EMT_CUR_PROFILE (p r : Nat) : Nat := 0x140400 + 64 * p + 4 * r
def EMT_CUR_PROFILE_WEIGHT (p r : Nat) : Fld := ⟨(EMT_CUR_PROFILE p r), 31, 16⟩
def EMT_CUR_PROFILE_CODE (p r : Nat) : Fld := ⟨(EMT_CUR_PROFILE p r), 9, 0⟩
def EMT_PAT_SHADOW (w : Nat) : Nat := 0x150000 + 4 * w
def EMT_PAT_ACTIVE (w : Nat) : Nat := 0x152000 + 4 * w

/-! ### 03_emission, R101 -/

def FLD_CFG : Nat := 0x160000
def FLD_CFG_GROUP_LOG2 : Fld := ⟨FLD_CFG, 2, 0⟩
def FLD_STATUS : Nat := 0x160004
def FLD_STATUS_EXCLUDED : Fld := ⟨FLD_STATUS, 15, 8⟩
def FLD_STATUS_ACTIVE : Fld := ⟨FLD_STATUS, 7, 0⟩
def FLD_CLEAR : Nat := 0x160008
def FLD_CLEAR_V : Fld := ⟨FLD_CLEAR, 7, 0⟩
def FLD_FAULT (m : Nat) : Nat := 0x160010 + 4 * m
def FLD_FAULT_NEIGHBOUR (m : Nat) : Fld := ⟨(FLD_FAULT m), 6, 4⟩
def FLD_FAULT_PIN_SHORT (m : Nat) : Fld := ⟨(FLD_FAULT m), 3, 3⟩
def FLD_FAULT_STUCK (m : Nat) : Fld := ⟨(FLD_FAULT m), 2, 2⟩
def FLD_FAULT_OPEN (m : Nat) : Fld := ⟨(FLD_FAULT m), 1, 1⟩
def FLD_FAULT_SHORT (m : Nat) : Fld := ⟨(FLD_FAULT m), 0, 0⟩
def FLD_LIM (m : Nat) : Nat := 0x160030 + 4 * m
def FLD_LIM_SHORT (m : Nat) : Fld := ⟨(FLD_LIM m), 29, 16⟩
def FLD_LIM_OPEN (m : Nat) : Fld := ⟨(FLD_LIM m), 13, 0⟩
def FLD_COMP (m : Nat) : Nat := 0x160050 + 4 * m
def FLD_COMP_EN (m : Nat) : Fld := ⟨(FLD_COMP m), 31, 31⟩
def FLD_COMP_LEFT (m : Nat) : Fld := ⟨(FLD_COMP m), 30, 28⟩
def FLD_COMP_LEFT_EN (m : Nat) : Fld := ⟨(FLD_COMP m), 27, 27⟩
def FLD_COMP_RIGHT (m : Nat) : Fld := ⟨(FLD_COMP m), 26, 24⟩
def FLD_COMP_RIGHT_EN (m : Nat) : Fld := ⟨(FLD_COMP m), 23, 23⟩
def FLD_COMP_GAIN (m : Nat) : Fld := ⟨(FLD_COMP m), 15, 0⟩
def FLD_ISNS (m : Nat) : Nat := 0x160070 + 4 * m
def FLD_ISNS_V (m : Nat) : Fld := ⟨(FLD_ISNS m), 13, 0⟩
def FLD_DENSITY (m : Nat) : Nat := 0x160090 + 4 * m
def FLD_DENSITY_V (m : Nat) : Fld := ⟨(FLD_DENSITY m), 12, 0⟩

/-! ### 04_detector, R120 -/

def DET_CTRL : Nat := 0x170000
def DET_CTRL_SURVEY_AUTO : Fld := ⟨DET_CTRL, 1, 1⟩
def DET_CTRL_ENABLE : Fld := ⟨DET_CTRL, 0, 0⟩
def DET_STATUS : Nat := 0x170004
def DET_STATUS_HV_OK : Fld := ⟨DET_STATUS, 31, 31⟩
def DET_STATUS_HV_FAULT : Fld := ⟨DET_STATUS, 30, 30⟩
def DET_STATUS_LINK_OK : Fld := ⟨DET_STATUS, 29, 29⟩
def DET_STATUS_SURVEY_BUSY : Fld := ⟨DET_STATUS, 28, 28⟩
def DET_STATUS_BENCH_EMPTY : Fld := ⟨DET_STATUS, 23, 16⟩
def DET_STATUS_BELOW_MIN : Fld := ⟨DET_STATUS, 15, 8⟩
def DET_STATUS_SURVEY_STEP : Fld := ⟨DET_STATUS, 5, 0⟩
def DET_CFG_ERR : Nat := 0x170008
def DET_CFG_ERR_CODE : Fld := ⟨DET_CFG_ERR, 31, 24⟩
def DET_CFG_ERR_DETAIL : Fld := ⟨DET_CFG_ERR, 15, 0⟩
def DET_HV : Nat := 0x17000C
def DET_HV_V : Fld := ⟨DET_HV, 15, 0⟩
def DET_HV_WIN : Nat := 0x170010
def DET_HV_WIN_MAX : Fld := ⟨DET_HV_WIN, 31, 16⟩
def DET_HV_WIN_MIN : Fld := ⟨DET_HV_WIN, 15, 0⟩
def DET_QUENCH : Nat := 0x170014
def DET_QUENCH_HOLDOFF : Fld := ⟨DET_QUENCH, 4, 0⟩
def DET_COINC_WIN : Nat := 0x170018
def DET_COINC_WIN_V : Fld := ⟨DET_COINC_WIN, 11, 0⟩
def DET_ADAPT_CFG : Nat := 0x17001C
def DET_ADAPT_CFG_DMAX : Fld := ⟨DET_ADAPT_CFG, 10, 8⟩
def DET_ADAPT_CFG_DMIN : Fld := ⟨DET_ADAPT_CFG, 2, 0⟩
def DET_ADAPT_TH (j : Nat) : Nat := 0x170020 + 4 * j
def DET_ADAPT_TH_V (j : Nat) : Fld := ⟨(DET_ADAPT_TH j), 15, 0⟩
def DET_SURVEY_CFG : Nat := 0x170040
def DET_SURVEY_CFG_PERIOD : Fld := ⟨DET_SURVEY_CFG, 31, 16⟩
def DET_SURVEY_CFG_DWELL : Fld := ⟨DET_SURVEY_CFG, 15, 8⟩
def DET_SURVEY_CFG_RATIO : Fld := ⟨DET_SURVEY_CFG, 7, 4⟩
def DET_SCREAM_FLOOR : Nat := 0x170044
def DET_SCREAM_FLOOR_V : Fld := ⟨DET_SCREAM_FLOOR, 15, 0⟩
def DET_SURVEY_GO : Nat := 0x170048
def DET_SURVEY_GO_V : Fld := ⟨DET_SURVEY_GO, 0, 0⟩
def DET_MIN_SPADS : Nat := 0x17004C
def DET_MIN_SPADS_V : Fld := ⟨DET_MIN_SPADS, 5, 0⟩
def DET_TRIM_TC : Nat := 0x170050
def DET_TRIM_TC_V : Fld := ⟨DET_TRIM_TC, 15, 0⟩
def DET_TRIM_TREF : Nat := 0x170054
def DET_TRIM_TREF_V : Fld := ⟨DET_TRIM_TREF, 15, 0⟩
def DET_TEMP (q : Nat) : Nat := 0x170058 + 4 * q
def DET_TEMP_V (q : Nat) : Fld := ⟨(DET_TEMP q), 15, 0⟩
def DET_COLOUR_OFS : Nat := 0x170070
def DET_COLOUR_OFS_V : Fld := ⟨DET_COLOUR_OFS, 15, 0⟩
def DET_COLOUR_LINES : Nat := 0x170074
def DET_COLOUR_LINES_V : Fld := ⟨DET_COLOUR_LINES, 15, 0⟩
def DET_COOL_STATUS : Nat := 0x170078
def DET_COOL_STATUS_SATURATED : Fld := ⟨DET_COOL_STATUS, 1, 1⟩
def DET_COOL_STATUS_AT_SP : Fld := ⟨DET_COOL_STATUS, 0, 0⟩
def DET_SPAD_EN_LO (n : Nat) : Nat := 0x171000 + 16 * n
def DET_SPAD_EN_LO_V (n : Nat) : Fld := ⟨(DET_SPAD_EN_LO n), 31, 0⟩
def DET_SPAD_EN_HI (n : Nat) : Nat := 0x171004 + 16 * n
def DET_SPAD_EN_HI_V (n : Nat) : Fld := ⟨(DET_SPAD_EN_HI n), 15, 0⟩
def DET_CH_CFG (n : Nat) : Nat := 0x171008 + 16 * n
def DET_CH_CFG_TRIM (n : Nat) : Fld := ⟨(DET_CH_CFG n), 29, 24⟩
def DET_CH_CFG_DEPTH (n : Nat) : Fld := ⟨(DET_CH_CFG n), 18, 16⟩
def DET_CH_CFG_ADAPT_EN (n : Nat) : Fld := ⟨(DET_CH_CFG n), 8, 8⟩
def DET_CH_STATUS (n : Nat) : Nat := 0x17100C + 16 * n
def DET_CH_STATUS_TRIM_EFF (n : Nat) : Fld := ⟨(DET_CH_STATUS n), 31, 26⟩
def DET_CH_STATUS_DEPTH_EFF (n : Nat) : Fld := ⟨(DET_CH_STATUS n), 22, 20⟩
def DET_CH_STATUS_ENABLED (n : Nat) : Fld := ⟨(DET_CH_STATUS n), 13, 8⟩
def DET_CH_STATUS_BELOW_MIN (n : Nat) : Fld := ⟨(DET_CH_STATUS n), 4, 4⟩
def DET_CH_STATUS_BENCH_LEFT (n : Nat) : Fld := ⟨(DET_CH_STATUS n), 3, 0⟩
def DET_AMB (n : Nat) : Nat := 0x172000 + 4 * n
def DET_AMB_V (n : Nat) : Fld := ⟨(DET_AMB n), 23, 0⟩
def DET_RATE (n : Nat) : Nat := 0x172400 + 4 * n
def DET_RATE_V (n : Nat) : Fld := ⟨(DET_RATE n), 15, 0⟩
def DET_SCREAM_LO (n : Nat) : Nat := 0x172800 + 8 * n
def DET_SCREAM_LO_V (n : Nat) : Fld := ⟨(DET_SCREAM_LO n), 31, 0⟩
def DET_SCREAM_HI (n : Nat) : Nat := 0x172804 + 8 * n
def DET_SCREAM_HI_V (n : Nat) : Fld := ⟨(DET_SCREAM_HI n), 15, 0⟩

/-! ### 05_tdc, R146 -/

def TDC_CTRL : Nat := 0x180000
def TDC_CTRL_CAL_RUN : Fld := ⟨TDC_CTRL, 0, 0⟩
def TDC_STATUS : Nat := 0x180004
def TDC_STATUS_BENCH_LEFT : Fld := ⟨TDC_STATUS, 31, 24⟩
def TDC_STATUS_SENT_OFF : Fld := ⟨TDC_STATUS, 23, 16⟩
def TDC_STATUS_UNCAL : Fld := ⟨TDC_STATUS, 15, 8⟩
def TDC_STATUS_AMB_LOW : Fld := ⟨TDC_STATUS, 0, 0⟩
def TDC_CAL_CFG : Nat := 0x180008
def TDC_CAL_CFG_AGREE_TOL : Fld := ⟨TDC_CAL_CFG, 31, 24⟩
def TDC_CAL_CFG_MIN_COUNT : Fld := ⟨TDC_CAL_CFG, 23, 16⟩
def TDC_CAL_CFG_MAX_COUNT : Fld := ⟨TDC_CAL_CFG, 15, 8⟩
def TDC_CAL_CFG_TOP_MAX : Fld := ⟨TDC_CAL_CFG, 7, 0⟩
def TDC_AMB_REQ : Nat := 0x18000C
def TDC_AMB_REQ_V : Fld := ⟨TDC_AMB_REQ, 22, 0⟩
def TDC_GEN_CFG : Nat := 0x180010
def TDC_GEN_CFG_EDGES : Fld := ⟨TDC_GEN_CFG, 12, 8⟩
def TDC_GEN_CFG_MIN_SPACING : Fld := ⟨TDC_GEN_CFG, 7, 0⟩
def TDC_BAND : Nat := 0x180014
def TDC_BAND_MAX : Fld := ⟨TDC_BAND, 31, 16⟩
def TDC_BAND_MIN : Fld := ⟨TDC_BAND, 15, 0⟩
def TDC_VTRIM_CAL : Nat := 0x180018
def TDC_VTRIM_CAL_STEP : Fld := ⟨TDC_VTRIM_CAL, 31, 24⟩
def TDC_VTRIM_CAL_TC : Fld := ⟨TDC_VTRIM_CAL, 23, 16⟩
def TDC_VTRIM_CAL_TREF : Fld := ⟨TDC_VTRIM_CAL, 15, 0⟩
def TDC_PERIOD_SKIPS : Nat := 0x18001C
def TDC_PERIOD_SKIPS_V : Fld := ⟨TDC_PERIOD_SKIPS, 31, 0⟩
def TDC_EVT_INFO : Nat := 0x180020
def TDC_EVT_INFO_EVENT : Fld := ⟨TDC_EVT_INFO, 15, 8⟩
def TDC_EVT_INFO_LANE : Fld := ⟨TDC_EVT_INFO, 7, 0⟩
def TDC_CFG_ERR : Nat := 0x180024
def TDC_CFG_ERR_CODE : Fld := ⟨TDC_CFG_ERR, 31, 24⟩
def TDC_CFG_ERR_DETAIL : Fld := ⟨TDC_CFG_ERR, 15, 0⟩
def TDC_XBAR (c : Nat) : Nat := 0x180200 + 4 * c
def TDC_XBAR_LANE (c : Nat) : Fld := ⟨(TDC_XBAR c), 7, 0⟩
def TDC_LINK_SKEW (c : Nat) : Nat := 0x180600 + 4 * c
def TDC_LINK_SKEW_V (c : Nat) : Fld := ⟨(TDC_LINK_SKEW c), 15, 0⟩

/-! ### 05_tdc, R147 -/

def TDC_LANE_STATUS (l : Nat) : Nat := 0x181000 + 64 * l
def TDC_LANE_STATUS_ROLE (l : Nat) : Fld := ⟨(TDC_LANE_STATUS l), 31, 30⟩
def TDC_LANE_STATUS_CAL_VALID (l : Nat) : Fld := ⟨(TDC_LANE_STATUS l), 29, 29⟩
def TDC_LANE_STATUS_PERIOD_OK (l : Nat) : Fld := ⟨(TDC_LANE_STATUS l), 28, 28⟩
def TDC_LANE_STATUS_FAIL_STREAK (l : Nat) : Fld := ⟨(TDC_LANE_STATUS l), 25, 24⟩
def TDC_LANE_STATUS_CHANNEL (l : Nat) : Fld := ⟨(TDC_LANE_STATUS l), 23, 16⟩
def TDC_LANE_STATUS_CAL_GEN (l : Nat) : Fld := ⟨(TDC_LANE_STATUS l), 15, 0⟩
def TDC_PERIOD (l : Nat) : Nat := 0x181004 + 64 * l
def TDC_PERIOD_V (l : Nat) : Fld := ⟨(TDC_PERIOD l), 31, 0⟩
def TDC_LANE_SKEW (l : Nat) : Nat := 0x181008 + 64 * l
def TDC_LANE_SKEW_V (l : Nat) : Fld := ⟨(TDC_LANE_SKEW l), 15, 0⟩
def TDC_DROP (l : Nat) : Nat := 0x18100C + 64 * l
def TDC_DROP_SPACING (l : Nat) : Fld := ⟨(TDC_DROP l), 31, 24⟩
def TDC_DROP_BUSY (l : Nat) : Fld := ⟨(TDC_DROP l), 23, 16⟩
def TDC_DROP_COUNT (l : Nat) : Fld := ⟨(TDC_DROP l), 15, 8⟩
def TDC_DROP_OVERFLOW (l : Nat) : Fld := ⟨(TDC_DROP l), 7, 0⟩
def TDC_CAL_EDGES (l : Nat) : Nat := 0x181010 + 64 * l
def TDC_CAL_EDGES_AMBIENT (l : Nat) : Fld := ⟨(TDC_CAL_EDGES l), 22, 0⟩
def TDC_VTRIM (l : Nat) : Nat := 0x181014 + 64 * l
def TDC_VTRIM_BASE (l : Nat) : Fld := ⟨(TDC_VTRIM l), 13, 8⟩
def TDC_VTRIM_VTRIM (l : Nat) : Fld := ⟨(TDC_VTRIM l), 5, 0⟩
def TDC_LANE_RESET (l : Nat) : Nat := 0x181018 + 64 * l
def TDC_LANE_RESET_V (l : Nat) : Fld := ⟨(TDC_LANE_RESET l), 0, 0⟩
def EVL_LOST_ITEMS (l : Nat) : Nat := 0x18101C + 64 * l
def EVL_LOST_ITEMS_V (l : Nat) : Fld := ⟨(EVL_LOST_ITEMS l), 31, 0⟩
def EVL_PARITY (l : Nat) : Nat := 0x181020 + 64 * l
def EVL_PARITY_V (l : Nat) : Fld := ⟨(EVL_PARITY l), 15, 0⟩
def EVL_DEPTH (l : Nat) : Nat := 0x181024 + 64 * l
def EVL_DEPTH_V (l : Nat) : Fld := ⟨(EVL_DEPTH l), 3, 0⟩
def TDC_CAL_TABLE (l m : Nat) : Nat := 0x186000 + 128 * l + 4 * m

/-! ### 06_histograms, R168 -/

def HST_COARSE_CFG : Nat := 0x200000
def HST_COARSE_CFG_WIDTH : Fld := ⟨HST_COARSE_CFG, 17, 16⟩
def HST_COARSE_CFG_BINS : Fld := ⟨HST_COARSE_CFG, 12, 0⟩
def HST_ZOOM_CFG : Nat := 0x200004
def HST_ZOOM_CFG_WIDTH : Fld := ⟨HST_ZOOM_CFG, 28, 24⟩
def HST_ZOOM_CFG_WINDOWS : Fld := ⟨HST_ZOOM_CFG, 18, 16⟩
def HST_ZOOM_CFG_BINS : Fld := ⟨HST_ZOOM_CFG, 8, 0⟩
def HST_PICK_CFG : Nat := 0x200008
def HST_PICK_CFG_TH_MIN : Fld := ⟨HST_PICK_CFG, 31, 24⟩
def HST_PICK_CFG_TH_K : Fld := ⟨HST_PICK_CFG, 23, 16⟩
def HST_PICK_CFG_GAP : Fld := ⟨HST_PICK_CFG, 11, 8⟩
def HST_PICK_CFG_GUARD : Fld := ⟨HST_PICK_CFG, 7, 4⟩
def HST_PICK_CFG_ORDER : Fld := ⟨HST_PICK_CFG, 1, 0⟩
def HST_VEIL_CFG : Nat := 0x20000C
def HST_VEIL_CFG_RUN_NS : Fld := ⟨HST_VEIL_CFG, 31, 24⟩
def HST_VEIL_CFG_SPREAD : Fld := ⟨HST_VEIL_CFG, 23, 16⟩
def HST_VEIL_CFG_LAST_RETURN : Fld := ⟨HST_VEIL_CFG, 1, 1⟩
def HST_VEIL_CFG_VEIL_EN : Fld := ⟨HST_VEIL_CFG, 0, 0⟩
def HST_CONS_CFG : Nat := 0x200010
def HST_CONS_CFG_CORE : Fld := ⟨HST_CONS_CFG, 27, 16⟩
def HST_CONS_CFG_MIN_PCT : Fld := ⟨HST_CONS_CFG, 7, 0⟩
def HST_COMMIT : Nat := 0x200020
def HST_COMMIT_MODE : Fld := ⟨HST_COMMIT, 1, 1⟩
def HST_COMMIT_GO : Fld := ⟨HST_COMMIT, 0, 0⟩
def HST_GEN : Nat := 0x200024
def HST_GEN_V : Fld := ⟨HST_GEN, 15, 0⟩
def HST_STATUS : Nat := 0x200028
def HST_STATUS_COMMIT_PENDING : Fld := ⟨HST_STATUS, 0, 0⟩
def HST_CFG_ERR : Nat := 0x20002C
def HST_CFG_ERR_CODE : Fld := ⟨HST_CFG_ERR, 31, 24⟩
def HST_CFG_ERR_DETAIL : Fld := ⟨HST_CFG_ERR, 15, 0⟩
def HST_LATE : Nat := 0x200030
def HST_LATE_V : Fld := ⟨HST_LATE, 31, 0⟩
def HST_TAP_CFG : Nat := 0x200034
def HST_TAP_CFG_EN : Fld := ⟨HST_TAP_CFG, 31, 31⟩
def HST_TAP_CFG_PORT : Fld := ⟨HST_TAP_CFG, 30, 30⟩
def HST_TAP_CFG_QUEUE : Fld := ⟨HST_TAP_CFG, 28, 24⟩
def HST_TAP_CFG_DECIM : Fld := ⟨HST_TAP_CFG, 15, 0⟩
def HST_TAP_DROP : Nat := 0x200038
def HST_TAP_DROP_V : Fld := ⟨HST_TAP_DROP, 31, 0⟩
def HST_TAP_CH (t : Nat) : Nat := 0x200040 + 4 * t
def HST_TAP_CH_EN (t : Nat) : Fld := ⟨(HST_TAP_CH t), 31, 31⟩
def HST_TAP_CH_CH (t : Nat) : Fld := ⟨(HST_TAP_CH t), 7, 0⟩

/-! ### 06_histograms, R169 -/

def HST_CH_SHOTS (c : Nat) : Nat := 0x201000 + 16 * c
def HST_CH_SHOTS_LOST (c : Nat) : Fld := ⟨(HST_CH_SHOTS c), 30, 24⟩
def HST_CH_SHOTS_ZOOM (c : Nat) : Fld := ⟨(HST_CH_SHOTS c), 22, 16⟩
def HST_CH_SHOTS_COARSE (c : Nat) : Fld := ⟨(HST_CH_SHOTS c), 14, 8⟩
def HST_CH_SHOTS_WINDOWS (c : Nat) : Fld := ⟨(HST_CH_SHOTS c), 2, 0⟩
def HST_CH_AMB (c : Nat) : Nat := 0x201004 + 16 * c
def HST_CH_AMB_V (c : Nat) : Fld := ⟨(HST_CH_AMB c), 31, 0⟩
def HST_CH_WIN (c : Nat) : Nat := 0x201008 + 16 * c
def HST_CH_ERR (c : Nat) : Nat := 0x20100C + 16 * c
def HST_CH_ERR_SEQ (c : Nat) : Fld := ⟨(HST_CH_ERR c), 31, 16⟩
def HST_CH_ERR_POISON (c : Nat) : Fld := ⟨(HST_CH_ERR c), 15, 0⟩

/-! ### 07_points_packets, R200 -/

def PNT_STATUS : Nat := 0x280000
def PNT_STATUS_BENCH_LEFT : Fld := ⟨PNT_STATUS, 31, 24⟩
def PNT_STATUS_SENT_OFF : Fld := ⟨PNT_STATUS, 23, 16⟩
def PNT_STATUS_IN_SERVICE : Fld := ⟨PNT_STATUS, 15, 8⟩
def PNT_STATUS_KERNEL_ACTIVE : Fld := ⟨PNT_STATUS, 0, 0⟩
def PNT_CHAIN_CFG : Nat := 0x280004
def PNT_CHAIN_CFG_MAX_RETURNS : Fld := ⟨PNT_CHAIN_CFG, 10, 8⟩
def PNT_CHAIN_CFG_COLOUR : Fld := ⟨PNT_CHAIN_CFG, 3, 3⟩
def PNT_CHAIN_CFG_UNCONF : Fld := ⟨PNT_CHAIN_CFG, 2, 2⟩
def PNT_CHAIN_CFG_WALK_EN : Fld := ⟨PNT_CHAIN_CFG, 1, 1⟩
def PNT_CHAIN_CFG_PILE_EN : Fld := ⟨PNT_CHAIN_CFG, 0, 0⟩
def PNT_PEAK_CFG : Nat := 0x280008
def PNT_PEAK_CFG_HALF : Fld := ⟨PNT_PEAK_CFG, 3, 0⟩
def PNT_CONF_CFG : Nat := 0x28000C
def PNT_CONF_CFG_CONF_NET : Fld := ⟨PNT_CONF_CFG, 15, 8⟩
def PNT_VEIL_CLS : Nat := 0x280010
def PNT_VEIL_CLS_SPIKE : Fld := ⟨PNT_VEIL_CLS, 7, 0⟩
def PNT_INT_CFG : Nat := 0x280014
def PNT_INT_CFG_RANGE_COMP : Fld := ⟨PNT_INT_CFG, 31, 31⟩
def PNT_INT_CFG_R_REF : Fld := ⟨PNT_INT_CFG, 30, 16⟩
def PNT_INT_CFG_GAIN : Fld := ⟨PNT_INT_CFG, 15, 0⟩
def PNT_KERNEL_CTRL : Nat := 0x280018
def PNT_KERNEL_CTRL_ENABLE : Fld := ⟨PNT_KERNEL_CTRL, 0, 0⟩
def PNT_KSTATUS : Nat := 0x28001C
def PNT_KSTATUS_LOADED : Fld := ⟨PNT_KSTATUS, 31, 31⟩
def PNT_KSTATUS_ACTIVE : Fld := ⟨PNT_KSTATUS, 30, 30⟩
def PNT_KSTATUS_DISABLED : Fld := ⟨PNT_KSTATUS, 29, 29⟩
def PNT_KSTATUS_HOOK : Fld := ⟨PNT_KSTATUS, 24, 24⟩
def PNT_KSTATUS_VERSION : Fld := ⟨PNT_KSTATUS, 15, 0⟩
def PNT_CFG_ERR : Nat := 0x280020
def PNT_CFG_ERR_CODE : Fld := ⟨PNT_CFG_ERR, 31, 24⟩
def PNT_CFG_ERR_DETAIL : Fld := ⟨PNT_CFG_ERR, 15, 0⟩
def PNT_KFAULT : Nat := 0x280024
def PNT_KFAULT_QUOTA : Fld := ⟨PNT_KFAULT, 31, 16⟩
def PNT_KFAULT_TRAP : Fld := ⟨PNT_KFAULT, 15, 0⟩
def PNT_LINE_LOST : Nat := 0x280028
def PNT_LINE_LOST_V : Fld := ⟨PNT_LINE_LOST, 31, 0⟩
def PNT_REPLAYS : Nat := 0x28002C
def PNT_REPLAYS_V : Fld := ⟨PNT_REPLAYS, 31, 0⟩
def PNT_PKT_CFG : Nat := 0x280040
def PNT_PKT_CFG_SEGMENT : Fld := ⟨PNT_PKT_CFG, 31, 24⟩
def PNT_PKT_CFG_ALLOW_UNSIGNED : Fld := ⟨PNT_PKT_CFG, 0, 0⟩
def PNT_PKT_STREAM_ID : Nat := 0x280044
def PNT_PKT_STREAM_ID_V : Fld := ⟨PNT_PKT_STREAM_ID, 31, 0⟩
def PNT_PKT_ROUTE : Nat := 0x280048
def PNT_PKT_ROUTE_ALARM : Fld := ⟨PNT_PKT_ROUTE, 15, 12⟩
def PNT_PKT_ROUTE_IMAGE : Fld := ⟨PNT_PKT_ROUTE, 11, 8⟩
def PNT_PKT_ROUTE_FRAME : Fld := ⟨PNT_PKT_ROUTE, 7, 4⟩
def PNT_PKT_ROUTE_LINE : Fld := ⟨PNT_PKT_ROUTE, 3, 0⟩
def PNT_PKT_QUEUE : Nat := 0x28004C
def PNT_PKT_QUEUE_QUEUE_B : Fld := ⟨PNT_PKT_QUEUE, 12, 8⟩
def PNT_PKT_QUEUE_QUEUE_A : Fld := ⟨PNT_PKT_QUEUE, 4, 0⟩
def PNT_PKT_SEQ_LO : Nat := 0x280050
def PNT_PKT_SEQ_LO_V : Fld := ⟨PNT_PKT_SEQ_LO, 31, 0⟩
def PNT_PKT_SEQ_HI : Nat := 0x280054
def PNT_PKT_SEQ_HI_V : Fld := ⟨PNT_PKT_SEQ_HI, 31, 0⟩
def PNT_PKT_STATUS : Nat := 0x280058
def PNT_PKT_STATUS_FROZEN : Fld := ⟨PNT_PKT_STATUS, 31, 31⟩
def PNT_PKT_STATUS_KEY_VALID : Fld := ⟨PNT_PKT_STATUS, 30, 30⟩
def PNT_PKT_STATUS_KEY_EPOCH : Fld := ⟨PNT_PKT_STATUS, 7, 0⟩
def PNT_PKT_DROP (d : Nat) : Nat := 0x280060 + 4 * d
def PNT_PKT_DROP_V (d : Nat) : Fld := ⟨(PNT_PKT_DROP d), 31, 0⟩
def PNT_PKT_UNSIGNED : Nat := 0x280070
def PNT_PKT_UNSIGNED_V : Fld := ⟨PNT_PKT_UNSIGNED, 31, 0⟩
def PNT_ENG_STATUS (e : Nat) : Nat := 0x280100 + 4 * e
def PNT_ENG_STATUS_ROLE (e : Nat) : Fld := ⟨(PNT_ENG_STATUS e), 31, 30⟩
def PNT_ENG_STATUS_CH_COUNT (e : Nat) : Fld := ⟨(PNT_ENG_STATUS e), 26, 24⟩
def PNT_ENG_STATUS_CORRECTED (e : Nat) : Fld := ⟨(PNT_ENG_STATUS e), 15, 8⟩
def PNT_ENG_STATUS_UNCORRECTED (e : Nat) : Fld := ⟨(PNT_ENG_STATUS e), 7, 0⟩

/-! ### 08_line_imaging, R221 -/

def IMG_CTRL : Nat := 0x300000
def IMG_CTRL_ENABLE : Fld := ⟨IMG_CTRL, 0, 0⟩
def IMG_STATUS : Nat := 0x300004
def IMG_STATUS_RUNNING : Fld := ⟨IMG_STATUS, 31, 31⟩
def IMG_STATUS_COMMIT_PENDING : Fld := ⟨IMG_STATUS, 30, 30⟩
def IMG_STATUS_CAPTURE_ACTIVE : Fld := ⟨IMG_STATUS, 29, 29⟩
def IMG_STATUS_TDI_HALT : Fld := ⟨IMG_STATUS, 28, 28⟩
def IMG_STATUS_LINK_STALE : Fld := ⟨IMG_STATUS, 27, 27⟩
def IMG_STATUS_BENCH_LEFT : Fld := ⟨IMG_STATUS, 22, 16⟩
def IMG_STATUS_DEFECT : Fld := ⟨IMG_STATUS, 15, 0⟩
def IMG_CFG_ERR : Nat := 0x300008
def IMG_CFG_ERR_CODE : Fld := ⟨IMG_CFG_ERR, 31, 24⟩
def IMG_CFG_ERR_DETAIL : Fld := ⟨IMG_CFG_ERR, 15, 0⟩
def IMG_COMMIT : Nat := 0x30000C
def IMG_COMMIT_GO : Fld := ⟨IMG_COMMIT, 0, 0⟩
def IMG_GEN : Nat := 0x300010
def IMG_GEN_V : Fld := ⟨IMG_GEN, 15, 0⟩
def IMG_APPLIED_FRAME : Nat := 0x300014
def IMG_APPLIED_FRAME_V : Fld := ⟨IMG_APPLIED_FRAME, 31, 0⟩
def IMG_TDI_STATE : Nat := 0x300018
def IMG_TDI_STATE_TAP_B : Fld := ⟨IMG_TDI_STATE, 28, 24⟩
def IMG_TDI_STATE_TAP_A : Fld := ⟨IMG_TDI_STATE, 20, 16⟩
def IMG_TDI_STATE_VEL : Fld := ⟨IMG_TDI_STATE, 15, 0⟩
def IMG_TDI_CFG : Nat := 0x300020
def IMG_TDI_CFG_MULTI : Fld := ⟨IMG_TDI_CFG, 31, 31⟩
def IMG_TDI_CFG_VEL_SRC : Fld := ⟨IMG_TDI_CFG, 30, 30⟩
def IMG_TDI_CFG_REVERSE : Fld := ⟨IMG_TDI_CFG, 29, 29⟩
def IMG_TDI_CFG_STAGES_B : Fld := ⟨IMG_TDI_CFG, 25, 24⟩
def IMG_TDI_CFG_STAGES_A : Fld := ⟨IMG_TDI_CFG, 17, 16⟩
def IMG_TDI_CFG_VEL : Fld := ⟨IMG_TDI_CFG, 15, 0⟩
def IMG_SET_A : Nat := 0x300024
def IMG_SET_A_GAIN : Fld := ⟨IMG_SET_A, 29, 28⟩
def IMG_SET_A_EXP : Fld := ⟨IMG_SET_A, 10, 0⟩
def IMG_SET_B : Nat := 0x300028
def IMG_SET_B_GAIN : Fld := ⟨IMG_SET_B, 29, 28⟩
def IMG_SET_B_EXP : Fld := ⟨IMG_SET_B, 10, 0⟩
def IMG_ROWS : Nat := 0x30002C
def IMG_ROWS_COUNT : Fld := ⟨IMG_ROWS, 26, 16⟩
def IMG_ROWS_START : Fld := ⟨IMG_ROWS, 10, 0⟩
def IMG_LINES : Nat := 0x300030
def IMG_LINES_COUNT : Fld := ⟨IMG_LINES, 30, 16⟩
def IMG_LINES_START : Fld := ⟨IMG_LINES, 13, 0⟩
def IMG_BIN : Nat := 0x300034
def IMG_BIN_ROW_BIN : Fld := ⟨IMG_BIN, 1, 0⟩
def IMG_TRIG_CFG : Nat := 0x300038
def IMG_TRIG_CFG_SRC : Fld := ⟨IMG_TRIG_CFG, 31, 30⟩
def IMG_TRIG_CFG_FACET_MASK : Fld := ⟨IMG_TRIG_CFG, 23, 16⟩
def IMG_TRIG_CFG_DELAY : Fld := ⟨IMG_TRIG_CFG, 13, 0⟩
def IMG_TRIG_ANGLE : Nat := 0x30003C
def IMG_TRIG_ANGLE_V : Fld := ⟨IMG_TRIG_ANGLE, 15, 0⟩
def IMG_CONV_CFG : Nat := 0x300040
def IMG_CONV_CFG_PEDESTAL : Fld := ⟨IMG_CONV_CFG, 29, 16⟩
def IMG_CONV_CFG_TEST_TOL : Fld := ⟨IMG_CONV_CFG, 7, 0⟩
def IMG_LINE_ERR : Nat := 0x300060
def IMG_LINE_ERR_LONG : Fld := ⟨IMG_LINE_ERR, 31, 16⟩
def IMG_LINE_ERR_SHORT : Fld := ⟨IMG_LINE_ERR, 15, 0⟩
def IMG_TRIG_MISSED : Nat := 0x300064
def IMG_TRIG_MISSED_V : Fld := ⟨IMG_TRIG_MISSED, 15, 0⟩
def IMG_CONV_GROUP (g : Nat) : Nat := 0x300200 + 4 * g
def IMG_CONV_GROUP_ROLE (g : Nat) : Fld := ⟨(IMG_CONV_GROUP g), 31, 30⟩
def IMG_CONV_GROUP_SLOT (g : Nat) : Fld := ⟨(IMG_CONV_GROUP g), 20, 16⟩
def IMG_CONV_GROUP_SENT_OFF (g : Nat) : Fld := ⟨(IMG_CONV_GROUP g), 7, 0⟩
def IMG_DEFECT (w : Nat) : Nat := 0x300400 + 4 * w
def IMG_DEFECT_V (w : Nat) : Fld := ⟨(IMG_DEFECT w), 31, 0⟩

/-! ### 09_image_pipeline, R247 -/

def ISP_CTRL : Nat := 0x340000
def ISP_CTRL_SRC : Fld := ⟨ISP_CTRL, 1, 1⟩
def ISP_CTRL_ENABLE : Fld := ⟨ISP_CTRL, 0, 0⟩
def ISP_STATUS : Nat := 0x340004
def ISP_STATUS_REPROC_BUSY : Fld := ⟨ISP_STATUS, 31, 31⟩
def ISP_STATUS_CAPTURE_ACTIVE : Fld := ⟨ISP_STATUS, 30, 30⟩
def ISP_STATUS_QUEUE : Fld := ⟨ISP_STATUS, 5, 0⟩
def ISP_CFG : Nat := 0x340008
def ISP_CFG_HDR_EN : Fld := ⟨ISP_CFG, 4, 4⟩
def ISP_CFG_FPN_EN : Fld := ⟨ISP_CFG, 3, 3⟩
def ISP_CFG_TNR_EN : Fld := ⟨ISP_CFG, 2, 2⟩
def ISP_CFG_SNR_EN : Fld := ⟨ISP_CFG, 1, 1⟩
def ISP_CFG_FILL_EN : Fld := ⟨ISP_CFG, 0, 0⟩
def ISP_SNR : Nat := 0x34000C
def ISP_SNR_TH : Fld := ⟨ISP_SNR, 29, 16⟩
def ISP_SNR_K : Fld := ⟨ISP_SNR, 3, 0⟩
def ISP_TNR : Nat := 0x340010
def ISP_TNR_REF : Fld := ⟨ISP_TNR, 31, 31⟩
def ISP_TNR_TH : Fld := ⟨ISP_TNR, 29, 16⟩
def ISP_TNR_K : Fld := ⟨ISP_TNR, 3, 0⟩
def ISP_HDR : Nat := 0x340014
def ISP_HDR_SAT_TH : Fld := ⟨ISP_HDR, 13, 0⟩
def ISP_DEMOSAIC : Nat := 0x340018
def ISP_DEMOSAIC_EDGE_TH : Fld := ⟨ISP_DEMOSAIC, 19, 0⟩
def ISP_CCM (k : Nat) : Nat := 0x340020 + 4 * k
def ISP_OUT : Nat := 0x340040
def ISP_OUT_FORMAT : Fld := ⟨ISP_OUT, 31, 28⟩
def ISP_OUT_SHIFT : Fld := ⟨ISP_OUT, 27, 24⟩
def ISP_OUT_SEG : Fld := ⟨ISP_OUT, 2, 0⟩
def ISP_FUSE : Nat := 0x340044
def ISP_FUSE_SHIFT : Fld := ⟨ISP_FUSE, 3, 0⟩
def ISP_STAT_CFG : Nat := 0x340048
def ISP_STAT_CFG_HIST_SHIFT : Fld := ⟨ISP_STAT_CFG, 3, 0⟩
def ISP_HDR_RATIO : Nat := 0x34004C
def ISP_HDR_RATIO_V : Fld := ⟨ISP_HDR_RATIO, 23, 0⟩
def ISP_MEM_BASE : Nat := 0x340050
def ISP_MEM_BASE_V : Fld := ⟨ISP_MEM_BASE, 15, 0⟩
def ISP_MEM_CTRL : Nat := 0x340054
def ISP_MEM_CTRL_REPROC : Fld := ⟨ISP_MEM_CTRL, 31, 31⟩
def ISP_MEM_CTRL_CAPTURE : Fld := ⟨ISP_MEM_CTRL, 30, 30⟩
def ISP_MEM_CTRL_LINES : Fld := ⟨ISP_MEM_CTRL, 15, 0⟩
def ISP_STAT_INFO : Nat := 0x340060
def ISP_STAT_INFO_V : Fld := ⟨ISP_STAT_INFO, 31, 0⟩
def ISP_STAT_GEN : Nat := 0x340064
def ISP_STAT_GEN_OLD_LINES : Fld := ⟨ISP_STAT_GEN, 31, 16⟩
def ISP_STAT_GEN_GEN : Fld := ⟨ISP_STAT_GEN, 15, 0⟩
def ISP_STAT_LINES : Nat := 0x340068
def ISP_STAT_LINES_REPROC : Fld := ⟨ISP_STAT_LINES, 31, 31⟩
def ISP_STAT_LINES_SHORT : Fld := ⟨ISP_STAT_LINES, 30, 30⟩
def ISP_STAT_LINES_LINES : Fld := ⟨ISP_STAT_LINES, 15, 0⟩
def ISP_DROP : Nat := 0x340070
def ISP_DROP_V : Fld := ⟨ISP_DROP, 31, 0⟩
def ISP_TNR_SKIP : Nat := 0x340074
def ISP_TNR_SKIP_V : Fld := ⟨ISP_TNR_SKIP, 31, 0⟩
def ISP_STAT_ZONE (z b : Nat) : Nat := 0x341000 + 16 * z + 4 * b
def ISP_STAT_ZONE_SAT (z b : Nat) : Fld := ⟨(ISP_STAT_ZONE z b), 31, 24⟩
def ISP_STAT_ZONE_MEAN (z b : Nat) : Fld := ⟨(ISP_STAT_ZONE z b), 19, 0⟩
def ISP_STAT_ZCNT (z : Nat) : Nat := 0x341C00 + 4 * z
def ISP_STAT_ZCNT_V (z : Nat) : Fld := ⟨(ISP_STAT_ZCNT z), 16, 0⟩
def ISP_STAT_HIST (b i : Nat) : Nat := 0x342000 + 1024 * b + 4 * i
def ISP_STAT_HIST_V (b i : Nat) : Fld := ⟨(ISP_STAT_HIST b i), 31, 0⟩
def ISP_FPN (p : Nat) : Nat := 0x344000 + 4 * p
def ISP_FPN_GAIN (p : Nat) : Fld := ⟨(ISP_FPN p), 31, 16⟩
def ISP_FPN_OFS (p : Nat) : Fld := ⟨(ISP_FPN p), 15, 0⟩

/-! ### 10_front_end, R273 -/

def AFE_CTRL : Nat := 0x3C0000
def AFE_CTRL_EN : Fld := ⟨AFE_CTRL, 7, 0⟩
def AFE_STATUS : Nat := 0x3C0004
def AFE_STATUS_SETTLING : Fld := ⟨AFE_STATUS, 23, 16⟩
def AFE_STATUS_FAULT : Fld := ⟨AFE_STATUS, 15, 8⟩
def AFE_STATUS_RUNNING : Fld := ⟨AFE_STATUS, 7, 0⟩
def AFE_CFG_ERR : Nat := 0x3C0008
def AFE_CFG_ERR_CODE : Fld := ⟨AFE_CFG_ERR, 31, 24⟩
def AFE_CFG_ERR_DETAIL : Fld := ⟨AFE_CFG_ERR, 15, 0⟩
def FLT_EVT_INFO : Nat := 0x3C000C
def FLT_EVT_INFO_CHAIN : Fld := ⟨FLT_EVT_INFO, 11, 8⟩
def FLT_EVT_INFO_SWITCH : Fld := ⟨FLT_EVT_INFO, 1, 0⟩
def FLT_TRIP : Nat := 0x3C0010
def FLT_TRIP_LATCHED : Fld := ⟨FLT_TRIP, 31, 31⟩
def FLT_TRIP_CHAIN : Fld := ⟨FLT_TRIP, 11, 8⟩
def FLT_TRIP_SWITCH : Fld := ⟨FLT_TRIP, 5, 4⟩
def FLT_TRIP_CLEAR : Fld := ⟨FLT_TRIP, 0, 0⟩
def AFE_MODE (m : Nat) : Nat := 0x3C0100 + 64 * m
def AFE_MODE_RANGE_PENDING (m : Nat) : Fld := ⟨(AFE_MODE m), 29, 29⟩
def AFE_MODE_PRESET (m : Nat) : Fld := ⟨(AFE_MODE m), 13, 12⟩
def AFE_MODE_RANGE (m : Nat) : Fld := ⟨(AFE_MODE m), 9, 8⟩
def AFE_MODE_MODE (m : Nat) : Fld := ⟨(AFE_MODE m), 3, 0⟩
def AFE_EXC (m : Nat) : Nat := 0x3C0104 + 64 * m
def AFE_EXC_FREQ (m : Nat) : Fld := ⟨(AFE_EXC m), 27, 16⟩
def AFE_EXC_AMPL (m : Nat) : Fld := ⟨(AFE_EXC m), 11, 0⟩
def AFE_PHASE (m : Nat) : Nat := 0x3C0108 + 64 * m
def AFE_PHASE_DEMOD_PHASE (m : Nat) : Fld := ⟨(AFE_PHASE m), 31, 16⟩
def AFE_PHASE_EXC_PHASE (m : Nat) : Fld := ⟨(AFE_PHASE m), 15, 0⟩
def AFE_CHG (m : Nat) : Nat := 0x3C010C + 64 * m
def AFE_CHG_RESET_MS (m : Nat) : Fld := ⟨(AFE_CHG m), 29, 16⟩
def AFE_CHG_DECAY (m : Nat) : Fld := ⟨(AFE_CHG m), 7, 0⟩
def AFE_LEAD (m : Nat) : Nat := 0x3C0110 + 64 * m
def AFE_LEAD_MEAS (m : Nat) : Fld := ⟨(AFE_LEAD m), 31, 16⟩
def AFE_LEAD_SET (m : Nat) : Fld := ⟨(AFE_LEAD m), 15, 0⟩
def AFE_RAW (m : Nat) : Nat := 0x3C0114 + 64 * m
def AFE_RAW_QUAD (m : Nat) : Fld := ⟨(AFE_RAW m), 31, 16⟩
def AFE_RAW_X (m : Nat) : Fld := ⟨(AFE_RAW m), 15, 0⟩
def AFE_LIM (m : Nat) : Nat := 0x3C0118 + 64 * m
def AFE_LIM_SIG_LOW (m : Nat) : Fld := ⟨(AFE_LIM m), 15, 0⟩
def AFE_FAULT (m : Nat) : Nat := 0x3C011C + 64 * m
def AFE_FAULT_OPEN (m : Nat) : Fld := ⟨(AFE_FAULT m), 2, 2⟩
def AFE_FAULT_SIG_LOW (m : Nat) : Fld := ⟨(AFE_FAULT m), 1, 1⟩
def AFE_FAULT_OVERRANGE (m : Nat) : Fld := ⟨(AFE_FAULT m), 0, 0⟩

/-! ### 10_front_end, R274 -/

def FLT_SRC (j : Nat) : Nat := 0x3C1000 + 256 * j
def FLT_SRC_DUAL (j : Nat) : Fld := ⟨(FLT_SRC j), 5, 5⟩
def FLT_SRC_INPUT (j : Nat) : Fld := ⟨(FLT_SRC j), 4, 0⟩
def FLT_POLY_CFG (j : Nat) : Nat := 0x3C1004 + 256 * j
def FLT_POLY_CFG_SCALE (j : Nat) : Fld := ⟨(FLT_POLY_CFG j), 20, 16⟩
def FLT_POLY_CFG_DEG_T (j : Nat) : Fld := ⟨(FLT_POLY_CFG j), 14, 12⟩
def FLT_POLY_CFG_DEG_X (j : Nat) : Fld := ⟨(FLT_POLY_CFG j), 10, 8⟩
def FLT_POLY_CFG_TSRC (j : Nat) : Fld := ⟨(FLT_POLY_CFG j), 7, 0⟩
def FLT_TREF (j : Nat) : Nat := 0x3C1008 + 256 * j
def FLT_TREF_V (j : Nat) : Fld := ⟨(FLT_TREF j), 15, 0⟩
def FLT_VALUE (j : Nat) : Nat := 0x3C100C + 256 * j
def FLT_VALUE_SETTLING (j : Nat) : Fld := ⟨(FLT_VALUE j), 31, 31⟩
def FLT_VALUE_SAT (j : Nat) : Fld := ⟨(FLT_VALUE j), 30, 30⟩
def FLT_VALUE_SUSPECT (j : Nat) : Fld := ⟨(FLT_VALUE j), 29, 29⟩
def FLT_VALUE_REF_NOT_READY (j : Nat) : Fld := ⟨(FLT_VALUE j), 28, 28⟩
def FLT_VALUE_FAULT (j : Nat) : Fld := ⟨(FLT_VALUE j), 27, 27⟩
def FLT_VALUE_CLIP (j : Nat) : Fld := ⟨(FLT_VALUE j), 26, 26⟩
def FLT_VALUE_VALUE (j : Nat) : Fld := ⟨(FLT_VALUE j), 15, 0⟩
def FLT_COUNT (j : Nat) : Nat := 0x3C1010 + 256 * j
def FLT_COUNT_V (j : Nat) : Fld := ⟨(FLT_COUNT j), 31, 0⟩
def FLT_COEF (j w : Nat) : Nat := 0x3C1020 + 256 * j + 4 * w
def FLT_COEF_V (j w : Nat) : Fld := ⟨(FLT_COEF j w), 31, 0⟩
def FLT_SW_LEVEL (j k : Nat) : Nat := 0x3C1080 + 256 * j + 8 * k
def FLT_SW_LEVEL_HYST (j k : Nat) : Fld := ⟨(FLT_SW_LEVEL j k), 30, 16⟩
def FLT_SW_LEVEL_LEVEL (j k : Nat) : Fld := ⟨(FLT_SW_LEVEL j k), 15, 0⟩
def FLT_SW_CFG (j k : Nat) : Nat := 0x3C1084 + 256 * j + 8 * k
def FLT_SW_CFG_EN (j k : Nat) : Fld := ⟨(FLT_SW_CFG j k), 31, 31⟩
def FLT_SW_CFG_DIR (j k : Nat) : Fld := ⟨(FLT_SW_CFG j k), 30, 30⟩
def FLT_SW_CFG_INPUT (j k : Nat) : Fld := ⟨(FLT_SW_CFG j k), 29, 28⟩
def FLT_SW_CFG_ROUTE_EVT (j k : Nat) : Fld := ⟨(FLT_SW_CFG j k), 26, 26⟩
def FLT_SW_CFG_ROUTE_ILK (j k : Nat) : Fld := ⟨(FLT_SW_CFG j k), 25, 25⟩
def FLT_SW_CFG_ROUTE_GPIO (j k : Nat) : Fld := ⟨(FLT_SW_CFG j k), 24, 24⟩
def FLT_SW_CFG_GPIO_POL (j k : Nat) : Fld := ⟨(FLT_SW_CFG j k), 23, 23⟩
def FLT_SW_CFG_GPIO_PIN (j k : Nat) : Fld := ⟨(FLT_SW_CFG j k), 19, 16⟩
def FLT_SW_CFG_DEBOUNCE (j k : Nat) : Fld := ⟨(FLT_SW_CFG j k), 7, 0⟩
def FLT_SW_STATE (j : Nat) : Nat := 0x3C10A0 + 256 * j
def FLT_SW_STATE_SUSPECT (j : Nat) : Fld := ⟨(FLT_SW_STATE j), 7, 4⟩
def FLT_SW_STATE_ON (j : Nat) : Fld := ⟨(FLT_SW_STATE j), 3, 0⟩
def FLT_DET_CFG (j : Nat) : Nat := 0x3C10A4 + 256 * j
def FLT_DET_CFG_REL (j : Nat) : Fld := ⟨(FLT_DET_CFG j), 19, 16⟩
def FLT_DET_CFG_WIN_LOG2 (j : Nat) : Fld := ⟨(FLT_DET_CFG j), 3, 0⟩
def FLT_PEAK (j : Nat) : Nat := 0x3C10A8 + 256 * j
def FLT_PEAK_MAX (j : Nat) : Fld := ⟨(FLT_PEAK j), 31, 16⟩
def FLT_PEAK_MIN (j : Nat) : Fld := ⟨(FLT_PEAK j), 15, 0⟩
def FLT_RMS (j : Nat) : Nat := 0x3C10AC + 256 * j
def FLT_RMS_V (j : Nat) : Fld := ⟨(FLT_RMS j), 15, 0⟩
def FLT_ENV (j : Nat) : Nat := 0x3C10B0 + 256 * j
def FLT_ENV_V (j : Nat) : Fld := ⟨(FLT_ENV j), 15, 0⟩
def FLT_DET_RESTART (j : Nat) : Nat := 0x3C10B4 + 256 * j
def FLT_DET_RESTART_V (j : Nat) : Fld := ⟨(FLT_DET_RESTART j), 0, 0⟩

/-! ### 11_housekeeping_adc, R289 -/

def ADC_CTRL : Nat := 0x400000
def ADC_CTRL_REF_SRC : Fld := ⟨ADC_CTRL, 4, 4⟩
def ADC_CTRL_REF_EN : Fld := ⟨ADC_CTRL, 1, 1⟩
def ADC_CTRL_RUN : Fld := ⟨ADC_CTRL, 0, 0⟩
def ADC_STATUS : Nat := 0x400004
def ADC_STATUS_REF_READY : Fld := ⟨ADC_STATUS, 31, 31⟩
def ADC_STATUS_SUSPECT : Fld := ⟨ADC_STATUS, 30, 30⟩
def ADC_STATUS_RUNNING : Fld := ⟨ADC_STATUS, 29, 29⟩
def ADC_STATUS_COMMIT_PENDING : Fld := ⟨ADC_STATUS, 28, 28⟩
def ADC_STATUS_STEPS : Fld := ⟨ADC_STATUS, 6, 0⟩
def ADC_CFG_ERR : Nat := 0x400008
def ADC_CFG_ERR_CODE : Fld := ⟨ADC_CFG_ERR, 31, 24⟩
def ADC_CFG_ERR_DETAIL : Fld := ⟨ADC_CFG_ERR, 15, 0⟩
def ADC_SEQ_CFG : Nat := 0x40000C
def ADC_SEQ_CFG_TRIG : Fld := ⟨ADC_SEQ_CFG, 31, 30⟩
def ADC_SEQ_CFG_STEPS : Fld := ⟨ADC_SEQ_CFG, 22, 16⟩
def ADC_SEQ_CFG_PERIOD : Fld := ⟨ADC_SEQ_CFG, 15, 0⟩
def ADC_COMMIT : Nat := 0x400010
def ADC_COMMIT_GO : Fld := ⟨ADC_COMMIT, 0, 0⟩
def ADC_GO : Nat := 0x400014
def ADC_GO_V : Fld := ⟨ADC_GO, 0, 0⟩
def ADC_CHECK_CFG : Nat := 0x400018
def ADC_CHECK_CFG_AGREE : Fld := ⟨ADC_CHECK_CFG, 15, 8⟩
def ADC_CHECK_CFG_TOL : Fld := ⟨ADC_CHECK_CFG, 7, 0⟩
def ADC_CHECK : Nat := 0x40001C
def ADC_CHECK_CONV1 : Fld := ⟨ADC_CHECK, 29, 16⟩
def ADC_CHECK_CONV0 : Fld := ⟨ADC_CHECK, 13, 0⟩
def ADC_SYS_BIAS : Nat := 0x400020
def ADC_SYS_BIAS_CONV1 : Fld := ⟨ADC_SYS_BIAS, 29, 16⟩
def ADC_SYS_BIAS_CONV0 : Fld := ⟨ADC_SYS_BIAS, 13, 0⟩
def ADC_SEQ_NUM : Nat := 0x400024
def ADC_SEQ_NUM_V : Fld := ⟨ADC_SEQ_NUM, 31, 0⟩
def ADC_OVERRUN : Nat := 0x400028
def ADC_OVERRUN_V : Fld := ⟨ADC_OVERRUN, 31, 0⟩
def ADC_DISAGREE_CNT : Nat := 0x40002C
def ADC_DISAGREE_CNT_V : Fld := ⟨ADC_DISAGREE_CNT, 31, 0⟩
def ADC_STEP (s : Nat) : Nat := 0x400100 + 4 * s
def ADC_STEP_ACQ (s : Nat) : Fld := ⟨(ADC_STEP s), 31, 29⟩
def ADC_RESULT (c s : Nat) : Nat := 0x400200 + 256 * c + 4 * s
def ADC_RESULT_VALID (c s : Nat) : Fld := ⟨(ADC_RESULT c s), 31, 31⟩
def ADC_RESULT_REF_NOT_READY (c s : Nat) : Fld := ⟨(ADC_RESULT c s), 30, 30⟩
def ADC_RESULT_SUSPECT (c s : Nat) : Fld := ⟨(ADC_RESULT c s), 29, 29⟩
def ADC_RESULT_CLIP (c s : Nat) : Fld := ⟨(ADC_RESULT c s), 28, 28⟩
def ADC_RESULT_VALUE (c s : Nat) : Fld := ⟨(ADC_RESULT c s), 15, 0⟩

/-! ### 12_fabric_lineup, R309 -/

def BGT_OVER : Nat := 0x80000
def BGT_OVER_V : Fld := ⟨BGT_OVER, 19, 0⟩
def BGT_STARVE_CFG : Nat := 0x80004
def BGT_STARVE_CFG_OVERS : Fld := ⟨BGT_STARVE_CFG, 7, 0⟩
def BGT_COMMIT : Nat := 0x80008
def BGT_COMMIT_GO : Fld := ⟨BGT_COMMIT, 0, 0⟩
def BGT_STATUS : Nat := 0x8000C
def BGT_STATUS_COMMIT_PENDING : Fld := ⟨BGT_STATUS, 31, 31⟩
def BGT_CFG_ERR : Nat := 0x80010
def BGT_CFG_ERR_CODE : Fld := ⟨BGT_CFG_ERR, 31, 24⟩
def BGT_CFG_ERR_DETAIL : Fld := ⟨BGT_CFG_ERR, 15, 0⟩
def BGT_CAP : Nat := 0x80014
def BGT_CAP_V : Fld := ⟨BGT_CAP, 15, 0⟩
def BGT_FAB_RATE : Nat := 0x80018
def BGT_FAB_RATE_V : Fld := ⟨BGT_FAB_RATE, 15, 0⟩
def BGT_URGENT : Nat := 0x8001C
def BGT_URGENT_V : Fld := ⟨BGT_URGENT, 31, 0⟩
def BGT_OVER_NUM : Nat := 0x80020
def BGT_OVER_NUM_V : Fld := ⟨BGT_OVER_NUM, 31, 0⟩
def BGT_PROMOTIONS : Nat := 0x80024
def BGT_PROMOTIONS_V : Fld := ⟨BGT_PROMOTIONS, 31, 0⟩
def BGT_CLASS (n : Nat) : Nat := 0x80100 + 8 * n
def BGT_CLASS_PRIO (n : Nat) : Fld := ⟨(BGT_CLASS n), 29, 28⟩
def BGT_CLASS_QUOTA (n : Nat) : Fld := ⟨(BGT_CLASS n), 19, 0⟩
def BGT_SPENT (n : Nat) : Nat := 0x80104 + 8 * n
def BGT_SPENT_STARVED (n : Nat) : Fld := ⟨(BGT_SPENT n), 31, 24⟩
def BGT_SPENT_SPENT (n : Nat) : Fld := ⟨(BGT_SPENT n), 19, 0⟩
def BGT_DCF (i : Nat) : Nat := 0x80200 + 4 * i
def BGT_DCF_FULL (i : Nat) : Fld := ⟨(BGT_DCF i), 31, 31⟩
def BGT_DCF_EMPTY (i : Nat) : Fld := ⟨(BGT_DCF i), 30, 30⟩
def BGT_DCF_POISON_SEEN (i : Nat) : Fld := ⟨(BGT_DCF i), 29, 29⟩
def BGT_DCF_LEVEL (i : Nat) : Fld := ⟨(BGT_DCF i), 3, 0⟩
def BGT_LOST_ITEMS (k : Nat) : Nat := 0x80280 + 4 * k
def BGT_LOST_ITEMS_V (k : Nat) : Fld := ⟨(BGT_LOST_ITEMS k), 31, 0⟩
def BGT_PARITY (k : Nat) : Nat := 0x802A0 + 4 * k
def BGT_PARITY_V (k : Nat) : Fld := ⟨(BGT_PARITY k), 15, 0⟩

/-! ### 12_fabric_lineup, R310 -/

def LNP_STATUS : Nat := 0xC0000
def LNP_STATUS_FACTORY : Fld := ⟨LNP_STATUS, 31, 31⟩
def LNP_STATUS_SPLIT : Fld := ⟨LNP_STATUS, 30, 30⟩
def LNP_STATUS_UPDATING : Fld := ⟨LNP_STATUS, 29, 29⟩
def LNP_STATUS_COPY_OK : Fld := ⟨LNP_STATUS, 18, 16⟩
def LNP_EPOCH : Nat := 0xC0004
def LNP_EPOCH_V : Fld := ⟨LNP_EPOCH, 31, 0⟩
def LNP_CFG : Nat := 0xC0008
def LNP_CFG_ERR_LIMIT : Fld := ⟨LNP_CFG, 31, 24⟩
def LNP_CFG_ERR_WIN : Fld := ⟨LNP_CFG, 23, 16⟩
def LNP_CFG_REPLAY_MAX : Fld := ⟨LNP_CFG, 15, 8⟩
def LNP_CFG_REPLAY_WIN : Fld := ⟨LNP_CFG, 7, 0⟩
def LNP_SCRUB : Nat := 0xC000C
def LNP_SCRUB_V : Fld := ⟨LNP_SCRUB, 15, 0⟩
def LNP_LAST : Nat := 0xC0010
def LNP_LAST_KIND : Fld := ⟨LNP_LAST, 31, 28⟩
def LNP_LAST_INDEX : Fld := ⟨LNP_LAST, 27, 16⟩
def LNP_LAST_CAUSE : Fld := ⟨LNP_LAST, 7, 0⟩
def LNP_QUERY : Nat := 0xC0014
def LNP_QUERY_KIND : Fld := ⟨LNP_QUERY, 31, 28⟩
def LNP_QUERY_INDEX : Fld := ⟨LNP_QUERY, 11, 0⟩
def LNP_QUERY_DATA : Nat := 0xC0018
def LNP_QUERY_DATA_ROLE : Fld := ⟨LNP_QUERY_DATA, 31, 30⟩
def LNP_QUERY_DATA_ERRS : Fld := ⟨LNP_QUERY_DATA, 29, 24⟩
def LNP_QUERY_DATA_REPLAYS : Fld := ⟨LNP_QUERY_DATA, 23, 20⟩
def LNP_QUERY_DATA_PLACE : Fld := ⟨LNP_QUERY_DATA, 19, 0⟩
def LNP_POOL (k : Nat) : Nat := 0xC0020 + 4 * k
def LNP_POOL_IN_SERVICE (k : Nat) : Fld := ⟨(LNP_POOL k), 31, 20⟩
def LNP_POOL_BENCH_LEFT (k : Nat) : Fld := ⟨(LNP_POOL k), 19, 10⟩
def LNP_POOL_SENT_OFF (k : Nat) : Fld := ⟨(LNP_POOL k), 9, 0⟩
def LNP_COPY (i : Nat) : Nat := 0xC0030 + 4 * i
def LNP_COPY_CRC_OK (i : Nat) : Fld := ⟨(LNP_COPY i), 31, 31⟩
def LNP_COPY_TILE (i : Nat) : Fld := ⟨(LNP_COPY i), 24, 16⟩
def LNP_COPY_EPOCH_LO (i : Nat) : Fld := ⟨(LNP_COPY i), 15, 0⟩
def LNP_CHANGED (w : Nat) : Nat := 0xC0040 + 4 * w
def LNP_CHANGED_V (w : Nat) : Fld := ⟨(LNP_CHANGED w), 31, 0⟩
def LNP_MAP (w : Nat) : Nat := 0xC1000 + 4 * w

/-! ### 13_calibration, R323 -/

def CAL_CTRL : Nat := 0x420000
def CAL_CTRL_IMPORT : Fld := ⟨CAL_CTRL, 1, 1⟩
def CAL_CTRL_EXPORT : Fld := ⟨CAL_CTRL, 0, 0⟩
def CAL_XFER : Nat := 0x420004
def CAL_XFER_PORT : Fld := ⟨CAL_XFER, 31, 31⟩
def CAL_XFER_QUEUE : Fld := ⟨CAL_XFER, 28, 24⟩
def CAL_STATUS : Nat := 0x420008
def CAL_STATUS_BUSY : Fld := ⟨CAL_STATUS, 31, 31⟩
def CAL_STATUS_DIRTY : Fld := ⟨CAL_STATUS, 30, 30⟩
def CAL_STATUS_SPLIT : Fld := ⟨CAL_STATUS, 29, 29⟩
def CAL_STATUS_IMPORTED : Fld := ⟨CAL_STATUS, 28, 28⟩
def CAL_STATUS_RESEL_BUSY : Fld := ⟨CAL_STATUS, 27, 27⟩
def CAL_STATUS_COPY_OK : Fld := ⟨CAL_STATUS, 18, 16⟩
def CAL_EPOCH : Nat := 0x42000C
def CAL_EPOCH_V : Fld := ⟨CAL_EPOCH, 31, 0⟩
def CAL_EXPORT_EPOCH : Nat := 0x420010
def CAL_EXPORT_EPOCH_V : Fld := ⟨CAL_EXPORT_EPOCH, 31, 0⟩
def CAL_ERR : Nat := 0x420014
def CAL_ERR_CODE : Fld := ⟨CAL_ERR, 31, 24⟩
def CAL_ERR_DETAIL : Fld := ⟨CAL_ERR, 15, 0⟩
def CAL_RESEL : Nat := 0x420018
def CAL_RESEL_KIND : Fld := ⟨CAL_RESEL, 31, 28⟩
def CAL_RESEL_INDEX : Fld := ⟨CAL_RESEL, 11, 0⟩
def CAL_RESEL_STATUS : Nat := 0x42001C
def CAL_RESEL_STATUS_PASS : Fld := ⟨CAL_RESEL_STATUS, 31, 31⟩
def CAL_RESEL_STATUS_FAIL : Fld := ⟨CAL_RESEL_STATUS, 30, 30⟩
def CAL_RESEL_STATUS_KIND : Fld := ⟨CAL_RESEL_STATUS, 27, 24⟩
def CAL_RESEL_STATUS_INDEX : Fld := ⟨CAL_RESEL_STATUS, 11, 0⟩
def CAL_FIXES : Nat := 0x420020
def CAL_FIXES_V : Fld := ⟨CAL_FIXES, 31, 0⟩
def CAL_SPLIT_CNT : Nat := 0x420024
def CAL_SPLIT_CNT_V : Fld := ⟨CAL_SPLIT_CNT, 31, 0⟩
def CAL_GLOBAL_UNCAL : Nat := 0x420028
def CAL_GLOBAL_UNCAL_COLOUR : Fld := ⟨CAL_GLOBAL_UNCAL, 1, 1⟩
def CAL_GLOBAL_UNCAL_TRIM_VTRIM : Fld := ⟨CAL_GLOBAL_UNCAL, 0, 0⟩
def CAL_COPY (i : Nat) : Nat := 0x420030 + 4 * i
def CAL_COPY_CRC_OK (i : Nat) : Fld := ⟨(CAL_COPY i), 31, 31⟩
def CAL_COPY_TILE (i : Nat) : Fld := ⟨(CAL_COPY i), 24, 16⟩
def CAL_COPY_EPOCH_LO (i : Nat) : Fld := ⟨(CAL_COPY i), 15, 0⟩
def CAL_UNCAL (w : Nat) : Nat := 0x420040 + 4 * w
def CAL_UNCAL_V (w : Nat) : Fld := ⟨(CAL_UNCAL w), 31, 0⟩

/-! ### 14_thermal, R335 -/

def THM_STATUS : Nat := 0x410000
def THM_STATUS_STEP : Fld := ⟨THM_STATUS, 31, 28⟩
def THM_STATUS_L : Fld := ⟨THM_STATUS, 27, 24⟩
def THM_STATUS_F : Fld := ⟨THM_STATUS, 23, 19⟩
def THM_STATUS_CRIT_DET : Fld := ⟨THM_STATUS, 12, 12⟩
def THM_STATUS_THROT_DET : Fld := ⟨THM_STATUS, 11, 11⟩
def THM_STATUS_WARN_DET : Fld := ⟨THM_STATUS, 10, 10⟩
def THM_STATUS_CRIT_LOGIC : Fld := ⟨THM_STATUS, 9, 9⟩
def THM_STATUS_THROT_LOGIC : Fld := ⟨THM_STATUS, 8, 8⟩
def THM_STATUS_WARN_LOGIC : Fld := ⟨THM_STATUS, 7, 7⟩
def THM_STATUS_RATE_WARN : Fld := ⟨THM_STATUS, 6, 6⟩
def THM_STATUS_HOTTEST : Fld := ⟨THM_STATUS, 4, 0⟩
def THM_LEVEL_LOGIC : Nat := 0x410004
def THM_LEVEL_LOGIC_HARD : Fld := ⟨THM_LEVEL_LOGIC, 31, 24⟩
def THM_LEVEL_LOGIC_CRITICAL : Fld := ⟨THM_LEVEL_LOGIC, 23, 16⟩
def THM_LEVEL_LOGIC_THROTTLE : Fld := ⟨THM_LEVEL_LOGIC, 15, 8⟩
def THM_LEVEL_LOGIC_WARN : Fld := ⟨THM_LEVEL_LOGIC, 7, 0⟩
def THM_LEVEL_DET : Nat := 0x410008
def THM_LEVEL_DET_HARD : Fld := ⟨THM_LEVEL_DET, 31, 24⟩
def THM_LEVEL_DET_CRITICAL : Fld := ⟨THM_LEVEL_DET, 23, 16⟩
def THM_LEVEL_DET_THROTTLE : Fld := ⟨THM_LEVEL_DET, 15, 8⟩
def THM_LEVEL_DET_WARN : Fld := ⟨THM_LEVEL_DET, 7, 0⟩
def THM_RATE : Nat := 0x41000C
def THM_RATE_THROTTLE : Fld := ⟨THM_RATE, 15, 8⟩
def THM_RATE_WARN : Fld := ⟨THM_RATE, 7, 0⟩
def THM_STEP_CFG : Nat := 0x410010
def THM_STEP_CFG_HYST : Fld := ⟨THM_STEP_CFG, 31, 24⟩
def THM_STEP_CFG_DOWN : Fld := ⟨THM_STEP_CFG, 23, 16⟩
def THM_STEP_CFG_UP : Fld := ⟨THM_STEP_CFG, 15, 8⟩
def THM_STEP_CFG_FLOOR : Fld := ⟨THM_STEP_CFG, 3, 0⟩
def THM_CRIT_GRACE : Nat := 0x410014
def THM_CRIT_GRACE_V : Fld := ⟨THM_CRIT_GRACE, 7, 0⟩
def THM_STOP_DONE : Nat := 0x410018
def THM_STOP_DONE_V : Fld := ⟨THM_STOP_DONE, 0, 0⟩
def THM_FAILED : Nat := 0x41001C
def THM_FAILED_V : Fld := ⟨THM_FAILED, 27, 0⟩
def THM_RETEST : Nat := 0x410020
def THM_RETEST_V : Fld := ⟨THM_RETEST, 27, 0⟩
def THM_EVT_INFO : Nat := 0x410024
def THM_EVT_INFO_SENSOR : Fld := ⟨THM_EVT_INFO, 12, 8⟩
def THM_EVT_INFO_CAUSE : Fld := ⟨THM_EVT_INFO, 3, 0⟩
def THM_CFG_ERR : Nat := 0x410028
def THM_CFG_ERR_CODE : Fld := ⟨THM_CFG_ERR, 31, 24⟩
def THM_CFG_ERR_DETAIL : Fld := ⟨THM_CFG_ERR, 15, 0⟩
def THM_TEMP (i : Nat) : Nat := 0x410100 + 4 * i
def THM_TEMP_FAILED (i : Nat) : Fld := ⟨(THM_TEMP i), 31, 31⟩
def THM_TEMP_SUBST (i : Nat) : Fld := ⟨(THM_TEMP i), 30, 30⟩
def THM_TEMP_SAT (i : Nat) : Fld := ⟨(THM_TEMP i), 29, 29⟩
def THM_TEMP_TEMP (i : Nat) : Fld := ⟨(THM_TEMP i), 15, 0⟩
def THM_RATE_NOW (i : Nat) : Nat := 0x410180 + 4 * i
def THM_RATE_NOW_V (i : Nat) : Fld := ⟨(THM_RATE_NOW i), 15, 0⟩
def THM_NEIGH (i : Nat) : Nat := 0x410200 + 4 * i
def THM_NEIGH_N2 (i : Nat) : Fld := ⟨(THM_NEIGH i), 14, 10⟩
def THM_NEIGH_N1 (i : Nat) : Fld := ⟨(THM_NEIGH i), 9, 5⟩
def THM_NEIGH_N0 (i : Nat) : Fld := ⟨(THM_NEIGH i), 4, 0⟩
def THM_TRIM (i : Nat) : Nat := 0x410280 + 4 * i
def THM_TRIM_C105 (i : Nat) : Fld := ⟨(THM_TRIM i), 31, 16⟩
def THM_TRIM_C25 (i : Nat) : Fld := ⟨(THM_TRIM i), 15, 0⟩
def THM_NEIGH_OFS (i : Nat) : Nat := 0x410300 + 4 * i
def THM_NEIGH_OFS_OFS2 (i : Nat) : Fld := ⟨(THM_NEIGH_OFS i), 23, 16⟩
def THM_NEIGH_OFS_OFS1 (i : Nat) : Fld := ⟨(THM_NEIGH_OFS i), 15, 8⟩
def THM_NEIGH_OFS_OFS0 (i : Nat) : Fld := ⟨(THM_NEIGH_OFS i), 7, 0⟩

/-! ### 15_security_safety, R356 -/

def SEC_STATUS : Nat := 0x430000
def SEC_STATUS_RED_CARD : Fld := ⟨SEC_STATUS, 31, 31⟩
def SEC_STATUS_ID_VALID : Fld := ⟨SEC_STATUS, 30, 30⟩
def SEC_STATUS_ID_FAIL : Fld := ⟨SEC_STATUS, 29, 29⟩
def SEC_STATUS_PLAIN_OFF : Fld := ⟨SEC_STATUS, 27, 27⟩
def SEC_STATUS_KKEY_LOCK : Fld := ⟨SEC_STATUS, 26, 26⟩
def SEC_STATUS_RESP_LOCK : Fld := ⟨SEC_STATUS, 25, 25⟩
def SEC_CFG : Nat := 0x430004
def SEC_CFG_RESP_LOCK : Fld := ⟨SEC_CFG, 2, 2⟩
def SEC_CFG_KKEY_LOCK : Fld := ⟨SEC_CFG, 1, 1⟩
def SEC_CFG_PLAIN_OFF : Fld := ⟨SEC_CFG, 0, 0⟩
def SEC_RESP : Nat := 0x430008
def SEC_KEY_CMD : Nat := 0x43000C
def SEC_KEY_CMD_OP : Fld := ⟨SEC_KEY_CMD, 31, 30⟩
def SEC_KEY_CMD_SLOT : Fld := ⟨SEC_KEY_CMD, 1, 0⟩
def SEC_KEY_STATUS : Nat := 0x430010
def SEC_KEY_STATUS_BUSY : Fld := ⟨SEC_KEY_STATUS, 31, 31⟩
def SEC_KEY_STATUS_ERROR : Fld := ⟨SEC_KEY_STATUS, 27, 24⟩
def SEC_KEY_STATUS_PENDING : Fld := ⟨SEC_KEY_STATUS, 19, 16⟩
def SEC_KEY_STATUS_VALID : Fld := ⟨SEC_KEY_STATUS, 3, 0⟩
def SEC_KEY_KCV (s : Nat) : Nat := 0x430014 + 4 * s
def SEC_KEY_KCV_V (s : Nat) : Fld := ⟨(SEC_KEY_KCV s), 23, 0⟩
def SEC_KEY_DATA (w : Nat) : Nat := 0x430040 + 4 * w
def SEC_KEY_DATA_V (w : Nat) : Fld := ⟨(SEC_KEY_DATA w), 31, 0⟩
def SEC_ILK : Nat := 0x4300A0
def SEC_ILK_PERMIT : Fld := ⟨SEC_ILK, 31, 31⟩
def SEC_ILK_A : Fld := ⟨SEC_ILK, 30, 30⟩
def SEC_ILK_B : Fld := ⟨SEC_ILK, 29, 29⟩
def SEC_ILK_DISCREPANCY : Fld := ⟨SEC_ILK, 28, 28⟩
def SEC_ILK_CLEAR : Fld := ⟨SEC_ILK, 0, 0⟩
def SEC_ILK_CFG : Nat := 0x4300A4
def SEC_ILK_CFG_HOLD : Fld := ⟨SEC_ILK_CFG, 13, 0⟩
def SEC_FAULT : Nat := 0x4300A8
def SEC_FAULT_FORCE : Nat := 0x4300AC
def SEC_FAULT_FORCE_V : Fld := ⟨SEC_FAULT_FORCE, 0, 0⟩
def SEC_PIN_CLEAR : Nat := 0x4300B0
def SEC_PIN_CLEAR_V : Fld := ⟨SEC_PIN_CLEAR, 0, 0⟩
def SEC_BOOT : Nat := 0x4300C0
def SEC_BOOT_RESULT : Fld := ⟨SEC_BOOT, 31, 24⟩
def SEC_BOOT_SVN : Fld := ⟨SEC_BOOT, 15, 0⟩
def SEC_FW_MIN_SVN : Nat := 0x4300C4
def SEC_FW_MIN_SVN_V : Fld := ⟨SEC_FW_MIN_SVN, 15, 0⟩
def SEC_TSTEP : Nat := 0x4300C8
def SEC_TSTEP_STEP : Fld := ⟨SEC_TSTEP, 7, 0⟩
def SEC_TCOUNT (k : Nat) : Nat := 0x430100 + 4 * k
def SEC_TCOUNT_V (k : Nat) : Fld := ⟨(SEC_TCOUNT k), 15, 0⟩
def SEC_TLOG_HEAD : Nat := 0x430180
def SEC_TLOG_HEAD_TOTAL : Fld := ⟨SEC_TLOG_HEAD, 31, 16⟩
def SEC_TLOG_HEAD_NEXT : Fld := ⟨SEC_TLOG_HEAD, 3, 0⟩
def SEC_TLOG (e w : Nat) : Nat := 0x430200 + 16 * e + 4 * w
def SEC_ID_PUB (w : Nat) : Nat := 0x430400 + 4 * w
def SEC_ID_PUB_V (w : Nat) : Fld := ⟨(SEC_ID_PUB w), 31, 0⟩

/-! ### 16_host_ports, R378 -/

def POS_GRP (g : Nat) : Nat := 0x10000 + 4 * g
def POS_GRP_RESULT (g : Nat) : Fld := ⟨(POS_GRP g), 31, 30⟩
def POS_GRP_AGAIN (g : Nat) : Fld := ⟨(POS_GRP g), 29, 29⟩
def POS_GRP_HOLDER (g : Nat) : Fld := ⟨(POS_GRP g), 24, 24⟩
def POS_GRP_RELEASE (g : Nat) : Fld := ⟨(POS_GRP g), 0, 0⟩
def POS_PEEK (g : Nat) : Nat := 0x10040 + 4 * g
def POS_PEEK_HELD (g : Nat) : Fld := ⟨(POS_PEEK g), 30, 30⟩
def POS_PEEK_HOLDER (g : Nat) : Fld := ⟨(POS_PEEK g), 24, 24⟩
def POS_OWN : Nat := 0x10080
def POS_OWN_PORT_B : Fld := ⟨POS_OWN, 31, 16⟩
def POS_OWN_PORT_A : Fld := ⟨POS_OWN, 15, 0⟩
def POS_TIE : Nat := 0x10084
def POS_TIE_NEXT : Fld := ⟨POS_TIE, 0, 0⟩
def POS_BLK_INFO : Nat := 0x10088
def POS_BLK_INFO_VALID : Fld := ⟨POS_BLK_INFO, 31, 31⟩
def POS_BLK_INFO_REASON : Fld := ⟨POS_BLK_INFO, 30, 29⟩
def POS_BLK_INFO_PORT : Fld := ⟨POS_BLK_INFO, 28, 28⟩
def POS_BLK_INFO_OFFSET : Fld := ⟨POS_BLK_INFO, 25, 0⟩
def POS_BLK_COUNT : Nat := 0x1008C
def POS_BLK_COUNT_PORT_B : Fld := ⟨POS_BLK_COUNT, 31, 16⟩
def POS_BLK_COUNT_PORT_A : Fld := ⟨POS_BLK_COUNT, 15, 0⟩
def POS_ACC_ERR : Nat := 0x10090
def POS_ACC_ERR_PORT_B : Fld := ⟨POS_ACC_ERR, 31, 16⟩
def POS_ACC_ERR_PORT_A : Fld := ⟨POS_ACC_ERR, 15, 0⟩

/-! ### 16_host_ports, R379 -/

def DMA_Q_BASE_LO (pt q : Nat) : Nat := bank pt + 0x30100 + 32 * q
def DMA_Q_BASE_LO_V (pt q : Nat) : Fld := ⟨(DMA_Q_BASE_LO pt q), 31, 6⟩
def DMA_Q_BASE_HI (pt q : Nat) : Nat := bank pt + 0x30104 + 32 * q
def DMA_Q_BASE_HI_V (pt q : Nat) : Fld := ⟨(DMA_Q_BASE_HI pt q), 31, 0⟩
def DMA_Q_CFG (pt q : Nat) : Nat := bank pt + 0x30108 + 32 * q
def DMA_Q_CFG_DIR (pt q : Nat) : Fld := ⟨(DMA_Q_CFG pt q), 31, 31⟩
def DMA_Q_CFG_VECTOR (pt q : Nat) : Fld := ⟨(DMA_Q_CFG pt q), 21, 16⟩
def DMA_Q_CFG_LOG2_SIZE (pt q : Nat) : Fld := ⟨(DMA_Q_CFG pt q), 4, 0⟩
def DMA_Q_CTRL (pt q : Nat) : Nat := bank pt + 0x3010C + 32 * q
def DMA_Q_CTRL_RESET (pt q : Nat) : Fld := ⟨(DMA_Q_CTRL pt q), 2, 2⟩
def DMA_Q_CTRL_ENABLE (pt q : Nat) : Fld := ⟨(DMA_Q_CTRL pt q), 0, 0⟩
def DMA_Q_TAIL (pt q : Nat) : Nat := bank pt + 0x30110 + 32 * q
def DMA_Q_TAIL_V (pt q : Nat) : Fld := ⟨(DMA_Q_TAIL pt q), 15, 0⟩
def DMA_Q_HEAD (pt q : Nat) : Nat := bank pt + 0x30114 + 32 * q
def DMA_Q_HEAD_V (pt q : Nat) : Fld := ⟨(DMA_Q_HEAD pt q), 15, 0⟩
def DMA_Q_STATUS (pt q : Nat) : Nat := bank pt + 0x30118 + 32 * q
def DMA_Q_STATUS_STATE (pt q : Nat) : Fld := ⟨(DMA_Q_STATUS pt q), 31, 30⟩
def DMA_Q_STATUS_LAST_STATUS (pt q : Nat) : Fld := ⟨(DMA_Q_STATUS pt q), 29, 26⟩
def DMA_Q_STATUS_ERR_INDEX (pt q : Nat) : Fld := ⟨(DMA_Q_STATUS pt q), 15, 0⟩
def DMA_Q_MISS (pt q : Nat) : Nat := bank pt + 0x3011C + 32 * q
def DMA_Q_MISS_V (pt q : Nat) : Fld := ⟨(DMA_Q_MISS pt q), 31, 0⟩

/-! ### 16_host_ports, R380 -/

def EVT_RING_BASE_LO (pt : Nat) : Nat := bank pt + 0x40000
def EVT_RING_BASE_LO_V (pt : Nat) : Fld := ⟨(EVT_RING_BASE_LO pt), 31, 12⟩
def EVT_RING_BASE_HI (pt : Nat) : Nat := bank pt + 0x40004
def EVT_RING_BASE_HI_V (pt : Nat) : Fld := ⟨(EVT_RING_BASE_HI pt), 31, 0⟩
def EVT_RING_CFG (pt : Nat) : Nat := bank pt + 0x40008
def EVT_RING_CFG_ENABLE (pt : Nat) : Fld := ⟨(EVT_RING_CFG pt), 31, 31⟩
def EVT_RING_CFG_LOG2_ENTRIES (pt : Nat) : Fld := ⟨(EVT_RING_CFG pt), 3, 0⟩
def EVT_RD (pt : Nat) : Nat := bank pt + 0x4000C
def EVT_RD_V (pt : Nat) : Fld := ⟨(EVT_RD pt), 15, 0⟩
def EVT_WR (pt : Nat) : Nat := bank pt + 0x40010
def EVT_WR_PHASE (pt : Nat) : Fld := ⟨(EVT_WR pt), 16, 16⟩
def EVT_WR_INDEX (pt : Nat) : Fld := ⟨(EVT_WR pt), 15, 0⟩
def EVT_LOST (pt : Nat) : Nat := bank pt + 0x40014
def EVT_LOST_V (pt : Nat) : Fld := ⟨(EVT_LOST pt), 31, 0⟩
def EVT_SEQ (pt : Nat) : Nat := bank pt + 0x40018
def EVT_SEQ_V (pt : Nat) : Fld := ⟨(EVT_SEQ pt), 31, 0⟩
def EVT_TEST (pt : Nat) : Nat := bank pt + 0x4001C
def EVT_TEST_SOURCE (pt : Nat) : Fld := ⟨(EVT_TEST pt), 7, 0⟩
def EVT_MASK (pt w : Nat) : Nat := bank pt + 0x40100 + 4 * w
def EVT_MASK_V (pt w : Nat) : Fld := ⟨(EVT_MASK pt w), 31, 0⟩
def EVT_STATUS (pt w : Nat) : Nat := bank pt + 0x40140 + 4 * w
def EVT_STATUS_V (pt w : Nat) : Fld := ⟨(EVT_STATUS pt w), 31, 0⟩
def EVT_GRP_VEC (pt i : Nat) : Nat := bank pt + 0x40180 + 4 * i
def EVT_GRP_VEC_ARMED (pt i : Nat) : Fld := ⟨(EVT_GRP_VEC pt i), 31, 31⟩
def EVT_GRP_VEC_EN (pt i : Nat) : Fld := ⟨(EVT_GRP_VEC pt i), 8, 8⟩
def EVT_GRP_VEC_VECTOR (pt i : Nat) : Fld := ⟨(EVT_GRP_VEC pt i), 5, 0⟩

/-! ### 17_mailboxes_firmware, R402 -/

def MBX_OB_HDR (pt k : Nat) : Nat := page pt + 0x0 + 256 * k
def MBX_OB_HDR_CODE (pt k : Nat) : Fld := ⟨(MBX_OB_HDR pt k), 31, 16⟩
def MBX_OB_HDR_TAG (pt k : Nat) : Fld := ⟨(MBX_OB_HDR pt k), 15, 8⟩
def MBX_OB_HDR_LENGTH (pt k : Nat) : Fld := ⟨(MBX_OB_HDR pt k), 7, 0⟩
def MBX_OB_DATA (pt k i : Nat) : Nat := page pt + 0x0 + 256 * k + 4 * i
def MBX_OB_DATA_V (pt k i : Nat) : Fld := ⟨(MBX_OB_DATA pt k i), 31, 0⟩
def MBX_HDR (pt k : Nat) : Nat := page pt + 0x800 + 256 * k
def MBX_HDR_CODE (pt k : Nat) : Fld := ⟨(MBX_HDR pt k), 31, 16⟩
def MBX_HDR_TAG (pt k : Nat) : Fld := ⟨(MBX_HDR pt k), 15, 8⟩
def MBX_HDR_LENGTH (pt k : Nat) : Fld := ⟨(MBX_HDR pt k), 7, 0⟩
def MBX_IB_DATA (pt k i : Nat) : Nat := page pt + 0x800 + 256 * k + 4 * i
def MBX_IB_DATA_V (pt k i : Nat) : Fld := ⟨(MBX_IB_DATA pt k i), 31, 0⟩
def MBX_TAKE (pt k : Nat) : Nat := page pt + 0x1000 + 4 * k
def MBX_TAKE_V (pt k : Nat) : Fld := ⟨(MBX_TAKE pt k), 31, 0⟩
def MBX_OB_STATUS (pt k : Nat) : Nat := page pt + 0x1010 + 4 * k
def MBX_OB_STATUS_FULL (pt k : Nat) : Fld := ⟨(MBX_OB_STATUS pt k), 31, 31⟩
def MBX_OB_STATUS_STATUS (pt k : Nat) : Fld := ⟨(MBX_OB_STATUS pt k), 18, 16⟩
def MBX_OB_STATUS_TAG (pt k : Nat) : Fld := ⟨(MBX_OB_STATUS pt k), 15, 8⟩
def MBX_IB_STATUS (pt k : Nat) : Nat := page pt + 0x1020 + 4 * k
def MBX_IB_STATUS_FULL (pt k : Nat) : Fld := ⟨(MBX_IB_STATUS pt k), 31, 31⟩
def MBX_IB_STATUS_TAG (pt k : Nat) : Fld := ⟨(MBX_IB_STATUS pt k), 15, 8⟩

/-! ### 17_mailboxes_firmware, R403 -/

def MBX_FW_STATE : Nat := 0x20000
def MBX_FW_STATE_STATE : Fld := ⟨MBX_FW_STATE, 31, 28⟩
def MBX_FW_STATE_SLEEP : Fld := ⟨MBX_FW_STATE, 27, 27⟩
def MBX_FW_STATE_CAUSE : Fld := ⟨MBX_FW_STATE, 23, 16⟩
def MBX_FW_LOAD : Nat := 0x20004
def MBX_FW_LOAD_GO : Fld := ⟨MBX_FW_LOAD, 31, 31⟩
def MBX_FW_LOAD_QUEUE : Fld := ⟨MBX_FW_LOAD, 4, 0⟩
def MBX_FW_STATUS : Nat := 0x20008
def MBX_FW_STATUS_BUSY : Fld := ⟨MBX_FW_STATUS, 31, 31⟩
def MBX_FW_STATUS_LOADED : Fld := ⟨MBX_FW_STATUS, 30, 30⟩
def MBX_FW_STATUS_RESULT : Fld := ⟨MBX_FW_STATUS, 26, 24⟩
def MBX_FW_STATUS_PORT : Fld := ⟨MBX_FW_STATUS, 16, 16⟩
def MBX_FW_VERSION : Nat := 0x2000C
def MBX_FW_VERSION_V : Fld := ⟨MBX_FW_VERSION, 31, 0⟩
def MBX_FW_RESET_CAUSE : Nat := 0x20010
def MBX_FW_RESET_CAUSE_V : Fld := ⟨MBX_FW_RESET_CAUSE, 3, 0⟩
def MBX_SUMMARY : Nat := 0x20014

/-! ### 19_network_sync, R443 -/

def NET_CTRL : Nat := 0x440000
def NET_CTRL_FEC : Fld := ⟨NET_CTRL, 7, 4⟩
def NET_CTRL_LANE_EN : Fld := ⟨NET_CTRL, 3, 0⟩
def NET_STATUS : Nat := 0x440004
def NET_STATUS_LINK_UP : Fld := ⟨NET_STATUS, 3, 0⟩
def NET_CFG_ERR : Nat := 0x440008
def NET_CFG_ERR_CODE : Fld := ⟨NET_CFG_ERR, 31, 24⟩
def NET_CFG_ERR_DETAIL : Fld := ⟨NET_CFG_ERR, 15, 0⟩
def NET_SRC_MAC_LO : Nat := 0x440010
def NET_SRC_MAC_LO_V : Fld := ⟨NET_SRC_MAC_LO, 31, 0⟩
def NET_SRC_MAC_HI : Nat := 0x440014
def NET_SRC_MAC_HI_V : Fld := ⟨NET_SRC_MAC_HI, 15, 0⟩
def NET_DST_MAC_LO : Nat := 0x440018
def NET_DST_MAC_LO_V : Fld := ⟨NET_DST_MAC_LO, 31, 0⟩
def NET_DST_MAC_HI : Nat := 0x44001C
def NET_DST_MAC_HI_V : Fld := ⟨NET_DST_MAC_HI, 15, 0⟩
def NET_VLAN : Nat := 0x440020
def NET_VLAN_EN : Fld := ⟨NET_VLAN, 31, 31⟩
def NET_VLAN_PCP_ALARM : Fld := ⟨NET_VLAN, 30, 28⟩
def NET_VLAN_PCP_FRAME : Fld := ⟨NET_VLAN, 26, 24⟩
def NET_VLAN_PCP_IMAGE : Fld := ⟨NET_VLAN, 22, 20⟩
def NET_VLAN_PCP_LINE : Fld := ⟨NET_VLAN, 18, 16⟩
def NET_VLAN_VID : Fld := ⟨NET_VLAN, 11, 0⟩
def NET_IP_CFG : Nat := 0x440024
def NET_IP_CFG_IPV6 : Fld := ⟨NET_IP_CFG, 31, 31⟩
def NET_IP_CFG_DSCP : Fld := ⟨NET_IP_CFG, 21, 16⟩
def NET_IP_CFG_TTL : Fld := ⟨NET_IP_CFG, 7, 0⟩
def NET_SRC_IP4 : Nat := 0x440028
def NET_SRC_IP4_V : Fld := ⟨NET_SRC_IP4, 31, 0⟩
def NET_DST_IP4 : Nat := 0x44002C
def NET_DST_IP4_V : Fld := ⟨NET_DST_IP4, 31, 0⟩
def NET_SRC_IP6 (w : Nat) : Nat := 0x440030 + 4 * w
def NET_SRC_IP6_V (w : Nat) : Fld := ⟨(NET_SRC_IP6 w), 31, 0⟩
def NET_DST_IP6 (w : Nat) : Nat := 0x440040 + 4 * w
def NET_DST_IP6_V (w : Nat) : Fld := ⟨(NET_DST_IP6 w), 31, 0⟩
def NET_UDP : Nat := 0x440050
def NET_UDP_SRC_PORT : Fld := ⟨NET_UDP, 31, 16⟩
def NET_UDP_DST_PORT : Fld := ⟨NET_UDP, 15, 0⟩
def NET_MTU : Nat := 0x440054
def NET_MTU_V : Fld := ⟨NET_MTU, 13, 0⟩
def NET_LANE_TX (n : Nat) : Nat := 0x440100 + 16 * n
def NET_LANE_TX_V (n : Nat) : Fld := ⟨(NET_LANE_TX n), 31, 0⟩
def NET_LANE_RX_DROP (n : Nat) : Nat := 0x440104 + 16 * n
def NET_LANE_RX_DROP_V (n : Nat) : Fld := ⟨(NET_LANE_RX_DROP n), 31, 0⟩
def NET_LANE_FCS_ERR (n : Nat) : Nat := 0x440108 + 16 * n
def NET_LANE_FCS_ERR_V (n : Nat) : Fld := ⟨(NET_LANE_FCS_ERR n), 31, 0⟩
def NET_LANE_FEC (n : Nat) : Nat := 0x44010C + 16 * n
def NET_LANE_FEC_UNCORR (n : Nat) : Fld := ⟨(NET_LANE_FEC n), 31, 16⟩
def NET_LANE_FEC_CORR (n : Nat) : Fld := ⟨(NET_LANE_FEC n), 15, 0⟩
def NET_TIME_CTRL : Nat := 0x440200
def NET_TIME_CTRL_PTP_LANE : Fld := ⟨NET_TIME_CTRL, 5, 4⟩
def NET_TIME_CTRL_SOURCE : Fld := ⟨NET_TIME_CTRL, 1, 0⟩
def NET_TIME_STATUS : Nat := 0x440204
def NET_TIME_STATUS_SYNCED : Fld := ⟨NET_TIME_STATUS, 31, 31⟩
def NET_TIME_STATUS_IN_FORCE : Fld := ⟨NET_TIME_STATUS, 29, 28⟩
def NET_TIME_STATUS_HOPS : Fld := ⟨NET_TIME_STATUS, 3, 0⟩
def NET_TIME_LO : Nat := 0x440208
def NET_TIME_LO_V : Fld := ⟨NET_TIME_LO, 31, 0⟩
def NET_TIME_HI : Nat := 0x44020C
def NET_TIME_HI_V : Fld := ⟨NET_TIME_HI, 31, 0⟩
def NET_TIME_RATE : Nat := 0x440210
def NET_TIME_RATE_V : Fld := ⟨NET_TIME_RATE, 31, 0⟩
def NET_TIME_STEP_LO : Nat := 0x440214
def NET_TIME_STEP_LO_V : Fld := ⟨NET_TIME_STEP_LO, 31, 0⟩
def NET_TIME_STEP_HI : Nat := 0x440218
def NET_TIME_STEP_HI_V : Fld := ⟨NET_TIME_STEP_HI, 31, 0⟩
def NET_OFFSET : Nat := 0x44021C
def NET_OFFSET_V : Fld := ⟨NET_OFFSET, 31, 0⟩
def NET_PTP_LAT : Nat := 0x440220
def NET_PTP_LAT_V : Fld := ⟨NET_PTP_LAT, 15, 0⟩
def NET_PPS_CFG : Nat := 0x440280
def NET_PPS_CFG_OUT_EN : Fld := ⟨NET_PPS_CFG, 31, 31⟩
def NET_PPS_CFG_OUT_W : Fld := ⟨NET_PPS_CFG, 23, 0⟩
def NET_PPS_SEC : Nat := 0x440284
def NET_PPS_SEC_VALID : Fld := ⟨NET_PPS_SEC, 31, 31⟩
def NET_PPS_SEC_SEC : Fld := ⟨NET_PPS_SEC, 30, 0⟩
def NET_FSYNC_CFG : Nat := 0x440288
def NET_FSYNC_CFG_OUT_EN : Fld := ⟨NET_FSYNC_CFG, 31, 31⟩
def NET_FSYNC_CFG_OUT_W : Fld := ⟨NET_FSYNC_CFG, 15, 0⟩
def NET_SYNC_ERR : Nat := 0x44028C
def NET_SYNC_ERR_PPS_REJECT : Fld := ⟨NET_SYNC_ERR, 31, 16⟩
def NET_SYNC_ERR_FSYNC_SHORT : Fld := ⟨NET_SYNC_ERR, 15, 0⟩

/-! ### 19_network_sync, R444 -/

def CHN_CTRL : Nat := 0x448000
def CHN_CTRL_COORD_EN : Fld := ⟨CHN_CTRL, 8, 8⟩
def CHN_CTRL_RESET : Fld := ⟨CHN_CTRL, 4, 4⟩
def CHN_CTRL_LINK_EN : Fld := ⟨CHN_CTRL, 1, 0⟩
def CHN_STATUS : Nat := 0x448004
def CHN_STATUS_COORDINATED : Fld := ⟨CHN_STATUS, 31, 31⟩
def CHN_STATUS_CONFLICT : Fld := ⟨CHN_STATUS, 30, 30⟩
def CHN_STATUS_HEAD_ID : Fld := ⟨CHN_STATUS, 26, 24⟩
def CHN_STATUS_MEMBERS : Fld := ⟨CHN_STATUS, 19, 16⟩
def CHN_STATUS_TIME_LINK : Fld := ⟨CHN_STATUS, 9, 8⟩
def CHN_STATUS_LINK_UP : Fld := ⟨CHN_STATUS, 1, 0⟩
def CHN_CRC_ERR (c : Nat) : Nat := 0x448008 + 4 * c
def CHN_CRC_ERR_V (c : Nat) : Fld := ⟨(CHN_CRC_ERR c), 31, 0⟩
def CHN_MEMBER_LO (i : Nat) : Nat := 0x448100 + 8 * i
def CHN_MEMBER_LO_V (i : Nat) : Fld := ⟨(CHN_MEMBER_LO i), 31, 0⟩
def CHN_MEMBER_HI (i : Nat) : Nat := 0x448104 + 8 * i
def CHN_MEMBER_HI_V (i : Nat) : Fld := ⟨(CHN_MEMBER_HI i), 31, 0⟩

/-! ### 20_power_reset, R457 -/

def PWR_STATUS : Nat := 0x480000
def PWR_STATUS_DDR_READY : Fld := ⟨PWR_STATUS, 31, 31⟩
def PWR_STATUS_FUSE_OK : Fld := ⟨PWR_STATUS, 30, 30⟩
def PWR_STATUS_HARD : Fld := ⟨PWR_STATUS, 29, 29⟩
def PWR_STATUS_IN_RESET : Fld := ⟨PWR_STATUS, 21, 16⟩
def PWR_STATUS_RAIL_OK : Fld := ⟨PWR_STATUS, 8, 0⟩
def PWR_CAUSE : Nat := 0x480004
def PWR_CAUSE_POWER_UP : Fld := ⟨PWR_CAUSE, 31, 31⟩
def PWR_CAUSE_BROWNOUT : Fld := ⟨PWR_CAUSE, 30, 30⟩
def PWR_CAUSE_HARD : Fld := ⟨PWR_CAUSE, 29, 29⟩
def PWR_CAUSE_HOST_FULL : Fld := ⟨PWR_CAUSE, 28, 28⟩
def PWR_CAUSE_EMISSION : Fld := ⟨PWR_CAUSE, 27, 27⟩
def PWR_CAUSE_MANAGEMENT : Fld := ⟨PWR_CAUSE, 26, 26⟩
def PWR_CAUSE_RAILS : Fld := ⟨PWR_CAUSE, 8, 0⟩
def PWR_RESET : Nat := 0x480008
def PWR_RESET_KEY : Fld := ⟨PWR_RESET, 31, 24⟩
def PWR_RESET_DOMAIN : Fld := ⟨PWR_RESET, 1, 0⟩
def PWR_HARD_ACK : Nat := 0x48000C
def PWR_HARD_ACK_V : Fld := ⟨PWR_HARD_ACK, 0, 0⟩
def PWR_UPTIME_LO : Nat := 0x480010
def PWR_UPTIME_LO_V : Fld := ⟨PWR_UPTIME_LO, 31, 0⟩
def PWR_UPTIME_HI : Nat := 0x480014
def PWR_UPTIME_HI_V : Fld := ⟨PWR_UPTIME_HI, 31, 0⟩
def PWR_RESET_COUNT : Nat := 0x480018
def PWR_RESET_COUNT_BROWNOUT : Fld := ⟨PWR_RESET_COUNT, 31, 24⟩
def PWR_RESET_COUNT_HARD : Fld := ⟨PWR_RESET_COUNT, 23, 16⟩
def PWR_RESET_COUNT_HOST_FULL : Fld := ⟨PWR_RESET_COUNT, 15, 8⟩
def PWR_RESET_COUNT_EMISSION : Fld := ⟨PWR_RESET_COUNT, 7, 0⟩
def PWR_LIFE_SEED : Nat := 0x48001C
def PWR_LIFE_SEED_V : Fld := ⟨PWR_LIFE_SEED, 31, 0⟩
def PWR_CFG_ERR : Nat := 0x480020
def PWR_CFG_ERR_CODE : Fld := ⟨PWR_CFG_ERR, 31, 24⟩
def PWR_CFG_ERR_DETAIL : Fld := ⟨PWR_CFG_ERR, 15, 0⟩

/-! ### 21_register_map, R464 -/

def GLB_ID : Nat := 0x0
def GLB_ID_DEVICE : Fld := ⟨GLB_ID, 31, 16⟩
def GLB_ID_VENDOR : Fld := ⟨GLB_ID, 15, 0⟩
def GLB_REV : Nat := 0x4
def GLB_REV_STEP : Fld := ⟨GLB_REV, 15, 8⟩
def GLB_REV_REVISION : Fld := ⟨GLB_REV, 7, 0⟩
def GLB_GRADE : Nat := 0x8
def GLB_GRADE_GRADE : Fld := ⟨GLB_GRADE, 1, 0⟩
def GLB_SERIAL_LO : Nat := 0xC
def GLB_SERIAL_LO_V : Fld := ⟨GLB_SERIAL_LO, 31, 0⟩
def GLB_SERIAL_HI : Nat := 0x10
def GLB_SERIAL_HI_V : Fld := ⟨GLB_SERIAL_HI, 31, 0⟩
def GLB_CAPS : Nat := 0x14
def GLB_CAPS_CHANNELS : Fld := ⟨GLB_CAPS, 31, 24⟩
def GLB_CAPS_ENGINES : Fld := ⟨GLB_CAPS, 23, 16⟩
def GLB_CAPS_LANES : Fld := ⟨GLB_CAPS, 15, 8⟩
def GLB_MAP_VERSION : Nat := 0x18
def GLB_MAP_VERSION_V : Fld := ⟨GLB_MAP_VERSION, 15, 0⟩
def GLB_FRAME : Nat := 0x20
def GLB_FRAME_V : Fld := ⟨GLB_FRAME, 31, 0⟩
def GLB_LINE : Nat := 0x24
def GLB_LINE_V : Fld := ⟨GLB_LINE, 15, 0⟩
def GLB_SCRATCH : Nat := 0x30
def GLB_SCRATCH_V : Fld := ⟨GLB_SCRATCH, 31, 0⟩

end Sys2Proof.Machine
end

