-- ==== Sys2Proof/Machine/Operands.lean ====
section
/-! DEFINITION. Registers and their fields as operands: the one place that reads and writes the register file (R15, R16),
the values latched from shadow registers, the ports, and the reset domains (R452). -/

namespace Sys2Proof.Machine

/-- A port as an index: 0 Port A, 1 Port B (R378). -/
def pix : Port → Nat
  | .a => 0
  | .b => 1

/-- The other port. -/
def otherPort : Port → Port
  | .a => .b
  | .b => .a

/-- Port by index. -/
def portOf (n : Nat) : Port := if n = 0 then .a else .b

/-- What a register reads that nothing has written since its reset (R15). A key above the 64 MiB of BAR0 is port B's bank
(R361) or a mailbox page (R402). -/
def resetOf (k : Nat) : Word :=
  let (r, base) :=
    if 0x8000000 ≤ k then (findBar4 ((k - 0x8000000) % 0x10000), 0)
    else (findReg (k % 0x4000000), 0)
  match r with
  | some (row, i, j) => BitVec.ofNat 32 (row.resetAt i j + base)
  | none => 0

/-- A field's value in a word (R5). -/
def Fld.get (f : Fld) (w : Word) : Nat := (w.toNat >>> f.lo) % 2 ^ (f.hi + 1 - f.lo)

/-- A word with a field replaced; a value wider than the field keeps its low bits. -/
def Fld.put (f : Fld) (w : Word) (v : Nat) : Word :=
  let m := 2 ^ (f.hi + 1 - f.lo)
  BitVec.ofNat 32 (w.toNat - (f.get w) * 2 ^ f.lo + (v % m) * 2 ^ f.lo)

/-- The value of a register. -/
def State.rd (s : State) (k : Nat) : Word := tabGet (resetOf k) s.regs k

/-- Set a register. -/
def State.wr (s : State) (k : Nat) (w : Word) : State := { s with regs := tabSet (resetOf k) s.regs k w }

/-- The value of a register as a number. -/
def State.rdN (s : State) (k : Nat) : Nat := (s.rd k).toNat

/-- Set a register from a number (low 32 bits). -/
def State.wrN (s : State) (k : Nat) (v : Nat) : State := s.wr k (BitVec.ofNat 32 v)

/-- The value of a field. -/
def State.fld (s : State) (f : Fld) : Nat := f.get (s.rd f.reg)

/-- Whether a one-bit field is 1. -/
def State.flag (s : State) (f : Fld) : Bool := s.fld f ≠ 0

/-- Set a field. -/
def State.setFld (s : State) (f : Fld) (v : Nat) : State := s.wr f.reg (f.put (s.rd f.reg) v)

/-- Set a one-bit field. -/
def State.setFlag (s : State) (f : Fld) (b : Bool) : State := s.setFld f (b2n b)

/-- A signed field. -/
def State.fldI (s : State) (f : Fld) : Int := signedN (f.hi + 1 - f.lo) (s.fld f)

/-- Set a signed field (low bits of the two's complement). -/
def State.setFldI (s : State) (f : Fld) (x : Int) : State := s.setFld f (toBits (f.hi + 1 - f.lo) x)

/-- Bit `n` of a register. -/
def State.bit (s : State) (k n : Nat) : Bool := (s.rd k).toNat.testBit n

/-- Set bit `n` of a register. -/
def State.setBit (s : State) (k n : Nat) (b : Bool) : State :=
  s.setFlag ⟨k, n, n⟩ b

/-- The value in force of a shadow register (R68, R165, R218, R284, R301): what the last latch took. -/
def State.rdF (s : State) (k : Nat) : Word := tabGet (resetOf k) s.inForce k

/-- A field of the value in force. -/
def State.fldF (s : State) (f : Fld) : Nat := f.get (s.rdF f.reg)

/-- A one-bit field of the value in force. -/
def State.flagF (s : State) (f : Fld) : Bool := s.fldF f ≠ 0

/-- A signed field of the value in force. -/
def State.fldFI (s : State) (f : Fld) : Int := signedN (f.hi + 1 - f.lo) (s.fldF f)

/-- Put a set of shadow registers in force. -/
def State.latch (s : State) (lo hi : Nat) (src : List (Nat × Word)) : State :=
  { s with inForce := tabCopy lo hi src s.inForce }

/-- A field of a pending set. -/
def fldIn (src : List (Nat × Word)) (f : Fld) : Nat := f.get (tabGet (resetOf f.reg) src f.reg)

/-- Return the registers from `lo` to below `hi` to their reset values (R452). -/
def State.dropRegs (s : State) (lo hi : Nat) : State :=
  { s with regs := tabDrop lo hi s.regs, inForce := tabDrop lo hi s.inForce }

/-- Add to a counter field, saturating at its width. -/
def State.bump (s : State) (f : Fld) (n : Nat) : State :=
  s.setFld f (min (2 ^ (f.hi + 1 - f.lo) - 1) (s.fld f + n))

/-- The state of a port. -/
def State.port (s : State) (p : Nat) : PortState := if p = 0 then s.portA else s.portB

/-- Set the state of a port. -/
def State.setPort (s : State) (p : Nat) (x : PortState) : State :=
  if p = 0 then { s with portA := x } else { s with portB := x }

/-- The clock does not run back: an edge or sample at tick `t` brings the clock to `t` at least. Device time advances with
the reference under the rate correction in force (R435): 2^40 units of 2^-48 ns and the correction for each tick. -/
def State.advance (s : State) (t : Nat) : State :=
  if s.now < t then
    { s with now := t, devTime := (s.devTime + ((t - s.now : Nat) : Int) * (2 ^ 40 + s.rateCorr)).toNat }
  else s

/-- Device time in ns (R9). -/
def State.ns (s : State) : Nat := s.devTime / 2 ^ 48

/-- The domain of a port is in reset (R452). -/
def State.portInReset (s : State) (p : Nat) : Bool := nth true s.pwr.portInReset p

/-- The block's reset domain is in reset (R452). POS and the MSI-X tables are not named there: POS follows CORE and the tables
their port (log entry 5). EMT_FAULT lies in the PWR domain. -/
def State.blkInReset (s : State) (off : Nat) : Bool :=
  match blkOf off with
  | none => false
  | some b =>
    match b with
    | .pwr => false
    | .thm => s.pwr.thmInReset
    | .sht => s.pwr.emissionInReset
    | .emt => s.pwr.emissionInReset && off ≠ EMT_FAULT
    | .fld => s.pwr.emissionInReset
    | .mbx => s.pwr.mgmtInReset
    | _ => s.pwr.coreInReset

/-- The bits of register `off` that the tables name as stored by a write, and its access code. -/
def accOf (off : Nat) : Option (Acc × Nat) :=
  match findReg off with
  | some (r, _, _) => some (r.acc, r.mask)
  | none => none

/-- The plain effect of a write under the access codes of R18: RW stores the writable bits, W1C clears and W1S sets bits. -/
def State.plainWrite (s : State) (k off : Nat) (v : Word) : State :=
  match accOf off with
  | none => s
  | some (a, m) =>
    let mk : Word := BitVec.ofNat 32 m
    let old := s.rd k
    match a with
    | .rw => s.wr k ((old &&& ~~~mk) ||| (v &&& mk))
    | .w1c => s.wr k (old &&& ~~~(v &&& mk))
    | .w1s => s.wr k (old ||| (v &&& mk))
    | _ => s

end Sys2Proof.Machine
end

