-- ==== Sys2Proof/Machine/Flags.lean ====
section
/-! DEFINITION. Status flags, counters, refusals (R486) and the event log (R373 to R377): a source raised in a step waits in
`raised` until the end of the step, where the sources are written to the rings in order of source number (R373). -/

namespace Sys2Proof.Machine

/-- Raise a source; its entry carries the frame number at the raise (R374). -/
def State.raise (s : State) (src : Nat) : State := { s with raised := s.raised ++ [⟨src, none⟩] }

/-- Raise a source whose entry carries the INFO word given (R374, R381, R404). -/
def State.raiseInfo (s : State) (src : Nat) (info : Nat) : State :=
  { s with raised := s.raised ++ [⟨src, some (BitVec.ofNat 32 info)⟩] }

/-- Raise a source if a condition holds. -/
def State.raiseIf (s : State) (c : Bool) (src : Nat) : State := if c then s.raise src else s

/-- A block refuses a write, commit or transfer: its CFG_ERR register takes CODE and DETAIL (R486), its event is raised, and
the step remembers the refusal it met for a Sceso reply. -/
def State.refuse (s : State) (errReg ev code detail : Nat) : State :=
  let w := code * 2 ^ 24 + detail % 2 ^ 16
  { (s.wrN errReg w).raise ev with refused := some (BitVec.ofNat 32 w) }

/-- A write ignored under its block's own rules where the block records no code (R413). -/
def State.ignore (s : State) : State := { s with refused := some 0 }

/-- The same, raising the block's event. -/
def State.ignoreRaise (s : State) (ev : Nat) : State := s.ignore.raise ev

/-- Send an MSI-X vector of a port: a masked vector sets its pending bit (R376, and the MSI-X rules of PCIe). -/
def State.sendVector (s : State) (p vec : Nat) : State :=
  if s.bit (bank p + 0x3F0000C + 16 * vec) 0 then s.setBit (bank p + 0x3F01000 + 4 * (vec / 32)) (vec % 32) true
  else { s with host := s.host ++ [HostMsg.msix p vec] }

/-- The 16 bytes of an event entry (R374). -/
def entryBytes (src : Nat) (phase lost : Bool) (seq ns info : Nat) : List Byte :=
  leBytes 1 src ++ leBytes 1 (b2n phase * 128 + b2n lost * 64) ++ leBytes 2 (seq % 65536) ++ leBytes 8 ns ++ leBytes 4 info

/-- Size of a port's event ring (R375). -/
def ringSize (s : State) (p : Nat) : Nat := 2 ^ s.fld (EVT_RING_CFG_LOG2_ENTRIES p)

/-- An entry of a source was written: the group's vector is sent if it is armed (R376). -/
def State.groupVector (s : State) (p src : Nat) : State :=
  let g := groupOf src
  if s.flag (EVT_GRP_VEC_EN p g) && s.flag ⟨EVT_GRP_VEC p g, 31, 31⟩ then
    (s.setFlag ⟨EVT_GRP_VEC p g, 31, 31⟩ false).sendVector p (s.fld (EVT_GRP_VEC_VECTOR p g))
  else s

/-- Write an entry to a port's ring where the ring is enabled and the source unmasked (R373, R375, R469). -/
def State.logEntry (s : State) (p src : Nat) (info : Word) : State :=
  if s.flag (EVT_RING_CFG_ENABLE p) && !s.bit (EVT_MASK p (src / 32 % 8)) (src % 32) then
    let wr := s.fld (EVT_WR_INDEX p)
    let phase := s.flag (EVT_WR_PHASE p)
    let nx := (wr + 1) % ringSize s p
    if nx = s.fld (EVT_RD_V p) then
      (s.bump (EVT_LOST_V p) 1).setPort p { s.port p with lostPending := true }
    else
      let base := s.rdN (EVT_RING_BASE_HI p) * 2 ^ 32 + s.rdN (EVT_RING_BASE_LO p)
      let e := entryBytes src phase (s.port p).lostPending (s.rdN (EVT_SEQ p)) s.ns info.toNat
      let s : State := { s with host := s.host ++ [HostMsg.write p (base + 16 * wr) e] }
      let s := s.setPort p { s.port p with lostPending := false, entries := (s.port p).entries ++ [groupOf src] }
      let s := (s.setFld (EVT_WR_INDEX p) nx).setFlag (EVT_WR_PHASE p) (if nx = 0 then !phase else phase)
      let s := s.wrN (EVT_SEQ p) (s.rdN (EVT_SEQ p) + 1)
      s.groupVector p src
  else s

/-- Set the source's EVT_STATUS bit of a port and log it there (R373); a port whose domain is in reset holds no state. -/
def State.logOn (s : State) (p src : Nat) (info : Word) : State :=
  if s.portInReset p then s
  else (s.setBit (EVT_STATUS p (src / 32 % 8)) (src % 32) true).logEntry p src info

/-- Put a raised source in its place by source number; sources of equal number keep their order. -/
def insertRaised (r : Raised) : List Raised → List Raised
  | [] => [r]
  | a :: t => if a.src ≤ r.src then a :: insertRaised r t else r :: a :: t

/-- The sources raised in the step, in order of source number (R373). -/
def sortRaised (l : List Raised) : List Raised := l.foldl (fun acc r => insertRaised r acc) []

/-- Log one raised source on both ports. -/
def State.logRaised (s : State) (r : Raised) : State :=
  let info := r.info.getD (s.rd GLB_FRAME)
  (s.logOn 0 r.src info).logOn 1 r.src info

/-- The end of a step: every raised source is logged (R373). -/
def State.flush (s : State) : State :=
  { (sortRaised s.raised).foldl State.logRaised s with raised := [] }

/-- A host write that the access rules ignore (R361, R363): POS_BLK_INFO, the port's count and BLOCKED_WRITE. -/
def State.blockWrite (s : State) (p : Port) (reason off : Nat) : State :=
  let w := 2 ^ 31 + reason * 2 ^ 29 + pix p * 2 ^ 28 + off % 2 ^ 26
  let s := s.wrN POS_BLK_INFO w
  let s := s.bump (match p with | .a => POS_BLK_COUNT_PORT_A | .b => POS_BLK_COUNT_PORT_B) 1
  s.raiseInfo EV_BLOCKED_WRITE w

/-- Firmware state code in force (R392). -/
def State.fwCode (s : State) : Nat := s.fld MBX_FW_STATE_STATE

/-- Priard runs in every firmware state other than OFF and BOOT (R361). -/
def State.fwRuns (s : State) : Bool := decide (2 ≤ s.fwCode)

/-- The port that holds a group (R364). -/
def State.holder (s : State) (g : Nat) : Option Nat :=
  if s.flag (POS_PEEK_HELD g) then some (s.fld (POS_PEEK_HOLDER g)) else none

/-- A port holds a group, or the block needs none (R361). -/
def State.possesses (s : State) (p : Port) (off : Nat) : Bool :=
  match (blkOf off).bind Blk.group with
  | none => true
  | some g => s.holder g = some (pix p)

/-- A port is out of service for memory requests: its domain in reset, or down from PORT_DOWN until PORT_UP (R359). -/
def State.portSilent (s : State) (p : Port) : Bool := s.portInReset (pix p) || (s.port (pix p)).down

/-- A host write under the access rules of R361 and R452: it reaches its block (`f`), or is ignored. `own`: the write touches
a firmware-owned register or field (R401). DESIGN CHOICE (log entry 141): an offset that names no register, in a block whose group the port
does not possess, records a blocked write as any other offset of that block does. -/
def State.hostGate (s : State) (p : Port) (off : Nat) (own : Bool) (f : State → State) : State :=
  if s.portSilent p || s.blkInReset off then s
  else if !s.possesses p off then s.blockWrite p 1 off
  else if own && s.fwRuns then s.blockWrite p 2 off
  else f s

/-! ### The calibration record's bookkeeping (R313, R317, R318) -/

/-- A calibrated value was accepted: EPOCH increments and DIRTY sets; during an export the copy write is held (R313, R319). -/
def State.calTouch (s : State) : State :=
  let s : State := { s with cal := { s.cal with held := s.cal.held || s.cal.exporting.isSome } }
  (s.wrN CAL_EPOCH (s.rdN CAL_EPOCH + 1)).setFlag CAL_STATUS_DIRTY true

/-- The marks that splits of the words from `lo` to below `hi` left are cleared (R318). -/
def State.unsplit (s : State) (lo hi : Nat) : State :=
  let l := s.cal.splits.filter (fun (w : Nat) => w < lo || hi ≤ w)
  let s : State := { s with cal := { s.cal with splits := l } }
  if l.isEmpty then s.setFlag CAL_STATUS_SPLIT false else s

end Sys2Proof.Machine
end

