-- ==== Sys2Proof/Machine/Lanes.lean ====
section
/-! DEFINITION. The data of a TDC lane: halfwords of an item (R128, R129), the window, the output stage (R143), and lane reset
(R145). The lane's measuring stands in Tdc.lean. -/

namespace Sys2Proof.Machine

/-- A lane. -/
def State.lane (s : State) (l : Nat) : Lane := tabGet Lane.init s.tdc.lanes l

/-- Set a lane. -/
def State.setLane (s : State) (l : Nat) (x : Lane) : State :=
  { s with tdc := { s.tdc with lanes := tabSet Lane.init s.tdc.lanes l x } }

/-- A lane's role: 0 in service, 1 bench, 2 sent off (R147). -/
def State.laneRole (s : State) (l : Nat) : Nat := s.fld (TDC_LANE_STATUS_ROLE l)

/-- The lane that serves a channel (R123). -/
def State.laneOf (s : State) (c : Nat) : Nat := s.fld (TDC_XBAR_LANE c)

/-- OPEN (R129). -/
def openWord (slot line : Nat) : BitVec 16 := BitVec.ofNat 16 (3 * 16384 + (slot % 64) * 64 + line % 64)

/-- CLOSE (R129). -/
def closeWord (stamps : Nat) (overflow countLimit busy spacing cut gen coarseEnd : Bool) : BitVec 16 :=
  BitVec.ofNat 16 (3 * 16384 + 4096 + (stamps % 32) * 128 + 64 * b2n overflow + 32 * b2n countLimit + 16 * b2n busy + 8 * b2n spacing
    + 4 * b2n cut + 2 * b2n gen + b2n coarseEnd)

/-- The two halfwords of a stamp (R129). -/
def stampWords (coarse fine index depth : Nat) (pile : Bool) : List (BitVec 16) :=
  [BitVec.ofNat 16 (16384 + coarse % 16384),
   BitVec.ofNat 16 (2 * 16384 + (fine % 64) * 256 + (index % 16) * 16 + (depth % 8) * 2 + b2n pile)]

/-- A halfword is an OPEN control word. -/
def isOpen (h : BitVec 16) : Bool := h.toNat / 4096 = 12

/-- A halfword is a CLOSE control word. -/
def isClose (h : BitVec 16) : Bool := h.toNat / 4096 = 13

/-! ### Reference stops (R126, R127, R132) -/

/-- A fast oscillator is free at tick `t` and no stop was taken within the preceding 1.0 ns (R127, R132). -/
def Lane.free (x : Lane) (t : Nat) : Bool :=
  decide ((x.osc.filter (fun e => t < e)).length < 4) && (match x.lastTaken with | some u => decide (u + 256 ≤ t) | none => true)

/-- A fast oscillator is launched at tick `t`: it is free again 16.0 ns later (R126). -/
def Lane.launch (x : Lane) (t : Nat) : Lane :=
  { x with lastTaken := some t, osc := (x.osc.filter (fun e => t < e)) ++ [t + 4096] }

/-- The first edge of the 100 MHz reference at or after a tick. -/
def refEdge (t : Nat) : Nat := (t + 2559) / 2560 * 2560

/-- Reference stop A is tried at the edges up to tick `t`: the first at or after S + 16 ns, then up to 4 more (R132). -/
def Lane.takeA : Nat → Lane → Nat → Lane
  | 0, x, _ => x
  | n + 1, x, t =>
    let e := refEdge (x.start + 4096) + 2560 * x.refTries
    if x.refA.isSome || 5 ≤ x.refTries || t < e then x
    else
      let y := { x with refTries := x.refTries + 1 }
      Lane.takeA n (if x.free e then { y.launch e with refA := some e } else y) t

/-- Reference stop B is tried at the edges up to tick `t`: the last at or before the window close − 16 ns, else the latest of the 4 before it
that was free (R132; log entry 37). -/
def Lane.takeB : Nat → Lane → Nat → Lane
  | 0, x, _ => x
  | n + 1, x, t =>
    let e := (x.closeAt - 4096) / 2560 * 2560 - 2560 * (4 - x.bTries)
    if 5 ≤ x.bTries || t < e then x
    else
      let ok := decide (x.start ≤ e) && x.free e
      let y := { x with bTries := x.bTries + 1 }
      if x.bTries < 4 then Lane.takeB n (if ok then { y with bFree := some e } else y) t
      else if ok then { y.launch e with refB := some e }
      else match x.bFree with
        | some f => { y with refB := some f, osc := y.osc ++ [f + 4096] }
        | none => y

/-- The reference stops that fall up to tick `t` in the first window of a line. -/
def Lane.reference (x : Lane) (t : Nat) : Lane := if x.first && x.openWin then Lane.takeB 5 (Lane.takeA 5 x t) t else x

/-! ### The end of a window -/

/-- The window ends at tick `t`, and the CLOSE word of its item is written (R128). -/
def Lane.close (x : Lane) (t : Nat) (cut coarseEnd : Bool) : Lane :=
  if x.openWin then
    let x := x.reference (min t x.closeAt)
    { x with openWin := false,
             out := if x.noItem then x.out else
               x.out ++ [closeWord x.taken x.overflow x.countLimit x.busyDrop x.spacingDrop cut x.gen coarseEnd] }
  else x

/-- Close a lane's window. -/
def State.closeLane (s : State) (l : Nat) (cut coarseEnd : Bool) : State :=
  s.setLane l ((s.lane l).close s.now cut coarseEnd)

/-- Close every open window. -/
def State.closeLanes (s : State) (cut : Bool) : State :=
  s.tdc.lanes.foldl (fun s e => if e.2.openWin then s.closeLane e.1 cut false else s) s

/-- Note the last lane event in TDC_EVT_INFO (R146) and raise it. -/
def State.laneEvent (s : State) (src l : Nat) : State :=
  (s.wrN TDC_EVT_INFO (src * 256 + l)).raise src

/-- Items of a lane that a reset discards, counting the partial one (R145). -/
def Lane.lostItems (x : Lane) : Nat :=
  let closes := fun (h : List (BitVec 16)) => (h.filter isClose).length
  closes x.out + closes (x.forming.map (fun e => e.1)) + (x.fifo.map (fun w => closes (w.halves.map (fun e => e.1)))).sum
    + closes (x.partialItem.map (fun e => e.1)) + x.items.length + b2n x.openWin

/-- An item of a line whose number ends in `line6` is on its way through the lane (R128, R141, R145). -/
def Lane.coming (x : Lane) (line6 : Nat) : Bool :=
  let has := fun (h : List (BitVec 16)) => h.any (fun w => isOpen w && w.toNat % 64 = line6)
  (x.openWin && x.line6 = line6) || has x.out || has (x.forming.map (fun e => e.1))
    || x.fifo.any (fun w => has (w.halves.map (fun e => e.1))) || has (x.partialItem.map (fun e => e.1))
    || x.items.any (fun i => has (i.map (fun e => e.1)))

/-- A lane reset (R145): window, output stage, FIFO and input context; the code-density counters, tables and measurements stay
(R136). -/
def State.laneResetQuiet (s : State) (l : Nat) : State :=
  let x := s.lane l
  -- the items of a bench lane have gone to its own counter (R134; log entry 145)
  let n := if s.laneRole l = 1 then b2n x.openWin else x.lostItems
  let s := s.wrN (EVL_LOST_ITEMS l) (s.rdN (EVL_LOST_ITEMS l) + n)
  let s := s.wrN (BGT_LOST_ITEMS 0) (s.rdN (BGT_LOST_ITEMS 0) + n)
  let s := s.wrN (EVL_DEPTH l) 0
  s.setLane l { Lane.init with resetAt := some s.now, runA := x.runA, runB := x.runB, second := x.second, edges := x.edges,
                               tableNext := x.tableNext, meas := x.meas, ambient := x.ambient, vtrimHold := x.vtrimHold,
                               step := x.step, ownDue := x.ownDue, rangeRun := x.rangeRun }

/-- A halfword that leaves a handshake FIFO of class `k` fails its parity check: it is counted and delivered unchanged (R142, R294; log entry
147). -/
def State.classParity (s : State) (k : Nat) (bad : Bool) : State := if bad then s.bump (BGT_PARITY_V k) 1 else s

/-- A lane reset with its event (R145). -/
def State.laneReset (s : State) (l : Nat) : State := (s.laneResetQuiet l).laneEvent EV_EVL_LOST l

/-- A red card resets all lanes (R145, R349); EVL_LOST is raised once for the instant (log entry 35). -/
def State.laneResetAll (s : State) : State :=
  if s.pwr.coreInReset then s
  else (loop 208 (fun l s => s.laneResetQuiet l) s).laneEvent EV_EVL_LOST 207

/-! ### Channel-lines (R163) -/

/-- A channel-line. -/
def State.job (s : State) (key : Nat) : Option ChanLine := (s.hst.jobs.find? (fun (e : Nat × ChanLine) => e.1 = key)).map (fun e => e.2)

/-- Put a channel-line. -/
def State.setJob (s : State) (key : Nat) (x : ChanLine) : State :=
  { s with hst := { s.hst with jobs := tabPut s.hst.jobs key x } }

/-- A line held by its number. -/
def State.lineOf (s : State) (seq : Nat) : Option HstLine := (s.hst.lines.find? (fun (e : Nat × HstLine) => e.1 = seq)).map (fun e => e.2)

/-! ### A lane's calibration as its registers hold it (R130, R131, R137) -/

/-- A table is valid (R137). -/
def State.calValid (s : State) (l : Nat) : Bool := s.flag (TDC_LANE_STATUS_CAL_VALID l)

/-- The words of a lane's table that differ from the nominal one; the nominal table while CAL_VALID is 0 (R137). -/
def State.tableWords (s : State) (l : Nat) : List (Nat × Word) :=
  if s.calValid l then
    (List.range 32).filterMap (fun m =>
      let w := s.rd (TDC_CAL_TABLE l m)
      if w = resetOf (TDC_CAL_TABLE l m) then none else some (m, w))
  else []

/-- E[F] of a table (R130, R147). -/
def tableEntry (t : List (Nat × Word)) (f : Nat) : Nat :=
  let m := f / 2
  match t.find? (fun e => e.1 = m) with
  | some (_, w) => (w.toNat / 2 ^ (16 * (f % 2))) % 65536
  | none => 1024 * f + 512

/-- The set a lane publishes (R131). -/
def State.laneSet (s : State) (l : Nat) : LaneSet :=
  ⟨s.rdN (TDC_PERIOD l), s.fldI (TDC_LANE_SKEW_V l), s.tableWords l, s.calValid l⟩

end Sys2Proof.Machine
end

