-- ==== Sys2Proof/Machine/Crypto.lean ====
section
/-! DEFINITION. The published algorithms the spec names: AES-256 (R82, R193, R345), AES key wrap (R342), GCM's GHASH (R193),
SHA-384 and ECDSA and ECDH over P-384 (R338, R340, R425, R426), and CRC-32 (R117, R440). -/

namespace Sys2Proof.Machine

/-- The AES S-box, entry b in byte b of a number. -/
def sboxN : Nat := 0x16bb54b00f2d99416842e6bf0d89a18cdf2855cee9871e9b948ed9691198f8e19e1dc186b95735610ef6034866b53e708a8bbd4b1f74dde8c6b4a61c2e2578ba08ae7a65eaf4566ca94ed58d6d37c8e779e4959162acd3c25c2406490a3a32e0db0b5ede14b8ee4688902a22dc4f816073195d643d7ea7c41744975fec130ccdd2f3ff1021dab6bcf5389d928f40a351a89f3c507f02f94585334d43fbaaefd0cf584c4a39becb6a5bb1fc20ed00d153842fe329b3d63b52a05a6e1b1a2c830975b227ebe28012079a059618c323c7041531d871f1e5a534ccf73f362693fdb7c072a49cafa2d4adf04759fa7dc982ca76abd7fe2b670130c56f6bf27b777c63

/-- The inverse S-box. -/
def invSboxN : Nat := 0x7d0c2155631469e126d677ba7e042b17619953833cbbebc8b0f52aae4d3be0a0ef9cc9939f7ae52d0d4ab519a97f51605fec8027591012b131c7078833a8dd1ff45acd78fec0db9a2079d2c64b3e56fc1bbe18aa0e62b76f89c5291d711af1476edf751ce837f9e28535ade72274ac9673e6b4f0cecff297eadc674f4111913a6b8a130103bdafc1020f3fca8f1e2cd00645b3b80558e4f70ad3bc8c00abd890849d8da75746155edab9edfd5048706c92b6655dcc5ca4d41698688664f6f87225d18b6d49a25b76b224d92866a12e084ec3fa420b954cee3d23c2a632947b54cbe9dec444438e3487ff2f9b8239e37cfbd7f3819ea340bf38a53630d56a0952

/-- S-box of a byte. -/
def subByte (b : Byte) : Byte := BitVec.ofNat 8 (sboxN >>> (8 * b.toNat))

/-- Inverse S-box of a byte. -/
def invSubByte (b : Byte) : Byte := BitVec.ofNat 8 (invSboxN >>> (8 * b.toNat))

/-- Multiplication by x in the AES field. -/
def xtime (b : Byte) : Byte := (b <<< 1) ^^^ (if b.getLsbD 7 then 0x1B else 0)

/-- Multiplication in the AES field. -/
def gmul (a b : Byte) : Byte :=
  let rec go : Nat → Byte → Byte → Byte → Byte
    | 0, _, _, r => r
    | n + 1, x, y, r => go n (xtime x) (y >>> 1) (if y.getLsbD 0 then r ^^^ x else r)
  go 8 a b 0

/-- Byte-wise exclusive or. -/
def xorB (a b : List Byte) : List Byte := List.zipWith (· ^^^ ·) a b

/-- Round keys of AES-256: words of 4 bytes, newest first, grown from the 8 words of the key. -/
def expandKey (key : List Byte) : List (List Byte) :=
  let first := (List.range 8).map (fun i => (key.drop (4 * i)).take 4)
  let rec go : Nat → Nat → Byte → List (List Byte) → List (List Byte)
    | 0, _, _, ws => ws
    | n + 1, i, rc, ws =>
      let prev := nth [] ws 0
      let back := nth [] ws 7
      let t :=
        if i % 8 = 0 then xorB ((prev.drop 1 ++ prev.take 1).map subByte) [rc, 0, 0, 0]
        else if i % 8 = 4 then prev.map subByte
        else prev
      go n (i + 1) (if i % 8 = 0 then xtime rc else rc) (xorB back t :: ws)
  (go 52 8 1 first.reverse).reverse

/-- Round key r as 16 bytes. -/
def roundKey (ws : List (List Byte)) (r : Nat) : List Byte := ((ws.drop (4 * r)).take 4).flatten

/-- ShiftRows on 16 bytes held by column. -/
def shiftRows (st : List Byte) : List Byte := (List.range 16).map (fun i => nth 0 st ((i + 4 * (i % 4)) % 16))

/-- Inverse ShiftRows. -/
def invShiftRows (st : List Byte) : List Byte := (List.range 16).map (fun i => nth 0 st ((i + 12 * (i % 4)) % 16))

/-- MixColumns with the coefficients of its first row. -/
def mixWith (c : List Byte) (st : List Byte) : List Byte :=
  (List.range 16).map (fun i =>
    let col := i / 4
    let row := i % 4
    (List.range 4).foldl (fun acc j => acc ^^^ gmul (nth 0 c ((j + 4 - row) % 4)) (nth 0 st (4 * col + j))) 0)

/-- AES-256 of one block of 16 bytes. -/
def aes256 (key block : List Byte) : List Byte :=
  let ws := expandKey key
  let st := xorB block (roundKey ws 0)
  let st := (List.range 13).foldl (fun st r =>
    xorB (mixWith [2, 3, 1, 1] (shiftRows (st.map subByte))) (roundKey ws (r + 1))) st
  xorB (shiftRows (st.map subByte)) (roundKey ws 14)

/-- The inverse cipher. -/
def aes256Inv (key block : List Byte) : List Byte :=
  let ws := expandKey key
  let st := xorB block (roundKey ws 14)
  let st := (List.range 13).foldl (fun st r =>
    mixWith [14, 11, 13, 9] (xorB ((invShiftRows st).map invSubByte) (roundKey ws (13 - r)))) st
  xorB ((invShiftRows st).map invSubByte) (roundKey ws 0)

/-- AES key unwrap of RFC 3394 with the default IV, of 8 · n + 8 bytes; none where the integrity check fails (R342, R343). -/
def keyUnwrap (kek wrapped : List Byte) : Option (List Byte) :=
  let n := wrapped.length / 8 - 1
  let step (st : List Byte × List Byte) (t : Nat) : List Byte × List Byte :=
    let i := (t - 1) % n
    let a := xorB st.1 (beBytes 8 t)
    let b := aes256Inv kek (a ++ (st.2.drop (8 * i)).take 8)
    (b.take 8, st.2.take (8 * i) ++ b.drop 8 ++ st.2.drop (8 * i + 8))
  let out := (List.range (6 * n)).foldl (fun st k => step st (6 * n - k)) (wrapped.take 8, wrapped.drop 8)
  if out.1 = List.replicate 8 0xA6 then some out.2 else none

/-- Multiplication in GHASH's field: blocks as numbers, first byte most significant. -/
def ghashMul (x y : Nat) : Nat :=
  let rec go : Nat → Nat → Nat → Nat → Nat
    | 0, _, _, z => z
    | n + 1, i, v, z =>
      let z' := if x.testBit (127 - i) then z ^^^ v else z
      go n (i + 1) (if v % 2 = 1 then (v / 2) ^^^ (0xE1 * 2 ^ 120) else v / 2) z'
  go 128 0 y 0

/-- The number of a block of up to 16 bytes, padded with zeros. -/
def blockNat (b : List Byte) : Nat := beNat (b ++ List.replicate (16 - b.length) 0)

/-- GHASH over a byte string padded to whole blocks. -/
def ghashBytes (h : Nat) : Nat → Nat → List Byte → Nat
  | 0, y, _ => y
  | n + 1, y, l => if l.isEmpty then y else ghashBytes h n (ghashMul (y ^^^ blockNat (l.take 16)) h) (l.drop 16)

/-- The 16-byte tag of AES-256-GCM with additional data only and a 12-byte nonce (R193). -/
def gmacTag (key nonce aad : List Byte) : List Byte :=
  let h := beNat (aes256 key (List.replicate 16 0))
  let y := ghashBytes h (aad.length / 16 + 1) 0 aad
  let y := ghashMul (y ^^^ (aad.length * 8 * 2 ^ 64)) h
  xorB (beBytes 16 y) (aes256 key (nonce ++ [0, 0, 0, 1]))

/-- The round constants of SHA-512 and SHA-384. -/
def shaK : List Nat :=
  [0x428A2F98D728AE22, 0x7137449123EF65CD, 0xB5C0FBCFEC4D3B2F, 0xE9B5DBA58189DBBC, 0x3956C25BF348B538, 0x59F111F1B605D019, 0x923F82A4AF194F9B, 0xAB1C5ED5DA6D8118] ++
  [0xD807AA98A3030242, 0x12835B0145706FBE, 0x243185BE4EE4B28C, 0x550C7DC3D5FFB4E2, 0x72BE5D74F27B896F, 0x80DEB1FE3B1696B1, 0x9BDC06A725C71235, 0xC19BF174CF692694] ++
  [0xE49B69C19EF14AD2, 0xEFBE4786384F25E3, 0x0FC19DC68B8CD5B5, 0x240CA1CC77AC9C65, 0x2DE92C6F592B0275, 0x4A7484AA6EA6E483, 0x5CB0A9DCBD41FBD4, 0x76F988DA831153B5] ++
  [0x983E5152EE66DFAB, 0xA831C66D2DB43210, 0xB00327C898FB213F, 0xBF597FC7BEEF0EE4, 0xC6E00BF33DA88FC2, 0xD5A79147930AA725, 0x06CA6351E003826F, 0x142929670A0E6E70] ++
  [0x27B70A8546D22FFC, 0x2E1B21385C26C926, 0x4D2C6DFC5AC42AED, 0x53380D139D95B3DF, 0x650A73548BAF63DE, 0x766A0ABB3C77B2A8, 0x81C2C92E47EDAEE6, 0x92722C851482353B] ++
  [0xA2BFE8A14CF10364, 0xA81A664BBC423001, 0xC24B8B70D0F89791, 0xC76C51A30654BE30, 0xD192E819D6EF5218, 0xD69906245565A910, 0xF40E35855771202A, 0x106AA07032BBD1B8] ++
  [0x19A4C116B8D2D0C8, 0x1E376C085141AB53, 0x2748774CDF8EEB99, 0x34B0BCB5E19B48A8, 0x391C0CB3C5C95A63, 0x4ED8AA4AE3418ACB, 0x5B9CCA4F7763E373, 0x682E6FF3D6B2B8A3] ++
  [0x748F82EE5DEFB2FC, 0x78A5636F43172F60, 0x84C87814A1F0AB72, 0x8CC702081A6439EC, 0x90BEFFFA23631E28, 0xA4506CEBDE82BDE9, 0xBEF9A3F7B2C67915, 0xC67178F2E372532B] ++
  [0xCA273ECEEA26619C, 0xD186B8C721C0C207, 0xEADA7DD6CDE0EB1E, 0xF57D4F7FEE6ED178, 0x06F067AA72176FBA, 0x0A637DC5A2C898A6, 0x113F9804BEF90DAE, 0x1B710B35131C471B] ++
  [0x28DB77F523047D84, 0x32CAAB7B40C72493, 0x3C9EBE0A15C9BEBC, 0x431D67C49C100D4C, 0x4CC5D4BECB3E42B6, 0x597F299CFC657E2A, 0x5FCB6FAB3AD6FAEC, 0x6C44198C4A475817]

/-- The initial hash of SHA-384. -/
def shaInit : List Nat :=
  [0xCBBB9D5DC1059ED8, 0x629A292A367CD507, 0x9159015A3070DD17, 0x152FECD8F70E5939, 0x67332667FFC00B31, 0x8EB44A8768581511, 0xDB0C2E0D64F98FA7, 0x47B5481DBEFA4FA4]

/-- Rotate a 64-bit word right. -/
def rotr64 (x n : Nat) : Nat := (x >>> n) ||| ((x <<< (64 - n)) % 2 ^ 64)

/-- The message schedule, newest word first. -/
def shaSchedule (block : List Byte) : List Nat :=
  let first := (List.range 16).map (fun i => beNat ((block.drop (8 * i)).take 8))
  (List.range 64).foldl (fun ws _ =>
    let w15 := nth 0 ws 14
    let w2 := nth 0 ws 1
    let s0 := rotr64 w15 1 ^^^ rotr64 w15 8 ^^^ (w15 >>> 7)
    let s1 := rotr64 w2 19 ^^^ rotr64 w2 61 ^^^ (w2 >>> 6)
    ((nth 0 ws 15 + s0 + nth 0 ws 6 + s1) % 2 ^ 64) :: ws) first.reverse

/-- One block of SHA-384's compression. -/
def shaBlock (h : List Nat) (block : List Byte) : List Nat :=
  let ws := (shaSchedule block).reverse
  let out := (List.range 80).foldl (fun (v : List Nat) i =>
    match v with
    | [a, b, c, d, e, f, g, hh] =>
      let s1 := rotr64 e 14 ^^^ rotr64 e 18 ^^^ rotr64 e 41
      let ch := (e &&& f) ^^^ ((2 ^ 64 - 1 - e) &&& g)
      let t1 := hh + s1 + ch + nth 0 shaK i + nth 0 ws i
      let s0 := rotr64 a 28 ^^^ rotr64 a 34 ^^^ rotr64 a 39
      let mj := (a &&& b) ^^^ (a &&& c) ^^^ (b &&& c)
      [(t1 + s0 + mj) % 2 ^ 64, a, b, c, (d + t1) % 2 ^ 64, e, f, g]
    | v => v) h
  List.zipWith (fun x y => (x + y) % 2 ^ 64) h out

/-- Hash whole blocks of 128 bytes. -/
def shaBlocks : Nat → List Nat → List Byte → List Nat
  | 0, h, _ => h
  | n + 1, h, l => if l.isEmpty then h else shaBlocks n (shaBlock h (l.take 128)) (l.drop 128)

/-- SHA-384 of a byte string. -/
def sha384 (msg : List Byte) : List Byte :=
  let n := msg.length
  let padded := msg ++ [0x80] ++ List.replicate ((239 - n % 128) % 128) 0 ++ beBytes 16 (n * 8)
  ((shaBlocks (n / 128 + 2) shaInit padded).take 6).flatMap (beBytes 8)

/-- The prime of P-384. -/
def p384P : Nat := 2 ^ 384 - 2 ^ 128 - 2 ^ 96 + 2 ^ 32 - 1
/-- The group order of P-384. -/
def p384N : Nat := 0xFFFFFFFFFFFFFFFFFFFFFFFFFFFFFFFFFFFFFFFFFFFFFFFFC7634D81F4372DDF581A0DB248B0A77AECEC196ACCC52973
/-- The curve's b. -/
def p384B : Nat := 0xB3312FA7E23EE7E4988E056BE3F82D19181D9C6EFE8141120314088F5013875AC656398D8A2ED19D2A85C8EDD3EC2AEF
/-- The base point. -/
def p384G : Nat × Nat :=
  (0xAA87CA22BE8B05378EB1C71EF320AD746E1D3B628BA79B9859F741E082542A385502F25DBF55296C3A545E3872760AB7,
   0x3617DE4A96262C6F5D9E98BF9292DC29F8F41DBD289A147CE9DA3113B5F0B8C00A60B1CE1D7E819D7A431D7C90EA0E5F)

/-- A power modulo a number, by the bits of the exponent. -/
def powMod (m : Nat) : Nat → Nat → Nat → Nat
  | 0, _, _ => 1 % m
  | fuel + 1, a, e =>
    let r := powMod m fuel (a * a % m) (e / 2)
    if e % 2 = 1 then r * a % m else r

/-- The inverse modulo a prime. -/
def invMod (m a : Nat) : Nat := powMod m 400 (a % m) (m - 2)

/-- A point of the curve; none is the point at infinity. -/
abbrev Point := Option (Nat × Nat)

/-- A pair of coordinates lies on the curve. -/
def onCurve (q : Nat × Nat) : Bool :=
  q.1 < p384P && q.2 < p384P && (q.2 * q.2) % p384P = (q.1 * q.1 * q.1 + (p384P - 3) * q.1 + p384B) % p384P

/-- Addition of points. -/
def pointAdd : Point → Point → Point
  | none, q => q
  | p, none => p
  | some (x1, y1), some (x2, y2) =>
    let m := p384P
    if x1 = x2 && (y1 + y2) % m = 0 then none
    else
      let l := if x1 = x2 then (3 * x1 * x1 + m - 3) * invMod m (2 * y1) % m
        else (y2 + m - y1) * invMod m (x2 + m - x1) % m
      let x3 := (l * l + 2 * m - x1 - x2) % m
      some (x3, (l * (x1 + m - x3) + m - y1) % m)

/-- A multiple of a point. -/
def pointMul : Nat → Nat → Point → Point
  | 0, _, _ => none
  | fuel + 1, k, q =>
    let r := pointMul fuel (k / 2) (pointAdd q q)
    if k % 2 = 1 then pointAdd q r else r

/-- ECDSA verification of a 48-byte digest (R338); key and signature as x ‖ y and r ‖ s, each number big-endian. -/
def ecdsaVerify (pub sig digest : List Byte) : Bool :=
  let q := (beNat (pub.take 48), beNat (pub.drop 48))
  let r := beNat (sig.take 48)
  let s := beNat (sig.drop 48)
  if !onCurve q || r = 0 || s = 0 || p384N ≤ r || p384N ≤ s then false
  else
    let w := invMod p384N s
    let u1 := beNat digest * w % p384N
    let u2 := r * w % p384N
    match pointAdd (pointMul 385 u1 (some p384G)) (pointMul 385 u2 (some q)) with
    | none => false
    | some (x, _) => x % p384N = r

/-- An ECDSA signature r ‖ s of a digest with private key `d` and the per-signature number `k` (R340, R426). -/
def ecdsaSign (d k : Nat) (digest : List Byte) : List Byte :=
  match pointMul 385 (k % p384N) (some p384G) with
  | none => List.replicate 96 0
  | some (x, _) =>
    let r := x % p384N
    let s := invMod p384N (k % p384N) * (beNat digest + r * d) % p384N
    beBytes 48 r ++ beBytes 48 s

/-- CRC-32 of IEEE 802.3 over bytes. -/
def crc32 (l : List Byte) : Nat :=
  let step (c : Nat) (b : Byte) : Nat :=
    loop 8 (fun _ c => if c % 2 = 1 then (c / 2) ^^^ 0xEDB88320 else c / 2) (c ^^^ b.toNat)
  (l.foldl step 0xFFFFFFFF) ^^^ 0xFFFFFFFF

end Sys2Proof.Machine
end

