-- ==== Sys2Proof/Machine/Packets.lean ====
section
/-! DEFINITION. Ungus packets (R192 to R199): the stream key, the header and the tag, the frame and alarm packets, the destinations
and their losses; and the customer kernel's place in the point engines (R186, R187). -/

namespace Sys2Proof.Machine

/-! ### Keys (R341, R345) -/

/-- The key in force of a slot. -/
def State.key (s : State) (slot : Nat) : List Byte := tabGet [] s.sec.keys slot

/-- A slot's VALID bit (R341). -/
def State.keyValid (s : State) (slot : Nat) : Bool := s.bit SEC_KEY_STATUS slot

/-- The check value of a slot's key in force (R345). -/
def kcvOf (slot : Nat) (key : List Byte) : Nat :=
  if slot = 2 then leNat ((sha384 key).take 3) else leNat ((aes256 key (List.replicate 16 0)).take 3)

/-- Put a key in force in a slot (R341). -/
def State.setKey (s : State) (slot : Nat) (key : List Byte) : State :=
  let s : State := { s with sec := { s.sec with keys := tabSet [] s.sec.keys slot key } }
  (s.setBit SEC_KEY_STATUS slot true).setFld (SEC_KEY_KCV_V slot) (kcvOf slot key)

/-! ### The stream (R192, R193, R195) -/

/-- The next SEQ. -/
def State.seq (s : State) : Nat := s.rdN PNT_PKT_SEQ_HI * 2 ^ 32 + s.rdN PNT_PKT_SEQ_LO

/-- Set the next SEQ. -/
def State.setSeq (s : State) (n : Nat) : State := (s.wrN PNT_PKT_SEQ_LO (n % 2 ^ 32)).wrN PNT_PKT_SEQ_HI (n / 2 ^ 32 % 2 ^ 32)

/-- A pending stream key is adopted: SEQ restarts and KEY_EPOCH increments (R193, R344). -/
def State.adoptStreamKey (s : State) : State :=
  if s.bit SEC_KEY_STATUS 17 then
    let k := tabGet [] s.sec.pendingKeys 1
    let s : State := { s with sec := { s.sec with pendingKeys := tabErase s.sec.pendingKeys 1 } }
    let s := ((s.setKey 1 k).setBit SEC_KEY_STATUS 17 false).setSeq 0
    s.setFld PNT_PKT_STATUS_KEY_EPOCH (s.fld PNT_PKT_STATUS_KEY_EPOCH + 1)
  else s

/-- A packet's bytes before its tag (R192). -/
def State.packetHead (s : State) (type flags frame line : Nat) (body : List Byte) : List Byte :=
  [0x55, 0x4E, 0x47, 0x53, 0x01] ++ leBytes 1 type ++ leBytes 1 flags ++ leBytes 1 (s.fld PNT_PKT_STATUS_KEY_EPOCH)
    ++ leBytes 4 (48 + body.length) ++ leBytes 4 (s.fldF PNT_PKT_STREAM_ID_V) ++ leBytes 8 s.seq ++ leBytes 4 frame ++ leBytes 2 line
    ++ [0, 0] ++ body

/-- The tag (R193): AES-256-GCM with an empty plaintext, over the packet so far, with bytes 12 to 23 as the IV. -/
def packetTag (key bytes : List Byte) : List Byte := gmacTag key ((bytes.drop 12).take 12) bytes

/-- The destinations of a packet kind: 0 LINE, 1 FRAME, 2 IMAGE, 3 ALARM (R199). -/
def State.route (s : State) (kind : Nat) : List Nat :=
  (List.range 3).filter (fun d => (s.fldF ⟨PNT_PKT_ROUTE, 4 * kind + 3, 4 * kind⟩).testBit d)

/-- The assembler sends: it forms packets and adopts keys until it is frozen (R198). -/
def State.frozen (s : State) : Bool := s.flag PNT_PKT_STATUS_FROZEN

/-- A packet is withheld under R195. -/
def State.withheld (s : State) : Bool := !s.keyValid 1 && !s.flagF PNT_PKT_CFG_ALLOW_UNSIGNED

/-- Form, tag and route a packet to destinations (R192, R193, R195, R199). -/
def State.formPacket (s : State) (dests : List Nat) (reserved : Bool) (type flags frame line : Nat) (body : List Byte) : State :=
  if s.frozen then s
  else
    let s := if s.flag SHT_STATUS_RUNNING then s else s.adoptStreamKey
    if s.withheld then s.wrN PNT_PKT_UNSIGNED (s.rdN PNT_PKT_UNSIGNED + 1)
    else
      let signed := s.keyValid 1
      let head := s.packetHead type (flags + 32 * b2n (!signed)) frame line body
      let bytes := head ++ (if signed then packetTag (s.key 1) head else List.replicate 16 0)
      let s := s.setSeq (s.seq + 1)
      { s with pnt := { s.pnt with waiting := s.pnt.waiting ++ dests.map (fun d => (d, ⟨bytes, reserved⟩)) } }

/-- Send a packet of a kind by its route. -/
def State.sendPacket (s : State) (kind type flags frame line : Nat) (body : List Byte) : State :=
  s.formPacket (s.route kind) (kind = 1 || kind = 3) type flags frame line body

/-- An ALARM packet (R198). At a red card (level 2) it is FINAL, goes to every destination, and nothing follows it. -/
def State.alarmPacket (s : State) (level ev src : Nat) : State :=
  if s.pwr.coreInReset then s
  else
    let body := leBytes 2 ev ++ leBytes 1 level ++ leBytes 1 src ++ [0, 0, 0, 0] ++ leBytes 8 s.ns
    let frame := s.rdN GLB_FRAME
    if level = 2 then (s.formPacket [0, 1, 2] true 0x7F 0x80 frame 0xFFFF body).setFlag PNT_PKT_STATUS_FROZEN true
    else s.sendPacket 3 0x7F 0 frame 0xFFFF body

/-- A device time as a packet carries it: ns and the tick fraction (R9, R196, R197). -/
def timeBytes (t : Nat) : List Byte := leBytes 8 (t / 2 ^ 48) ++ leBytes 1 (t / 2 ^ 40 % 256)

/-- The FRAME_START packet of the frame that opens (R197). -/
def State.frameStartPacket (s : State) : State :=
  let s : State := { s with pnt := { s.pnt with frames := s.pnt.frames ++ [FrameAcc.mk (s.rdN GLB_FRAME) none 0 0 0 []] } }
  let body := timeBytes s.devTime ++ leBytes 1 s.grid.facet ++ leBytes 2 (s.fldF SHT_CFG_LINES) ++ leBytes 2 (s.fld SHT_GEN_V)
    ++ leBytes 2 (s.fld HST_GEN_V) ++ leBytes 2 (s.fld IMG_GEN_V) ++ leBytes 2 (s.rdN LNP_EPOCH % 65536)
    ++ leBytes 2 (s.rdN DET_COLOUR_LINES) ++ leBytes 1 (s.fld SHT_STATUS_THROTTLE) ++ [0] ++ leBytes 2 (s.rdN CTL_SPEED) ++ leBytes 6 0
  s.sendPacket 1 0x01 0 (s.rdN GLB_FRAME) 0xFFFF body

/-- FRAME_END is sent after the last LINE packet of the oldest frame that has ended (R197). -/
def State.tryFrameEnd (s : State) : State :=
  match s.pnt.frames with
  | [] => s
  | f :: rest =>
    match f.ended with
    | none => s
    | some (cause, time, delivered, notRun) =>
      if s.hst.lines.any (fun (e : Nat × HstLine) => e.2.frame = f.frame) then s
      else
        let s : State := { s with pnt := { s.pnt with frames := rest } }
        let body := timeBytes time ++ leBytes 1 cause ++ leBytes 2 delivered ++ leBytes 2 (min 65535 notRun)
          ++ leBytes 2 (min 65535 f.overruns) ++ leBytes 4 f.returns ++ leBytes 4 f.dropped ++ leBytes 2 f.notNormal.length ++ leBytes 6 0
        s.sendPacket 1 0x03 0 f.frame 0xFFFF body

/-- Change the account of a frame. -/
def State.onFrame (s : State) (frame : Nat) (f : FrameAcc → FrameAcc) : State :=
  { s with pnt := { s.pnt with frames := s.pnt.frames.map (fun (a : FrameAcc) => if a.frame = frame then f a else a) } }

/-- A frame has closed with its END_CAUSE (R30, R197). -/
def State.endFrameAcc (s : State) (frame cause delivered notRun overruns : Nat) : State :=
  s.onFrame frame (fun a => { a with ended := some (cause, s.devTime, delivered, notRun), overruns := overruns })

/-! ### Losses (R199) -/

/-- A destination drops a packet (R199); a LINE packet counts in its frame's trailer (R197). -/
def State.packetDropped (s : State) (d : Nat) (bytes : List Byte) : State :=
  let s := s.wrN (PNT_PKT_DROP d) (s.rdN (PNT_PKT_DROP d) + 1)
  let s := if nth 0 bytes 5 = 2 then s.onFrame (leNat ((bytes.drop 24).take 4)) (fun a => { a with dropped := a.dropped + 1 }) else s
  if s.pnt.dropRaised then s
  else ({ s with pnt := { s.pnt with dropRaised := true } } : State).raise EV_PNT_PKT_DROP

/-- Queue an item for a device-to-host queue (R370). -/
def State.queueItem (s : State) (port queue producer : Nat) (data : List Byte) : State :=
  { s with dma := { s.dma with ready := s.dma.ready ++ [DmaItem.mk port queue producer data] } }

/-! ### The customer kernel (R186, R187, R194) -/

/-- The kernel runs (R187): loaded, ENABLE latched at 1, and not disabled. -/
def State.kernelActive (s : State) : Bool :=
  s.flag PNT_KSTATUS_LOADED && s.flagF PNT_KERNEL_CTRL_ENABLE && !s.flag PNT_KSTATUS_DISABLED

/-- Show whether the kernel runs (R200). -/
def State.showKernel (s : State) : State := s.setFlag PNT_KSTATUS_ACTIVE s.kernelActive

/-- The kernel, and one that waits, are unloaded (R186). -/
def State.kernelUnload (s : State) : State :=
  let s : State := { s with pnt := { s.pnt with kernel := none, pendingKernel := none, quota := 0, stops := 0, enableLow := false } }
  s.wrN PNT_KSTATUS 0

/-- PNT_KERNEL_CTRL was latched (R187): a disabled kernel runs again only after ENABLE has been latched at 0 and then at 1. -/
def State.kernelLatch (s : State) : State :=
  let s :=
    if s.flagF PNT_KERNEL_CTRL_ENABLE then
      (if s.pnt.enableLow then
        ({ s with pnt := { s.pnt with enableLow := false } } : State).setFlag PNT_KSTATUS_DISABLED false
      else s)
    else { s with pnt := { s.pnt with enableLow := s.flag PNT_KSTATUS_DISABLED } }
  s.showKernel

/-- A 16-bit field of a kernel image (R185). -/
def kernelField (img : List Byte) (at_ n : Nat) : Nat := leNat ((img.drop at_).take n)

/-- A kernel that waits is placed in the point engines (R186). -/
def State.placeKernel (s : State) : State :=
  let s := match s.pnt.pendingKernel with
    | none => s
    | some img =>
      let s : State := { s with pnt := { s.pnt with kernel := some img, pendingKernel := none, quota := kernelField img 16 2 } }
      let s := (s.setFlag PNT_KSTATUS_LOADED true).setFld PNT_KSTATUS_HOOK (kernelField img 6 1)
      (s.setFld PNT_KSTATUS_VERSION (kernelField img 18 2)).raise EV_PNT_KERNEL_LOADED
  s.showKernel

/-- What a frame start does: packet settings latch (R200), a kernel stopped on 16 channel-lines is disabled, and a kernel that waits
is placed (R186, R187). -/
def State.pntFrameStart (s : State) : State :=
  let s := s.latch 0x280040 0x280050 s.regs
  let off := decide (16 ≤ s.pnt.stops)
  let s := if off then (s.setFlag PNT_KSTATUS_DISABLED true).raise EV_PNT_KERNEL_DISABLED else s
  let s : State := { s with pnt := { s.pnt with stops := 0, trapRaised := false, quotaRaised := false, dropRaised := false } }
  s.placeKernel

/-- A pending stream key is adopted at a frame start while a run is active, else with the next packet (R193). -/
def State.streamKeyFrameStart (s : State) : State := if s.frozen || !s.flag SHT_STATUS_RUNNING then s else s.adoptStreamKey

end Sys2Proof.Machine
end

