-- ==== Sys2Proof/Machine/Consequences.lean ====
section
/-! DEFINITION. What follows from a change wherever it is made: the end of a line, a frame and a run (R29, R30, R34, R72), the
emission-enable chain (R85, R86), SEC_FAULT and the lands P87 and P88 (R353), Priard's own changes of state (R396), and the
end of every step (`settle`, `done`), which logs the raised sources in order (R373). -/

namespace Sys2Proof.Machine

/-- The run is active (R72). -/
def State.running (s : State) : Bool := s.flag SHT_STATUS_RUNNING

/-- The window in flight closes at this instant and all its stamps are discarded (R29): every open window is closed with CUT set. -/
def State.discardWindow (s : State) : State :=
  match s.sht.flight with
  | none => s
  | some f =>
    let s : State := { s with sht := { s.sht with flight := none } }
    if f.started then s.closeLanes true else s

/-- Change the line the histogram engines collect for the line in progress. -/
def State.onLine (s : State) (f : HstLine → HstLine) : State :=
  { s with hst := { s.hst with lines := s.hst.lines.map (fun (e : Nat × HstLine) => if e.1 = s.hst.lineSeq then (e.1, f e.2) else e) } }

/-- The set-up of slot 0 of the next line is withdrawn with its record: that line does not start, or launches nothing. -/
def State.dropPrepared (s : State) : State :=
  match s.sht.prepared with
  | none => s
  | some _ => { s with sht := { s.sht with prepared := none },
                       hst := { s.hst with posted := s.hst.posted.filter (fun (r : ShotRec) => r.lineSeq ≤ s.hst.lineSeq) } }

/-- No further slot of the line in flight is launched (R29, R34). A slot that was set up and has not started is not launched: its
record is withdrawn. A window that is open closes normally, and the line's launches end with it. -/
def State.stopLaunch (s : State) : State :=
  let s : State := { s with sht := { s.sht with cut := true } }
  match s.sht.flight with
  | none => s.onLine (fun l => { l with launchEnded := true })
  | some f =>
    if f.started then s
    else
      let s : State := { s with sht := { s.sht with flight := none },
                                hst := { s.hst with posted := s.hst.posted.filter (fun (r : ShotRec) =>
                                                      r.lineSeq ≠ s.hst.lineSeq || r.slot ≠ f.slot) } }
      s.onLine (fun l => { l with launchEnded := true })

/-- The line in flight is delivered with the shots completed (R29, R34). -/
def State.deliverLine (s : State) : State :=
  if s.grid.lineOpen then
    let s : State := if s.sht.flight.isNone then s.onLine (fun l => { l with launchEnded := true }) else s
    { s with grid := { s.grid with lineOpen := false, linesDelivered := s.grid.linesDelivered + 1 } }
  else s

/-- A line ends (R113): its duration goes to CTL_LINE_T and its detections to DET_AMB, and into the contexts of its channels. -/
def State.endLine (s : State) : State :=
  if !s.grid.lineTimed then s
  else
    let dur := s.now - s.grid.lineStart
    let s := s.wrN CTL_LINE_T (min (2 ^ 32 - 1) dur)
    let amb := fun (n : Nat) => (tabGet DetChan.init s.det.chans n).amb
    let base := 192 * s.hst.lineSeq
    let mine := s.hst.lines.any (fun (e : Nat × HstLine) => decide (e.1 = s.hst.lineSeq) && decide (e.2.frame = s.rdN GLB_FRAME)
      && decide (e.2.line = s.rdN GLB_LINE))
    let s : State := { s with hst := { s.hst with jobs := s.hst.jobs.map (fun (e : Nat × ChanLine) =>
                                                    if mine && e.1 / 192 = s.hst.lineSeq then (e.1, { e.2 with detAmb := amb (e.1 - base) }) else e) } }
    let s := loop 192 (fun n s => s.setFld (DET_AMB_V n) (min 0xFFFFFF (amb n))) s
    { s with grid := { s.grid with lineTimed := false },
             det := { s.det with durSum := s.det.durSum + dur,
                                 chans := s.det.chans.map (fun (e : Nat × DetChan) => (e.1, { e.2 with amb := 0, ambFrame := e.2.ambFrame + e.2.amb })) } }

/-- A frame's DET_RATE (R113), in units of 0.25 million detections per second; a frame with no line leaves it unchanged. -/
def State.frameRates (s : State) : State :=
  let d := s.det.durSum
  let s := if d = 0 then s else loop 192 (fun n s =>
    let c := tabGet DetChan.init s.det.chans n
    s.setFld (DET_RATE_V n) (min 65535 (roundDiv (c.ambFrame * 1024000 : Nat) (d : Nat)).toNat)) s
  { s with det := { s.det with durSum := 0, chans := s.det.chans.map (fun (e : Nat × DetChan) => (e.1, { e.2 with ambFrame := 0 })) } }

/-- The frame closes with the lines delivered; its trailer gives the true line count (R30, R197). `cause` is END_CAUSE: 0 NORMAL,
1 SHORT, 2 LONG, 3 UNLOCK, 4 CHAIN_OPEN, 5 STOP or ABORT, 6 RED_CARD. -/
def State.closeFrame (s : State) (cause : Nat) : State :=
  let s := s.deliverLine
  let s := if s.grid.sweep then
      let s := s.endLine.frameRates
      { s with grid := { s.grid with sweep := false } }
    else s
  if s.grid.frameOpen then
    let s := s.endFrameAcc (s.rdN GLB_FRAME) cause s.grid.linesDelivered s.grid.linesNotRun s.grid.overruns
    { s with grid := { s.grid with frameOpen := false } }
  else s

/-- R29: the window in flight is discarded, slots not yet launched are not launched, and the line is delivered. -/
def State.cutLine (s : State) : State := s.discardWindow.stopLaunch.deliverLine

/-- R34 and R86: no further slot is launched, the line in flight is delivered, and the frame closes with its END_CAUSE. -/
def State.loseEmission (s : State) (cause : Nat) : State := (s.dropPrepared.stopLaunch).closeFrame cause

/-- The run ends (R72); a pending start is cancelled. -/
def State.endRun (s : State) : State :=
  let was := s.running
  let s : State := { s with sht := { s.sht with startPending := none, newCount := none, stopAtEnd := false, barred := false } }
  let s := s.setFlag SHT_STATUS_RUNNING false
  if was then { s with fw := { s.fw with lastRunFrame := s.rdN GLB_FRAME } } else s

/-- The run ends at a frame start, with the frame before it (R72). -/
def State.endRunBefore (s : State) : State :=
  let s := s.endRun
  { s with fw := { s.fw with lastRunFrame := (s.rdN GLB_FRAME + (2 ^ 32 - 1)) % 2 ^ 32 } }

/-- ABORT (R72): the line in flight is treated as in R29 and the frame closes as in R30; a pending start is cancelled. -/
def State.abortRun (s : State) : State :=
  if s.running then (s.dropPrepared.cutLine.closeFrame 5).endRun else s.endRun

/-- Scanner lock is lost (R34, R57): SCAN_UNLOCKED, and the frame closes. -/
def State.loseLock (s : State) : State :=
  if s.flag CTL_STATUS_LOCK then
    let s := if s.grid.lineTimed then s.onLine (fun l => { l with lockLost := true }) else s
    ((s.setFlag CTL_STATUS_LOCK false).loseEmission 3).raise EV_SCAN_UNLOCKED
  else s

/-- A loop slot's state. -/
def State.slot (s : State) (n : Nat) : LoopState := tabGet LoopState.init s.ctl.slots n

/-- Set a loop slot's state. -/
def State.setSlot (s : State) (n : Nat) (l : LoopState) : State :=
  { s with ctl := { s.ctl with slots := tabSet LoopState.init s.ctl.slots n l } }

/-- A lamp loop's state (R60). -/
def State.lamp (s : State) (m : Nat) : LoopState := tabGet LoopState.init s.ctl.lamps m

/-- Set a lamp loop's state. -/
def State.setLamp (s : State) (m : Nat) (l : LoopState) : State :=
  { s with ctl := { s.ctl with lamps := tabSet LoopState.init s.ctl.lamps m l } }

/-- Slot 5 in CTL_STATUS (R62): CLOSED while some lamp loop is closed, SATURATED while a closed one stands at an output limit. -/
def State.showLamps (s : State) : State :=
  let closed := (List.range 8).filter (fun m => (s.lamp m).closed)
  let lo := s.fldI (CTL_OUT_LIM_OUT_MIN 5)
  let hi := s.fldI (CTL_OUT_LIM_OUT_MAX 5)
  (s.setBit CTL_STATUS 13 (!closed.isEmpty)).setBit CTL_STATUS 21 (closed.any (fun m => (s.lamp m).u = hi || (s.lamp m).u = lo))

/-- A lamp loop opens (R35, R44, R60): its close bit clears and its drive stays off. -/
def State.openLamp (s : State) (m : Nat) : State :=
  let s := (s.setBit CTL_FL_CLOSE m false).setBit FLD_STATUS m false
  let s := s.setLamp m { s.lamp m with closed := false, preload := false, u := 0 }
  ({ s with flood := { s.flood with computed := tabSet 0 s.flood.computed m 0 } } : State).showLamps

/-- The terms of R85, bit by bit as EMT_CHAIN shows them. -/
def State.chainTerms (s : State) : BitVec 8 :=
  if s.pwr.emissionInReset then 0 else
  let t : List Bool :=
    [s.sec.permitting && !s.sec.discrepancy && !s.flag FLT_TRIP_LATCHED,
     s.flag CTL_STATUS_LOCK,
     s.flag EMT_EYE_CFG_LOCK,
     !s.flag EMT_FAULT_LATCHED,
     s.bit SEC_KEY_STATUS 0 || s.fldF SHT_SERVE_CFG_BITS = 0,
     !s.emt.redCard,
     s.flag EMT_ARM_ARM,
     s.running]
  BitVec.ofNat 8 (t.foldr (fun b acc => b2n b + 2 * acc) 0)

/-- The lowest bit set of a word of 8 bits. -/
def lowestBit (w : BitVec 8) : Nat := ((List.range 8).find? (fun i => w.getLsbD i)).getD 0

/-- END_CAUSE of a frame that a loss of the chain closes, from the terms lost (R85, R197). -/
def chainCause (lost : BitVec 8) : Nat :=
  if lost.getLsbD 5 then 6 else if lost.getLsbD 7 then 5 else if lost.getLsbD 1 then 3 else 4

/-- Triggers and columns are forced low (R91, R482): a pulse already begun ends at its programmed fall, and the columns are released 256 ticks
after that; otherwise both are low at once. -/
def State.forceLow (s : State) : State :=
  let d := s.emt.drive
  let d := if d.rows ≠ 0 && decide (d.rise ≤ s.now) && decide (s.now < d.fall) then { d with release := some (d.fall + 256) }
    else { d with cols := 0, rows := 0 }
  { s with emt := { s.emt with drive := d } }

/-- Bring EMT_CHAIN to the terms that hold now, with the consequences of a loss (R85, R86). -/
def State.settleChain (s : State) : State :=
  let old := s.emt.terms
  let new := s.chainTerms
  let lost := old &&& ~~~new
  let s := if lost = 0 then s else s.setFld EMT_CHAIN_LAST_OPEN (lowestBit lost)
  let s : State := { s with emt := { s.emt with terms := new } }
  let s := s.setFld ⟨EMT_CHAIN, 7, 0⟩ new.toNat
  let s := s.setFlag EMT_CHAIN_ACTIVE (new = 255)
  if old = 255 && lost ≠ 0 then
    (s.forceLow.loseEmission (chainCause lost)).raiseIf (lost &&& ~~~(2 : BitVec 8) ≠ 0) EV_EMT_CHAIN_OPEN
  else s

/-- P87 is active exactly while all terms hold (R85). -/
def State.p87 (s : State) : Bool := s.emt.terms = 255

/-- A domain is in reset, or a port is in the 10 µs of its own reset: P88 is released (R454). -/
def State.anyReset (s : State) : Bool :=
  s.pwr.thmInReset || s.pwr.coreInReset || s.pwr.emissionInReset || s.pwr.mgmtInReset || s.portInReset 0 || s.portInReset 1
    || decide (s.now < s.portA.resetUntil) || decide (s.now < s.portB.resetUntil)

/-- The causes of SEC_FAULT (R353). -/
def State.faultCauses (s : State) : Nat :=
  b2n (s.flag EMT_FAULT_LATCHED) + 2 * b2n (s.flag FLT_TRIP_LATCHED) + 4 * b2n s.sec.discrepancy + 8 * b2n s.emt.redCard
    + 16 * b2n s.sec.pinMismatch + 32 * b2n s.pwr.hard + 64 * b2n (s.flag SEC_FAULT_FORCE_V)

/-- The land FAULT (R353): low only while no cause stands; high by the pull-up while released. -/
def State.faultLand (s : State) : Bool := s.sec.faultHeld.getD (s.anyReset || s.faultCauses ≠ 0)

/-- The land EMIT_ACT (R353). -/
def State.emitLand (s : State) : Bool := s.sec.emitHeld.getD s.p87

/-- The land EMIT_ACT stands at its drive (R354). -/
def State.emitMatches (s : State) : Bool := s.sec.emitHeld = none || s.sec.emitHeld = some s.p87

/-- The land FAULT stands at its drive, high while it is released (R354). -/
def State.faultMatches (s : State) : Bool :=
  s.sec.faultHeld = none || s.sec.faultHeld = some (s.anyReset || s.faultCauses ≠ 0)

/-- The lands match their drive (R354). -/
def State.landsMatch (s : State) : Bool := s.emitMatches && s.faultMatches

/-- SEC_ILK as it stands (R351): PERMIT, the levels of the lands and the latch. -/
def State.ilkWord (s : State) : Nat :=
  2 ^ 31 * b2n s.sec.permitting + 2 ^ 30 * b2n s.sec.ilkA + 2 ^ 29 * b2n s.sec.ilkB + 2 ^ 28 * b2n s.sec.discrepancy

/-- SEC_FAULT and SEC_ILK as they stand (R351, R353), and since when a land differs from its drive (R354). -/
def State.settleFault (s : State) : State :=
  let since := fun (c : Bool) (t : Option Nat) => if c then some (t.getD s.now) else none
  let s : State := { s with sec := { s.sec with emitDiffers := since (!s.emitMatches) s.sec.emitDiffers,
                                                faultDiffers := since (!s.faultMatches) s.sec.faultDiffers } }
  (s.wrN SEC_FAULT (s.faultCauses + 2 ^ 30 * b2n s.emitLand + 2 ^ 31 * b2n s.faultLand)).wrN SEC_ILK s.ilkWord

/-- CRITICAL stands in a zone (R327). -/
def State.critical (s : State) : Bool := s.flag THM_STATUS_CRIT_LOGIC || s.flag THM_STATUS_CRIT_DET

/-- The conditions of R398, one bit each in the order listed there. -/
def State.degraded (s : State) : Nat :=
  b2n s.grid.darkLast + 2 * b2n (1 ≤ s.fld THM_STATUS_STEP) + 4 * b2n (s.rdN THM_FAILED ≠ 0)
    + 8 * b2n (s.flag LNP_STATUS_SPLIT || s.flag CAL_STATUS_SPLIT) + 16 * b2n (s.flag ADC_STATUS_SUSPECT)
    + 32 * b2n (!s.flag DET_STATUS_LINK_OK) + 64 * b2n (s.flag CTL_STATUS_FALLBACK)

/-- Priard changes state (R396): MBX_FW_STATE and FW_STATE with the old and new state and the cause. -/
def State.fwEnter (s : State) (new cause : Nat) : State :=
  let old := s.fwCode
  let s := (s.setFld MBX_FW_STATE_STATE new).setFld MBX_FW_STATE_CAUSE cause
  s.raiseInfo EV_FW_STATE (old * 2 ^ 28 + new * 2 ^ 24 + cause)

/-- SEC_FAULT bits 0 to 4 stand (R396). -/
def State.safetyFault (s : State) : Bool := s.faultCauses % 32 ≠ 0

/-- Priard's changes of state that need no command (R396, R398). -/
def State.settleFw (s : State) : State :=
  let c := s.fwCode
  if c < 2 || 7 < c then s
  else if c < 7 && s.safetyFault then
    ((s.abortRun).setFlag EMT_ARM_ARM false).fwEnter 7 0x0B
  else if c = 7 then
    if s.safetyFault then s.setFlag EMT_ARM_ARM false
    else s.fwEnter (if s.critical then 6 else 2) 0x0C
  else if c < 6 && s.critical then ((s.loseEmission 5).endRun).fwEnter 6 0x09
  else if c = 6 then (if s.critical then s else s.fwEnter 2 0x0A)
  else if c = 3 then
    (if s.p87 then s.fwEnter (if s.degraded = 0 then 4 else 5) 0x04 else s)
  else if c = 2 then s
  else if !s.running then s.fwEnter 3 0x06
  else if !s.p87 then s.fwEnter 3 0x05
  else if c = 4 && s.degraded ≠ 0 then s.fwEnter 5 0x07
  else if c = 5 && s.degraded = 0 then s.fwEnter 4 0x08
  else s

/-- The signed set-point written for a slot (R49). -/
def State.spTarget (s : State) (n : Nat) : Int := s.fldI (CTL_SP_V n)

/-- Lines per frame in force (R68). -/
def State.linesInForce (s : State) : Nat := s.fldF SHT_CFG_LINES

/-- Lines per 1,000 s at the present set-point of slot 0: the reciprocal of T (R23, R31). -/
def State.lineRate (s : State) : Nat := s.linesInForce * (s.fldI (CTL_SP_NOW_V 0)).natAbs

/-- The effective SP_MAX of slot 0 for a number of lines (R49, R70), a whole number of 0.001 frames/s: 40,960 lines/s divided by the lines is
rounded down. DESIGN CHOICE (log entry 137), the spec states no rounding. -/
def State.spMaxFor (s : State) (lines : Nat) : Int :=
  let lim : Int := if lines = 0 then 32767 else ((40960 * 1000 / lines : Nat) : Int)
  min (s.fldI (CTL_SP_LIM_SP_MAX 0)) (min 30000 lim)

/-- The effective limits of a slot's set-point (R49). -/
def State.spLimits (s : State) (n : Nat) : Int × Int :=
  let lo := s.fldI (CTL_SP_LIM_SP_MIN n)
  let hi := s.fldI (CTL_SP_LIM_SP_MAX n)
  if n = 0 then
    let hi := s.spMaxFor s.linesInForce
    let hi := if s.sht.pending.isSome then min hi (s.spMaxFor (fldIn s.sht.staged SHT_CFG_LINES)) else hi
    (max lo 10000, hi)
  else (lo, hi)

/-- The target the limiter follows: the set-point clamped to the nearer limit in force (R49). -/
def State.spFollow (s : State) (n : Nat) : Int :=
  let (lo, hi) := s.spLimits n
  clampI (s.spTarget n) lo hi

/-- The limits in force clamp a slot's target (R49); the set-point registers of slot 3 have no effect (R43). -/
def State.spClamped (s : State) (n : Nat) : Bool := n ≠ 3 && decide (s.spFollow n ≠ s.spTarget n)

/-- A change of the limits that starts to clamp a target raises CTL_SP_CLAMP (R49). -/
def State.settleClamp1 (s : State) (n : Nat) : State :=
  let l := s.slot n
  let c := s.spClamped n
  if c = l.clamped then s
  else
    let s := s.setSlot n { l with clamped := c }
    if c then s.raise EV_CTL_SP_CLAMP else s

/-- The clamp state of every slot. -/
def State.settleClamp (s : State) : State := loop 8 (fun n s => s.settleClamp1 n) s

/-- DET_COOL_STATUS follows slot 4 (R119): since when its controlled temperature lies within 0.5 °C of the working set-point, and
since when its output stands at a limit; outside, and while the slot is open, the bits are 0. -/
def State.settleCool (s : State) : State :=
  let l := s.slot 4
  let near := l.closed && decide (l.err.natAbs ≤ 128)
  let lim := l.closed && (decide (l.u = s.fldI (CTL_OUT_LIM_OUT_MIN 4)) || decide (l.u = s.fldI (CTL_OUT_LIM_OUT_MAX 4)))
  let keep := fun (c : Bool) (t : Option Nat) => if c then some (t.getD s.now) else none
  let s : State := { s with det := { s.det with atSpSince := keep near s.det.atSpSince, satSince := keep lim s.det.satSince } }
  let s := if near then s else s.setFlag DET_COOL_STATUS_AT_SP false
  if lim then s else s.setFlag DET_COOL_STATUS_SATURATED false

/-- A source was raised in this step. -/
def State.has (s : State) (ev : Nat) : Bool := s.raised.any (fun (r : Raised) => r.src = ev)

/-- Events that end a run before its first frame start (R417). -/
def runEnders : List Nat :=
  [EV_SHT_CFG_ERROR, EV_EMITTER_FAULT, EV_FLT_INTERLOCK_TRIP, EV_THM_CRITICAL, EV_THM_STOP_TIMEOUT, EV_SEC_RED_CARD, EV_ILK_DISCREPANCY,
   EV_SEC_PIN_MISMATCH, EV_EMT_CHAIN_OPEN, EV_SCAN_UNLOCKED]

/-- The first source of a list that was raised in this step; 0xFFFF where none was. -/
def State.firstRaised (s : State) (l : List Nat) : Nat := (l.find? (fun (e : Nat) => s.has e)).getD 0xFFFF

/-- The commits that a COMMIT command named have all latched (R415). -/
def State.allLatched (s : State) (w : Word) : Bool :=
  let b := fun (i : Nat) => w.toNat.testBit i
  !(b 0 && s.bgt.staged.isSome) && !(b 1 && s.adc.staged.isSome) && !(b 2 && s.sht.pending.isSome) && !(b 3 && s.hst.pending.isSome)
    && !(b 4 && s.img.commit.isSome)

/-- CTL_SPEED lies within 1 % of CTL_SP[0] (R416). -/
def State.nearSpeed (s : State) : Bool :=
  let sp := s.fldI (CTL_SP_V 0)
  decide (((s.fld CTL_SPEED_V : Int) - sp).natAbs * 100 ≤ sp.natAbs)

/-- Keep the tick since when a condition holds, plus 1; nothing while it does not hold. -/
def State.sinceWhen (s : State) (c : Bool) (l : List Nat) : List Nat := if c then (if l.isEmpty then [s.now + 1] else l) else []

/-- What the event a command awaits has brought, at the step in which it occurs (R414 to R429). -/
def State.noteLong (s : State) (l : LongCmd) : LongCmd :=
  let ok := fun (n : List Nat) => { l with phase := 1, notes := n }
  let fault := fun (n : Nat) => { l with phase := 2, notes := [n] }
  let was := l.notes.headD 0
  if l.phase ≠ 0 then l
  else if l.code = 0x0203 then
    if s.sht.pending.isNone && s.fld SHT_GEN_V ≠ was then ok [s.fld SHT_GEN_V, s.rdN GLB_FRAME] else l
  else if l.code = 0x0204 then
    if s.allLatched (l.args.headD 0) then ok [s.fld SHT_GEN_V, s.fld HST_GEN_V, s.fld IMG_GEN_V, s.rdN GLB_FRAME] else l
  else if l.code = 0x0301 then
    if s.flag CTL_STATUS_LOCK then ok [s.rdN GLB_FRAME, s.fld CTL_SPEED_V]
    else if s.has EV_CTL_MOTOR_TRIP then fault EV_CTL_MOTOR_TRIP
    else if s.has EV_CTL_ENC_FAULT then fault EV_CTL_ENC_FAULT
    else { l with notes := s.sinceWhen s.nearSpeed l.notes }
  else if l.code = 0x0302 then
    if s.sht.startPending.isSome || s.sht.newCount.isSome then l
    else if s.running then ok [s.rdN GLB_FRAME, s.rdN EMT_CHAIN]
    else fault (s.firstRaised runEnders)
  else if l.code = 0x0303 then (if s.running then l else ok [s.fw.lastRunFrame])
  else if l.code = 0x0307 then { l with notes := s.sinceWhen (decide (s.fld CTL_SPEED_V < 500)) l.notes }
  else if l.code = 0x0401 || l.code = 0x0405 then
    (if s.img.commit.isNone then ok [s.fld IMG_GEN_V, s.rdN IMG_APPLIED_FRAME] else l)
  else if l.code = 0x0402 then (if s.rdN GLB_FRAME = was then l else ok [s.rdN GLB_FRAME])
  else if l.code = 0x0403 then (if s.has EV_ISP_CAPTURE_DONE then ok [s.fld ISP_MEM_CTRL_LINES] else l)
  else if l.code = 0x0404 then (if s.has EV_ISP_REPROC_DONE then ok [] else l)
  else if l.code = 0x0501 then
    if s.has EV_CAL_EXPORT_DONE then ok [s.rdN CAL_EXPORT_EPOCH]
    else if s.has EV_CAL_IMPORT_REFUSED then { l with phase := 3, notes := [s.rdN CAL_ERR] } else l
  else if l.code = 0x0502 then
    if s.has EV_CAL_IMPORT_DONE then ok [s.rdN CAL_EPOCH]
    else if s.has EV_CAL_IMPORT_REFUSED then { l with phase := 3, notes := [s.rdN CAL_ERR] } else l
  else if l.code = 0x0503 then (if s.has EV_CAL_RESEL_DONE then ok [s.fld CAL_RESEL_STATUS_PASS] else l)
  else if l.code = 0x0504 then
    if (l.args.headD 0).toNat % 16 = 5 || s.running then l
    else if s.sht.startPending.isSome then { l with notes := [s.hst.lineSeq] }
    else
      let second := decide ((l.args.getD 8 0).toNat % 65536 ≤ s.hst.lineSeq - was)
      { l with phase := 2, notes := [s.firstRaised runEnders, b2n second] }
  else if l.code = 0x0601 then (if s.img.convPending.contains was then l else ok [])
  else if l.code = 0x0704 then (if s.pwr.emissionInReset then l else ok [])
  else if l.code = 0x0801 || l.code = 0x0802 || l.code = 0x0804 then
    if s.has EV_SEC_RED_CARD then fault 8
    else if s.flag SEC_KEY_STATUS_BUSY then l
    else if s.fld SEC_KEY_STATUS_ERROR ≠ 0 then fault (s.fld SEC_KEY_STATUS_ERROR)
    else ok []
  else if l.code = 0x080A then
    if s.pnt.pendingKernel.isSome then l
    else if s.has EV_PNT_KERNEL_LOADED then ok (l.notes ++ [s.rdN GLB_FRAME])
    else fault (s.firstRaised [EV_SEC_RED_CARD, EV_SEC_KEY_LOADED])
  else l

/-- Note the events that Priard's commands await. -/
def State.noteLongs (s : State) : State :=
  if s.fw.longs.isEmpty then s else { s with fw := { s.fw with longs := s.fw.longs.map (fun (l : LongCmd) => s.noteLong l) } }

/-- The end of a step: chain, faults and Priard's state follow from what the command did, and the raised sources are logged. -/
def State.settle (s : State) : State :=
  let s := if s.pwr.coreInReset then s else s.settleClamp.settleCool
  let s := s.settleChain
  let s := if s.pwr.coreInReset then s else s.settleFw
  let s := s.settleChain
  let s := if s.pwr.coreInReset then s else s.settleFault.tryFrameEnd.noteLongs
  { s.flush with refused := none }

/-- A command's outcome: its effect on everything but the queue, and what follows from it. -/
def done (s : State) : Host.Outcome State Fault Refusal := .next s.settle

end Sys2Proof.Machine
end

