-- ==== Sys2Proof/Machine/Thermal.lean ====
section
/-! DEFINITION. Temperature, throttling and shutdown (14_thermal.md). -/

namespace Sys2Proof.Machine

/-- A thermometer's state. -/
def State.therm (s : State) (i : Nat) : Therm := tabGet Therm.init s.thm.therms i

/-- Set a thermometer's state. -/
def State.setTherm (s : State) (i : Nat) (t : Therm) : State :=
  { s with thm := { s.thm with therms := tabSet Therm.init s.thm.therms i t } }

/-- The detector zone holds thermometers 24 to 27 (R325). -/
def inDetZone (i : Nat) : Bool := decide (24 ≤ i)

/-- Thermometers of a zone (R325). -/
def zoneTherms (det : Bool) : List Nat := if det then [24, 25, 26, 27] else List.range 24

/-- A count as a reading over the full span, 1/256 °C, rounded to nearest, ties upward (R326); production counts that are equal give no reading
(log entry 158). -/
def State.countToReading (s : State) (i c : Nat) : Int :=
  let c25 : Int := (s.fld (THM_TRIM_C25 i) : Nat)
  let c105 : Int := (s.fld (THM_TRIM_C105 i) : Nat)
  25 * 256 + roundDiv (((c : Int) - c25) * 80 * 256) (c105 - c25)

/-- A count whose reading lies in the span of R330, −60 °C to 160 °C. -/
def State.countInSpan (s : State) (i c : Nat) : Bool :=
  let r := s.countToReading i c
  s.fld (THM_TRIM_C25 i) ≠ s.fld (THM_TRIM_C105 i) && decide (-60 * 256 ≤ r) && decide (r ≤ 160 * 256)

/-- The level register of a zone (R335). -/
def levelReg (det : Bool) : Nat := if det then THM_LEVEL_DET else THM_LEVEL_LOGIC

/-- Level `k` of a zone in 1/256 °C: 0 WARN, 1 THROTTLE, 2 CRITICAL, 3 HARD (R327). -/
def State.level (s : State) (det : Bool) (k : Nat) : Int := s.fldI ⟨levelReg det, 8 * k + 7, 8 * k⟩ * 256

/-- The hysteresis in 1/256 °C (R327). -/
def State.hyst (s : State) : Int := ((s.fld THM_STEP_CFG_HYST * 64 : Nat) : Int)

/-- A thermometer is failed (R330). -/
def State.thermFailed (s : State) (i : Nat) : Bool := s.bit THM_FAILED i

/-- The neighbours named for a thermometer, with their offsets in 1/256 °C (R330, R335). -/
def State.neighbours (s : State) (i : Nat) : List (Nat × Int) :=
  [(s.fld (THM_NEIGH_N0 i), s.fldI (THM_NEIGH_OFS_OFS0 i)), (s.fld (THM_NEIGH_N1 i), s.fldI (THM_NEIGH_OFS_OFS1 i)),
   (s.fld (THM_NEIGH_N2 i), s.fldI (THM_NEIGH_OFS_OFS2 i))].filterMap
    (fun e => if e.1 < 28 then some (e.1, roundDiv (e.2 * 256) 10) else none)

/-- The greater of two terms that may not exist. -/
def maxOpt (a b : Option Int) : Option Int :=
  match a, b with
  | some x, some y => some (max x y)
  | some x, none => some x
  | none, y => y

/-- The substituted reading of a failed thermometer (R330). -/
def State.substituted (s : State) (i : Nat) : Int :=
  let last := (s.therm i).lastValid.map (· + 5 * 256)
  let nb := (s.neighbours i).foldl (fun acc e =>
    if s.thermFailed e.1 || !(s.therm e.1).started then acc else maxOpt acc (some ((s.therm e.1).reading + e.2))) none
  (maxOpt last nb).getD (s.level (inDetZone i) 1)

/-- The reading of a thermometer as THM_TEMP[i] reports it, in 1/256 °C, saturated (R326). -/
def State.reported (s : State) (i : Nat) : Int := s.fldI ⟨THM_TEMP i, 15, 0⟩

/-- Publish a reading in THM_TEMP[i], saturated to 16 bits (R326). -/
def State.publishTemp (s : State) (i : Nat) (r : Int) : State :=
  let sat := decide (r < -32768) || decide (32767 < r)
  let s := (s.setFldI (THM_TEMP_TEMP i) (satI 16 r)).setFlag (THM_TEMP_SAT i) sat
  let f := s.thermFailed i
  let s := (s.setFlag (THM_TEMP_FAILED i) f).setFlag (THM_TEMP_SUBST i) f
  if inDetZone i then s.wrN (DET_TEMP (i - 24)) (toBits 16 (satI 16 r)) else s

/-- A window's count of thermometer `i` becomes its reading (R326, R330). -/
def State.readTherm (s : State) (i c : Nat) : State :=
  let t := s.therm i
  let r := s.countToReading i c
  let same := if t.started && c = t.lastCount then t.same + 1 else 1
  let bad := !s.countInSpan i c || decide (64 ≤ same)
  let failed := s.thermFailed i
  -- a retest watches a failed thermometer for 64 windows
  let (retest, retestBad, passes) :=
    match t.retest with
    | some n =>
      let b := t.retestBad || bad
      if 64 ≤ n + 1 then (none, false, !b) else (some (n + 1), b, false)
    | none => (none, false, false)
  let first := t.started
  let t := { t with started := true, lastCount := c, same := same, retest := retest, retestBad := retestBad }
  if failed && passes then
    let s := s.setTherm i { t with reading := r, lastValid := some r, history := [r], deltaPrev := 0, delta := 0 }
    let s := s.setBit THM_FAILED i false
    let s := s.setFld THM_STATUS_F (s.fld THM_STATUS_F - 1)
    s.publishTemp i r
  else if failed then s.setTherm i t
  else if bad then
    let s := s.setBit THM_FAILED i true
    let s := s.setFld THM_STATUS_F (min 28 (s.fld THM_STATUS_F + 1))
    let w := i * 256 + 3
    let s := (s.wrN THM_EVT_INFO w).raiseInfo EV_THM_SENSOR_FAIL w
    -- the reading of this window stands; the substituted one follows from the next sample on
    let s := s.setTherm i { t with started := first, history := [], critRun := 0, hardRun := 0 }
    s.setFlag (THM_TEMP_FAILED i) true
  else
    let s := s.setTherm i { t with reading := r, lastValid := some r, history := (r :: t.history).take 4001,
                                    deltaPrev := t.delta, delta := if t.started && !t.history.isEmpty then r - t.reading else 0 }
    s.publishTemp i r

/-- A failed thermometer takes its substituted reading (R330). -/
def State.substTherm (s : State) (i : Nat) : State :=
  let sub := s.substituted i
  (s.setTherm i { s.therm i with reading := sub }).publishTemp i sub

/-- The rate of rise over one second (R326): none while no reading from 1 s earlier exists. -/
def Therm.rate (t : Therm) : Option Int :=
  match t.history[4000]? with
  | some old => some (t.reading - old)
  | none => none

/-- Rates (R326, R327): THM_RATE_NOW, THM_RATE_WARN at most once per second per thermometer, and the level step's rise by
RATE.THROTTLE at most once per second. -/
def State.rateCheck (s : State) (i : Nat) : State :=
  let t := s.therm i
  match (if s.thermFailed i then none else t.rate) with
  | none => s.wrN (THM_RATE_NOW i) 0
  | some r =>
    let s := s.wrN (THM_RATE_NOW i) (toBits 16 (satI 16 r))
    let sec := 256000000000
    let warn := decide (((s.fld THM_RATE_WARN * 64 : Nat) : Int) ≤ r)
    let due := match t.rateWarnAt with | some a => decide (a + sec ≤ s.now) | none => true
    let s := if warn && due then
        let w := i * 256 + 2
        let s := (s.wrN THM_EVT_INFO w).raiseInfo EV_THM_RATE_WARN w
        s.setTherm i { s.therm i with rateWarnAt := some s.now }
      else s
    let s := if warn then s.setFlag THM_STATUS_RATE_WARN true else s
    let due := match s.thm.rateStepAt with | some a => decide (a + sec ≤ s.now) | none => true
    if decide (((s.fld THM_RATE_THROTTLE * 64 : Nat) : Int) ≤ r) && due then
      let s := s.setFld THM_STATUS_L (min 8 (s.fld THM_STATUS_L + 1))
      { s with thm := { s.thm with rateStepAt := some s.now } }
    else s

/-- The thermometers a zone's CRITICAL and HARD decisions use, and by how much the levels are lowered (R331). -/
def State.stopTherms (s : State) (det : Bool) : List Nat × Int :=
  let all := zoneTherms det
  let valid := all.filter (fun i => !s.thermFailed i)
  if valid.length = all.length then (all, 0) else if valid.isEmpty then (all, 5 * 256) else (valid, 5 * 256)

/-- The hottest of some thermometers; among equal readings the lowest-numbered (R337). -/
def State.hottestOf (s : State) : List Nat → Option Nat
  | [] => none
  | i :: t =>
    match s.hottestOf t with
    | none => some i
    | some j => if (s.therm j).reading ≤ (s.therm i).reading then some i else some j

/-- The THM_STATUS bit of a zone's WARN (0), THROTTLE (1) or CRITICAL (2). -/
def zoneFld (det : Bool) (k : Nat) : Fld := ⟨THM_STATUS, 7 + k + (if det then 3 else 0), 7 + k + (if det then 3 else 0)⟩

/-- WARN and THROTTLE of a zone (R327): set from the sample that reaches the level, cleared below it minus HYST. -/
def State.zoneLevel (s : State) (det : Bool) (k : Nat) : State :=
  let lv := s.level det k
  let z := zoneTherms det
  let above := z.filter (fun i => (s.therm i).started && decide (lv ≤ (s.therm i).reading))
  if !above.isEmpty then
    if s.flag (zoneFld det k) then s
    else
      let s := s.setFlag (zoneFld det k) true
      if k = 0 then
        let w := ((s.hottestOf above).getD 0) * 256 + 1
        (s.wrN THM_EVT_INFO w).raiseInfo EV_THM_WARN w
      else s
  else if z.all (fun i => !(s.therm i).started || decide ((s.therm i).reading < lv - s.hyst)) then s.setFlag (zoneFld det k) false
  else s

/-- CRITICAL of a zone (R327, R331, R332): two consecutive samples; THM_CRITICAL starts the grace period. -/
def State.zoneCritical (s : State) (det : Bool) : State :=
  let (l, low) := s.stopTherms det
  let lv := s.level det 2 - low
  let s := (zoneTherms det).foldl (fun s i =>
    let t := s.therm i
    s.setTherm i { t with critRun := if l.contains i && t.started && decide (lv ≤ t.reading) then t.critRun + 1 else 0 }) s
  let above := l.filter (fun i => 2 ≤ (s.therm i).critRun)
  if !above.isEmpty then
    if s.flag (zoneFld det 2) then s
    else
      let was := s.critical
      let s := s.setFlag (zoneFld det 2) true
      let w := ((s.hottestOf above).getD 0) * 256 + 1
      let s := (s.wrN THM_EVT_INFO w).raiseInfo EV_THM_CRITICAL w
      if was then s else { s with thm := { s.thm with grace := some s.now } }
  else if l.all (fun i => !(s.therm i).started || decide ((s.therm i).reading < lv - s.hyst)) then s.setFlag (zoneFld det 2) false
  else s

/-- HARD of a zone stands (R327, R331, R333): two consecutive samples. -/
def State.zoneHard (s : State) (det : Bool) : State × Bool :=
  let (l, low) := s.stopTherms det
  let lv := s.level det 3 - low
  let s := (zoneTherms det).foldl (fun s i =>
    let t := s.therm i
    s.setTherm i { t with hardRun := if l.contains i && t.started && decide (lv ≤ t.reading) then t.hardRun + 1 else 0 }) s
  (s, l.any (fun i => 2 ≤ (s.therm i).hardRun))

/-- Any reading at or above its zone's THROTTLE; every reading below THROTTLE − HYST (R328). -/
def State.anyThrottle (s : State) : Bool :=
  (List.range 28).any (fun i => (s.therm i).started && decide (s.level (inDetZone i) 1 ≤ (s.therm i).reading))

/-- Every reading stands below THROTTLE − HYST (R328). -/
def State.allCool (s : State) : Bool :=
  (List.range 28).all (fun i => !(s.therm i).started || decide ((s.therm i).reading < s.level (inDetZone i) 1 - s.hyst))

/-- The step that L, F, FLOOR and CRITICAL give (R328). -/
def State.stepWanted (s : State) : Nat :=
  if s.critical then 8 else min 8 (max (s.fld THM_STATUS_L + s.fld THM_STATUS_F) (s.fld THM_STEP_CFG_FLOOR))

/-- The UP and DOWN intervals start and end with the readings (R328); the step decided follows. -/
def State.throttleState (s : State) : State :=
  let from_ := fun (c : Bool) (t : Option Nat) => if c then t.orElse (fun _ => some s.now) else none
  { s with thm := { s.thm with upFrom := from_ s.anyThrottle s.thm.upFrom, downFrom := from_ s.allCool s.thm.downFrom,
                               stepNext := s.stepWanted } }

/-- A new step takes effect at a line start (R328): THM_STATUS, SHT_STATUS and THM_THROTTLE. -/
def State.takeStep (s : State) : State :=
  if s.fld THM_STATUS_STEP = s.thm.stepNext then s
  else
    let s := s.setFld THM_STATUS_STEP s.thm.stepNext
    (s.setFld SHT_STATUS_THROTTLE s.thm.stepNext).raise EV_THM_THROTTLE

/-- The step in force (R328). -/
def State.step8 (s : State) : Nat := s.fld THM_STATUS_STEP

/-- TEMP_STEP (R346): a thermometer stepped by at least STEP °C and a named neighbour by at least half of it in the same or the
next window, in the same direction. Answers the thermometer and the neighbour. -/
def State.tempStep (s : State) : Option (Nat × Nat) :=
  let th : Int := ((s.fld SEC_TSTEP_STEP * 256 : Nat) : Int)
  (List.range 28).findSome? (fun i =>
    if s.thermFailed i then none else
    let t := s.therm i
    let confirm (d : Int) : Option Nat :=
      if decide (th ≤ (d.natAbs : Int)) && decide (0 < th) then
        ((s.neighbours i).find? (fun e =>
          let n := (s.therm e.1).delta
          !s.thermFailed e.1 && decide (th ≤ 2 * (n.natAbs : Int)) && (decide (0 < n) == decide (0 < d)))).map (·.1)
      else none
    match confirm t.delta with
    | some n => some (i, n)
    | none => (confirm t.deltaPrev).map (fun n => (i, n)))

/-- The hottest valid thermometer, for THM_STATUS.HOTTEST. -/
def State.showHottest (s : State) : State :=
  s.setFld THM_STATUS_HOTTEST ((s.hottestOf ((List.range 28).filter (fun i => (s.therm i).started && !s.thermFailed i))).getD 0)

/-- The readings, rates, levels and failures of one window (R326 to R332); answers whether HARD stands. -/
def State.thermWindow (s : State) (counts : List Nat) : State × Bool :=
  let s := s.setFlag THM_STATUS_RATE_WARN false
  let failed := (List.range 28).filter s.thermFailed
  let s := (List.range 28).foldl (fun s i => s.readTherm i (nth 0 counts i)) s
  -- the thermometers that failed before this window take their substituted readings, from what the others read now (R330)
  let s := (failed.filter s.thermFailed).foldl (fun s i => s.substTherm i) s
  let s := (List.range 28).foldl (fun s i => s.rateCheck i) s
  let s := ((s.zoneLevel false 0).zoneLevel true 0)
  let s := ((s.zoneLevel false 1).zoneLevel true 1)
  let s := ((s.zoneCritical false).zoneCritical true)
  let (s, h1) := s.zoneHard false
  let (s, h2) := s.zoneHard true
  ((s.throttleState).showHottest, h1 || h2)

/-- Without a line grid the step takes effect with the window that decides it (log entry 14). -/
def State.stepWithoutGrid (s : State) : State := if s.grid.running then s else s.takeStep

/-- The codes of R336 a write is refused with: 0 where it is legal. -/
def State.thmWriteCode (_s : State) (off : Nat) (v : Word) : Nat × Nat :=
  let b (k : Nat) : Int := signedN 8 ((v.toNat / 256 ^ k) % 256)
  let f (hi lo : Nat) : Nat := (⟨0, hi, lo⟩ : Fld).get v
  if off = THM_LEVEL_LOGIC || off = THM_LEVEL_DET then
    if !(decide (b 0 < b 1) && decide (b 1 < b 2) && decide (b 2 < b 3)) then (1, 0xFFFF)
    else if decide ((if off = THM_LEVEL_LOGIC then 125 else 70) < b 3) then (2, 0xFFFF) else (0, 0)
  else if off = THM_STEP_CFG then
    if f 23 16 = 0 || f 15 8 = 0 || 8 < f 3 0 then (3, 0xFFFF) else (0, 0)
  else if off = THM_CRIT_GRACE then
    if f 7 0 = 0 || 50 < f 7 0 then (4, 0xFFFF) else (0, 0)
  else if THM_NEIGH 0 ≤ off && off < THM_NEIGH 28 then
    let i := (off - THM_NEIGH 0) / 4
    let bad (n : Nat) : Bool := n ≠ 31 && (n = i || 28 ≤ n || inDetZone n ≠ inDetZone i)
    if bad (f 4 0) || bad (f 9 5) || bad (f 14 10) then (5, i) else (0, 0)
  else if off = THM_RATE then
    if f 15 8 = 0 || f 15 8 < f 7 0 then (6, 0xFFFF) else (0, 0)
  else (0, 0)

/-- THM_STOP_DONE or the end of the grace period (R332): EMT_ARM clears and a run still active ends as by ABORT. -/
def State.endGrace (s : State) : State :=
  let s : State := { s with thm := { s.thm with grace := none } }
  (s.setFlag EMT_ARM_ARM false).abortRun

/-- A write of THM_STOP_DONE (R332): no effect while no grace period runs. -/
def State.stopDone (s : State) : State := if s.thm.grace.isSome then s.endGrace else s

/-- A write of THM_RETEST (R330). -/
def State.retestWrite (s : State) (v : Word) : State :=
  (List.range 28).foldl (fun s i =>
    if v.toNat.testBit i && s.thermFailed i then
      s.setTherm i { s.therm i with retest := some 0, retestBad := false, same := 0 }
    else s) s

/-- A write of the THM block (R335, R336). -/
def State.thmWrite (s : State) (off : Nat) (v : Word) : State :=
  if off = THM_STOP_DONE then (if v.toNat % 2 = 1 then s.stopDone else s)
  else if off = THM_RETEST then s.retestWrite v
  else
    let (c, d) := s.thmWriteCode off v
    if c ≠ 0 then s.refuse THM_CFG_ERR EV_THM_CFG_ERROR c d
    else
      let s := s.plainWrite off off v
      if off = THM_STEP_CFG then ({ s with thm := { s.thm with stepNext := s.stepWanted } } : State).stepWithoutGrid else s

/-- The level step takes a value at the end of an interval (R328). -/
def State.takeLevel (s : State) (l : Nat) : State :=
  let s := s.setFld THM_STATUS_L l
  ({ s with thm := { s.thm with stepNext := s.stepWanted } } : State).stepWithoutGrid

/-- UP_INTERVAL_END (R328): UP × 10 ms after the interval began, a reading still at THROTTLE raises L by 1. -/
def execUpIntervalEnd (s : State) : Host.Outcome State Fault Refusal :=
  done (match s.thm.upFrom with
    | some t =>
      if s.pwr.thmInReset then s
      else
        let s := s.advance (t + 2560000000 * s.fld THM_STEP_CFG_UP)
        ({ s with thm := { s.thm with upFrom := some s.now } } : State).takeLevel (min 8 (s.fld THM_STATUS_L + 1))
    | none => s)

/-- DOWN_INTERVAL_END (R328): every reading stayed below THROTTLE − HYST for DOWN × 0.1 s, and L falls by 1. -/
def execDownIntervalEnd (s : State) : Host.Outcome State Fault Refusal :=
  done (match s.thm.downFrom with
    | some t =>
      if s.pwr.thmInReset then s
      else
        let s := s.advance (t + 25600000000 * s.fld THM_STEP_CFG_DOWN)
        ({ s with thm := { s.thm with downFrom := some s.now } } : State).takeLevel (s.fld THM_STATUS_L - 1)
    | none => s)

/-- GRACE_EXPIRY (R332): GRACE after the sample that started the grace period. -/
def execGraceExpiry (s : State) : Host.Outcome State Fault Refusal :=
  done (match s.thm.grace with
    | some t => (s.advance (t + 256000000 * s.fld THM_CRIT_GRACE_V)).endGrace.raise EV_THM_STOP_TIMEOUT
    | none => s)

/-- THM_STOP_DONE_WRITE (R332): the register is firmware-owned, so a port's write is judged by R361; Priard's is not. -/
def execThmStopDoneWrite (by_ : Option Port) (s : State) : Host.Outcome State Fault Refusal :=
  done (match by_ with
    | none => if s.fwRuns then s.stopDone else s
    | some p => s.hostGate p THM_STOP_DONE true State.stopDone)

/-- THM_RETEST_WRITE (R330). -/
def execThmRetestWrite (p : Port) (v : BitVec 28) (s : State) : Host.Outcome State Fault Refusal :=
  done (s.hostGate p THM_RETEST false (fun s => s.retestWrite (v.setWidth 32)))

end Sys2Proof.Machine
end

