-- ==== Sys2Proof/Machine/Detector.lean ====
section
/-! DEFINITION. The detector die (04_detector.md): enable masks, survey and bench, coincidence, ambient counts and depth,
bias, the detector link, and the cooler's status. -/

namespace Sys2Proof.Machine

/-- A channel's macropixel. -/
def State.chan (s : State) (n : Nat) : DetChan := tabGet DetChan.init s.det.chans n

/-- Set a channel's macropixel. -/
def State.setChan (s : State) (n : Nat) (c : DetChan) : State :=
  { s with det := { s.det with chans := tabSet DetChan.init s.det.chans n c } }

/-- The bits set in a mask, rising. -/
def maskBits (m : BitVec 48) : List Nat := (List.range 48).filter (fun i => m.getLsbD i)

/-- SPADs enabled in a mask. -/
def maskCount (m : BitVec 48) : Nat := (maskBits m).length

/-- The sent-off SPADs of a channel (R109). -/
def State.scream (s : State) (n : Nat) : BitVec 48 :=
  BitVec.ofNat 48 (s.rdN (DET_SCREAM_LO n) + s.fld (DET_SCREAM_HI_V n) * 2 ^ 32)

/-- Mark SPADs as sent off. -/
def State.setScream (s : State) (n : Nat) (m : BitVec 48) : State :=
  (s.wrN (DET_SCREAM_LO n) (m.toNat % 2 ^ 32)).wrN (DET_SCREAM_HI n) (m.toNat / 2 ^ 32)

/-- The bench of a channel: SPADs neither enabled nor sent off (R109). -/
def State.bench (s : State) (n : Nat) : List Nat := maskBits (~~~((s.chan n).mask) &&& ~~~(s.scream n))

/-- One bit of a SPAD mask. -/
def spadBit (i : Nat) : BitVec 48 := BitVec.ofNat 48 (2 ^ i)

/-- A mask without the SPADs sent off (R109): for each that was enabled the lowest bench SPAD is enabled in its place; answers how many found
no bench SPAD. -/
def sendOffMask (m off : BitVec 48) : BitVec 48 × Nat :=
  (maskBits (m &&& off)).foldl (fun (a : BitVec 48 × Nat) i =>
    let m := a.1 &&& ~~~(spadBit i)
    match maskBits (~~~m &&& ~~~off) with
    | b :: _ => (m ||| spadBit b, a.2)
    | [] => (m, a.2 + 1)) (m, 0)


/-- The mask accepted last for a channel: the host's, with the send-offs decided (R106, R109). -/
def State.acceptedMask (s : State) (n : Nat) : BitVec 48 :=
  let c := s.chan n
  (sendOffMask (match c.waiting.getLast? with | some (m, _) => m | none => c.mask) (s.scream n)).1

/-- The registers of a channel follow a send-off, from the accepted mask `old`; a write of DET_SPAD_EN_LO that is held stays (R106, R109). -/
def State.sendOffRegs (s : State) (n : Nat) (old : BitVec 48) : State :=
  let m := (s.acceptedMask n).toNat
  let s := if s.rdN (DET_SPAD_EN_LO n) = old.toNat % 2 ^ 32 then s.wrN (DET_SPAD_EN_LO n) (m % 2 ^ 32) else s
  s.wrN (DET_SPAD_EN_HI n) (m / 2 ^ 32)

/-- The minimum of R110 is checked at the change of the mask. `host`: a host mask ends BELOW_MIN when it restores the count. -/
def State.checkMin (s : State) (n : Nat) (host : Bool) : State :=
  let c := s.chan n
  if maskCount c.mask < s.fld DET_MIN_SPADS_V then
    if c.belowMin then s else (s.setChan n { c with belowMin := true }).raise EV_DET_BELOW_MIN
  else if host then s.setChan n { c with belowMin := false }
  else s

/-- Masks that are due at tick `t` take effect: host masks first, then the send-offs (R106, R109). -/
def State.applyMask (s : State) (n t : Nat) : State :=
  let c := s.chan n
  let due := c.waiting.filter (fun w => w.2 ≤ t)
  let repair := match c.repairFrom with | some r => decide (r ≤ t) | none => false
  if due.isEmpty && !repair then s
  else
    let c := match due.getLast? with
      | some (m, _) => { c with mask := m, waiting := c.waiting.filter (fun w => t < w.2) }
      | none => c
    let c := if repair then { c with repairFrom := none, pendingOff := 0 } else c
    let (m, empty) := sendOffMask c.mask (s.scream n &&& ~~~c.pendingOff)
    let s := s.setChan n { c with mask := m }
    let s := loop empty (fun _ s => s.raise EV_DET_BENCH_EMPTY) s
    s.checkMin n (!due.isEmpty)

/-- All masks that are due. -/
def State.applyMasks (s : State) (t : Nat) : State :=
  (s.det.chans.map (fun (e : Nat × DetChan) => e.1)).foldl (fun s n => s.applyMask n t) s

/-- 4 µs in ticks (R106). -/
def maskDelay : Nat := 1024000

/-- A mask is submitted, or refused (R106, R121). -/
def State.submitMask (s : State) (n : Nat) (hi : Word) : State :=
  let m : BitVec 48 := BitVec.ofNat 48 (s.rdN (DET_SPAD_EN_LO n) + (hi.toNat % 65536) * 2 ^ 32)
  if 40 < maskCount m then s.refuse DET_CFG_ERR EV_DET_CFG_ERROR 0x01 n
  else if m &&& s.scream n ≠ 0 then s.refuse DET_CFG_ERR EV_DET_CFG_ERROR 0x02 n
  else
    let s := s.wrN (DET_SPAD_EN_HI n) (hi.toNat % 65536)
    let c := s.chan n
    s.setChan n { c with waiting := c.waiting ++ [(m, s.now + maskDelay)] }

/-! ### Survey (R108, R109) -/

/-- A sweep starts; a request made while one runs is dropped (R108). -/
def State.startSweep (s : State) : State :=
  if s.flag DET_STATUS_SURVEY_BUSY then s
  else
    let s : State := { s with det := { s.det with rates := [], stepAt := s.now } }
    (s.setFlag DET_STATUS_SURVEY_BUSY true).setFld DET_STATUS_SURVEY_STEP 0

/-- The counts of one step, by macropixel, as rates (R108). -/
def State.surveyCounts (s : State) (counts : List Nat) : State :=
  let step := s.fld DET_STATUS_SURVEY_STEP
  let dwell : Rat := ((max 1 (s.fld DET_SURVEY_CFG_DWELL) : Nat) : Rat)
  let new := (List.range 192).foldl (fun acc n => tabSet 0 acc (48 * n + step) (((nth 0 counts n : Nat) : Rat) / dwell)) s.det.rates
  { s with det := { s.det with rates := new } }

/-- Insert in rising order. -/
def insertRat (x : Rat) : List Rat → List Rat
  | [] => [x]
  | a :: t => if a ≤ x then a :: insertRat x t else x :: a :: t

/-- The median; of an even number of rates the mean of the middle two (log entry 30). -/
def medianRat (l : List Rat) : Rat :=
  let o := l.foldl (fun acc x => insertRat x acc) []
  let k := o.length / 2
  if o.length % 2 = 1 then nth 0 o k else (nth 0 o k + nth 0 o (k - 1)) / 2

/-- The SPADs of a macropixel found screaming in the sweep (R109). -/
def State.screamersOf (s : State) (n : Nat) : BitVec 48 :=
  let rate := fun i => tabGet 0 s.det.rates (48 * n + i)
  let med := medianRat ((maskBits (s.chan n).mask).map rate)
  let lim := max (med * ((s.fld DET_SURVEY_CFG_RATIO : Nat) : Rat)) ((s.fld DET_SCREAM_FLOOR_V : Nat) : Rat)
  (List.range 48).foldl (fun m i => if lim < rate i then m ||| spadBit i else m) (0 : BitVec 48)

/-- The end of a sweep for one macropixel; answers whether a first-time screamer was found (R108, R109). -/
def State.sweepChannel (s : State) (n : Nat) : State × Bool :=
  let old := s.scream n
  let now := s.screamersOf n &&& ~~~old
  let c := s.chan n
  let off := now &&& c.screaming
  let first := now &&& ~~~c.screaming
  let s := s.setChan n { c with screaming := first, pendingOff := c.pendingOff ||| off,
                                repairFrom := if off = 0 then c.repairFrom else some (s.now + maskDelay) }
  let s := if off = 0 then s
    else
      let m := s.acceptedMask n
      (maskBits off).foldl (fun s _ => s.raise EV_DET_SPAD_SENT_OFF) ((s.setScream n (old ||| off)).sendOffRegs n m).calTouch
  (s, first ≠ 0)

/-- The end of a sweep (R109); another starts at once after one that found a first-time screamer (R108). -/
def State.endSweep (s : State) : State :=
  let (s, again) := (List.range 192).foldl (fun (a : State × Bool) n =>
    let (s, f) := a.1.sweepChannel n
    (s, a.2 || f)) (s, false)
  let s := (s.setFlag DET_STATUS_SURVEY_BUSY false).setFld DET_STATUS_SURVEY_STEP 0
  if again then s.startSweep else s

/-! ### Detections and stops (R111 to R113) -/

/-- What the detector runs on: the registers, or what it keeps while the detector link has failed (R117). -/
def State.detKept (s : State) : DetKept :=
  s.det.kept.getD ⟨s.flag DET_CTRL_ENABLE, s.fld DET_COINC_WIN_V, s.fld DET_QUENCH_HOLDOFF⟩

/-- Stamp word 1 with its DEPTH one greater, at most 7 (R112, R129). -/
def deeper (h : BitVec 16) : BitVec 16 := if (h.toNat / 2) % 8 < 7 then h + 2 else h

/-- A detection at tick `t` adds to the depth of the lane's stamps that lie at most `w` ticks before it (R112). -/
def Lane.deepen (x : Lane) (t w : Nat) : Lane :=
  let near := x.grow.filter (fun e => t ≤ e.1 + w)
  { x with out := near.foldl (fun o e => setNth o e.2 (deeper (nth 0 o e.2))) x.out, grow := near }

/-- The crossbar leads a channel's stop link to a lane (R123, R138): the lane serves it and its window, if open, is not idle. -/
def State.linked (s : State) (n : Nat) : Bool :=
  let l := s.laneOf n
  decide (l < 208) && s.laneRole l = 0 && !((s.lane l).openWin && (s.lane l).gen)

/-- A detection of an enabled SPAD at tick `t` (R111, R112, R113). DESIGN CHOICE (log entry 143): the SPAD that detects counts as dead at that
instant. -/
def State.detection (s : State) (n i t : Nat) : State :=
  let c := s.chan n
  let k := s.detKept
  if !k.enable || !c.mask.getLsbD i || c.dead.any (fun e => e.1 = i && t < e.2) then s
  else
    let w := k.window
    let amb := if s.grid.lineTimed then c.amb + 1 else c.amb
    let dead := (i, t + 256 * k.holdoff) :: c.dead.filter (fun e => t < e.2 && e.1 ≠ i)
    let recent := c.recent.filter (fun e => t ≤ e.2 + w) ++ [(i, t)]
    let s : State := { s with det := { s.det with stops := s.det.stops.map (fun (e : StopEdge) =>
                                                    if e.channel = n && t ≤ e.tick + w then { e with depth := min 7 (e.depth + 1) } else e) } }
    let l := s.laneOf n
    let s := if (s.lane l).grow.isEmpty then s else s.setLane l ((s.lane l).deepen t w)
    let fresh := recent.filter (fun e => t < e.2 + w && (match c.lastStop with | some p => decide (p < e.2) | none => true))
    let stop := c.depth ≤ fresh.length
    let s := s.setChan n { c with amb := amb, dead := dead, recent := recent, lastStop := if stop then some t else c.lastStop }
    if stop && s.linked n then
      let pile := decide (maskCount c.mask ≤ 2 * (dead.filter (fun e => c.mask.getLsbD e.1)).length)
      { s with det := { s.det with stops := s.det.stops ++ [StopEdge.mk n t (min 7 recent.length) pile] } }
    else s

/-- Depth adaptation of one channel at a frame start (R114). While the detector link has failed the detector keeps its depth (R117). -/
def State.adaptChannel (s : State) (n : Nat) : State :=
  let c := s.chan n
  let rate := s.fld (DET_RATE_V n)
  let overTh := (List.range 5).foldl (fun (m : BitVec 5) j =>
    let th := s.fld (DET_ADAPT_TH_V j)
    if th < rate then m ||| BitVec.ofNat 5 (2 ^ j)
    else if 8 * rate < 7 * th then m &&& ~~~(BitVec.ofNat 5 (2 ^ j))
    else m) c.overTh
  let count := ((List.range 5).filter (fun j => overTh.getLsbD j)).length
  let depth :=
    if s.det.firstFrame || !s.flag (DET_CH_CFG_ADAPT_EN n) then s.fld (DET_CH_CFG_DEPTH n)
    else max (s.fld DET_ADAPT_CFG_DMIN) (min (s.fld DET_ADAPT_CFG_DMAX) (1 + count))
  s.setChan n { c with overTh := overTh, depth := if s.det.kept.isSome then c.depth else depth }

/-- The colour offset in force from a frame start on (R105): 1/16 image line; an offset outside the register's span has no
stated value, so its low bits are a free value (log entry 31). -/
def State.colourLines (s : State) : State :=
  let v := roundDiv (s.fldI DET_COLOUR_OFS_V * (s.linesInForce : Int)) 1024
  if v < -32768 || 32767 < v then
    let (x, s) := s.fresh
    s.setFld DET_COLOUR_LINES_V x
  else s.setFldI DET_COLOUR_LINES_V v

/-- What a frame start does on the detector die (R105, R114). -/
def State.detFrameStart (s : State) : State :=
  let s := (List.range 192).foldl (fun s n => s.adaptChannel n) s
  let s : State := { s with det := { s.det with firstFrame := false, clampRaised := false } }
  s.colourLines

/-- The effective trim of a channel moves by one code at most; answers whether the clamp acts (R115). -/
def State.trimChannel (s : State) (n : Nat) : State × Bool :=
  let q := n / 48
  let dt := s.reported (24 + q) - s.fldI DET_TRIM_TREF_V
  let raw := (s.fld (DET_CH_CFG_TRIM n) : Int) + roundDiv (s.fldI DET_TRIM_TC_V * dt) 65536
  let want := (clampI raw 0 63).toNat
  let c := s.chan n
  let t := if c.trim < want then c.trim + 1 else if want < c.trim then c.trim - 1 else c.trim
  (if t = c.trim then s else s.setChan n { c with trim := t }, decide (raw ≠ clampI raw 0 63))

/-- What a line start does on the detector die (R106, R115). A change in flight waits while the detector link has failed
(R117). -/
def State.detLineStart (s : State) : State :=
  if !s.flag DET_STATUS_LINK_OK then s
  else
    let s := s.applyMasks s.now
    let (s, clamped) := (List.range 192).foldl (fun (a : State × Bool) n =>
      let (s, c) := a.1.trimChannel n
      (s, a.2 || c)) (s, false)
    if clamped && !s.det.clampRaised then
      ({ s with det := { s.det with clampRaised := true } } : State).raise EV_DET_TRIM_CLAMP
    else s

/-! ### Bias (R116) -/

/-- The bias lies within its window. -/
def State.biasOk (s : State) : Bool :=
  decide (s.fld DET_HV_WIN_MIN ≤ s.fld DET_HV_V) && decide (s.fld DET_HV_V ≤ s.fld DET_HV_WIN_MAX)

/-- A bias reading, in 10 mV (R116); DET_HV holds it. -/
def State.biasReading (s : State) (v : Nat) : State :=
  let s := s.setFld DET_HV_V (min 65535 v)
  let ok := s.biasOk
  let bad := if ok then 0 else s.det.hvBad + 1
  let s := ({ s with det := { s.det with hvBad := bad, hvSeen := true } } : State).setFlag DET_STATUS_HV_OK ok
  if 3 ≤ bad && !s.flag DET_STATUS_HV_FAULT then
    let s := (s.setFlag DET_CTRL_ENABLE false).setFlag DET_STATUS_HV_FAULT true
    -- every SPAD goes below breakdown whatever the detector link carries
    ({ s with det := { s.det with kept := s.det.kept.map (fun k => { k with enable := false }) } } : State).raise EV_DET_HV_FAULT
  else s

/-- No bias reading exists: ADC_CTRL.RUN is 0 (R116, R288). -/
def State.biasNone (s : State) : State :=
  ({ s with det := { s.det with hvBad := 0, hvSeen := false } } : State).setFlag DET_STATUS_HV_OK false

/-! ### Writes (R120, R121) -/

/-- The code a write of the DET block is refused with, and its DETAIL; 0 where it is accepted. -/
def State.detWriteCode (s : State) (off : Nat) (v : Word) : Nat × Nat :=
  let n := v.toNat
  if off = DET_CTRL then
    (if n.testBit 0 && !s.flag DET_CTRL_ENABLE && !s.flag DET_STATUS_HV_OK then 0x03 else 0, 0xFFFF)
  else if off = DET_COINC_WIN then (if n % 4096 < 256 || 2048 < n % 4096 then 0x04 else 0, 0xFFFF)
  else if off = DET_ADAPT_CFG then
    let lo := n % 8
    let hi := (n / 256) % 8
    (if lo < 1 || 6 < lo || hi < 1 || 6 < hi || hi < lo then 0x05 else 0, 0xFFFF)
  else if off = DET_QUENCH then (if n % 32 < 4 || 20 < n % 32 then 0x06 else 0, 0xFFFF)
  else if DET_ADAPT_TH 0 ≤ off && off ≤ DET_ADAPT_TH 4 then
    let th := fun j => if off = DET_ADAPT_TH j then n % 65536 else s.fld (DET_ADAPT_TH_V j)
    (if (List.range 4).all (fun j => th j < th (j + 1)) then 0 else 0x07, 0xFFFF)
  else if off = DET_SURVEY_CFG then (if (n / 256) % 256 = 0 || (n / 16) % 16 = 0 then 0x08 else 0, 0xFFFF)
  else if DET_CH_CFG 0 ≤ off && off ≤ DET_CH_CFG 191 && off % 16 = 8 then
    let d := (n / 65536) % 8
    (if d < 1 || 6 < d then 0x05 else 0, (off - DET_CH_CFG 0) / 16)
  else (0, 0)

/-- A write of DET_CTRL that was accepted (R114, R116). -/
def State.detCtrl (s : State) (v : Word) : State :=
  let was := s.flag DET_CTRL_ENABLE
  -- the survey's period counts from the write that sets SURVEY_AUTO (R108)
  let s : State := if v.toNat.testBit 1 && !s.flag DET_CTRL_SURVEY_AUTO then { s with det := { s.det with surveyAt := s.now } } else s
  let s := s.plainWrite DET_CTRL DET_CTRL v
  if v.toNat.testBit 0 && !was then
    ({ s with det := { s.det with firstFrame := true } } : State).setFlag DET_STATUS_HV_FAULT false
  else s

/-- A write of the DET block. -/
def State.detWrite (s : State) (off : Nat) (v : Word) : State :=
  let (code, detail) := s.detWriteCode off v
  if code ≠ 0 then s.refuse DET_CFG_ERR EV_DET_CFG_ERROR code detail
  else if off = DET_CTRL then s.detCtrl v
  else if off = DET_HV_WIN then
    let s := s.plainWrite off off v
    s.setFlag DET_STATUS_HV_OK (s.det.hvSeen && s.biasOk)
  else if off = DET_SURVEY_GO then (if v.toNat.testBit 0 then s.startSweep else s)
  else if DET_SPAD_EN_HI 0 ≤ off && off ≤ DET_SPAD_EN_HI 191 && off % 16 = 4 then s.submitMask ((off - DET_SPAD_EN_HI 0) / 16) v
  else s.plainWrite off off v

/-! ### What reads as it stands (R120) -/

/-- DET_CH_STATUS[n]: the values in force, 0 while ENABLE is 0. DESIGN CHOICE (log entry 143): a bench of more than 15 shows as 15. -/
def State.chStatus (s : State) (n : Nat) : Word :=
  if !s.flag DET_CTRL_ENABLE then 0
  else
    let c := s.chan n
    BitVec.ofNat 32 (c.trim * 2 ^ 26 + c.depth * 2 ^ 20 + maskCount c.mask * 256 + 16 * b2n c.belowMin + min 15 (s.bench n).length)

/-- DET_STATUS with its counts of macropixels. -/
def State.detStatus (s : State) : Word :=
  let count := fun (f : Nat → Bool) => ((List.range 192).filter f).length
  let w := DET_STATUS_BENCH_EMPTY.put (s.rd DET_STATUS) (count (fun n => (s.bench n).isEmpty))
  DET_STATUS_BELOW_MIN.put w (count (fun n => (s.chan n).belowMin))

/-! ### The meanings -/

/-- The CORE domain runs: its blocks act only then (R452). -/
def State.inCore (s : State) (f : State → State) : State := if s.pwr.coreInReset then s else f s

/-- SPAD_DETECTION (R111 to R113): SPAD `i` of macropixel `n` detects at tick `t`. -/
def execSpadDetection (n : Fin 192) (i : Fin 48) (t : Nat) (s : State) : Host.Outcome State Fault Refusal :=
  done (s.inCore (fun s =>
    let s := s.advance t
    s.detection n i s.now))

/-- SPAD_MASK_SUBMIT (R106): a write of DET_SPAD_EN_HI[n]. -/
def execSpadMaskSubmit (p : Port) (n : Fin 192) (hi : BitVec 16) (s : State) : Host.Outcome State Fault Refusal :=
  done (s.hostGate p (DET_SPAD_EN_HI n) false (fun s => s.detWrite (DET_SPAD_EN_HI n) (hi.setWidth 32)))

/-- SPAD_MASK_TIMER (R106): without a running line grid the masks due first take effect 4 µs after their write. -/
def execSpadMaskTimer (s : State) : Host.Outcome State Fault Refusal :=
  done (s.inCore (fun s =>
    if s.grid.running || !s.flag DET_STATUS_LINK_OK then s
    else
      let due := s.det.chans.flatMap (fun (e : Nat × DetChan) => e.2.waiting.map (fun w => w.2) ++ e.2.repairFrom.toList)
      match due with
      | [] => s
      | a :: r =>
        let t := r.foldl min a
        let s := s.advance t
        s.applyMasks s.now))

/-- SURVEY_GO (R108). -/
def execSurveyGo (p : Port) (s : State) : Host.Outcome State Fault Refusal :=
  done (s.hostGate p DET_SURVEY_GO false (fun s => s.detWrite DET_SURVEY_GO 1))

/-- SURVEY_PERIOD_EXPIRY (R108): PERIOD seconds after the expiry before; a PERIOD of 0 names no instant. -/
def execSurveyPeriodExpiry (s : State) : Host.Outcome State Fault Refusal :=
  done (s.inCore (fun s =>
    let p := s.fld DET_SURVEY_CFG_PERIOD
    if s.flag DET_CTRL_SURVEY_AUTO && p ≠ 0 then
      let t := s.det.surveyAt + 256000000000 * p
      let s := s.advance t
      ({ s with det := { s.det with surveyAt := t } } : State).startSweep
    else s))

/-- A step of the survey ends DWELL ms after it began (R108). -/
def State.surveyStep (s : State) (counts : List Nat) : State :=
  let s := s.advance (s.det.stepAt + 256000000 * s.fld DET_SURVEY_CFG_DWELL)
  ({ s with det := { s.det with stepAt := s.now } } : State).surveyCounts counts

/-- SURVEY_STEP_END (R108): the detections each macropixel counted on its SPAD in the step that ends; the last step ends with
the sweep. -/
def execSurveyStepEnd (counts : List Nat) (s : State) : Host.Outcome State Fault Refusal :=
  done (s.inCore (fun s =>
    let step := s.fld DET_STATUS_SURVEY_STEP
    if s.flag DET_STATUS_SURVEY_BUSY && step < 47 then (s.surveyStep counts).setFld DET_STATUS_SURVEY_STEP (step + 1) else s))

/-- SURVEY_SWEEP_END (R109): the 48th step ends. -/
def execSurveySweepEnd (counts : List Nat) (s : State) : Host.Outcome State Fault Refusal :=
  done (s.inCore (fun s =>
    if s.flag DET_STATUS_SURVEY_BUSY && s.fld DET_STATUS_SURVEY_STEP = 47 then (s.surveyStep counts).endSweep else s))

/-- DETECTOR_ENABLE (R116): a write of DET_CTRL. -/
def execDetectorEnable (p : Port) (v : BitVec 2) (s : State) : Host.Outcome State Fault Refusal :=
  done (s.hostGate p DET_CTRL false (fun s => s.detWrite DET_CTRL (v.setWidth 32)))

/-- DETECTOR_LINK_FRAME (R117): a frame with a bad CRC is replayed, up to 3 times. -/
def execDetectorLinkFrame (good : Bool) (s : State) : Host.Outcome State Fault Refusal :=
  done (s.inCore (fun s =>
    if good then ({ s with det := { s.det with replays := 0, kept := none } } : State).setFlag DET_STATUS_LINK_OK true
    else if s.det.replays < 3 then { s with det := { s.det with replays := s.det.replays + 1 } }
    else
      let k := some s.detKept
      (({ s with det := { s.det with replays := 0, kept := k } } : State).setFlag DET_STATUS_LINK_OK false).raise EV_DET_LINK_ERROR))

/-- COOLER_STATUS_TIMER (R119): the controlled temperature (`sat` false) or the output (true) has held for 1 s. -/
def execCoolerStatusTimer (sat : Bool) (s : State) : Host.Outcome State Fault Refusal :=
  done (s.inCore (fun s =>
    match if sat then s.det.satSince else s.det.atSpSince with
    | none => s
    | some t =>
      let s := s.advance (t + 256000000000)
      if sat then
        if s.flag DET_COOL_STATUS_SATURATED then s else (s.setFlag DET_COOL_STATUS_SATURATED true).raise EV_DET_COOL_SAT
      else s.setFlag DET_COOL_STATUS_AT_SP true))

end Sys2Proof.Machine
end

