-- ==== Sys2Proof/Machine/Trig.lean ====
section
/-! DEFINITION. Angles, by shift-and-add rotations in whole numbers: the angle of a vector (R249, R255) and the unit vector of an
angle (R54, R250, R251). Angles are counted in 2^-44 of π. -/

namespace Sys2Proof.Machine

/-- atan(2^-i) in units of 2^-44 π. -/
def atanTable : List Int :=
  [4398046511104, 2596318458814, 1371823369180, 696358962108, 349530776011, 174935780129, 87489235845, 43747287611,
   21873977562, 10937030502, 5468520466, 2734260885, 1367130524, 683565272, 341782637, 170891319] ++
  [85445659, 42722830, 21361415, 10680707, 5340354, 2670177, 1335088, 667544, 333772, 166886, 83443, 41722, 20861, 10430, 5215, 2608]

/-- Rotate (x, y), x > 0, towards the axis and add up the angles turned. -/
def rotate : List Int → Nat → Int → Int → Int → Int
  | [], _, _, _, z => z
  | a :: t, i, x, y, z =>
    let dx := x.fdiv (2 ^ i)
    let dy := y.fdiv (2 ^ i)
    if y < 0 then rotate t (i + 1) (x - dy) (y + dx) (z - a) else rotate t (i + 1) (x + dy) (y - dx) (z + a)

/-- atan2(y, x) / π as a Q1.15 number before the clamp, rounded to nearest. -/
def atan2Q15 (y x : Int) : Int :=
  let k := 2 ^ 40
  let z := if x < 0 then
      (if y < 0 then rotate atanTable 0 (-x * k) (-y * k) 0 - 2 ^ 44 else 2 ^ 44 - rotate atanTable 0 (-x * k) (y * k) 0)
    else rotate atanTable 0 (x * k) (y * k) 0
  roundDiv z (2 ^ 29)

/-- Turn (x, y) by the angle z, which lies within half a turn's half to either side. -/
def turnBy : List Int → Nat → Int → Int → Int → Int × Int
  | [], _, x, y, _ => (x, y)
  | a :: t, i, x, y, z =>
    let dx := x.fdiv (2 ^ i)
    let dy := y.fdiv (2 ^ i)
    if z < 0 then turnBy t (i + 1) (x + dy) (y - dx) (z + a) else turnBy t (i + 1) (x - dy) (y + dx) (z - a)

/-- Cosine and sine of n / 65,536 of a turn, as fractions of 2^15 rounded to nearest. -/
def cosSin (n : Nat) : Int × Int :=
  let q := n % 65536
  let z : Int := (q % 16384 : Nat) * 2 ^ 29
  -- the product of the cosines of the angles of the table, 2^-44
  let v := turnBy atanTable 0 10682906608694 0 z
  let c := roundDiv v.1 (2 ^ 29)
  let s := roundDiv v.2 (2 ^ 29)
  match q / 16384 with
  | 0 => (c, s)
  | 1 => (-s, c)
  | 2 => (-c, -s)
  | _ => (s, -c)

end Sys2Proof.Machine
end

