-- ==== Sys2Proof/Machine/FrontEnd.lean ====
section
/-! DEFINITION. The sensor front end and the filter chains (10_front_end.md): channels, polynomial, detectors, switches, the
interlock latch and the writes of the AFE block. Voltages are in nV, force currents in pA, charges in 1/4,096 of 250 pC (R257). -/

namespace Sys2Proof.Machine

/-- A channel. -/
def State.afeChan (s : State) (m : Nat) : AfeChan := tabGet AfeChan.init s.afe.chans m

/-- Set a channel. -/
def State.setAfe (s : State) (m : Nat) (c : AfeChan) : State :=
  { s with afe := { s.afe with chans := tabSet AfeChan.init s.afe.chans m c } }

/-- A chain. -/
def State.chain (s : State) (j : Nat) : FltChain := tabGet FltChain.init s.afe.chains j

/-- Set a chain. -/
def State.setChain (s : State) (j : Nat) (c : FltChain) : State :=
  { s with afe := { s.afe with chains := tabSet FltChain.init s.afe.chains j c } }

/-! ### Arithmetic -/

/-- Round a rational to the nearest integer, ties away from zero (R264). -/
def roundAway (x : Rat) : Int := if x < 0 then -((-x + 1 / 2).floor) else (x + 1 / 2).floor

/-- exp(-2^(i - 20)) in units of 2^-48. -/
def expTable : List Nat :=
  [281474708275328, 281474439840256, 281473902970880, 281472829235200, 281470681776128, 281466386907135, 281457797365749,
   281440619069355, 281406265621845, 281337571306155, 281200232977760, 280925757418325, 280377609773054] ++
  [279284521063697, 277111111677821, 272814902101423, 264421269977109, 248400795102225, 219212932277264, 170723203316912,
   103548857136061, 38093495697156, 5155394029647, 94424335376, 31675836, 4]

/-- exp(-n / 2^20) in units of 2^-48. -/
def expNeg (n : Nat) : Nat :=
  if 2 ^ 26 ≤ n then 0
  else ((List.range 26).foldl (fun acc i => if n.testBit i then acc * nth 0 expTable i / 2 ^ 48 else acc) (2 ^ 48))

/-! ### Detectors (R267) -/

/-- The three detectors of a chain restart. -/
def State.restartDetectors (s : State) (j : Nat) : State :=
  let s := ((s.wr (FLT_PEAK j) 0x80007FFF).wr (FLT_RMS j) 0).wr (FLT_ENV j) 0
  s.setChain j { s.chain j with rmsSum := 0, rmsCount := 0 }

/-- The detectors of a chain take a value. -/
def State.feedDetectors (s : State) (j : Nat) (v : Int) : State :=
  let s := s.setFldI (FLT_PEAK_MAX j) (max (s.fldI (FLT_PEAK_MAX j)) v)
  let s := s.setFldI (FLT_PEAK_MIN j) (min (s.fldI (FLT_PEAK_MIN j)) v)
  let e := s.fld (FLT_ENV_V j)
  let s := s.setFld (FLT_ENV_V j) (max v.natAbs (e - e / 2 ^ s.fld (FLT_DET_CFG_REL j)))
  let c := s.chain j
  let sum := c.rmsSum + v.natAbs * v.natAbs
  let n := c.rmsCount + 1
  let block := 2 ^ s.fld (FLT_DET_CFG_WIN_LOG2 j)
  if block ≤ n then
    -- root of the mean, to the nearest LSB
    (s.setFld (FLT_RMS_V j) ((Nat.sqrt (4 * sum / n) + 1) / 2)).setChain j { c with rmsSum := 0, rmsCount := 0 }
  else s.setChain j { c with rmsSum := sum, rmsCount := n }

/-! ### Linearisation (R264 to R266) -/

/-- The temperature of TSRC (R264), or its last untagged one (R265), where there has been one; none for TSRC 0. -/
def State.chainTemp (s : State) (src : Nat) : Option (Option Int) :=
  if 0x10 ≤ src && src ≤ 0x17 then
    let k := src - 0x10
    some (if s.fld ⟨FLT_VALUE k, 31, 27⟩ = 0 && s.bit AFE_STATUS k then some (s.fldI (FLT_VALUE_VALUE k)) else (s.chain k).lastT)
  else if 0x20 ≤ src && src ≤ 0x3B then some (some (s.reported (src - 0x20)))
  else none

/-- τ of a sample as a Q1.15 number. A difference beyond ±128 °C, and a tagged temperature before the first untagged one, have no stated τ: a
free value (log entry 50). -/
def State.chainTau (s : State) (j : Nat) : Int × State :=
  let free := let (x, s) := s.fresh; (signedN 16 (x % 65536), s)
  match s.chainTemp (s.fldF (FLT_POLY_CFG_TSRC j)) with
  | none => (0, s)
  | some none => free
  | some (some t) =>
    let d := t - s.fldI (FLT_TREF_V j)
    if d < -32768 || 32767 < d then free else (d, s)

/-- The polynomial in force of a chain, clamped to 16 bits; whether the clamp acts (R264). -/
def State.polyValue (s : State) (j : Nat) (x tau : Int) : Int × Bool :=
  let sum : Int := (List.range (s.fldF (FLT_POLY_CFG_DEG_X j) + 1)).foldl (fun a i =>
    (List.range (s.fldF (FLT_POLY_CFG_DEG_T j) + 1)).foldl (fun a t =>
      a + s.fldFI (FLT_COEF_V j (4 * i + t)) * x ^ i * tau ^ t * 2 ^ (15 * (5 - i) + 15 * (3 - t))) a) 0
  let v := roundAway ((sum : Rat) / ((2 ^ (120 + s.fldF (FLT_POLY_CFG_SCALE j)) : Int) : Rat))
  let c := clampI v (-32768) 32767
  (c, decide (c ≠ v))

/-! ### Threshold switches (R268 to R271) -/

/-- The tags of a sample (R261). -/
structure SampleTags where
  settling : Bool
  sat : Bool
  suspect : Bool
  notReady : Bool
  fault : Bool
  deriving DecidableEq, Repr

/-- A switch is on. -/
def State.swOn (s : State) (j k : Nat) : Bool := s.bit (FLT_SW_STATE j) k

/-- A switch changes its state, along its routes (R270, R271). -/
def State.swChange (s : State) (j k : Nat) (on : Bool) : State :=
  let s := s.setBit (FLT_SW_STATE j) k on
  let s := if s.flag (FLT_SW_CFG_ROUTE_EVT j k) then
      (s.wrN FLT_EVT_INFO (256 * j + k)).raiseInfo EV_FLT_SWITCH (256 * j + k) else s
  if on && s.flag (FLT_SW_CFG_ROUTE_ILK j k) then
    let s := if s.flag FLT_TRIP_LATCHED then s
      else ((s.setFlag FLT_TRIP_LATCHED true).setFld FLT_TRIP_CHAIN j).setFld FLT_TRIP_SWITCH k
    s.raise EV_FLT_INTERLOCK_TRIP
  else s

/-- A sample calls, or does not call, for a change of a switch (R268: DEBOUNCE + 1 consecutive samples). -/
def State.swCall (s : State) (j k : Nat) (call : Bool) : State :=
  let c := s.chain j
  let n := if call then tabGet 0 c.calls k + 1 else 0
  if call && s.fld (FLT_SW_CFG_DEBOUNCE j k) < n then
    (s.setChain j { c with calls := tabSet 0 c.calls k 0 }).swChange j k (!s.swOn j k)
  else s.setChain j { c with calls := tabSet 0 c.calls k n }

/-- Whether an input calls for the other state (R268). -/
def State.swWants (s : State) (j k : Nat) (v : Int) : Bool :=
  let level := s.fldI (FLT_SW_LEVEL_LEVEL j k)
  let hyst : Int := (s.fld (FLT_SW_LEVEL_HYST j k) : Nat)
  if s.flag (FLT_SW_CFG_DIR j k) then
    if s.swOn j k then decide (level + hyst < v) else decide (v ≤ level)
  else
    if s.swOn j k then decide (v < level - hyst) else decide (level ≤ v)

/-- The input a switch compares (R268). -/
def State.swInput (s : State) (j k : Nat) (v : Int) : Int :=
  match s.fld (FLT_SW_CFG_INPUT j k) with
  | 0 => v
  | 1 => s.fldI (FLT_PEAK_MAX j)
  | 2 => (s.fld (FLT_RMS_V j) : Nat)
  | _ => (s.fld (FLT_ENV_V j) : Nat)

/-- One switch at one output sample (R268, R269). `near` gives, for a chain with two readings, the value of each. The row of
SAT stands before the row of FAULT where a sample carries both (log entry 51). -/
def State.evalSwitch (s : State) (j k : Nat) (v : Int) (near : Option (Int × Int)) (t : SampleTags) : State :=
  if !s.flag (FLT_SW_CFG_EN j k) then s
  else
    let ilk := s.flag (FLT_SW_CFG_ROUTE_ILK j k)
    let on := s.swOn j k
    let untagged := !(t.settling || t.sat || t.suspect || t.notReady || t.fault)
    let s := if untagged then s.setBit (FLT_SW_STATE j) (4 + k) false else s
    let s := if t.suspect && !ilk then s.setBit (FLT_SW_STATE j) (4 + k) true else s
    if t.settling || t.notReady then s
    else if t.fault && ilk then s.swCall j k (!on)
    else if t.suspect then
      if ilk then
        match near with
        | some (a, b) => s.swCall j k (s.swWants j k (if s.flag (FLT_SW_CFG_DIR j k) then min a b else max a b))
        | none => s.swCall j k (!on)
      else s
    else if t.sat then s.swCall j k (!on && s.swWants j k (s.swInput j k v))
    else if t.fault then s
    else s.swCall j k (s.swWants j k (s.swInput j k v))

/-- Every interlock switch is off (R271). -/
def State.ilkSwitchesOff (s : State) : Bool :=
  (List.range 12).all (fun j => (List.range 4).all (fun k =>
    !(s.flag (FLT_SW_CFG_EN j k) && s.flag (FLT_SW_CFG_ROUTE_ILK j k) && s.swOn j k)))

/-- Whether the switches drive a GPIO pin, and its level (R270); a pin of a control slot with PLANT 5 follows that slot. -/
def State.gpioSwitch (s : State) (pin : Nat) : Option Bool :=
  let slotPin := (List.range 8).any (fun n => s.fld (CTL_SLOT_CFG_PLANT n) = 5 && s.fld (CTL_SLOT_CFG_GPIO_PIN n) = pin)
  let routed := (List.range 48).filter (fun i =>
    s.flag (FLT_SW_CFG_ROUTE_GPIO (i / 4) (i % 4)) && s.fld (FLT_SW_CFG_GPIO_PIN (i / 4) (i % 4)) = pin)
  if slotPin || routed.isEmpty then none
  else some (routed.any (fun i => s.swOn (i / 4) (i % 4) != s.flag (FLT_SW_CFG_GPIO_POL (i / 4) (i % 4))))

/-! ### An output sample of a chain -/

/-- A chain takes the raw value x with its tags (R261, R264 to R269); `pair` holds the raw values of two readings (R272). -/
def State.chainSample (s : State) (j : Nat) (x : Int) (pair : Option (Int × Int)) (t : SampleTags) : State :=
  let c := s.chain j
  let s := if c.polyDue then
      (s.latch (FLT_POLY_CFG j) (FLT_POLY_CFG j + 4) s.regs |>.latch (FLT_COEF j 0) (FLT_COEF j 24) s.regs).setChain j
        { c with polyDue := false }
    else s
  let (tau, s) := s.chainTau j
  let (v, clip) := s.polyValue j x tau
  let near := pair.map (fun p => ((s.polyValue j p.1 tau).1, (s.polyValue j p.2 tau).1))
  let w := toBits 16 v + 2 ^ 26 * b2n clip + 2 ^ 27 * b2n t.fault + 2 ^ 28 * b2n t.notReady + 2 ^ 29 * b2n t.suspect
    + 2 ^ 30 * b2n t.sat + 2 ^ 31 * b2n t.settling
  let s := (s.wrN (FLT_VALUE j) w).wrN (FLT_COUNT j) (s.rdN (FLT_COUNT j) + 1)
  let s := if t.settling || t.sat || t.suspect || t.notReady || t.fault then s else s.setChain j { s.chain j with lastT := some v }
  let s := if t.settling || t.notReady || t.suspect then s else s.feedDetectors j v
  loop 4 (fun k s => s.evalSwitch j k v near t) s

/-! ### Channels (R249 to R263) -/

/-- The group delay of a preset twice, in ticks of 1/256 ns (R259, R262). -/
def settleTicks (preset : Nat) : Nat :=
  match preset with
  | 0 => 56320000
  | 1 => 215040000
  | 2 => 870400000
  | _ => 3584000000

/-- Bandwidth of a preset in Hz (R259). -/
def presetBandwidth (preset : Nat) : Nat :=
  match preset with
  | 0 => 10000
  | 1 => 2500
  | 2 => 625
  | _ => 150

/-- Ticks between the output samples of a preset (R259). -/
def outputTicks (preset : Nat) : Nat := 6400000 * 4 ^ preset

/-- The first output instant after now (R259). The output instants are the multiples of the output period (DESIGN CHOICE, log entry 155), which
lie on the 100 MHz grid. -/
def State.nextOutput (s : State) (preset : Nat) : Nat := (s.now / outputTicks preset + 1) * outputTicks preset

/-- The mode in force of a channel. -/
def State.afeMode (s : State) (m : Nat) : Nat := s.fld (AFE_MODE_MODE m)

/-- A channel is enabled and not off: it delivers samples (R249, R263). -/
def State.afeRuns (s : State) (m : Nat) : Bool := s.bit AFE_CTRL m && s.afeMode m ≠ 0

/-- A channel drives its excitation (R250). -/
def State.excited (s : State) (m : Nat) : Bool := s.afeRuns m && decide (s.afeMode m ≤ 3)

/-- The phase at a tick of a sine of `freq` in 10 Hz, `off` in 1/65,536 cycle ahead of the common time base, which begins with the ticks
(R250). -/
def cyclePhase (freq off t : Nat) : Nat := (t * freq * 65536 / 25600000000 + off) % 65536

/-- The voltage between the excitation lands in nV (R250): the cosine of the phase, so that a sensor without phase shift gives no quadrature
component (R251; DESIGN CHOICE, log entry 154). -/
def State.excitation (s : State) (m : Nat) : Int :=
  if s.excited m then
    roundDiv ((s.fldF (AFE_EXC_AMPL m) : Nat) * 1000000
      * (cosSin (cyclePhase (s.fldF (AFE_EXC_FREQ m)) (s.fldF (AFE_PHASE_EXC_PHASE m)) s.now)).1) 32768
  else 0

/-- The next positive-going zero crossing of the excitation in force (R252), three quarters into a cycle of the cosine, on the tick it is
reached. -/
def State.zeroCrossing (s : State) (m : Nat) : Nat :=
  let freq := max 1 (s.fldF (AFE_EXC_FREQ m))
  let off := s.fldF (AFE_PHASE_EXC_PHASE m)
  let cycle := 25600000000 * 65536
  let first := (49152 + 65536 - off) % 65536 * 25600000000
  let n := if first < s.now * freq * 65536 then (s.now * freq * 65536 - first + cycle - 1) / cycle else 0
  (first + n * cycle + freq * 65536 - 1) / (freq * 65536)

/-- The signal and the quadrature component of a sense input (R251): what the chain gives for its products with cosine and sine of the common
time base at FREQ, at the phase EXC_PHASE + DEMOD_PHASE. -/
def demodulate (phase : Nat) (p : Int × Int) : Int × Int :=
  let (c, q) := cosSin phase
  (roundDiv (p.1 * c - p.2 * q) 32768, roundDiv (p.2 * c + p.1 * q) 32768)

/-- The force current of an RTD range in pA (R254). -/
def forceCurrent (range : Nat) : Nat := 1000000000 / 4 ^ range

/-- A settling interval begins at tick `t` (R262). -/
def State.beginSettling (s : State) (m t : Nat) : State :=
  let mode := s.afeMode m
  let period := if 1 ≤ mode && mode ≤ 3 then 25600000000 / max 1 (s.fldF (AFE_EXC_FREQ m)) else 0
  let s := s.setAfe m { s.afeChan m with settleDue := false, settleUntil := some (t + settleTicks (s.fld (AFE_MODE_PRESET m)) + period) }
  s.setBit AFE_STATUS (16 + m) true

/-- A settling interval ends (R262). -/
def State.endSettling (s : State) (m : Nat) : State :=
  let s := s.setAfe m { s.afeChan m with settleUntil := none }
  (s.setBit AFE_STATUS (16 + m) false).restartDetectors m

/-- AFE_EXC and AFE_PHASE take effect (R252). -/
def State.takeExcitation (s : State) (m : Nat) : State :=
  (s.latch (AFE_EXC m) (AFE_PHASE m + 4) s.regs).setAfe m { s.afeChan m with excDue := none }

/-- Show a channel's faults; a fault that rises raises AFE_SENSOR_FAULT (R276). -/
def State.showFaults (s : State) (m : Nat) (opened low overR : Bool) : State :=
  let rose := (opened && !s.flag (AFE_FAULT_OPEN m)) || (low && !s.flag (AFE_FAULT_SIG_LOW m))
    || (overR && !s.flag (AFE_FAULT_OVERRANGE m))
  let s := s.wrN (AFE_FAULT m) (4 * b2n opened + 2 * b2n low + b2n overR)
  (s.setBit AFE_STATUS (8 + m) (opened || low || overR)).raiseIf rose EV_AFE_SENSOR_FAULT

/-- Full-scale charge of a range in 1/4,096 of 250 pC (R257). -/
def chargeFull (range : Nat) : Nat := 4096 * 4 ^ range

/-- The carried offset at tick `t`, in 2^-16 of the charge unit: it decays with DECAY × 0.1 s (R257). -/
def State.carriedAt (s : State) (m t : Nat) : Int :=
  let c := s.afeChan m
  let n := (t - c.carriedAt) * 2 ^ 20 / (25600000000 * max 1 (s.fld (AFE_CHG_DECAY m)))
  (c.carried * (expNeg n : Nat)).fdiv (2 ^ 48)

/-- The range of a charge amplifier in force (R258). -/
def State.chargeRange (s : State) (m : Nat) : Nat := s.fldF (AFE_MODE_RANGE m)

/-- A reset of the charge amplifier at tick `t` with the integrator at `q`: the value before it goes into the carried offset and
a pending range is applied (R257, R258). -/
def State.chargeReset (s : State) (m t : Nat) (q : Int) : State :=
  let s := s.setAfe m { s.afeChan m with carried := s.carriedAt m t + q * 65536, carriedAt := t }
  (s.latch (AFE_MODE m) (AFE_MODE m + 4) s.regs).setFlag (AFE_MODE_RANGE_PENDING m) false

/-- What a channel's lands give at an output instant, filtered by the chain (R249): in-phase amplitudes A and B and the sine
product of A in nV (modes 1 to 3); V_A, V_B and the voltage across the force lands in nV with the current in pA (modes 4 to 6);
the integrator in `a` (mode 7). -/
structure AfeInput where
  a : Int
  b : Int
  q : Int
  force : Int
  i : Int
  deriving DecidableEq, Repr

/-- A ratio as a Q1.15 number, rounded to nearest. -/
def ratioQ15 (n d : Int) : Int := roundAway (((n * 32768 : Int) : Rat) / (d : Rat))

/-- R_FS of an RTD range in Ω (R254). -/
def rtdFull (range : Nat) : Int := 250 * 4 ^ range

/-- The raw value before the clamp; none where the spec states none (0 / 0, a force current of 0). -/
def State.rawX (s : State) (m : Nat) (v : AfeInput) (t : Nat) : Option Int :=
  let fs := rtdFull (s.fld (AFE_MODE_RANGE m))
  match s.afeMode m with
  | 1 => if v.a = 0 && v.b = 0 then none else some (atan2Q15 v.a v.b)
  | 2 => if v.a + v.b = 0 then none else some (ratioQ15 (v.a - v.b) (v.a + v.b))
  | 3 => some (ratioQ15 v.a 2500000000)
  | 4 => if v.i = 0 then none
         else some (ratioQ15 (v.a * 64000 - (s.fld (AFE_LEAD_SET m) : Nat) * v.i) (v.i * 64 * fs))
  | 5 => if v.i = 0 then none else some (ratioQ15 ((v.a - v.b) * 1000) (v.i * fs))
  | 6 => if v.i = 0 then none else some (ratioQ15 (v.a * 1000) (v.i * fs))
  | _ =>
    let range := ((s.afeChan m).satRange).getD (s.chargeRange m)
    some (ratioQ15 (v.a * 65536 + s.carriedAt m t) (65536 * (chargeFull range : Nat)))

/-- Lead resistance in 1/64 Ω (R255); none where the mode reports none, or for a current of 0. -/
def State.leadMeas (s : State) (m : Nat) (v : AfeInput) : Option Int :=
  if v.i = 0 then none
  else match s.afeMode m with
    | 5 => some (roundAway (((v.b * 64000 : Int) : Rat) / (v.i : Rat)))
    | 6 => some (roundAway ((((v.force - v.a) * 32000 : Int) : Rat) / (v.i : Rat)))
    | _ => none

/-- Show MEAS: a value outside the field has no stated reading, a free value (log entry 52). -/
def State.showLead (s : State) (m : Nat) (r : Option Int) : State :=
  match r with
  | none => s
  | some x =>
    if x < 0 || 65535 < x then
      let (y, s) := s.fresh
      s.setFld (AFE_LEAD_MEAS m) y
    else s.setFld (AFE_LEAD_MEAS m) x.toNat

/-- The condition of OPEN at a sample (R255, R256). -/
def State.openNow (s : State) (m : Nat) (v : AfeInput) : Bool :=
  let mode := s.afeMode m
  if 4 ≤ mode && mode ≤ 6 then
    decide (2400000000 < v.force) || decide (2500000000 ≤ v.a.natAbs)
      || (mode = 5 && decide (rtdFull (s.fld (AFE_MODE_RANGE m)) * v.i < 8000 * v.b))
  else false

/-- The signal lies below SIG_LOW (R253). -/
def State.signalLow (s : State) (m : Nat) (v : AfeInput) : Bool :=
  let lim : Int := s.fldI (AFE_LIM_SIG_LOW m) * 2500000000
  match s.afeMode m with
  | 1 => decide (0 < lim) && decide ((v.a * v.a + v.b * v.b) * 32768 * 32768 < lim * lim)
  | 2 => decide ((v.a + v.b) * 32768 < lim)
  | _ => false

/-- An output sample of a channel at tick `t` (R249 to R263). -/
def State.afeSample (s : State) (m t : Nat) (v : AfeInput) : State :=
  let s := match (s.afeChan m).settleUntil with
    | some u => if u ≤ t then s.endSettling m else s
    | none => s
  let s := if (s.afeChan m).settleDue then s.beginSettling m t else s
  let meas := s.leadMeas m v
  let s := s.showLead m meas
  let (raw, s) := match s.rawX m v t with
    | some x => (x, s)
    | none => let (y, s) := s.fresh; (signedN 16 (y % 65536), s)
  let x := clampI raw (-32768) 32767
  let overR := decide (x ≠ raw)
  let c := s.afeChan m
  let isOpen := s.openNow m v
  let isLow := s.signalLow m v
  let good := if isOpen then 0 else min 16 (c.goodRun + 1)
  let low := if isLow then min 16 (c.lowRun + 1) else 0
  let ok := if isLow then 0 else min 16 (c.okRun + 1)
  let opened := isOpen || (s.flag (AFE_FAULT_OPEN m) && good < 16)
  let lowNow := low = 16 || (s.flag (AFE_FAULT_SIG_LOW m) && ok < 16)
  let sat := c.satRange.isSome
  let s := s.setAfe m { c with goodRun := good, lowRun := low, okRun := ok, satRange := none }
  let quad := if 1 ≤ s.afeMode m && s.afeMode m ≤ 3 then clampI (ratioQ15 v.q 2500000000) (-32768) 32767 else 0
  let s := s.wrN (AFE_RAW m) (toBits 16 quad * 65536 + toBits 16 x)
  let s := s.showFaults m opened lowNow overR
  s.chainSample m x none ⟨c.settleUntil.isSome, sat, false, false, opened || lowNow || overR⟩

/-! ### Writes (R275) -/

/-- A channel's settings are legal with MODE, PRESET and FREQ, AMPL as given: 0, 0x02 or 0x03. -/
def excitationCode (mode preset freq ampl : Nat) : Nat :=
  if 1 ≤ mode && mode ≤ 3 then
    if freq < 200 || 4000 < freq || ampl < 100 || 4000 < ampl then 0x02
    else if 10 * freq < 4 * presetBandwidth preset then 0x03
    else 0
  else 0

/-- The chain of a channel is named by the TSRC of another chain with a switch enabled (R275, 0x01). -/
def State.tsrcBusy (s : State) (m : Nat) : Bool :=
  (List.range 12).any (fun j => j ≠ m && s.fldF (FLT_POLY_CFG_TSRC j) = 0x10 + m
    && (List.range 4).any (fun k => s.flag (FLT_SW_CFG_EN j k)))

/-- TSRC in the encoding of R61, not naming its own chain (R264, R275). -/
def tsrcLegal (j src : Nat) : Bool :=
  (src = 0 || (0x10 ≤ src && src ≤ 0x17) || (0x20 ≤ src && src ≤ 0x3B)) && src ≠ 0x10 + j

/-- The code and DETAIL of a refused write of the AFE block (R275); code 0 where it is taken. -/
def State.afeWriteCode (s : State) (o : Nat) (v : Word) : Nat × Nat :=
  let n := v.toNat
  if 0x100 ≤ o && o < 0x300 then
    let m := (o - 0x100) / 64
    let r := (o - 0x100) % 64
    if r = 0 then
      let mode := n % 16
      (if 8 ≤ mode || (mode ≠ s.afeMode m && s.tsrcBusy m) then 0x01
       else excitationCode mode ((n / 4096) % 4) (s.fldF (AFE_EXC_FREQ m)) (s.fldF (AFE_EXC_AMPL m)), m)
    else if r = 4 then
      (excitationCode (s.afeMode m) (s.fld (AFE_MODE_PRESET m)) ((n / 65536) % 4096) (n % 4096), m)
    else if r = 12 then
      let ms := (n / 65536) % 16384
      (if ms < 1 || 10000 < ms || n % 256 = 0 then 0x04 else 0, m)
    else (0, m)
  else if 0x1000 ≤ o && o < 0x1C00 then
    let j := (o - 0x1000) / 256
    let r := (o - 0x1000) % 256
    if r = 0 then (if j < 8 then 0x06 else 0, j)
    else if r = 4 then
      (if 5 < (n / 256) % 8 || 3 < (n / 4096) % 8 || 24 < (n / 65536) % 32 || !tsrcLegal j (n % 256) then 0x05 else 0, j)
    else if r = 0xA4 then (if (n / 65536) % 16 = 0 || n % 16 < 4 then 0x06 else 0, j)
    else (0, j)
  else (0, 0)

/-- The value registers of a channel that delivers no samples (R263). -/
def State.afeStop (s : State) (m : Nat) : State :=
  let s := s.setAfe m { s.afeChan m with settleUntil := none, settleDue := false, excDue := none, satRange := none }
  ((s.setBit AFE_STATUS (16 + m) false).setBit AFE_STATUS m false).wr (FLT_VALUE m) 0x80000000

/-- A write of AFE_CTRL (R262, R263): an enabled channel starts from nothing and settles. -/
def State.afeCtrl (s : State) (v : Word) : State :=
  let old := s.rd AFE_CTRL
  let s := s.plainWrite AFE_CTRL AFE_CTRL v
  loop 8 (fun m s =>
    let was := old.toNat.testBit m
    let now := v.toNat.testBit m
    if now && !was then
      let s := (s.wr (FLT_COUNT m) 0).setAfe m { AfeChan.init with carriedAt := s.now, resetFrom := s.now,
                                                                    nextOut := s.nextOutput (s.fld (AFE_MODE_PRESET m)) }
      let s := (s.takeExcitation m).latch (AFE_MODE m) (AFE_MODE m + 4) s.regs
      let s := s.setFlag (AFE_MODE_RANGE_PENDING m) false
      if s.afeMode m = 0 then s else (s.beginSettling m s.now).setBit AFE_STATUS m true
    else if was && !now then s.afeStop m
    else s) s

/-- A write of AFE_MODE[m] that was accepted (R258, R262). -/
def State.afeModeWrite (s : State) (m : Nat) (v : Word) : State :=
  let mode := s.afeMode m
  let preset := s.fld (AFE_MODE_PRESET m)
  let range := s.fld (AFE_MODE_RANGE m)
  let ran := s.excited m
  let s := s.plainWrite (AFE_MODE m) (AFE_MODE m) v
  let mode' := s.afeMode m
  let latchMode := fun (s : State) => s.latch (AFE_MODE m) (AFE_MODE m + 4) s.regs
  if !s.bit AFE_CTRL m then (latchMode s).setFlag (AFE_MODE_RANGE_PENDING m) false
  else if mode' = 0 then ((latchMode s).setFlag (AFE_MODE_RANGE_PENDING m) false).afeStop m
  else if mode' = 7 && mode = 7 then
    let s := if preset = s.fld (AFE_MODE_PRESET m) then s
      else s.setAfe m { s.afeChan m with settleDue := true, nextOut := s.nextOutput (s.fld (AFE_MODE_PRESET m)) }
    s.setFlag (AFE_MODE_RANGE_PENDING m) (decide (s.fld (AFE_MODE_RANGE m) ≠ s.chargeRange m))
  else
    let s := ((latchMode s).setFlag (AFE_MODE_RANGE_PENDING m) false).setBit AFE_STATUS m true
    let s := if mode' = 7 then s.setAfe m { s.afeChan m with carried := 0, carriedAt := s.now, satRange := none, resetFrom := s.now } else s
    let s := if mode = 0 || preset ≠ s.fld (AFE_MODE_PRESET m) then
        s.setAfe m { s.afeChan m with nextOut := s.nextOutput (s.fld (AFE_MODE_PRESET m)) } else s
    let s := if ran then s else s.takeExcitation m
    let rtd := decide (4 ≤ mode') && decide (mode' ≤ 6)
    if mode' ≠ mode || preset ≠ s.fld (AFE_MODE_PRESET m) || (rtd && range ≠ s.fld (AFE_MODE_RANGE m)) then
      s.setAfe m { s.afeChan m with settleDue := true }
    else s

/-- A write of AFE_EXC[m] or AFE_PHASE[m] that was accepted (R252). -/
def State.afeExcWrite (s : State) (m off : Nat) (v : Word) : State :=
  let s := s.plainWrite off off v
  if !s.excited m then s.takeExcitation m
  else
    let due := decide (s.rd (AFE_EXC m) ≠ s.rdF (AFE_EXC m)) || decide (s.rd (AFE_PHASE m) ≠ s.rdF (AFE_PHASE m))
    s.setAfe m { s.afeChan m with excDue := if due then (s.afeChan m).excDue.orElse (fun _ => some (s.zeroCrossing m)) else none }

/-- A write of AFE_CHG[m] that was accepted (R257): the decay up to now counts with the constant that stood. -/
def State.afeChgWrite (s : State) (m : Nat) (v : Word) : State :=
  (s.setAfe m { s.afeChan m with carried := s.carriedAt m s.now, carriedAt := s.now }).plainWrite (AFE_CHG m) (AFE_CHG m) v

/-- A write of FLT_SW_CFG[j][k]: a switch is off when its EN is set, and while it is not enabled (R268). -/
def State.swCfgWrite (s : State) (j k : Nat) (v : Word) : State :=
  let was := s.flag (FLT_SW_CFG_EN j k)
  let s := s.plainWrite (FLT_SW_CFG j k) (FLT_SW_CFG j k) v
  if s.flag (FLT_SW_CFG_EN j k) = was then s
  else
    let s := s.setChain j { s.chain j with calls := tabSet 0 (s.chain j).calls k 0 }
    let s := s.setBit (FLT_SW_STATE j) (4 + k) false
    if s.swOn j k then s.swChange j k false else s

/-- A write of FLT_TRIP (R271): CLEAR acts while every interlock switch is off. -/
def State.tripWrite (s : State) (v : Word) : State :=
  if v.toNat.testBit 0 then
    if s.ilkSwitchesOff then s.wr FLT_TRIP 0 else s.ignore
  else s

/-- A write of the AFE block (R266 to R275). -/
def State.afeWrite (s : State) (off : Nat) (v : Word) : State :=
  let o := off - 0x3C0000
  let (code, detail) := s.afeWriteCode o v
  if code ≠ 0 then s.refuse AFE_CFG_ERR EV_AFE_CFG_ERROR code detail
  else if off = AFE_CTRL then s.afeCtrl v
  else if off = FLT_TRIP then s.tripWrite v
  else if 0x100 ≤ o && o < 0x300 then
    let m := (o - 0x100) / 64
    let r := (o - 0x100) % 64
    if r = 0 then s.afeModeWrite m v
    else if r = 4 || r = 8 then s.afeExcWrite m off v
    else if r = 12 then s.afeChgWrite m v
    else s.plainWrite off off v
  else if 0x1000 ≤ o && o < 0x1C00 then
    let j := (o - 0x1000) / 256
    let r := (o - 0x1000) % 256
    if r = 4 then (s.plainWrite off off v).setChain j { s.chain j with polyDue := true }
    else if r = 0xB4 then (if v.toNat.testBit 0 then s.restartDetectors j else s)
    else if 0x80 ≤ r && r < 0xA0 && r % 8 = 4 then s.swCfgWrite j ((r - 0x80) / 8) v
    else s.plainWrite off off v
  else s.plainWrite off off v

/-! ### The meanings -/

/-- AFE_OUTPUT_SAMPLE (R251, R259, R264): channel `m` forms its next output sample. In modes 1 to 3 `a` and `b` are what its chain gives for
the products of the sense inputs with cosine and sine of the common time base at FREQ; otherwise the first parts are what it gives for
the inputs. -/
def execAfeOutputSample (m : Fin 8) (a b : Int × Int) (force i : Int) (s : State) : Host.Outcome State Fault Refusal :=
  done (s.inCore (fun s =>
    if s.afeRuns m then
      let s := s.advance (s.afeChan m).nextOut
      let s := s.setAfe m { s.afeChan m with nextOut := (s.afeChan m).nextOut + outputTicks (s.fld (AFE_MODE_PRESET m)) }
      let phase := s.fldF (AFE_PHASE_EXC_PHASE m) + s.fldF (AFE_PHASE_DEMOD_PHASE m)
      let (x, q) := if s.excited m then demodulate phase a else (a.1, 0)
      let y := if s.excited m then (demodulate phase b).1 else b.1
      s.afeSample m s.now ⟨x, y, q, force, i⟩
    else s))

/-- EXCITATION_ZERO_CROSSING (R252): the positive-going zero crossing that a change waits for. -/
def execExcitationZeroCrossing (m : Fin 8) (s : State) : Host.Outcome State Fault Refusal :=
  done (s.inCore (fun s =>
    match (s.afeChan m).excDue with
    | some u => if s.excited m then ((s.advance u).takeExcitation m).beginSettling m (max s.now u) else s
    | none => s))

/-- SETTLING_END (R262): the interval in progress on channel `m` ends. -/
def execSettlingEnd (m : Fin 8) (s : State) : Host.Outcome State Fault Refusal :=
  done (s.inCore (fun s =>
    match (s.afeChan m).settleUntil with
    | some u => (s.advance u).endSettling m
    | none => s))

/-- CHARGE_RESET_INSTANT (R257): the periodic reset, RESET_MS after the one before or after the amplifier started (log entry 155), with the
integrator at `charge` before it. -/
def execChargeResetInstant (m : Fin 8) (charge : Int) (s : State) : Host.Outcome State Fault Refusal :=
  done (s.inCore (fun s =>
    if s.afeRuns m && s.afeMode m = 7 then
      let s := s.advance ((s.afeChan m).resetFrom + 256000000 * s.fld (AFE_CHG_RESET_MS m))
      (s.setAfe m { s.afeChan m with resetFrom := s.now }).chargeReset m s.now charge
    else s))

/-- CHARGE_EARLY_RESET (R258): the integrator has reached 31/32 of the range in force. -/
def execChargeEarlyReset (m : Fin 8) (t : Nat) (charge : Int) (s : State) : Host.Outcome State Fault Refusal :=
  done (s.inCore (fun s =>
    let s := s.advance t
    let range := s.chargeRange m
    if s.afeRuns m && s.afeMode m = 7 && decide (31 * chargeFull range ≤ 32 * charge.natAbs) then
      let c := s.afeChan m
      let s := s.setAfe m { c with satRange := some (c.satRange.getD range) }
      let s := s.chargeReset m s.now charge
      let frame := s.rdN GLB_FRAME
      let due := match s.afe.earlyAt with
        | none => true
        | some (f, u) => if s.grid.running then decide (f ≠ frame) else decide (u + 12800000000 ≤ s.now)
      if due then ({ s with afe := { s.afe with earlyAt := some (frame, s.now) } } : State).raise EV_AFE_EARLY_RESET else s
    else s))

/-- AFE_CONFIG_WRITE (R275): a write of the AFE block by a host. -/
def execAfeConfigWrite (p : Port) (off : BitVec 14) (v : Word) (s : State) : Host.Outcome State Fault Refusal :=
  let o := 0x3C0000 + off.toNat / 4 * 4
  done (s.hostGate p o false (fun s => s.afeWrite o v))

/-- POLY_CONFIG_WRITE (R266): a write of FLT_POLY_CFG[j]. -/
def execPolyConfigWrite (p : Port) (j : Fin 12) (v : Word) (s : State) : Host.Outcome State Fault Refusal :=
  done (s.hostGate p (FLT_POLY_CFG j) false (fun s => s.afeWrite (FLT_POLY_CFG j) v))

/-- DETECTOR_RESTART (R267): a write of 1 to FLT_DET_RESTART[j]. -/
def execDetectorRestart (p : Port) (j : Fin 12) (s : State) : Host.Outcome State Fault Refusal :=
  done (s.hostGate p (FLT_DET_RESTART j) false (fun s => s.afeWrite (FLT_DET_RESTART j) 1))

/-- INTERLOCK_TRIP_CLEAR (R271): a write of 1 to FLT_TRIP.CLEAR. -/
def execInterlockTripClear (p : Port) (s : State) : Host.Outcome State Fault Refusal :=
  done (s.hostGate p FLT_TRIP false (fun s => s.afeWrite FLT_TRIP 1))

end Sys2Proof.Machine
end

