-- ==== Sys2Proof/Machine/Adc.lean ====
section
/-! DEFINITION. The housekeeping converters (11_housekeeping_adc.md): sequences, results, the check channel, and the writes of
the ADC block. Voltages are in nV at the multiplexer. -/

namespace Sys2Proof.Machine

/-! ### Fields of a list step (R289) -/

/-- The 13 bits of a converter in a step word. -/
def stepField (w : Word) (c : Nat) : Nat := (w.toNat / 2 ^ (16 * c)) % 8192

/-- EN. -/
def stepEn (f : Nat) : Bool := f.testBit 12
/-- DIFF. -/
def stepDiff (f : Nat) : Bool := f.testBit 11
/-- GAIN. -/
def stepGain (f : Nat) : Nat := (f / 512) % 4
/-- FORMAT. -/
def stepFormat (f : Nat) : Nat := (f / 128) % 4
/-- INPUT. -/
def stepInput (f : Nat) : Nat := f % 32

/-! ### Codes (R278, R285, R286) -/

/-- The code of a voltage and CLIP: single-ended 0 to 16,383, differential -8,192 to 8,191; CLIP where the input lies beyond the span of
R278. -/
def adcCode (diff : Bool) (gain : Nat) (v : Int) : Int × Bool :=
  let x : Int := v * 2 ^ gain
  if diff then (clampI (roundDiv (x * 8192) 2500000000) (-8192) 8191, decide (2500000000 < x.natAbs))
  else (clampI (roundDiv (x * 16384) 2500000000) 0 16383, decide (x < 0) || decide (2500000000 < x))

/-- VALUE in a FORMAT (R285). -/
def adcFormat (format : Nat) (code : Int) : Nat :=
  match format with
  | 0 => toBits 14 code
  | 1 => toBits 14 code * 4
  | 2 => toBits 16 (signedN 14 (toBits 14 code))
  | _ => toBits 14 code * 4

/-- The number a chain reads (R286). -/
def adcNumber (diff : Bool) (code : Int) : Int := if diff then code else code - 8192

/-! ### Sequences (R280 to R284) -/

/-- Steps of the list in force. -/
def State.adcSteps (s : State) : Nat := s.fldF ADC_SEQ_CFG_STEPS

/-- Duration of a sequence in ticks of 1/256 ns: 62.5 ns are 16,000 ticks (R282). -/
def seqTicks (steps : Nat) (word : Nat → Word) : Nat :=
  16000 * (2 + loop steps (fun k a => a + 1 + (word k).toNat / 2 ^ 29) 0)

/-- When list step `k` of the sequence in force begins, from the start of the sequence. -/
def State.stepOffset (s : State) (k : Nat) : Nat := seqTicks k (fun i => s.rdF (ADC_STEP i))

/-- The registers of a pending set. -/
def State.adcShadow (s : State) : List (Nat × Word) :=
  s.regs.filter (fun e => e.1 = ADC_SEQ_CFG || e.1 = ADC_CHECK_CFG || (ADC_STEP 0 ≤ e.1 && e.1 < ADC_STEP 64))

/-- A set is put in force (R284); with TIMER, PERIOD counts afresh from here (R281). -/
def State.adcLatch (s : State) (src : List (Nat × Word)) : State :=
  let s := ((s.latch ADC_SEQ_CFG (ADC_SEQ_CFG + 4) src).latch ADC_CHECK_CFG (ADC_CHECK_CFG + 4) src).latch (ADC_STEP 0) (ADC_STEP 64) src
  let s : State := { s with adc := { s.adc with staged := none, timerFrom := s.now } }
  (s.setFlag ADC_STATUS_COMMIT_PENDING false).setFld ADC_STATUS_STEPS s.adcSteps

/-- A sequence starts (R281, R284, R334). -/
def State.adcStart (s : State) : State :=
  let s := match s.adc.staged with
    | some src => s.adcLatch src
    | none => s
  let s : State := { s with adc := { s.adc with seqStart := some s.now, readyBefore := [], trim := s.adc.trimNext.getD s.adc.trim,
                                                trimNext := none } }
  s.setFlag ADC_STATUS_RUNNING true

/-- A trigger (R281): it starts a sequence, or is skipped while one runs. -/
def State.adcTrigger (s : State) (trig : Nat) : State :=
  if !s.flag ADC_CTRL_RUN || s.fldF ADC_SEQ_CFG_TRIG ≠ trig then s
  else if s.adc.seqStart.isSome then
    let s := s.bump ADC_OVERRUN_V 1
    let due := match s.adc.overrunAt with
      | none => true
      | some t => decide (t + 256000000000 ≤ s.now)
    if due then ({ s with adc := { s.adc with overrunAt := some s.now } } : State).raise EV_ADC_OVERRUN else s
  else s.adcStart

/-- The first failing check of the shadow set (R284), with its DETAIL; 0 where all pass. -/
def State.adcCheckCode (s : State) : Nat × Nat :=
  let steps := s.fld ADC_SEQ_CFG_STEPS
  let trig := s.fld ADC_SEQ_CFG_TRIG
  let period := s.fld ADC_SEQ_CFG_PERIOD
  let fieldBad := fun (bad : Nat → Bool) (k : Nat) =>
    (List.range 2).any (fun c => let f := stepField (s.rd (ADC_STEP k)) c; stepEn f && bad f)
  let bad2 := fun f => stepGain f = 3 || (2 ≤ stepFormat f && !stepDiff f)
  let bad3 := fun f => stepDiff f && (stepInput f % 2 = 1 || 14 < stepInput f)
  let ticks := seqTicks steps (fun k => s.rd (ADC_STEP k))
  if 64 < steps || trig = 3 || (period = 0 && trig = 0) then (0x01, 0)
  else match (List.range steps).find? (fieldBad bad2) with
    | some k => (0x02, k)
    | none =>
      match (List.range steps).find? (fieldBad bad3) with
      | some k => (0x03, k)
      | none =>
        if (trig = 0 && period * 256000 < ticks) || (trig = 1 && 6144000 < ticks) then (0x04, 0)
        else if s.fld ADC_CHECK_CFG_TOL = 0 || s.fld ADC_CHECK_CFG_AGREE = 0 then (0x06, 0)
        else (0, 0)

/-- ADC_COMMIT.GO (R284). -/
def State.adcCommit (s : State) : State :=
  let (code, detail) := s.adcCheckCode
  if code ≠ 0 then s.refuse ADC_CFG_ERR EV_ADC_CFG_ERROR code detail
  else if s.flag ADC_CTRL_RUN then
    ({ s with adc := { s.adc with staged := some s.adcShadow } } : State).setFlag ADC_STATUS_COMMIT_PENDING true
  else s.adcLatch s.adcShadow

/-- A write of ADC_CTRL (R279 to R281, R284, R288). -/
def State.adcCtrl (s : State) (v : Word) : State :=
  let wasRun := s.flag ADC_CTRL_RUN
  let wasEn := s.flag ADC_CTRL_REF_EN
  if wasEn && (v.toNat.testBit 4 != s.flag ADC_CTRL_REF_SRC) then s.refuse ADC_CFG_ERR EV_ADC_CFG_ERROR 0x05 0xFFFF
  else
    let s := s.plainWrite ADC_CTRL ADC_CTRL v
    let en := s.flag ADC_CTRL_REF_EN
    let s :=
      if en && !wasEn then { s with adc := { s.adc with refSince := some s.now } }
      else if wasEn && !en then
        ({ s with adc := { s.adc with refSince := none, readyAt := none,
                                      readyBefore := s.adc.readyBefore ++ (s.adc.readyAt.map (fun r => (r, s.now))).toList } } : State).setFlag
          ADC_STATUS_REF_READY false
      else s
    let run := s.flag ADC_CTRL_RUN
    if run && !wasRun then { s with adc := { s.adc with timerFrom := s.now } }
    else if wasRun && !run then
      ((({ s with adc := { s.adc with seqStart := none } } : State).setFlag ADC_STATUS_RUNNING false).setFld DET_HV_V 0).biasNone
    else s

/-- A write of the ADC block. -/
def State.adcWrite (s : State) (off : Nat) (v : Word) : State :=
  if off = ADC_CTRL then s.adcCtrl v
  else if off = ADC_COMMIT then (if v.toNat.testBit 0 then s.adcCommit else s)
  else if off = ADC_GO then (if v.toNat.testBit 0 then s.adcTrigger 2 else s)
  else s.plainWrite off off v

/-! ### The end of a sequence (R283 to R288) -/

/-- REF_READY was 1 at an instant (R280). -/
def State.refReadyAt (s : State) (t : Nat) : Bool :=
  (match s.adc.readyAt with | some r => decide (r ≤ t) | none => false)
    || s.adc.readyBefore.any (fun e => decide (e.1 ≤ t) && decide (t < e.2))

/-- How far a bias reading lies outside DET_HV_WIN; inside, its negative distance to the nearer edge (R116, R288). -/
def State.biasMargin (s : State) (r : Int) : Int :=
  max ((s.fld DET_HV_WIN_MIN : Nat) - r) (r - (s.fld DET_HV_WIN_MAX : Nat))

/-- The bias reading of a sequence, in 10 mV (R288). -/
def State.seqBias (s : State) (c0 c1 : Int) (suspect : Bool) : Int :=
  if suspect then
    let r0 := roundDiv (c0 * 4000) 16384
    let r1 := roundDiv (c1 * 4000) 16384
    if s.biasMargin r0 < s.biasMargin r1 then r1 else r0
  else roundDiv ((c0 + c1) * 2000) 16384

/-- One converter's result of a list step, where its field converts. -/
def adcResult (f : Nat) (v : Int) (notReady suspect : Bool) : AdcResult :=
  let (code, clip) := adcCode (stepDiff f) (stepGain f) v
  ⟨adcFormat (stepFormat f) code, notReady, suspect, clip, adcNumber (stepDiff f) code⟩

/-- The results of the list steps, by 64 · converter + step. -/
def State.seqResults (s : State) (start : Nat) (volts : List (Int × Int)) (suspect : Bool) : List (Nat × AdcResult) :=
  (List.range 2).flatMap (fun c =>
    (List.range s.adcSteps).filterMap (fun k =>
      let f := stepField (s.rdF (ADC_STEP k)) c
      let v := nth (0, 0) volts k
      if stepEn f then some (64 * c + k, adcResult f (if c = 0 then v.1 else v.2) (!s.refReadyAt (start + s.stepOffset k)) suspect)
      else none))

/-- The results of one input on a converter, in step order, the system steps first (R272; log entry 53). -/
def State.inputResults (s : State) (res : List (Nat × AdcResult)) (sys : List (Nat × AdcResult)) (c input : Nat) : List AdcResult :=
  (sys.filter (fun e => e.1 = input)).map (fun e => e.2)
    ++ (res.filter (fun e => e.1 / 64 = c && stepInput (stepField (s.rdF (ADC_STEP (e.1 % 64))) c) = input)).map (fun e => e.2)

/-- The samples of chain `j` from a sequence (R272): one for each result, or one for each pair with DUAL. -/
def State.chainFromAdc (s : State) (j : Nat) (r0 r1 : List AdcResult) : State :=
  if s.flag (FLT_SRC_DUAL j) then
    (List.zip r0 r1).foldl (fun s p =>
      s.chainSample j (2 * (p.1.num + p.2.num)) (some (4 * p.1.num, 4 * p.2.num))
        ⟨false, false, p.1.suspect || p.2.suspect, p.1.notReady || p.2.notReady, false⟩) s
  else (r0 ++ r1).foldl (fun s r => s.chainSample j (4 * r.num) none ⟨false, false, r.suspect, r.notReady, false⟩) s

/-- The check of a sequence (R287): the state, whether the sequence is suspect, and whether SUSPECT clears at its end. -/
def State.judgeCheck (s : State) (c0 c1 : Int) (ready : Bool) : State × Bool × Bool :=
  let was := s.flag ADC_STATUS_SUSPECT
  if !ready then (s, was, false)
  else if (s.fldF ADC_CHECK_CFG_TOL : Nat) < (c0 - c1).natAbs then
    let s := s.bump ADC_DISAGREE_CNT_V 1
    let s := ({ s with adc := { s.adc with agree := 0 } } : State).setFlag ADC_STATUS_SUSPECT true
    (s.raiseIf (!was) EV_ADC_DISAGREE, true, false)
  else
    let n := s.adc.agree + 1
    ({ s with adc := { s.adc with agree := n } }, was, was && decide (s.fldF ADC_CHECK_CFG_AGREE ≤ n))

/-- The end of the sequence that began at `start`, with the voltages its steps converted. -/
def State.adcEnd (s : State) (start : Nat) (check bias : Int × Int) (volts : List (Int × Int)) : State :=
  let k0 := (adcCode false 0 check.1)
  let k1 := (adcCode false 0 check.2)
  let b0 := (adcCode false 0 bias.1)
  let b1 := (adcCode false 0 bias.2)
  let ready := s.refReadyAt start
  let (s, suspect, clears) := s.judgeCheck k0.1 k1.1 ready
  let res := s.seqResults start volts suspect
  let seq := (s.rdN ADC_SEQ_NUM + 1) % 2 ^ 32
  let set : AdcSet := ⟨seq, res, k0.1.toNat, k1.1.toNat, b0.1.toNat, b1.1.toNat⟩
  let keep := s.adc.kept.filter (fun (e : AdcSet) => s.portA.adcSel = some e.seq || s.portB.adcSel = some e.seq)
  let s : State := { s with adc := { s.adc with seqStart := none, kept := set :: keep } }
  let s := (s.wrN ADC_SEQ_NUM seq).setFlag ADC_STATUS_RUNNING false
  let s := s.biasReading (s.seqBias b0.1 b1.1 suspect).toNat
  let sysOf := fun (k b : Int × Bool) =>
    [(31, (⟨0, !ready, suspect, k.2, adcNumber false k.1⟩ : AdcResult)),
     (25, (⟨0, !s.refReadyAt (start + 16000), suspect, b.2, adcNumber false b.1⟩ : AdcResult))]
  let s := (List.range 4).foldl (fun s i =>
    let input := s.fld (FLT_SRC_INPUT (8 + i))
    s.chainFromAdc (8 + i) (s.inputResults res (sysOf k0 b0) 0 input) (s.inputResults res (sysOf k1 b1) 1 input)) s
  if clears then s.setFlag ADC_STATUS_SUSPECT false else s

/-! ### What reads as it stands (R283) -/

/-- The set a port reads: the one it selected, else the one published last. -/
def State.adcSet (s : State) (p : Nat) : Option AdcSet :=
  match (s.port p).adcSel with
  | some q => s.adc.kept.find? (fun (e : AdcSet) => e.seq = q)
  | none => s.adc.kept.head?

/-- ADC_RESULT, ADC_CHECK and ADC_SYS_BIAS of a port; none for other registers. -/
def State.adcView (s : State) (p off : Nat) : Option Word :=
  if off = ADC_CHECK then some (match s.adcSet p with | some e => BitVec.ofNat 32 (e.check1 * 65536 + e.check0) | none => 0)
  else if off = ADC_SYS_BIAS then some (match s.adcSet p with | some e => BitVec.ofNat 32 (e.bias1 * 65536 + e.bias0) | none => 0)
  else if ADC_RESULT 0 0 ≤ off && off < ADC_RESULT 2 0 then
    let k := (off - ADC_RESULT 0 0) / 4
    some (match (s.adcSet p).bind (fun e => (e.results.find? (fun r => r.1 = k)).map (fun r => r.2)) with
      | some r => BitVec.ofNat 32 (2 ^ 31 + 2 ^ 30 * b2n r.notReady + 2 ^ 29 * b2n r.suspect + 2 ^ 28 * b2n r.clip + r.value)
      | none => 0)
  else none

/-! ### The meanings -/

/-- ADC_CONTROL_WRITE (R280): a write of ADC_CTRL. -/
def execAdcControlWrite (p : Port) (v : BitVec 5) (s : State) : Host.Outcome State Fault Refusal :=
  done (s.hostGate p ADC_CTRL false (fun s => s.adcWrite ADC_CTRL (v.setWidth 32)))

/-- REFERENCE_READY (R280): 2.0 ms have passed since REF_EN was set. -/
def execReferenceReady (s : State) : Host.Outcome State Fault Refusal :=
  done (s.inCore (fun s =>
    match s.adc.refSince with
    | some t =>
      if s.flag ADC_STATUS_REF_READY then s
      else
        let s := s.advance (t + 512000000)
        let s : State := { s with adc := { s.adc with readyAt := some (t + 512000000) } }
        (s.setFlag ADC_STATUS_REF_READY true).raise EV_ADC_REF_READY
    | none => s))

/-- ADC_TIMER_TRIGGER (R281): PERIOD has passed since the last TIMER trigger, or since what the timer counts from. -/
def execAdcTimerTrigger (s : State) : Host.Outcome State Fault Refusal :=
  done (s.inCore (fun s =>
    if s.flag ADC_CTRL_RUN && s.fldF ADC_SEQ_CFG_TRIG = 0 then
      let t := s.adc.timerFrom + 256000 * s.fldF ADC_SEQ_CFG_PERIOD
      let s := s.advance t
      ({ s with adc := { s.adc with timerFrom := t } } : State).adcTrigger 0
    else s))

/-- ADC_GO (R281): a write of 1. -/
def execAdcGo (p : Port) (s : State) : Host.Outcome State Fault Refusal :=
  done (s.hostGate p ADC_GO false (fun s => s.adcWrite ADC_GO 1))

/-- ADC_SEQUENCE_END (R283): the sequence in progress ends; the voltages its system steps and list steps converted on each
converter. -/
def execAdcSequenceEnd (check bias : Int × Int) (volts : List (Int × Int)) (s : State) : Host.Outcome State Fault Refusal :=
  done (s.inCore (fun s =>
    match s.adc.seqStart with
    | some t => (s.advance (t + s.stepOffset s.adcSteps)).adcEnd t check bias volts
    | none => s))

/-- ADC_COMMIT (R284): a write of GO. -/
def execAdcCommit (p : Port) (s : State) : Host.Outcome State Fault Refusal :=
  done (s.hostGate p ADC_COMMIT false (fun s => s.adcWrite ADC_COMMIT 1))

end Sys2Proof.Machine
end

