-- ==== Sys2Proof/Machine/Emission.lean ====
section
/-! DEFINITION. Emission (03_emission.md): the shot program and its checks, the run, serve codes, pattern memory, the emitter
current bus, the energy accountant, emitter faults and their re-arm, and the flood lamps. The instants of a slot itself are in
Line.lean. -/

namespace Sys2Proof.Machine

/-! ### The shot program (R68 to R73) -/

/-- KIND of slot k in a set of settings. -/
def kindIn (src : List (Nat × Word)) (k : Nat) : Nat := fldIn src (SHT_SLOT_T_KIND k)

/-- START of slot k in a set of settings. -/
def startIn (src : List (Nat × Word)) (k : Nat) : Nat := fldIn src (SHT_SLOT_T_START k)

/-- Shots per point (R69). -/
def shotsIn (src : List (Nat × Word)) : Nat :=
  ((List.range (fldIn src SHT_CFG_SLOTS)).filter (fun k => kindIn src k ≤ 1)).length

/-- Checks 0x04, 0x06 and 0x07 of R70 against a line rate of `rate` lines per 1,000 s. -/
def spanChecks (src : List (Nat × Word)) (rate : Nat) : Option (Nat × Nat) :=
  let slots := fldIn src SHT_CFG_SLOTS
  let listen := fldIn src SHT_LISTEN_V
  if 300000000 < rate * shotsIn src then some (4, 0)
  else
    match (List.range (slots - 1)).find? (fun k => decide (startIn src (k + 1) < startIn src k + 1023 + listen + 15360)) with
    | some k => some (6, k + 1)
    | none =>
      if 256000000000000 < (startIn src (slots - 1) + 1023 + listen + 16384) * rate then some (7, slots - 1) else none

/-- The first failing check of R70 with its DETAIL, for a set of settings and the effective SP_MAX it gives. -/
def programCheck (src : List (Nat × Word)) (spMax : Nat) (trigW colHold : Nat) : Option (Nat × Nat) :=
  let lines := fldIn src SHT_CFG_LINES
  let slots := fldIn src SHT_CFG_SLOTS
  let listen := fldIn src SHT_LISTEN_V
  let rate := lines * spMax
  if lines < 512 || 4096 < lines then some (1, 0)
  else if slots < 1 || 64 < slots || (List.range slots).all (fun k => decide (kindIn src k ≠ 0)) then some (2, 0)
  else
    match (List.range slots).find? (fun k => kindIn src k = 3
        || (decide (0 < k) && decide (startIn src k ≤ startIn src (k - 1)))
        || (kindIn src k = 0 && (List.range k).any (fun j => decide (kindIn src j = 1)))) with
    | some k => some (3, k)
    | none =>
      let sp := spanChecks src rate
      if sp = some (4, 0) then sp
      else if 1047553 < listen || listen < trigW + colHold then some (5, 0)
      else if sp.isSome then sp
      else if lines < fldIn src SHT_BLANK_HEAD + fldIn src SHT_BLANK_TAIL then some (8, 0)
      else if fldIn src SHT_PAT_MAP_CYCLE < 1 || 256 < fldIn src SHT_PAT_MAP_CYCLE then some (9, 0)
      else
        let bits := fldIn src SHT_SERVE_CFG_BITS
        let pl := fldIn src SHT_SERVE_CFG_PHASES_LOG2
        if bits < pl || 10 < bits || 2 ^ pl ≤ fldIn src SHT_SERVE_CFG_PHASE then some (10, 0) else none

/-- The span of registers that make the shot program: SHT_CFG to SHT_SERVE_NONCE_HI, and the slot table (R68). -/
def programSpans : List (Nat × Nat) := [(0x100000, 0x10001C), (0x100100, 0x100300)]

/-- The shadow set as a table of its own. -/
def State.shadowSet (s : State) (spans : List (Nat × Nat)) : List (Nat × Word) :=
  s.regs.filter (fun e => spans.any (fun sp => decide (sp.1 ≤ e.1) && decide (e.1 < sp.2)))

/-- Put a set in force over its spans. -/
def State.latchSet (s : State) (spans : List (Nat × Nat)) (set : List (Nat × Word)) : State :=
  spans.foldl (fun s sp => s.latch sp.1 sp.2 set) s

/-- A write of SHT_COMMIT with GO = 1 (R68, R70): the shadow set is checked and set pending, or refused whole. -/
def State.shtCommit (s : State) (frameMode : Bool) : State :=
  let set := s.shadowSet programSpans
  let sp := (s.spMaxFor (fldIn set SHT_CFG_LINES)).toNat
  match programCheck set sp (s.fld EMT_TRIG_CFG_TRIG_W) (s.fld EMT_TRIG_CFG_COL_HOLD) with
  | some (c, d) => s.refuse SHT_CFG_ERR EV_SHT_CFG_ERROR c d
  | none =>
    ({ s with sht := { s.sht with pending := some (frameMode, s.now), staged := set } }).setFlag SHT_STATUS_COMMIT_PENDING true

/-- The pending shot program latches (R68). -/
def State.shtLatch (s : State) : State :=
  let s := s.latchSet programSpans s.sht.staged
  let s : State := { s with sht := { s.sht with pending := none, staged := [] } }
  (s.setFlag SHT_STATUS_COMMIT_PENDING false).setFld SHT_GEN_V (s.fld SHT_GEN_V + 1)

/-- At a line start at the present tick, a pending program latches: frame mode at a frame start, line mode at every line start,
if its commit came at least 10 ns before (R25, R26). -/
def State.shtLineLatch (s : State) (frameStart : Bool) : State :=
  match s.sht.pending with
  | some (m, t) => if (!m || frameStart) && t + 2560 ≤ s.now then s.shtLatch else s
  | none => s

/-- R73: at a declaration of lock, checks 0x04, 0x06 and 0x07 are repeated for the program in force. -/
def State.lockRecheck (s : State) : State :=
  let rate := s.linesInForce * (s.spLimits 0).2.toNat
  match spanChecks s.inForce rate with
  | some (c, d) =>
    let s := s.refuse SHT_CFG_ERR EV_SHT_CFG_ERROR c d
    if s.running then { s with sht := { s.sht with stopAtEnd := true, barred := true } }
    else { s with sht := { s.sht with startPending := none } }
  | none => s

/-- A write of SHT_RUN (R70 0x0B, R72). DESIGN CHOICE (log entry 138): of several bits in one write ABORT acts before STOP and STOP before
START; a START with FRAMES = 0 is refused beside them; a START during a run withdraws a STOP that is pending. -/
def State.runWrite (s : State) (v : Word) : State :=
  let frames := v.toNat % 65536
  let s := if v.toNat.testBit 29 && frames = 0 then s.refuse SHT_CFG_ERR EV_SHT_CFG_ERROR 0x0B 0 else s
  if v.toNat.testBit 31 then s.abortRun
  else if v.toNat.testBit 30 then
    if s.running then { s with sht := { s.sht with stopAtEnd := true } } else s.endRun
  else if v.toNat.testBit 29 then
    if frames = 0 then s
    else if s.running then { s with sht := { s.sht with newCount := some frames, stopAtEnd := false } }
    else { s with sht := { s.sht with startPending := some frames } }
  else s

/-- The frame start's part of the run (R72): a pending start begins, a frame counts towards FRAMES, and a run whose frames are
done ends. -/
def State.runFrameStart (s : State) : State :=
  let s := if s.running && (s.sht.stopAtEnd || (s.fld SHT_STATUS_FRAMES_LEFT = 0 && s.sht.newCount.isNone)) then s.endRunBefore else s
  match s.sht.startPending with
  | some n =>
    let s : State := { s with sht := { s.sht with startPending := none, stopAtEnd := false, barred := false, newCount := none } }
    let s : State := { s with fw := { s.fw with lastRunFrame := s.rdN GLB_FRAME } }
    (s.setFlag SHT_STATUS_RUNNING true).setFld SHT_STATUS_FRAMES_LEFT (if n = 0xFFFF then 0xFFFF else n - 1)
  | none =>
    if s.running then
      let left := s.sht.newCount.getD (s.fld SHT_STATUS_FRAMES_LEFT)
      let s : State := { s with sht := { s.sht with newCount := none } }
      s.setFld SHT_STATUS_FRAMES_LEFT (if left = 0xFFFF then 0xFFFF else left - 1)
    else s

/-- A write of the SHT block (R68, R72, R83). -/
def State.shtWrite (s : State) (off : Nat) (v : Word) : State :=
  if off = SHT_COMMIT then (if v.toNat.testBit 0 then s.shtCommit (v.toNat.testBit 1) else s)
  else if off = SHT_RUN then s.runWrite v
  else if off = SHT_SERVE_CFG && s.flag CHN_STATUS_COORDINATED then
    -- the coordinated fields keep their values (R441)
    s.setFld SHT_SERVE_CFG_BITS (v.toNat % 16)
  else if off = SHT_SERVE_NONCE_HI then (s.plainWrite off off v).setFlag SHT_STATUS_NONCE_SET true
  else s.plainWrite off off v

/-! ### Serve codes (R82) -/

/-- The counter block of line `n`, frame `f`, block `j` (R82). -/
def State.serveBlock (s : State) (f n j : Nat) : List Byte :=
  leBytes 4 f ++ leBytes 2 n ++ leBytes 1 j ++ leBytes 1 (s.fldF SHT_SERVE_CFG_HEAD_ID)
    ++ leBytes 4 (s.rdF SHT_SERVE_NONCE_LO).toNat ++ leBytes 4 (s.rdF SHT_SERVE_NONCE_HI).toNat

/-- The offset of slot `k` from the block's keystream B (R82). -/
def serveOffset (b bits phasesLog2 phase k : Nat) : Nat :=
  if bits = 0 then 0
  else
    let r := (b >>> (10 * (k % 12))) % 1024
    ((r % 2 ^ bits) / 2 ^ phasesLog2) * 2 ^ phasesLog2 ||| phase

/-- The serve-code offset of slot `k` of line `n` of the frame (R82). -/
def State.slotOffset (s : State) (n k : Nat) : Nat :=
  let bits := s.fldF SHT_SERVE_CFG_BITS
  if bits = 0 then 0
  else
    let b := leNat (aes256 s.sht.serveKey (s.serveBlock (s.rdN GLB_FRAME) n (k / 12)))
    serveOffset b bits (s.fldF SHT_SERVE_CFG_PHASES_LOG2) (s.fldF SHT_SERVE_CFG_PHASE) k

/-! ### Pattern memory (R67, R71, R76 to R78) -/

/-- Word `j` of entry `e` of a bank (R76). -/
def State.patWord (s : State) (bank e j : Nat) : Nat := (tabGet 0 s.emt.patterns (2048 * bank + 8 * e + j) : Word).toNat

/-- The 192 emitter bits of an entry. -/
def State.patBits (s : State) (bank e : Nat) : Nat :=
  (List.range 6).foldl (fun acc j => acc + s.patWord bank e j * 2 ^ (32 * j)) 0

/-- The columns an entry marks in a row (R66). -/
def rowCols (bits r : Nat) : Nat := (bits >>> (12 * r)) % 4096

/-- Rows of an entry with any bit set. -/
def entryRows (bits : Nat) : List Nat := (List.range 16).filter (fun r => rowCols bits r ≠ 0)

/-- The columns an entry enables. -/
def entryCols (bits : Nat) : Nat :=
  match entryRows bits with
  | [] => 0
  | r :: _ => rowCols bits r

/-- An entry is a rectangle (R67): every row with any bit set marks the same columns. -/
def isRectangle (bits : Nat) : Bool := (entryRows bits).all (fun r => rowCols bits r = entryCols bits)

/-- The pattern entry of slot `k` on line `n` (R71). -/
def State.patternEntry (s : State) (n k : Nat) : Nat :=
  let lines := s.linesInForce
  if n < s.fldF SHT_BLANK_HEAD || lines ≤ n + s.fldF SHT_BLANK_TAIL then s.fldF SHT_PAT_MAP_BLANK_ENTRY
  else (s.fldF (SHT_SLOT_P_ENTRY k) + (n % max 1 (s.fldF SHT_PAT_MAP_CYCLE)) * s.fldF SHT_CFG_SLOTS) % 256

/-- A write of EMT_PAT_CTRL (R77, R78). -/
def State.patCtrlWrite (s : State) (v : Word) : State :=
  let sync := (v.toNat / 2) % 4
  if sync = 3 then s.ignoreRaise EV_EMT_CFG_ERROR
  else if s.flag ⟨EMT_PAT_CTRL, 31, 31⟩ then (if v.toNat.testBit 0 then s.ignore else s.setFld EMT_PAT_CTRL_SYNC sync)
  else
    let s := s.setFld EMT_PAT_CTRL_SYNC sync
    if v.toNat.testBit 0 then
      ({ s with emt := { s.emt with swap := some (sync, false, s.now), swapEdge := none } }).setFlag ⟨EMT_PAT_CTRL, 31, 31⟩ true
    else s

/-- The check of the shadow bank completes (R77). -/
def State.patternCheckDone (s : State) : State :=
  match s.emt.swap with
  | some (sync, false, _) =>
    match (List.range 256).find? (fun e => !isRectangle (s.patBits (1 - s.emt.activeBank) e)) with
    | some e =>
      let s : State := { s with emt := { s.emt with swap := none } }
      ((s.setFlag ⟨EMT_PAT_CTRL, 31, 31⟩ false).wrN EMT_PAT_ERR (2 ^ 31 + e)).raise EV_EMT_PATTERN_ERROR
    | none => { s with emt := { s.emt with swap := some (sync, true, s.now) } }
  | _ => s

/-- A pending, checked bank swap takes place at its sync event (R25, R26, R77). -/
def State.patternSwap (s : State) (frameStart : Bool) : State :=
  match s.emt.swap with
  | some (sync, true, ready) =>
    let due := decide (ready ≤ s.now) && (if sync = 0 then true else if sync = 1 then frameStart else
      match s.emt.swapEdge with
      | some t => decide (ready ≤ t) && decide (t + 2560 ≤ s.now)
      | none => false)
    if due then
      let b := 1 - s.emt.activeBank
      let s : State := { s with emt := { s.emt with swap := none, swapEdge := none, activeBank := b } }
      ((s.setFlag ⟨EMT_PAT_CTRL, 31, 31⟩ false).setFld ⟨EMT_PAT_CTRL, 30, 30⟩ b).raise EV_EMT_PAT_SWAPPED
    else s
  | _ => s

/-- A write of the shadow window (R76, R78). -/
def State.patShadowWrite (s : State) (off : Nat) (v : Word) : State :=
  if s.flag ⟨EMT_PAT_CTRL, 31, 31⟩ then s.ignoreRaise EV_EMT_CFG_ERROR
  else
    let w := (off - EMT_PAT_SHADOW 0) / 4
    -- word 6 holds the profile in bits [3:0], word 7 is reserved and reads 0 (R16)
    let v := if w % 8 = 7 then 0 else if w % 8 = 6 then v &&& 0xF else v
    { s with emt := { s.emt with patterns := tabSet 0 s.emt.patterns (2048 * (1 - s.emt.activeBank) + w) v } }

/-! ### Emitter faults (R79 to R81, R91, R92) -/

/-- A frame of the current bus (R79): READ, ROW, REG, DATA. -/
def ecbFrame (read : Bool) (row reg data : Nat) : BitVec 32 :=
  BitVec.ofNat 32 (b2n read * 2 ^ 31 + (row % 16) * 2 ^ 27 + (reg % 2048) * 2 ^ 16 + data % 65536)

/-- Frames sent on the current bus, in order (R79). -/
def State.sendEcb (s : State) (l : List (BitVec 32)) : State := { s with wire := s.wire ++ l.map WireFrame.ecb }

/-- The reads of the open and short flags of all 16 drivers (R81, R91). -/
def flagReads : List (BitVec 32) :=
  (List.range 16).flatMap (fun r => [ecbFrame true r 0x100 0, ecbFrame true r 0x101 0])

/-- The codes of all profiles and rows as EMT_CUR_PROFILE holds them (R80). -/
def State.profileCodes (s : State) : List (BitVec 10) :=
  (List.range 256).map (fun i => BitVec.ofNat 10 (s.rdN (EMT_CUR_PROFILE (i / 16) (i % 16)) % 1024))

/-- The readback of every profile register of the drivers (R80). -/
def profileReads : List (BitVec 32) := (List.range 256).map (fun i => ecbFrame true (i % 16) (i / 16) 0)

/-- A profile commit on the current bus (R80): the 256 codes are written, then read back. -/
def profileFrames (codes : List (BitVec 10)) : List (BitVec 32) :=
  (List.range 256).map (fun i => ecbFrame false (i % 16) (i / 16) (nth 0 codes i).toNat) ++ profileReads

/-- The first emitter whose open or short flag is set, by row and column (R91). -/
def firstFlag (f : DriverFlags) : Option Nat :=
  (List.range 192).find? (fun e => (nth 0 f.opens (e / 12)).getLsbD (e % 12) || (nth 0 f.shorts (e / 12)).getLsbD (e % 12))

/-- An open flag, a short flag, is set. -/
def anyOpenFlag (f : DriverFlags) : Bool := f.opens.any (fun w => w ≠ 0)
/-- A short flag is set. -/
def anyShortFlag (f : DriverFlags) : Bool := f.shorts.any (fun w => w ≠ 0)

/-- An emitter fault latches (R91): `cause` is the bit of its own cause (none for EMON_FLT_N and for flags read), the driver
flags read after the latch give the emitter and the causes OPEN and SHORT. A slot whose triggers had not risen becomes dark. -/
def State.emitterFault (s : State) (cause : Option Nat) (fromInput : Bool) (f : DriverFlags) : State :=
  let was := s.flag EMT_FAULT_LATCHED
  let s := s.setFlag EMT_FAULT_LATCHED true
  let s := match cause with
    | some b => s.setBit EMT_FAULT b true
    | none => s
  let s := if anyOpenFlag f || (fromInput && (firstFlag f).isNone) then s.setFlag EMT_FAULT_OPEN true else s
  let s := if anyShortFlag f || (fromInput && (firstFlag f).isNone) then s.setFlag EMT_FAULT_SHORT true else s
  let s := if was then s else ((s.forceLow.sendEcb flagReads).setFld EMT_FAULT_EMITTER ((firstFlag f).getD 0xFF)).raise EV_EMITTER_FAULT
  match s.sht.flight with
  | some fl =>
    if fl.emitted then s
    else
      let s : State := { s with sht := { s.sht with flight := some { fl with rows := 0 } } }
      { s with hst := { s.hst with posted := s.hst.posted.map (fun (r : ShotRec) =>
                                     if r.slot = fl.slot && r.line = s.rdN GLB_LINE && r.frame = s.rdN GLB_FRAME then { r with rows := 0 } else r) } }
  | none => s

/-- A write of EMT_CUR_COMMIT (R80): every code goes to the drivers and is read back. -/
def State.curCommit (s : State) : State :=
  if s.p87 || s.flag EMT_EYE_CFG_LOCK || s.flag EMT_ECB_STATUS_BUSY then s.ignoreRaise EV_EMT_CFG_ERROR
  else
    let codes := s.profileCodes
    let s : State := { s with emt := { s.emt with codes := codes } }
    ((s.sendEcb (profileFrames codes)).setFlag EMT_ECB_STATUS_BUSY true).setFlag EMT_ECB_STATUS_VERIFIED false

/-- The profile commit ends (R80): what the drivers returned is compared with what was sent. The flag reads that waited are made now. -/
def State.curCommitDone (s : State) (codes : List (BitVec 10)) (f : DriverFlags) : State :=
  if !s.flag EMT_ECB_STATUS_BUSY then s
  else
    let s := s.setFlag EMT_ECB_STATUS_BUSY false
    let s := if s.emt.flagsWaiting then s.sendEcb flagReads else s
    if codes = s.emt.codes then (s.setFlag EMT_ECB_STATUS_VERIFIED true).setFlag EMT_ECB_STATUS_VERIFY_FAIL false
    else (s.setFlag EMT_ECB_STATUS_VERIFY_FAIL true).emitterFault (some 5) false f

/-- A write to EMT_REARM (R92), with what the checks find. -/
def State.rearmWrite (s : State) (v : Nat) (c : RearmChecks) : State :=
  if v = 0xA5 then { s with emt := { s.emt with rearmAt := some s.now } }
  else
    let t := s.emt.rearmAt
    let s : State := { s with emt := { s.emt with rearmAt := none } }
    match t with
    | some t0 =>
      if v = 0x5A && s.now ≤ t0 + 256000000 && s.flag EMT_FAULT_LATCHED then
        let s : State := { s with emt := { s.emt with emonLow := !c.emonHigh } }
        let s := s.sendEcb ((List.range 16).map (fun r => ecbFrame false r 0x102 1) ++ flagReads
          ++ (if s.flag EMT_FAULT_CUR_VERIFY then profileReads else []))
        if !s.emt.emonLow && (firstFlag c.flags).isNone && (!s.flag EMT_FAULT_CUR_VERIFY || c.codes = s.emt.codes)
            && (!s.flag EMT_FAULT_EYE_PARITY || c.parityOk) then
          (s.setFlag EMT_FAULT_LATCHED false).setFld ⟨EMT_FAULT, 6, 0⟩ 0
        else s.ignoreRaise EV_EMT_REARM_REFUSED
      else s
    | none => s

/-! ### The energy accountant (R87 to R90) -/

/-- The sum of an emitter (index 0 to 191) or a row (192 + r) over window `w` (R87). -/
def State.eyeSum (s : State) (w i : Nat) : Nat :=
  s.emt.eye.foldl (fun acc e => if e.1 / 256 / 65 = w && e.1 % 256 = i then acc + e.2 else acc) 0

/-- WEIGHT of row `r` under profile `p` (R87). -/
def State.weight (s : State) (p r : Nat) : Nat := s.fld (EMT_CUR_PROFILE_WEIGHT p r)

/-- Row `r` would exceed a limit (R88). -/
def State.rowExceeds (s : State) (p r cols : Nat) : Bool :=
  let wt := s.weight p r
  let on := (List.range 12).filter (fun c => cols.testBit c)
  (List.range 2).any (fun w =>
    on.any (fun c => decide (s.fld (EMT_EYE_LIM_EMIT_V w) < s.eyeSum w (12 * r + c) + wt))
      || decide (s.fld (EMT_EYE_LIM_ROW_V w) < s.eyeSum w (192 + r) + on.length * wt))

/-- Add energy to the current sub-bin of both windows. -/
def State.eyeAdd (s : State) (i e : Nat) : State :=
  (List.range 2).foldl (fun s w =>
    let k := (65 * w + nth 0 s.emt.eyePos w) * 256 + i
    { s with emt := { s.emt with eye := tabSet 0 s.emt.eye k (tabGet 0 s.emt.eye k + e) } }) s

/-- EMT_EYE_PEAK: the fill of the fullest emitter sum of window 0 (R100). -/
def State.showPeak (s : State) : State :=
  let top := (List.range 192).foldl (fun m i => max m (s.eyeSum 0 i)) 0
  let lim := s.fld (EMT_EYE_LIM_EMIT_V 0)
  s.setFld EMT_EYE_PEAK_V (if lim = 0 then 0 else min 65535 (top * 65536 / lim))

/-- A firing of rows under a profile adds its energy (R87), and EMT_EYE_PEAK follows. -/
def State.accountFiring (s : State) (rows : BitVec 16) (cols p : Nat) : State :=
  let on := (List.range 12).filter (fun c => cols.testBit c)
  let s := (List.range 16).foldl (fun s r =>
    if rows.getLsbD r then
      let wt := s.weight p r
      (on.foldl (fun s c => s.eyeAdd (12 * r + c) wt) s).eyeAdd (192 + r) (on.length * wt)
    else s) s
  s.showPeak

/-- The length of a sub-bin of window `w`, in ticks (R87). -/
def State.subBin (s : State) (w : Nat) : Nat := 256000 * s.fld (EMT_EYE_WIN_SUB w)

/-- A sub-bin of window `w` ends: the ring advances, the bin that leaves the span is emptied, and the next sub-bin runs (R87). -/
def State.eyeAdvance (s : State) (w : Nat) : State :=
  let pos := (nth 0 s.emt.eyePos w + 1) % 65
  let s : State := { s with emt := { s.emt with eyePos := setNth s.emt.eyePos w pos,
                                                eyeEnd := setNth s.emt.eyeEnd w (nth 0 s.emt.eyeEnd w + s.subBin w),
                                                eye := s.emt.eye.filter (fun (e : Nat × Nat) => e.1 / 256 ≠ 65 * w + pos) } }
  s.showPeak

/-- A write of EMT_EYE_CFG.LOCK = 1 (R80, R89). -/
def State.eyeLock (s : State) : State :=
  if s.flag EMT_EYE_CFG_LOCK then s
  else if s.flag EMT_ECB_STATUS_BUSY || !s.flag EMT_ECB_STATUS_VERIFIED then s.ignoreRaise EV_EMT_CFG_ERROR
  else
    let s := s.setFlag EMT_EYE_CFG_LOCK true
    let s : State := { s with emt := { s.emt with eye := [], eyeEnd := [s.now + s.subBin 0, s.now + s.subBin 1] } }
    s.showPeak

/-- A write of the EMT block (R76 to R92). EMT_ARM cannot be set while CRITICAL stands (R332) or a safety fault is held (R396). -/
def State.emtWrite (s : State) (off : Nat) (v : Word) (c : RearmChecks) : State :=
  if off = EMT_ARM then
    if v.toNat % 2 = 1 && (s.critical || s.fwCode = 7) then s.ignore else s.plainWrite off off v
  else if off = EMT_PAT_CTRL then s.patCtrlWrite v
  else if EMT_PAT_SHADOW 0 ≤ off && off < EMT_PAT_SHADOW 2048 then s.patShadowWrite off v
  else if off = EMT_EYE_CFG then (if v.toNat % 2 = 1 then s.eyeLock else s)
  else if off = EMT_EYE_WIN 0 || off = EMT_EYE_WIN 1 then
    if s.flag EMT_EYE_CFG_LOCK || v.toNat % 65536 = 0 then s.ignoreRaise EV_EMT_CFG_ERROR else s.plainWrite off off v
  else if (EMT_EYE_LIM_EMIT 0 ≤ off && off < EMT_EYE_LIM_EMIT 2) || (EMT_CUR_PROFILE 0 0 ≤ off && off < EMT_CUR_PROFILE 16 0) then
    if s.flag EMT_EYE_CFG_LOCK then s.ignoreRaise EV_EMT_CFG_ERROR else s.plainWrite off off v
  else if off = EMT_CUR_COMMIT then (if v.toNat % 2 = 1 then s.curCommit else s)
  else if off = EMT_REARM then s.rearmWrite (v.toNat % 256) c
  else s.plainWrite off off v

/-! ### Flood lamps (R93 to R98) -/

/-- A lamp is excluded (R96): its drive goes low, its close bit clears, and the cause is recorded. -/
def State.excludeLamp (s : State) (m cause nb : Nat) : State :=
  let s := (s.setBit FLD_STATUS (8 + m) true).openLamp m
  let s := (s.setBit (FLD_FAULT m) cause true).setFld (FLD_FAULT_NEIGHBOUR m) nb
  let s : State := { s with flood := { s.flood with openRun := tabSet 0 s.flood.openRun m 0, stuckRun := tabSet 0 s.flood.stuckRun m 0 } }
  s.raise EV_FLD_LAMP_FAULT

/-- The lamp is excluded. -/
def State.lampOut (s : State) (m : Nat) : Bool := s.bit FLD_STATUS (8 + m)

/-- A write of FLD_CLEAR (R98). -/
def State.floodClear (s : State) (v : Word) : State :=
  loop 8 (fun m s => if v.toNat.testBit m then (s.setBit FLD_STATUS (8 + m) false).wrN (FLD_FAULT m) 0 else s) s

/-- A write of the FLD block. -/
def State.fldWrite (s : State) (off : Nat) (v : Word) : State :=
  if off = FLD_CLEAR then s.floodClear v else s.plainWrite off off v

/-- Groups of a period (R95): 4,096 slots in groups of 2^GROUP_LOG2. -/
def State.floodGroups (s : State) : Nat := 4096 / 2 ^ s.fld FLD_CFG_GROUP_LOG2

/-- On-groups of a period (R95): group `g` of 4,096 / G is on for density `d`. -/
def groupOn (d groupLog2 g : Nat) : Bool :=
  let gs := 2 ^ groupLog2
  let dg := (2 * d + gs) / (2 * gs)
  decide (g * dg * gs / 4096 < (g + 1) * dg * gs / 4096)

/-- FLm_DRV in group `g` of the period in progress (R93, R95): low while the lamp's loop is open or the lamp excluded. -/
def State.floodLevel (s : State) (m g : Nat) : Bool :=
  s.bit CTL_FL_CLOSE m && !s.lampOut m && groupOn (s.fld (FLD_DENSITY_V m)) (s.fld FLD_CFG_GROUP_LOG2) g

/-- The levels of all drives in a group, by lamp. -/
def State.floodLevels (s : State) (g : Nat) : BitVec 8 :=
  BitVec.ofNat 8 (loop 8 (fun m acc => acc + b2n (s.floodLevel m g) * 2 ^ m) 0)

/-- A pulse-density period begins (R94, R95): every lamp takes the density last computed. -/
def State.floodPeriod (s : State) : State :=
  let s : State := { s with flood := { s.flood with before := s.floodLevels (s.floodGroups - 1), periodAt := s.now, toSample := [], toRead := [] } }
  loop 8 (fun m s =>
    let v := tabGet 0 s.flood.computed m
    let d := if s.bit CTL_FL_CLOSE m && !s.lampOut m then min 4096 ((v * 4096 * 2 + 32768) / 65536) else 0
    let d := if v = 0x7FFF && d ≠ 0 then 4096 else d
    (s.setFld (FLD_DENSITY_V m) d).setBit FLD_STATUS m (decide (0 < d))) s

/-- The tick `h` half slots into the period (R94): with a line grid a range line is 1,024 slots, and the instant is known once its line has
started; without one a slot is 24 ns. -/
def State.floodTick (s : State) (h : Nat) : Option Nat :=
  if s.grid.running then
    let lines := s.grid.linesStarted + s.grid.linesNotRun
    if lines ≠ 0 && h / 2048 = (lines - 1) % 4 && s.lineRate ≠ 0 then some (s.grid.lineStart + h % 2048 * 125000000000 / s.lineRate)
    else none
  else some (s.flood.periodAt + 3072 * h)

/-- The first group from `lo` on, whose instant `at_` lies `h` half slots into the period, is not past and meets `p`. -/
def State.nextGroup (s : State) (lo : Nat) (h : Nat → Nat) (late : Nat) (p : Nat → Bool) : Option (Nat × Nat) :=
  (List.range s.floodGroups).findSome? (fun g =>
    if g < lo || !p g then none
    else (s.floodTick (h g)).bind (fun t => if s.now ≤ t + late then some (g, t + late) else none))

/-- A lamp's current is sampled in the middle of its next on-group (R93, R96). -/
def State.floodSample (s : State) (m code : Nat) : State :=
  let gs := 2 ^ s.fld FLD_CFG_GROUP_LOG2
  match s.nextGroup (tabGet 0 s.flood.toSample m) (fun g => (2 * g + 1) * gs) 0 (fun g => s.floodLevel m g) with
  | none => s
  | some (g, t) =>
    let s := s.advance t
    let a := tabGet (0, 0) s.flood.sense m
    let s : State := { s with flood := { s.flood with toSample := tabSet 0 s.flood.toSample m (g + 1),
                                                      sense := tabSet (0, 0) s.flood.sense m (a.1 + code, a.2 + 1) } }
    if s.fld (FLD_LIM_SHORT m) < code then s.excludeLamp m 0 0
    else
      let run := if code < s.fld (FLD_LIM_OPEN m) && 0 < s.fld (FLD_DENSITY_V m) then tabGet 0 s.flood.openRun m + 1 else 0
      let s : State := { s with flood := { s.flood with openRun := tabSet 0 s.flood.openRun m run } }
      if 64 ≤ run then s.excludeLamp m 1 0 else s

/-- What the readbacks 8 ns after an edge of lamp `m` show (R96): `differs` marks the lamps whose readback differs from its command. -/
def State.judgeReadback (s : State) (m : Nat) (differs : BitVec 8) : State :=
  let run := if differs.getLsbD m then tabGet 0 s.flood.stuckRun m + 1 else 0
  let s : State := { s with flood := { s.flood with stuckRun := tabSet 0 s.flood.stuckRun m run } }
  if 2 ≤ run then s.excludeLamp m 2 0
  else
    (if m = 0 then [m + 1] else if m = 7 then [m - 1] else [m - 1, m + 1]).foldl (fun s nb =>
      if s.lampOut m then s
      else
        let k := 8 * m + nb
        let run := if differs.getLsbD nb then tabGet 0 s.flood.pinRun k + 1 else 0
        let s : State := { s with flood := { s.flood with pinRun := tabSet 0 s.flood.pinRun k run } }
        if 2 ≤ run then
          let s : State := { s with flood := { s.flood with pinRun := tabSet 0 s.flood.pinRun k 0 } }
          let s := s.excludeLamp m 3 nb
          if s.lampOut nb then s else s.excludeLamp nb 3 m
        else s) s

/-- The level of lamp `m` changes at the beginning of group `g` (R95). -/
def State.floodEdge (s : State) (m g : Nat) : Bool :=
  s.floodLevel m g ≠ (if g = 0 then s.flood.before.getLsbD m else s.floodLevel m (g - 1))

/-- The readbacks 8 ns after the next edge of lamp `m` (R93, R96): the levels read are compared with the commands. -/
def State.floodReadback (s : State) (m : Nat) (levels : BitVec 8) : State :=
  let gs := 2 ^ s.fld FLD_CFG_GROUP_LOG2
  match s.nextGroup (tabGet 0 s.flood.toRead m) (fun g => 2 * g * gs) 2048 (fun g => s.floodEdge m g) with
  | none => s
  | some (g, t) =>
    let s := s.advance t
    let differs := levels ^^^ s.floodLevels g
    ({ s with flood := { s.flood with toRead := tabSet 0 s.flood.toRead m (g + 1) } } : State).judgeReadback m differs

/-! ### The meanings -/

/-- An effect inside the emission domain, which nothing reaches while it is in reset (R452). -/
def State.inEmission (s : State) (f : State → State) : State := if s.pwr.emissionInReset then s else f s

/-- SHOT_PROGRAM_COMMIT (R68, R70): SHT_COMMIT written with GO = 1 and the MODE given. -/
def execShotProgramCommit (p : Port) (frameMode : Bool) (s : State) : Host.Outcome State Fault Refusal :=
  done (s.hostGate p SHT_COMMIT false (fun s => s.shtCommit frameMode))

/-- SHT_RUN_START (R72). The register is firmware-owned (R401). -/
def execShtRunStart (p : Port) (frames : BitVec 16) (s : State) : Host.Outcome State Fault Refusal :=
  done (s.hostGate p SHT_RUN true (fun s => s.runWrite (BitVec.ofNat 32 (2 ^ 29 + frames.toNat))))

/-- SHT_RUN_STOP (R72). -/
def execShtRunStop (p : Port) (s : State) : Host.Outcome State Fault Refusal :=
  done (s.hostGate p SHT_RUN true (fun s => s.runWrite 0x40000000))

/-- SHT_RUN_ABORT (R72). -/
def execShtRunAbort (p : Port) (s : State) : Host.Outcome State Fault Refusal :=
  done (s.hostGate p SHT_RUN true (fun s => s.runWrite 0x80000000))

/-- NONCE_WRITE (R83): SHT_SERVE_NONCE_HI completes the nonce and sets NONCE_SET. -/
def execNonceWrite (p : Port) (hi : Word) (s : State) : Host.Outcome State Fault Refusal :=
  done (s.hostGate p SHT_SERVE_NONCE_HI false (fun s => s.shtWrite SHT_SERVE_NONCE_HI hi))

/-- PATTERN_SWAP_REQUEST (R77, R78). -/
def execPatternSwapRequest (p : Port) (sync : BitVec 2) (s : State) : Host.Outcome State Fault Refusal :=
  done (s.hostGate p EMT_PAT_CTRL false (fun s => s.patCtrlWrite (BitVec.ofNat 32 (2 * sync.toNat + 1))))

/-- PATTERN_CHECK_DONE (R77). -/
def execPatternCheckDone (s : State) : Host.Outcome State Fault Refusal := done (s.inEmission State.patternCheckDone)

/-- PATTERN_SHADOW_WRITE (R78): word `w` of the shadow window. -/
def execPatternShadowWrite (p : Port) (w : BitVec 11) (v : Word) (s : State) : Host.Outcome State Fault Refusal :=
  done (s.hostGate p (EMT_PAT_SHADOW w.toNat) false (fun s => s.patShadowWrite (EMT_PAT_SHADOW w.toNat) v))

/-- CURRENT_PROFILE_COMMIT (R80). -/
def execCurrentProfileCommit (p : Port) (s : State) : Host.Outcome State Fault Refusal :=
  done (s.hostGate p EMT_CUR_COMMIT false State.curCommit)

/-- CURRENT_COMMIT_DONE (R80): the codes that the drivers returned. -/
def execCurrentCommitDone (codes : List (BitVec 10)) (f : DriverFlags) (s : State) : Host.Outcome State Fault Refusal :=
  done (s.inEmission (fun s => s.curCommitDone codes f))

/-- DRIVER_FLAGS_READ_DONE (R81): the frame-start read ends; any set flag latches a fault. -/
def execDriverFlagsReadDone (f : DriverFlags) (s : State) : Host.Outcome State Fault Refusal :=
  done (s.inEmission (fun s =>
    if !s.emt.flagsWaiting || s.flag EMT_ECB_STATUS_BUSY then s
    else
      let s : State := { s with emt := { s.emt with flagsWaiting := false } }
      if (firstFlag f).isSome then s.emitterFault none false f else s))

/-- EYE_LOCK (R89). -/
def execEyeLock (p : Port) (s : State) : Host.Outcome State Fault Refusal :=
  done (s.hostGate p EMT_EYE_CFG false State.eyeLock)

/-- EYE_SUB_BIN_END (R87, R90): the sub-bin in progress ends at its instant; a parity error found at the update latches EYE_PARITY. The rings
run from the lock of the accountant, which starts all sums from 0 (log entry 139). -/
def execEyeSubBinEnd (w : Fin 2) (parityError : Bool) (f : DriverFlags) (s : State) : Host.Outcome State Fault Refusal :=
  done (s.inEmission (fun s =>
    if !s.flag EMT_EYE_CFG_LOCK then s
    else
    let s := (s.advance (nth 0 s.emt.eyeEnd w)).eyeAdvance w
    if parityError then s.emitterFault (some 6) false f else s))

/-- EMON_FAULT_INPUT (R91). -/
def execEmonFaultInput (f : DriverFlags) (s : State) : Host.Outcome State Fault Refusal :=
  let s : State := { s with emt := { s.emt with emonLow := true } }
  done (s.inEmission (fun s => s.emitterFault none true f))

/-- MONITOR_PULSE (R75, R91): a pulse that begins inside an expected window is matched; one outside every window is spurious. -/
def execMonitorPulse (t : Nat) (f : DriverFlags) (s : State) : Host.Outcome State Fault Refusal :=
  done (s.inEmission (fun s =>
    let s := s.advance t
    let lo := 256 * s.fld EMT_MON_CFG_DLY_MIN
    let hi := 256 * s.fld EMT_MON_CFG_DLY_MAX
    let meets := fun (e : Nat × Bool) => decide (e.1 + lo ≤ t) && decide (t ≤ e.1 + hi)
    if s.emt.expected.any meets then
      { s with emt := { s.emt with expected := s.emt.expected.map (fun e => if meets e then (e.1, true) else e) } }
    else s.emitterFault (some 4) false f))

/-- MONITOR_PULSE_MISSING (R91): DLY_MAX passes after the oldest firing that waits, and no pulse has come. -/
def execMonitorPulseMissing (f : DriverFlags) (s : State) : Host.Outcome State Fault Refusal :=
  done (s.inEmission (fun s =>
    match s.emt.expected.find? (fun e => !e.2) with
    | none => s
    | some e =>
      let s := s.advance (e.1 + 256 * s.fld EMT_MON_CFG_DLY_MAX)
      let s : State := { s with emt := { s.emt with expected := s.emt.expected.erase e } }
      s.emitterFault (some 2) false f))

/-- MONITOR_PULSE_EXCESS (R91): a pulse over threshold for `tot` ticks. -/
def execMonitorPulseExcess (tot : Nat) (f : DriverFlags) (s : State) : Host.Outcome State Fault Refusal :=
  done (s.inEmission (fun s => if s.fld EMT_MON_CFG_TOT_MAX < tot then s.emitterFault (some 3) false f else s))

/-- REARM_WRITE (R92). -/
def execRearmWrite (p : Port) (v : BitVec 8) (c : RearmChecks) (s : State) : Host.Outcome State Fault Refusal :=
  done (s.hostGate p EMT_REARM false (fun s => s.rearmWrite v.toNat c))

/-- FLOOD_PERIOD_START (R94, R95): without a line grid a period begins 4,096 slots of 24 ns after the one before; with one it begins with its
line (State.gridLine). -/
def execFloodPeriodStart (s : State) : Host.Outcome State Fault Refusal :=
  done (s.inEmission (fun s => if s.grid.running then s else (s.advance (s.flood.periodAt + 25165824)).floodPeriod))

/-- FLOOD_GROUP_SAMPLE (R96). -/
def execFloodGroupSample (m : Fin 8) (code : BitVec 14) (s : State) : Host.Outcome State Fault Refusal :=
  done (s.inEmission (fun s => s.floodSample m code.toNat))

/-- FLOOD_EDGE_READBACK (R96): the levels read back from the drive outputs, by lamp. -/
def execFloodEdgeReadback (m : Fin 8) (levels : BitVec 8) (s : State) : Host.Outcome State Fault Refusal :=
  done (s.inEmission (fun s => s.floodReadback m levels))

/-- FLOOD_LAMP_CLEAR (R98). -/
def execFloodLampClear (p : Port) (lamps : BitVec 8) (s : State) : Host.Outcome State Fault Refusal :=
  done (s.hostGate p FLD_CLEAR false (fun s => s.floodClear (lamps.setWidth 32)))

end Sys2Proof.Machine
end

