-- ==== Sys2Proof/Machine/Lineup.lean ====
section
/-! DEFINITION. The self-timed fabric's budget unit and FIFOs, the lineup map, and the bench (12_fabric_lineup.md). -/

namespace Sys2Proof.Machine

/-! ### Budget (R298 to R302) -/

/-- The shadow set of the budget unit. -/
def bgtSpans : List (Nat × Nat) := [(0x80000, 0x80008), (0x80100, 0x80200)]

/-- The first failing check of the shadow set, with its DETAIL (R301). -/
def State.bgtCheck (s : State) : Option (Nat × Nat) :=
  let overU := s.fld BGT_OVER_V
  let sum := (List.range 32).foldl (fun a n => a + s.fld (BGT_CLASS_QUOTA n)) 0
  if overU < 1000 || 1000000 < overU then some (0x01, 0)
  else if 4096 * overU < 100 * sum then some (0x02, 0)
  else if s.fld BGT_STARVE_CFG_OVERS = 0 then some (0x03, 0)
  else if s.fld (BGT_CLASS_QUOTA 31) ≠ 0 then some (0x04, 31)
  else none

/-- A write of BGT_COMMIT.GO (R301). -/
def State.bgtCommit (s : State) : State :=
  match s.bgtCheck with
  | some (c, d) => s.refuse BGT_CFG_ERR EV_BGT_CFG_ERROR c d
  | none =>
    let s : State := { s with bgt := { s.bgt with staged := some (s.shadowSet bgtSpans) } }
    s.setFlag BGT_STATUS_COMMIT_PENDING true

/-- Quota in force of a class. -/
def State.quota (s : State) (n : Nat) : Nat := s.fldF (BGT_CLASS_QUOTA n)

/-- Spend of a class in the over in progress. -/
def State.spent (s : State) (n : Nat) : Nat := tabGet 0 s.bgt.spend n

/-- The end of an over for one class: the spend is shown, and starvation judged (R299). -/
def State.overClass (s : State) (half n : Nat) (urgent : Nat) : State × Nat :=
  let sp := s.spent n
  let waited := s.bgt.waiting.any (fun (e : Nat × Nat) => e.1 % 32 = n && e.2 + half ≤ s.now)
  let starved := waited && decide (sp < s.quota n)
  let s := s.setFld (BGT_SPENT_SPENT n) sp
  let k := if starved then s.fld (BGT_SPENT_STARVED n) + 1 else 0
  if starved && s.fldF BGT_STARVE_CFG_OVERS ≤ k then
    let s := (s.setFld (BGT_SPENT_STARVED n) 0).raise EV_BGT_STARVE
    (s.wrN BGT_PROMOTIONS (s.rdN BGT_PROMOTIONS + 1), urgent + 2 ^ n)
  else (s.setFld (BGT_SPENT_STARVED n) k, urgent)

/-- An over begins (R298, R299, R301, R302); `rate`: what the replica ring measured in the over that ends. -/
def State.overStart (s : State) (rate : Nat) : State :=
  let half := s.fldF BGT_OVER_V * 2560 / 2
  let (s, urgent) := (List.range 32).foldl (fun (a : State × Nat) n => a.1.overClass half n a.2) (s, 0)
  let s := s.wrN BGT_URGENT urgent
  let s := s.wrN BGT_OVER_NUM (s.rdN BGT_OVER_NUM + 1)
  let s := s.setFld BGT_FAB_RATE_V rate
  let s := match s.bgt.staged with
    | some set =>
      let s := { s.latchSet bgtSpans set with bgt := { s.bgt with staged := none } }
      s.setFlag BGT_STATUS_COMMIT_PENDING false
    | none => s
  let s : State := { s with bgt := { s.bgt with spend := [], overStart := s.now } }
  let sum := (List.range 32).foldl (fun a n => a + s.quota n) 0
  let recent := match s.bgt.capLowAt with | some t => decide (s.now < t + 256000000000) | none => false
  if rate * s.fldF BGT_OVER_V < 100 * sum && !recent then
    ({ s with bgt := { s.bgt with capLowAt := some s.now } } : State).raise EV_BGT_CAP_LOW
  else s

/-- Rank of a class at a port: urgent classes before all priorities (R299). -/
def State.rank (s : State) (n : Nat) : Nat := if s.bit BGT_URGENT n then 0 else 1 + s.fldF (BGT_CLASS_PRIO n)

/-- The class granted among those that wait at a port (R299): best rank, then round-robin order of class number. -/
def State.grantee (s : State) (port : Nat) (w : BitVec 32) : Option Nat :=
  let ready := (List.range 32).filter (fun n => w.getLsbD n && decide (s.spent n < s.quota n))
  let last := tabGet 31 s.bgt.lastGrant port
  let order := fun n => s.rank n * 32 + (n + 31 - last) % 32
  ready.foldl (fun (b : Option Nat) n => match b with
    | none => some n
    | some m => if order n < order m then some n else some m) none

/-- A grant at a port, of the classes `w` that wait there (R298, R299). -/
def State.grant (s : State) (port : Nat) (w : BitVec 32) : State :=
  let s := (List.range 32).foldl (fun s n =>
    if w.getLsbD n && !(s.bgt.waiting.any (fun (e : Nat × Nat) => e.1 = 32 * port + n)) then
      { s with bgt := { s.bgt with waiting := tabPut s.bgt.waiting (32 * port + n) s.now } }
    else s) s
  match s.grantee port w with
  | none => s
  | some n =>
    { s with bgt := { s.bgt with spend := tabSet 0 s.bgt.spend n (s.spent n + 1), lastGrant := tabSet 31 s.bgt.lastGrant port n,
                                 waiting := tabErase s.bgt.waiting (32 * port + n) } }

/-! ### Dual-clock FIFOs (R295, R296) -/

/-- Depth of a dual-clock FIFO. -/
def dcfDepth (i : Nat) : Nat := if i = 10 || i = 11 || i = 12 || i = 16 || i = 17 then 8 else 4

/-- The entries of a dual-clock FIFO, oldest first; those beyond its depth the writer holds until FULL clears (R296). -/
def State.dcf (s : State) (i : Nat) : List (BitVec 64 × Bool) := (tabGet ⟨[]⟩ s.bgt.dcfs i).entries

/-- Set the entries, and the reader's view (R309). -/
def State.setDcf (s : State) (i : Nat) (l : List (BitVec 64 × Bool)) : State :=
  let s : State := { s with bgt := { s.bgt with dcfs := tabSet ⟨[]⟩ s.bgt.dcfs i ⟨l⟩ } }
  let s := (s.setFlag (BGT_DCF_FULL i) (dcfDepth i ≤ l.length)).setFlag (BGT_DCF_EMPTY i) l.isEmpty
  s.setFld (BGT_DCF_LEVEL i) (min (dcfDepth i) l.length)

/-! ### The lineup map (R303, R304) -/

/-- CRC-32 of the factory default map (R303). -/
def factoryCrc : Word := 0xB904254B

/-- A word of the factory default lineup (R304). -/
def factoryWord (w : Nat) : Word :=
  if w = 0 then 0x00010200
  else if w = 2 then 1
  else if 4 ≤ w && w < 0xC4 then
    let c := w - 4
    BitVec.ofNat 32 (c * 2 ^ 24 + (c / 4) * 2 ^ 18 + (c / 10) * 2 ^ 10 + (c % 10) * 64)
  else if w = 0xD0 then 0x55555555
  else if w = 0xD4 then 0x00000055
  else if 0xD5 ≤ w && w < 0x155 then
    let half := fun p => (if p < 20 then 0 else if p < 23 then 1 else 2) * 8192 + p
    let i := 2 * (w - 0xD5)
    BitVec.ofNat 32 (half i + half (i + 1) * 65536)
  else if w = 0x165 || w = 0x166 then 0x55555555
  else if w = 0x17F then 0x1C000400
  else if w = 0x1FF then factoryCrc
  else 0

/-- A word of a map held as what differs from the factory default. -/
def mapGet (m : List (Nat × Word)) (w : Nat) : Word := (m.find? (fun e => e.1 = w)).elim (factoryWord w) (fun e => e.2)

/-- Set a word of a map. -/
def mapSet (m : List (Nat × Word)) (w : Nat) (v : Word) : List (Nat × Word) :=
  if v = factoryWord w then tabErase m w else tabPut m w v

/-- A field of `n` bits from bit `lo` of a map word. -/
def mapBits (m : List (Nat × Word)) (w lo n : Nat) : Nat := ((mapGet m w).toNat >>> lo) % 2 ^ n

/-- Replace a field of a map word. -/
def mapPut (m : List (Nat × Word)) (w lo n v : Nat) : List (Nat × Word) :=
  mapSet m w ((⟨0, lo + n - 1, lo⟩ : Fld).put (mapGet m w) v)

/-- The CRC-32 of a map's words 0 to 0x1FE (R303). -/
def mapCrc (m : List (Nat × Word)) : Word :=
  BitVec.ofNat 32 (crc32 (wordsToBytes ((List.range 0x1FF).map (mapGet m))))

/-- Where the state of an element stands: word and bit (R303). Kind 0 lanes, 1 engines, 2 tiles. -/
def stateAt (kind i : Nat) : Nat × Nat :=
  ((if kind = 0 then 0xC4 else if kind = 1 then 0xD1 else 0x155) + i / 16, 2 * (i % 16))

/-- The state of an element: 0 in service, 1 bench, 2 sent off. -/
def mapState (m : List (Nat × Word)) (kind i : Nat) : Nat := mapBits m (stateAt kind i).1 (stateAt kind i).2 2

/-- Set the state of an element. -/
def mapSetState (m : List (Nat × Word)) (kind i v : Nat) : List (Nat × Word) := mapPut m (stateAt kind i).1 (stateAt kind i).2 2 v

/-- Lane, engine, tile position and block index of a channel. -/
def mapLane (m : List (Nat × Word)) (c : Nat) : Nat := mapBits m (4 + c) 24 8
def mapEngine (m : List (Nat × Word)) (c : Nat) : Nat := mapBits m (4 + c) 18 6
def mapPos (m : List (Nat × Word)) (c : Nat) : Nat := mapBits m (4 + c) 10 8
def mapBlock (m : List (Nat × Word)) (c : Nat) : Nat := mapBits m (4 + c) 6 4

/-- Physical tile and role of a position. -/
def mapTile (m : List (Nat × Word)) (p : Nat) : Nat := mapBits m (0xD5 + p / 2) (16 * (p % 2)) 9
def mapRole (m : List (Nat × Word)) (p : Nat) : Nat := mapBits m (0xD5 + p / 2) (16 * (p % 2) + 13) 3

/-- Number of elements of a kind. -/
def kindSize (kind : Nat) : Nat := if kind = 0 then 208 else if kind = 1 then 52 else if kind = 2 then 288 else 3168

/-- Where the channel's block of R161 begins in field memory (R303). -/
def State.chanBase (s : State) (c : Nat) : Nat := mapPos s.lnp.map c * 0x40000 + mapBlock s.lnp.map c * 0x6000

/-- LNP_STATUS, LNP_EPOCH and LNP_COPY as the copies stand (R310). -/
def State.showMap (s : State) : State :=
  let s := s.wr LNP_EPOCH (mapGet s.lnp.map 1)
  let s := s.setFlag LNP_STATUS_FACTORY (mapBits s.lnp.map 2 0 1 = 1)
  loop 3 (fun i s =>
    let m := nth [] s.lnp.copies i
    let s := s.setFld (LNP_COPY_TILE i) (mapTile s.lnp.map (20 + i))
    s.setFld (LNP_COPY_EPOCH_LO i) (mapBits m 1 0 16)) s

/-- Write a changed map with EPOCH + 1 into all three copies (R305). -/
def State.writeMap (s : State) (m : List (Nat × Word)) : State :=
  let m := mapSet m 1 (mapGet s.lnp.map 1 + 1)
  let m := mapSet m 0x1FF (mapCrc m)
  ({ s with lnp := { s.lnp with map := m, copies := [m, m, m] } } : State).showMap

/-- Count an element out of one pool and into another (R310). -/
def State.pool (s : State) (k src dst : Nat) : State :=
  let f := fun r => if r = 0 then LNP_POOL_IN_SERVICE k else if r = 1 then LNP_POOL_BENCH_LEFT k else LNP_POOL_SENT_OFF k
  let s := s.setFld (f src) (s.fld (f src) - 1)
  s.setFld (f dst) (s.fld (f dst) + 1)

/-- The map without FACTORY. -/
def notFactory (m : List (Nat × Word)) : List (Nat × Word) := mapPut m 2 0 1 0

/-! ### Column converters on the bench (R212) -/

/-- The byte of a converter group in the map, in the layout of IMG_CONV_GROUP bits [31:30] and [20:16] (R303). -/
def mapGroup (m : List (Nat × Word)) (g : Nat) : Nat := mapBits m (0x167 + g / 4) (8 * (g % 4)) 8

/-- Show a converter group as the map holds it (R212, R303), with the converters of the group that are sent off. -/
def State.showGroup (s : State) (g : Nat) : State :=
  let b := mapGroup s.lnp.map g
  let s := (s.setFld (IMG_CONV_GROUP_ROLE g) (b / 64)).setFld (IMG_CONV_GROUP_SLOT g) (b % 32)
  s.setFld (IMG_CONV_GROUP_SENT_OFF g) ((s.img.convOff.filter (fun (p : Nat) => p / 32 = g)).length)

/-- The role of a converter: a column converter (0 to 3,071) or bench converter 3,072 + g. -/
def State.converterRole (s : State) (i : Nat) : Nat :=
  if i < 3072 then (if s.img.convOff.contains i then 2 else 0)
  else
    let r := mapGroup s.lnp.map (i - 3072) / 64
    if r = 0 then 1 else if r = 1 then 0 else 2

/-- The pixel a converter serves. -/
def State.converterPlace (s : State) (i : Nat) : Nat :=
  if i < 3072 then i else 32 * (i - 3072) + mapGroup s.lnp.map (i - 3072) % 32

/-- A converter is marked uncalibrated by a split in its entry of the record (R318). -/
def State.converterSplit (s : State) (i : Nat) : Bool := s.cal.splits.any (fun (w : Nat) => w = 17664 + 2 * i || w = 17665 + 2 * i)

/-- Set a group's byte and write the map. -/
def State.writeGroup (s : State) (g b : Nat) : State :=
  (s.writeMap (mapPut (notFactory s.lnp.map) (0x167 + g / 4) (8 * (g % 4)) 8 b)).showGroup g

/-- A converter is sent off (R212, R306): its pixel is marked from the next colour line on, and the bench converter of its group
takes over at the next frame start. -/
def State.converterOff (s : State) (i cause : Nat) : State :=
  if s.converterRole i = 2 then s
  else
    let s := s.wrN LNP_LAST (3 * 2 ^ 28 + i * 2 ^ 16 + cause)
    let s : State := { s with lnp := { s.lnp with errors := s.lnp.errors.filter (fun (e : Nat × Nat) => e.1 ≠ 4096 * 3 + i) } }
    if i < 3072 then
      let g := i / 32
      let busy := mapGroup s.lnp.map g / 64 ≠ 0 || s.img.convPending.any (fun (p : Nat) => p / 32 = g)
      let s : State := { s with img := { s.img with convOff := s.img.convOff ++ [i], defectDue := s.img.defectDue ++ [i],
                                                    convPending := if busy then s.img.convPending else s.img.convPending ++ [i] } }
      ((s.pool 3 0 2).showGroup g).raiseIf busy EV_IMG_CONV_BENCH_EMPTY
    else
      let g := i - 3072
      let b := mapGroup s.lnp.map g
      if b / 64 = 1 then
        let s : State := { s with img := { s.img with defectDue := s.img.defectDue ++ [32 * g + b % 32] } }
        ((s.pool 3 0 2).writeGroup g (128 + b % 32)).raise EV_IMG_CONV_BENCH_EMPTY
      else
        -- a takeover that still waits for a frame start finds the bench used
        let waits := s.img.convPending.any (fun (p : Nat) => p / 32 = g)
        let s : State := { s with img := { s.img with convPending := s.img.convPending.filter (fun (p : Nat) => p / 32 ≠ g) } }
        ((s.pool 3 1 2).writeGroup g 128).raiseIf waits EV_IMG_CONV_BENCH_EMPTY

/-- A converter's transient error and replays (R306). -/
def State.converterTransient (s : State) (i : Nat) : State :=
  let key := 4096 * 3 + i
  let win := s.fld LNP_CFG_ERR_WIN * 256000000000
  let l := s.lnp.errors.filter (fun (e : Nat × Nat) => s.now ≤ e.2 + win) ++ [(key, s.now)]
  let s : State := { s with lnp := { s.lnp with errors := l } }
  if s.fld LNP_CFG_ERR_LIMIT ≤ (l.filter (fun e => e.1 = key)).length then s.converterOff i 0x01 else s

/-- Replays of a converter test (R212, R306). -/
def State.converterReplays (s : State) (i n : Nat) : State :=
  let key := 4096 * 3 + i
  let win := s.fld LNP_CFG_REPLAY_WIN * 256000000000
  let l := s.lnp.replays.filter (fun (e : Nat × Nat) => s.now ≤ e.2 + win) ++ List.replicate n (key, s.now)
  let s : State := { s with lnp := { s.lnp with replays := l } }
  if s.fld LNP_CFG_REPLAY_MAX < (l.filter (fun e => e.1 = key)).length then s.converterOff i 0x02 else s

/-- What a frame start does: bench converters take over (R212). -/
def State.convertersFrameStart (s : State) : State :=
  let l := s.img.convPending
  let s : State := { s with img := { s.img with convPending := [], defectDue := s.img.defectDue.filter (fun (p : Nat) => !l.contains p) } }
  l.foldl (fun s p =>
    let s := (s.pool 3 1 0).writeGroup (p / 32) (64 + p % 32)
    (s.setBit (IMG_DEFECT (p / 32)) (p % 32) (s.converterSplit (3072 + p / 32))).raise EV_IMG_CONV_SENT_OFF) s

/-- What a colour line does: pixels of converters sent off are marked (R212). -/
def State.defectLine (s : State) : State :=
  let l := s.img.defectDue
  let s : State := { s with img := { s.img with defectDue := [] } }
  l.foldl (fun s p => s.setBit (IMG_DEFECT (p / 32)) (p % 32) true) s

/-- The converter groups as a new map places them (R305, R321). -/
def State.convertersFromMap (s : State) : State :=
  let off := (List.range 96).filterMap (fun g =>
    let b := mapGroup s.lnp.map g
    if b / 64 = 1 then some (32 * g + b % 32) else none)
  let s : State := { s with img := { s.img with convOff := off, convPending := [], defectDue := [] } }
  let s := loop 96 (fun w s => s.wr (IMG_DEFECT w) 0) s
  let gone := ((List.range 96).filter (fun g => mapGroup s.lnp.map g / 64 = 2)).length
  let s := ((s.setFld (LNP_POOL_IN_SERVICE 3) 3072).setFld (LNP_POOL_BENCH_LEFT 3) (96 - off.length - gone)).setFld
    (LNP_POOL_SENT_OFF 3) (off.length + gone)
  loop 96 (fun g s => s.showGroup g) s

/-! ### Substitution (R305 to R308) -/

/-- The bench element taken for a kind: the lowest number; for a lane one with CAL_VALID first (R307). A lane under
reselection comes last (R314). -/
def State.benchPick (s : State) (kind : Nat) : Option Nat :=
  let l := (List.range (kindSize kind)).filter (fun i => mapState s.lnp.map kind i = 1)
  if kind = 0 then
    let busy := fun i => s.flag CAL_STATUS_RESEL_BUSY && s.cal.resel = some (0, i)
    let free := l.filter (fun i => !busy i)
    match free.filter (fun i => s.flag (TDC_LANE_STATUS_CAL_VALID i)) with
    | i :: _ => some i
    | [] => match free with
      | i :: _ => some i
      | [] => l.head?
  else l.head?

/-- Channels that an element serves in the map in force. -/
def State.servedBy (s : State) (kind i : Nat) : List Nat :=
  (List.range 192).filter (fun c =>
    if kind = 0 then mapLane s.lnp.map c = i
    else if kind = 1 then mapEngine s.lnp.map c = i
    else mapTile s.lnp.map (mapPos s.lnp.map c) = i)

/-- The position a physical tile stands at. -/
def State.posOf (s : State) (tile : Nat) : Option Nat := (List.range 256).find? (fun p => mapTile s.lnp.map p = tile)

/-- The channel words with an element replaced. -/
def replaceElement (m : List (Nat × Word)) (kind i n : Nat) (chans : List Nat) (pos : Option Nat) : List (Nat × Word) :=
  if kind = 0 then chans.foldl (fun m c => mapPut m (4 + c) 24 8 n) m
  else if kind = 1 then chans.foldl (fun m c => mapPut m (4 + c) 18 6 n) m
  else match pos with
    | some p => mapPut m (0xD5 + p / 2) (16 * (p % 2)) 9 n
    | none => if i = n then m else m

/-- End an abandoned reselection with FAIL (R314). -/
def State.reselAbandon (s : State) : State :=
  match s.cal.resel with
  | none => s
  | some (k, i) =>
    let s : State := { s with cal := { s.cal with resel := none } }
    let s := (s.wrN CAL_RESEL_STATUS (2 ^ 30 + k * 2 ^ 24 + i)).setFlag CAL_STATUS_RESEL_BUSY false
    s.raise EV_CAL_RESEL_DONE

/-- A channel-line whose work is discarded: it carries the substitution status and no range (R32). -/
def ChanLine.discard (x : ChanLine) : ChanLine :=
  { x with void := true, subst := true, coarse := [], held := [], runs := [], windows := [], fine := [], pile := [], support := [],
           nC := 0, nZ := 0, returns := [], stage := max 3 x.stage }

/-- A channel-line has work in flight on an element of a kind (R32): lanes and tiles up to the collection, engines up to the end of the chain. -/
def ChanLine.worksOn (x : ChanLine) (kind i : Nat) : Bool :=
  if kind = 0 then x.lane = i && decide (x.stage < 3) else if kind = 1 then x.engine = i && decide (x.stage < 5) else decide (x.stage < 4)

/-- The records of the line in which a fault occurred carry the substitution status and no range, and so do those of older lines whose work in
flight on the element is discarded (R32; log entry 146). -/
def State.markSubst (s : State) (kind i : Nat) (chans : List Nat) : State :=
  { s with hst := { s.hst with jobs := s.hst.jobs.map (fun (e : Nat × ChanLine) =>
                                 if chans.contains (e.1 % 192) && (e.1 / 192 = s.hst.lineSeq || e.2.worksOn kind i) then (e.1, e.2.discard)
                                 else e) } }

/-- A lane, engine or tile is sent off (R306, R307, R308). -/
def State.sendOff (s : State) (kind i cause : Nat) : State :=
  let role := mapState s.lnp.map kind i
  if role = 2 || kindSize kind ≤ i then s
  else
    let s := s.wrN LNP_LAST (kind * 2 ^ 28 + i * 2 ^ 16 + cause)
    let s := s.raise EV_LNP_SENT_OFF
    let s := s.pool kind role 2
    let s : State := { s with lnp := { s.lnp with errors := s.lnp.errors.filter (fun (e : Nat × Nat) => e.1 ≠ 4096 * kind + i) } }
    let m := notFactory (mapSetState s.lnp.map kind i 2)
    if role = 1 then
      -- a sent-off lane is held in reset (R123)
      let s := if kind = 0 then (s.laneReset i).setFld (TDC_LANE_STATUS_ROLE i) 2 else s
      (if kind = 0 && s.cal.resel = some (0, i) then s.reselAbandon else s).writeMap m
    else
      let chans := s.servedBy kind i
      let pos := if kind = 2 then s.posOf i else none
      let sub := s.benchPick kind
      -- a change that was to bring this element in is overtaken by this one (R308)
      let s : State := { s with lnp := { s.lnp with changes := s.lnp.changes.filter (fun (c : LineupChange) => !(c.kind = kind && c.sub = some i)) } }
      let copying := match pos with
        | some p => if mapRole s.lnp.map p = 0 then none else some p
        | none => none
      let s : State := { s with lnp := { s.lnp with changes := s.lnp.changes ++ [LineupChange.mk kind i sub chans 2 copying] } }
      let s := s.markSubst kind i chans
      match sub with
      | none => (s.raise EV_LNP_BENCH_EMPTY).writeMap m
      | some n =>
        let s := if kind = 0 && s.cal.resel = some (0, n) then s.reselAbandon else s
        let s := s.pool kind 1 0
        s.writeMap (replaceElement (mapSetState m kind n 0) kind i n chans pos)

/-- An element's transient error (R306, cause 0x01). -/
def State.reportTransient (s : State) (kind i : Nat) : State :=
  let key := 4096 * kind + i
  let win := s.fld LNP_CFG_ERR_WIN * 256000000000
  let l := s.lnp.errors.filter (fun (e : Nat × Nat) => s.now ≤ e.2 + win) ++ [(key, s.now)]
  let s : State := { s with lnp := { s.lnp with errors := l } }
  if s.fld LNP_CFG_ERR_LIMIT ≤ (l.filter (fun e => e.1 = key)).length then s.sendOff kind i 0x01 else s

/-- Replays that an error of an element needs (R306, cause 0x02). -/
def State.reportReplays (s : State) (kind i n : Nat) : State :=
  let key := 4096 * kind + i
  let win := s.fld LNP_CFG_REPLAY_WIN * 256000000000
  let l := s.lnp.replays.filter (fun (e : Nat × Nat) => s.now ≤ e.2 + win) ++ List.replicate n (key, s.now)
  let s : State := { s with lnp := { s.lnp with replays := l } }
  if s.fld LNP_CFG_REPLAY_MAX < (l.filter (fun e => e.1 = key)).length then s.sendOff kind i 0x02 else s

/-- A channel's records carry SUBST: a change that touches it awaits its changeover (R32, R307). -/
def State.inSubst (s : State) (c : Nat) : Bool := s.lnp.changes.any (fun (x : LineupChange) => x.chans.contains c)

/-- A channel is DARK by the lineup (R32). -/
def State.lineupDark (s : State) (c : Nat) : Bool := s.lnp.dark.contains c

/-- Items lost from the handshake FIFOs of class `k` (R297). -/
def State.lostItems (s : State) (k n : Nat) : State := if n = 0 then s else s.wrN (BGT_LOST_ITEMS k) (s.rdN (BGT_LOST_ITEMS k) + n)

/-- A lane's calibration returns are lost with its reset (R297). -/
def State.resetReturns (s : State) (l : Nat) : State :=
  let n := (s.tdc.returns.filter (fun (e : CalReturn) => e.lane = l)).length
  ({ s with tdc := { s.tdc with returns := s.tdc.returns.filter (fun (e : CalReturn) => e.lane ≠ l) } } : State).lostItems 1 n

/-- A split mark stands on the channel (R318). -/
def State.splitUncal (s : State) (c : Nat) : Bool := s.bit (CAL_UNCAL (c / 32)) (c % 32)

/-- The channel-line that line number `line` opens for a channel, under key `key`: it takes the lane, engine and set in force, and is not binned
where the line two before still holds its buffer set (R163). -/
def State.newJob (s : State) (c line key : Nat) : ChanLine :=
  let l := s.laneOf c
  let set := s.laneSet l
  let held := s.hst.jobs.any (fun (e : Nat × ChanLine) => e.1 % 192 = c && e.1 ≠ key && e.2.stage < 4 && !e.2.notBinned
    && (match s.lineOf (e.1 / 192) with | some k => k.line % 2 = line % 2 | none => false))
  { ChanLine.init with
    lane := l, engine := mapEngine s.lnp.map c, set := set, ownDue := (s.lane l).ownDue, linkSkew := s.fldI (TDC_LINK_SKEW_V c),
    depth := (s.chan c).depth, spads := maskCount (s.chan c).mask, dark := s.lineupDark c || (s.chan c).belowMin,
    detOff := !s.flag DET_CTRL_ENABLE, subst := s.inSubst c, uncal := !set.valid || s.splitUncal c, notBinned := held,
    amb := tabGet 0 s.hst.amb c }

/-- What a changeover does to a channel's lines (R32, R297): lines of the gap deliver no range, with `all` every line not yet collected; older
lines not yet collected go to the engine now in place; the line that starts is opened anew on the elements now in place, and its picker takes
the mean of the same line (R154). -/
def State.dropChannelWork (s : State) (all : Bool) (c : Nat) : State :=
  let cur := 192 * s.hst.lineSeq + c
  { s with hst := { s.hst with jobs := s.hst.jobs.map (fun (e : Nat × ChanLine) =>
                                 if e.1 % 192 ≠ c then e
                                 else if e.1 = cur then (e.1, { s.newJob c (s.rdN GLB_LINE) cur with fresh := true })
                                 else if e.2.subst || (all && decide (e.2.stage < 4)) then (e.1, e.2.discard)
                                 else if e.2.stage < 4 then (e.1, { e.2 with engine := mapEngine s.lnp.map c })
                                 else e) } }

/-- Records a channel has not consumed, oldest first. -/
def State.outstanding (s : State) (c : Nat) : List ShotRec :=
  let k := tabGet 0 s.hst.next c
  s.hst.posted.filter (fun (r : ShotRec) => k ≤ r.seq)

/-- The channel consumes its records up to and including number `seq`. -/
def State.consumed (s : State) (c seq : Nat) : State :=
  { s with hst := { s.hst with next := tabSet 0 s.hst.next c (seq + 1) } }

/-- The handshake FIFOs of the engine or tile that leaves service are reset (R297; log entry 147): the shot records of lines before this one that
wait for a tile's histogram engine (class 2), the lines handed off and not collected (class 3), and an engine's return lists that wait for the
colour means (class 4). -/
def State.lostHandOffs (s : State) (x : LineupChange) : State :=
  let jobs := s.hst.jobs.filter (fun (e : Nat × ChanLine) => x.chans.contains (e.1 % 192) && !e.2.void)
  let count := fun (k : Nat) => (jobs.filter (fun e => e.2.stage = k)).length
  let s := s.lostItems 3 (count 3)
  if x.kind = 1 then s.lostItems 4 (count 5)
  else x.chans.foldl (fun s c =>
    let old := (s.outstanding c).filter (fun r => r.lineSeq < s.hst.lineSeq)
    match old.getLast? with
    | some r => (s.lostItems 2 old.length).consumed c r.seq
    | none => s) s

/-- A lane with its FIFOs is reset as it leaves service (R124, R145, R297). -/
def State.leaveService (s : State) (l : Nat) : State := ((s.laneReset l).resetReturns l).raise EV_FAB_LOST

/-- The lane that a channel left takes the role and the channel the map and the crossbar now give it (R124). -/
def State.showOldLane (s : State) (l : Nat) : State :=
  match (List.range 192).find? (fun c => s.laneOf c = l) with
  | some c => (s.setFld (TDC_LANE_STATUS_ROLE l) 0).setFld (TDC_LANE_STATUS_CHANNEL l) c
  | none => (s.setFld (TDC_LANE_STATUS_ROLE l) (mapState s.lnp.map 0 l)).setFld (TDC_LANE_STATUS_CHANNEL l) 0xFF

/-- The changeover of one channel's lane (R124): the crossbar leads to the new lane, the old one is reset and shown as the map has it, and the
new lane's event lane begins empty. -/
def State.crossbar (s : State) (c : Nat) : State :=
  let old := s.laneOf c
  let new := mapLane s.lnp.map c
  if old = new then s
  else
    let s := ((s.setFld (TDC_XBAR_LANE c) new).leaveService old).showOldLane old
    let x := s.lane new
    let s := s.setLane new { x with out := [], forming := [], newItem := true, noItem := x.noItem || x.openWin }
    (s.setFld (TDC_LANE_STATUS_ROLE new) 0).setFld (TDC_LANE_STATUS_CHANNEL new) c

/-- An element of the channel is sent off with no substitute (R32). -/
def State.channelDead (s : State) (c : Nat) : Bool :=
  let m := s.lnp.map
  mapState m 0 (mapLane m c) = 2 || mapState m 1 (mapEngine m c) = 2 || mapState m 2 (mapTile m (mapPos m c)) = 2

/-- Clear bytes of memory from `lo` to below `hi`: they read 0 again. -/
def State.clearMem (s : State) (lo hi : Nat) : State :=
  { s with mem := tabDrop lo hi s.mem, poison := s.poison.filter (fun a => a * 8 < lo || hi ≤ a * 8) }

/-- One change takes effect (R124, R307). -/
def State.changeover (s : State) (x : LineupChange) : State :=
  let s := x.chans.foldl (fun s c => s.crossbar c) s
  -- a lane with no substitute leaves service all the same (R32, R123)
  let s := if x.kind = 0 && mapState s.lnp.map 0 x.index = 2 && s.laneRole x.index ≠ 2 then
      ((s.leaveService x.index).setFld (TDC_LANE_STATUS_ROLE x.index) 2).setFld (TDC_LANE_STATUS_CHANNEL x.index) 0xFF
    else s
  let s := if (x.kind = 1 || x.kind = 2) && !x.chans.isEmpty then (s.lostHandOffs x).raise EV_FAB_LOST else s
  let dead := x.chans.filter s.channelDead
  let s : State := { s with lnp := { s.lnp with dark := (s.lnp.dark.filter (fun (c : Nat) => !x.chans.contains c)) ++ dead } }
  -- the engine discards what it had begun of the channels' lines (R32, R297)
  let s := x.chans.foldl (fun s c => s.dropChannelWork (x.index = 0xFFF) c) s
  let s := match if x.kind = 2 && x.copying.isNone then x.sub.bind s.posOf else none with
    | some p => s.clearMem (p * 0x40000) ((p + 1) * 0x40000)
    | none => s
  if x.sub.isSome then s.raise EV_LNP_SUBSTITUTED else s

/-- What a line start does: pending changes come one line start nearer (R32). -/
def State.lineupLineStart (s : State) : State :=
  { s with lnp := { s.lnp with changes := s.lnp.changes.map (fun (x : LineupChange) => { x with left := x.left - 1 }) } }

/-- The order lane, engine, tile (R308). -/
def State.dueChanges (s : State) : List LineupChange :=
  let due := s.lnp.changes.filter (fun (x : LineupChange) => x.left = 0 && x.copying.isNone)
  due.filter (fun x => x.kind = 0) ++ due.filter (fun x => x.kind = 1) ++ due.filter (fun x => 2 ≤ x.kind)

/-- Every change that is due takes effect (R307, R308). -/
def State.changeovers (s : State) : State :=
  let due := s.dueChanges
  let s : State := { s with lnp := { s.lnp with changes := s.lnp.changes.filter (fun (x : LineupChange) => !(x.left = 0 && x.copying.isNone)) } }
  due.foldl (fun s x => s.changeover x) s

/-- A new map is in force: channels whose placement differs are listed, and change over (R305). -/
def State.adoptMap (s : State) (old : List (Nat × Word)) : State :=
  let m := s.lnp.map
  let moved := (List.range 192).filter (fun c =>
    mapGet m (4 + c) ≠ mapGet old (4 + c) || mapTile m (mapPos m c) ≠ mapTile old (mapPos old c))
  let s := moved.foldl (fun s c => s.setBit (LNP_CHANGED (c / 32)) (c % 32) true) s
  let s := loop 208 (fun l s =>
    let r := mapState m 0 l
    -- lanes that serve no channel change their role at once; the others at the changeover
    if s.laneRole l ≠ r && (r ≠ 0) && (s.fld (TDC_LANE_STATUS_CHANNEL l) = 0xFF) then s.setFld (TDC_LANE_STATUS_ROLE l) r else s) s
  let count := fun k r => ((List.range (kindSize k)).filter (fun i => mapState m k i = r)).length
  let s := loop 3 (fun k s => ((s.setFld (LNP_POOL_IN_SERVICE k) (count k 0)).setFld (LNP_POOL_BENCH_LEFT k) (count k 1)).setFld
    (LNP_POOL_SENT_OFF k) (count k 2)) s
  let s : State := { s with lnp := { s.lnp with changes := if moved.isEmpty then [] else [⟨0, 0xFFF, none, moved, 2, none⟩] } }
  s.convertersFromMap

/-- The factory default lineup takes effect with the EPOCH given (R305, R419). -/
def State.factoryLineup (s : State) (epoch : Nat) : State :=
  let old := s.lnp.map
  let m := mapSet [] 1 (BitVec.ofNat 32 epoch)
  let m := mapSet m 0x1FF (mapCrc m)
  (({ s with lnp := { s.lnp with map := m, copies := [m, m, m] } } : State).showMap).adoptMap old

/-- A map carried in an imported record takes effect (R304, R321). -/
def State.importMap (s : State) (m : List (Nat × Word)) : State :=
  let old := s.lnp.map
  let m := mapSet m 0x1FF (mapCrc m)
  let s := ({ s with lnp := { s.lnp with map := m, copies := [m, m, m] } } : State).showMap
  (s.setFlag LNP_STATUS_SPLIT false).adoptMap old

/-- A check of the three copies (R305). -/
def State.lineupCheck (s : State) : State :=
  let copies := s.lnp.copies
  let ok := copies.filter (fun m => mapGet m 0x1FF = mapCrc m)
  let s := s.setFld LNP_STATUS_COPY_OK ((List.range 3).foldl (fun a i =>
    let m := nth [] copies i
    a + 2 ^ i * b2n (mapGet m 0x1FF = mapCrc m)) 0)
  let s := loop 3 (fun i s =>
    let m := nth [] copies i
    s.setFlag (LNP_COPY_CRC_OK i) (mapGet m 0x1FF = mapCrc m)) s
  let pairs := ok.filter (fun m => 2 ≤ (ok.filter (fun n => n = m)).length)
  let old := s.lnp.map
  let choose := fun (s : State) (m : List (Nat × Word)) =>
    let s := ({ s with lnp := { s.lnp with map := m, copies := [m, m, m] } } : State).showMap
    let s := if m = old then s else s.adoptMap old
    loop 3 (fun i s => s.setFlag (LNP_COPY_CRC_OK i) true) s
  match pairs with
  | m :: _ => choose s m
  | [] =>
    match ok with
    | [m] => (choose s m).raise EV_LNP_REPAIR
    | _ =>
      let top := copies.foldl (fun a m => max a (mapGet m 1).toNat) 0
      let s := s.factoryLineup (top + 1)
      ((loop 3 (fun i s => s.setFlag (LNP_COPY_CRC_OK i) true) s).setFlag LNP_STATUS_SPLIT true).raise EV_LINEUP_SPLIT

/-- The copies of the map with the words that read other than the device wrote them. -/
def State.upsetCopies (s : State) (upsets : List (Fin 3 × Fin 512 × Word)) : List (List (Nat × Word)) :=
  upsets.foldl (fun (l : List (List (Nat × Word))) (e : Fin 3 × Fin 512 × Word) =>
    setNth l e.1 (mapSet (nth [] l e.1) e.2.1 e.2.2)) s.lnp.copies

/-- LNP_QUERY_DATA of an element (R310). -/
def State.elementView (s : State) (kind i : Nat) : Word :=
  let m := s.lnp.map
  let key := 4096 * kind + i
  let errs := (s.lnp.errors.filter (fun (e : Nat × Nat) => e.1 = key && s.now ≤ e.2 + s.fld LNP_CFG_ERR_WIN * 256000000000)).length
  let reps := (s.lnp.replays.filter (fun (e : Nat × Nat) => e.1 = key && s.now ≤ e.2 + s.fld LNP_CFG_REPLAY_WIN * 256000000000)).length
  let role := if kind < 3 then mapState m kind i else s.converterRole i
  let place :=
    if kind = 0 then ((List.range 192).find? (fun c => mapLane m c = i)).getD 0xFFFFF
    else if kind = 1 then ((List.range 192).find? (fun c => mapEngine m c = i)).getD 0xFFFFF
    else if kind = 2 then (s.posOf i).elim 0xFFFFF (fun p => p * 256 + mapRole m p)
    else s.converterPlace i
  BitVec.ofNat 32 (role * 2 ^ 30 + (min 63 errs) * 2 ^ 24 + (min 15 reps) * 2 ^ 20 + (if role = 0 || kind = 2 then place else 0xFFFFF))

/-- A word is protected from BAR2 writes (R363): HIST and SYSTEM positions, and the LPDDR5X regions of the map. -/
def State.bar2Protected (s : State) (o : Nat) : Bool :=
  if o < 0x4000000 then mapRole s.lnp.map (o / 0x40000) ≤ 1
  else
    let a := o - 0x100000000
    (List.range 8).any (fun i =>
      let b := mapBits s.lnp.map (0x17F + i) 16 16 * 0x100000
      let n := mapBits s.lnp.map (0x17F + i) 0 16 * 0x100000
      decide (b ≤ a) && decide (a < b + n))

/-- A write of the BGT block (R301, R309). -/
def State.bgtWrite (s : State) (off : Nat) (v : Word) : State :=
  if off = BGT_COMMIT then (if v.toNat.testBit 0 then s.bgtCommit else s) else s.plainWrite off off v

/-- A write of the LNP block (R310). -/
def State.lnpWrite (s : State) (off : Nat) (v : Word) : State :=
  if off = LNP_QUERY then { s with lnp := { s.lnp with query := (v.toNat / 2 ^ 28, v.toNat % 4096) } } else s.plainWrite off off v

/-! ### The meanings -/

/-- OVER_START (R298, R299, R301, R302): BGT_OVER periods after the over before it started; `rate` is what the replica handshake ring
measured. -/
def execOverStart (rate : BitVec 16) (s : State) : Host.Outcome State Fault Refusal :=
  done (s.inCore (fun s => (s.advance (s.bgt.overStart + 2560 * s.fldF BGT_OVER_V)).overStart rate.toNat))

/-- TRANSFER_GRANT (R298, R299): classes `waiting` have a request at the port; `bad`: the word fails its parity in a FIFO of class 5, 6 or 7
(R294). -/
def execTransferGrant (t port : Nat) (waiting : BitVec 32) (bad : Option (Fin 3)) (s : State) : Host.Outcome State Fault Refusal :=
  done (s.inCore (fun s =>
    let s := (s.advance t).grant port waiting
    match bad with
    | some k => s.classParity (5 + k) true
    | none => s))

/-- BUDGET_COMMIT (R301). -/
def execBudgetCommit (p : Port) (s : State) : Host.Outcome State Fault Refusal :=
  done (s.hostGate p BGT_COMMIT false (fun s => s.bgtWrite BGT_COMMIT 1))

/-- DCF_WRITE (R295, R296): a writer that finds FULL holds its entry until FULL clears. -/
def execDcfWrite (i : Fin 24) (data : BitVec 64) (s : State) : Host.Outcome State Fault Refusal :=
  done (s.inCore (fun s => s.setDcf i (s.dcf i ++ [(data, false)])))

/-- DCF_READ (R295, R296): an entry that fails its parity is delivered with a poison indication. -/
def execDcfRead (i : Fin 24) (parityFails : Bool) (s : State) : Host.Outcome State Fault Refusal :=
  done (s.inCore (fun s =>
    match s.dcf i with
    | [] => s
    | _ :: t =>
      let s := s.setDcf i t
      if parityFails then (s.setFlag (BGT_DCF_POISON_SEEN i) true).bump (BGT_PARITY_V 8) 1 else s))

/-- SUBSTITUTION_CHANGEOVER (R307, R32, R124): at the second line start after the decision. -/
def execSubstitutionChangeover (s : State) : Host.Outcome State Fault Refusal := done (s.inCore State.changeovers)

/-- ELEMENT_ERROR_REPORT (R306): element `i` of a kind reports an error: transient, permanent (with its cause), or one that
needs replays. -/
def execElementErrorReport (kind : Fin 4) (i : BitVec 12) (e : ElementError) (s : State) : Host.Outcome State Fault Refusal :=
  done (s.inCore (fun s =>
    if kindSize kind ≤ i.toNat then s
    else match e with
      | .transient => if kind.val = 3 then s.converterTransient i.toNat else s.reportTransient kind i.toNat
      | .permanent cause => if kind.val = 3 then s.converterOff i.toNat cause.toNat else s.sendOff kind i.toNat cause.toNat
      | .replays n => if kind.val = 3 then s.converterReplays i.toNat n else s.reportReplays kind i.toNat n))

/-- TILE_COPY_DONE (R307): the words that failed their check during the copy are written poisoned. -/
def execTileCopyDone (pos : BitVec 8) (failed : List (BitVec 15)) (s : State) : Host.Outcome State Fault Refusal :=
  done (s.inCore (fun s =>
    match s.lnp.changes.find? (fun (x : LineupChange) => x.copying = some pos.toNat) with
    | none => s
    | some x =>
      let s : State := { s with lnp := { s.lnp with changes := s.lnp.changes.erase x } }
      let work := mapRole s.lnp.map pos.toNat ≠ 1
      let s := if work then
          { s with poison := failed.foldl (fun l w => if l.contains (pos.toNat * 0x8000 + w.toNat) then l
                                                     else l ++ [pos.toNat * 0x8000 + w.toNat]) s.poison }
        else s
      s.changeover { x with copying := some pos.toNat }))

/-- LINEUP_CHECK (R305): one second after the check before it; `upsets` are the words of a copy that read other than the lineup wrote
them. -/
def execLineupCheck (upsets : List (Fin 3 × Fin 512 × Word)) (s : State) : Host.Outcome State Fault Refusal :=
  done (s.inCore (fun s =>
    let s := s.advance (s.lnp.checkAt + 256000000000)
    ({ s with lnp := { s.lnp with checkAt := s.now, copies := s.upsetCopies upsets } } : State).lineupCheck))

/-- SCRUB_PASS (R306): LNP_SCRUB seconds after the pass before it. Corrected words are written back. Each of `words` is an uncorrectable word
of an in-service or bench tile: the tile, the syndrome of the read and that of the re-read, 0 where that is good. A word that fails again
with the same syndrome sends its tile off; every other is a replay. -/
def execScrubPass (words : List (BitVec 9 × BitVec 10 × BitVec 10)) (s : State) : Host.Outcome State Fault Refusal :=
  done (s.inCore (fun s =>
    let s := s.advance (s.lnp.scrubAt + 256000000000 * s.fld LNP_SCRUB_V)
    let s : State := { s with lnp := { s.lnp with scrubAt := s.now } }
    words.foldl (fun s w =>
      if 288 ≤ w.1.toNat || w.2.1 = 0 then s
      else if w.2.1 = w.2.2 then s.sendOff 2 w.1.toNat 0x04
      else s.reportReplays 2 w.1.toNat 1) s))

/-- LINEUP_QUERY (R310). -/
def execLineupQuery (p : Port) (kind : BitVec 4) (i : BitVec 12) (s : State) : Host.Outcome State Fault Refusal :=
  done (s.hostGate p LNP_QUERY false (fun s => s.lnpWrite LNP_QUERY (BitVec.ofNat 32 (kind.toNat * 2 ^ 28 + i.toNat))))

end Sys2Proof.Machine
end

