-- ==== Sys2Proof/Machine/Tdc.lean ====
section
/-! DEFINITION. The TDC lanes (05_tdc.md): the checks of a stop, reference stops, code-density calibration, what a line start
publishes, temperature compensation, and the event lanes. -/

namespace Sys2Proof.Machine

/-! ### Windows and stops (R125 to R127, R132) -/

/-- A window opens at S in every lane that is not sent off and not within 100 ns of its reset (R75, R123, R145), and writes OPEN (R128) where
the output stage has room for it and its CLOSE (R143; log entry 144). The item of a bench lane takes the place of the one before (log entry
145). In an idle slot the crossbar cuts the stop link off (R138). -/
def State.openLane (s : State) (l slot line start closeAt : Nat) (idle first : Bool) : State :=
  let role := s.laneRole l
  let x := s.lane l
  let held := match x.resetAt with | some t => decide (start < t + 25600) | none => false
  if role = 2 || held then s
  else
    let gen := idle || role = 1
    let before := if role = 0 then x.out else []
    let room := decide (before.length ≤ 66)
    let x := { x with openWin := true, slot := slot, line6 := line % 64, gen := gen, first := first, start := start,
                      closeAt := closeAt, taken := 0, overflow := false, countLimit := false, busyDrop := false, spacingDrop := false,
                      genCount := 0, lastGen := none, noItem := !room, resetAt := none,
                      out := if room then before ++ [openWord slot line] else before }
    let x := if first then { x with refStart := start, measDue := true, refA := none, refTries := 0, refB := none, bTries := 0, bFree := none } else x
    let s := s.setLane l x
    if gen then
      let c := s.fld (TDC_LANE_STATUS_CHANNEL l)
      { s with det := { s.det with stops := s.det.stops.filter (fun (e : StopEdge) => e.channel ≠ c) } }
    else s

/-- Count a dropped stop (R127); TDC_STOP_DROP once per frame. -/
def State.dropStop (s : State) (l : Nat) (f : Fld) : State :=
  let s := s.bump f 1
  if s.tdc.dropRaised then s
  else ({ s with tdc := { s.tdc with dropRaised := true } } : State).laneEvent EV_TDC_STOP_DROP l

/-- TDC_LANE_OVERFLOW once per frame (R143). -/
def State.overflowEvent (s : State) (l : Nat) : State :=
  if s.tdc.overflowRaised then s
  else ({ s with tdc := { s.tdc with overflowRaised := true } } : State).laneEvent EV_TDC_LANE_OVERFLOW l

/-- A calibration edge is counted (R134, R135, R138): ambient edges count over the last second; the run takes it while CAL_RUN
is 1. -/
def State.countEdge (s : State) (l fine : Nat) (generated : Bool) : State :=
  let x := s.lane l
  let x := if generated then x
    else { x with ambient := match x.ambient.getLast? with
                    | some (t, n) => if t = s.now then x.ambient.dropLast ++ [(t, n + 1)] else x.ambient ++ [(s.now, 1)]
                    | none => [(s.now, 1)] }
  if s.flag TDC_CTRL_CAL_RUN && x.edges < 16384 then
    let add := fun l => tabSet 0 l fine (tabGet 0 l fine + 1)
    s.setLane l (if x.second then { x with runB := add x.runB, edges := x.edges + 1 }
      else { x with runA := add x.runA, edges := x.edges + 1 })
  else s.setLane l x

/-- A stop at an open lane passes the checks of R127 in order, or is dropped. Its stamp goes into the output stage, which keeps one place for
the CLOSE of the open item (R143), and a bench lane's to its own counter (R134). `link`: the tick at which its macropixel issued it, after
which DEPTH may still grow (R112). -/
def State.takeStop (s : State) (l t coarse fine depth : Nat) (pile : Bool) (link : Option Nat) : State :=
  let x := (s.lane l).reference t
  let s := s.setLane l x
  if match x.lastTaken with | some u => decide (t < u + 256) | none => false then
    (s.setLane l { x with spacingDrop := true }).dropStop l (TDC_DROP_SPACING l)
  else if 4 ≤ (x.osc.filter (fun e => t < e)).length then (s.setLane l { x with busyDrop := true }).dropStop l (TDC_DROP_BUSY l)
  else if 16 ≤ x.taken then (s.setLane l { x with countLimit := true }).dropStop l (TDC_DROP_COUNT l)
  else if x.noItem || 65 < x.out.length then
    (((s.setLane l { x with overflow := true }).dropStop l (TDC_DROP_OVERFLOW l))).overflowEvent l
  else
    let grow := match link with | some e => x.grow ++ [(e, x.out.length + 1)] | none => x.grow
    let s := s.setLane l { x.launch t with taken := x.taken + 1, grow := grow, out := x.out ++ stampWords coarse fine x.taken depth pile }
    if s.laneRole l = 0 then s
    else s.countEdge l fine true

/-- The oldest stop in flight on a channel's stop link, and the others. -/
def takeEdge (c : Nat) : List StopEdge → Option (StopEdge × List StopEdge)
  | [] => none
  | e :: t =>
    if e.channel = c then some (e, t)
    else match takeEdge c t with
      | some (f, r) => some (f, e :: r)
      | none => none

/-! ### Code density (R134, R135, R138) -/

/-- Bin centre sums of two runs agree at every code (R135). -/
def agree (a b : Nat → Nat) (period tol : Nat) : Bool :=
  ((List.range 64).foldl (fun (acc : Nat × Nat × Bool) f =>
    let (sa, sb, ok) := acc
    let ea : Int := (4 * sa + 2 * a f : Nat)
    let eb : Int := (4 * sb + 2 * b f : Nat)
    (sa + a f, sb + b f, ok && decide ((ea - eb).natAbs * period * 16 ≤ tol * 65536 * 65536))) (0, 0, true)).2.2

/-- The judgement of a pair of runs (R135); `period` in 2^-16 tick. -/
def pairOk (a b : Nat → Nat) (period tol minCount maxCount topMax : Nat) : Bool :=
  (List.range 62).all (fun f => decide (minCount ≤ a f) && decide (minCount ≤ b f))
    && (List.range 64).all (fun f => decide (a f ≤ 4 * maxCount) && decide (b f ≤ 4 * maxCount))
    && decide (a 63 ≤ 4 * topMax) && decide (b 63 ≤ 4 * topMax) && agree a b period tol

/-- The table built from a pair of runs (R135). -/
def buildTable (a b : Nat → Nat) : List Nat :=
  ((List.range 64).foldl (fun (acc : Nat × List Nat) f =>
    (acc.1 + a f + b f, acc.2 ++ [min 65535 (2 * acc.1 + a f + b f)])) (0, [])).2

/-- A run of 16,384 edges completes (R135). -/
def State.runComplete (s : State) (l : Nat) : State :=
  let x := s.lane l
  if x.edges < 16384 then s
  else if !x.second then s.setLane l { x with second := true, edges := 0 }
  else
    let a := tabGet 0 x.runA
    let b := tabGet 0 x.runB
    let x := { x with second := false, edges := 0, runA := [], runB := [] }
    if pairOk a b (s.rdN (TDC_PERIOD l)) (s.fld TDC_CAL_CFG_AGREE_TOL) (s.fld TDC_CAL_CFG_MIN_COUNT) (s.fld TDC_CAL_CFG_MAX_COUNT)
        (s.fld TDC_CAL_CFG_TOP_MAX) then
      (s.setLane l { x with tableNext := some (buildTable a b) }).setFld (TDC_LANE_STATUS_FAIL_STREAK l) 0
    else
      let s := (s.setLane l x).laneEvent EV_TDC_CAL_FAIL l
      let k := s.fld (TDC_LANE_STATUS_FAIL_STREAK l) + 1
      if k = 2 then (s.setFld (TDC_LANE_STATUS_FAIL_STREAK l) 0).sendOff 0 l 0x03
      else s.setFld (TDC_LANE_STATUS_FAIL_STREAK l) k

/-! ### What a line start publishes (R131, R133, R135, R136, R138, R139, R140) -/

/-- Write a table of 64 entries to its registers (R147). -/
def State.writeTable (s : State) (l : Nat) (t : List Nat) : State :=
  loop 32 (fun m s => s.wrN (TDC_CAL_TABLE l m) (nth 0 t (2 * m + 1) * 65536 + nth 0 t (2 * m))) s

/-- An accepted table is published (R135). -/
def State.publishTable (s : State) (l : Nat) : State :=
  let x := s.lane l
  match x.tableNext with
  | none => s
  | some t =>
    let s := (s.setLane l { x with tableNext := none }).writeTable l t
    let s := (s.setFlag (TDC_LANE_STATUS_CAL_VALID l) true).setFld (TDC_LANE_STATUS_CAL_GEN l) (s.fld (TDC_LANE_STATUS_CAL_GEN l) + 1)
    (s.unsplit (128 + 40 * l) (168 + 40 * l)).calTouch

/-- A period lies in the band (R139): 1/256 tick against 2^-16 tick. -/
def State.inBand (s : State) (period : Nat) : Bool :=
  decide (s.fld TDC_BAND_MIN * 256 ≤ period) && decide (period ≤ s.fld TDC_BAND_MAX * 256)

/-- Rounded to the nearest integer, ties upward. -/
def ratRound (x : Rat) : Int := (x + 1 / 2).floor

/-- The mean of rationals. -/
def meanRat (l : List Rat) : Rat := if l.isEmpty then 0 else l.sum / (l.length : Rat)

/-- VTRIM and BASE of a lane (R139): answers the codes by which VTRIM rose. -/
def State.vtrimLane (s : State) (l : Nat) : State × Int :=
  let period := s.rdN (TDC_PERIOD l)
  let base0 := s.fld (TDC_VTRIM_BASE l)
  let base := if period < s.fld TDC_BAND_MIN * 256 then base0 - 1
    else if s.fld TDC_BAND_MAX * 256 < period then min 63 (base0 + 1) else base0
  let dt := s.reported (l / 26) - s.fldI TDC_VTRIM_CAL_TREF
  let want := clampI ((base : Int) + roundDiv (s.fldI TDC_VTRIM_CAL_TC * dt) 65536) 0 63
  let cur : Int := s.fld (TDC_VTRIM_VTRIM l)
  let x := s.lane l
  let mv : Int := if 0 < x.vtrimHold then 0 else if cur < want then 1 else if want < cur then -1 else 0
  let s := if base = base0 then s else s.setFld (TDC_VTRIM_BASE l) base
  let s := if mv = 0 then s else s.setFld (TDC_VTRIM_VTRIM l) (cur + mv).toNat
  let hold := if mv = 0 then x.vtrimHold - 1 else 63
  (s.setLane l { x with vtrimHold := hold, step := mv, ownDue := mv ≠ 0, meas := if mv = 0 then x.meas else [] }, mv)

/-- The period scaled for a VTRIM step (R131). -/
def State.scalePeriod (s : State) (period : Nat) (mv : Int) : Nat :=
  let step : Rat := (s.fld TDC_VTRIM_CAL_STEP : Rat) / 1048576
  (ratRound ((period : Rat) * (1 - step * (mv : Rat)))).toNat

/-- A lane publishes period and skew (R133), PERIOD_OK, and the range check of R140. -/
def State.publishLane (s : State) (l : Nat) : State :=
  let (s, mv) := s.vtrimLane l
  let x := s.lane l
  let old := s.rdN (TDC_PERIOD l)
  let s :=
    if mv ≠ 0 then s.wrN (TDC_PERIOD l) (s.scalePeriod old mv)
    else if x.meas.isEmpty then s
    else
      let p := ratRound (meanRat (x.meas.map (fun e => e.1)) * 65536)
      let k := ratRound (meanRat (x.meas.map (fun e => e.2)) * 16)
      (s.wrN (TDC_PERIOD l) p.toNat).setFldI (TDC_LANE_SKEW_V l) k
  let ok := s.inBand (s.rdN (TDC_PERIOD l))
  let s := if ok = s.flag (TDC_LANE_STATUS_PERIOD_OK l) then s else s.setFlag (TDC_LANE_STATUS_PERIOD_OK l) ok
  let v := s.fld (TDC_VTRIM_VTRIM l)
  let run := if !ok && (v = 0 || v = 63) then x.rangeRun + 1 else 0
  if run = 1024 then ((s.setLane l { x with rangeRun := 0 }).laneEvent EV_TDC_PERIOD_RANGE l).sendOff 0 l 0x05
  else if run = x.rangeRun then s else s.setLane l { x with rangeRun := run }

/-- Ambient edges of a lane over the last second (R138). -/
def State.ambientLane (s : State) (l : Nat) : State :=
  let x := s.lane l
  let keep := x.ambient.filter (fun e => s.now < e.1 + 256000000000)
  let n := (keep.map (fun e => e.2)).sum
  let s := if keep.length = x.ambient.length then s else s.setLane l { x with ambient := keep }
  if s.fld (TDC_CAL_EDGES_AMBIENT l) = min n 0x7FFFFF then s else s.setFld (TDC_CAL_EDGES_AMBIENT l) (min n 0x7FFFFF)

/-- What a line start does in the TDC block. -/
def State.tdcLineStart (s : State) : State :=
  let s := loop 208 (fun l s => s.publishTable l) s
  let s := loop 208 (fun l s => if s.laneRole l = 2 then s else s.publishLane l) s
  let s := loop 208 (fun l s => s.ambientLane l) s
  let low := (List.range 208).any (fun l => s.laneRole l = 0 && s.fld (TDC_CAL_EDGES_AMBIENT l) < s.fld TDC_AMB_REQ_V)
  (s.setFlag TDC_STATUS_AMB_LOW low).raiseIf (low && !s.flag TDC_STATUS_AMB_LOW) EV_TDC_AMB_LOW

/-- What a frame start does: the events raised at most once per frame may be raised again. -/
def State.tdcFrameStart (s : State) : State :=
  { s with tdc := { s.tdc with dropRaised := false, overflowRaised := false, parityRaised := false } }

/-! ### Event lanes (R141 to R144) -/

/-- The halfword that leaves the output stage next is word 1 of a stamp whose DEPTH may still grow: the tick at which it is complete, `w` ticks
after the stop (R112). -/
def Lane.headGrows (x : Lane) (w : Nat) : Option Nat := (x.grow.find? (fun e => e.2 = 0)).map (fun e => e.1 + w)

/-- A halfword of an in-service lane, once complete, enters the FIFO, forming a read word at 16 halfwords or at CLOSE (R141). -/
def State.pushHalf (s : State) (l : Nat) (bad : Bool) : State :=
  let x := s.lane l
  match x.out with
  | [] => s
  | h :: rest =>
    if 8 ≤ x.fifo.length || s.laneRole l ≠ 0 then s
    else
      let s := s.advance ((x.headGrows s.detKept.window).getD 0)
      let x := { x with grow := (x.grow.filter (fun (e : Nat × Nat) => e.2 ≠ 0)).map (fun (e : Nat × Nat) => (e.1, e.2 - 1)) }
      let forming := x.forming ++ [(h, bad)]
      if isClose h || forming.length = 16 then
        let w : ReadWord := ⟨forming, x.newItem, isClose h⟩
        let x := { x with out := rest, forming := [], newItem := isClose h, fifo := x.fifo ++ [w] }
        let s := (s.setLane l x).setFld (EVL_DEPTH_V l) x.fifo.length
        let n := (forming.filter (fun e => e.2)).length
        if n = 0 then s
        else
          let s := (s.bump (EVL_PARITY_V l) n).bump (BGT_PARITY_V 0) n
          let s := loop n (fun _ s => s.reportTransient 0 l) s
          if s.tdc.parityRaised then s
          else ({ s with tdc := { s.tdc with parityRaised := true } } : State).laneEvent EV_EVL_PARITY_ERROR l
      else s.setLane l { x with out := rest, forming := forming }

/-- The engine pops a formed read word while class STAMP is below its quota (R144, R145, R298). -/
def State.popWord (s : State) (l : Nat) : State :=
  let x := s.lane l
  match x.fifo with
  | [] => s
  | w :: rest =>
    if s.quota 0 ≤ s.spent 0 then s
    else
      let s : State := { s with bgt := { s.bgt with spend := tabSet 0 s.bgt.spend 0 (s.spent 0 + 1) } }
      let item := x.partialItem ++ w.halves
      let x := if w.eop then { x with fifo := rest, partialItem := [], items := x.items ++ [item] }
        else { x with fifo := rest, partialItem := item }
      (s.setLane l x).setFld (EVL_DEPTH_V l) rest.length

/-! ### Writes (R146 to R148) -/

/-- A write of the TDC block. -/
def State.tdcWrite (s : State) (off : Nat) (v : Word) : State :=
  let n := v.toNat
  if off = TDC_CAL_CFG && (4 * ((n / 256) % 256) ≤ (n / 65536) % 256 || n / 2 ^ 24 = 0) then
    s.refuse TDC_CFG_ERR EV_TDC_CFG_ERROR 0x01 0xFFFF
  else if off = TDC_GEN_CFG && ((n / 256) % 32 < 1 || 16 < (n / 256) % 32 || n % 256 < 2 || 16 < n % 256) then
    s.refuse TDC_CFG_ERR EV_TDC_CFG_ERROR 0x02 0xFFFF
  else if off = TDC_BAND && (n % 65536 < 0x4000 || n / 65536 ≤ n % 65536) then s.refuse TDC_CFG_ERR EV_TDC_CFG_ERROR 0x03 0xFFFF
  else if TDC_LANE_RESET 0 ≤ off && off ≤ TDC_LANE_RESET 207 && off % 64 = 0x18 then
    (if n.testBit 0 then s.laneReset ((off - TDC_LANE_RESET 0) / 64) else s)
  else if off = TDC_BAND then
    -- PERIOD_OK follows the band (R133)
    loop 208 (fun l s =>
      let ok := s.inBand (s.rdN (TDC_PERIOD l))
      if s.laneRole l = 2 || ok = s.flag (TDC_LANE_STATUS_PERIOD_OK l) then s else s.setFlag (TDC_LANE_STATUS_PERIOD_OK l) ok)
      (s.plainWrite off off v)
  else s.plainWrite off off v

/-- TDC_STATUS as it stands (R146). -/
def State.tdcStatus (s : State) : Word :=
  let uncal := ((List.range 208).filter (fun l => !s.calValid l)).length
  BitVec.ofNat 32 (s.fld (LNP_POOL_BENCH_LEFT 0) * 2 ^ 24 + s.fld (LNP_POOL_SENT_OFF 0) * 2 ^ 16 + uncal * 256 + s.fld TDC_STATUS_AMB_LOW)

/-! ### The meanings -/

/-- The generator may place an edge in a lane's window at tick `t` (R138). -/
def State.genPlaces (s : State) (x : Lane) (t : Nat) : Bool :=
  decide (x.genCount < s.fld TDC_GEN_CFG_EDGES)
    && (match x.lastGen with | some u => decide (u + 256 * s.fld TDC_GEN_CFG_MIN_SPACING ≤ t) | none => true)

/-- STOP_ARRIVAL (R127): a stop reaches lane `l` at tick `t` with the counts the oscillators give (R125, R126). An in-service lane
takes it from its channel's stop link, with the depth and pile flag of R112; outside an open window it has no effect. A generator edge
(R138) carries none, so those two fields are a free value. -/
def execStopArrival (l : Fin 208) (t : Nat) (coarse : BitVec 14) (fine : BitVec 6) (s : State) : Host.Outcome State Fault Refusal :=
  done (s.inCore (fun s =>
    let s := s.advance t
    let x := s.lane l
    let inside := x.openWin && decide (s.now < x.closeAt)
    if x.openWin && x.gen then
      if inside && s.genPlaces x s.now then
        let s := s.setLane l { x with genCount := x.genCount + 1, lastGen := some s.now }
        let (r, s) := s.fresh
        s.takeStop l s.now coarse.toNat fine.toNat (r % 8) (r.testBit 3) none
      else s
    else
      match takeEdge (s.fld (TDC_LANE_STATUS_CHANNEL l)) s.det.stops with
      | none => s
      | some (e, rest) =>
        let s : State := { s with det := { s.det with stops := rest } }
        if inside then s.takeStop l s.now coarse.toNat fine.toNat e.depth e.pile (some e.tick) else s))

/-- COARSE_COUNTER_END (R125): the counter of an open window would pass 16,383, where that comes before the window's close (log entry 145). -/
def execCoarseCounterEnd (l : Fin 208) (s : State) : Host.Outcome State Fault Refusal :=
  done (s.inCore (fun s =>
    let x := s.lane l
    let t := x.start + s.rdN (TDC_PERIOD l) / 4
    if x.openWin && decide (t < x.closeAt) then (s.advance t).closeLane l false true else s))

/-- The next fine code on its way back to a lane is taken out: code and kind, and the returns that are left. -/
def takeReturn (l : Nat) : List CalReturn → Option (Nat × Bool × List CalReturn)
  | [] => none
  | e :: t =>
    if e.lane = l then
      match e.codes with
      | f :: [] => some (f, e.generated, t)
      | f :: g => some (f, e.generated, { e with codes := g } :: t)
      | [] => takeReturn l t
    else match takeReturn l t with
      | some (f, g, r) => some (f, g, e :: r)
      | none => none

/-- CALIBRATION_EDGE (R134): the next fine code on its way back to lane `l` is counted; `bad`: it failed its parity check in the FIFO, which is
counted and delivers it unchanged (R142, R294; log entry 147). -/
def execCalibrationEdge (l : Fin 208) (bad : Bool) (s : State) : Host.Outcome State Fault Refusal :=
  done (s.inCore (fun s =>
    match takeReturn l s.tdc.returns with
    | none => s
    | some (f, generated, rest) =>
      let s := s.classParity 1 bad
      ({ s with tdc := { s.tdc with returns := rest } } : State).countEdge l f generated))

/-- CAL_RUN_COMPLETE (R135). -/
def execCalRunComplete (l : Fin 208) (s : State) : Host.Outcome State Fault Refusal :=
  done (s.inCore (fun s => s.runComplete l))

/-- EVENT_LANE_PUSH (R141 to R144); `bad`: the halfword fails its parity check. -/
def execEventLanePush (l : Fin 208) (bad : Bool) (s : State) : Host.Outcome State Fault Refusal :=
  done (s.inCore (fun s => s.pushHalf l bad))

/-- EVENT_LANE_POP (R144). -/
def execEventLanePop (l : Fin 208) (s : State) : Host.Outcome State Fault Refusal :=
  done (s.inCore (fun s => s.popWord l))

/-- LANE_RESET (R145). -/
def execLaneReset (p : Port) (l : Fin 208) (s : State) : Host.Outcome State Fault Refusal :=
  done (s.hostGate p (TDC_LANE_RESET l) false (fun s => s.tdcWrite (TDC_LANE_RESET l) 1))

end Sys2Proof.Machine
end

