-- ==== Sys2Proof/Machine/Histogram.lean ====
section
/-! DEFINITION. The histogram engines (06_histograms.md): item matching, the coarse pass, the ambient estimate, peak picking, window
placement, the fine pass and its tests, the context, collection, and the raw-histogram tap. -/

namespace Sys2Proof.Machine

/-! ### Channel-lines and records -/

/-- A setting in force for a line. -/
def HstLine.get (l : HstLine) (f : Fld) : Nat := fldIn l.cfg f

/-- The record's firing emitters include the channel's (R66, R74). -/
def ShotRec.fires (r : ShotRec) (c : Nat) : Bool := r.rows.getLsbD (c / 12) && r.cols.getLsbD (c % 12) && !r.idle

/-- A record is consumed as a lost shot (R151). -/
def State.loseShot (s : State) (c : Nat) (r : ShotRec) : State :=
  let s := s.consumed c r.seq
  if r.fires c && r.kind ≤ 1 then
    match s.job (192 * r.lineSeq + c) with
    | some x => s.setJob (192 * r.lineSeq + c) { x with lost := x.lost + 1 }
    | none => s
  else s

/-! ### Stamps to bins (R150 to R152, R159) -/

/-- A stamp as its two halfwords give it (R129). -/
structure StampView where
  coarse : Nat
  fine : Nat
  depth : Nat
  pile : Bool
  deriving DecidableEq, Repr

/-- An item's fields: slot, line bits, stamps, and the CLOSE payload. -/
structure ItemView where
  slot : Nat
  line6 : Nat
  stamps : List StampView
  close : Nat
  poison : Bool
  deriving DecidableEq, Repr

/-- The stamps of an item: word 0 followed by word 1 (R128, R129). -/
def readStamps : List (BitVec 16) → List StampView
  | a :: b :: t =>
    if a.toNat / 16384 = 1 && b.toNat / 16384 = 2 then
      ⟨a.toNat % 16384, b.toNat / 256 % 64, b.toNat / 2 % 8, b.toNat.testBit 0⟩ :: readStamps t
    else readStamps (b :: t)
  | _ => []

/-- Read an item. -/
def viewItem (h : List (BitVec 16 × Bool)) : ItemView :=
  let ws := h.map (fun e => e.1)
  let o := (ws.headD 0).toNat
  let c := (ws.getLastD 0).toNat
  ⟨(o / 64) % 64, o % 64, readStamps ws.tail, c % 4096, h.any (fun e => e.2)⟩

/-- t′ of a stamp in 1/256 tick (R130, R150), rounded to the nearest. -/
def stampTime (x : ChanLine) (offset coarse fine : Nat) : Int :=
  let t : Nat := (x.set.period * (coarse * 65536 + tableEntry x.set.table fine) + 2 ^ 23) / 2 ^ 24
  (t : Int) - 16 * (x.set.skew + x.linkSkew) - 256 * (offset : Int)

/-- Coarse bin width in ticks (R152). -/
def coarseWidth (l : HstLine) : Nat := 128 * 2 ^ l.get HST_COARSE_CFG_WIDTH

/-- Length of a zoom window in ticks (R157). -/
def zoomSpan (l : HstLine) : Nat := l.get HST_ZOOM_CFG_BINS * l.get HST_ZOOM_CFG_WIDTH

/-- Add one to a 16-bit saturating bin. -/
def addBin (h : List (Nat × Nat)) (b : Nat) : List (Nat × Nat) := tabSet 0 h b (min 65535 (tabGet 0 h b + 1))

/-- Store a 16-bit count of a channel's block (R161). -/
def State.storeCount (s : State) (a v : Nat) : State := { s with mem := memWriteBytes s.mem a (leBytes 2 v) }

/-- A stamp of a coarse shot taken is binned (R150, R152). -/
def State.binCoarse (s : State) (c : Nat) (l : HstLine) (x : ChanLine) (t : Int) : State × ChanLine :=
  let w := 256 * coarseWidth l
  if t < 0 || l.get HST_COARSE_CFG_BINS ≤ t.toNat / w then (s, { x with outside := x.outside + 1 })
  else
    let b := t.toNat / w
    let h := addBin x.coarse b
    (s.storeCount (s.chanBase c + 0x2000 * (l.line % 2) + 2 * b) (tabGet 0 h b), { x with coarse := h })

/-- The window a time falls in (R159). -/
def windowOf (l : HstLine) (x : ChanLine) (t : Int) : Option Nat :=
  let z := zoomSpan l
  (List.range x.windows.length).find? (fun j =>
    let zs := (nth (0, 0) x.windows j).1
    decide ((256 * zs : Int) ≤ t) && decide (t < 256 * (zs + z : Nat)))

/-- Fine codes of one shot go back to a lane as calibration edges, in one read word (R134, R294; log entry 147). -/
def State.returnCodes (s : State) (lane : Nat) (codes : List Nat) (generated : Bool) : State :=
  if codes.isEmpty then s else { s with tdc := { s.tdc with returns := s.tdc.returns ++ [⟨lane, codes, generated⟩] } }

/-- The stamps of an item go back to its lane as calibration edges (R134). -/
def State.returnEdges (s : State) (lane : Nat) (stamps : List StampView) (generated : Bool) : State :=
  s.returnCodes lane (stamps.map (fun e => e.fine)) generated

/-- A zoom stamp is binned in its window; answers its fine code where it lies outside every window (R159). -/
def State.binZoom (s : State) (c : Nat) (l : HstLine) (x : ChanLine) (st : HeldStamp) : State × ChanLine × List Nat :=
  let x := if st.time < 0 then { x with outside := x.outside + 1 } else x
  match windowOf l x st.time with
  | none => (s, x, [st.fine])
  | some j =>
    let b := (st.time - 256 * ((nth (0, 0) x.windows j).1 : Int)).toNat / (256 * max 1 (l.get HST_ZOOM_CFG_WIDTH))
    let h := addBin (nth [] x.fine j) b
    let x := { x with fine := setNth x.fine j h, pile := setNth x.pile j (nth 0 x.pile j + b2n st.pile) }
    (s.storeCount (s.chanBase c + 0x4000 + 0x800 * (l.line % 2) + 0x200 * j + 2 * b) (tabGet 0 h b), x, [])

/-- The stamps of a zoom shot are binned in the windows placed, or returned to the lane as calibration edges (R159, R134). -/
def State.binShot (s : State) (c : Nat) (l : HstLine) (x : ChanLine) (shot : List HeldStamp) : State × ChanLine :=
  let (s, x, out) := shot.foldl (fun (a : State × ChanLine × List Nat) st =>
    let (s, x, out) := a.1.binZoom c l a.2.1 st
    (s, x, a.2.2 ++ out)) (s, x, [])
  (s.returnCodes x.lane out false, x)

/-- A hold entry of a zoom stamp (R161). -/
def holdEntry (st : HeldStamp) (win : Nat) : Nat :=
  2 ^ 31 + b2n st.pile * 2 ^ 30 + (st.depth % 8) * 2 ^ 27 + win * 2 ^ 24 + toBits 24 (st.time.fdiv 32)

/-- Write the hold entries of one shot (R159, R161). A stamp in no window, or not yet placed, carries one of the WINDOW codes 4 to 7: a
free value (log entry 67). -/
def State.holdShot (s : State) (c q : Nat) (l : HstLine) (x : ChanLine) (shot : List HeldStamp) : State :=
  (List.range shot.length).foldl (fun s i =>
    let st := nth ⟨0, false, 0, 0⟩ shot i
    let (win, s) := match windowOf l x st.time with
      | some j => (j, s)
      | none => let (y, s) := s.fresh; (4 + y % 4, s)
    { s with mem := memWriteBytes s.mem (s.chanBase c + 0x5000 + 64 * q + 4 * i) (leBytes 4 (holdEntry st win)) }) s

/-- An accepted item of a shot record (R151). -/
def State.acceptItem (s : State) (c : Nat) (r : ShotRec) (v : ItemView) : State :=
  let key := 192 * r.lineSeq + c
  match s.job key, s.lineOf r.lineSeq with
  | some x, some l =>
    if v.close.testBit 2 then s.setJob key { x with cut := true }
    else if v.close.testBit 1 then s.returnEdges x.lane v.stamps true
    else if r.kind = 2 then s.returnEdges x.lane v.stamps false
    else
      let fires := r.fires c
      let x := if fires && (v.close.testBit 5 || v.close.testBit 6) then { x with trunc := x.trunc + 1 } else x
      if x.void then s.setJob key x
      else if r.kind = 0 then
        if !fires then s
        else
          let x := { x with nC := x.nC + 1 }
          if x.notBinned then s.setJob key x
          else
            let (s, x) := v.stamps.foldl (fun (a : State × ChanLine) st =>
              a.1.binCoarse c l a.2 (stampTime a.2 r.offset st.coarse st.fine)) (s, x)
            s.setJob key x
      else
        let x := if fires then { x with nZ := x.nZ + 1 } else x
        if !fires || x.notBinned then (s.setJob key x).returnEdges x.lane v.stamps false
        else
          let shot := v.stamps.map (fun st => (⟨stampTime x r.offset st.coarse st.fine, st.pile, st.fine, st.depth⟩ : HeldStamp))
          let s := s.holdShot c (x.nZ - 1) l x shot
          let x := { x with held := x.held ++ [shot] }
          if x.stage < 2 then s.setJob key x
          else
            let (s, x) := s.binShot c l x shot
            s.setJob key x
  | _, _ => s

/-- A complete item is matched against the channel's oldest outstanding record (R151). -/
def State.receiveItem (s : State) (c : Nat) : State :=
  let ln := s.laneOf c
  let y := s.lane ln
  match y.items with
  | [] => s
  | it :: rest =>
    let v := viewItem it
    let out := s.outstanding c
    -- the engine waits for the measurement of the line's own period (R131), and while its FIFO to the lane is full (R294)
    let waits := y.measDue && (match out.head? with
      | some r => (match s.job (192 * r.lineSeq + c) with | some x => x.ownDue | none => false)
      | none => false)
    if waits || 2 < (s.tdc.returns.filter (fun (e : CalReturn) => e.lane = ln)).length then s
    else
      let s := s.setLane ln { y with items := rest }
      if v.poison then
        let s := s.bump (HST_CH_ERR_POISON c) 1
        let s := match out.head? with | some r => s.loseShot c r | none => s
        if s.hst.poisonRaised then s
        else ({ s with hst := { s.hst with poisonRaised := true } } : State).raise EV_HST_POISON
      else
        match out.find? (fun r => r.slot = v.slot && r.line % 64 = v.line6) with
        | none =>
          let s := (s.bump (HST_CH_ERR_SEQ c) 1).reportTransient 0 ln
          if s.hst.seqRaised then s
          else ({ s with hst := { s.hst with seqRaised := true } } : State).raise EV_HST_SEQ_ERROR
        | some r =>
          let s := (out.filter (fun q => q.seq < r.seq)).foldl (fun s q => s.loseShot c q) s
          (s.consumed c r.seq).acceptItem c r v

/-! ### Peak picking (R153 to R156) -/

/-- The integer square root, rounded up, of a number below 2^160. -/
def ceilSqrt (n : Nat) : Nat :=
  let r := loop 80 (fun i (r : Nat) =>
    let c := r + 2 ^ (79 - i)
    if c * c ≤ n then c else r) 0
  if r * r = n then r else r + 1

/-- θ of R154 for an expected ambient content p/q of a pair. -/
def threshold (thMin thK p q : Nat) : Nat :=
  let r := ceilSqrt (thK * thK * p * q)
  max thMin ((4 * p + r + 4 * q - 1) / (4 * max 1 q))

/-- Bins in listening (R153). -/
def inListening (l : HstLine) : Nat := min (l.get HST_COARSE_CFG_BINS) (l.get SHT_LISTEN_V / coarseWidth l)

/-- Hot pairs to runs (R155), farthest first. -/
def groupPairs (gap : Nat) (hot : List Nat) : List (Nat × Nat) :=
  hot.foldl (fun (acc : List (Nat × Nat)) b => match acc with
    | (a, z) :: t => if b ≤ z + 1 + gap then (a, b) :: t else (b, b) :: acc
    | [] => [(b, b)]) []

/-- Insert a run by a strict order, earlier ones first among equals. -/
def insertRun (lt : PickRun → PickRun → Bool) (r : PickRun) : List PickRun → List PickRun
  | [] => [r]
  | a :: t => if lt r a then r :: a :: t else a :: insertRun lt r t

/-- Runs in an order. -/
def sortRuns (lt : PickRun → PickRun → Bool) (l : List PickRun) : List PickRun := l.foldl (fun acc r => insertRun lt r acc) []

/-- Greatest weight first, ties to the nearer run. -/
def heavier (a b : PickRun) : Bool := b.weight < a.weight || (a.weight = b.weight && a.b1 + a.b2 < b.b1 + b.b2)

/-- The order of R156. -/
def runOrder (order : Nat) (a b : PickRun) : Bool :=
  if order = 0 then heavier a b
  else if order = 1 then a.b1 + a.b2 < b.b1 + b.b2
  else b.b1 + b.b2 < a.b1 + a.b2

/-- The runs of a coarse histogram with an expected ambient content p/q (R154, R155): at most 16. -/
def findRuns (l : HstLine) (h : List (Nat × Nat)) (p q : Nat) : List PickRun :=
  let nin := inListening l
  let th := threshold (l.get HST_PICK_CFG_TH_MIN) (l.get HST_PICK_CFG_TH_K) p q
  let cand := h.foldl (fun (acc : List Nat) e =>
    let acc := if 0 < e.1 && acc.getLast? ≠ some (e.1 - 1) then acc ++ [e.1 - 1] else acc
    acc ++ [e.1]) []
  let hot := cand.filter (fun b => b + 1 < nin && th ≤ tabGet 0 h b + tabGet 0 h (b + 1))
  let w := coarseWidth l
  let runs := (groupPairs (l.get HST_PICK_CFG_GAP) hot).reverse.map (fun e =>
    let weight := (h.filter (fun x => e.1 ≤ x.1 && x.1 ≤ e.2 + 1)).foldl (fun a x => a + x.2) 0
    (⟨e.1, e.2, weight,
      l.get HST_VEIL_CFG_VEIL_EN = 1 && decide (l.get HST_VEIL_CFG_RUN_NS * 256 ≤ (e.2 - e.1 + 2) * w)⟩ : PickRun))
  (sortRuns heavier runs).take 16

/-- The ambient estimate (R153); `old` where nothing can be averaged. -/
def ambientOf (l : HstLine) (h : List (Nat × Nat)) (runs : List PickRun) (nC old : Nat) : Nat :=
  let g := l.get HST_PICK_CFG_GUARD
  let nin := inListening l
  let off := fun b => runs.all (fun r => decide (b + g < r.b1) || decide (r.b2 + 1 + g < b))
  let nOff := ((List.range nin).filter off).length
  let sum := (h.filter (fun e => e.1 < nin && off e.1)).foldl (fun a e => a + e.2) 0
  if nOff = 0 || nC = 0 then old else (roundDiv (65536 * sum : Nat) (nOff * nC : Nat)).toNat

/-- The runs in rank order (R156), the LAST one marked. -/
def rankRuns (l : HstLine) (runs : List PickRun) : List (PickRun × Bool) :=
  let order := l.get HST_PICK_CFG_ORDER
  if l.get HST_VEIL_CFG_LAST_RETURN = 1 then
    let solid := runs.filter (fun r => !r.veil)
    let veils := sortRuns (runOrder order) (runs.filter (fun r => r.veil))
    match sortRuns (runOrder 2) solid with
    | [] => veils.map (fun r => (r, false))
    | far :: _ =>
      (far, true) :: ((sortRuns (runOrder order) (solid.filter (fun r => r ≠ far)) ++ veils).map (fun r => (r, false)))
  else (sortRuns (runOrder order) runs).map (fun r => (r, false))

/-- One run is tried for a window (R157): the windows placed so far, with their flag bytes. -/
def placeRun (l : HstLine) (placed : List (Nat × Nat)) (e : PickRun × Bool) : List (Nat × Nat) :=
  let z := zoomSpan l
  let listen := l.get SHT_LISTEN_V
  let r := e.1
  let c2 := (r.b1 + r.b2 + 2) * coarseWidth l   -- twice the centre
  let flags := 0x80 + 0x40 * b2n r.veil + 4 * b2n e.2
  let raw : Int := ((c2 : Int) - (z : Int)).fdiv 2
  let clipLow := raw < 0
  let st := raw.toNat
  let clipHigh := listen < st + z
  let st := if clipHigh then listen - z else st
  let flags := if clipLow || clipHigh then flags + 2 else flags
  let hits := fun (a : Nat) (p : Nat × Nat) => decide (a < p.1 + z) && decide (p.1 < a + z)
  match placed.find? (fun p => hits st p) with
  | none => placed ++ [(st, flags)]
  | some p =>
    let up := 2 * p.1 + z ≤ c2
    let edge := if up then p.1 + z else p.1
    if !up && p.1 < z then placed
    else
      let st := if up then p.1 + z else p.1 - z
      let far := decide (z < 4 * ((c2 : Int) - 2 * (edge : Int)).natAbs)
      if listen < st + z || placed.any (fun p => hits st p) || c2 < 2 * st || 2 * (st + z) ≤ c2 || !far then placed
      else placed ++ [(st, flags + 8)]

/-- Insert a window by its start. -/
def insertWindow (w : Nat × Nat) : List (Nat × Nat) → List (Nat × Nat)
  | [] => [w]
  | a :: t => if w.1 < a.1 then w :: a :: t else a :: insertWindow w t

/-- The windows of a line, numbered in order of start (R157). -/
def placeWindows (l : HstLine) (runs : List PickRun) : List (Nat × Nat) :=
  let n := l.get HST_ZOOM_CFG_WINDOWS
  let placed := (rankRuns l runs).foldl (fun acc e => if acc.length < n then placeRun l acc e else acc) []
  placed.foldl (fun acc w => insertWindow w acc) []

/-! ### The passes -/

/-- The oldest channel-line of a channel at a stage: its key. -/
def State.jobAt (s : State) (c stage : Nat) : Option Nat :=
  (s.hst.jobs.find? (fun (e : Nat × ChanLine) => e.1 % 192 = c && e.2.stage = stage)).map (fun e => e.1)

/-- Records of a line that a channel has not consumed. -/
def State.openRecs (s : State) (c seq : Nat) : List ShotRec := (s.outstanding c).filter (fun r => r.lineSeq = seq)

/-- The line of a channel-line has closed: no further slot is launched in it, and none of its items is on its way (R151). -/
def State.lineClosed (s : State) (x : ChanLine) (l : HstLine) : Bool := l.launchEnded && !(s.lane x.lane).coming (l.line % 64)

/-- COARSE_HISTOGRAM_COMPLETE for a channel (R152, R153, R154, R155): when its last coarse item was accepted or consumed as
lost; at the close of the line what has not come is lost. -/
def State.coarseComplete (s : State) (c : Nat) : State :=
  match s.jobAt c 0 with
  | none => s
  | some key =>
    let seq := key / 192
    match s.job key, s.lineOf seq with
    | some x, some l =>
      let left := (s.openRecs c seq).filter (fun r => r.kind = 0)
      let posted := l.coarsePosted = l.coarseTotal || l.launchEnded
      if !posted || (!left.isEmpty && !s.lineClosed x l) then s
      else
        let s := left.foldl (fun s r => s.loseShot c r) s
        match s.job key with
        | none => s
        | some x =>
          let old := tabGet 0 s.hst.amb c
          if x.nC = 0 || x.notBinned || x.void then s.setJob key { x with stage := 1, amb := old }
          else
            let nin := inListening l
            let sum := (x.coarse.filter (fun e => e.1 < nin)).foldl (fun a e => a + e.2) 0
            let (p, q) := if x.fresh || l.fresh then (2 * sum, max 1 nin) else (2 * x.nC * old, 65536)
            let runs := findRuns l x.coarse p q
            let a := ambientOf l x.coarse runs x.nC old
            let s : State := { s with hst := { s.hst with amb := tabSet 0 s.hst.amb c a } }
            s.setJob key { x with stage := 1, runs := runs, amb := a }
    | _, _ => s

/-- ZOOM_WINDOWS_PLACED for a channel (R157, R158, R159). -/
def State.windowsPlaced (s : State) (c : Nat) : State :=
  match s.jobAt c 1 with
  | none => s
  | some key =>
    match s.job key, s.lineOf (key / 192) with
    | some x, some l =>
      let ws := placeWindows l x.runs
      let x := { x with stage := 2, windows := ws, fine := List.replicate ws.length [], pile := List.replicate ws.length 0,
                        support := List.replicate ws.length 0 }
      let s := (List.range x.held.length).foldl (fun s q => s.holdShot c q l x (nth [] x.held q)) s
      let (s, x) := x.held.foldl (fun (a : State × ChanLine) shot => a.1.binShot c l a.2 shot) (s, x)
      s.setJob key x
    | _, _ => s

/-- The fine peak of a window: bin and count, ties to the lower bin (R160). -/
def finePeak (h : List (Nat × Nat)) : Nat × Nat := h.foldl (fun (m : Nat × Nat) e => if m.2 < e.2 then e else m) (0, 0)

/-- The stamps of window `j`. -/
def windowStamps (l : HstLine) (x : ChanLine) (j : Nat) : List Int :=
  (x.held.flatten.filter (fun st => windowOf l x st.time = some j)).map (fun st => st.time)

/-- The tests of R160 on a window: S_j and the flag byte. -/
def testWindow (l : HstLine) (x : ChanLine) (j : Nat) : Nat × Nat :=
  let w := nth (0, 0) x.windows j
  let h := nth [] x.fine j
  if h.isEmpty then (0, w.2)
  else
    let zw := l.get HST_ZOOM_CFG_WIDTH
    let q := (finePeak h).1
    let centre : Int := 256 * (w.1 : Int) + 128 * ((2 * q + 1) * zw : Nat)
    let core : Nat := 256 * l.get HST_CONS_CFG_CORE
    let sj := (x.held.filter (fun shot => shot.any (fun st => 0 ≤ st.time && (st.time - centre).natAbs ≤ core))).length
    let confirmed := decide (1 ≤ sj) && decide (l.get HST_CONS_CFG_MIN_PCT * x.nZ ≤ 256 * sj)
    let ts := windowStamps l x j
    let n : Int := ts.length
    let sum := ts.foldl (fun a t => a + t) 0
    let sq := ts.foldl (fun a t => a + t * t) 0
    let lim : Int := (8 * l.get HST_VEIL_CFG_SPREAD * 256 : Nat)
    let veil := l.get HST_VEIL_CFG_VEIL_EN = 1 && decide (3 ≤ n) && decide (n * n * lim * lim < n * sq - sum * sum)
    (sj, w.2 + 0x10 * b2n confirmed + 0x20 * b2n veil)

/-- FINE_PASS_COMPLETE for a channel (R160): when all items of the line have been accepted or consumed as lost. -/
def State.finePass (s : State) (c : Nat) : State :=
  match s.jobAt c 2 with
  | none => s
  | some key =>
    let seq := key / 192
    match s.job key, s.lineOf seq with
    | some x, some l =>
      let left := s.openRecs c seq
      if !(l.launchEnded || l.posted = l.slotTotal) || (!left.isEmpty && !s.lineClosed x l) then s
      else
        let s := left.foldl (fun s r => s.loseShot c r) s
        match s.job key with
        | none => s
        | some x =>
          let tests := (List.range x.windows.length).map (testWindow l x)
          let ws := (List.range x.windows.length).map (fun j => ((nth (0, 0) x.windows j).1, (nth (0, 0) tests j).2))
          let x := { x with stage := 3, windows := ws, support := tests.map (fun t => t.1) }
          let s := s.setJob key x
          let s := s.wrN (HST_CH_SHOTS c) ((min 127 x.lost) * 2 ^ 24 + x.nZ * 2 ^ 16 + x.nC * 256 + ws.length)
          let s := s.wrN (HST_CH_AMB c) x.amb
          s.wrN (HST_CH_WIN c) ((List.range ws.length).foldl (fun a j => a + (nth (0, 0) ws j).2 * 256 ^ j) 0)
    | _, _ => s

/-- The flags of the context (R162, R158, R163). -/
def contextFlags (l : HstLine) (x : ChanLine) : Nat :=
  64 * b2n (x.nC = 0) + 32 * b2n x.notBinned + 16 * b2n x.cut + 8 * b2n x.dark + 4 * b2n x.subst + 2 * b2n x.uncal
    + b2n (!x.runs.isEmpty && (x.nZ = 0 || l.get HST_ZOOM_CFG_WINDOWS = 0))

/-- The context of a channel-line (R162). -/
def contextBytes (l : HstLine) (x : ChanLine) (c : Nat) : List Byte :=
  let four := fun (f : Nat → Nat) => (List.range 4).flatMap (fun j => leBytes 1 (min 255 (f j)))
  leBytes 4 l.frame ++ leBytes 2 l.line ++ leBytes 1 c ++ leBytes 1 (contextFlags l x) ++ leBytes 1 x.nC ++ leBytes 1 x.nZ
    ++ leBytes 1 (min 255 x.lost) ++ leBytes 1 x.windows.length ++ leBytes 1 x.depth ++ leBytes 1 x.spads ++ leBytes 2 l.hstGen
    ++ leBytes 2 l.shtGen ++ leBytes 2 (l.get HST_COARSE_CFG_BINS) ++ leBytes 1 (l.get HST_COARSE_CFG_WIDTH)
    ++ leBytes 1 (l.get HST_ZOOM_CFG_WIDTH) ++ leBytes 2 (l.get HST_ZOOM_CFG_BINS) ++ leBytes 4 x.amb
    ++ leBytes 3 (min 0xFFFFFF x.detAmb) ++ [0]
    ++ (List.range 4).flatMap (fun j => leBytes 4 (nth (0, 0) x.windows j).1)
    ++ four (fun j => (nth (0, 0) x.windows j).2) ++ four (fun j => nth 0 x.pile j) ++ four (fun j => nth 0 x.support j)
    ++ leBytes 2 (min 65535 x.outside) ++ leBytes 1 (min 255 x.trunc) ++ [0]

/-- `n` 16-bit counts of a sparse histogram. -/
def countBytes (h : List (Nat × Nat)) (n : Nat) : List Byte := (List.range n).flatMap (fun b => leBytes 2 (tabGet 0 h b))

/-- A tap record (R167). -/
def tapRecord (l : HstLine) (x : ChanLine) (c : Nat) : List Byte :=
  let body := contextBytes l x c ++ countBytes x.coarse (l.get HST_COARSE_CFG_BINS)
    ++ (List.range (l.get HST_ZOOM_CFG_WINDOWS)).flatMap (fun j => countBytes (nth [] x.fine j) (l.get HST_ZOOM_CFG_BINS))
  body ++ List.replicate ((64 - body.length % 64) % 64) 0

/-! ### Local memory of the point engines (R171 to R173)

Each engine has 131,072 bytes: 12 KiB of the vendor chain from 0, 32 KiB of the customer kernel from 12,288, and eight line buffers of 10,752
bytes from 45,056. DESIGN CHOICE (log entry 148): the regions in the order of R172, and the buffers of a channel one after the other. -/

/-- Where the buffer of a line stands, by 131,072 · engine + address: two per channel, used by even and odd lines (R172; log entry 148). -/
def State.bufferAt (s : State) (e c line : Nat) : Nat :=
  let rank := ((s.servedBy 1 e).filter (fun d => d < c)).length % 4
  131072 * e + 45056 + 10752 * (2 * rank + line % 2)

/-- Bytes as cells of a memory whose unlisted bytes read 0. -/
def byteCells : Nat → List Byte → List Host.Cell
  | _, [] => []
  | a, b :: t => if b = 0 then byteCells (a + 1) t else (a, b) :: byteCells (a + 1) t

/-- Store bytes in a local memory. -/
def State.storeLocal (s : State) (a : Nat) (l : List Byte) : State :=
  { s with pnt := { s.pnt with buffers := tabCopy a (a + l.length) (byteCells a l) s.pnt.buffers } }

/-- A collected line as its buffer holds it (R173): context, coarse histogram, four fine windows, an empty return list. -/
def lineBuffer (l : HstLine) (x : ChanLine) (c : Nat) : List Byte :=
  contextBytes l x c ++ countBytes x.coarse 4096 ++ (List.range 4).flatMap (fun j => countBytes (nth [] x.fine j) 256)
    ++ List.replicate 64 0

/-- Up to four records with their colour extensions, as the return list of a buffer holds them (R173, R191). -/
def returnBytes (l : List (Nat × Nat)) : List Byte :=
  let b := (l.take 4).flatMap (fun e => leBytes 8 e.1 ++ leBytes 8 e.2)
  b ++ List.replicate (64 - b.length) 0

/-- The return list is written into the line's buffer (R173). -/
def State.storeReturns (s : State) (c : Nat) (l : HstLine) (x : ChanLine) : State :=
  s.storeLocal (s.bufferAt x.engine c l.line + 10304) (returnBytes x.returns)

/-- A byte of the customer kernel's region: the code and data of the kernel placed in every engine (R172, R185, R186); 0 while none is. -/
def State.kernelByte (s : State) (a : Nat) : Byte :=
  match s.pnt.kernel with
  | some img => if a < kernelField img 8 4 + kernelField img 12 4 then nth 0 img (64 + a) else 0
  | none => 0

/-- LINE_COLLECTION for a channel (R163, R167): context and histograms go into the engine's line buffer (R173), the buffer set is released and
zeroed; tapped lines are copied. -/
def State.collectLine (s : State) (c : Nat) : State :=
  match s.jobAt c 3 with
  | none => s
  | some key =>
    match s.job key, s.lineOf (key / 192) with
    | some x, some l =>
      let s := (s.setJob key { x with stage := 4 }).storeLocal (s.bufferAt x.engine c l.line) (lineBuffer l x c)
      let taps := if s.flag HST_TAP_CFG_EN && l.line % max 1 (s.fld HST_TAP_CFG_DECIM) = 0 then
          (List.range 8).filter (fun t => s.flag (HST_TAP_CH_EN t) && s.fld (HST_TAP_CH_CH t) = c)
        else []
      let s := taps.foldl (fun s _ => s.queueItem (s.fld HST_TAP_CFG_PORT) (s.fld HST_TAP_CFG_QUEUE) 1 (tapRecord l x c)) s
      if x.notBinned then s
      else
        let b := s.chanBase c
        let k := l.line % 2
        let m := tabDrop (b + 0x2000 * k) (b + 0x2000 * (k + 1)) s.mem
        { s with mem := tabDrop (b + 0x4000 + 0x800 * k) (b + 0x4000 + 0x800 * (k + 1)) m }
    | _, _ => s

/-! ### Periods measured in the first window (R131, R132) -/

/-- The measurement of a line completes (R132, R133): `a` and `b` are the coarse and fine counts of its reference stops A and B, which count
where the lane took both. It ends after the line's first window. -/
def State.periodDone (s : State) (l : Nat) (a b : BitVec 14 × BitVec 6) : State :=
  let x := s.lane l
  if !x.measDue || (x.openWin && x.first) then s
  else
    let t := s.tableWords l
    let pos := fun (e : BitVec 14 × BitVec 6) => (e.1.toNat : Rat) + (tableEntry t e.2.toNat : Rat) / 65536
    let result : Option (Rat × Rat) := match x.refA, x.refB with
      | some ta, some tb =>
        let d := pos b - pos a
        if tb < ta + 25600 || d ≤ 0 then none
        else
          let ts := ((tb - ta : Nat) : Rat) / d
          some (ts, ts * pos a - ((ta : Rat) - (x.refStart : Rat)))
      | _, _ => none
    let key := 192 * s.hst.lineSeq + s.fld (TDC_LANE_STATUS_CHANNEL l)
    let s := if result.isNone then s.wrN TDC_PERIOD_SKIPS (s.rdN TDC_PERIOD_SKIPS + 1) else s
    let s := s.setLane l { x with measDue := false, ownDue := false, meas := (result.toList ++ x.meas).take 8 }
    match s.job key with
    | some y =>
      if y.ownDue && y.lane = l then
        s.setJob key { y with ownDue := false,
                              set := match result with
                                | some r => { y.set with period := (ratRound (r.1 * 65536)).toNat, skew := ratRound (r.2 * 16) }
                                | none => y.set }
      else s
    | none => s

/-! ### Lines (R163, R165) -/

/-- Slots of the shot program in force (R68). -/
def State.linesSlots (s : State) : Nat := s.fldF SHT_CFG_SLOTS

/-- A line of the grid is run: what the histogram engines hold of it (R163, R165). -/
def State.startLine (s : State) : State :=
  let seq := s.hst.lineSeq + 1
  let n := s.linesSlots
  let coarse := ((List.range n).filter (fun k => s.fldF (SHT_SLOT_T_KIND k) = 0)).length
  let line := s.rdN GLB_LINE
  let l : HstLine :=
    ⟨s.rdN GLB_FRAME, line, s.devTime, s.inForce, s.fld HST_GEN_V, s.fld SHT_GEN_V, coarse, n, 0, 0, false, s.hst.freshNext,
     s.fld SHT_STATUS_THROTTLE, false, false, false, s.fldI DET_COLOUR_LINES_V⟩
  let jobs := (List.range 192).map (fun c => (192 * seq + c, s.newJob c line (192 * seq + c)))
  let late := (jobs.filter (fun e => e.2.notBinned)).length
  let s : State := { s with hst := { s.hst with lineSeq := seq, lines := s.hst.lines ++ [(seq, l)], jobs := s.hst.jobs ++ jobs,
                                                freshNext := false } }
  if late = 0 then s
  else
    let s := s.wrN HST_LATE (s.rdN HST_LATE + late)
    if s.hst.lateRaised then s
    else ({ s with hst := { s.hst with lateRaised := true } } : State).raise EV_HST_BUFFER_LATE

/-- What a frame start does: the events raised at most once per frame may be raised again. -/
def State.hstFrameStart (s : State) : State :=
  { s with hst := { s.hst with poisonRaised := false, seqRaised := false, lateRaised := false } }

/-! ### Commit (R165, R166, R194) -/

/-- The shadow registers that HST_COMMIT latches: the histogram set and the point settings (R165, R194). -/
def hstSpans : List (Nat × Nat) := [(0x200000, 0x200014), (0x280004, 0x28001C)]

/-- The quota check of R194: 4 × (1,200 + QUOTA) > 400 × T_min in µs, where T_min (R70) is that of the lines in force at the largest
effective SP_MAX. -/
def State.quotaTooLarge (s : State) (q : Nat) : Bool :=
  let rate := s.linesInForce * (s.spMaxFor s.linesInForce).toNat
  decide (400000000000 < 4 * (1200 + q) * rate)

/-- The first failing check of the shadow set (R166, R194). -/
def State.hstCheck (s : State) : Nat :=
  let f := s.fld
  if f HST_COARSE_CFG_BINS = 0 || 4096 < f HST_COARSE_CFG_BINS then 0x01
  else if f HST_ZOOM_CFG_BINS = 0 || 256 < f HST_ZOOM_CFG_BINS then 0x02
  else if f HST_ZOOM_CFG_WIDTH < 1 || 16 < f HST_ZOOM_CFG_WIDTH then 0x03
  else if 4 < f HST_ZOOM_CFG_WINDOWS then 0x04
  else if f HST_PICK_CFG_TH_MIN = 0 || f HST_PICK_CFG_ORDER = 3 then 0x05
  else if f HST_CONS_CFG_CORE = 0 || 2048 < f HST_CONS_CFG_CORE || f HST_CONS_CFG_MIN_PCT = 0 then 0x06
  else if f HST_VEIL_CFG_RUN_NS = 0 || f HST_VEIL_CFG_SPREAD = 0 then 0x07
  else if f PNT_CHAIN_CFG_MAX_RETURNS < 1 || 4 < f PNT_CHAIN_CFG_MAX_RETURNS then 0x10
  else if f PNT_PEAK_CFG_HALF < 1 || 8 < f PNT_PEAK_CFG_HALF || f PNT_CONF_CFG_CONF_NET = 0 || f PNT_VEIL_CLS_SPIKE = 0 then 0x11
  else if s.flag PNT_KERNEL_CTRL_ENABLE && !s.flag PNT_KSTATUS_LOADED then 0x12
  else if s.quotaTooLarge s.pnt.quota then 0x13
  else 0

/-- A write of HST_COMMIT with GO (R165). -/
def State.hstCommit (s : State) (frameMode : Bool) : State :=
  let code := s.hstCheck
  if code ≠ 0 then s.refuse HST_CFG_ERR EV_HST_CFG_ERROR code 0
  else
    let s : State := { s with hst := { s.hst with pending := some (frameMode, s.now), staged := s.shadowSet hstSpans } }
    s.setFlag HST_STATUS_COMMIT_PENDING true

/-- A pending set latches at a line start (`frame`: the line is line 0 of a frame), if it was committed at least 10 ns before
(R25, R26, R165). -/
def State.hstLatch (s : State) (frame : Bool) : State :=
  match s.hst.pending with
  | none => s
  | some (mode, t) =>
    if (mode && !frame) || s.now < t + 2560 then s
    else
      let width := fldIn s.hst.staged HST_COARSE_CFG_WIDTH ≠ s.fldF HST_COARSE_CFG_WIDTH
      let s := s.latchSet hstSpans s.hst.staged
      let s : State := { s with hst := { s.hst with pending := none, staged := [], freshNext := s.hst.freshNext || width } }
      let s := (s.setFld HST_GEN_V (s.fld HST_GEN_V + 1)).setFlag HST_STATUS_COMMIT_PENDING false
      s.kernelLatch

/-- A write of the HST block. -/
def State.hstWrite (s : State) (off : Nat) (v : Word) : State :=
  if off = HST_COMMIT then (if v.toNat.testBit 0 then s.hstCommit (v.toNat.testBit 1) else s)
  else if off = HST_TAP_CFG && v.toNat % 65536 = 0 then s.refuse HST_CFG_ERR EV_HST_CFG_ERROR 0x08 0
  else if HST_TAP_CH 0 ≤ off && off ≤ HST_TAP_CH 7 && 191 < v.toNat % 256 then
    s.refuse HST_CFG_ERR EV_HST_CFG_ERROR 0x08 ((off - HST_TAP_CH 0) / 4)
  else s.plainWrite off off v

/-! ### The meanings -/

/-- PERIOD_MEASUREMENT_DONE (R132, R133). -/
def execPeriodMeasurementDone (l : Fin 208) (a b : BitVec 14 × BitVec 6) (s : State) : Host.Outcome State Fault Refusal :=
  done (s.inCore (fun s => s.periodDone l a b))

/-- ITEM_RECEIVED (R151); `bad`: the shot record it is matched against fails its parity in its FIFO (R294). -/
def execItemReceived (c : Fin 192) (bad : Bool) (s : State) : Host.Outcome State Fault Refusal :=
  done (s.inCore (fun s => (s.classParity 2 (bad && !(s.outstanding c).isEmpty && !(s.lane (s.laneOf c)).items.isEmpty)).receiveItem c))

/-- COARSE_HISTOGRAM_COMPLETE (R152 to R155). -/
def execCoarseHistogramComplete (c : Fin 192) (s : State) : Host.Outcome State Fault Refusal :=
  done (s.inCore (fun s => s.coarseComplete c))

/-- ZOOM_WINDOWS_PLACED (R157). -/
def execZoomWindowsPlaced (c : Fin 192) (s : State) : Host.Outcome State Fault Refusal :=
  done (s.inCore (fun s => s.windowsPlaced c))

/-- FINE_PASS_COMPLETE (R160). -/
def execFinePassComplete (c : Fin 192) (s : State) : Host.Outcome State Fault Refusal :=
  done (s.inCore (fun s => s.finePass c))

/-- LINE_COLLECTION (R163); `bad`: the hand-off fails its parity in its FIFO (R294). -/
def execLineCollection (c : Fin 192) (bad : Bool) (s : State) : Host.Outcome State Fault Refusal :=
  done (s.inCore (fun s => (s.classParity 3 (bad && (s.jobAt c 3).isSome)).collectLine c))

/-- HISTOGRAM_COMMIT (R165, R166, R194). -/
def execHistogramCommit (p : Port) (frameMode : Bool) (s : State) : Host.Outcome State Fault Refusal :=
  done (s.hostGate p HST_COMMIT false (fun s => s.hstWrite HST_COMMIT (BitVec.ofNat 32 (1 + 2 * b2n frameMode))))

/-- TAP_CONFIG_WRITE (R166): register 0 is HST_TAP_CFG, register 1 + t is HST_TAP_CH[t]. -/
def execTapConfigWrite (p : Port) (r : Fin 9) (v : Word) (s : State) : Host.Outcome State Fault Refusal :=
  let off := if r.val = 0 then HST_TAP_CFG else HST_TAP_CH (r.val - 1)
  done (s.hostGate p off false (fun s => s.hstWrite off v))

end Sys2Proof.Machine
end

