-- ==== Sys2Proof/Machine/Calibration.lean ====
section
/-! DEFINITION. The calibration store (13_calibration.md): the record and its words, reselection, the vote of the copies, export and
import. The record in force is what the registers and the element hardware hold; the copies equal it except for the words a vote
finds changed (R317; log entry 54). -/

namespace Sys2Proof.Machine

/-! ### The record (R315, R316) -/

/-- What a word that no register shows holds after a power-up (R322): comparator pair 0 and ladder segments 0 to 15; test codes as
the converter measured them, free values (log entry 55). -/
def hiddenDefault (w : Nat) : Word :=
  if 17664 ≤ w && w < 24000 then
    (if w % 2 = 0 then 0x3FFFC else BitVec.ofNat 32 (Config.free (2 ^ 32 + w) % 2 ^ 32) &&& 0x3FFF3FFF)
  else 0

/-- A word that no register shows. -/
def State.hidden (s : State) (w : Nat) : Word := tabGet (hiddenDefault w) s.cal.words w

/-- Set a word that no register shows. -/
def State.setHidden (s : State) (w : Nat) (v : Word) : State :=
  { s with cal := { s.cal with words := if v = hiddenDefault w then tabErase s.cal.words w else tabPut s.cal.words w v } }

/-- Two halfwords in a word, the first in the low half. -/
def halves (a b : Nat) : Word := BitVec.ofNat 32 (a % 65536 + b % 65536 * 65536)

/-- The word of a lane entry (R316). -/
def State.laneWord (s : State) (l k : Nat) : Word :=
  if k < 32 then s.rd (TDC_CAL_TABLE l k)
  else if k = 32 then s.rd (TDC_PERIOD l)
  else if k = 33 then BitVec.ofNat 32 (s.fld (TDC_VTRIM_BASE l) * 2 ^ 24 + s.fld (TDC_LANE_SKEW_V l))
  else if k < 39 then s.hidden (128 + 40 * l + k)
  else BitVec.ofNat 32 (2 ^ 31 * b2n (s.calValid l))

/-- The word of a channel entry (R316): its mask is the one accepted last (R106, R109). -/
def State.channelWord (s : State) (c k : Nat) : Word :=
  if k = 0 then BitVec.ofNat 32 ((s.acceptedMask c).toNat % 2 ^ 32)
  else if k = 1 then BitVec.ofNat 32 ((s.acceptedMask c).toNat / 2 ^ 32)
  else if k = 2 then s.rd (DET_SCREAM_LO c)
  else if k = 3 then s.rd (DET_SCREAM_HI c) &&& 0xFFFF
  else if k = 4 then BitVec.ofNat 32 (s.fld (DET_CH_CFG_TRIM c) * 2 ^ 24 + (s.hidden (8448 + 48 * c + 4)).toNat % 65536)
  else if k < 45 then s.hidden (8448 + 48 * c + k)
  else 0

/-- A word of the record but its CRC (R315, R316). -/
def State.recWord (s : State) (w : Nat) : Word :=
  if w = 0 then 0x524C4143
  else if w = 1 then 0x00016C00
  else if w = 2 then s.rd CAL_EPOCH
  else if w = 3 then s.rd GLB_SERIAL_LO
  else if w = 4 then s.rd GLB_SERIAL_HI
  else if w = 5 then 0xB0
  else if w < 16 then 0
  else if w = 16 then BitVec.ofNat 32 (s.fld DET_COLOUR_OFS_V)
  else if w = 17 then BitVec.ofNat 32 (s.fld DET_TRIM_TC_V)
  else if w = 18 then BitVec.ofNat 32 (s.fld DET_TRIM_TREF_V)
  else if w = 19 then s.rd TDC_VTRIM_CAL
  else if w < 32 then 0
  else if w < 128 then
    halves (s.fld (TDC_LINK_SKEW_V (2 * (w - 32)))) (s.fld (TDC_LINK_SKEW_V (2 * (w - 32) + 1)))
  else if w < 8448 then s.laneWord ((w - 128) / 40) ((w - 128) % 40)
  else if w < 17664 then s.channelWord ((w - 8448) / 48) ((w - 8448) % 48)
  else if w < 24000 then s.hidden w
  else if w < 27072 then s.rd (ISP_FPN (w - 24000))
  else if w < 27584 then mapGet s.lnp.map (w - 27072)
  else 0

/-- Words in the record (R315). -/
def recordWords : Nat := 27648

/-- The record with its CRC (R315). -/
def State.record (s : State) : List Word :=
  let l := (List.range (recordWords - 1)).map s.recWord
  l ++ [BitVec.ofNat 32 (crc32 (wordsToBytes l))]

/-- Write a word of a lane entry to its register or hardware. -/
def State.setLaneWord (s : State) (l k : Nat) (v : Word) : State :=
  if k < 32 then s.wr (TDC_CAL_TABLE l k) v
  else if k = 32 then s.wr (TDC_PERIOD l) v
  else if k = 33 then (s.setFld (TDC_VTRIM_BASE l) (v.toNat / 2 ^ 24 % 64)).setFld (TDC_LANE_SKEW_V l) (v.toNat % 65536)
  else if k < 39 then s.setHidden (128 + 40 * l + k) v
  else s.setFlag (TDC_LANE_STATUS_CAL_VALID l) (v.toNat.testBit 31)

/-- Write a word of a channel entry: TRIM is written without changing DEPTH or ADAPT_EN (R321). -/
def State.setChannelWord (s : State) (c k : Nat) (v : Word) : State :=
  if k = 0 then s.wr (DET_SPAD_EN_LO c) v
  else if k = 1 then s.wr (DET_SPAD_EN_HI c) (v &&& 0xFFFF)
  else if k = 2 then s.wr (DET_SCREAM_LO c) v
  else if k = 3 then s.wr (DET_SCREAM_HI c) (v &&& 0xFFFF)
  else if k = 4 then (s.setFld (DET_CH_CFG_TRIM c) (v.toNat / 2 ^ 24 % 64)).setHidden (8448 + 48 * c + 4) (v &&& 0xFFFF)
  else if k < 45 then s.setHidden (8448 + 48 * c + k) v
  else s

/-- Write a word of the record to its register or hardware; header words but EPOCH, the map and reserved words have none. -/
def State.setRecWord (s : State) (w : Nat) (v : Word) : State :=
  if w = 2 then s.wr CAL_EPOCH v
  else if w < 16 then s
  else if w = 16 then s.setFld DET_COLOUR_OFS_V v.toNat
  else if w = 17 then s.setFld DET_TRIM_TC_V v.toNat
  else if w = 18 then s.setFld DET_TRIM_TREF_V v.toNat
  else if w = 19 then s.wr TDC_VTRIM_CAL v
  else if w < 32 then s
  else if w < 128 then
    (s.setFld (TDC_LINK_SKEW_V (2 * (w - 32))) v.toNat).setFld (TDC_LINK_SKEW_V (2 * (w - 32) + 1)) (v.toNat / 65536)
  else if w < 8448 then s.setLaneWord ((w - 128) / 40) ((w - 128) % 40) v
  else if w < 17664 then s.setChannelWord ((w - 8448) / 48) ((w - 8448) % 48) v
  else if w < 24000 then s.setHidden w v
  else if w < 27072 then s.wr (ISP_FPN (w - 24000)) v
  else s

/-! ### Marks (R318) -/

/-- Mark a channel uncalibrated. -/
def State.markChannel (s : State) (c : Nat) (b : Bool) : State := s.setBit (CAL_UNCAL (c / 32)) (c % 32) b

/-- The element owning a word is marked uncalibrated. -/
def State.markWord (s : State) (w : Nat) : State :=
  let mark := fun (s : State) =>
    ({ s with cal := { s.cal with splits := if s.cal.splits.contains w then s.cal.splits else s.cal.splits ++ [w] } } : State).setFlag
      CAL_STATUS_SPLIT true
  if w < 16 then s
  else if w = 16 then mark (s.setFlag CAL_GLOBAL_UNCAL_COLOUR true)
  else if w < 20 then mark (loop 192 (fun c s => s.markChannel c true) (s.setFlag CAL_GLOBAL_UNCAL_TRIM_VTRIM true))
  else if w < 32 then s
  else if w < 128 then mark ((s.markChannel (2 * (w - 32)) true).markChannel (2 * (w - 32) + 1) true)
  else if w < 8448 then mark (s.setFlag (TDC_LANE_STATUS_CAL_VALID ((w - 128) / 40)) false)
  else if w < 17664 then mark (s.markChannel ((w - 8448) / 48) true)
  else if w < 24000 then
    -- the pixel that the converter serves; a bench converter has none until it takes over
    let i := (w - 17664) / 2
    let p := s.converterPlace i
    mark (if s.converterRole i = 0 then s.setBit (IMG_DEFECT (p / 32)) (p % 32) true else s)
  else if w < 27072 then mark (s.setBit (IMG_DEFECT ((w - 24000) / 32)) ((w - 24000) % 32) true)
  else s

/-! ### The vote (R317) -/

/-- The three copies of a word: the record's word, but where a copy reads otherwise. -/
def copiesOf (v : Word) (upsets : List (Fin 3 × Fin 27648 × Word)) (w i : Nat) : Word :=
  match upsets.find? (fun e => e.1.val = i && e.2.1.val = w) with
  | some (_, _, x) => x
  | none => v

/-- The vote of one word. -/
def State.voteWord (s : State) (a b c : Word) (w : Nat) : State :=
  if a = b && b = c then s
  else if a = b || a = c || b = c then
    let m := if a = b || a = c then a else b
    (if m = s.recWord w then s else s.setRecWord w m).bump CAL_FIXES_V 1
  else
    let s := if w = 2 then s.wr CAL_EPOCH (BitVec.ofNat 32 (max a.toNat (max b.toNat c.toNat))) else s
    ((s.markWord w).bump CAL_SPLIT_CNT_V 1).raise EV_CAL_SPLIT

/-- The words in which a copy reads otherwise, each once, rising. -/
def upsetWords (upsets : List (Fin 3 × Fin 27648 × Word)) : List Nat :=
  (upsets.foldl (fun (t : List (Nat × Nat)) e => tabPut t e.2.1.val 0) []).map (fun e => e.1)

/-- The vote of the copies. -/
def State.vote (s : State) (upsets : List (Fin 3 × Fin 27648 × Word)) : State :=
  (upsetWords upsets).foldl (fun s w =>
    let v := if w = recordWords - 1 then BitVec.ofNat 32 (crc32 (wordsToBytes ((List.range (recordWords - 1)).map s.recWord)))
      else s.recWord w
    s.voteWord (copiesOf v upsets w 0) (copiesOf v upsets w 1) (copiesOf v upsets w 2) w) s

/-! ### Reselection (R314) -/

/-- A request that R314 allows; while a reselection runs none is (log entry 56). -/
def State.reselEligible (s : State) (kind i : Nat) : Bool :=
  !s.flag CAL_STATUS_RESEL_BUSY
    && ((kind = 0 && decide (i < 208) && mapState s.lnp.map 0 i ≠ 0)
      || (kind = 3 && decide (i < 3168) && !s.flag IMG_CTRL_ENABLE && s.converterRole i ≠ 2))

/-- A write of CAL_RESEL. -/
def State.reselect (s : State) (kind i : Nat) : State :=
  if s.reselEligible kind i then
    ({ s with cal := { s.cal with resel := some (kind, i) } } : State).setFlag CAL_STATUS_RESEL_BUSY true
  else { s.wrN CAL_ERR (0x09 * 2 ^ 24) with refused := some (BitVec.ofNat 32 (0x09 * 2 ^ 24)) }

/-- The four fast oscillators of a lane match within 0.5 % of the vernier step (R126, R312). -/
def stepsMatched (l : List Nat) : Bool := l.all (fun a => l.all (fun b => decide (200 * a ≤ 201 * b)))

/-- The acceptance of a lane's pair (R312): 0.05 tick is 3,277 of 2^-16 tick. -/
def State.laneAccepted (s : State) (a b : LaneRun) : Bool :=
  let band := fun (p : Nat) => decide (s.fld TDC_BAND_MIN * 256 ≤ p) && decide (p ≤ s.fld TDC_BAND_MAX * 256)
  a.cells = b.cells && decide (20 * ((a.period : Int) - b.period).natAbs ≤ 65536) && band a.period && band b.period
    && stepsMatched a.steps && stepsMatched b.steps

/-- The acceptance of a converter's pair (R312). -/
def converterAccepted (a b : ConverterRun) : Bool :=
  let near := fun (x y d : Nat) => decide (((x : Int) - y).natAbs ≤ d)
  a.pair = b.pair && a.ladder = b.ladder && near a.high b.high 2 && near a.low b.low 2
    && near a.high 14336 64 && near b.high 14336 64 && near a.low 2048 64 && near b.low 2048 64

/-- The end of a reselection with its result. -/
def State.reselEnd (s : State) (kind i : Nat) (pass : Bool) : State :=
  let key := 4096 * kind + i
  let again := !pass && s.cal.failed.contains key
  let l := s.cal.failed.filter (fun (k : Nat) => k ≠ key)
  let s : State := { s with cal := { s.cal with resel := none, failed := if pass || again then l else l ++ [key] } }
  let s := s.wrN CAL_RESEL_STATUS ((if pass then 2 ^ 31 else 2 ^ 30) + kind * 2 ^ 24 + i)
  let s := (s.setFlag CAL_STATUS_RESEL_BUSY false).raise EV_CAL_RESEL_DONE
  if again then (if kind = 3 then s.converterOff i 0x03 else s.sendOff kind i 0x03) else s

/-- An accepted lane: its cells are recorded, and a sent-off lane returns to the bench (R314). -/
def State.laneReselected (s : State) (l : Nat) (cells : List Word) : State :=
  let s := loop 5 (fun k s => s.setHidden (128 + 40 * l + 34 + k) (nth 0 cells k)) s
  let s := s.calTouch
  if mapState s.lnp.map 0 l = 2 then
    ((s.pool 0 2 1).writeMap (notFactory (mapSetState s.lnp.map 0 l 1))).setFld (TDC_LANE_STATUS_ROLE l) 1
  else s

/-- An accepted converter: selection and mean test codes are recorded, and the mark of a split is cleared (R313, R318). -/
def State.converterReselected (s : State) (i : Nat) (a b : ConverterRun) : State :=
  let w := 17664 + 2 * i
  let mean := fun (x y : Nat) => (x + y + 1) / 2
  let s := s.setHidden w (BitVec.ofNat 32 (a.ladder.toNat * 4 + a.pair.toNat))
  let s := s.setHidden (w + 1) (BitVec.ofNat 32 (mean a.high b.high * 65536 + mean a.low b.low))
  let p := s.converterPlace i
  let s := if s.converterSplit i && s.converterRole i = 0 then s.setBit (IMG_DEFECT (p / 32)) (p % 32) false else s
  (s.unsplit w (w + 2)).calTouch

/-- The two selection runs have ended. -/
def State.reselDone (s : State) (r : SelectionRuns) : State :=
  match s.cal.resel, r with
  | some (0, l), .lane a b =>
    if s.laneAccepted a b then (s.laneReselected l a.cells).reselEnd 0 l true else s.reselEnd 0 l false
  | some (3, i), .converter a b =>
    if converterAccepted a b then (s.converterReselected i a b).reselEnd 3 i true else s.reselEnd 3 i false
  | _, _ => s

/-! ### Export (R319) -/

/-- A refused export or import (R320). -/
def State.calRefuse (s : State) (code detail : Nat) : State := s.refuse CAL_ERR EV_CAL_IMPORT_REFUSED code detail

/-- A write of EXPORT: the snapshot becomes an item for its queue. -/
def State.exportStart (s : State) : State :=
  if s.flag CAL_STATUS_BUSY || s.flag CAL_STATUS_RESEL_BUSY then s.calRefuse 0x01 0
  else
    let item : DmaItem := ⟨s.fld CAL_XFER_PORT, s.fld CAL_XFER_QUEUE, 2, wordsToBytes s.record⟩
    let s : State := { s with dma := { s.dma with ready := s.dma.ready ++ [item] },
                              cal := { s.cal with exporting := some (s.rdN CAL_EPOCH, false), held := false } }
    s.setFlag CAL_STATUS_BUSY true

/-- The export found no descriptor, or one too short. -/
def State.exportFailed (s : State) : State :=
  if s.cal.exporting.isNone then s
  else
    (({ s with cal := { s.cal with exporting := none, held := false } } : State).setFlag CAL_STATUS_BUSY false).calRefuse 0x08 0

/-- The record has been written into its descriptor. -/
def State.exportDone (s : State) : State :=
  { s with cal := { s.cal with exporting := s.cal.exporting.map (fun e => (e.1, true)) } }

/-- The export completes. -/
def State.exportComplete (s : State) : State :=
  match s.cal.exporting with
  | some (epoch, true) =>
    let held := s.cal.held
    let s : State := { s with cal := { s.cal with exporting := none, held := false } }
    let s := (s.setFlag CAL_STATUS_BUSY false).wrN CAL_EXPORT_EPOCH epoch
    (if held then s else s.setFlag CAL_STATUS_DIRTY false).raise EV_CAL_EXPORT_DONE
  | _ => s

/-! ### Import (R320, R321) -/

/-- The map of a record, as what differs from the factory default. -/
def recordMap (r : List Word) : List (Nat × Word) :=
  (List.range 512).filterMap (fun w =>
    let v := nth 0 r (27072 + w)
    if v = factoryWord w then none else some (w, v))

/-- A channel's masks that R320 refuses. -/
def badMask (r : List Word) (c : Nat) : Bool :=
  let b := 8448 + 48 * c
  let wide := fun k => BitVec.ofNat 48 ((nth 0 r k).toNat + (nth 0 r (k + 1)).toNat % 65536 * 2 ^ 32)
  decide (40 < maskCount (wide b)) || wide b &&& wide (b + 2) ≠ 0

/-- A ladder mask without exactly 16 segments. -/
def badLadder (r : List Word) (i : Nat) : Bool :=
  let v := (nth 0 r (17664 + 2 * i)).toNat / 4 % 2 ^ 20
  ((List.range 20).filter (fun b => v.testBit b)).length ≠ 16

/-- The first word of a map that breaks the layout of R303: an element, position or role that does not exist, or a reserved bit. -/
def badMapWord (m : List (Nat × Word)) : Option Nat :=
  (List.range 0x1FF).find? (fun w =>
    if w = 0 then mapGet m 0 ≠ 0x00010200
    else if w = 2 then decide (1 < (mapGet m 2).toNat)
    else if w = 3 then mapGet m 3 ≠ 0
    else if 4 ≤ w && w < 0xC4 then
      let c := w - 4
      decide (208 ≤ mapLane m c) || decide (52 ≤ mapEngine m c) || decide (9 < mapBlock m c) || mapBits m w 0 6 ≠ 0
    else if 0xD5 ≤ w && w < 0x155 then
      (List.range 2).any (fun i => let p := 2 * (w - 0xD5) + i
        decide (288 ≤ mapTile m p) || decide (2 < mapRole m p) || mapBits m w (16 * i + 9) 4 ≠ 0)
    else if 0xC4 ≤ w && w < 0x167 then (List.range 16).any (fun k => mapBits m w (2 * k) 2 = 3)
    else if 0x167 ≤ w && w < 0x17F then (List.range 4).any (fun k => mapBits m w (8 * k + 6) 2 = 3 || mapBits m w (8 * k + 5) 1 ≠ 0)
    else if 0x187 ≤ w then mapGet m w ≠ 0
    else false)

/-- The first word of a record with an illegal value (R320, code 0x07). -/
def illegalWord (r : List Word) : Option Nat :=
  match (List.range 192).find? (badMask r) with
  | some c => some (8448 + 48 * c)
  | none =>
    match (List.range 3168).find? (badLadder r) with
    | some i => some (17664 + 2 * i)
    | none =>
      let m := recordMap r
      match badMapWord m with
      | some w => some (27072 + w)
      | none => if mapGet m 0x1FF ≠ mapCrc m then some (27072 + 0x1FF) else none

/-- The first check of R320 that a record fails, from 0x03 on, with its DETAIL. -/
def State.recordCode (s : State) (r : List Word) : Nat × Nat :=
  if nth 0 r 0 ≠ 0x524C4143 || nth 0 r 1 ≠ 0x00016C00 then (0x03, 0)
  else if (nth 0 r (recordWords - 1)).toNat ≠ crc32 (wordsToBytes (r.take (recordWords - 1))) then (0x04, 0)
  else if nth 0 r 3 ≠ s.rd GLB_SERIAL_LO || nth 0 r 4 ≠ s.rd GLB_SERIAL_HI then (0x05, 0)
  else if (nth 0 r 5).toNat % 256 ≠ 0xB0 then (0x06, 0)
  else match illegalWord r with
    | some w => (0x07, w)
    | none => (0, 0)

/-- A write of IMPORT: refused while a transfer or reselection runs, else the record is to be read. -/
def State.importStart (s : State) : State :=
  if s.flag CAL_STATUS_BUSY || s.flag CAL_STATUS_RESEL_BUSY then s.calRefuse 0x01 0
  else ({ s with cal := { s.cal with importAsked := true } } : State).setFlag CAL_STATUS_BUSY true

/-- The import ends without an effect. -/
def State.importRefused (s : State) (code detail : Nat) : State :=
  (({ s with cal := { s.cal with importAsked := false } } : State).setFlag CAL_STATUS_BUSY false).calRefuse code detail

/-- A mask carried in a record is submitted (R106, R321). -/
def State.importMask (s : State) (c : Nat) : State :=
  let m : BitVec 48 := BitVec.ofNat 48 (s.rdN (DET_SPAD_EN_LO c) + s.fld (DET_SPAD_EN_HI_V c) * 2 ^ 32)
  let x := { s.chan c with pendingOff := 0, repairFrom := none }
  s.setChan c (if m = x.mask && x.waiting.isEmpty then x else { x with waiting := x.waiting ++ [(m, s.now)] })

/-- Registers and element hardware take a record's values (R136, R321); every mark is cleared. -/
def State.takeRecord (s : State) (r : List Word) : State :=
  let s := (List.range (27072 - 16)).foldl (fun s i =>
    let w := 16 + i
    let isMask := decide (8448 ≤ w) && decide (w < 17664) && decide ((w - 8448) % 48 < 2)
    if isMask then s else s.setRecWord w (nth 0 r w)) s
  let s := loop 192 (fun c s =>
    ((s.setRecWord (8448 + 48 * c) (nth 0 r (8448 + 48 * c))).setRecWord (8449 + 48 * c) (nth 0 r (8449 + 48 * c))).importMask c) s
  let s := loop 208 (fun l s =>
    let s := s.setLane l { s.lane l with runA := [], runB := [], second := false, edges := 0, tableNext := none, meas := [] }
    let s := s.setFlag (TDC_LANE_STATUS_PERIOD_OK l) (s.inBand (s.rdN (TDC_PERIOD l)))
    (s.setFlag (TDC_LANE_STATUS_CAL_VALID l) true).setFld (TDC_LANE_STATUS_CAL_GEN l) (s.fld (TDC_LANE_STATUS_CAL_GEN l) + 1)) s
  let m := recordMap r
  let epoch := max (mapGet s.lnp.map 1).toNat (mapGet m 1).toNat + 1
  let s := s.importMap (mapSet m 1 (BitVec.ofNat 32 epoch))
  let s := (loop 6 (fun w s => s.wr (CAL_UNCAL w) 0) s).wr CAL_GLOBAL_UNCAL 0
  let s : State := { s with cal := { s.cal with splits := [], due := none } }
  s.setFlag CAL_STATUS_SPLIT false

/-- An accepted import is applied (R321). -/
def State.importApply (s : State) (r : List Word) : State :=
  let epoch := max (s.rdN CAL_EPOCH) (nth 0 r 2).toNat + 1
  let s := (s.wrN CAL_EPOCH epoch).wrN CAL_EXPORT_EPOCH epoch
  let s := ((s.setFlag CAL_STATUS_IMPORTED true).setFlag CAL_STATUS_DIRTY false).setFlag CAL_STATUS_BUSY false
  let s : State := { s with cal := { s.cal with accepted := none, due := some r } }
  (if s.grid.running then s else s.takeRecord r).raise EV_CAL_IMPORT_DONE

/-- What a line start does: imported values take effect (R321). -/
def State.calLineStart (s : State) : State :=
  match s.cal.due with
  | some r => s.takeRecord r
  | none => s

/-- A write of the CAL block. -/
def State.calWrite (s : State) (off : Nat) (v : Word) : State :=
  if off = CAL_CTRL then
    let s := if v.toNat.testBit 0 then s.exportStart else s
    if v.toNat.testBit 1 then s.importStart else s
  else if off = CAL_RESEL then s.reselect (v.toNat / 2 ^ 28) (v.toNat % 4096)
  else s.plainWrite off off v

/-- CAL_COPY[i] (R323): the tile of SYSTEM position 20 + i and the EPOCH the copy carries. -/
def State.copyView (s : State) (i : Nat) : Word :=
  BitVec.ofNat 32 (2 ^ 31 + mapTile s.lnp.map (20 + i) % 512 * 65536 + s.rdN CAL_EPOCH % 65536)

/-! ### The meanings -/

/-- RESELECTION_REQUEST (R314): a write of CAL_RESEL. -/
def execReselectionRequest (p : Port) (kind : BitVec 4) (i : BitVec 12) (s : State) : Host.Outcome State Fault Refusal :=
  done (s.hostGate p CAL_RESEL false (fun s => s.calWrite CAL_RESEL (BitVec.ofNat 32 (kind.toNat * 2 ^ 28 + i.toNat))))

/-- RESELECTION_DONE (R314): the two selection runs end with what they found. -/
def execReselectionDone (r : SelectionRuns) (s : State) : Host.Outcome State Fault Refusal :=
  done (s.inCore (fun s => s.reselDone r))

/-- CALIBRATION_VOTE (R317): one second after the vote before it; `upsets` are the words of a copy that read other than the device wrote
them. -/
def execCalibrationVote (upsets : List (Fin 3 × Fin 27648 × Word)) (s : State) : Host.Outcome State Fault Refusal :=
  done (s.inCore (fun s =>
    let s := s.advance (s.cal.voteAt + 256000000000)
    ({ s with cal := { s.cal with voteAt := s.now } } : State).vote upsets))

/-- CAL_EXPORT_START (R319): a write of 1 to CAL_CTRL.EXPORT. -/
def execCalExportStart (p : Port) (s : State) : Host.Outcome State Fault Refusal :=
  done (s.hostGate p CAL_CTRL false (fun s => s.calWrite CAL_CTRL 1))

/-- CAL_EXPORT_COMPLETE (R319): after the record's descriptor has completed. -/
def execCalExportComplete (s : State) : Host.Outcome State Fault Refusal := done (s.inCore State.exportComplete)

/-- CAL_IMPORT_APPLY (R321): an accepted record is written. -/
def execCalImportApply (s : State) : Host.Outcome State Fault Refusal :=
  done (s.inCore (fun s =>
    match s.cal.accepted with
    | some r => s.importApply r
    | none => s))

end Sys2Proof.Machine
end

