-- ==== Sys2Proof/Machine/Network.lean ====
section
/-! DEFINITION. Ethernet, chain links and time synchronisation (19_network_sync.md). A received chain alarm, which is a tamper
source, has its meaning in System.lean. -/

namespace Sys2Proof.Machine

/-- The fused serial number (R464). -/
def State.serial (s : State) : Nat := s.rdN GLB_SERIAL_HI * 2 ^ 32 + s.rdN GLB_SERIAL_LO

/-- A chain link. -/
def State.link (s : State) (c : Nat) : ChainLink := if c = 0 then s.net.link0 else s.net.link1

/-- Set a chain link. -/
def State.setLink (s : State) (c : Nat) (l : ChainLink) : State :=
  if c = 0 then { s with net := { s.net with link0 := l } } else { s with net := { s.net with link1 := l } }

/-- A link is enabled in CHN_CTRL.LINK_EN (R444). -/
def State.linkEnabled (s : State) (c : Nat) : Bool := s.bit CHN_CTRL c

/-- An alarm or red card goes to the siblings on both chain links (R347, R349, R440). -/
def State.chainAlarmSend (s : State) (level src : Nat) : State :=
  (List.range 2).foldl (fun s c =>
    if s.linkEnabled c then { s with wire := s.wire ++ [WireFrame.alarm c level src s.ns] } else s) s

/-! ### Device time (R435 to R438) -/

/-- This head's own time quality (R442): 2 synced to gPTP, 1 synced to PPS_IN, 0 free-running. -/
def State.ownQuality (s : State) : Nat :=
  if !s.flag NET_TIME_STATUS_SYNCED then 0
  else if s.fld NET_TIME_STATUS_IN_FORCE = 1 then 2 else if s.fld NET_TIME_STATUS_IN_FORCE = 2 then 1 else 0

/-- The link that leads to the chain time master in the fewest hops, if the master is a sibling (R442): best quality, then the
lower serial number. -/
def State.masterLink (s : State) : Option Nat :=
  let cand := (List.range 2).filter (fun c => (s.link c).up)
  let better (a b : ChainLink) : Bool :=
    decide (b.quality < a.quality) || (a.quality = b.quality && (decide (a.masterSerial < b.masterSerial)
      || (a.masterSerial = b.masterSerial && decide (a.hops < b.hops))))
  match cand with
  | [] => none
  | c :: t =>
    let best := t.foldl (fun m x => if better (s.link x) (s.link m) then x else m) c
    let l := s.link best
    let own := s.ownQuality
    if decide (own < l.quality) || (own = l.quality && decide (l.masterSerial < s.serial)) then some best else none

/-- A sibling synced to a source exists (R435). -/
def State.syncedSibling (s : State) : Bool :=
  (s.net.link0.up && decide (1 ≤ s.net.link0.quality)) || (s.net.link1.up && decide (1 ≤ s.net.link1.quality))

/-- IN_FORCE follows SOURCE and the chain time master (R435, R442). -/
def State.settleSource (s : State) : State :=
  let src := s.fld NET_TIME_CTRL_SOURCE
  let m := s.masterLink
  let s := if src = 0 then s.setFld NET_TIME_STATUS_IN_FORCE (if m.isSome then 3 else 0)
    else if s.fld NET_TIME_STATUS_IN_FORCE = 3 && !s.syncedSibling then s.setFld NET_TIME_STATUS_IN_FORCE src
    else s
  let s := s.setFld NET_TIME_STATUS_HOPS (match m with | some c => (s.link c).hops + 1 | none => 0)
  s.setFld CHN_STATUS_TIME_LINK (match m with | some c => c + 1 | none => 0)

/-- The discipline is selected (R435): SOURCE takes effect, and SYNCED counts afresh. -/
def State.selectSource (s : State) (src : Nat) : State :=
  let was := s.flag NET_TIME_STATUS_SYNCED
  let s := (s.setFld NET_TIME_CTRL_SOURCE src).setFld NET_TIME_STATUS_IN_FORCE src
  let s : State := { s with net := { s.net with goodRun := 0, lastPps := none, measAt := none, unsyncedAt := s.now } }
  ((s.setFlag NET_TIME_STATUS_SYNCED false).raiseIf was EV_NET_SYNC).settleSource

/-- The largest rate correction, 500 ppm in 2^-40 ns/ns (R443). -/
def rateMax : Int := 549755813

/-- A rate correction takes effect, clamped to ±500 ppm (R435, R443). -/
def State.setRate (s : State) (r : Int) : State :=
  let r := clampI r (-rateMax) rateMax
  { s.wrN NET_TIME_RATE (toBits 32 r) with rateCorr := r }

/-- The tick at which device time reaches `ns`, at the present rate (R435); now where it has reached it. -/
def State.tickAt (s : State) (ns : Nat) : Nat :=
  let step := (2 ^ 40 + s.rateCorr).toNat
  s.now + (ns * 2 ^ 48 - s.devTime + step - 1) / step

/-- Device time steps by a signed number of ns, between two reference periods (R437). -/
def State.stepTime (s : State) (ns : Int) : State :=
  let s := s.advance ((s.now + 2559) / 2560 * 2560)
  { s with devTime := ((s.devTime : Int) + ns * 2 ^ 48).toNat % 2 ^ 112 }

/-- An offset measurement against the time source (R435, R436): SYNCED, NET_OFFSET, and Priard's correction. The rate Priard
chooses for an offset within 1 ms is not stated: a free value (log entry 21). -/
def State.measure (s : State) (offset : Int) : State :=
  let s := s.wrN NET_OFFSET (toBits 32 offset)
  let run := if offset.natAbs ≤ 100 then s.net.goodRun + 1 else 0
  let was := s.flag NET_TIME_STATUS_SYNCED
  let now := if 1000 < offset.natAbs then false else was || decide (16 ≤ run)
  let s : State := { s with net := { s.net with goodRun := run, measAt := some s.now,
                                                unsyncedAt := if was && !now then s.now else s.net.unsyncedAt } }
  let s := (s.setFlag NET_TIME_STATUS_SYNCED now).raiseIf (now ≠ was) EV_NET_SYNC
  if s.fwRuns then
    if offset.natAbs ≤ 1000000 then s.setRate (Config.rateServo offset (s.rdN NET_TIME_RATE)) else s.stepTime (-offset)
  else s

/-- A gPTP message and its arrival (R436): times in ns; the message types of IEEE 802.1AS that the end station takes. -/
def State.gptp (s : State) (m : GptpMsg) : State :=
  let lat : Int := (s.fld NET_PTP_LAT_V : Nat)
  let rx : Int := (s.ns : Int) + lat
  match m with
  | .sync => { s with net := { s.net with syncRx := some (rx.toNat) } }
  | .followUp origin =>
    match s.net.syncRx with
    | none => s
    | some t =>
      let s : State := { s with net := { s.net with syncRx := none } }
      if s.fld NET_TIME_STATUS_IN_FORCE = 1 then s.measure ((t : Int) - (origin + s.net.peerDelay)) else s
  | .pdelayReq =>
    let lane := s.fld NET_TIME_CTRL_PTP_LANE
    { s with wire := s.wire ++ [WireFrame.gptp lane 3 rx, .gptp lane 4 ((s.ns : Int) - lat)] }
  | .pdelayResp t2 => { s with net := { s.net with pdelayRx := some (t2, rx) } }
  | .pdelayRespFollowUp t3 =>
    match s.net.pdelayTx, s.net.pdelayRx with
    | some t1, some (t2, t4) =>
      { s with net := { s.net with peerDelay := ((t4 - t1) - (t3 - t2)).fdiv 2, pdelayTx := none, pdelayRx := none } }
    | _, _ => s

/-! ### Ethernet encapsulation (R433) -/

/-- The internet checksum of bytes. -/
def inetSum (l : List Byte) : Nat :=
  let rec go : Nat → List Byte → Nat → Nat
    | 0, _, a => a
    | n + 1, l, a => if l.isEmpty then a else go n (l.drop 2) (a + beNat ((l.take 2) ++ List.replicate (2 - (l.take 2).length) 0))
  let x := go (l.length + 1) l 0
  let x := x % 65536 + x / 65536
  x % 65536 + x / 65536

/-- A packet as the payload of one UDP datagram (R433); `pcp` the priority of its kind. -/
def State.datagram (s : State) (pcp : Nat) (payload : List Byte) : List Byte :=
  let f (r : Fld) : Nat := s.fldF r
  let w (k : Nat) : Nat := (s.rdF k).toNat
  let mac (hi lo : Nat) : List Byte := beBytes 2 (w hi % 65536) ++ beBytes 4 (w lo)
  let v6 := s.flagF NET_IP_CFG_IPV6
  let ulen := payload.length + 8
  let udp0 := beBytes 2 (f NET_UDP_SRC_PORT) ++ beBytes 2 (f NET_UDP_DST_PORT) ++ beBytes 2 ulen
  let src6 := (List.range 4).flatMap (fun i => beBytes 4 (w (NET_SRC_IP6 i)))
  let dst6 := (List.range 4).flatMap (fun i => beBytes 4 (w (NET_DST_IP6 i)))
  let src4 := beBytes 4 (w NET_SRC_IP4)
  let dst4 := beBytes 4 (w NET_DST_IP4)
  let pseudo := if v6 then src6 ++ dst6 ++ beBytes 4 ulen ++ [0, 0, 0, 17] else src4 ++ dst4 ++ [0, 17] ++ beBytes 2 ulen
  let ck := 65535 - inetSum (pseudo ++ udp0 ++ [0, 0] ++ payload)
  let udp := udp0 ++ beBytes 2 (if ck = 0 then 65535 else ck) ++ payload
  let dscp := f NET_IP_CFG_DSCP * 4
  let ip :=
    if v6 then beBytes 4 (0x60000000 + dscp * 2 ^ 20) ++ beBytes 2 ulen ++ [17] ++ beBytes 1 (f NET_IP_CFG_TTL) ++ src6 ++ dst6
    else
      let h0 := [0x45] ++ beBytes 1 dscp ++ beBytes 2 (ulen + 20) ++ beBytes 2 s.net.ipIdent ++ [0x40, 0] ++ beBytes 1 (f NET_IP_CFG_TTL) ++ [17]
      h0 ++ beBytes 2 (65535 - inetSum (h0 ++ [0, 0] ++ src4 ++ dst4)) ++ src4 ++ dst4
  let tag := if s.flagF NET_VLAN_EN then [0x81, 0] ++ beBytes 2 (pcp * 8192 + f NET_VLAN_VID) else []
  mac NET_DST_MAC_HI NET_DST_MAC_LO ++ mac NET_SRC_MAC_HI NET_SRC_MAC_LO ++ tag
    ++ (if v6 then [0x86, 0xDD] else [0x08, 0x00]) ++ ip ++ udp

/-- Whether a packet's datagram fits NET_MTU (R433). -/
def State.fitsMtu (s : State) (len : Nat) : Bool :=
  decide (len + (if s.flagF NET_IP_CFG_IPV6 then 48 else 28) ≤ s.fldF NET_MTU_V)

/-- Send a packet on an Ethernet lane. -/
def State.sendEthernet (s : State) (lane pcp : Nat) (payload : List Byte) : State :=
  let d := s.datagram pcp payload
  let s : State := { s with wire := s.wire ++ [WireFrame.ethernet lane d], net := { s.net with ipIdent := (s.net.ipIdent + 1) % 65536 } }
  s.wrN (NET_LANE_TX lane) (s.rdN (NET_LANE_TX lane) + 1)

/-- The lanes that transmit from this frame start on (R434). -/
def State.takeLanes (s : State) : State :=
  { s with net := { s.net with lanes := (List.range 4).filter (fun n => s.bit NET_STATUS n && (s.rdF NET_CTRL).toNat.testBit n) } }

/-- The network settings take effect at a frame start (R443). -/
def State.netLatch (s : State) : State :=
  (s.latch 0x440000 0x440058 s.regs).takeLanes

/-! ### Chain links (R440 to R442) -/

/-- A serial number put in its place. -/
def insertSerial (x : Nat) : List Nat → List Nat
  | [] => [x]
  | a :: t => if x < a then x :: a :: t else if x = a then a :: t else a :: insertSerial x t

/-- Show the member set (R441, R444). -/
def State.showMembers (s : State) : State :=
  let s := loop 8 (fun i s =>
    let v := nth 0 s.net.members i
    (s.wrN (CHN_MEMBER_LO i) (v % 2 ^ 32)).wrN (CHN_MEMBER_HI i) (v / 2 ^ 32)) s
  s.setFld CHN_STATUS_MEMBERS s.net.members.length

/-- Ceiling of the base-2 logarithm. -/
def clog2 (n : Nat) : Nat := if n ≤ 1 then 0 else Nat.log2 (n - 1) + 1

/-- The coordinated values are written into SHT_SERVE_CFG, shadow and in force, and latch (R441). -/
def State.coordWrite (s : State) (head lg : Nat) : State :=
  let put (w : Word) : Word := SHT_SERVE_CFG_PHASE.put (SHT_SERVE_CFG_PHASES_LOG2.put (SHT_SERVE_CFG_HEAD_ID.put w head) lg) head
  let s := s.wr SHT_SERVE_CFG (put (s.rd SHT_SERVE_CFG))
  let s : State := { s with inForce := tabSet (resetOf SHT_SERVE_CFG) s.inForce SHT_SERVE_CFG (put (s.rdF SHT_SERVE_CFG)) }
  let s := if s.sht.pending.isSome then
      { s with sht := { s.sht with staged := tabSet (resetOf SHT_SERVE_CFG) s.sht.staged SHT_SERVE_CFG
                                     (put (tabGet (resetOf SHT_SERVE_CFG) s.sht.staged SHT_SERVE_CFG)) } }
    else s
  let s : State := { s with net := { s.net with coordLatch := none } }
  s.setFld SHT_GEN_V (s.fld SHT_GEN_V + 1)

/-- The coordinated values wait for a frame start and latch there (R441). -/
def State.coordFrame (s : State) : State :=
  match s.net.coordLatch with
  | some (h, l) => s.coordWrite h l
  | none => s

/-- The member set changes. -/
def State.addMembers (s : State) (l : List Nat) : State :=
  let m := l.foldl (fun m x => insertSerial x m) s.net.members
  if m = s.net.members then s
  else
    -- the first whole second of device time at least 100 ms after this change
    let due := (s.ns + 1099999999) / 1000000000 * 1000000000
    ({ s with net := { s.net with members := m, coordDue := some due } } : State).showMembers

/-- A write of the NET block (R437, R443). -/
def State.netWrite (s : State) (off : Nat) (v : Word) : State :=
  if off < 0x440058 then
    if s.flag SHT_STATUS_RUNNING then s.refuse NET_CFG_ERR EV_NET_CFG_ERROR 1 (off - 0x440000)
    else if off = NET_MTU && (v.toNat % 16384 < 1280 || 9000 < v.toNat % 16384) then
      s.refuse NET_CFG_ERR EV_NET_CFG_ERROR 2 (off - 0x440000)
    else s.plainWrite off off v
  else if off = NET_TIME_RATE then s.setRate (signedN 32 v.toNat)
  else if off = NET_TIME_STEP_LO then s.wr NET_TIME_STEP_LO v
  else if off = NET_TIME_STEP_HI then
    (s.stepTime (signedN 64 (v.toNat * 2 ^ 32 + s.rdN NET_TIME_STEP_LO))).wr NET_TIME_STEP_LO 0
  else if off = NET_TIME_CTRL then
    let s := s.setFld NET_TIME_CTRL_PTP_LANE ((v.toNat / 16) % 4)
    if v.toNat % 4 = s.fld NET_TIME_CTRL_SOURCE then s else if v.toNat % 4 = 3 then s.ignore else s.selectSource (v.toNat % 4)
  else s.plainWrite off off v

/-- CHN_CTRL.RESET empties the member set but for the head's own serial number (R441). -/
def State.chainReset (s : State) : State :=
  let s : State := { s with net := { s.net with members := [s.serial], coordDue := none, coordLatch := none } }
  (((s.setFlag CHN_STATUS_COORDINATED false).setFlag CHN_STATUS_CONFLICT false).setFld CHN_STATUS_HEAD_ID 0).showMembers

/-- A write of the CHN block (R441, R444). -/
def State.chnWrite (s : State) (off : Nat) (v : Word) : State :=
  if off = CHN_CTRL then
    let s := s.plainWrite off off v
    if v.toNat.testBit 4 then s.chainReset else s
  else s.plainWrite off off v

/-! ### The meanings -/

/-- NET_LINK (R432): what the PCS of a lane shows; the lane is up while it holds block lock and receives no remote fault. -/
def execNetLink (lane : Fin 4) (lock remoteFault : Bool) (s : State) : Host.Outcome State Fault Refusal :=
  let up := lock && !remoteFault
  done (s.inCore (fun s => if s.bit NET_STATUS lane = up then s else (s.setBit NET_STATUS lane up).raise EV_NET_LINK))

/-- GPTP_FRAME_RECEIVED (R432, R436): its start-of-frame delimiter arrives at tick `t`; on a lane other than PTP_LANE it is dropped and
counted. -/
def execGptpFrameReceived (t : Nat) (lane : Fin 4) (m : GptpMsg) (s : State) : Host.Outcome State Fault Refusal :=
  let s := s.advance t
  done (s.inCore (fun s =>
    if lane.val = s.fld NET_TIME_CTRL_PTP_LANE then (if s.fwRuns then s.gptp m else s)
    else s.wrN (NET_LANE_RX_DROP lane) (s.rdN (NET_LANE_RX_DROP lane) + 1)))

/-- FOREIGN_FRAME_DROP (R432, R443): a received frame other than gPTP, whether its FCS holds, and the RS-FEC codewords corrected and not
correctable in it. -/
def execForeignFrameDrop (lane : Fin 4) (fcsOk : Bool) (corr uncorr : BitVec 16) (s : State) : Host.Outcome State Fault Refusal :=
  done (s.inCore (fun s =>
    let s := s.wrN (NET_LANE_RX_DROP lane) (s.rdN (NET_LANE_RX_DROP lane) + 1)
    let s := if fcsOk then s else s.wrN (NET_LANE_FCS_ERR lane) (s.rdN (NET_LANE_FCS_ERR lane) + 1)
    (s.bump (NET_LANE_FEC_CORR lane) corr.toNat).bump (NET_LANE_FEC_UNCORR lane) uncorr.toNat))

/-- TIME_STEP (R437): NET_TIME_STEP_HI written. -/
def execTimeStep (p : Port) (hi : Word) (s : State) : Host.Outcome State Fault Refusal :=
  done (s.hostGate p NET_TIME_STEP_HI false (fun s => s.netWrite NET_TIME_STEP_HI hi))

/-- PPS_IN_EDGE (R438). -/
def execPpsInEdge (t : Nat) (s : State) : Host.Outcome State Fault Refusal :=
  let s := s.advance t
  done (s.inCore (fun s =>
    if s.fld NET_TIME_STATUS_IN_FORCE ≠ 2 then s
    else
      let good := match s.net.lastPps with
        | none => true
        | some a => decide (a + 255974400000 ≤ s.now) && decide (s.now ≤ a + 256025600000)
      if !good then s.bump NET_SYNC_ERR_PPS_REJECT 1
      else
        let s : State := { s with net := { s.net with lastPps := some s.now } }
        let ns : Int := s.ns
        if s.flag NET_PPS_SEC_VALID then
          let off := ns - (s.fld NET_PPS_SEC_SEC : Nat) * 1000000000
          (s.setFlag NET_PPS_SEC_VALID false).measure off
        else s.measure (ns - ((ns + 500000000).fdiv 1000000000) * 1000000000)))

/-- PPS_OUT_PULSE (R438): at the next whole second of device time P83 rises for OUT_W. -/
def execPpsOutPulse (s : State) : Host.Outcome State Fault Refusal :=
  done (s.inCore (fun s =>
    let sec := max (s.net.ppsSecond + 1) ((s.devTime + 1000000000 * 2 ^ 48 - 1) / (1000000000 * 2 ^ 48))
    let s := s.advance (s.tickAt (sec * 1000000000))
    let s : State := { s with net := { s.net with ppsSecond := sec } }
    if s.flag NET_PPS_CFG_OUT_EN then { s with net := { s.net with ppsUntil := s.now + 2560 * s.fld NET_PPS_CFG_OUT_W } } else s))

/-- HELLO_SEND (R440): 1 ms after the one before, on each enabled chain link. -/
def execHelloSend (s : State) : Host.Outcome State Fault Refusal :=
  done (s.inCore (fun s =>
    let s := s.advance (s.net.helloAt + 256000000)
    let s : State := { s with net := { s.net with helloAt := s.now } }
    (List.range 2).foldl (fun s c =>
      if s.linkEnabled c then { s with wire := s.wire ++ [WireFrame.hello c s.serial s.net.members s.ownQuality] } else s) s))

/-- TIME_FRAME_SEND (R440): 10 ms after the one before, on each enabled chain link. -/
def execTimeFrameSend (s : State) : Host.Outcome State Fault Refusal :=
  done (s.inCore (fun s =>
    let s := s.advance (s.net.timeAt + 2560000000)
    let s : State := { s with net := { s.net with timeAt := s.now } }
    (List.range 2).foldl (fun s c =>
      if s.linkEnabled c then
        ({ s with wire := s.wire ++ [WireFrame.time c s.ns] } : State).setLink c { s.link c with sentNs := some s.ns }
      else s) s))

/-- HELLO_RECEIVED (R440, R441, R442): a good frame at tick `t` with the sender's serial number, its member set, and the best time master it
announces. -/
def execHelloReceived (t : Nat) (c : Fin 2) (serial : BitVec 64) (members : List (BitVec 64)) (quality : Fin 3) (master : BitVec 64)
    (hops : BitVec 4) (s : State) : Host.Outcome State Fault Refusal :=
  let s := s.advance t
  done (s.inCore (fun s =>
    if !s.linkEnabled c then s
    else
      let l := s.link c
      let n := l.hellos + 1
      let up := l.up || decide (3 ≤ n)
      let s := s.setLink c { l with hellos := n, up := up, quality := quality, masterSerial := master.toNat, hops := hops.toNat,
                                    goodAt := s.now }
      let s := (s.setBit CHN_STATUS c up).raiseIf (up ≠ l.up) EV_CHN_LINK
      (s.addMembers (serial.toNat :: members.map BitVec.toNat)).settleSource))

/-- TIME_FRAME_RECEIVED (R440, R442): a good frame at tick `t`, which carries in ns when the sibling received this head's last TIME frame and
when it sent this one. With IN_FORCE = 3 the link that leads to the master measures the offset. -/
def execTimeFrameReceived (t : Nat) (c : Fin 2) (t2 t3 : Int) (s : State) : Host.Outcome State Fault Refusal :=
  let s := s.advance t
  done (s.inCore (fun s =>
    if !s.linkEnabled c then s
    else
      let s := s.setLink c { s.link c with goodAt := s.now }
      match (s.link c).sentNs with
      | some t1 =>
        if s.fld NET_TIME_STATUS_IN_FORCE = 3 && s.masterLink = some c.val then s.measure ((((t1 : Int) - t2) + ((s.ns : Int) - t3)).fdiv 2)
        else s
      | none => s))

/-- CHAIN_FRAME_CRC_ERROR (R440). -/
def execChainFrameCrcError (c : Fin 2) (s : State) : Host.Outcome State Fault Refusal :=
  done (s.inCore (fun s => s.wrN (CHN_CRC_ERR c) (s.rdN (CHN_CRC_ERR c) + 1)))

/-- CHAIN_LINK_TIMEOUT (R440): 10 ms after the last good frame. -/
def execChainLinkTimeout (c : Fin 2) (s : State) : Host.Outcome State Fault Refusal :=
  done (s.inCore (fun s =>
    let l := s.link c
    let s := s.advance (l.goodAt + 2560000000)
    let s := s.setLink c { l with up := false, hellos := 0 }
    (((s.setBit CHN_STATUS c false).raiseIf l.up EV_CHN_LINK)).settleSource))

/-- COORDINATION_APPLY (R441): at the first whole second at least 100 ms after the set changed. -/
def execCoordinationApply (s : State) : Host.Outcome State Fault Refusal :=
  done (s.inCore (fun s =>
    match s.net.coordDue with
    | none => s
    | some due =>
      let s := s.advance (s.tickAt due)
      if !s.flag CHN_CTRL_COORD_EN then s else
      let n := s.net.members.length
      let lg := clog2 n
      let s : State := { s with net := { s.net with coordDue := none } }
      if n < 2 then s
      else if 8 < n || s.fldF SHT_SERVE_CFG_BITS < lg then (s.setFlag CHN_STATUS_CONFLICT true).raise EV_CHN_CONFLICT
      else
        let head := (s.net.members.filter (fun (x : Nat) => decide (x < s.serial))).length
        let s := ((s.setFlag CHN_STATUS_COORDINATED true).setFlag CHN_STATUS_CONFLICT false).setFld CHN_STATUS_HEAD_ID head
        if s.grid.running then { s with net := { s.net with coordLatch := some (head, lg) } } else s.coordWrite head lg))

/-- CHAIN_MEMBER_RESET (R441). -/
def execChainMemberReset (p : Port) (s : State) : Host.Outcome State Fault Refusal :=
  done (s.hostGate p CHN_CTRL false State.chainReset)

/-- NET_CONFIG_WRITE (R443): a register from 0x0000 to 0x0054. -/
def execNetConfigWrite (p : Port) (w : Fin 22) (v : Word) (s : State) : Host.Outcome State Fault Refusal :=
  done (s.hostGate p (0x440000 + 4 * w.val) false (fun s => s.netWrite (0x440000 + 4 * w.val) v))

/-- The instant at which the third measurement in a row is missed (R435): edges on PPS_IN come every second, with 100 µs to spare (R438), and
TIME frames every 10 ms (R440). The spec states no interval for gPTP, so there it is `t`. -/
def State.thirdMiss (s : State) (t : Nat) : Nat :=
  match s.net.measAt, s.fld NET_TIME_STATUS_IN_FORCE with
  | some a, 2 => a + 768025600000
  | some a, 3 => a + 7680000000
  | _, _ => t

/-- MISSED_SYNC_MEASUREMENT (R435): three measurements against the source are missed. -/
def execMissedSyncMeasurement (t : Nat) (s : State) : Host.Outcome State Fault Refusal :=
  done (s.inCore (fun s =>
    if s.fld NET_TIME_STATUS_IN_FORCE = 0 then s
    else
      let s := s.advance (s.thirdMiss t)
      let was := s.flag NET_TIME_STATUS_SYNCED
      let s : State := { s with net := { s.net with goodRun := 0, unsyncedAt := if was then s.now else s.net.unsyncedAt } }
      (s.setFlag NET_TIME_STATUS_SYNCED false).raiseIf was EV_NET_SYNC))

/-- CHAIN_TIME_FALLBACK (R435): 10 s without SYNCED while a synced sibling exists. -/
def execChainTimeFallback (s : State) : Host.Outcome State Fault Refusal :=
  done (s.inCore (fun s =>
    if s.fld NET_TIME_CTRL_SOURCE ≠ 0 && !s.flag NET_TIME_STATUS_SYNCED && s.syncedSibling then
      (s.advance (s.net.unsyncedAt + 2560000000000)).setFld NET_TIME_STATUS_IN_FORCE 3
    else s))

/-- PDELAY_REQ_SEND (R436): timestamped when it leaves, with the PHY latency taken off. -/
def execPdelayReqSend (s : State) : Host.Outcome State Fault Refusal :=
  done (s.inCore (fun s =>
    if !s.fwRuns then s
    else
      let tx : Int := (s.ns : Int) - (s.fld NET_PTP_LAT_V : Nat)
      { s with wire := s.wire ++ [WireFrame.gptp (s.fld NET_TIME_CTRL_PTP_LANE) 2 tx],
               net := { s.net with pdelayTx := some tx, pdelayRx := none } }))

end Sys2Proof.Machine
end

