-- ==== Sys2Proof/Machine/Imaging.lean ====
section
/-! DEFINITION. Colour line imaging (08_line_imaging.md): the TDI column, exposure sets, windows and triggers, conversion, the pixel
bus, and the imaging generations. -/

namespace Sys2Proof.Machine

/-- The imaging and pipeline shadow registers that IMG_COMMIT latches (R218, R233). -/
def imgSpans : List (Nat × Nat) := [(0x300020, 0x300044), (0x340008, 0x34004C)]

/-! ### Settings of a generation -/

/-- Settings of a generation that is still in use; the reset settings where none is held. -/
def State.genCfg (s : State) (g : Nat) : List (Nat × Word) := ((s.img.gens.find? (fun (e : Nat × List (Nat × Word)) => e.1 = g)).map (fun e => e.2)).getD []

/-- Stages of a STAGES code (R208). -/
def stagesOf (code : Nat) : Nat := 8 * 2 ^ code

/-- Stages of set A (0) or B (1). -/
def setStages (cfg : List (Nat × Word)) (b : Bool) : Nat :=
  stagesOf (fldIn cfg (if b then IMG_TDI_CFG_STAGES_B else IMG_TDI_CFG_STAGES_A))

/-- EXP and the gain factor of a set (R208). -/
def setExp (cfg : List (Nat × Word)) (b : Bool) : Nat := fldIn cfg (if b then IMG_SET_B_EXP else IMG_SET_A_EXP)
/-- Gain factor: 1, 2 or 4. -/
def setGain (cfg : List (Nat × Word)) (b : Bool) : Nat := 2 ^ fldIn cfg (if b then IMG_SET_B_GAIN else IMG_SET_A_GAIN)

/-- Binning factor B (R209). -/
def binFactor (cfg : List (Nat × Word)) : Nat := let c := fldIn cfg IMG_BIN_ROW_BIN; if c = 3 then 1 else 2 ^ c

/-- Output rows U of a line, and its output pixels P = 2 U (R209). -/
def outRows (cfg : List (Nat × Word)) : Nat := fldIn cfg IMG_ROWS_COUNT / binFactor cfg

/-- Output pixels. -/
def outPixels (cfg : List (Nat × Word)) : Nat := 2 * outRows cfg

/-- The source registers of output pixel q = 2u + s (R209): u = 2v + a, rows START + 2Bv + a + 2j. -/
def sourcesOf (cfg : List (Nat × Word)) (q : Nat) : List Nat :=
  let b := binFactor cfg
  let u := q / 2
  (List.range b).map (fun j => 2 * (fldIn cfg IMG_ROWS_START + 2 * b * (u / 2) + u % 2 + 2 * j) + q % 2)

/-- The velocity a set gives with the colour offset in force, 1/256 gate per image line; none where the quotient of R204 has no
value. -/
def State.velocityOf (s : State) (cfg : List (Nat × Word)) : Option Nat :=
  if fldIn cfg IMG_TDI_CFG_VEL_SRC = 1 then some (fldIn cfg IMG_TDI_CFG_VEL)
  else
    let d := (s.fldI DET_COLOUR_LINES_V).natAbs
    if d = 0 then none else some (roundDiv 819200 (d : Int)).toNat

/-- Whether the edge at 100.0 µm is the upstream end (R204): by the sign of DET_COLOUR_LINES, or REVERSE. -/
def State.reverseOf (s : State) (cfg : List (Nat × Word)) : Bool :=
  if fldIn cfg IMG_TDI_CFG_VEL_SRC = 1 then fldIn cfg IMG_TDI_CFG_REVERSE = 1 else decide (s.fldI DET_COLOUR_LINES_V < 0)

/-- Gate steps in image line `i` of a frame (R204). -/
def stepsIn (vel i : Nat) : Nat := (i + 1) * vel / 256 - i * vel / 256

/-- The exit tap g_t of a stage count (R205). -/
def exitTap (n vel : Nat) : Nat := max 120 (8 * ((n * vel + 2047) / 2048))

/-- The sets in use (R207). -/
def setsInUse (cfg : List (Nat × Word)) : List Bool := if fldIn cfg IMG_TDI_CFG_MULTI = 1 then [false, true] else [false]

/-- The fit and colour-delivery conditions of R207 for a set, with the code and DETAIL of the one that fails. -/
def State.tdiCheck (s : State) (cfg : List (Nat × Word)) (vel : Option Nat) : Option (Nat × Nat) :=
  match vel with
  | none => some (0x06, 0)
  | some v =>
    let d := s.fldI DET_COLOUR_LINES_V
    let ceilD := -((-d).fdiv 16)
    let k := -((-d).fdiv 64)
    let fit := (setsInUse cfg).find? (fun b => decide (240 * 256 < setStages cfg b * v))
    let late := (setsInUse cfg).find? (fun b =>
      decide ((4 * k + 6 - ceilD) * (v : Int) < 256 * ((exitTap (setStages cfg b) v : Int) - 120)))
    match fit with
    | some b => some (0x06, b2n b)
    | none => late.map (fun b => (0x07, b2n b))

/-! ### Commit (R218, R222, R234) -/

/-- The first failing check of the shadow set, with its DETAIL. -/
def State.imgCheck (s : State) : Option (Nat × Nat) :=
  let cfg := s.regs
  let f := fldIn cfg
  let b := binFactor cfg
  let vel := s.velocityOf cfg
  let badVel := match vel with | none => true | some v => decide (v < 256) || decide (16384 < v)
  let badSet := (setsInUse cfg).find? (fun x => setExp cfg x = 0 || decide (1024 < setExp cfg x) || setGain cfg x = 8)
  let facets := s.fld CTL_ENC_CFG_FACETS
  if f IMG_ROWS_START % 2 = 1 || f IMG_ROWS_COUNT = 0 || f IMG_ROWS_COUNT % (2 * b) ≠ 0 || 1536 < f IMG_ROWS_START + f IMG_ROWS_COUNT then
    some (0x01, 0)
  else if f IMG_BIN_ROW_BIN = 3 then some (0x02, 0)
  else if 16384 < f IMG_LINES_START + f IMG_LINES_COUNT || (f IMG_LINES_COUNT = 0 && f IMG_TRIG_CFG_SRC ≠ 0) then some (0x03, 0)
  else match badSet with
    | some x => some (0x04, b2n x)
    | none =>
      if badVel then some (0x05, 0)
      else match s.tdiCheck cfg vel with
        | some e => some e
        | none =>
          if f IMG_TRIG_CFG_SRC = 3 || (f IMG_TRIG_CFG_SRC = 1 && f IMG_TRIG_CFG_FACET_MASK % 2 ^ facets = 0) then some (0x08, 0)
          else if 4095 < f IMG_CONV_CFG_PEDESTAL then some (0x09, 0)
          else if 3 < f ISP_OUT_FORMAT || 8 < f ISP_OUT_SHIFT || 4 < f ISP_OUT_SEG then some (0x20, 0)
          else if f ISP_CFG_HDR_EN = 1 && f IMG_TDI_CFG_MULTI = 1 && setStages cfg false < setStages cfg true then some (0x21, 0)
          else if 12 < f ISP_STAT_CFG_HIST_SHIFT || 6 < f ISP_FUSE_SHIFT then some (0x22, 0)
          else none

/-- A write of IMG_COMMIT with GO (R218); a commit that passes ends a halt (R219). -/
def State.imgCommit (s : State) : State :=
  match s.imgCheck with
  | some (code, detail) => s.refuse IMG_CFG_ERR EV_IMG_CFG_ERROR code detail
  | none =>
    let s : State := { s with img := { s.img with commit := some s.now, staged := s.shadowSet imgSpans } }
    (s.setFlag IMG_STATUS_COMMIT_PENDING true).setFlag IMG_STATUS_TDI_HALT false

/-- The settings of a generation as they latch: the shadow set, and the fixed-pattern corrections it is computed with (R229). -/
def State.genSnapshot (s : State) : List (Nat × Word) :=
  s.inForce ++ s.regs.filter (fun e => 0x344000 ≤ e.1 && e.1 < 0x347000)

/-- Stages times exposure times gain of a set (R230). -/
def setProduct (cfg : List (Nat × Word)) (b : Bool) : Nat := setStages cfg b * setExp cfg b * setGain cfg b

/-- The exposure ratio R of R230 in 1/256, where set B has an exposure. -/
def ratioOf (cfg : List (Nat × Word)) : Nat := (roundDiv (256 * setProduct cfg false : Nat) (setProduct cfg true : Nat)).toNat

/-- R as a latch shows it; with no set B exposure it has no stated value: a free value (log entry 45). -/
def State.hdrRatio (s : State) (cfg : List (Nat × Word)) : Nat × State :=
  if setProduct cfg true = 0 then let (x, s) := s.fresh; (x % 2 ^ 24, s) else (ratioOf cfg, s)

/-- Generations that a line or a packet still carries stay known. -/
def State.pruneGens (s : State) : State :=
  let i := s.img
  let lines := i.closing ++ i.store ++ (i.bus.map (fun b => b.line)).toList ++ i.expected ++ i.arrived ++ s.isp.queue
  let used := fun (g : Nat) => g = s.fld IMG_GEN_V || g = i.dieGen || i.packets.any (fun p => p.gen = g || p.die = g)
    || lines.any (fun l => l.gen = g || l.die = g)
  { s with img := { i with gens := i.gens.filter (fun e => used e.1) } }

/-- A pending set latches at a frame start, if it was committed at least 10 ns before (R218, R26). -/
def State.imgLatch (s : State) : State :=
  match s.img.commit with
  | none => s
  | some t =>
    if s.now < t + 2560 then s
    else
      let s := s.latchSet imgSpans s.img.staged
      let s : State := { s with img := { s.img with commit := none, staged := [] } }
      let s := (s.setFld IMG_GEN_V (s.fld IMG_GEN_V + 1)).setFlag IMG_STATUS_COMMIT_PENDING false
      let s := s.wr IMG_APPLIED_FRAME (s.rd GLB_FRAME)
      let g := s.fld IMG_GEN_V
      let s : State := { s with img := { s.img with gens := s.img.gens.filter (fun (e : Nat × List (Nat × Word)) => e.1 ≠ g) ++ [(g, s.genSnapshot)] } }
      let (r, s) := s.hdrRatio (s.genCfg g)
      ((s.setFld ISP_HDR_RATIO_V r).raise EV_IMG_APPLIED).pruneGens

/-! ### Packets and their exposure (R204, R205) -/

/-- An empty packet enters at gate 0. -/
def TdiPacket.enter (gen die : Nat) : TdiPacket := ⟨gen, die, 0, ⟨0, false⟩, ⟨0, false⟩⟩

/-- What a packet holds as one of set B, or of set A. -/
def TdiPacket.exp (p : TdiPacket) (setB : Bool) : TdiExp := if setB then p.b else p.a

/-- How far into its window of N image lines a packet collects in the step that takes it on, in 1/256 gate (R205). -/
def collectSpan (cfg : List (Nat × Word)) (setB : Bool) (vel age : Nat) : Nat := min 256 (setStages cfg setB * vel - 256 * age)

/-- The shutter gates over a packet let it collect, in the image lines of its window outside EXP aside (R205, R219). -/
def State.collecting (s : State) (p : TdiPacket) (setB : Bool) : Bool :=
  !s.flag IMG_STATUS_TDI_HALT && decide (0 < collectSpan (s.genCfg p.die) setB s.img.dieVel p.age)

/-- A packet after one more gate step: what it has collected on the way (R205). -/
def State.stepPacket (s : State) (p : TdiPacket) : TdiPacket :=
  let grow := fun (setB : Bool) (e : TdiExp) =>
    if s.collecting p setB then { e with lit := e.lit + collectSpan (s.genCfg p.die) setB s.img.dieVel p.age } else e
  { p with age := p.age + 1, a := grow false p.a, b := grow true p.b }

/-- A packet that a velocity change meets in its window (R219). -/
def State.meetChange (s : State) (p : TdiPacket) : TdiPacket :=
  let mark := fun (setB : Bool) (e : TdiExp) =>
    { e with velChange := e.velChange || decide (0 < collectSpan (s.genCfg p.die) setB s.img.dieVel p.age) }
  { p with a := mark false p.a, b := mark true p.b }

/-- A line whose packets stand at its exit tap, or are taken as they are (R206, R219): what they hold together. -/
def State.atTap (s : State) (l : ColourLine) : ColourLine :=
  if l.lit.isSome then l
  else
    let mine := ((s.img.packets.drop (l.tap - l.left)).take l.n).map (fun p => p.exp l.setB)
    { l with lit := some (mine.map (fun e => e.lit)).sum, velChange := l.velChange || mine.any (fun e => e.velChange) }

/-- The lines whose sense interval is reached close at this instant. -/
def State.atTaps (s : State) : State :=
  let at_ := fun (l : ColourLine) => if l.left = 0 && l.lit.isNone then { s.atTap l with closedAt := s.now } else l
  { s with img := { s.img with closing := s.img.closing.map at_ } }

/-! ### FV (R217) -/

/-- The last colour line of a frame that a generation reads out (R210); a capture of SRC 2 may begin up to the end of the frame. -/
def State.lastRead (s : State) (cfg : List (Nat × Word)) : Option Nat :=
  let start := fldIn cfg IMG_LINES_START
  let count := fldIn cfg IMG_LINES_COUNT
  let total := 4 * s.linesInForce
  if fldIn cfg IMG_TRIG_CFG_SRC = 0 then
    if start < total then some (if count = 0 then total - 1 else min (start + count) total - 1) else none
  else if fldIn cfg IMG_TRIG_CFG_SRC = 1 then
    let first := (fldIn cfg IMG_TRIG_ANGLE_V * total + 65535) / 65536
    if (fldIn cfg IMG_TRIG_CFG_FACET_MASK).testBit s.grid.facet && first < total then some (min (first + count) total - 1) else none
  else some (total - 1)

/-- Lines of frame `f` are still to be sent. -/
def State.moreLines (s : State) (f : Nat) : Bool :=
  let i := s.img
  let next := if i.lineOpen then i.line else i.line + 1
  let later := fun (g : Nat) => match s.lastRead (s.genCfg g) with
    | some m => decide (next ≤ m)
    | none => false
  (i.closing ++ i.store).any (fun x => x.read && x.frame = f)
    || (f = s.rdN GLB_FRAME && s.grid.running && s.flag IMG_STATUS_RUNNING && !s.flag IMG_STATUS_TDI_HALT
      && (later i.dieGen || (i.packets.take 120).any (fun p => later p.die)))

/-- FV falls after the frame's last LV (R217). -/
def State.frameValid (s : State) : State :=
  if s.img.fv && s.img.bus.isNone && !s.moreLines s.img.fvFrame then { s with img := { s.img with fv := false } } else s

/-! ### Frame start: velocity, halt, enable (R204, R217 to R220) -/

/-- The velocity or the direction changes, or the lines per frame (R219): packets and lines in their window are marked. A packet that turns
back counts its gates from the other end; the lines that wait for a tap hold what their packets hold now (log entry 150). -/
def State.imgChange (s : State) (flip : Bool) : State :=
  let i := s.img
  let s : State := { s with img := { i with packets := i.packets.map s.meetChange } }
  if !flip then s
  else
    let s : State := { s with img := { s.img with closing := s.img.closing.map s.atTap } }
    let i := s.img
    let empty := List.replicate (240 - i.packets.length) (TdiPacket.enter (s.fld IMG_GEN_V) i.dieGen)
    { s with img := { i with packets := (i.packets.take 240 ++ empty).reverse } }

/-- A check of R207 fails at a change (R219): the shutter state, and no line is delivered, until a commit passes. -/
def State.imgHalt (s : State) (code : Nat) : State :=
  let s : State := { s with img := { s.img with closing := [], store := [], bus := none, expected := [], fv := false } }
  (s.setFlag IMG_STATUS_TDI_HALT true).refuse IMG_CFG_ERR EV_IMG_CFG_ERROR code 0xFFFF

/-- The velocity of the frame that starts (R204), with the checks of R219 where it, its direction or the lines per frame change; the
detector die takes the settings over its link while that works (R117, R214). -/
def State.imgVelocity (s : State) : State :=
  let cfg := s.genCfg (s.fld IMG_GEN_V)
  let vel := s.velocityOf cfg
  let v := vel.getD 0
  let rev := s.reverseOf cfg
  let i := s.img
  let link := s.flag DET_STATUS_LINK_OK
  let changed := decide (v ≠ i.vel) || decide (s.linesInForce ≠ i.lines) || decide (rev ≠ i.reverse)
  let flip := link && decide (rev ≠ i.dieReverse)
  let s := if decide (s.linesInForce ≠ i.lines) || flip || (link && decide (v ≠ i.dieVel)) then s.imgChange flip else s
  let s : State := { s with img := { s.img with vel := v, reverse := rev, lines := s.linesInForce } }
  let s : State := if link then { s with img := { s.img with dieGen := s.fld IMG_GEN_V, dieVel := v, dieReverse := rev } } else s
  let (low, s) := if 65535 < v then s.fresh else (v, s)
  let s := s.setFld IMG_TDI_STATE_VEL low
  let s := s.setFld IMG_TDI_STATE_TAP_A (exitTap (setStages cfg false) v / 8)
  let s := s.setFld IMG_TDI_STATE_TAP_B (exitTap (setStages cfg true) v / 8)
  match (if changed then s.tdiCheck cfg vel else none) with
  | none => s
  | some (code, _) => s.imgHalt code

/-- The detector die runs on settings older than the logic die's (R117, R214). -/
def State.linkStale (s : State) : Bool :=
  let i := s.img
  decide (i.dieGen ≠ s.fld IMG_GEN_V) || decide (i.dieVel ≠ i.vel) || i.dieReverse != i.reverse
    || decide (s.det.kept ≠ none ∧ s.det.kept ≠ some ⟨s.flag DET_CTRL_ENABLE, s.fld DET_COINC_WIN_V, s.fld DET_QUENCH_HOLDOFF⟩)

/-- What a frame start does on the colour column, after the settings latched (R220): with ENABLE clear, readout stops. -/
def State.imgFrameStart (s : State) : State :=
  let g := s.fld IMG_GEN_V
  let s := if s.img.gens.any (fun (e : Nat × List (Nat × Word)) => e.1 = g) then s
    else { s with img := { s.img with gens := s.img.gens ++ [(g, s.genSnapshot)] } }
  let s := s.imgVelocity
  let on := s.flag IMG_CTRL_ENABLE
  let go := on && s.flag IMG_STATUS_RUNNING
  let s := s.setFlag IMG_STATUS_RUNNING on
  let i := s.img
  let s : State := { s with img := { i with shortRaised := false, longRaised := false, packets := if go then i.packets else [],
                                            closing := if on then i.closing else [], started := go && i.started, testing := [],
                                            testFrames := min 3 (i.testFrames + 1) } }
  s.convertersFrameStart.frameValid

/-! ### Image lines and gate steps (R204 to R206, R210) -/

/-- A line's place in the readout window of its generation (R210, R236): position and window lines; none where it is not read. -/
def State.lineWindow (s : State) (cfg : List (Nat × Word)) (line : Nat) : Option (Nat × Nat) :=
  let start := fldIn cfg IMG_LINES_START
  let count := fldIn cfg IMG_LINES_COUNT
  let total := 4 * s.linesInForce
  if fldIn cfg IMG_TRIG_CFG_SRC = 0 then
    let n := if count = 0 then total - start else min count (total - start)
    if start ≤ line && line < start + n then some (line - start, n) else none
  else if fldIn cfg IMG_TRIG_CFG_SRC = 1 then
    let first := (fldIn cfg IMG_TRIG_ANGLE_V * total + 65535) / 65536
    if (fldIn cfg IMG_TRIG_CFG_FACET_MASK).testBit s.grid.facet && first ≤ line && line < first + count then some (line - first, count)
    else none
  else s.img.sel.map (fun p => (p, count))

/-- An image line ends: the colour line of the packets that crossed in it waits for its sense interval to close (R206). No tap lies past
gate 239: with a window too long for the register no line is closed (R207). -/
def State.endImageLine (s : State) : State :=
  let i := s.img
  if !i.lineOpen then s
  else
    let s : State := { s with img := { i with lineOpen := false } }
    if !s.flag IMG_STATUS_RUNNING || s.flag IMG_STATUS_TDI_HALT || !i.started then s.frameValid
    else
      let g := s.fld IMG_GEN_V
      let p := i.first.getD (TdiPacket.enter g i.dieGen)
      let cfg := s.genCfg p.die
      let setB := fldIn cfg IMG_TDI_CFG_MULTI = 1 && i.line % 2 = 1
      let w := s.lineWindow cfg i.line
      let e := s.lineWindow (s.genCfg p.gen) i.line
      let pos := (w.orElse (fun _ => e)).getD (0, 0)
      let tap := exitTap (setStages cfg setB) i.dieVel
      let l : ColourLine :=
        { frame := s.rdN GLB_FRAME, line := i.line, time := i.lineTime, gen := p.gen, die := p.die, setB := setB,
          velChange := false, cut := i.crossed = 0, stale := p.die ≠ p.gen || s.linkStale, n := i.crossed, vel := i.dieVel,
          tap := tap, left := tap - 120, lit := none, closedAt := 0, readyAt := 0, pos := pos.1, window := pos.2, read := w.isSome,
          expect := e.isSome, pixels := [], marked := [], short := false, long := false, reproc := false }
      let s : State := if (w.isNone && e.isNone) || decide (240 < tap) then s
        else { s with img := { s.img with closing := s.img.closing ++ [l] } }
      s.atTaps.frameValid

/-- A capture of SRC 2 advances with an image line (R210): the position of that line where it is read. -/
def State.captureLine (s : State) : State :=
  let (sel, cap) : Option Nat × Option (Nat × Nat × Nat) := match s.img.capture with
    | none => (none, none)
    | some (0, n, p) => (if n = 0 then none else some p, if n ≤ 1 then none else some (0, n - 1, p + 1))
    | some (d + 1, n, p) => (none, some (d, n, p))
  { s with img := { s.img with sel := sel, capture := cap } }

/-- An image line begins (R24): image line `i` of the frame. -/
def State.beginImageLine (s : State) (i : Nat) : State :=
  let s := s.endImageLine
  let s := s.captureLine
  let s : State := { s with img := { s.img with lineOpen := true, line := i, lineTime := s.devTime, crossed := 0, first := none,
                                                lineAt := s.now, steps := 0 } }
  let cfg := s.genCfg (s.fld IMG_GEN_V)
  s.setFlag IMG_STATUS_CAPTURE_ACTIVE
    (s.flag IMG_STATUS_RUNNING && fldIn cfg IMG_TRIG_CFG_SRC ≠ 0 && (s.lineWindow cfg i).isSome)

/-- The planned duration of an image line of the range line in flight, in ticks (R58): a quarter of what lies between its line start and the
next one placed, or T / 4. -/
def State.imageLineTicks (s : State) : Nat :=
  let whole := match s.ctl.nextLine with
    | some t => t - s.grid.lineStart
    | none => 0
  if 0 < whole then whole / 4 else if s.lineRate = 0 then 0 else 64000000000000 / s.lineRate

/-- A gate step (R204): the steps of an image line lie evenly over its planned duration, each in the middle of its share (DESIGN CHOICE, log
entry 149). Every packet moves one gate downstream; the one that leaves gate 119 crosses the centre line. -/
def State.gateStep (s : State) : State :=
  let n := stepsIn s.img.dieVel s.img.line
  if !s.flag IMG_STATUS_RUNNING || !s.grid.running || !s.img.lineOpen || decide (n ≤ s.img.steps) then s
  else
    let s := s.advance (s.img.lineAt + (2 * s.img.steps + 1) * s.imageLineTicks / (2 * n))
    let i := s.img
    let moved := i.packets.map s.stepPacket
    let cross := moved[119]?
    let i := { i with packets := (TdiPacket.enter (s.fld IMG_GEN_V) i.dieGen :: moved).take 320, steps := i.steps + 1,
                      closing := i.closing.map (fun l => { l with left := l.left - 1 }) }
    let s : State := match cross with
      | none => { s with img := i }
      | some p => { s with img := { i with started := true, crossed := i.crossed + 1, first := i.first.orElse (fun _ => some p) } }
    s.atTaps

/-- A FRAME_SYNC_IN edge in triggered capture (R210). -/
def State.imgSync (s : State) : State :=
  let cfg := s.genCfg (s.fld IMG_GEN_V)
  if !s.flag IMG_STATUS_RUNNING || fldIn cfg IMG_TRIG_CFG_SRC ≠ 2 then s
  else if s.img.capture.isSome || s.img.sel.isSome then (s.bump IMG_TRIG_MISSED_V 1).raise EV_IMG_TRIG_MISSED
  else { s with img := { s.img with capture := some (fldIn cfg IMG_TRIG_CFG_DELAY, fldIn cfg IMG_LINES_COUNT, 0) } }

/-! ### Conversion and the pixel bus (R209, R211 to R217) -/

/-- A register's pixel is delivered as 0 (R212). -/
def State.defective (s : State) (p : Nat) : Bool := s.bit (IMG_DEFECT (p / 32)) (p % 32)

/-- A converter's code (R211): `x` is the photocharge of one image line of full collection, as (V_reset − V_signal) / LSB in 1/256; the
packets of the line have collected over `lit`/256 gates together, in the central EXP/1,024 of each image line (R205). A signal of more
than 16,383 LSB is beyond the converter's input range (DESIGN CHOICE, log entry 149). -/
def convCode (cfg : List (Nat × Word)) (setB : Bool) (vel n lit : Nat) (x : Int) : Nat :=
  let q : Int := ((setGain cfg setB * setExp cfg setB * lit : Nat) : Int) * x
  if ((16383 * 262144 * vel : Nat) : Int) < q then 16383
  else (clampI ((fldIn cfg IMG_CONV_CFG_PEDESTAL : Nat) + roundDiv q ((67108864 * max 1 n : Nat) : Int)) 0 16383).toNat

/-- The output pixels of a line (R206, R209, R211, R212). -/
def State.convert (s : State) (l : ColourLine) (signals : List Int) : ColourLine :=
  let cfg := s.genCfg l.die
  let sig := signals.toArray
  let code := fun (p : Nat) => if l.cut || s.defective p then 0 else convCode cfg l.setB l.vel l.n (l.lit.getD 0) (sig.getD p 0)
  let qs := List.range (outPixels cfg)
  let pixel := fun (q : Nat) =>
    let src := sourcesOf cfg q
    (roundDiv ((src.map code).sum : Nat) (src.length : Nat)).toNat
  { l with pixels := qs.map pixel, marked := qs.filter (fun q => (sourcesOf cfg q).any s.defective) }

/-- SENSE_INTERVAL_CLOSE (R206, R215): the oldest line whose packets stand at their exit tap. Its conversions start 100 ns after the close, or
when the converters are free, and take 1,000 ns; 200 ns later it may be sent. A line of which no pixel is read out is dropped. -/
def State.senseClose (s : State) (signals : List Int) : State :=
  if !s.flag IMG_STATUS_RUNNING || !s.grid.running then s
  else match s.img.closing.find? (fun (l : ColourLine) => l.left = 0) with
  | none => s
  | some l =>
    let s := (s.advance l.closedAt).defectLine
    let i := s.img
    let start := max (l.closedAt + 25600) (if l.read then i.convFree else 0)
    let m := { l with readyAt := start + 307200 }
    let s : State := { s with img := { i with closing := i.closing.erase l, expected := if l.expect then i.expected ++ [m] else i.expected } }
    if l.read then { s with img := { s.img with convFree := start + 256000, store := s.img.store ++ [s.convert m signals] } } else s

/-- A line of an earlier frame has not been sent yet (R215). -/
def State.earlierUnsent (s : State) (l : ColourLine) : Bool :=
  (s.img.closing ++ s.img.store).any (fun x => x.read && x.frame ≠ l.frame && decide ((l.frame + 2 ^ 32 - x.frame) % 2 ^ 32 < 2 ^ 31))

/-- The header beat of a line (R214). -/
def headerBeat (cfg : List (Nat × Word)) (l : ColourLine) : Nat :=
  l.line % 2 ^ 14 * 2 ^ 42 + l.frame % 256 * 2 ^ 34 + l.die % 256 * 2 ^ 26 + b2n l.setB * 2 ^ 25 + b2n l.velChange * 2 ^ 24
    + b2n l.cut * 2 ^ 23 + b2n l.stale * 2 ^ 22 + fldIn cfg IMG_BIN_ROW_BIN * 2 ^ 20 + fldIn cfg IMG_ROWS_START / 2 % 2 ^ 10 * 2 ^ 10
    + outPixels cfg / 4 % 2 ^ 10

/-- The pixel beats of a line (R213): four pixels a beat, in PIXD[13:0], [27:14], [41:28] and [55:42]. -/
def pixelBeats : List Nat → List (BitVec 56)
  | a :: b :: c :: d :: t =>
    BitVec.ofNat 56 (a % 2 ^ 14 + b % 2 ^ 14 * 2 ^ 14 + c % 2 ^ 14 * 2 ^ 28 + d % 2 ^ 14 * 2 ^ 42) :: pixelBeats t
  | _ => []

/-- The pixels of a beat. -/
def beatPixels (b : BitVec 56) : List Nat := (List.range 4).map (fun i => b.toNat / 2 ^ (14 * i) % 2 ^ 14)

/-- PIXEL_LINE_TRANSFER (R213, R215, R217): lines leave in the order of their close, a frame's after those of the frame before. LV rises
with the header beat when the line is ready and has been low for 16 cycles of PIXCLK. -/
def State.pixelTransfer (s : State) : State :=
  if s.img.bus.isSome then s
  else match s.img.store.find? (fun (l : ColourLine) => !s.earlierUnsent l) with
    | none => s
    | some l =>
      let s := s.advance (max l.readyAt (s.img.busFree + 16384))
      let bus : PixelBus := ⟨l, BitVec.ofNat 56 (headerBeat (s.genCfg l.die) l) :: pixelBeats l.pixels, s.now⟩
      { s with img := { s.img with store := s.img.store.erase l, bus := some bus, fv := true, fvFrame := l.frame } }

/-- A line as its beats give it to the logic die (R213, R214). -/
def PixelBus.received (b : PixelBus) : ColourLine :=
  let h := (b.beats.headD 0).toNat
  { b.line with line := h / 2 ^ 42 % 2 ^ 14, setB := h.testBit 25, velChange := h.testBit 24, cut := h.testBit 23, stale := h.testBit 22,
                pixels := (b.beats.drop 1).flatMap beatPixels }

/-- A line of the logic die's count is delivered (R216): padded or truncated to the pixels it expects. -/
def State.deliverColour (s : State) (l : ColourLine) : State :=
  let want := outPixels (s.genCfg l.gen)
  let have_ := l.pixels.length
  let short := decide (have_ < want)
  let long := decide (want < have_)
  let l := { l with pixels := (l.pixels ++ List.replicate (want - have_) 0).take want, short := short, long := long }
  let s := if short then s.bump IMG_LINE_ERR_SHORT 1 else s
  let s := if long then s.bump IMG_LINE_ERR_LONG 1 else s
  let s := s.raiseIf (short && !s.img.shortRaised) EV_LINE_SHORT
  let s := s.raiseIf (long && !s.img.longRaised) EV_LINE_LONG
  { s with img := { s.img with shortRaised := s.img.shortRaised || short, longRaised := s.img.longRaised || long,
                               arrived := s.img.arrived ++ [l] } }

/-- A line's place among those the logic die expects: by FRAME and LINE of the header. -/
def State.expects (s : State) (l : ColourLine) : Option ColourLine :=
  s.img.expected.find? (fun (x : ColourLine) => x.frame % 256 = l.frame % 256 && x.line = l.line)

/-! ### Writes -/

/-- A write of the IMG block. -/
def State.imgWrite (s : State) (off : Nat) (v : Word) : State :=
  if off = IMG_COMMIT then (if v.toNat.testBit 0 then s.imgCommit else s) else s.plainWrite off off v

/-- IMG_STATUS with its counts (R221). -/
def State.imgStatus (s : State) : Word :=
  let n := (List.range 96).foldl (fun a w => a + ((List.range 32).filter (fun b => s.bit (IMG_DEFECT w) b)).length) 0
  let v := IMG_STATUS_BENCH_LEFT.put (IMG_STATUS_DEFECT.put (s.rd IMG_STATUS) n) (s.fld (LNP_POOL_BENCH_LEFT 3))
  IMG_STATUS_LINK_STALE.put v (b2n s.linkStale)

/-! ### The meanings -/

/-- GATE_STEP (R204). -/
def execGateStep (s : State) : Host.Outcome State Fault Refusal := done (s.inCore State.gateStep)

/-- SENSE_INTERVAL_CLOSE (R205, R215): the photocharge that each register's packets get in one image line of full collection, as
(V_reset − V_signal) / LSB in 1/256, by pixel. -/
def execSenseIntervalClose (signals : List Int) (s : State) : Host.Outcome State Fault Refusal :=
  done (s.inCore (fun s => s.senseClose signals))

/-- PIXEL_LINE_TRANSFER (R215). -/
def execPixelLineTransfer (s : State) : Host.Outcome State Fault Refusal := done (s.inCore State.pixelTransfer)

/-- IMAGING_COMMIT (R218, R222). -/
def execImagingCommit (p : Port) (s : State) : Host.Outcome State Fault Refusal :=
  done (s.hostGate p IMG_COMMIT false (fun s => s.imgWrite IMG_COMMIT 1))

/-- IMAGING_ENABLE (R220). -/
def execImagingEnable (p : Port) (on : Bool) (s : State) : Host.Outcome State Fault Refusal :=
  done (s.hostGate p IMG_CTRL false (fun s => s.imgWrite IMG_CTRL (BitVec.ofNat 32 (b2n on))))

end Sys2Proof.Machine
end

