-- ==== Sys2Proof/Machine/Pipeline.lean ====
section
/-! DEFINITION. The image pipeline (09_image_pipeline.md): the stages, statistics, colour fusion, image packets, capture and
reprocessing. -/

namespace Sys2Proof.Machine

/-! ### Capture to LPDDR5X (R245) -/

/-- The record of a captured line (R245): its beats as they leave the pixel bus, with LINE_SHORT and LINE_LONG. -/
def captureRecord (beats : List (BitVec 56)) (short long : Bool) : List Byte :=
  leBytes 8 ((beats.headD 0).toNat + b2n short * 2 ^ 56 + b2n long * 2 ^ 57)
    ++ ((beats.drop 1).flatMap beatPixels).flatMap (fun x => leBytes 2 x)

/-- BAR2 offset of the region that ISP_MEM_BASE names (R245, R246). -/
def State.memBase (s : State) : Nat := 0x100000000 + s.rdN ISP_MEM_BASE * 0x100000

/-- A line leaves the pixel bus while its frame is captured (R245). LPDDR5X takes no write before DDR_READY (R449). -/
def State.captureCopy (s : State) (beats : List (BitVec 56)) (l : ColourLine) : State :=
  match s.isp.capture with
  | some (some f, n, a) =>
    if f = l.frame then
      let r := captureRecord beats l.short l.long
      let s := if s.pwr.ddrReady then { s with mem := memWriteBytes s.mem a r } else s
      { s with isp := { s.isp with capture := some (some f, n + 1, a + r.length) } }
    else s
  | _ => s

/-- The capture ends when its frame has ended and every line of it has left the bus (R245). -/
def State.captureCheck (s : State) : State :=
  match s.isp.capture with
  | some (some f, n, _) =>
    let i := s.img
    let open_ := f = s.rdN GLB_FRAME && s.grid.running
    if open_ || (i.closing ++ i.store ++ (i.bus.map (fun b => b.line)).toList).any (fun l => l.frame = f) then s
    else
      let s : State := { s with isp := { s.isp with capture := none } }
      let s := (s.setFld ISP_MEM_CTRL_LINES n).setFlag ISP_MEM_CTRL_CAPTURE false
      (s.setFlag ISP_STATUS_CAPTURE_ACTIVE false).raise EV_ISP_CAPTURE_DONE
  | _ => s

/-- PIXEL_LINE_RECEIVED (R215, R216): the last beat of the line on the bus, 4 ns a beat after LV rose. A line that is not expected, or that
was given up, is not taken (log entry 46); while SRC is 1 the bus is not read (R246). -/
def State.pixelReceived (s : State) : State :=
  match s.img.bus with
  | none => s
  | some b =>
    let s := s.advance (b.lvAt + 1024 * b.beats.length)
    let s : State := { s with img := { s.img with bus := none, busFree := s.now } }
    let s := s.frameValid
    let l := b.received
    match s.expects l with
    | none => s.captureCheck
    | some x =>
      let s : State := { s with img := { s.img with expected := s.img.expected.erase x } }
      if s.flag ISP_CTRL_SRC then s.captureCheck
      else
        let s := s.deliverColour l
        let s := match s.img.arrived.getLast? with
          | some y => s.captureCopy b.beats y
          | none => s
        s.captureCheck

/-- The output pixels of a line that IMG_DEFECT marks (R212, R226). -/
def State.markedPixels (s : State) (cfg : List (Nat × Word)) : List Nat :=
  (List.range (outPixels cfg)).filter (fun q => (sourcesOf cfg q).any s.defective)

/-- PIXEL_HEADER_TIMEOUT (R216): one image line after the instant at which it was to arrive, the line expected longest is delivered as one of 0
beats, and padded. A line whose header is on the bus has arrived. -/
def State.headerTimeout (s : State) : State :=
  match s.img.expected with
  | [] => s
  | l :: rest =>
    if s.img.bus.any (fun b => b.line.frame = l.frame && b.line.line = l.line) then s
    else
      let s := s.advance (l.readyAt + s.imageLineTicks)
      let s : State := { s with img := { s.img with expected := rest } }
      if s.flag ISP_CTRL_SRC then s
      else s.deliverColour { l with pixels := [], velChange := false, cut := false, stale := false, marked := s.markedPixels (s.genCfg l.gen) }

/-! ### The input queue (R235) -/

/-- Show the queue's level. -/
def State.showQueue (s : State) : State := s.setFld ISP_STATUS_QUEUE s.isp.queue.length

/-- ISP_LINE_ENQUEUE (R235): with the pipeline off (ISP_CTRL.ENABLE 0) a line goes no further. -/
def State.enqueue (s : State) : State :=
  match s.img.arrived with
  | [] => s
  | l :: rest =>
    let s : State := { s with img := { s.img with arrived := rest } }
    if !s.flag ISP_CTRL_ENABLE then s
    else if 32 ≤ s.isp.queue.length then
      let s := s.wrN ISP_DROP (s.rdN ISP_DROP + 1)
      if s.isp.dropRaised then s
      else ({ s with isp := { s.isp with dropRaised := true } } : State).raise EV_ISP_LINE_DROP
    else ({ s with isp := { s.isp with queue := s.isp.queue ++ [l] } } : State).showQueue

/-! ### Stages 1 to 5 (R226 to R230) -/

/-- Rounded to nearest, ties upward. -/
def meanUp (l : List Nat) : Nat := if l.isEmpty then 0 else (2 * l.sum + l.length) / (2 * l.length)

/-- Defect fill (R226): values, and the pixels filled. -/
def defectFill (px : Array Nat) (marked : List Nat) : Array Nat × List Nat :=
  marked.foldl (fun (a : Array Nat × List Nat) q =>
    let near := ([q + 4] ++ (if 4 ≤ q then [q - 4] else [])).filter (fun x => x < px.size && !marked.contains x)
    if near.isEmpty then (a.1.set! q 0, a.2)
    else (a.1.set! q (meanUp (near.map (fun x => px.getD x 0))), a.2 ++ [q])) (px, [])

/-- Move a value towards a target by K/16 of the difference (R227, R228); `d2` is twice the difference. -/
def nudge (v : Nat) (d2 : Int) (th k : Nat) : Nat :=
  if d2.natAbs ≤ 2 * th then ((v : Int) + roundDiv (d2 * (k : Int)) 32).toNat else v

/-- Spatial noise reduction (R227). -/
def spatial (px : Array Nat) (th k : Nat) : Array Nat :=
  ((List.range px.size).map (fun q =>
    let v := px.getD q 0
    let lo := if 4 ≤ q then some (px.getD (q - 4) 0) else none
    let hi := if q + 4 < px.size then some (px.getD (q + 4) 0) else none
    match lo, hi with
    | none, none => v
    | some a, none => nudge v (2 * ((a : Int) - v)) th k
    | none, some b => nudge v (2 * ((b : Int) - v)) th k
    | some a, some b => nudge v ((a : Int) + b - 2 * v) th k)).toArray

/-- Temporal noise reduction (R228) against a stored line. -/
def temporal (px : Array Nat) (ref : List Nat) (th k : Nat) : Array Nat :=
  let r := ref.toArray
  ((List.range px.size).map (fun q =>
    let v := px.getD q 0
    nudge v (2 * ((r.getD q 0 : Int) - v)) th k)).toArray

/-- Black level and column fixed pattern (R229): OFS and GAIN are the exact means over the pixel's sources (log entry 47). -/
def blackLevel (cfg : List (Nat × Word)) (q code : Nat) : Nat :=
  let src := sourcesOf cfg q
  let n := src.length
  let ofs : Int := (src.map (fun p => signedN 16 (fldIn cfg ⟨0x344000 + 4 * p, 15, 0⟩))).sum
  let gain : Nat := (src.map (fun p => fldIn cfg ⟨0x344000 + 4 * p, 31, 16⟩)).sum
  let x : Int := ((code : Int) - (fldIn cfg IMG_CONV_CFG_PEDESTAL : Nat)) * (n : Int) - ofs
  (clampI (roundDiv (x * (gain : Int)) ((16384 * max 1 (n * n) : Nat) : Int)) 0 1048575).toNat

/-- What stages 1 to 5 make of a line. -/
structure Staged where
  codes : Array Nat
  values : Array Nat
  filled : List Nat
  merged : List Nat
  sat : List Nat
  skipped : Bool
  deriving Repr

/-- The reference line of R228. -/
def State.tnrRef (s : State) (cfg : List (Nat × Word)) (l : ColourLine) : Option StoredLine :=
  let back := if fldIn cfg ISP_TNR_REF = 0 then 1 else s.fld CTL_ENC_CFG_FACETS
  s.isp.store.find? (fun (x : StoredLine) => (x.frame + back) % 2 ^ 32 = l.frame && x.line = l.line && x.gen = l.gen && !x.flawed)

/-- Where a line stands in the frame store (R228), which entry 0 of the lineup map's LPDDR5X regions places: DESIGN CHOICE (log entry 151),
16,384 lines a frame of 6,144 bytes a line, 16-bit codes, for as many frames as the region holds; none where it holds no frame. -/
def State.frameStore (s : State) (frame line : Nat) : Option Nat :=
  let size := mapBits s.lnp.map 0x17F 0 16 * 0x100000
  let frames := size / (16384 * 6144)
  if frames = 0 then none
  else some (0x100000000 + mapBits s.lnp.map 0x17F 16 16 * 0x100000 + (frame % frames * 16384 + line % 16384) * 6144)

/-- The codes of a stored line. -/
def State.storedCodes (s : State) (x : StoredLine) : List Nat :=
  (List.range x.pixels).map (fun q => leNat (memReadBytes s.mem (x.address + 2 * q) 2))

/-- A line after stage 3 is written to the frame store (R228). -/
def State.storeFrameLine (s : State) (l : ColourLine) (flawed : Bool) (codes : List Nat) : State :=
  match s.frameStore l.frame l.line with
  | none => s
  | some a =>
    let keep := s.isp.store.filter (fun (x : StoredLine) => x.address ≠ a)
    { s with mem := memWriteBytes s.mem a (codes.flatMap (fun x => leBytes 2 x)),
             isp := { s.isp with store := keep ++ [⟨l.frame, l.line, l.gen, flawed, a, codes.length⟩] } }

/-- Set B values by R, rounded to nearest (R230); a value beyond 20 bits is not stated: a free value (log entry 48). -/
def State.scaleB (ratio : Nat) : List Nat → State → List Nat × State
  | [], s => ([], s)
  | v :: t, s =>
    let x := (v * ratio + 128) / 256
    let (x, s) := if 2 ^ 20 ≤ x then let (y, s) := s.fresh; (y % 2 ^ 20, s) else (x, s)
    let (r, s) := State.scaleB ratio t s
    (x :: r, s)

/-- The partner of a set A line (R230). -/
def State.partner (s : State) (l : ColourLine) : Option StageLine :=
  s.isp.partners.find? (fun (x : StageLine) => x.frame = l.frame && x.line = l.line + 1 && x.reproc = l.reproc)

/-- Stages 1 to 5 (R226 to R230). -/
def State.stages (s : State) (cfg : List (Nat × Word)) (l : ColourLine) : Staged × State :=
  let on := fun (f : Fld) => fldIn cfg f = 1
  let px := l.pixels.toArray
  let (px, filled) := if on ISP_CFG_FILL_EN then defectFill px (l.marked.filter (fun q => q < px.size)) else (px, [])
  let codes := px
  let px := if on ISP_CFG_SNR_EN then spatial px (fldIn cfg ISP_SNR_TH) (fldIn cfg ISP_SNR_K) else px
  let flawed := l.cut || l.velChange || l.short || l.long
  let (px, skipped, s) :=
    if !on ISP_CFG_TNR_EN then (px, false, s)
    else
      let ref := if l.reproc || flawed then none else s.tnrRef cfg l
      let (px, skipped) := match ref with
        | some r => (temporal px (s.storedCodes r) (fldIn cfg ISP_TNR_TH) (fldIn cfg ISP_TNR_K), false)
        | none => (px, true)
      let s := if skipped then s.wrN ISP_TNR_SKIP (s.rdN ISP_TNR_SKIP + 1) else s
      (px, skipped, s.storeFrameLine l flawed px.toList)
  let px := if on ISP_CFG_FPN_EN then ((List.range px.size).map (fun q => blackLevel cfg q (px.getD q 0))).toArray else px
  -- stage 5 passes the line unchanged with HDR_EN = 0 (R224; log entry 152) and with MULTI = 0 (R230)
  if fldIn cfg IMG_TDI_CFG_MULTI = 0 || !on ISP_CFG_HDR_EN then (⟨codes, px, filled, [], [], skipped⟩, s)
  else if l.setB then
    -- R of the line's own generation (R230, R233)
    let (vals, s) := State.scaleB (if setProduct cfg true = 0 then s.fld ISP_HDR_RATIO_V else ratioOf cfg) px.toList s
    (⟨codes, vals.toArray, filled, [], [], skipped⟩, s)
  else
    let th := fldIn cfg ISP_HDR_SAT_TH
    let high := (List.range px.size).filter (fun q => th ≤ codes.getD q 0)
    match s.partner l with
    | none => (⟨codes, px, filled, [], high, skipped⟩, s)
    | some b =>
      let bc := b.codes.toArray
      let bv := b.values.toArray
      let ok := high.filter (fun q => bc.getD q 0 < th && q < bv.size)
      let px := ok.foldl (fun (a : Array Nat) q => a.set! q (bv.getD q 0)) px
      (⟨codes, px, filled, ok, high.filter (fun q => !ok.contains q), skipped⟩, s)

/-! ### Stages 6 and 7 (R231, R232) -/

/-- The four bands of an output pixel before the matrix (R231); band 2a + s of row parity a and sub-column s. -/
def demosaic (v : Array Nat) (rows edge q : Nat) : List Nat :=
  let u := q / 2
  let s := q % 2
  let at_ := fun (r c : Nat) => v.getD (2 * r + c) 0
  let y := fun (r : Nat) => ((at_ r 0 + at_ r 1 : Nat) : Int)
  let pick := fun (c : Nat) =>
    if u = 0 then at_ (u + 1) c
    else if rows ≤ u + 1 then at_ (u - 1) c
    else
      let gm := (y (u - 1) - y u).natAbs
      let gp := (y (u + 1) - y u).natAbs
      if gm + edge < gp then at_ (u - 1) c
      else if gp + edge < gm then at_ (u + 1) c
      else (at_ (u - 1) c + at_ (u + 1) c + 1) / 2
  let own := fun (c : Nat) => if c = s then at_ u s else at_ u (1 - s)
  if u % 2 = 0 then [own 0, own 1, pick 0, pick 1] else [pick 0, pick 1, own 0, own 1]

/-- A coefficient of the colour matrix (R232, R247). -/
def ccm (cfg : List (Nat × Word)) (i j : Nat) : Int :=
  signedN 16 (fldIn cfg ⟨ISP_CCM (2 * i + j / 2), 16 * (j % 2) + 15, 16 * (j % 2)⟩)

/-- The colour matrix (R232). -/
def colourMatrix (m : List (List Int)) (inp : List Nat) : List Nat :=
  m.map (fun row =>
    let sum := (List.zipWith (fun (a : Int) (b : Nat) => a * (b : Int)) row inp).sum
    (clampI (roundDiv sum 4096) 0 1048575).toNat)

/-! ### Statistics (R236 to R238) -/

/-- Add a line's stage-5 samples to a frame's sums. -/
def StatSet.add (t : StatSet) (cfg : List (Nat × Word)) (l : ColourLine) (st : Staged) : StatSet :=
  let rows := max 1 (outRows cfg)
  let col := min 15 (16 * l.pos / max 1 l.window)
  let shift := fldIn cfg ISP_STAT_CFG_HIST_SHIFT
  let go := fun (a : List (Nat × (Nat × Nat × Nat)) × List (Nat × Nat)) (q : Nat) =>
    let u := q / 2
    let band := 2 * (u % 2) + q % 2
    let z := 16 * (12 * u / rows) + col
    let v := st.values.getD q 0
    let e := tabGet (0, 0, 0) a.1 (4 * z + band)
    let b := min 255 (v >>> shift)
    let k := 256 * band + b
    (tabPut a.1 (4 * z + band) (e.1 + v, e.2.1 + 1, e.2.2 + b2n (st.sat.contains q)), tabPut a.2 k (min (2 ^ 32 - 1) (tabGet 0 a.2 k + 1)))
  let (z, h) := (List.range st.values.size).foldl go (t.zones, t.hist)
  { t with zones := z, hist := h, lines := t.lines + 1 }

/-- ISP_STAT_ZONE of a set (R236, R247). -/
def StatSet.zone (t : StatSet) (z b : Nat) : Nat :=
  let e := tabGet (0, 0, 0) t.zones (4 * z + b)
  if e.2.1 = 0 then 0
  else min 255 (256 * e.2.2 / e.2.1) * 2 ^ 24 + (2 * e.1 + e.2.1) / (2 * e.2.1) % 2 ^ 20

/-- ISP_STAT_ZCNT of a set. -/
def StatSet.zcnt (t : StatSet) (z : Nat) : Nat := (tabGet (0, 0, 0) t.zones (4 * z)).2.1 % 2 ^ 17

/-- ISP_STAT_HIST of a set. -/
def StatSet.bin (t : StatSet) (b i : Nat) : Nat := tabGet 0 t.hist (256 * b + i)

/-- A frame's note: the generation in force for it, and FRAME_SHORT. -/
def State.frameNote (s : State) (f : Nat) : Nat × Bool :=
  ((s.isp.frames.find? (fun (e : Nat × Nat × Bool) => e.1 = f)).map (fun e => e.2)).getD (s.fld IMG_GEN_V, false)

/-- The statistics packets of a set (R244). -/
def State.statPackets (s : State) (t : StatSet) : State :=
  let head := leBytes 2 t.gen ++ leBytes 2 t.oldLines ++ leBytes 2 t.lines ++ leBytes 1 (2 * b2n t.short + b2n t.reproc) ++ [0]
  let zones := (List.range 192).flatMap (fun z => (List.range 4).flatMap (fun b => leBytes 4 (t.zone z b)))
  let cnts := (List.range 192).flatMap (fun z => leBytes 4 (t.zcnt z))
  let s := s.sendPacket 2 0x11 0 t.frame 0xFFFF (head ++ zones ++ cnts)
  s.sendPacket 2 0x12 0 t.frame 0xFFFF (head ++ (List.range 4).flatMap (fun b => (List.range 256).flatMap (fun i => leBytes 4 (t.bin b i))))

/-- A set is published (R238); sets that no port has selected give way to it. -/
def State.publish (s : State) (t : StatSet) : State :=
  let t := { t with id := s.isp.nextId + 1 }
  let keep := s.isp.published.filter (fun (x : StatSet) => s.portA.statSel = some x.id || s.portB.statSel = some x.id)
  let s : State := { s with isp := { s.isp with nextId := t.id, published := keep ++ [t] } }
  let s := s.wrN ISP_STAT_INFO t.frame
  (s.statPackets t).raise EV_ISP_STATS_READY

/-- The sums of a frame and what they are of. -/
def State.sumsOf (s : State) (l : ColourLine) : StatSet :=
  match s.isp.sums.find? (fun (x : StatSet) => x.frame = l.frame && x.reproc = l.reproc) with
  | some t => t
  | none =>
    let (g, short) := s.frameNote l.frame
    ⟨0, l.frame, if l.reproc then l.gen else g, 0, 0, short && !l.reproc, l.reproc, [], []⟩

/-- Replace the sums of a frame. -/
def State.setSums (s : State) (t : StatSet) : State :=
  { s with isp := { s.isp with sums := s.isp.sums.filter (fun (x : StatSet) => !(x.frame = t.frame && x.reproc = t.reproc)) ++ [t] } }

/-! ### Channel means and image packets (R239, R243, R244) -/

/-- The channel an output pixel counts for (R239). -/
def channelOf (cfg : List (Nat × Word)) (q : Nat) : Nat :=
  let b := binFactor cfg
  let u := q / 2
  (fldIn cfg IMG_ROWS_START + 2 * b * (u / 2) + u % 2 + b - 1) / 8

/-- The channel means of a line (R239). -/
def channelMeans (cfg : List (Nat × Word)) (st : Staged) (out : Array (List Nat)) : List (Nat × ChanMean) :=
  (List.range out.size).foldl (fun (m : List (Nat × ChanMean)) q =>
    let c := channelOf cfg q
    let e := tabGet ⟨[0, 0, 0, 0], 0, false, false, false⟩ m c
    tabPut m c { sums := List.zipWith (· + ·) e.sums (out.getD q []), count := e.count + 1, sat := e.sat || st.sat.contains q,
                 filled := e.filled || st.filled.contains q, merged := e.merged || st.merged.contains q }) []

/-- The image packets of a line (R243, R244). -/
def State.imagePackets (s : State) (cfg : List (Nat × Word)) (l : ColourLine) (st : Staged) (out : Array (List Nat)) : State :=
  let fmt := fldIn cfg ISP_OUT_FORMAT
  if 3 ≤ fmt then s
  else
    let shift := fldIn cfg ISP_OUT_SHIFT
    let p := st.values.size
    let seg := nth p [p, 1536, 768, 384, 256] (fldIn cfg ISP_OUT_SEG)
    let word := fun (v : Nat) => leBytes 2 (min 65535 (v >>> shift))
    let unit := fun (q : Nat) =>
      if fmt = 0 then word (st.values.getD q 0)
      else if fmt = 1 then (out.getD q []).flatMap word
      else if q % 4 = 0 then (List.range 4).flatMap (fun i => word (nth 0 (out.getD (q + i) []) i))
      else []
    let flags := b2n l.setB * 128 + b2n l.cut * 64 + b2n l.short * 32 + b2n l.long * 16 + b2n l.velChange * 8 + b2n st.skipped * 4
      + b2n (!st.filled.isEmpty) * 2 + b2n (!st.merged.isEmpty)
    let seg := max 1 seg
    (List.range ((p + seg - 1) / seg)).foldl (fun s i =>
      let n := min seg (p - i * seg)
      let body := timeBytes l.time ++ leBytes 1 fmt ++ leBytes 2 l.gen ++ leBytes 2 (i * seg) ++ leBytes 2 n ++ leBytes 1 flags
        ++ leBytes 1 (fldIn cfg IMG_BIN_ROW_BIN) ++ leBytes 2 (fldIn cfg IMG_ROWS_START) ++ leBytes 1 (b2n l.reproc) ++ [0, 0, 0]
        ++ (List.range n).flatMap (fun j => unit (i * seg + j))
      s.sendPacket 2 0x10 0 l.frame l.line (body ++ List.replicate ((8 - body.length % 8) % 8) 0)) s

/-- A line passes the stages (R224). -/
def State.processLine (s : State) (cfg : List (Nat × Word)) (l : ColourLine) : State :=
  let (st, s) := s.stages cfg l
  let s := if l.setB then
      { s with isp := { s.isp with partners := s.isp.partners ++ [StageLine.mk l.frame l.line l.reproc st.codes.toList st.values.toList] } } else s
  let rows := outRows cfg
  let m := (List.range 4).map (fun i => (List.range 4).map (ccm cfg i))
  let edge := fldIn cfg ISP_DEMOSAIC_EDGE_TH
  let out := ((List.range st.values.size).map (fun q => colourMatrix m (demosaic st.values rows edge q))).toArray
  let t := s.sumsOf l
  let old := l.gen ≠ (s.frameNote l.frame).1 && !l.reproc
  let s := s.setSums { t.add cfg l st with oldLines := t.oldLines + b2n old }
  let s := if l.reproc || l.cut then s
    else { s with isp := { s.isp with table := s.isp.table ++
                                        [⟨l.frame, l.line, l.short || l.long, l.velChange, old, channelMeans cfg st out⟩] } }
  s.imagePackets cfg l st out

/-- A set A line waits while its partner is still to come (R230). -/
def State.partnerComing (s : State) (l : ColourLine) : Bool :=
  let i := s.img
  let is_ := fun (x : ColourLine) => x.frame = l.frame && x.line = l.line + 1
  let cfg := s.genCfg l.gen
  fldIn cfg IMG_TDI_CFG_MULTI = 1 && fldIn cfg ISP_CFG_HDR_EN = 1 && !l.setB && (s.partner l).isNone
    && ((i.closing ++ i.store ++ (i.bus.map (fun b => b.line)).toList ++ i.arrived ++ s.isp.queue).any is_
      || (i.lineOpen && i.line = l.line + 1 && s.rdN GLB_FRAME = l.frame))

/-- ISP_LINE_PROCESS (R224, R225): the oldest queued line that does not wait for its partner. -/
def State.ispProcess (s : State) : State :=
  match s.isp.queue.find? (fun (l : ColourLine) => !s.partnerComing l) with
  | none => s
  | some l =>
    let s := ({ s with isp := { s.isp with queue := s.isp.queue.erase l } } : State).showQueue
    (s.processLine (s.genCfg l.gen) l).pruneGens

/-! ### Frame start (R238, R245) -/

/-- The pipeline's frame start: frame `f` begins; the statistics of frame f − 2 are published, and a capture that waits begins. -/
def State.ispFrameStart (s : State) : State :=
  let f := s.rdN GLB_FRAME
  let age := fun (g : Nat) => (f + 2 ^ 32 - g) % 2 ^ 32
  let due := s.isp.sums.find? (fun (x : StatSet) => !x.reproc && age x.frame = 2)
  let i := s.isp
  let capture := match i.capture with
    | some (none, n, a) => if s.flag IMG_STATUS_RUNNING then some (some f, n, a) else i.capture
    | c => c
  let i := { i with sums := i.sums.filter (fun x => x.reproc || age x.frame < 2),
                    frames := i.frames.filter (fun e => age e.1 < 4) ++ [(f, s.fld IMG_GEN_V, false)],
                    partners := i.partners.filter (fun x => x.reproc || age x.frame < 2),
                    table := i.table.filter (fun x => age x.frame < 2),
                    store := i.store.filter (fun x => age x.frame ≤ 9), dropRaised := false, capture := capture }
  let s : State := { s with isp := i }
  let s := match due with
    | some t => s.publish t
    | none => s
  let s := s.setFlag ISP_STATUS_CAPTURE_ACTIVE s.isp.capture.isSome
  s.captureCheck

/-- FRAME_SHORT applied to the frame (R30, R238). -/
def State.noteShort (s : State) : State :=
  let f := s.rdN GLB_FRAME
  { s with isp := { s.isp with frames := s.isp.frames.map (fun (e : Nat × Nat × Bool) => if e.1 = f then (e.1, e.2.1, true) else e),
                               sums := s.isp.sums.map (fun (t : StatSet) => if t.frame = f && !t.reproc then { t with short := true } else t) } }

/-! ### Colour fusion (R240 to R242) -/

/-- The colour extension of a channel for a range line (R240 to R242); no colour line is present while readout is off or the pipeline is
reprocessing (R241). -/
def State.colourExt (s : State) (l : HstLine) (c : Nat) : Nat :=
  let d := l.colourOfs.fdiv 16
  let phi := (l.colourOfs - 16 * d).toNat
  let weights : List (Int × Nat) := (List.range 5).map (fun (j : Nat) =>
    ((4 * l.line : Nat) + (j : Int) + d, (if j < 4 then 16 - phi else 0) + (if 0 < j then phi else 0)))
  let needed := weights.filter (fun e => e.2 ≠ 0)
  let found := needed.filterMap (fun e =>
    if e.1 < 0 || !s.flag IMG_STATUS_RUNNING || s.isp.reproc.isSome then none
    else (s.isp.table.find? (fun (r : ColourRow) => r.frame = l.frame && r.line = e.1.toNat)).bind (fun r =>
      (r.means.find? (fun m => m.1 = c)).map (fun m => (e.2, r, m.2))))
  let total := (found.map (fun e => e.1)).sum
  if total = 0 then 0
  else
    let shift := l.get ISP_FUSE_SHIFT
    let value := fun (b : Nat) =>
      let sum : Rat := (found.map (fun e => ((e.1 * nth 0 e.2.2.sums b : Nat) : Rat) / ((max 1 e.2.2.count : Nat) : Rat))).sum
      min 16383 ((ratRound (sum / (total : Rat))).toNat >>> shift)
    let any := fun (f : ColourRow → ChanMean → Bool) => b2n (found.any (fun e => f e.2.1 e.2.2))
    value 0 * 2 ^ 50 + value 1 * 2 ^ 36 + value 2 * 2 ^ 22 + value 3 * 2 ^ 8 + 128 * b2n (!s.flag CAL_GLOBAL_UNCAL_COLOUR)
      + 64 * b2n (found.length < needed.length) + 32 * any (fun _ m => m.sat) + 16 * any (fun _ m => m.filled)
      + 8 * any (fun _ m => m.merged) + 4 * any (fun r _ => r.err) + 2 * any (fun r _ => r.velChange) + any (fun r _ => r.genOld)

/-! ### Writes (R234, R245, R246) -/

/-- The regions of the lineup map overlap a span of LPDDR5X, or the span ends beyond it (R234 0x24). -/
def State.regionBad (s : State) (n : Nat) : Bool :=
  let a := s.rdN ISP_MEM_BASE * 0x100000
  decide (0x200000000 < a + n) || (List.range 8).any (fun i =>
    let b := mapBits s.lnp.map (0x17F + i) 16 16 * 0x100000
    let m := mapBits s.lnp.map (0x17F + i) 0 16 * 0x100000
    decide (m ≠ 0) && decide (a < b + m) && decide (b < a + n))

/-- Bytes of a record under the settings in force. -/
def State.recordBytes (s : State) : Nat := 8 + 2 * outPixels (s.genCfg (s.fld IMG_GEN_V))

/-- A write of ISP_MEM_CTRL (R234, R245, R246). -/
def State.memCtrlWrite (s : State) (v : Word) : State :=
  let rep := v.toNat.testBit 31
  let cap := v.toNat.testBit 30
  let lines := v.toNat % 65536
  if (rep || cap) && s.flag IMG_CTRL_ENABLE || (rep && lines = 0) then s.refuse IMG_CFG_ERR EV_IMG_CFG_ERROR 0x23 0xFFFF
  else if (rep && s.regionBad (lines * s.recordBytes)) || (cap && s.regionBad (4 * s.linesInForce * s.recordBytes)) then
    s.refuse IMG_CFG_ERR EV_IMG_CFG_ERROR 0x24 0xFFFF
  else
    let s := s.setFld ISP_MEM_CTRL_LINES lines
    let s := if cap && s.isp.capture.isNone then
        let s : State := { s with isp := { s.isp with capture := some (none, 0, s.memBase) } }
        (s.setFlag ISP_MEM_CTRL_CAPTURE true).setFlag ISP_STATUS_CAPTURE_ACTIVE true
      else s
    if rep && s.flag ISP_CTRL_SRC && s.isp.reproc.isNone then
      let s : State := { s with isp := { s.isp with reproc := some (lines, s.memBase, 0) } }
      (s.setFlag ISP_MEM_CTRL_REPROC true).setFlag ISP_STATUS_REPROC_BUSY true
    else s

/-- A write of the ISP block. -/
def State.ispWrite (s : State) (off : Nat) (v : Word) : State :=
  if off = ISP_CTRL then
    -- every write of ISP_CTRL writes SRC (R234; log entry 152)
    if s.flag IMG_CTRL_ENABLE then s.refuse IMG_CFG_ERR EV_IMG_CFG_ERROR 0x23 0xFFFF
    else s.plainWrite off off v
  else if off = ISP_MEM_CTRL then s.memCtrlWrite v
  else s.plainWrite off off v

/-! ### Reprocessing (R246) -/

/-- Read a stored record at an address (R245): its line and length; none where its header is malformed (log entry 49). -/
def State.readRecord (s : State) (a : Nat) : Option (ColourLine × Nat × List (Nat × Word)) :=
  let h := leNat (memReadBytes s.mem a 8)
  let beats := h % 2 ^ 10
  let bin := h / 2 ^ 20 % 4
  let start := 2 * (h / 2 ^ 10 % 2 ^ 10)
  let count := 2 * beats * 2 ^ bin
  if 2 ^ 58 ≤ h || beats = 0 || bin = 3 || 1536 < start + count then none
  else
    let n := 4 * beats
    let cfg := s.genCfg (s.fld IMG_GEN_V)
    let cfg := tabSet (resetOf IMG_BIN) cfg IMG_BIN (BitVec.ofNat 32 bin)
    let cfg := tabSet (resetOf IMG_ROWS) cfg IMG_ROWS (BitVec.ofNat 32 (count * 65536 + start))
    let line := h / 2 ^ 42 % 2 ^ 14
    let w := (s.lineWindow cfg line).getD (line, max 1 (4 * s.linesInForce))
    let bit := fun (i : Nat) => h.testBit i
    let px := (List.range n).map (fun i => leNat (memReadBytes s.mem (a + 8 + 2 * i) 2) % 16384)
    let g := h / 2 ^ 26 % 256
    some ({ frame := h / 2 ^ 34 % 256, line := line, time := 0, gen := g, die := g, setB := bit 25, velChange := bit 24, cut := bit 23,
            stale := bit 22, n := 0, vel := 0, tap := 0, left := 0, lit := none, closedAt := 0, readyAt := 0, pos := w.1, window := w.2,
            read := true, expect := true, pixels := px,
            marked := s.markedPixels cfg, short := bit 56, long := bit 57, reproc := true }, 8 + 2 * n, cfg)

/-- The record at an address goes through the stages. -/
def State.runRecord (s : State) (a : Nat) : State :=
  match s.readRecord a with
  | some (l, _, cfg) => s.processLine cfg l
  | none => s

/-- Records of set A lines that waited for their partner go through the stages once that has (R230). -/
def State.runHeld (s : State) (all : Bool) : State :=
  let ready := fun (a : Nat) => all || match s.readRecord a with
    | some (l, _, _) => (s.partner l).isSome
    | none => true
  let held := s.isp.held
  let s : State := { s with isp := { s.isp with held := held.filter (fun a => !ready a) } }
  (held.filter ready).foldl (fun s a => s.runRecord a) s

/-- REPROCESS_RECORD (R246): the next stored record; a set A line waits for its partner (R230). After the last record the statistics are
published. -/
def State.reprocess (s : State) : State :=
  match s.isp.reproc with
  | none => s
  | some (left, a, n) =>
    let (s, step, got) := match s.readRecord a with
      | some (l, len, cfg) =>
        let waits := fldIn cfg IMG_TDI_CFG_MULTI = 1 && fldIn cfg ISP_CFG_HDR_EN = 1 && !l.setB && (s.partner l).isNone
        (if waits then { s with isp := { s.isp with held := s.isp.held ++ [a] } } else (s.processLine cfg l).runHeld false, len, 1)
      | none => (s.wrN ISP_DROP (s.rdN ISP_DROP + 1), s.recordBytes, 0)
    if 1 < left then { s with isp := { s.isp with reproc := some (left - 1, a + step, n + got) } }
    else
      let s := s.runHeld true
      let s : State := { s with isp := { s.isp with reproc := none, partners := s.isp.partners.filter (fun x => !x.reproc) } }
      let all := s.isp.sums.filter (fun (x : StatSet) => x.reproc)
      let s : State := { s with isp := { s.isp with sums := s.isp.sums.filter (fun (x : StatSet) => !x.reproc) } }
      let s := match all.getLast? with
        | some t => s.publish t
        | none => s
      ((s.setFlag ISP_MEM_CTRL_REPROC false).setFlag ISP_STATUS_REPROC_BUSY false).raise EV_ISP_REPROC_DONE

/-! ### The meanings -/

/-- PIXEL_LINE_RECEIVED (R216). -/
def execPixelLineReceived (s : State) : Host.Outcome State Fault Refusal := done (s.inCore State.pixelReceived)

/-- PIXEL_HEADER_TIMEOUT (R216). -/
def execPixelHeaderTimeout (s : State) : Host.Outcome State Fault Refusal := done (s.inCore State.headerTimeout)

/-- ISP_LINE_ENQUEUE (R235). -/
def execIspLineEnqueue (s : State) : Host.Outcome State Fault Refusal := done (s.inCore State.enqueue)

/-- ISP_LINE_PROCESS (R224). -/
def execIspLineProcess (s : State) : Host.Outcome State Fault Refusal := done (s.inCore State.ispProcess)

/-- ISP_CONTROL_WRITE (R234). -/
def execIspControlWrite (p : Port) (v : BitVec 2) (s : State) : Host.Outcome State Fault Refusal :=
  done (s.hostGate p ISP_CTRL false (fun s => s.ispWrite ISP_CTRL (v.setWidth 32)))

/-- ISP_CAPTURE_REQUEST (R245). -/
def execIspCaptureRequest (p : Port) (lines : BitVec 16) (s : State) : Host.Outcome State Fault Refusal :=
  done (s.hostGate p ISP_MEM_CTRL false (fun s => s.ispWrite ISP_MEM_CTRL (BitVec.ofNat 32 (2 ^ 30 + lines.toNat))))

/-- ISP_REPROC_REQUEST (R246). -/
def execIspReprocRequest (p : Port) (lines : BitVec 16) (s : State) : Host.Outcome State Fault Refusal :=
  done (s.hostGate p ISP_MEM_CTRL false (fun s => s.ispWrite ISP_MEM_CTRL (BitVec.ofNat 32 (2 ^ 31 + lines.toNat))))

/-- REPROCESS_RECORD (R246). -/
def execReprocessRecord (s : State) : Host.Outcome State Fault Refusal := done (s.inCore State.reprocess)

end Sys2Proof.Machine
end

