-- ==== Sys2Proof/Machine/Points.lean ====
section
/-! DEFINITION. Point engines, point records and LINE packets (07_points_packets.md): the vendor chain in exact arithmetic, the
customer kernel's rules, local-memory errors, the entries of a LINE packet, and the destinations. -/

namespace Sys2Proof.Machine

/-! ### The channel's tables of the calibration record (R312, R315, R316) -/

/-- A word of a channel's entry in the calibration record, which no register shows: RANGE_OFS, PILE_SHIFT and WALK. -/
def State.chanWord (s : State) (c w : Nat) : Nat := (tabGet 0 s.cal.words (8448 + 48 * c + w)).toNat

/-- RANGE_OFS, 1/16 tick (R179). -/
def State.rangeOfs (s : State) (c : Nat) : Int := signedN 16 (s.chanWord c 4 % 65536)

/-- A signed 16-bit entry of a table packed two to a word from word `w`. -/
def State.chanTable (s : State) (c w i : Nat) : Int := signedN 16 (s.chanWord c (w + i / 2) / 2 ^ (16 * (i % 2)) % 65536)

/-- PILE_SHIFT[i], 1/16 tick (R177). -/
def State.pileShift (s : State) (c i : Nat) : Int := s.chanTable c 5 i

/-- WALK[i], 1/16 tick (R179). -/
def State.walkEntry (s : State) (c i : Nat) : Int := s.chanTable c 13 i

/-- WALK of a width field, in 1/16 tick (R179); beyond the last entry the interpolation has no stated value: a free value (log
entry 40). -/
def State.walk (s : State) (c width : Nat) : Rat × State :=
  let i := width / 16
  if 63 ≤ i && width % 16 ≠ 0 then
    let (x, s) := s.fresh
    ((signedN 16 (x % 65536) : Int), s)
  else
    let a : Rat := s.walkEntry c i
    let b : Rat := s.walkEntry c (min 63 (i + 1))
    (a + (b - a) * ((width % 16 : Nat) : Rat) / 16, s)

/-! ### Stages 1 to 4 (R177 to R180) -/

/-- A return as the chain holds it between its stages: a window's, or a coarse run's. -/
structure Ret where
  code : Nat
  width : Nat
  conf : Nat
  cls : Nat
  win : Nat
  last : Bool
  edge : Bool
  /-- NET of R182 and the shots it is normalised by. -/
  net : Rat
  shots : Nat
  deriving DecidableEq, Repr

/-- The dead fraction (R177); with no SPAD or no completed line the quotient has no stated value: a free value up to its cap (log
entry 41). -/
def State.deadFraction (s : State) (l : HstLine) (x : ChanLine) : Rat × State :=
  let t := s.rdN CTL_LINE_T
  if l.get PNT_CHAIN_CFG_PILE_EN = 0 then (0, s)
  else if x.spads = 0 || t = 0 then
    let (v, s) := s.fresh
    (min (9 / 10) (((v % 65536 : Nat) : Rat) / 65536), s)
  else (min (9 / 10) (((x.detAmb * (256 * s.fld DET_QUENCH_HOLDOFF) : Nat) : Rat) / ((x.spads * t : Nat) : Rat)), s)

/-- The ambient count per fine bin (R178). -/
def ambientBin (l : HstLine) (x : ChanLine) : Rat :=
  ((x.nZ * l.get HST_ZOOM_CFG_WIDTH * x.amb : Nat) : Rat) / ((65536 * coarseWidth l : Nat) : Rat)

/-- A fine bin's net count (R178); a bin outside the window counts 0. -/
def netBin (h : List (Nat × Nat)) (bins : Nat) (a : Rat) (b : Int) : Rat :=
  if b < 0 || (bins : Int) ≤ b then 0 else max 0 (((tabGet 0 h b.toNat : Nat) : Rat) - a)

/-- The first bin from `q` outwards whose neighbour lies below half of the peak. -/
def halfBin (nb : Int → Rat) (half : Rat) (dir : Int) : Nat → Int → Int
  | 0, b => b
  | n + 1, b => if half ≤ nb (b + dir) then halfBin nb half dir n (b + dir) else b

/-- The full width at half of the peak, in fine bins (R178). -/
def halfWidth (nb : Int → Rat) (bins q : Nat) : Rat :=
  let half := nb q / 2
  let lo := halfBin nb half (-1) bins q
  let hi := halfBin nb half 1 bins q
  let xl : Rat := ((lo - 1 : Int) : Rat) + (half - nb (lo - 1)) / (nb lo - nb (lo - 1))
  let xr : Rat := (hi : Rat) + (nb hi - half) / (nb hi - nb (hi + 1))
  xr - xl

/-- The integer square root, rounded down. -/
def floorSqrt (n : Nat) : Nat := let r := ceilSqrt n; if r * r = n then r else r - 1

/-- The width field of a veil window: round(2.355 × rms / 4), with the rms of R160. -/
def veilWidth (ts : List Int) : Nat :=
  let n := ts.length
  let sum := ts.foldl (fun a t => a + t) 0
  let sq := ts.foldl (fun a t => a + t * t) 0
  let d := ((n : Int) * sq - sum * sum).toNat
  let b := 1024000 * n
  if n = 0 then 0 else min 1023 ((floorSqrt (4710 * 4710 * d) + b) / (2 * b))

/-- The range code of a corrected time in ticks (R10, R179); none where the return is dropped. -/
def rangeCode (t : Rat) : Option Nat :=
  if t < 0 then some 0
  else
    let c := (t * 299792458 / 256000000 + 1 / 2).floor.toNat
    if 0xFFFFE < c then none else some c

/-- Flag bits of a window (R162). -/
def winConfirmed (w : Nat × Nat) : Bool := w.2.testBit 4
/-- VEIL. -/
def winVeil (w : Nat × Nat) : Bool := w.2.testBit 5
/-- LAST. -/
def winLast (w : Nat × Nat) : Bool := w.2.testBit 2
/-- SHIFTED or CLIPPED. -/
def winEdge (w : Nat × Nat) : Bool := w.2.testBit 3 || w.2.testBit 1

/-- One window's return, before classes and intensity (R177 to R180, R184). -/
def State.windowReturn (s : State) (c : Nat) (l : HstLine) (x : ChanLine) (j : Nat) : Option Ret × State :=
  let w := nth (0, 0) x.windows j
  let h := nth [] x.fine j
  if h.isEmpty || (!winConfirmed w && l.get PNT_CHAIN_CFG_UNCONF = 0) then (none, s)
  else
    let bins := l.get HST_ZOOM_CFG_BINS
    let zw := l.get HST_ZOOM_CFG_WIDTH
    let a := ambientBin l x
    let nb := netBin h bins a
    let q := (finePeak h).1
    let half := l.get PNT_PEAK_CFG_HALF
    let span := (List.range (2 * half + 1)).map (fun (i : Nat) => (q : Int) + (i : Int) - (half : Int))
    let net := (span.map nb).sum
    if net ≤ 0 then (none, s)
    else
      let t := ((w.1 : Nat) : Rat) + (zw : Rat) * ((span.map (fun (b : Int) => ((b : Rat) + 1 / 2) * nb b)).sum / net)
      let stamps := windowStamps l x j
      let width := if winVeil w then veilWidth stamps else min 1023 (ratRound (halfWidth nb bins q * zw / 4)).toNat
      let p := (ratRound (15 * ((nth 0 x.pile j : Nat) : Rat) / ((max 1 stamps.length : Nat) : Rat))).toNat
      let shift : Rat := if l.get PNT_CHAIN_CFG_PILE_EN = 1 then (s.pileShift c (min 15 p) : Int) else 0
      let (wk, s) := if l.get PNT_CHAIN_CFG_WALK_EN = 1 then s.walk c width else (0, s)
      match rangeCode (t - (shift + wk + (s.rangeOfs c : Int)) / 16) with
      | none => (none, s)
      | some code =>
        let conf0 := ((255 * (((nth 0 x.support j : Nat) : Rat) / ((max 1 x.nZ : Nat) : Rat))
          * min 1 (net / ((max 1 (l.get PNT_CONF_CFG_CONF_NET) : Nat) : Rat))).floor).toNat
        let conf1 := if winEdge w then conf0 * 3 / 4 else conf0
        let conf := if winConfirmed w then conf1 else min 63 conf1
        -- NET of a veil window (R182); its stamps less the ambient expected in the window
        let veilNet : Rat := ((stamps.length : Nat) : Rat) - 256 * (bins : Rat) * a / (zw : Rat)
        (some ⟨code, width, conf, if winConfirmed w then 1 else 4, j, winLast w, winEdge w,
          if winConfirmed w && winVeil w then veilNet else net, x.nZ⟩, s)

/-- A kept run's return (R180): its time is the centroid of the run's bins, its width the run width. -/
def State.coarseReturn (s : State) (c : Nat) (l : HstLine) (x : ChanLine) (e : PickRun × Bool) : Option Ret × State :=
  let r := e.1
  let w := coarseWidth l
  let bins := (x.coarse.filter (fun b => r.b1 ≤ b.1 && b.1 ≤ r.b2 + 1))
  let sum : Rat := (bins.foldl (fun a b => a + (2 * b.1 + 1) * w * b.2) 0 : Nat)
  let t := sum / (2 * ((max 1 r.weight : Nat) : Rat))
  let width := min 1023 ((r.b2 - r.b1 + 2) * w / 4)
  let (wk, s) := if l.get PNT_CHAIN_CFG_WALK_EN = 1 then s.walk c width else (0, s)
  match rangeCode (t - (wk + (s.rangeOfs c : Int)) / 16) with
  | none => (none, s)
  | some code =>
    let conf := ((127 * min 1 (((r.weight : Nat) : Rat) / ((max 1 (2 * x.nC) : Nat) : Rat))).floor).toNat
    (some ⟨code, width, conf, 5, 0, e.2, false, ((r.weight : Nat) : Rat), x.nC⟩, s)

/-- Insert a return by a strict order, earlier ones first among equals. -/
def insertRet {α : Type} (lt : α → α → Bool) (r : α) : List α → List α
  | [] => [r]
  | a :: t => if lt r a then r :: a :: t else a :: insertRet lt r t

/-- Items in an order. -/
def sortRets {α : Type} (lt : α → α → Bool) (l : List α) : List α := l.foldl (fun acc r => insertRet lt r acc) []

/-- Which returns are kept first (R180): the LAST window, then the greatest confidence, ties to the nearer. -/
def keptFirst (a b : Ret) : Bool :=
  if a.last ≠ b.last then a.last else if a.conf ≠ b.conf then b.conf < a.conf else a.code < b.code

/-- Multi-return decode: the returns kept, nearest first (R180). -/
def keepReturns (max : Nat) (l : List Ret) : List Ret :=
  sortRets (fun a b => a.code < b.code) (if max < l.length then (sortRets keptFirst l).take max else l)

/-- Each item gives a return or none. -/
def State.collectRets {α : Type} (f : State → α → Option Ret × State) : List α → State → List Ret × State
  | [], s => ([], s)
  | a :: t, s =>
    let (r, s) := f s a
    let (rs, s) := State.collectRets f t s
    (r.toList ++ rs, s)

/-- Stages 1 to 4 of the vendor chain (R176 to R180). -/
def State.decodeReturns (s : State) (c : Nat) (l : HstLine) (x : ChanLine) : List Ret × State :=
  let fl := contextFlags l x
  let m := l.get PNT_CHAIN_CFG_MAX_RETURNS
  if fl.testBit 6 || fl.testBit 5 || fl.testBit 3 then ([], s)
  else if fl.testBit 0 then
    -- the runs that R154 and R155 give with the context's A, the first MAX_RETURNS in rank order (log entry 42)
    let runs := (rankRuns l (findRuns l x.coarse (2 * x.nC * x.amb) 65536)).take m
    let (rs, s) := State.collectRets (fun s e => s.coarseReturn c l x e) runs s
    (sortRets (fun a b => a.code < b.code) rs, s)
  else
    let (rs, s) := State.collectRets (fun s j => s.windowReturn c l x j) (List.range x.windows.length) s
    (keepReturns m rs, s)

/-! ### Stages 5 and 6 (R181, R182) -/

/-- Veil classification of a confirmed window's return (R181). -/
def classOf (l : HstLine) (x : ChanLine) (r : Ret) : Nat :=
  if r.cls = 1 && winVeil (nth (0, 0) x.windows r.win) then
    let h := nth [] x.fine r.win
    let n := (windowStamps l x r.win).length
    if l.get PNT_VEIL_CLS_SPIKE * n ≤ 16 * ((finePeak h).2 * h.length) then 3 else 2
  else r.cls

/-- Intensity and SAT (R182). With R_REF or the SPAD count 0, or a negative NET, the result is not stated: a free value (log entry
43). -/
def State.intensity (s : State) (l : HstLine) (x : ChanLine) (f : Rat) (code : Nat) (r : Ret) : (Nat × Bool) × State :=
  let comp := l.get PNT_INT_CFG_RANGE_COMP = 1
  let ref := l.get PNT_INT_CFG_R_REF
  if x.spads = 0 || (comp && ref = 0) || r.net < 0 then
    let (v, s) := s.fresh
    ((v % 16384, (v / 16384) % 2 = 1), s)
  else
    let ratio : Rat := ((code : Nat) : Rat) / ((200 * max 1 ref : Nat) : Rat)
    let k : Rat := if comp then ratio * ratio else 1
    let v := (ratRound (((l.get PNT_INT_CFG_GAIN : Nat) : Rat) * r.net / ((max 1 r.shots : Nat) : Rat) * 40 / ((x.spads : Nat) : Rat)
      / (1 - f) * k)).toNat
    ((min 16383 v, decide (16383 < v)), s)

/-! ### Records (R187, R191) -/

/-- A record (R191). -/
def recordOf (code inten width conf cls win : Nat) (last edge sat : Bool) : Nat :=
  code * 2 ^ 44 + inten * 2 ^ 30 + width * 2 ^ 20 + conf * 2 ^ 12 + cls * 2 ^ 9 + win * 2 ^ 7 + b2n last * 64 + b2n edge * 32 + b2n sat * 16

/-- RANGE, CLASS and WINDOW of a record. -/
def recRange (r : Nat) : Nat := r / 2 ^ 44 % 2 ^ 20
/-- CLASS. -/
def recClass (r : Nat) : Nat := r / 2 ^ 9 % 8
/-- WINDOW. -/
def recWin (r : Nat) : Nat := r / 2 ^ 7 % 4

/-- A return before stages 5 and 6 as a record. -/
def Ret.record (r : Ret) : Nat := recordOf r.code 0 r.width r.conf r.cls r.win r.last r.edge false

/-- The record's confidence forced to 0 (R184). -/
def forceConf (r : Nat) : Nat := r - (r / 2 ^ 12 % 256) * 2 ^ 12

/-- What is kept of a return list a kernel has left (R187): no record of range 0xF_FFFF, at most 4, sorted by range. -/
def kernelList (l : List (Nat × Nat)) : List (Nat × Nat) :=
  sortRets (fun a b => recRange a.1 < recRange b.1) ((l.filter (fun e => recRange e.1 ≠ 0xFFFFF)).take 4)

/-- A kernel is stopped on a channel-line (R187): `trap`, or over its QUOTA. -/
def State.kernelStop (s : State) (trap : Bool) : State :=
  let s : State := { s with pnt := { s.pnt with stops := s.pnt.stops + 1 } }
  if trap then
    let s := s.bump PNT_KFAULT_TRAP 1
    if s.pnt.trapRaised then s else ({ s with pnt := { s.pnt with trapRaised := true } } : State).raise EV_PNT_KERNEL_TRAP
  else
    let s := s.bump PNT_KFAULT_QUOTA 1
    if s.pnt.quotaRaised then s else ({ s with pnt := { s.pnt with quotaRaised := true } } : State).raise EV_PNT_KERNEL_QUOTA

/-- The customer kernel at hook `h` on a return list (R187): what it leaves of it, and whether it was stopped. The kernel's
instructions are the customer's, so its outcome comes with the command. -/
def State.runKernel (s : State) (h : Nat) (k : KernelRun) (l : List (Nat × Nat)) : List (Nat × Nat) × Bool × State :=
  if !s.kernelActive || s.fld PNT_KSTATUS_HOOK ≠ h then (l, false, s)
  else match k with
    | .unchanged => (kernelList l, false, s)
    | .finished rs => (kernelList (rs.map (fun e => (e.1.toNat, e.2.toNat))), false, s)
    | .trap => (l, true, s.kernelStop true)
    | .overQuota => (l, true, s.kernelStop false)

/-- Stages 5 and 6 on one record (R181, R182): a record whose WINDOW names a return of the chain takes that return's class and
intensity; a record of class CUSTOMER, or of no such return, stays as the kernel left it (log entry 44). -/
def State.finishRecord (s : State) (l : HstLine) (x : ChanLine) (f : Rat) (rs : List Ret) (rec : Nat) : Nat × State :=
  match rs.find? (fun r => r.record = rec) with
  | none =>
    match rs.find? (fun r => r.cls ≠ 5 && r.win = recWin rec && r.cls = recClass rec) with
    | none => (rec, s)
    | some r =>
      let ((i, sat), s) := s.intensity l x f (recRange rec) r
      let keep := rec - (recClass rec) * 2 ^ 9 - (rec / 2 ^ 30 % 2 ^ 14) * 2 ^ 30 - (rec / 16 % 2) * 16
      (keep + classOf l x r * 2 ^ 9 + i * 2 ^ 30 + b2n sat * 16, s)
  | some r =>
    let ((i, sat), s) := s.intensity l x f r.code r
    (recordOf r.code i r.width r.conf (classOf l x r) r.win r.last r.edge sat, s)

/-- Stages 5 and 6 on a list. -/
def State.finishRecords (l : HstLine) (x : ChanLine) (f : Rat) (rs : List Ret) : List (Nat × Nat) → State → List (Nat × Nat) × State
  | [], s => ([], s)
  | (r, e) :: t, s =>
    let (r, s) := s.finishRecord l x f rs r
    let (rest, s) := State.finishRecords l x f rs t s
    ((r, e) :: rest, s)

/-- STATUS (R190). -/
def statusOf (x : ChanLine) : Nat :=
  if x.detOff then 3 else if x.dark then 2 else if x.subst then 1 else if x.lineLost then 5 else if x.notBinned then 4
  else if x.nC + x.nZ = 0 then 6 else 0

/-- The channel-line's list after R184's forcing; a status other than NORMAL has no returns (R190). -/
def forceList (x : ChanLine) (l : List (Nat × Nat)) : List (Nat × Nat) :=
  if statusOf x ≠ 0 then [] else if x.uncal then l.map (fun e => (forceConf e.1, e.2)) else l

/-- POINT_CHAIN_RUN on the oldest collected line of a channel (R174, R176). Stage 7 follows at the colour join where COLOUR is 1. -/
def State.runChain (s : State) (c : Nat) (k : KernelRun) : State :=
  match s.jobAt c 4 with
  | none => s
  | some key =>
    match s.job key, s.lineOf (key / 192) with
    | some x, some l =>
      let colour := l.get PNT_CHAIN_CFG_COLOUR = 1
      if statusOf x ≠ 0 then s.setJob key { x with stage := if colour then 5 else 6, returns := [] }
      else
        let (f, s) := s.deadFraction l x
        let (rs, s) := s.decodeReturns c l x
        let (list, abort, s) := s.runKernel 0 k (rs.map (fun r => (r.record, 0)))
        let (list, s) := State.finishRecords l x f rs list s
        let (list, abort2, s) := if colour then (list, false, s) else s.runKernel 1 k list
        let x := { x with stage := if colour then 5 else 6, returns := forceList x list, kernelAbort := abort || abort2 }
        (s.setJob key x).storeReturns c l x
    | _, _ => s

/-- COLOUR_FUSION_JOIN (R240, stage 7): the oldest line, once its chain has run on every channel; a kernel with hook 1 follows
(R176, R187). -/
def State.colourJoin (s : State) (runs : List (BitVec 8 × KernelRun)) : State :=
  match s.hst.lines with
  | [] => s
  | (seq, l) :: _ =>
    let jobs := s.hst.jobs.filter (fun (e : Nat × ChanLine) => e.1 / 192 = seq)
    if jobs.any (fun e => e.2.stage < 5) then s
    else
      jobs.foldl (fun s e =>
        if e.2.stage ≠ 5 then s
        else
          let c := e.1 % 192
          let ext := s.colourExt l c
          let list := e.2.returns.map (fun r => (r.1, ext))
          let k := ((runs.find? (fun r => r.1.toNat = c)).map (fun r => r.2)).getD .unchanged
          let (list, abort, s) := if statusOf e.2 = 0 then s.runKernel 1 k list else (list, false, s)
          let x := { e.2 with stage := 6, colour := ext, returns := forceList e.2 list, kernelAbort := e.2.kernelAbort || abort }
          (s.setJob e.1 x).storeReturns c l x) s

/-! ### Local-memory errors (R175) -/

/-- A 64-bit word of an engine's local memory lies in the buffer of a channel-line (R172, R175). -/
def State.inBuffer (s : State) (e key word : Nat) : Bool :=
  match s.lineOf (key / 192) with
  | some l =>
    let b := s.bufferAt e (key % 192) l.line
    decide (b ≤ 131072 * e + 8 * word) && decide (131072 * e + 8 * word < b + 10752)
  | none => false

/-- A local-memory or datapath error of engine `e` (R175): channel `c` is the channel-line it served, `word` the 64-bit word that failed, and
`late` says that a replay cannot finish within 2T. -/
def State.memoryError (s : State) (e c : Nat) (kind : MemError) (word : Nat) (late : Bool) : State :=
  match kind with
  | .corrected => s.bump (PNT_ENG_STATUS_CORRECTED e) 1
  | _ =>
    let s := if kind = .uncorrectable then s.bump (PNT_ENG_STATUS_UNCORRECTED e) 1 else s
    let hit := (s.hst.jobs.find? (fun (j : Nat × ChanLine) => j.1 % 192 = c && j.2.engine = e && 4 ≤ j.2.stage)).map (fun j => j.1)
    match hit with
    | none => s.reportTransient 1 e
    | some key =>
      let s := (s.wrN PNT_REPLAYS (s.rdN PNT_REPLAYS + 1)).raise EV_PNT_REPLAY
      let s := if late || (kind = .uncorrectable && s.inBuffer e key word) then
          let s := match s.job key with
            | some x => s.setJob key { x with lineLost := true, returns := [], replays := x.replays + 1 }
            | none => s
          (s.wrN PNT_LINE_LOST (s.rdN PNT_LINE_LOST + 1)).raise EV_PNT_LINE_LOST
        else match s.job key with
          | some x => s.setJob key { x with replays := x.replays + 1 }
          | none => s
      (s.reportTransient 1 e).reportReplays 1 e 1

/-! ### LINE packets (R188 to R190, R196) -/

/-- The channel word (R189). -/
def channelWord (l : HstLine) (x : ChanLine) (c : Nat) : Nat :=
  let fl := contextFlags l x
  c * 2 ^ 56 + statusOf x * 2 ^ 53 + x.returns.length * 2 ^ 50 + b2n x.uncal * 2 ^ 49 + b2n (fl.testBit 0) * 2 ^ 48
    + b2n (fl.testBit 6) * 2 ^ 47 + b2n x.cut * 2 ^ 46 + b2n x.kernelAbort * 2 ^ 45 + (min 127 (x.nC + x.nZ)) * 2 ^ 37
    + (min 127 x.lost) * 2 ^ 30 + (x.spads % 64) * 2 ^ 24 + (x.depth % 8) * 2 ^ 21 + min 65535 x.amb

/-- A channel's entry (R188). -/
def entryOf (l : HstLine) (x : ChanLine) (c : Nat) : List Byte :=
  let word := leBytes 8 (channelWord l x c)
  if l.get PNT_CHAIN_CFG_COLOUR = 1 then
    if x.returns.isEmpty then word ++ leBytes 8 (0xFFFFF * 2 ^ 44) ++ leBytes 8 x.colour
    else word ++ x.returns.flatMap (fun e => leBytes 8 e.1 ++ leBytes 8 e.2)
  else word ++ x.returns.flatMap (fun e => leBytes 8 e.1)

/-- The body of the LINE packet of `seg` channels from `first` (R196). -/
def lineBody (l : HstLine) (jobs : List (Nat × ChanLine)) (first seg : Nat) : List Byte :=
  let flags := l.throttle * 16 + 8 * b2n l.idle + 4 * b2n l.overrun + 2 * b2n l.lockLost
  timeBytes l.time ++ leBytes 1 first ++ leBytes 1 seg ++ leBytes 1 flags ++ leBytes 2 l.hstGen ++ leBytes 2 l.shtGen
    ++ jobs.flatMap (fun e => if first ≤ e.1 % 192 && e.1 % 192 < first + seg then entryOf l e.2 (e.1 % 192) else [])

/-- LINE_PACKET_ASSEMBLY (R196): the oldest line, when all its channel-lines are ready. -/
def State.assembleLine (s : State) : State :=
  match s.hst.lines with
  | [] => s
  | (seq, l) :: rest =>
    let jobs := s.hst.jobs.filter (fun (e : Nat × ChanLine) => e.1 / 192 = seq)
    if jobs.any (fun e => e.2.stage < 6) then s
    else
      let seg := max 1 (l.get PNT_PKT_CFG_SEGMENT)
      let colour := l.get PNT_CHAIN_CFG_COLOUR = 1
      let sent := !s.frozen && !(s.withheld && !s.bit SEC_KEY_STATUS 17)
      let s := (List.range (192 / seg)).foldl (fun s i =>
        s.sendPacket 0 0x02 (if colour then 64 else 0) l.frame l.line (lineBody l jobs (seg * i) seg)) s
      let odd := (jobs.filter (fun e => statusOf e.2 ≠ 0)).map (fun e => e.1 % 192)
      let count := jobs.foldl (fun a e => a + e.2.returns.length) 0
      let s := s.onFrame l.frame (fun a => { a with returns := a.returns + (if sent then count else 0),
                                                    notNormal := a.notNormal ++ odd.filter (fun c => !a.notNormal.contains c) })
      let dark := jobs.any (fun e => statusOf e.2 = 2 || statusOf e.2 = 3)
      { s with hst := { s.hst with lines := rest, jobs := s.hst.jobs.filter (fun (e : Nat × ChanLine) => e.1 / 192 ≠ seq),
                                   posted := s.hst.posted.filter (fun (r : ShotRec) => r.lineSeq ≠ seq) },
               grid := { s.grid with darkLast := dark } }

/-! ### Destinations (R199) -/

/-- The oldest packet waiting at a destination, and the packets without it. -/
def takePacket (d : Nat) : List (Nat × Packet) → Option (Packet × List (Nat × Packet))
  | [] => none
  | (e, p) :: t =>
    if e = d then some (p, t)
    else match takePacket d t with
      | some (q, r) => some (q, (e, p) :: r)
      | none => none

/-- Priority of a packet's kind on Ethernet (R433), by TYPE. -/
def State.pcpOf (s : State) (type : Nat) : Nat :=
  if type = 0x7F then s.fldF NET_VLAN_PCP_ALARM
  else if type = 0x02 then s.fldF NET_VLAN_PCP_LINE
  else if type = 0x01 || type = 0x03 then s.fldF NET_VLAN_PCP_FRAME
  else s.fldF NET_VLAN_PCP_IMAGE

/-- The lanes a packet takes among the transmitting lanes (R434): a LINE packet by its segment, an IMAGE_LINE packet by its colour
line, an ALARM on every lane, the others on the lowest. -/
def packetLanes (lanes : List Nat) (bytes : List Byte) : List Nat :=
  let type := (nth 0 bytes 5).toNat
  let n := max 1 lanes.length
  if type = 0x7F then lanes
  else
    let i := if type = 0x02 then (nth 0 bytes 41).toNat / max 1 (nth 0 bytes 42).toNat % n
      else if type = 0x10 then leNat ((bytes.drop 28).take 2) % n else 0
    (lanes.drop i).take 1

/-- A destination sends its next packet in SEQ order; a full buffer drops it unless room is reserved (R199, R433, R434). -/
def State.destinationSend (s : State) (d : Nat) (full : Bool) : State :=
  match takePacket d s.pnt.waiting with
  | none => s
  | some (p, rest) =>
    let s : State := { s with pnt := { s.pnt with waiting := rest } }
    if full && !p.reserved then s.packetDropped d p.bytes
    else if d < 2 then
      s.queueItem d (if d = 0 then s.fldF PNT_PKT_QUEUE_QUEUE_A else s.fldF PNT_PKT_QUEUE_QUEUE_B) 0 p.bytes
    else
      let up := (packetLanes s.net.lanes p.bytes).filter (fun n => s.bit NET_STATUS n)
      if up.isEmpty || !s.fitsMtu p.bytes.length then s.packetDropped d p.bytes
      else up.foldl (fun s n => s.sendEthernet n (s.pcpOf (nth 0 p.bytes 5).toNat) p.bytes) s

/-- An item that no descriptor carried is dropped by its producer (R199, R167, R319). -/
def State.itemDropped (s : State) (i : DmaItem) : State :=
  if i.producer = 0 then s.packetDropped i.port i.data
  else if i.producer = 1 then (s.wrN HST_TAP_DROP (s.rdN HST_TAP_DROP + 1)).raise EV_HST_TAP_DROP
  else s.exportFailed

/-- An item was delivered. -/
def State.itemDone (s : State) (i : DmaItem) : State := if i.producer = 2 then s.exportDone else s

/-! ### Writes (R200) -/

/-- A write of the PNT block. -/
def State.pntWrite (s : State) (off : Nat) (v : Word) : State :=
  if 0x280040 ≤ off && off ≤ 0x28004C then
    if s.running then s.refuse PNT_CFG_ERR EV_PNT_CFG_ERROR 1 (off - 0x280000)
    else
      let seg := v.toNat / 2 ^ 24
      if off = PNT_PKT_CFG && !([12, 24, 48, 96, 192].contains seg) then s.refuse PNT_CFG_ERR EV_PNT_CFG_ERROR 2 (off - 0x280000)
      else s.plainWrite off off v
  else s.plainWrite off off v

/-! ### The meanings -/

/-- POINT_CHAIN_RUN (R176). -/
def execPointChainRun (c : Fin 192) (k : KernelRun) (s : State) : Host.Outcome State Fault Refusal :=
  done (s.inCore (fun s => s.runChain c k))

/-- LOCAL_MEMORY_ERROR (R175). -/
def execLocalMemoryError (e : Fin 52) (c : Fin 192) (kind : MemError) (word : BitVec 14) (late : Bool) (s : State) :
    Host.Outcome State Fault Refusal :=
  done (s.inCore (fun s => s.memoryError e c kind word.toNat late))

/-- COLOUR_FUSION_JOIN (R240): what the customer kernel did on the channels named, at its hook after stage 7. -/
def execColourFusionJoin (runs : List (BitVec 8 × KernelRun)) (s : State) : Host.Outcome State Fault Refusal :=
  done (s.inCore (fun s => s.colourJoin runs))

/-- LINE_PACKET_ASSEMBLY (R196); `bad`: a return list fails its parity in its FIFO (R294). -/
def execLinePacketAssembly (bad : Bool) (s : State) : Host.Outcome State Fault Refusal :=
  done (s.inCore (fun s => (s.classParity 4 (bad && !s.hst.lines.isEmpty)).assembleLine))

/-- PACKET_DESTINATION_SEND (R199): destination 0 Port A, 1 Port B, 2 Ethernet; `full`: its buffer has no room. -/
def execPacketDestinationSend (d : Fin 3) (full : Bool) (s : State) : Host.Outcome State Fault Refusal :=
  done (s.inCore (fun s => s.destinationSend d full))

/-- PACKET_CONFIG_WRITE (R200): PNT_PKT_CFG, PNT_PKT_STREAM_ID, PNT_PKT_ROUTE or PNT_PKT_QUEUE. -/
def execPacketConfigWrite (p : Port) (r : Fin 4) (v : Word) (s : State) : Host.Outcome State Fault Refusal :=
  done (s.hostGate p (0x280040 + 4 * r.val) false (fun s => s.pntWrite (0x280040 + 4 * r.val) v))

end Sys2Proof.Machine
end

