-- ==== Sys2Proof/Machine/Security.lean ====
section
/-! DEFINITION. Security, keys and laser interlocks (15_security_safety.md): key registers and operations, locks, tamper
sources and responses, the red card, the interlock, the pin readbacks, and JTAG. -/

namespace Sys2Proof.Machine

/-! ### Keys (R341 to R345) -/

/-- A slot ends at 0, not valid, with nothing pending (R342 ZERO, R348, R349). Slot 2 unloads the kernel (R341, R186); the
serve code loses its key at once (R344). -/
def State.zeroKey (s : State) (slot : Nat) : State :=
  let s : State := { s with sec := { s.sec with keys := tabErase s.sec.keys slot, pendingKeys := tabErase s.sec.pendingKeys slot } }
  let s := ((s.setBit SEC_KEY_STATUS slot false).setBit SEC_KEY_STATUS (16 + slot) false).wrN (SEC_KEY_KCV slot) 0
  let s := if slot = 0 then { s with sht := { s.sht with serveKey := [] } } else s
  if slot = 2 then s.kernelUnload else s

/-- The pending serve-code key takes effect at a frame start, and the sequencer takes the key in force (R82, R344). -/
def State.takeServeKey (s : State) : State :=
  let s := if s.bit SEC_KEY_STATUS 16 then
      let k := tabGet [] s.sec.pendingKeys 0
      let s : State := { s with sec := { s.sec with pendingKeys := tabErase s.sec.pendingKeys 0 } }
      (s.setKey 0 k).setBit SEC_KEY_STATUS 16 false
    else s
  { s with sht := { s.sht with serveKey := s.key 0 } }

/-- A key command fails: the code in ERROR, SEC_KEY_ERROR, and no slot changes (R343). SEC_KEY_DATA ends at 0 (R342). -/
def State.keyFail (s : State) (code : Nat) : State :=
  let s : State := { s with sec := { s.sec with keyData := [], busyOp := s.sec.busyOp.map (fun (o : KeyOp) => { o with passed := true }) } }
  let s := s.setFld SEC_KEY_STATUS_ERROR code
  { s.raise EV_SEC_KEY_ERROR with refused := some (BitVec.ofNat 32 code) }

/-- The code a key command is refused with at its write, 0 where it starts (R342, R343). `host`: from a host port. -/
def State.keyCmdCode (s : State) (op slot : Nat) (host : Bool) : Nat :=
  if s.flag SEC_KEY_STATUS_BUSY then 7
  else if op = 3 then 9
  else if host && slot = 3 then 5
  else if op ≠ 2 && s.emt.redCard then 8
  else if op = 0 && slot ≤ 1 && s.flag SEC_CFG_PLAIN_OFF then 1
  else if op = 0 && slot = 2 && s.flag SEC_CFG_KKEY_LOCK then 4
  else if op = 1 && (2 ≤ slot || !s.keyValid 3) then 3
  else 0

/-- SEC_KEY_DATA as a byte string of `n` words. -/
def State.keyMaterial (s : State) (n : Nat) : List Byte :=
  wordsToBytes ((List.range n).map (fun w => tabGet 0 s.sec.keyData w))

/-- A write of SEC_KEY_CMD (R342, R343). While an image stands refused under R338, no key operation is possible (R339). -/
def State.keyCmd (s : State) (op slot : Nat) (host : Bool) : State :=
  if s.fld SEC_BOOT_RESULT ≠ 0 && !s.fwRuns then s.ignore
  else
    let c := s.keyCmdCode op slot host
    if c ≠ 0 then s.keyFail c
    else if op = 2 then
      let s := (s.zeroKey slot).setFld SEC_KEY_STATUS_ERROR 0
      { s with sec := { s.sec with keyData := [] } }
    else
      let n := if op = 1 then 10 else if slot = 2 then 24 else 8
      let m := s.keyMaterial n
      let s : State := { s with sec := { s.sec with keyData := [], busyOp := some ⟨op, slot, m, s.now, false⟩ } }
      s.setFlag SEC_KEY_STATUS_BUSY true

/-! ### Tamper (R346 to R349) -/

/-- The response level of a source (R347). -/
def State.respLevel (s : State) (src : Nat) : Nat := s.fld ⟨SEC_RESP, 2 * src + 1, 2 * src⟩

/-- An entry of the tamper log and the source's count (R347, R488). -/
def State.tamperLog (s : State) (src level detail : Nat) : State :=
  let n := s.fld SEC_TLOG_HEAD_NEXT
  let total := s.fld SEC_TLOG_HEAD_TOTAL
  let s := s.wrN (SEC_TLOG n 0) (total * 65536 + level * 256 + src)
  let s := (s.wrN (SEC_TLOG n 1) (s.ns % 2 ^ 32)).wrN (SEC_TLOG n 2) (s.ns / 2 ^ 32)
  let s := s.wrN (SEC_TLOG n 3) detail
  let s := (s.setFld SEC_TLOG_HEAD_NEXT (n + 1)).setFld SEC_TLOG_HEAD_TOTAL (total + 1)
  s.bump (SEC_TCOUNT_V src) 1

/-- The red card (R349). -/
def State.redCard (s : State) (src : Nat) : State :=
  let s : State := { s with emt := { s.emt with redCard := true } }
  let s := s.setFlag SEC_STATUS_RED_CARD true
  let s := s.laneResetAll
  let s := (s.raise EV_SEC_RED_CARD).raise EV_SEC_TAMPER
  -- the frame closes at the decision (R86), and its FRAME_END goes out where no LINE packet of it is still to come (R197)
  let s := if s.pwr.coreInReset then s else s.settleChain.tryFrameEnd
  let s := s.alarmPacket 2 EV_SEC_RED_CARD src
  let s : State := { s with sec := { s.sec with busyOp := none, keyData := [], idKey := 0 } }
  let s := loop 4 (fun k s => s.zeroKey k) s
  let s := s.setFlag SEC_KEY_STATUS_BUSY false
  let s := s.setFlag SEC_STATUS_ID_VALID false
  let s := loop 24 (fun w s => s.wr (SEC_ID_PUB w) 0) s
  let s := s.kernelUnload
  -- an alarm received from a sibling is never passed on (R347; log entry 124)
  if src = 6 then s else s.chainAlarmSend 2 src

/-- The response to sources of one instant (R347, R348): each logged in order of SRC, then the highest level carried out
once. A tamper that arrives while a red card stands is logged only. -/
def State.tamperAll (s : State) (l : List (Nat × Nat)) : State :=
  let standing := s.emt.redCard
  let s := l.foldl (fun s e => s.tamperLog e.1 (s.respLevel e.1) e.2) s
  if standing then s
  else
    let worst := l.foldl (fun (m : Nat × Nat) e => if m.1 < s.respLevel e.1 then (s.respLevel e.1, e.1) else m) (0, 0)
    if 2 ≤ worst.1 then
      if s.pwr.emissionInReset then { s with pwr := { s.pwr with redAtRelease := some (s.pwr.redAtRelease.getD worst.2) } } else s.redCard worst.2
    else if worst.1 = 1 then
      let s := (s.raise EV_SEC_TAMPER).alarmPacket 1 EV_SEC_TAMPER worst.2
      if worst.2 = 6 then s else s.chainAlarmSend 1 worst.2
    else s

/-- One occurrence of a source (R346). -/
def State.tamper (s : State) (src detail : Nat) : State := s.tamperAll [(src, detail)]

/-- An occurrence of a source that then stands: it is not reported again until it has cleared for 1 ms (R346). -/
def State.tamperStanding (s : State) (src detail : Nat) : State :=
  if s.sec.standing.contains src then s
  else (({ s with sec := { s.sec with standing := s.sec.standing ++ [src] } }) : State).tamper src detail

/-! ### Completing a key operation (R342, R343) -/

/-- The last instant at which a key operation completes, in ticks after its command (R342): 2 µs for LOAD and 10 µs for UNWRAP. -/
def keyOpTicks (op : Nat) : Nat := if op = 1 then 2560000 else 512000

/-- ERROR after an operation that ends with `code` (R343): a command refused meanwhile is the last one written, and its code stays. -/
def State.keyResult (s : State) (o : KeyOp) (code : Nat) : State :=
  if o.passed then s else s.setFld SEC_KEY_STATUS_ERROR code

/-- A LOAD or UNWRAP completes, at the latest instant that R342 allows it. -/
def State.keyOpDone (s : State) : State :=
  match s.sec.busyOp with
  | none => s
  | some o =>
    let s := s.advance (o.start + keyOpTicks o.op)
    let s : State := { s with sec := { s.sec with busyOp := none } }
    let s := s.setFlag SEC_KEY_STATUS_BUSY false
    let result : Option (List Byte) := if o.op = 1 then keyUnwrap (s.key 3) o.material else some o.material
    match result with
    | none => ((s.keyResult o 2).raise EV_SEC_KEY_ERROR).tamper 8 o.slot
    | some k =>
      if o.slot = 2 && !onCurve (beNat (k.take 48), beNat (k.drop 48)) then (s.keyResult o 6).raise EV_SEC_KEY_ERROR
      else
        let s := (s.keyResult o 0).raise EV_SEC_KEY_LOADED
        if o.slot = 2 then (s.setKey 2 k).kernelUnload
        else if o.slot = 3 then s.setKey 3 k
        else
          let s : State := { s with sec := { s.sec with pendingKeys := tabPut s.sec.pendingKeys o.slot k } }
          (s.setBit SEC_KEY_STATUS (16 + o.slot) true)

/-! ### Writes of the SEC block (R345, R347, R351, R354, R356) -/

/-- SEC_RESP (R347): a level of 3 is ignored as a whole; once RESP_LOCK is set only raises take effect. Answers whether a field
was left unchanged by the lock. -/
def State.respWrite (s : State) (v : Word) : State × Bool :=
  if (List.range 9).any (fun k => (v.toNat / 4 ^ k) % 4 = 3) then (s.ignore, false)
  else
    let lock := s.flag SEC_CFG_RESP_LOCK
    let kept := lock && (List.range 9).any (fun k => decide ((v.toNat / 4 ^ k) % 4 < s.respLevel k))
    (loop 9 (fun k s =>
      let x := (v.toNat / 4 ^ k) % 4
      if lock && x < s.respLevel k then s else s.setFld ⟨SEC_RESP, 2 * k + 1, 2 * k⟩ x) s, kept)

/-- SEC_CFG: write-1 locks, shown in SEC_STATUS (R345). -/
def State.locksWrite (s : State) (v : Word) : State :=
  let s := s.plainWrite SEC_CFG SEC_CFG v
  ((s.setFlag SEC_STATUS_PLAIN_OFF (s.flag SEC_CFG_PLAIN_OFF)).setFlag SEC_STATUS_KKEY_LOCK (s.flag SEC_CFG_KKEY_LOCK)).setFlag
    SEC_STATUS_RESP_LOCK (s.flag SEC_CFG_RESP_LOCK)

/-- SEC_ILK.CLEAR (R351): while the lands are complementary. -/
def State.ilkClear (s : State) : State :=
  if s.sec.ilkA ≠ s.sec.ilkB then { s with sec := { s.sec with discrepancy := false } } else s.ignore

/-- SEC_PIN_CLEAR (R354): only while both lands match. -/
def State.pinClear (s : State) : State :=
  if s.landsMatch then { s with sec := { s.sec with pinMismatch := false } } else s.ignore

/-- A write of the SEC block; `host`: from a host port (R343 0x5). -/
def State.secWrite (s : State) (off : Nat) (v : Word) (host : Bool) : State :=
  if off = SEC_CFG then s.locksWrite v
  else if off = SEC_RESP then (s.respWrite v).1
  else if off = SEC_KEY_CMD then s.keyCmd (v.toNat / 2 ^ 30) (v.toNat % 4) host
  else if SEC_KEY_DATA 0 ≤ off && off < SEC_KEY_DATA 24 then
    { s with sec := { s.sec with keyData := tabSet 0 s.sec.keyData ((off - SEC_KEY_DATA 0) / 4) v } }
  else if off = SEC_ILK then (if v.toNat % 2 = 1 then s.ilkClear else s)
  else if off = SEC_ILK_CFG then (if v.toNat % 16384 = 0 then s.ignore else s.plainWrite off off v)
  else if off = SEC_PIN_CLEAR then (if v.toNat % 2 = 1 then s.pinClear else s)
  else if off = SEC_FW_MIN_SVN then (if s.sec.minSvnClosed then s.ignore else s.plainWrite off off v)
  else s.plainWrite off off v

/-! ### The meanings -/

/-- A write of a security register by a host port, or by Priard (none) while it runs. -/
def State.secBy (s : State) (by_ : Option Port) (off : Nat) (f : State → State) : State :=
  match by_ with
  | none => if s.fwRuns && !s.pwr.coreInReset then f s else s
  | some p => s.hostGate p off true f

/-- KEY_LOAD_OPERATION (R342): a write of SEC_KEY_CMD with OP LOAD. -/
def execKeyLoadOperation (by_ : Option Port) (slot : Fin 4) (s : State) : Host.Outcome State Fault Refusal :=
  done (s.secBy by_ SEC_KEY_CMD (fun s => s.keyCmd 0 slot by_.isSome))

/-- KEY_UNWRAP_OPERATION (R342). -/
def execKeyUnwrapOperation (by_ : Option Port) (slot : Fin 4) (s : State) : Host.Outcome State Fault Refusal :=
  done (s.secBy by_ SEC_KEY_CMD (fun s => s.keyCmd 1 slot by_.isSome))

/-- KEY_ZERO_OPERATION (R342, R344). -/
def execKeyZeroOperation (by_ : Option Port) (slot : Fin 4) (s : State) : Host.Outcome State Fault Refusal :=
  done (s.secBy by_ SEC_KEY_CMD (fun s => s.keyCmd 2 slot by_.isSome))

/-- KEY_OP_INVALID (R342): OP 3 is refused with ERROR 0x9. -/
def execKeyOpInvalid (by_ : Option Port) (slot : Fin 4) (s : State) : Host.Outcome State Fault Refusal :=
  done (s.secBy by_ SEC_KEY_CMD (fun s => s.keyCmd 3 slot by_.isSome))

/-- KEY_OPERATION_DONE (R342, R343, R344). -/
def execKeyOperationDone (s : State) : Host.Outcome State Fault Refusal :=
  done (if s.pwr.coreInReset then s else s.keyOpDone)

/-- SEC_CFG_PLAIN_OFF (R345). -/
def execSecCfgPlainOff (by_ : Option Port) (s : State) : Host.Outcome State Fault Refusal :=
  done (s.secBy by_ SEC_CFG (fun s => s.locksWrite 1))

/-- SEC_CFG_KKEY_LOCK (R345). -/
def execSecCfgKkeyLock (by_ : Option Port) (s : State) : Host.Outcome State Fault Refusal :=
  done (s.secBy by_ SEC_CFG (fun s => s.locksWrite 2))

/-- SEC_CFG_RESP_LOCK (R347). -/
def execSecCfgRespLock (by_ : Option Port) (s : State) : Host.Outcome State Fault Refusal :=
  done (s.secBy by_ SEC_CFG (fun s => s.locksWrite 4))

/-- SEC_RESP_WRITE (R347). -/
def execSecRespWrite (by_ : Option Port) (v : BitVec 18) (s : State) : Host.Outcome State Fault Refusal :=
  done (s.secBy by_ SEC_RESP (fun s => (s.respWrite (v.setWidth 32)).1))

/-- MESH_MISMATCH (R346, R488): bit `n` of the 1 Mb/s mesh pattern, counted from the arming of the detector, and the bit before it, as
driven and as read. Two bits in a row that differ report MESH at the instant of bit `n`. -/
def execMeshMismatch (n : Nat) (driven read : BitVec 2) (s : State) : Host.Outcome State Fault Refusal :=
  done (if s.pwr.coreInReset then s
    else
      let s := s.advance (s.sec.meshAt + 256000 * n)
      if driven ^^^ read = 3 then s.tamperStanding 0 (n % 2 ^ 32) else s)

/-- CASE_OPEN (R346): TAMP_CASE_N, high from tick `t` on, has been high for 1 ms. -/
def execCaseOpen (t : Nat) (s : State) : Host.Outcome State Fault Refusal :=
  let s := s.advance (t + 256000000)
  let s : State := { s with sec := { s.sec with caseHigh := some t } }
  done (if s.pwr.coreInReset then s else s.tamperStanding 1 0)

/-- The glitch detectors are armed from the THM release on, and disarmed while a reset or power-down sequence runs (R346, R449). -/
def State.glitchArmed (s : State) : Bool := decide (s.pwr.seq = 3 || s.pwr.seq = 4)

/-- VOLTAGE_GLITCH (R346, R451): VCORE and VIO in mV from tick `t` on for `dur` ticks; `failed`: for how many ticks after `t` a rail stays
failed. A voltage outside its window for at least 5 ns is a report. While a rail is failed the report is held: a rail that stays failed
for 1 µs has the power-fail decided and the report dropped, and one that recovers before lets it out then. -/
def execVoltageGlitch (t dur failed : Nat) (vcore vio : BitVec 12) (s : State) : Host.Outcome State Fault Refusal :=
  let core := decide (vcore.toNat < 600) || decide (950 < vcore.toNat)
  let io := decide (vio.toNat < 1450) || decide (2150 < vio.toNat)
  let s := s.advance (t + max 1280 (min failed 256000))
  done (if !s.glitchArmed || s.pwr.coreInReset || decide (dur < 1280) || decide (256000 ≤ failed) || (!core && !io) then s
    else s.tamperStanding 2 (2 * b2n io + b2n core))

/-- CLOCK_GLITCH (R346): a period of the 100 MHz reference in ticks, which ends at tick `t`; none: at `t` no edge has come for 40 ns. -/
def execClockGlitch (t : Nat) (period : Option Nat) (s : State) : Host.Outcome State Fault Refusal :=
  let s := s.advance t
  let detail := match period with
    | none => 4
    | some p => 2 * b2n (decide (3200 < p)) + b2n (decide (p < 1920))
  done (if !s.glitchArmed || s.pwr.coreInReset || detail = 0 then s else s.tamperStanding 3 detail)

/-- TAMPER_SOURCE_CLEARED (R346): the source's condition ended at tick `t` and has not come back for 1 ms. -/
def execTamperSourceCleared (src : Fin 9) (t : Nat) (s : State) : Host.Outcome State Fault Refusal :=
  let s := s.advance (t + 256000000)
  done { s with sec := { s.sec with standing := s.sec.standing.filter (fun (x : Nat) => x ≠ src.val),
                                    caseHigh := if src.val = 1 then none else s.sec.caseHigh } }

/-- Since when the lands permit, and since when they agree, from levels that stand since tick `t` (R351). -/
def State.ilkLands (s : State) (t : Nat) (a b : Bool) : State :=
  { s with sec := { s.sec with ilkA := a, ilkB := b, permitting := s.sec.permitting && a && !b,
                               ilkSince := if a && !b then some (s.sec.ilkSince.getD t) else none,
                               agreeSince := if a = b then some (s.sec.agreeSince.getD t) else none } }

/-- INTERLOCK_INPUT_CHANGE (R351): the lands' levels from tick `t` on. A change of a land towards not permitting acts after the glitch filter
of 100 ns, and is a command only where it lasts that long; one towards permitting waits for HOLD. -/
def execInterlockInputChange (t : Nat) (a b : Bool) (s : State) : Host.Outcome State Fault Refusal :=
  let away := (s.sec.ilkA && !a) || (!s.sec.ilkB && b)
  done ((s.advance (if away then t + 25600 else t)).ilkLands t a b)

/-- INTERLOCK_HOLD_EXPIRY (R351): the lands have permitted for HOLD, in 0.1 ms. -/
def execInterlockHoldExpiry (s : State) : Host.Outcome State Fault Refusal :=
  done (match s.sec.ilkSince with
    | some t =>
      if s.pwr.coreInReset then s
      else
        let s := s.advance (t + 25600000 * s.fld SEC_ILK_CFG_HOLD)
        { s with sec := { s.sec with permitting := true } }
    | none => s)

/-- INTERLOCK_DISCREPANCY (R351): the lands have agreed for more than 1 ms. -/
def execInterlockDiscrepancy (s : State) : Host.Outcome State Fault Refusal :=
  done (match s.sec.agreeSince with
    | some t =>
      if s.pwr.coreInReset || s.sec.discrepancy then s
      else
        let s := s.advance (t + 256000001)
        (({ s with sec := { s.sec with discrepancy := true } } : State)).raise EV_ILK_DISCREPANCY
    | none => s)

/-- DISCREPANCY_CLEAR (R351). -/
def execDiscrepancyClear (by_ : Option Port) (s : State) : Host.Outcome State Fault Refusal :=
  done (s.secBy by_ SEC_ILK State.ilkClear)

/-- PIN_MISMATCH (R354): from tick `t` on a land is held at a level from outside. Where it differs from its drive, the latch sets once it has
differed for more than 2 µs. -/
def execPinMismatch (t : Nat) (emitAct level : Bool) (s : State) : Host.Outcome State Fault Refusal :=
  let s := s.advance t
  let s := (if emitAct then { s with sec := { s.sec with emitHeld := some level } }
    else { s with sec := { s.sec with faultHeld := some level } } : State)
  done (if s.pwr.coreInReset || s.sec.pinMismatch then s
    else
      let s := s.settleFault
      match if emitAct then s.sec.emitDiffers else s.sec.faultDiffers with
      | none => s
      | some d =>
        let s := s.advance (d + 512001)
        let s : State := { s with sec := { s.sec with pinMismatch := true } }
        (s.setFlag EMT_ARM_ARM false).raise EV_SEC_PIN_MISMATCH)

/-- PIN_MISMATCH_CLEAR (R354): `released`: the lands are no longer held from outside. -/
def execPinMismatchClear (by_ : Option Port) (released : Bool) (s : State) : Host.Outcome State Fault Refusal :=
  let s := if released then { s with sec := { s.sec with emitHeld := none, faultHeld := none } } else s
  done (s.secBy by_ SEC_PIN_CLEAR State.pinClear)

/-- JTAG_INSTRUCTION_LOAD (R355): EXTEST, CLAMP and HIGHZ are refused while a key slot is valid or a run is active. -/
def execJtagInstructionLoad (i : JtagInstr) (code : BitVec 8) (s : State) : Host.Outcome State Fault Refusal :=
  let guarded := i = .extest || i = .clamp || i = .highz
  let busy := s.fld SEC_KEY_STATUS_VALID ≠ 0 || s.flag EMT_CHAIN_RUN
  done (if guarded && busy then
      (({ s with sec := { s.sec with jtag := .bypass } } : State)).tamper 5 code.toNat
    else { s with sec := { s.sec with jtag := i } })

end Sys2Proof.Machine
end

