-- ==== Sys2Proof/Machine/HostPorts.lean ====
section
/-! DEFINITION. Host ports, possession, DMA and events (16_host_ports.md). The dispatch of host reads and writes over the blocks
stands in HostAccess.lean. -/

namespace Sys2Proof.Machine

/-- A port's last read answers a value. -/
def State.answer (s : State) (p : Nat) (c : Completion) : State := s.setPort p { s.port p with answer := c }

/-! ### Possession (R364, R365) -/

/-- A group becomes the port's, or free. -/
def State.setHolder (s : State) (g : Nat) (h : Option Nat) : State :=
  s.wrN (POS_PEEK g) (match h with | some p => 2 ^ 30 + p * 2 ^ 24 | none => 0)

/-- A read of POS_GRP[g] by port `p` (R364). -/
def State.acquire (s : State) (p g : Nat) : State :=
  match s.holder g with
  | none => (s.setHolder g (some p)).answer p (.data (BitVec.ofNat 32 (2 ^ 30 + p * 2 ^ 24)))
  | some h =>
    if h = p then s.answer p (.data (BitVec.ofNat 32 (2 ^ 30 + 2 ^ 29 + p * 2 ^ 24)))
    else s.answer p (.data (BitVec.ofNat 32 (2 ^ 31 + h * 2 ^ 24)))

/-- Both ports read POS_GRP[g] in one arbiter cycle (R364): of a free group the port named by POS_TIE.NEXT wins, and NEXT
toggles. -/
def State.acquireTie (s : State) (g : Nat) : State :=
  let w := s.fld POS_TIE_NEXT
  let tie := (s.holder g).isNone
  let s := (s.acquire w g).acquire (1 - w) g
  if tie then s.setFld POS_TIE_NEXT (1 - w) else s

/-- A write of POS_GRP[g].RELEASE (R365). -/
def State.release (s : State) (p g : Nat) : State := if s.holder g = some p then s.setHolder g none else s

/-- Groups a port holds, one bit each (R378 POS_OWN). -/
def State.heldBy (s : State) (p : Nat) : Nat :=
  (List.range 16).foldl (fun acc g => if s.holder g = some p then acc + 2 ^ g else acc) 0

/-! ### Mailboxes cleared by a reset (R386) -/

/-- INFO of a mailbox event (R404). -/
def mbxInfo (tag p k : Nat) (inbound : Bool) : Nat := tag * 65536 + p * 256 + 16 * b2n inbound + k

/-- An outbound mailbox is cleared by its receiver's reset: FULL 0, STATUS ABORTED, MBX_ABORTED (R386). -/
def State.abortOb (s : State) (p k : Nat) : State :=
  let full := s.flag (MBX_OB_STATUS_FULL p k)
  if full || s.fw.unanswered.contains (4 * p + k) then
    let tag := s.fld (MBX_OB_STATUS_TAG p k)
    let s := (s.setFlag (MBX_OB_STATUS_FULL p k) false).setFld (MBX_OB_STATUS_STATUS p k) 4
    let s : State := { s with fw := { s.fw with unanswered := s.fw.unanswered.erase (4 * p + k), stamps := tabErase s.fw.stamps (4 * p + k),
                                                longs := s.fw.longs.map (fun (l : LongCmd) => if l.port = p && l.mbx = k then { l with orphan := true } else l) } }
    s.raiseInfo EV_MBX_ABORTED (mbxInfo tag p k false)
  else s

/-- An inbound mailbox is cleared: its message is discarded (R386). -/
def State.abortIb (s : State) (p k : Nat) : State :=
  if s.flag (MBX_IB_STATUS_FULL p k) then
    let tag := s.fld (MBX_IB_STATUS_TAG p k)
    (s.setFlag (MBX_IB_STATUS_FULL p k) false).raiseInfo EV_MBX_ABORTED (mbxInfo tag p k true)
  else s

/-- A port reset clears all 8 mailboxes of the port (R386). -/
def State.clearMailboxes (s : State) (p : Nat) : State := loop 4 (fun k s => (s.abortOb p k).abortIb p k) s

/-! ### Port reset (R359) -/

/-- What a reset of a port does to its own state (R359, steps 1 to 5). An item whose transfer was in flight is dropped by its producer. -/
def State.portClear (s : State) (p : Nat) : State :=
  let held := s.heldBy p
  let s := loop 16 (fun g s => s.release p g) s
  let s := if held = 0 then s else s.raiseInfo EV_POS_LOST (p * 65536 + held)
  let s := s.dropRegs (bank p + 0x30000) (bank p + 0x38000)
  let lost := s.dma.busy.filter (fun (e : Nat × DmaBusy) => e.1 / 32 = p)
  let s : State := { s with dma := { s.dma with busy := s.dma.busy.filter (fun (e : Nat × DmaBusy) => e.1 / 32 ≠ p),
                                                resetWaiting := s.dma.resetWaiting.filter (fun (q : Nat) => q / 32 ≠ p),
                                                consuming := s.dma.consuming.filter (fun (q : Nat) => q / 32 ≠ p) } }
  let s := lost.foldl (fun s e => s.itemDropped e.2.item) s
  let s := s.dropRegs (bank p + 0x40000) (bank p + 0x60000)
  let s := s.dropRegs (bank p + 0x3F00000) (bank p + 0x3F02000)
  let s := s.setPort p { s.port p with latches := [], statSel := none, adcSel := none, lostPending := false, entries := [] }
  s.clearMailboxes p

/-- The cause code of PORT_DOWN (R381). -/
def causeCode : PortCause → Nat
  | .flr => 1
  | .linkDown => 2
  | .perst => 3
  | .d3hot => 4

/-- A cause of a port reset stands (R359). -/
def State.portCause (s : State) (p : Nat) (c : PortCause) : State :=
  match c with
  | .flr => s
  | .linkDown => s.setPort p { s.port p with linkDown := true }
  | .perst => s.setPort p { s.port p with perstLow := true }
  | .d3hot => s.setPort p { s.port p with d3hot := true }

/-- A port reset (R359): one that arrives while the port is down joins the reset in progress. -/
def State.portReset (s : State) (p : Nat) (c : PortCause) : State :=
  let s := s.portCause p c
  if s.portInReset p || (s.port p).down then s
  else
    let s := s.portClear p
    let s := s.setPort p { s.port p with down := true, resetUntil := s.now + 2560000 }
    s.raiseInfo EV_PORT_DOWN (2 * causeCode c + p)

/-- Every reset cause of a port has ended and its link is up in D0 (R359). -/
def State.portUp (s : State) (p : Nat) : State :=
  if s.portInReset p || !(s.port p).down || (s.port p).perstLow then s
  else
    let s := s.advance (s.port p).resetUntil
    let s := s.setPort p { s.port p with down := false, linkDown := false, d3hot := false }
    s.raiseInfo EV_PORT_UP p

/-! ### DMA (R367 to R372) -/

/-- A queue's number of descriptors (R367). -/
def State.queueSize (s : State) (p q : Nat) : Nat := 2 ^ s.fld (DMA_Q_CFG_LOG2_SIZE p q)

/-- A queue enters the ERROR state at a descriptor (R371). -/
def State.queueError (s : State) (p q index status ev : Nat) : State :=
  let s := (s.setFld (DMA_Q_STATUS_STATE p q) 2).setFld (DMA_Q_STATUS_LAST_STATUS p q) status
  (s.setFld (DMA_Q_STATUS_ERR_INDEX p q) index).raiseInfo ev (q * 65536 + index)

/-- The completion word of a descriptor is written, HEAD advances, and the vector is sent on request (R368, R369). -/
def State.completeDesc (s : State) (p q status bytes : Nat) (irq : Bool) : State :=
  let head := s.fld (DMA_Q_HEAD_V p q)
  let base := s.rdN (DMA_Q_BASE_HI p q) * 2 ^ 32 + s.rdN (DMA_Q_BASE_LO p q)
  let w := 2 ^ 31 + status * 2 ^ 27 + bytes
  let s : State := { s with host := s.host ++ [HostMsg.write p (base + 16 * head + 12) (leBytes 4 w)] }
  let s := (s.setFld (DMA_Q_HEAD_V p q) ((head + 1) % s.queueSize p q)).setFld (DMA_Q_STATUS_LAST_STATUS p q) status
  if irq then s.sendVector p (s.fld (DMA_Q_CFG_VECTOR p q)) else s

/-- A queue has an item in progress (R369, R372). -/
def State.queueBusy (s : State) (p q : Nat) : Bool :=
  (s.dma.busy.find? (fun (e : Nat × DmaBusy) => e.1 = 32 * p + q)).isSome || s.dma.consuming.contains (32 * p + q)

/-- A queue that can give a descriptor: enabled, not in ERROR, not empty, no item in progress (R369, R371). -/
def State.queueOpen (s : State) (p q : Nat) : Bool :=
  !s.portSilent (portOf p) && s.fld (DMA_Q_STATUS_STATE p q) = 1 && s.flag (DMA_Q_CTRL_ENABLE p q)
    && s.fld (DMA_Q_HEAD_V p q) ≠ s.fld (DMA_Q_TAIL_V p q) && !s.queueBusy p q

/-- A descriptor as the queue reads it (R368): address, LENGTH, IRQ, and whether it is well-formed (R371). -/
def readDesc (d : BitVec 128) : Nat × Nat × Bool × Bool :=
  let n := d.toNat
  let w := (n / 2 ^ 64) % 2 ^ 32
  let len := w % 2 ^ 24
  (n % 2 ^ 64, len, w.testBit 24, decide (w / 2 ^ 25 = 0) && decide (len ≠ 0) && decide (n / 2 ^ 96 = 0))

/-- A descriptor that R371 calls an error is completed DESC_ERROR. -/
def State.badDesc (s : State) (p q : Nat) (irq : Bool) : State :=
  let idx := s.fld (DMA_Q_HEAD_V p q)
  (s.completeDesc p q 3 0 irq).queueError p q idx 3 EV_DMA_DESC_ERROR

/-- The oldest item waiting for a queue, and the items without it. -/
def takeItem (p q : Nat) : List DmaItem → Option (DmaItem × List DmaItem)
  | [] => none
  | i :: t =>
    if i.port = p && i.queue = q then some (i, t)
    else match takeItem p q t with
      | some (j, r) => some (j, i :: r)
      | none => none

/-- A producer's item takes the next descriptor of its queue, or is dropped and counted (R370, R371). -/
def State.itemReady (s : State) (p q : Nat) (d : BitVec 128) : State :=
  match takeItem p q s.dma.ready with
  | none => s
  | some (item, rest) =>
    if s.queueBusy p q then s
    else
      let s : State := { s with dma := { s.dma with ready := rest } }
      if !s.queueOpen p q || s.flag (DMA_Q_CFG_DIR p q) then
        (s.wrN (DMA_Q_MISS p q) (s.rdN (DMA_Q_MISS p q) + 1)).itemDropped item
      else
        let (addr, len, irq, ok) := readDesc d
        if !ok then (s.badDesc p q irq).itemDropped item
        else { s with dma := { s.dma with busy := tabPut s.dma.busy (32 * p + q) ⟨item, addr, len, irq⟩ } }

/-- The RESET of a queue (R372). -/
def State.queueReset (s : State) (p q : Nat) : State :=
  let s := (s.setFld (DMA_Q_HEAD_V p q) 0).setFld (DMA_Q_TAIL_V p q) 0
  (s.setFlag (DMA_Q_CTRL_ENABLE p q) false).setFld (DMA_Q_STATUS_STATE p q) 0

/-- The item in progress of a queue has completed (R372): a waiting RESET follows it, and a queue whose ENABLE has been cleared stops. -/
def State.afterItem (s : State) (p q : Nat) : State :=
  if s.dma.resetWaiting.contains (32 * p + q) then
    ({ s with dma := { s.dma with resetWaiting := s.dma.resetWaiting.erase (32 * p + q) } } : State).queueReset p q
  else if s.fld (DMA_Q_STATUS_STATE p q) = 1 && !s.flag (DMA_Q_CTRL_ENABLE p q) then s.setFld (DMA_Q_STATUS_STATE p q) 0
  else s

/-- A descriptor's transfer ends (R369, R370, R371). -/
def State.descComplete (s : State) (p q : Nat) (hostError : Bool) : State :=
  match s.dma.busy.find? (fun (e : Nat × DmaBusy) => e.1 = 32 * p + q) with
  | none => s
  | some (_, b) =>
    let s : State := { s with dma := { s.dma with busy := tabErase s.dma.busy (32 * p + q) } }
    let idx := s.fld (DMA_Q_HEAD_V p q)
    let s :=
      if hostError then ((s.completeDesc p q 4 0 b.irq).queueError p q idx 4 EV_DMA_HOST_ERROR).itemDropped b.item
      else if b.length < b.item.data.length then (s.completeDesc p q 1 0 b.irq).itemDropped b.item
      else
        let s : State := { s with host := s.host ++ [HostMsg.write p b.addr b.item.data] }
        (s.completeDesc p q 0 b.item.data.length b.irq).itemDone b.item
    s.afterItem p q

/-- A consumer that holds a descriptor ends it (R370, R371); status 4: a PCIe error ended its transfer. After a reset of the port nothing is
written (R359). -/
def State.consumerDone (s : State) (p q status bytes : Nat) (irq : Bool) : State :=
  if !s.dma.consuming.contains (32 * p + q) then s
  else
    let s : State := { s with dma := { s.dma with consuming := s.dma.consuming.erase (32 * p + q) } }
    let idx := s.fld (DMA_Q_HEAD_V p q)
    let s := s.completeDesc p q status bytes irq
    (if status = 4 then s.queueError p q idx 4 EV_DMA_HOST_ERROR else s).afterItem p q

/-- A consumer takes one descriptor of a host-to-device queue (R370): answers whether one was there and well-formed, its LENGTH
and IRQ. -/
def State.consumerDesc (s : State) (p q : Nat) (d : BitVec 128) : State × Option (Nat × Bool) :=
  if !s.queueOpen p q || !s.flag (DMA_Q_CFG_DIR p q) then (s, none)
  else
    let (_, len, irq, ok) := readDesc d
    if !ok then (s.badDesc p q irq, none) else (s, some (len, irq))

/-- A write of DMA_Q_TAIL[q] (R369). -/
def State.tailWrite (s : State) (p q : Nat) (v : Word) : State :=
  let t := v.toNat % 65536
  if s.queueSize p q ≤ t then s.raiseInfo EV_DMA_DESC_ERROR (q * 65536 + t) else s.setFld (DMA_Q_TAIL_V p q) t

/-- A write of DMA_Q_CTRL[q] (R372). -/
def State.queueCtrl (s : State) (p q : Nat) (v : Word) : State :=
  if v.toNat.testBit 2 then
    if s.queueBusy p q then
      let s : State := { s with dma := { s.dma with resetWaiting := s.dma.resetWaiting ++ [32 * p + q] } }
      s.setFld (DMA_Q_STATUS_STATE p q) 3
    else s.queueReset p q
  else
    let on := v.toNat.testBit 0
    let s := s.setFlag (DMA_Q_CTRL_ENABLE p q) on
    if 2 ≤ s.fld (DMA_Q_STATUS_STATE p q) || (!on && s.queueBusy p q) then s else s.setFld (DMA_Q_STATUS_STATE p q) (b2n on)

/-- A write of a port's own DMA bank (R367, R372, R379); `o` the offset from the bank's start. -/
def State.dmaWrite (s : State) (p o : Nat) (v : Word) : State :=
  if o < 0x100 || 0x500 ≤ o then s
  else
    let q := (o - 0x100) / 32
    let r := (o - 0x100) % 32
    let k := bank p + 0x30000 + o
    if r = 0x10 then s.tailWrite p q v
    else if r = 0xC then s.queueCtrl p q v
    else if r = 8 then
      if s.flag (DMA_Q_CTRL_ENABLE p q) then s
      else
        let n := v.toNat % 32
        let old := s.fld (DMA_Q_CFG_LOG2_SIZE p q)
        (s.plainWrite k (0x30000 + o) v).setFld (DMA_Q_CFG_LOG2_SIZE p q) (if n < 4 || 16 < n then old else n)
    else if r = 0 || r = 4 then (if s.flag (DMA_Q_CTRL_ENABLE p q) then s else s.plainWrite k (0x30000 + o) v)
    else s

/-! ### Events (R375 to R377) -/

/-- Arm every enabled group (R376). -/
def State.armGroups (s : State) (p : Nat) : State :=
  loop 11 (fun i s => if s.flag (EVT_GRP_VEC_EN p i) then s.setFlag ⟨EVT_GRP_VEC p i, 31, 31⟩ true else s) s

/-- A write of EVT_RING_CFG (R375, R380). -/
def State.ringCfg (s : State) (p : Nat) (v : Word) : State :=
  let was := s.flag (EVT_RING_CFG_ENABLE p)
  let on := v.toNat.testBit 31
  let n := v.toNat % 16
  let s := if was || n < 8 then s else s.setFld (EVT_RING_CFG_LOG2_ENTRIES p) n
  let s := s.setFlag (EVT_RING_CFG_ENABLE p) on
  if on && !was then
    let s := s.setPort p { s.port p with entries := [] }
    let s := (s.wrN (EVT_WR p) 0x10000).wrN (EVT_RD p) 0
    (s.wrN (EVT_SEQ p) 0).armGroups p
  else s

/-- The groups of the entries between the new EVT_RD and EVT_WR. -/
def State.pendingGroups (s : State) (p rd : Nat) : List Nat :=
  let n := (s.fld (EVT_WR_INDEX p) + ringSize s p - rd) % ringSize s p
  let l := (s.port p).entries
  l.drop (l.length - n)

/-- A write of EVT_RD (R376): entries are freed, every enabled group is armed again, and the vector of each group with an entry
still waiting is sent at once. -/
def State.readIndexWrite (s : State) (p : Nat) (v : Word) : State :=
  let rd := v.toNat % 65536
  let gs := s.pendingGroups p (rd % ringSize s p)
  let s := s.setPort p { s.port p with entries := gs }
  let s := (s.wrN (EVT_RD p) rd).armGroups p
  loop 11 (fun j s =>
    let i := 10 - j
    if gs.contains i && s.flag (EVT_GRP_VEC_EN p i) then
      (s.setFlag ⟨EVT_GRP_VEC p i, 31, 31⟩ false).sendVector p (s.fld (EVT_GRP_VEC_VECTOR p i))
    else s) s

/-- A write of a port's own EVT bank (R375 to R377, R380). -/
def State.evtWrite (s : State) (p o : Nat) (v : Word) : State :=
  let k := bank p + 0x40000 + o
  if o = 8 then s.ringCfg p v
  else if o = 0xC then s.readIndexWrite p v
  else if o = 0x1C then s.logOn p (v.toNat % 256) 0xFFFFFFFF
  else if o < 8 then (if s.flag (EVT_RING_CFG_ENABLE p) then s else s.plainWrite k (0x40000 + o) v)
  else s.plainWrite k (0x40000 + o) v

/-- A write of the port's own MSI-X table (R360): a vector whose mask clears while pending is sent. -/
def State.msixWrite (s : State) (p o : Nat) (v : Word) : State :=
  let s := s.plainWrite (bank p + 0x3F00000 + o) (0x3F00000 + o) v
  let vec := o / 16
  if o % 16 = 12 && v.toNat % 2 = 0 && s.bit (bank p + 0x3F01000 + 4 * (vec / 32)) (vec % 32) then
    (s.setBit (bank p + 0x3F01000 + 4 * (vec / 32)) (vec % 32) false).sendVector p vec
  else s

/-! ### The meanings -/

/-- MALFORMED_ACCESS (R360): a read is answered Unsupported Request, a write dropped; POS_ACC_ERR counts either. -/
def execMalformedAccess (p : Port) (write : Bool) (s : State) : Host.Outcome State Fault Refusal :=
  let s := if write then s else s.answer (pix p) .unsupported
  done (if s.portSilent p || s.pwr.coreInReset then s
    else s.bump (match p with | .a => POS_ACC_ERR_PORT_A | .b => POS_ACC_ERR_PORT_B) 1)

/-- POSSESSION_ACQUIRE (R364): a read of POS_GRP[g] by one port, or by both in one arbiter cycle. -/
def execPossessionAcquire (who : WhichPorts) (g : Fin 16) (s : State) : Host.Outcome State Fault Refusal :=
  done (match who with
    | .one p =>
      if s.portSilent p then s.answer (pix p) .unsupported
      else if s.pwr.coreInReset then s.answer (pix p) (.data 0) else s.acquire (pix p) g
    | .both => if s.portSilent .a || s.portSilent .b || s.pwr.coreInReset then s else s.acquireTie g)

/-- POSSESSION_RELEASE (R365). -/
def execPossessionRelease (p : Port) (g : Fin 16) (s : State) : Host.Outcome State Fault Refusal :=
  done (s.hostGate p (POS_GRP g) false (fun s => s.release (pix p) g))

/-- PORT_RESET (R359). -/
def execPortReset (p : Port) (c : PortCause) (s : State) : Host.Outcome State Fault Refusal := done (s.portReset (pix p) c)

/-- PORT_UP (R359). -/
def execPortUp (p : Port) (s : State) : Host.Outcome State Fault Refusal := done (s.portUp (pix p))

/-- BAR2_WRITE (R363): Port A writes field memory or LPDDR5X; protected regions raise BLOCKED_WRITE with reason 3. -/
def execBar2Write (off : BitVec 34) (bytes : List Byte) (s : State) : Host.Outcome State Fault Refusal :=
  let o := off.toNat
  done (if s.portSilent .a || s.pwr.coreInReset then s
    else if o < 0x4000000 || (0x100000000 ≤ o && o < 0x300000000) then
      if 0x100000000 ≤ o && !s.pwr.ddrReady then s
      else if s.bar2Protected o then s.blockWrite .a 3 (o / 256)
      else
        let bytes := bytes.take (min 512 ((if o < 0x4000000 then 0x4000000 else 0x300000000) - o))
        { s with mem := memWriteBytes s.mem o bytes,
                    poison := s.poison.filter (fun (w : Nat) => 8 * w < o || o + bytes.length < 8 * w + 8) }
    else s)

/-- DMA_TAIL_WRITE (R369). -/
def execDmaTailWrite (p : Port) (q : Fin 32) (v : BitVec 16) (s : State) : Host.Outcome State Fault Refusal :=
  done (if s.portSilent p then s else s.tailWrite (pix p) q (v.setWidth 32))

/-- DMA_DESCRIPTOR_COMPLETE (R369, R371): `hostError`: a PCIe error ended the transfer. -/
def execDmaDescriptorComplete (p : Port) (q : Fin 32) (hostError : Bool) (s : State) : Host.Outcome State Fault Refusal :=
  done (s.descComplete (pix p) q hostError)

/-- DMA_ITEM_READY (R370): the descriptor at HEAD is what the host placed there. -/
def execDmaItemReady (p : Port) (q : Fin 32) (desc : BitVec 128) (s : State) : Host.Outcome State Fault Refusal :=
  done (s.itemReady (pix p) q desc)

/-- DMA_QUEUE_ENABLE (R372). -/
def execDmaQueueEnable (p : Port) (q : Fin 32) (s : State) : Host.Outcome State Fault Refusal :=
  done (if s.portSilent p then s else s.queueCtrl (pix p) q 1)

/-- DMA_QUEUE_DISABLE (R372). -/
def execDmaQueueDisable (p : Port) (q : Fin 32) (s : State) : Host.Outcome State Fault Refusal :=
  done (if s.portSilent p then s else s.queueCtrl (pix p) q 0)

/-- DMA_QUEUE_RESET (R372). -/
def execDmaQueueReset (p : Port) (q : Fin 32) (s : State) : Host.Outcome State Fault Refusal :=
  done (if s.portSilent p then s else s.queueCtrl (pix p) q 4)

/-- EVENT_RING_ENABLE (R375): EVT_RING_CFG written with ENABLE = 1 and the LOG2_ENTRIES given. -/
def execEventRingEnable (p : Port) (log2 : BitVec 4) (s : State) : Host.Outcome State Fault Refusal :=
  done (if s.portSilent p then s else s.ringCfg (pix p) (BitVec.ofNat 32 (2 ^ 31 + log2.toNat)))

/-- EVENT_READ_INDEX_WRITE (R376). -/
def execEventReadIndexWrite (p : Port) (v : BitVec 16) (s : State) : Host.Outcome State Fault Refusal :=
  done (if s.portSilent p then s else s.readIndexWrite (pix p) (v.setWidth 32))

/-- EVENT_TEST (R377): the source is raised on the writing port only. -/
def execEventTest (p : Port) (src : BitVec 8) (s : State) : Host.Outcome State Fault Refusal :=
  done (if s.portSilent p then s else s.logOn (pix p) src.toNat 0xFFFFFFFF)

/-- EVENT_MASK_WRITE (R469): the new mask decides from then on. -/
def execEventMaskWrite (p : Port) (w : Fin 8) (v : Word) (s : State) : Host.Outcome State Fault Refusal :=
  done (if s.portSilent p then s else s.wr (EVT_MASK (pix p) w) v)

end Sys2Proof.Machine
end

