-- ==== Sys2Proof/Machine/CalTransfer.lean ====
section
/-! DEFINITION. The reading of a calibration record from a host-to-device queue (R320, R370). -/

namespace Sys2Proof.Machine

/-- The record is read from the next descriptor of the queue of CAL_XFER and checked (R320). `read` is what the transfer brings;
none: a PCIe error ended it (R371). -/
def State.importRead (s : State) (d : BitVec 128) (read : Option (List Byte)) : State :=
  if !s.cal.importAsked then s
  else
    let p := s.fld CAL_XFER_PORT
    let q := s.fld CAL_XFER_QUEUE
    match s.consumerDesc p q d with
    | (s, none) => s.importRefused 0x02 0
    | (s, some (len, irq)) =>
      match read with
      | none =>
        let idx := s.fld (DMA_Q_HEAD_V p q)
        ((s.completeDesc p q 4 0 irq).queueError p q idx 4 EV_DMA_HOST_ERROR).importRefused 0x02 0
      | some bytes =>
        let r := bytesToWords recordWords bytes
        let (code, detail) := if len ≠ 4 * recordWords then (0x02, 0) else s.recordCode r
        if code ≠ 0 then (s.completeDesc p q 2 0 irq).importRefused code detail
        else
          let s := s.completeDesc p q 0 len irq
          { s with cal := { s.cal with importAsked := false, accepted := some r } }

/-- CAL_IMPORT_START (R320): a write of 1 to CAL_CTRL.IMPORT by a host (`by_`), or none where the write came through Priard; the
device reads the descriptor `d` and its record. -/
def execCalImportStart (by_ : Option Port) (d : BitVec 128) (read : Option (List Byte)) (s : State) :
    Host.Outcome State Fault Refusal :=
  let s := match by_ with
    | some p => s.hostGate p CAL_CTRL false (fun s => s.calWrite CAL_CTRL 2)
    | none => s
  done (s.inCore (fun s => s.importRead d read))

end Sys2Proof.Machine
end

