-- ==== Sys2Proof/Machine/Control.lean ====
section
/-! DEFINITION. Control engine and scanner drive (02_control_engine.md): loop slots, the control law, the set-point limiter, the
repetitive controller, the encoder, scanner lock, and the writes of the CTL block. -/

namespace Sys2Proof.Machine

/-- PLANT code of a slot (R39, R487). -/
def State.plant (s : State) (n : Nat) : Nat := s.fld (CTL_SLOT_CFG_PLANT n)

/-- PLANT codes permitted for a slot (R487). -/
def plantPermitted (n p : Nat) : Bool :=
  if n ≤ 2 then p = 0 || p = 1
  else if n = 3 then p = 0 || p = 2
  else if n = 4 then p = 0 || p = 3
  else if n = 5 then p = 0 || p = 4
  else p = 0 || p = 1 || p = 3 || p = 5

/-- Evaluations per second a slot commits (R40). Slot 3 counts the whole number of PWM periods in a second: DESIGN CHOICE (log entry 125),
the spec states no rounding where PERIOD does not divide it. -/
def slotLoad (plant rate period n : Nat) : Nat :=
  if plant = 0 then 0
  else if n = 3 then 2 * (100000000 / max period 1)
  else if n = 5 then 8 * (rate * 1000)
  else rate * 1000

/-- The committed load (R40). -/
def State.committedLoad (s : State) : Nat :=
  loop 8 (fun n acc => acc + slotLoad (s.plant n) (s.fld (CTL_SLOT_CFG_RATE n)) (s.fld CTL_PWM_CFG_PERIOD) n) 0

/-- CTL_COEF_LOCKED or CTL_CFG_ERROR with CTL_EVT_INFO (R46, R47, R65). -/
def State.ctlRefuse (s : State) (ev off slot : Nat) : State :=
  let w := (off % 65536) * 65536 + slot % 256
  ((s.wrN CTL_EVT_INFO w).raiseInfo ev w).ignore

/-- What a plant's output follows while its principal slot is open (R44). -/
def State.openOutput (s : State) (n : Nat) (p : PlantState) : Int :=
  if p.forced0 then 0
  else
    match s.fld (CTL_SLOT_CFG_OPEN_ACTION n) with
    | 1 => 0
    | 2 => s.fldI (CTL_MANUAL_V n)
    | _ => p.held

/-- The polygon plant's output, the q-axis current command (R43, R44). -/
def State.polyOut (s : State) : Int := if (s.slot 0).closed then s.ctl.poly.out else s.openOutput 0 s.ctl.poly

/-- The cooler plant's output (R43, R44). -/
def State.coolOut (s : State) : Int := if (s.slot 4).closed then s.ctl.cool.out else s.openOutput 4 s.ctl.cool

/-- Slot 3's outputs, q and d axis; while it is open they follow its OPEN_ACTION (R44; log entry 126). -/
def State.motorOut (s : State) : Int × Int :=
  if (s.slot 3).closed then (s.ctl.outQ, s.ctl.outD)
  else
    match s.fld (CTL_SLOT_CFG_OPEN_ACTION 3) with
    | 1 => (0, 0)
    | 2 => (s.fldI (CTL_MANUAL_V 3), 0)
    | _ => (s.ctl.outQ, s.ctl.outD)

/-- A principal slot opens: HOLD keeps the plant's present output, and the plant follows the slot's OPEN_ACTION from now on (R44). -/
def State.openPlant (s : State) (n : Nat) (p : PlantState) : PlantState :=
  let p := { p with held := p.out }
  { p with out := s.openOutput n p, slewing := false }

/-- Open a slot at once (R44); opening slot 0 or 3 removes scanner lock (R47, R57). The lamps of slot 5 have close bits of their own. -/
def State.openSlot (s : State) (n : Nat) : State :=
  let l := s.slot n
  let s := s.setFlag (CTL_SLOT_CTRL_CLOSE n) false
  let s := if n = 5 then s else s.setBit CTL_STATUS (8 + n) false
  let s := if l.closed then
      let s := s.setSlot n { l with closed := false, preload := false }
      if n = 0 then
        ({ s with ctl := { s.ctl with poly := s.openPlant 0 s.ctl.poly } } : State).setFlag CTL_STATUS_SLEWING false
      else if n = 4 then { s with ctl := { s.ctl with cool := s.openPlant 4 s.ctl.cool } }
      else s
    else s
  let s := if n = 0 then { s with ctl := { s.ctl with lockStreak := 0, phaseValid := false, rcOk := false } } else s
  if n = 0 || n = 3 then s.loseLock else s

/-- Slots 0 to 3 open (R54, R55). -/
def State.openPolygon (s : State) : State := ((((s.openSlot 0).openSlot 1).openSlot 2).openSlot 3)

/-- An encoder fault (R55): the phase outputs go low, slots 0 to 3 open, lock is lost and learning stops. -/
def State.encoderFault (s : State) : State :=
  let s := s.setFlag CTL_STATUS_ENC_FAULT true
  let s : State := { s with ctl := { s.ctl with phasesLow := true, revClean := false, rcOk := false } }
  let s := s.openPolygon
  (s.setFlag CTL_STATUS_RC_LEARNING false).raise EV_CTL_ENC_FAULT

/-- The status bit of the feed-forward source (R53). -/
def State.showFallback (s : State) : State :=
  s.setFlag CTL_STATUS_FALLBACK (s.ctl.fallback || !s.flag CTL_RC_CFG_ENABLE)

/-- A write of CTL_SLOT_CTRL[n] (R44, R45, R47, R57). -/
def State.slotCtrlWrite (s : State) (n : Nat) (v : Word) : State :=
  let mode := (v.toNat / 2) % 4
  let close := v.toNat % 2 = 1
  if (n = 0 && 2 ≤ mode) || (n ≠ 0 && mode ≠ 0) then s.ctlRefuse EV_CTL_CFG_ERROR (0x1000 + n * 0x80) n
  else
    let old := s.fld (CTL_SLOT_CTRL_MODE n)
    let s := s.setFld (CTL_SLOT_CTRL_MODE n) mode
    let s := if mode = old then s else
      let s := s.setSlot n { s.slot n with preload := true }
      let s : State := { s with ctl := { s.ctl with lockStreak := 0 } }
      if mode = 0 then s.loseLock
      else { s with ctl := { s.ctl with phaseValid := false } }
    if !close then s.openSlot n
    else if s.plant n = 0 then s
    else s.setFlag (CTL_SLOT_CTRL_CLOSE n) true

/-- The slots a coefficient belongs to, by block offset (R46): lowest and highest; none where the register is no coefficient. -/
def coefSlots (o : Nat) : Option (Nat × Nat) :=
  if o = 0x20 || o = 0x24 || o = 0x40 || o = 0x44 || o = 0x48 || (0x2000 ≤ o && o < 0x4800) then some (0, 0)
  else if o = 0x10 || o = 0x14 || o = 0x18 then some (0, 3)
  else if o = 0x1C then some (4, 4)
  else if 0x1000 ≤ o && o < 0x1400 then
    let r := (o - 0x1000) % 0x80
    let n := (o - 0x1000) / 0x80
    if 4 ≤ r && r ≤ 0x30 && r ≠ 0x24 then some (n, n) else none
  else none

/-- A slot counts as closed for its coefficients from the close write on (R46); slot 5 while any lamp loop is closed. -/
def State.coefClosed (s : State) (n : Nat) : Bool :=
  if n = 5 then s.rdN CTL_FL_CLOSE ≠ 0 else s.flag (CTL_SLOT_CTRL_CLOSE n) || (s.slot n).closed

/-- The lowest closed slot of a span. -/
def State.lowestClosed (s : State) (lo hi : Nat) : Option Nat :=
  (List.range (hi + 1)).find? (fun n => lo ≤ n && s.coefClosed n)

/-- Values that R47 and R487 call illegal. -/
def illegalCoef (o : Nat) (v : Word) : Bool :=
  if o = 0x10 then
    let f := (v.toNat / 256) % 16
    f < 4 || 8 < f || v.toNat / 65536 < 256
  else if o = 0x14 then v.toNat / 65536 < 1000 || 5000 < v.toNat / 65536
  else if o = 0x40 then v.toNat / 2 ^ 30 = 3
  else if 0x1000 ≤ o && o < 0x1400 then
    let r := (o - 0x1000) % 0x80
    let n := (o - 0x1000) / 0x80
    let rate := (v.toNat / 65536) % 256
    let hi := signedN 16 (v.toNat / 65536)
    let lo := signedN 16 (v.toNat % 65536)
    if r = 4 then rate < 10 || 200 < rate || !plantPermitted n (v.toNat / 2 ^ 28)
    else if r = 0x1C then hi < lo || (n = 5 && lo < 0)
    else if r = 0x28 then hi < lo
    else false
  else false

/-- A coefficient write (R40, R46, R47, R53, R65): taken only while its slot is open, legal and within the load. -/
def State.coefWrite (s : State) (o : Nat) (v : Word) (lo hi : Nat) : State :=
  match s.lowestClosed lo hi with
  | some n => s.ctlRefuse EV_CTL_COEF_LOCKED o n
  | none =>
    if illegalCoef o v then s.ctlRefuse EV_CTL_CFG_ERROR o lo
    else
      let t := s.plainWrite (0x380000 + o) (0x380000 + o) v
      -- slot 5 has OPEN_ACTION fixed at 1 (R44)
      let t := if o = 0x1284 then t.setFld (CTL_SLOT_CFG_OPEN_ACTION 5) 1 else t
      let load := t.committedLoad
      if 4000000 < load && s.committedLoad < load then s.ctlRefuse EV_CTL_CFG_ERROR o lo
      else
        let t := t.setFld CTL_LOAD_V load
        if o = 0x40 then
          let on := t.flag CTL_RC_CFG_ENABLE
          let c := t.ctl
          let t := { t with ctl :=
                              if !on then { c with fallbackArmed := c.fallback, satStreak := 0 }
                              else if c.fallback && c.fallbackArmed then { c with fallback := false, fallbackArmed := false, satStreak := 0 }
                              else c }
          t.showFallback
        else t

/-- A write of CTL_SP[n] (R43, R49): accepted at any time, CTL_SP_CLAMP when it is clamped at once. -/
def State.setpointWrite (s : State) (n : Nat) (v : Word) : State :=
  let s := s.wrN (CTL_SP n) (v.toNat % 65536)
  let c := s.spClamped n
  let s := s.setSlot n { s.slot n with clamped := c }
  s.raiseIf c EV_CTL_SP_CLAMP

/-- A write of the CTL block (R46, R47, R49, R62, R63). -/
def State.ctlWrite (s : State) (off : Nat) (v : Word) : State :=
  let o := off - 0x380000
  match coefSlots o with
  | some (lo, hi) => if (accOf off).isSome then s.coefWrite o v lo hi else s
  | none =>
    if 0x1000 ≤ o && o < 0x1400 && (o - 0x1000) % 0x80 = 0 then s.slotCtrlWrite ((o - 0x1000) / 0x80) v
    else if 0x1000 ≤ o && o < 0x1400 && (o - 0x1000) % 0x80 = 0x24 then s.setpointWrite ((o - 0x1000) / 0x80) v
    else if o = 0x820 then
      -- a slot whose PLANT is 0 cannot be closed (R44, R487)
      let v := if s.plant 5 = 0 then 0 else v
      loop 8 (fun m s => if v.toNat.testBit m then s else s.openLamp m) (s.plainWrite off off v)
    else s.plainWrite off off v

/-! ### The set-point limiter (R48) -/

/-- How far a rate `x` still moves while it falls by `step` at every sample of length `dt`, down to 0 (R48). -/
def stopDistance (x step dt : Rat) : Rat :=
  let m : Rat := (x / step).floor
  let r := x - m * step
  (m * r + step * m * (m - 1) / 2) * dt

/-- One sample of the limiter: present value and rate in LSB and LSB/s, target, limits, and the sample rate in Hz. -/
def limiterStep (sp rate : Rat) (target : Int) (maxRate acc hz : Nat) : Rat × Rat :=
  let dist : Rat := (target : Rat) - sp
  let dt : Rat := 1 / (hz : Rat)
  if maxRate = 0 && acc = 0 then ((target : Rat), 0)
  else if acc = 0 then
    let r : Rat := maxRate
    let step := r * dt
    if dist ≤ step && -step ≤ dist then ((target : Rat), 0)
    else if 0 < dist then (sp + step, r) else (sp - step, -r)
  else
    -- the change of the rate in one sample
    let a : Rat := acc * dt
    let sgn : Rat := if dist < 0 then -1 else 1
    let d := dist * sgn
    let rt := rate * sgn
    let x0 := d / dt
    let cap (x : Rat) : Rat := if maxRate = 0 then x else max (min x maxRate) (rt - a)
    let fits (x : Rat) : Bool := decide (stopDistance x a dt ≤ d - x * dt)
    -- the target is reached with a rate that can end in the next sample
    if decide (x0 ≤ a) && decide (x0 - rt ≤ a) && decide (rt - x0 ≤ a) && (maxRate = 0 || decide (x0 ≤ maxRate)) then ((target : Rat), 0)
    else
      -- moving away from the target, the rate goes through zero towards it (R49)
      let x := if rt < 0 then cap (rt + a) else if fits (cap (rt + a)) then cap (rt + a) else if fits (cap rt) then cap rt else rt - a
      (sp + x * dt * sgn, x * sgn)

/-- The limiter's output as a Q1.15 number: DESIGN CHOICE (log entry 127), a fractional value is rounded down; the spec states no rounding. -/
def ratInt (x : Rat) : Int := x.floor

/-! ### The control law (R41, R42, R45) -/

/-- The coefficients of a slot, as the law reads them (R42). -/
structure Coefs where
  kp : Int
  ki : Int
  kd : Int
  kf : Int
  ilim : Int
  outMin : Int
  outMax : Int
  slew : Int
  gain : Int
  invert : Bool
  deriving DecidableEq, Repr

/-- The coefficients in the registers of a slot. -/
def State.coefs (s : State) (n : Nat) : Coefs :=
  { kp := s.fldI (CTL_KP_V n), ki := s.fldI (CTL_KI_V n), kd := s.fldI (CTL_KD_V n), kf := s.fldI (CTL_KF_V n),
    ilim := (s.fld (CTL_ILIM_V n) : Nat), outMin := s.fldI (CTL_OUT_LIM_OUT_MIN n), outMax := s.fldI (CTL_OUT_LIM_OUT_MAX n),
    slew := (s.fld (CTL_SLEW_V n) : Nat), gain := ((2 ^ s.fld (CTL_SLOT_CFG_SHIFT n) : Nat) : Int),
    invert := s.flag (CTL_SLOT_CFG_INVERT n) }

/-- One evaluation of the law: the state with the new error, sum and output, and the integrator the plant may take. DESIGN CHOICE (log
entry 128): a product beyond 40 bits saturates as a sum does (R41 speaks of sums), and at the first sample after a close y_prev is the
present y, so dy is 0 (R45 clears the derivative state and is silent on y_prev). -/
def lawStep (c : Coefs) (l : LoopState) (w y : Int) (tag : Bool) (ff outPrev : Int) : LoopState × Int :=
  let y := if tag then l.yGood else y
  let yPrev := if l.preload && !l.closed then y else l.yPrev
  let dPrev := if l.preload && !l.closed then 0 else l.d
  let e := if c.invert then satI 16 (y - w) else satI 16 (w - y)
  let dy := if c.invert then y - yPrev else yPrev - y
  let p := satI 40 (c.kp * c.gain * e)
  let d := satI 40 ((c.kf * dPrev).fdiv 32768 + c.kd * c.gain * dy)
  let lim := c.ilim * 32768
  let pre := clampI (satI 40 (outPrev * 32768 - (p + d + ff))) (-lim) lim
  let i := if l.preload then pre else clampI (satI 40 (l.i + c.ki * c.gain * e)) (-lim) lim
  let v := satI 40 (p + i + d + ff)
  let u := clampI ((v + 16384).fdiv 32768) c.outMin c.outMax
  ({ l with closed := true, preload := false, yPrev := y, yGood := y, err := e, i := if l.preload then pre else l.i, d := d,
            v := v, u := u, tagged := tag }, i)

/-- The integrator after the plant has formed its output (R42): held unless the slot wins without slewing, with an untagged
input and its sum within limits or driven back towards them. -/
def holdIntegrator (c : Coefs) (l : LoopState) (iNew : Int) (wins slewing : Bool) : LoopState :=
  let hold := !wins || slewing || l.tagged
    || (decide (l.v > c.outMax * 32768) && decide (l.err > 0))
    || (decide (l.v < c.outMin * 32768) && decide (l.err < 0))
  if hold then l else { l with i := iNew }

/-- An output moved towards its selection under the winner's slew limit; 0 means no limit (R42). -/
def slewTo (out sel slew : Int) : Int := if slew = 0 then sel else out + clampI (sel - out) (-slew) slew

/-- The slots that compete on the polygon plant (1) or the cooler plant (3) (R43). -/
def State.competitors (s : State) (plant : Nat) : List Nat :=
  (List.range 8).filter (fun n => s.plant n = plant && (s.slot n).closed
    && (if plant = 1 then n ≤ 2 || 6 ≤ n else n = 4 || 6 ≤ n))

/-- The winner among closed competitors: the lowest output, then the lowest slot (R43). -/
def State.winnerOf (s : State) : List Nat → Option Nat
  | [] => none
  | n :: t =>
    match s.winnerOf t with
    | none => some n
    | some m => if (s.slot n).u ≤ (s.slot m).u then some n else some m

/-- Form a plant's output from its closed slots, and let the integrators of the slots evaluated run or hold (R42, R43). -/
def State.formPlant (s : State) (code principal : Nat) (p : PlantState) (evaluated : List (Nat × Int)) : State × PlantState :=
  if (s.slot principal).closed then
    let comp := s.competitors code
    match s.winnerOf comp with
    | none => (s, p)
    | some w =>
      let sel := (s.slot w).u
      let out := slewTo p.out sel (s.coefs w).slew
      let s := s.raiseIf (w ≠ p.winner) EV_CTL_WINNER
      let s := evaluated.foldl (fun s e =>
        if comp.contains e.1 then
          s.setSlot e.1 (holdIntegrator (s.coefs e.1) (s.slot e.1) e.2 (e.1 = w) (out ≠ sel))
        else s) s
      (s, { p with out := out, winner := w, slewing := decide (out ≠ sel), forced0 := false })
  else
    (s, { p with out := s.openOutput principal p, slewing := false })

/-! ### The encoder angle, the phase (R55, R56) and the feed-forward (R50 to R53) -/

/-- Quadrature counts per revolution (R62). -/
def State.cpr (s : State) : Nat := 4 * s.fld CTL_ENC_CFG_CPR_DIV4

/-- The 16-bit mechanical angle (R50). -/
def State.theta (s : State) : Nat := ((s.ctl.count % (max 1 s.cpr : Nat)) * 65536 / (max 1 s.cpr : Nat)).toNat

/-- The measured facet phase, in facets since the last facet index (R56, R58). -/
def State.facetPhase (s : State) : Rat :=
  ((s.ctl.count - s.ctl.countAtFacet) * (max 1 (s.fld CTL_ENC_CFG_FACETS) : Nat) : Int) / ((max 1 s.cpr : Nat) : Rat)

/-- Wrap a phase to ±0.5 facet (R56). -/
def wrapHalf (x : Rat) : Rat := x - ((x + 1 / 2).floor : Rat)

/-- The facet rate of the limiter's output in facets per second. -/
def State.facetRate (s : State) : Rat := (s.slot 0).spNow / 1000

/-- Where the anchor places the facet phase now (R56): SOURCE 0 from device time, SOURCE 1 from the last FRAME_SYNC_IN edge; before
the first edge there is no anchor. -/
def State.anchorPhase (s : State) : Option Rat :=
  let off : Rat := (s.fld CTL_PHASE_REF_OFFSET : Nat) / 65536
  if s.flag CTL_PHASE_REF_SOURCE then
    s.ctl.fsyncT.map (fun t => (((s.now - t : Nat) : Rat) / 256000000000) * s.facetRate - off)
  else some (((s.devTime : Rat) / (2 ^ 48 * 1000000000)) * s.facetRate + off)

/-- The reference phase advances with sp_now and slides towards its anchor at no more than 1/1,024 facet per facet (R56). -/
def State.advancePhase (s : State) : State :=
  let dt : Rat := ((s.now - s.ctl.lastSampleT : Nat) : Rat) / 256000000000
  let moved := s.facetRate * dt
  let r := if s.ctl.phaseValid then s.ctl.refPhase + moved else s.facetPhase
  let want := match s.anchorPhase with
    | some a => wrapHalf (a - r)
    | none => 0
  let lim := (if moved < 0 then -moved else moved) / 1024
  let slide := if !s.ctl.phaseValid then 0 else if lim < want then lim else if want < -lim then -lim else want
  { s with ctl := { s.ctl with refPhase := wrapHalf (r + slide), phaseValid := true, lastSampleT := s.now } }

/-- The phase error, measured minus reference, in 1/32,768 facet (R39, R56). -/
def State.phaseError (s : State) : Int := satI 16 (wrapHalf (s.facetPhase - s.ctl.refPhase) * 32768).floor

/-- Cells of the repetitive controller (R50). -/
def State.rcCells (s : State) : Nat := 1024 * 2 ^ s.fld CTL_RC_CFG_CELLS

/-- The register and half of a 16-bit table entry, two per word (R52). -/
def halfFld (base i : Nat) : Fld := if i % 2 = 0 then ⟨base + 4 * (i / 2), 15, 0⟩ else ⟨base + 4 * (i / 2), 31, 16⟩

/-- The cell that the angle lies in (R50). -/
def State.rcCellNow (s : State) : Nat := s.theta * s.rcCells / 65536

/-- The feed-forward of slot 0 (R50, R53); with no valid angle it is 0. -/
def State.feedForward (s : State) : Int :=
  if !s.ctl.angleValid then 0
  else if s.flag CTL_RC_CFG_ENABLE && !s.ctl.fallback then
    s.fldI (halfFld (CTL_RC_TABLE 0) ((s.rcCellNow + s.fld CTL_RC_CFG_LEAD) % s.rcCells))
  else
    let p := s.theta / 128
    let sp := s.fldI CTL_SPEED_V
    let sign : Int := if sp.natAbs < 500 then 0 else if sp < 0 then -1 else 1
    s.fldI (halfFld (CTL_COG_TABLE 0) p) + sign * s.fldI (halfFld (CTL_FRIC_TABLE 0) p)

/-- The measured value and tag of a slot whose SOURCE selects it (R61). The slot's own sensor is an operand of the sample; a SOURCE outside
the table of R61 reads it too: DESIGN CHOICE (log entry 129). -/
def State.sourceValue (s : State) (src : Nat) (own : Int) (ownTag : Bool) : Int × Bool :=
  if 0x10 ≤ src && src ≤ 0x17 then
    (s.fldI (FLT_VALUE_VALUE (src - 0x10)), s.fld ⟨FLT_VALUE (src - 0x10), 31, 28⟩ ≠ 0)
  else if 0x20 ≤ src && src ≤ 0x3B then (s.fldI ⟨THM_TEMP (src - 0x20), 15, 0⟩, false)
  else (own, ownTag)

/-- The highest of the four detector thermometers (R39, slot 4). -/
def State.hottestDetector (s : State) : Int :=
  max (max (s.fldI ⟨THM_TEMP 24, 15, 0⟩) (s.fldI ⟨THM_TEMP 25, 15, 0⟩)) (max (s.fldI ⟨THM_TEMP 26, 15, 0⟩) (s.fldI ⟨THM_TEMP 27, 15, 0⟩))

/-- Sample rate of a slot in Hz (R39): slot 3 at the PWM frequency. -/
def State.slotHz (s : State) (n : Nat) : Nat :=
  if n = 3 then 100000000 / max 1 (s.fld CTL_PWM_CFG_PERIOD) else 1000 * max 1 (s.fld (CTL_SLOT_CFG_RATE n))

/-- Show a law's integrator in CTL_INTEG[n] (R63). -/
def State.showInteg (s : State) (n : Nat) (l : LoopState) : State :=
  s.setFldI (CTL_INTEG_V n) (satI 16 ((l.i + 16384).fdiv 32768))

/-- Show a law's output, measured value and set-point in the registers of slot `n` (R63). -/
def State.showLoop (s : State) (n : Nat) (l : LoopState) (meas : Int) : State :=
  ((s.setFldI (CTL_OUT_V n) l.u).setFldI (CTL_MEAS_V n) meas).setFldI (CTL_SP_NOW_V n) (ratInt l.spNow)

/-- Show a slot's evaluation in its registers and in CTL_STATUS (R62, R63). -/
def State.showSlot (s : State) (n : Nat) (meas : Int) : State :=
  let l := s.slot n
  let c := s.coefs n
  let s := s.showLoop n l meas
  let s := s.setBit CTL_STATUS (16 + n) (l.u = c.outMax || l.u = c.outMin)
  s.setBit CTL_STATUS (8 + n) true

/-- Evaluate slot `n` (not 3 or 5) on a measured value: the integrator it may take is answered beside the state. -/
def State.evalSlot (s : State) (n : Nat) (w y : Int) (tag : Bool) (ff outPrev : Int) : State × Int :=
  let (l, i) := lawStep (s.coefs n) (s.slot n) w y tag ff outPrev
  let s := s.setSlot n l
  (s.showSlot n y, i)

/-- The slot is closed or closes at this sample (R44). -/
def State.closesNow (s : State) (n : Nat) : Bool :=
  s.plant n ≠ 0 && (s.flag (CTL_SLOT_CTRL_CLOSE n) || (s.slot n).closed)

/-- The limiter of a slot moves once per sample (R48). -/
def State.limitSlot (s : State) (n : Nat) : State :=
  let l := s.slot n
  let (sp, r) := limiterStep l.spNow l.spRate (s.spFollow n) (s.fld (CTL_SP_RATE_V n)) (s.fld (CTL_SP_ACC_V n)) (s.slotHz n)
  (s.setSlot n { l with spNow := sp, spRate := r }).setFldI (CTL_SP_NOW_V n) (ratInt sp)

/-- A close that this sample carries out preloads the integrator (R45). -/
def State.markClose (s : State) (n : Nat) : State :=
  let l := s.slot n
  if l.closed then s else s.setSlot n { l with preload := true }

/-- Learning sums (R51): the error of slot 0 while the angle stays in its cell, and whether every sample qualified; a sample at which slot 0
is open does not. -/
def State.rcAccumulate (s : State) (tag : Bool) : State :=
  let ok := (s.slot 0).closed && s.fld (CTL_SLOT_CTRL_MODE 0) = 1 && s.ctl.poly.winner = 0 && s.flag CTL_STATUS_LOCK
    && !s.ctl.poly.slewing && (s.slot 0).spNow = (s.spTarget 0 : Rat) && !tag
  let s := s.setFlag CTL_STATUS_RC_LEARNING (ok && s.flag CTL_RC_CFG_ENABLE)
  if s.rcCellNow = s.ctl.rcCell then
    { s with ctl := { s.ctl with rcSum := s.ctl.rcSum + (if (s.slot 0).closed then (s.slot 0).err else 0), rcCount := s.ctl.rcCount + 1,
                                 rcOk := s.ctl.rcOk && ok } }
  else s

/-- The unlock criterion of R57 at a slot-0 sample. -/
def State.unlockCheck (s : State) (err : Int) : State :=
  let bad := decide ((4 * s.fld CTL_LOCK_CFG_LOCK_WIN : Nat) < err.natAbs)
  let n := if bad then s.ctl.unlockStreak + 1 else 0
  let s : State := { s with ctl := { s.ctl with unlockStreak := n } }
  if bad && s.fld CTL_LOCK_CFG_UNLOCK_COUNT ≤ n then s.loseLock else s

/-- The slots of the polygon, the cooler and the GPIO pins at a sample: own sensors by slot, and the
tags of the own sensors (R42). -/
def State.samplePoly (s : State) (due : BitVec 8) (own : List Int) (tags : BitVec 8) : State × List (Nat × Int) :=
  [0, 1, 2, 4, 6, 7].foldl (fun (acc : State × List (Nat × Int)) n =>
    let s := acc.1
    let s := if n = 0 && due.getLsbD 0 then s.setFldI CTL_SPEED_V (nth 0 own 0) else s
    let s := if due.getLsbD n && s.plant n ≠ 0 then s.limitSlot n else s
    if !due.getLsbD n || !s.closesNow n then (s, acc.2)
    else
      let s := s.markClose n
      let w := ratInt (s.slot n).spNow
      let src := s.fld (CTL_SLOT_CFG_SOURCE n)
      let o := nth 0 own n
      let (y, tag) := if n = 4 && src = 0 then (s.hottestDetector, false) else s.sourceValue src o (tags.getLsbD n)
      if n = 0 then
        let phase := s.fld (CTL_SLOT_CTRL_MODE 0) = 1
        let s := if phase then s.advancePhase else { s with ctl := { s.ctl with lastSampleT := s.now } }
        let pe := s.phaseError
        let s := if phase then s.setFldI CTL_PHASE_ERR_V pe else s
        let ff := s.feedForward * 32768
        let r := if phase then s.evalSlot 0 0 pe (tags.getLsbD 0) ff s.ctl.poly.out
          else s.evalSlot 0 w y tag ff s.ctl.poly.out
        (if phase then r.1.unlockCheck pe else r.1, acc.2 ++ [(0, r.2)])
      else
        let outPrev := if s.plant n = 1 then s.ctl.poly.out else if s.plant n = 3 then s.ctl.cool.out else tabGet 0 s.ctl.gpio n
        let r := s.evalSlot n w y tag 0 outPrev
        (r.1, acc.2 ++ [(n, r.2)])) (s, [])

/-! ### The motor (R54) -/

/-- The order of the phases by on-time, longest first, ties to the lower phase. -/
def phaseOrder (d : List Nat) : Nat × Nat × Nat :=
  let u := nth 0 d 0
  let v := nth 0 d 1
  let w := nth 0 d 2
  if v ≤ u then (if w ≤ v then (0, 1, 2) else if w ≤ u then (0, 2, 1) else (2, 0, 1))
  else (if w ≤ u then (1, 0, 2) else if w ≤ v then (1, 2, 0) else (2, 1, 0))

/-- The currents of phases U and V from the two samples of P49 in a PWM period (R54), as fractions of full scale. P49 is offset binary
(R480). PRESUMED (log entry 130): the first sample stands while only the phase of the longest on-time is high and shows its current,
the second while only the phase of the shortest is low and shows that current reversed; the three currents add up to 0. -/
def phaseCurrents (duty : List Nat) (a b : BitVec 14) : Int × Int :=
  let first : Int := 4 * ((a.toNat : Int) - 8192)
  let last : Int := -(4 * ((b.toNat : Int) - 8192))
  let i := fun (k : Nat) =>
    let o := phaseOrder duty
    if k = o.1 then first else if k = o.2.2 then last else -(first + last)
  (i 0, i 1)

/-- The d- and q-axis currents of phase currents U and V at an electrical angle (R54; log entry 130). -/
def axisCurrents (u v : Int) (theta : Nat) : Int × Int :=
  let (c, s) := cosSin theta
  -- 18,919 / 32,768 is 1 / √3
  let beta := roundDiv ((u + 2 * v) * 18919) 32768
  (satI 16 (roundDiv (u * c + beta * s) 32768), satI 16 (roundDiv (beta * c - u * s) 32768))

/-- On-times of P46, P47, P48 in a PWM period of `period` cycles for d- and q-axis voltages (R54; log entry 130). -/
def phaseDuties (d q : Int) (theta period : Nat) : List Nat :=
  let (c, s) := cosSin theta
  let alpha := roundDiv (d * c - q * s) 32768
  let beta := roundDiv (d * s + q * c) 32768
  -- 28,378 / 32,768 is √3 / 2
  let side := roundDiv (beta * 28378) 32768
  let half := roundDiv alpha 2
  [alpha, -half + side, -half - side].map (fun v =>
    (clampI (roundDiv ((32768 + v) * (period : Int)) 65536) 0 period).toNat)

/-- The electrical angle, in 1/65,536 of a turn (R54). -/
def State.electricalAngle (s : State) : Nat := s.theta * s.fld CTL_ENC_CFG_POLE_PAIRS % 65536

/-- Slot 3 (R43, R54): the q axis takes the slewed polygon output as its set-point, the d axis 0, and the outputs set the on-times of the three
phases. A motor trip ends when slot 3 is closed again (R55). -/
def State.sampleMotor (s : State) (a b : BitVec 14) (tag : Bool) : State :=
  if !s.closesNow 3 then s
  else
    let fresh := !(s.slot 3).closed
    let s := s.markClose 3
    let s := if fresh then (s.setFlag CTL_STATUS_MOTOR_TRIP false) else s
    let s : State := { s with ctl := { s.ctl with phasesLow := if fresh then false else s.ctl.phasesLow,
                                                  dAxis := { s.ctl.dAxis with preload := fresh || s.ctl.dAxis.preload, closed := !fresh } } }
    let c := s.coefs 3
    let (u, v) := phaseCurrents s.ctl.duty a b
    let (d, q) := axisCurrents u v s.electricalAngle
    let (lq, iq) := lawStep c (s.slot 3) s.ctl.poly.out q tag 0 s.ctl.outQ
    let (ld, id) := lawStep c s.ctl.dAxis 0 d tag 0 s.ctl.outD
    let outQ := slewTo s.ctl.outQ lq.u c.slew
    let outD := slewTo s.ctl.outD ld.u c.slew
    let s := s.setSlot 3 (holdIntegrator c lq iq true (outQ ≠ lq.u))
    let s : State := { s with ctl := { s.ctl with dAxis := holdIntegrator c ld id true (outD ≠ ld.u), outQ := outQ, outD := outD } }
    (s.showSlot 3 q).showInteg 3 (s.slot 3)

/-- Every PWM period takes its on-times from slot 3's outputs and the electrical angle at its centre (R54). -/
def State.formPhases (s : State) : State :=
  let (q, d) := s.motorOut
  { s with ctl := { s.ctl with duty := phaseDuties d q s.electricalAngle (s.fld CTL_PWM_CFG_PERIOD) } }

/-- The compensated set-point of a lamp (R97). -/
def State.lampTarget (s : State) (m : Nat) : Int :=
  let raise := loop 8 (fun k (acc : Int) =>
    if s.bit FLD_STATUS (8 + k) && s.flag (FLD_COMP_EN k) && k ≠ m then
      let g := ((s.fld (FLD_COMP_GAIN k) : Int) * s.fldI (CTL_FL_SP_V k)).fdiv 32768
      acc + (if s.flag (FLD_COMP_LEFT_EN k) && s.fld (FLD_COMP_LEFT k) = m then g else 0)
          + (if s.flag (FLD_COMP_RIGHT_EN k) && s.fld (FLD_COMP_RIGHT k) = m then g else 0)
    else acc) 0
  let raise := if s.bit CTL_FL_CLOSE m && !s.bit FLD_STATUS (8 + m) then raise else 0
  let lim := (s.fldI (CTL_SP_LIM_SP_MIN 5), s.fldI (CTL_SP_LIM_SP_MAX 5))
  clampI (min 0x7FFF (s.fldI (CTL_FL_SP_V m) + raise)) lim.1 lim.2

/-- FLD_ISNS[m] at a sample of slot 5: the mean of the on-group samples since the sample before, kept where there was none. DESIGN CHOICE (log
entry 140): the spec names a mean and neither its rounding nor what it shows while no group is on. -/
def State.takeSense (s : State) (m : Nat) : State :=
  let a := tabGet (0, 0) s.flood.sense m
  if a.2 = 0 then s
  else
    ({ s with flood := { s.flood with sense := tabSet (0, 0) s.flood.sense m (0, 0) } } : State).setFld (FLD_ISNS_V m) (a.1 / a.2)

/-- Slot 5 evaluates lamp `m` (R60): the output is kept for the density of the next period (R95). The registers of slot 5 that show one
law show the lamp evaluated last: DESIGN CHOICE (log entry 131), the spec names no lamp for them. -/
def State.sampleLamp (s : State) (m : Nat) (tag : Bool) : State :=
  let s := s.takeSense m
  if s.plant 5 = 0 then s
  else
    let l := s.lamp m
    -- a 14-bit code of the sense converter as a fraction of its full scale (R39)
    let y : Int := (2 * s.fld (FLD_ISNS_V m) : Nat)
    let (sp, r) := limiterStep l.spNow l.spRate (s.lampTarget m) (s.fld (CTL_SP_RATE_V 5)) (s.fld (CTL_SP_ACC_V 5)) (s.slotHz 5)
    let l := { l with spNow := sp, spRate := r }
    if !s.bit CTL_FL_CLOSE m || s.bit FLD_STATUS (8 + m) then s.setLamp m l
    else
      let c := s.coefs 5
      let outPrev : Int := (tabGet 0 s.flood.computed m : Nat)
      let (l, i) := lawStep c { l with preload := l.preload || !l.closed } (ratInt sp) y tag 0 outPrev
      let out := slewTo outPrev l.u c.slew
      let l := holdIntegrator c l i true (out ≠ l.u)
      let s := (((s.setLamp m l).showLoop 5 l y).showInteg 5 l).showLamps
      { s with flood := { s.flood with computed := tabSet 0 s.flood.computed m (max 0 out).toNat } }

/-- Slot `n`, 6 or 7, forms the output of its GPIO pin under its own slew limit (R42, R61). -/
def State.formGpio (s : State) (e : Nat × Int) : State :=
  if s.plant e.1 = 5 then
    let c := s.coefs e.1
    let l := s.slot e.1
    let out := slewTo (tabGet 0 s.ctl.gpio e.1) l.u c.slew
    let s := s.setSlot e.1 (holdIntegrator c l e.2 true (out ≠ l.u))
    { s with ctl := { s.ctl with gpio := tabSet 0 s.ctl.gpio e.1 out } }
  else s

/-- The slots whose sample instant is the present one (R39): exact multiples of the slot's period on the 100 MHz reference, slot 3's at the
PWM centre. Where the period is no whole number of 10 ns, the multiple falls on the next edge of the reference: DESIGN CHOICE (log entry
132). -/
def State.dueSlots (s : State) : BitVec 8 :=
  if s.now % 2560 ≠ 0 || s.ctl.sampled = some s.now then 0
  else
    let c := s.now / 2560
    BitVec.ofNat 8 (loop 8 (fun n acc =>
      let r := s.fld (CTL_SLOT_CFG_RATE n)
      let on := if n = 3 then decide (c % max 1 (s.fld CTL_PWM_CFG_PERIOD) = 0) else decide (c * r % 100000 < r)
      acc + b2n on * 2 ^ n) 0)

/-- An output that an open principal slot has set meets the plants' next sample (R44). -/
def State.syncPlants (s : State) : State :=
  let c := s.ctl
  { s with ctl := { c with poly := { c.poly with out := s.polyOut }, cool := { c.cool with out := s.coolOut },
                           outQ := s.motorOut.1, outD := s.motorOut.2 } }

/-- A LOOP_SAMPLE instant (R42): every due closed slot evaluates its law, then every plant forms its output. `p49` are the two samples of
P49. -/
def State.loopSample (s : State) (own : List Int) (p49 : BitVec 14 × BitVec 14) (tags : BitVec 8) : State :=
  let due := s.dueSlots
  let s := s.syncPlants
  let (s, ev) := s.samplePoly due own tags
  let duePoly := due.getLsbD 0 || due.getLsbD 1 || due.getLsbD 2 || due.getLsbD 6 || due.getLsbD 7
  let s := if duePoly then
      let (s, p) := s.formPlant 1 0 s.ctl.poly ev
      let s : State := { s with ctl := { s.ctl with poly := p } }
      (s.setFld CTL_STATUS_POLY_WINNER p.winner).setFlag CTL_STATUS_SLEWING p.slewing
    else s
  let s := if due.getLsbD 0 then s.rcAccumulate (tags.getLsbD 0) else s
  let dueCool := due.getLsbD 4 || due.getLsbD 6 || due.getLsbD 7
  let s := if dueCool then
      let (s, p) := s.formPlant 3 4 s.ctl.cool ev
      { s with ctl := { s.ctl with cool := p } }
    else s
  let s := ev.foldl State.formGpio s
  let s := ev.foldl (fun s e => s.showInteg e.1 (s.slot e.1)) s
  let s := if due.getLsbD 3 then (s.sampleMotor p49.1 p49.2 (tags.getLsbD 3)).formPhases else s
  let s := if due.getLsbD 5 then loop 8 (fun m s => s.sampleLamp m (tags.getLsbD 5)) s else s
  { s with ctl := { s.ctl with sampled := some s.now } }

/-! ### Line instants (R23, R58) -/

/-- Where line `i` starts, in 1/65,536 count since the facet index (R58): i × C / L with C = CPR / FACETS, to 1/65,536 count. -/
def State.linePos (s : State) (i : Nat) : Nat :=
  i * s.cpr * 65536 / (max 1 (s.fld CTL_ENC_CFG_FACETS) * max 1 s.linesInForce)

/-- The instant of the next line start, extrapolated from the latest encoder edge with the most recent edge interval, to one tick (R58); none
while no grid runs or no interval has been seen. -/
def State.lineAhead (s : State) : Option Nat :=
  if s.grid.running && s.ctl.edgeGap ≠ 0 then
    let pos := s.linePos (s.grid.linesStarted + s.grid.linesNotRun)
    let here := 65536 * (s.ctl.count - s.ctl.countAtFacet).natAbs
    some (max (s.now + 256000) (s.ctl.edgeAt + (((pos : Int) - here) * s.ctl.edgeGap).fdiv 65536).toNat)
  else none

/-- An encoder edge places the next line start; an instant less than 1 µs ahead is fixed and not moved (R58). -/
def State.placeLine (s : State) : State :=
  match s.ctl.nextLine with
  | some t => if t ≤ s.now + 256000 then s else { s with ctl := { s.ctl with nextLine := s.lineAhead } }
  | none => { s with ctl := { s.ctl with nextLine := s.lineAhead } }

/-- The line start after this one is placed (R58). -/
def State.nextPlace (s : State) : State := { s with ctl := { s.ctl with nextLine := s.lineAhead } }

/-! ### The meanings -/

/-- LOOP_SAMPLE (R39, R42, R48, R51, R54, R56, R57, R60). -/
def execLoopSample (t : Nat) (own : List Int) (p49 : BitVec 14 × BitVec 14) (tags : BitVec 8) (s : State) :
    Host.Outcome State Fault Refusal :=
  let s := s.advance t
  done (if s.pwr.coreInReset then s else s.loopSample own p49 tags)

/-- SLOT_CLOSE (R44, R45): CTL_SLOT_CTRL[n] written with CLOSE = 1 and the mode it has. -/
def execSlotClose (p : Port) (n : Fin 8) (s : State) : Host.Outcome State Fault Refusal :=
  done (s.hostGate p (CTL_SLOT_CTRL n) false
    (fun s => s.slotCtrlWrite n (BitVec.ofNat 32 (2 * s.fld (CTL_SLOT_CTRL_MODE n) + 1))))

/-- SLOT_OPEN (R44): CTL_SLOT_CTRL[n] written with CLOSE = 0 and the mode it has. -/
def execSlotOpen (p : Port) (n : Fin 8) (s : State) : Host.Outcome State Fault Refusal :=
  done (s.hostGate p (CTL_SLOT_CTRL n) false
    (fun s => s.slotCtrlWrite n (BitVec.ofNat 32 (2 * s.fld (CTL_SLOT_CTRL_MODE n)))))

/-- SLOT_MODE_CHANGE (R47): MODE written with the close bit it has. -/
def execSlotModeChange (p : Port) (n : Fin 8) (mode : BitVec 2) (s : State) : Host.Outcome State Fault Refusal :=
  done (s.hostGate p (CTL_SLOT_CTRL n) false
    (fun s => s.slotCtrlWrite n (BitVec.ofNat 32 (2 * mode.toNat + s.fld (CTL_SLOT_CTRL_CLOSE n)))))

/-- COEFFICIENT_WRITE (R46): a write of a coefficient register, by its block offset. -/
def execCoefficientWrite (p : Port) (off : BitVec 18) (v : Word) (s : State) : Host.Outcome State Fault Refusal :=
  done (s.hostGate p (0x380000 + off.toNat) false (fun s => s.ctlWrite (0x380000 + off.toNat) v))

/-- SETPOINT_WRITE (R49). -/
def execSetpointWrite (p : Port) (n : Fin 8) (v : BitVec 16) (s : State) : Host.Outcome State Fault Refusal :=
  done (s.hostGate p (CTL_SP n) false (fun s => s.setpointWrite n (v.setWidth 32)))

/-- RC_CELL_UPDATE (R51): the angle has left the cell, which takes the rounded, clamped update if every sample in it
qualified; the next cell's sums start from 0. A tie of the rounding goes upward: DESIGN CHOICE (log entry 133), the spec gives none. -/
def execRcCellUpdate (s : State) : Host.Outcome State Fault Refusal :=
  if s.pwr.coreInReset || s.rcCellNow = s.ctl.rcCell then done s else
  let c := s.ctl
  let f := halfFld (CTL_RC_TABLE 0) c.rcCell
  let lim : Int := (s.fld CTL_RC_LIMIT_V : Nat)
  let k : Int := (max 1 c.rcCount : Nat)
  let m := clampI (roundDiv (s.fldI CTL_RC_GAIN_F * s.fldI f * k + s.fldI CTL_RC_GAIN_L * c.rcSum) (32768 * k)) (-lim) lim
  let s := if c.rcOk && c.rcCount ≠ 0 && s.flag CTL_RC_CFG_ENABLE then s.setFldI f m else s
  done { s with ctl := { s.ctl with rcCell := s.rcCellNow, rcSum := 0, rcCount := 0, rcOk := true } }

/-- REVOLUTION_INDEX (R55, R53): an ENC2 edge ends a revolution. -/
def execRevolutionIndex (t : Nat) (s : State) : Host.Outcome State Fault Refusal :=
  let s := s.advance t
  if s.pwr.coreInReset then done s
  else
    let c := s.ctl
    let n := s.rcCells
    let lim : Int := (s.fld CTL_RC_LIMIT_V : Nat)
    let sat := ((List.range n).filter (fun i =>
      let m := s.fldI (halfFld (CTL_RC_TABLE 0) i)
      decide (m = lim) || decide (m = -lim))).length
    let s := s.setFld CTL_RC_SAT_V sat
    -- before the first ENC2 edge no revolution has passed
    let streak := if c.angleValid && decide (n / 8 < sat) then c.satStreak + 1 else 0
    let falls := decide (2 ≤ streak) && !c.fallback
    let bad := c.angleValid && (decide (c.facetEdges ≠ s.fld CTL_ENC_CFG_FACETS)
      || decide (1 < ((c.count.natAbs : Int) - (s.cpr : Int)).natAbs))
    let s : State := { s with ctl := { c with satStreak := streak, fallback := c.fallback || decide (2 ≤ streak), count := 0,
                                              countAtFacet := c.countAtFacet - c.count, facetEdges := 0, angleValid := true, revClean := true } }
    let s := s.raiseIf falls EV_CTL_RC_FALLBACK
    let s := s.showFallback
    let s := if bad then { s.encoderFault with ctl := { s.encoderFault.ctl with revClean := true } }
      else if c.angleValid && c.revClean then s.setFlag CTL_STATUS_ENC_FAULT false
      else s
    done { s with grid := { s.grid with facet := s.fld CTL_ENC_CFG_FACETS } }

/-- QUADRATURE_EDGE (R55, R58): new levels of ENC0 and ENC1, timestamped to 1 ns; a transition of both in the same sample is an encoder
fault. With DIR = 0 the count rises while A leads B: DESIGN CHOICE (log entry 134), the spec does not say which of the two leads. -/
def execQuadratureEdge (t : Nat) (a b : Bool) (s : State) : Host.Outcome State Fault Refusal :=
  let s := s.advance t
  if s.pwr.coreInReset then done s
  else
    let c := s.ctl
    let da := a ≠ c.encA
    let db := b ≠ c.encB
    let s' := { s with ctl := { c with encA := a, encB := b } }
    if da && db then done ((s'.bump ⟨CTL_ENC_ERR, 15, 0⟩ 1).encoderFault)
    else if !da && !db then done s'
    else
      let fwd := if da then a ≠ b else a = b
      let d : Int := if fwd ≠ s.flag CTL_ENC_CFG_DIR then 1 else -1
      let at_ := s.now / 256 * 256
      let s' : State := { s' with ctl := { s'.ctl with count := c.count + d, edgeAt := at_, edgeGap := if c.edgeAt = 0 then 0 else at_ - c.edgeAt } }
      done s'.placeLine

/-- The angle has passed 1.25 facets beyond the last ENC3 edge (R55). -/
def State.facetMissed (s : State) : Bool :=
  decide (5 * s.cpr < 4 * s.fld CTL_ENC_CFG_FACETS * (s.ctl.count - s.ctl.countAtFacet).natAbs)

/-- MISSING_FACET_INDEX (R55): the angle has passed 1.25 facets with no new edge; the line grid ends until the next one. -/
def execMissingFacetIndex (s : State) : Host.Outcome State Fault Refusal :=
  if s.pwr.coreInReset || !s.facetMissed then done s
  else
    let s := s.encoderFault
    done { s with grid := { s.grid with running := false }, ctl := { s.ctl with nextLine := none } }

/-- MOTOR_TRIP (R54): P49 above CTL_MOTOR_ITRIP drives the phases low, opens slots 0 to 3 and loses lock. -/
def execMotorTrip (code : BitVec 14) (s : State) : Host.Outcome State Fault Refusal :=
  if s.pwr.coreInReset || code.toNat ≤ s.fld CTL_MOTOR_ITRIP_V then done s
  else
    let s : State := { s with ctl := { s.ctl with phasesLow := true } }
    let s := (s.setFlag CTL_STATUS_MOTOR_TRIP true).openPolygon
    done (s.raise EV_CTL_MOTOR_TRIP)

/-- COOLER_TRIP (R59, R480): P52 above CTL_COOL_ITRIP, or below 16,383 minus it, opens slot 4 with output 0. -/
def execCoolerTrip (code : BitVec 14) (s : State) : Host.Outcome State Fault Refusal :=
  let level := s.fld CTL_COOL_ITRIP_V
  if s.pwr.coreInReset || (decide (code.toNat ≤ level) && decide (16383 - level ≤ code.toNat)) then done s
  else
    let s := s.openSlot 4
    let s : State := { s with ctl := { s.ctl with cool := { s.ctl.cool with out := 0, held := 0, forced0 := true } } }
    done (s.raise EV_CTL_COOL_TRIP)

/-! ### At a facet index (R57, R58) -/

/-- The encoder's part of a facet index (R55, R58). -/
def State.facetEdge (s : State) : State :=
  let c := s.ctl
  let s : State := { s with ctl := { c with facetEdges := c.facetEdges + 1, countAtFacet := c.count } }
  let n := s.fld CTL_ENC_CFG_FACETS
  { s with grid := { s.grid with running := true, facet := if s.grid.facet + 1 < n then s.grid.facet + 1 else 0 } }

/-- Lock is declared at a facet start when every condition of R57 holds; answers whether it was. -/
def State.lockCheck (s : State) : State × Bool :=
  let e := s.fldI CTL_PHASE_ERR_V
  -- the phase error exists while slot 0 is closed in PHASE mode
  let ok := (s.slot 0).closed && s.fld (CTL_SLOT_CTRL_MODE 0) = 1 && decide (e.natAbs ≤ s.fld CTL_LOCK_CFG_LOCK_WIN)
  let n := if ok then s.ctl.lockStreak + 1 else 0
  let s : State := { s with ctl := { s.ctl with lockStreak := n } }
  let all := (s.slot 0).closed && (s.slot 3).closed && s.plant 0 ≠ 0 && s.plant 3 ≠ 0 && s.fld (CTL_SLOT_CTRL_MODE 0) = 1
    && !s.flag CTL_STATUS_ENC_FAULT && !s.flag CTL_STATUS_MOTOR_TRIP && decide (s.fld CTL_LOCK_CFG_ENTER ≤ n)
  if all && !s.flag CTL_STATUS_LOCK then ((s.setFlag CTL_STATUS_LOCK true).raise EV_SCAN_LOCKED, true) else (s, false)

end Sys2Proof.Machine
end

