-- ==== Sys2Proof/Machine/Line.lean ====
section
/-! DEFINITION. The line grid and the instants of a slot (01_line_cycle.md, R57, R58, R75, R88): facet indices, line starts, image
lines, the set-up, start, emission and close of a slot, and FRAME_SYNC_IN. -/

namespace Sys2Proof.Machine

/-! ### The slots a line launches (R31, R33, R329) -/

/-- The shot pause before each zoom slot at the step in force, in ticks (R329). -/
def State.shotPause (s : State) : Nat :=
  let k := s.fld SHT_STATUS_THROTTLE
  if k = 0 then 0 else 65536 * 2 ^ (k - 1)

/-- A window that opens `start` ticks after the line start closes by T − 64 ns at the largest offset (R31, R329). -/
def State.inLine (s : State) (start : Nat) : Bool :=
  decide ((start + 1023 + s.fldF SHT_LISTEN_V + 16384) * s.lineRate ≤ 256000000000000)

/-- Starts of the slots launched among `ks`, with the pauses accumulated so far (R31): a zoom or dark slot that would close too late
ends the line's launches. -/
def State.planFrom (s : State) : List Nat → Nat → List Nat
  | [], _ => []
  | k :: t, pause =>
    let kind := s.fldF (SHT_SLOT_T_KIND k)
    let pause := if kind = 1 then pause + s.shotPause else pause
    let start := s.fldF (SHT_SLOT_T_START k) + (if kind = 0 then 0 else pause)
    if kind ≠ 0 && !s.inLine start then [] else start :: s.planFrom t pause

/-- The idle slot of a line that launches `n` slots (R33): the last dark slot, otherwise the last zoom slot. -/
def State.idleChoice (s : State) (n : Nat) : Option Nat :=
  let last := fun (kind : Nat) => ((List.range n).filter (fun k => s.fldF (SHT_SLOT_T_KIND k) = kind)).getLast?
  (last 2).orElse (fun _ => last 1)

/-- The slots that a line launches under the settings in force, and its idle slot: the 64th line of every 64 has one while AMB_LOW stands (R31,
R33; log entry 58). -/
def State.linePlan (s : State) : List Nat × Option Nat :=
  let plan := s.planFrom (List.range (s.fldF SHT_CFG_SLOTS)) 0
  (plan, if (s.sht.lineCount + 1) % 64 = 0 && s.flag TDC_STATUS_AMB_LOW then s.idleChoice plan.length else none)

/-! ### The set-up of a slot (R74, R75, R88) -/

/-- The rows the accountant lets fire, and how many it removed (R88). -/
def State.rowsKept (s : State) (profile cols : Nat) (rows : List Nat) : List Nat × Nat :=
  let kept := rows.filter (fun r => !s.rowExceeds profile r cols)
  (kept, rows.length - kept.length)

/-- Rows as a word of 16 bits. -/
def rowMask (rows : List Nat) : BitVec 16 := BitVec.ofNat 16 ((rows.map (fun r => 2 ^ r)).sum)

/-- Slot `k` of line `line` is set up under the settings of `v`, for a start at `start` (R74, R75, R88): its rows are checked, columns and
ECB_SEL take its own, and its record is posted under line `lineSeq`. -/
def State.setUpSlot (s v : State) (k line lineSeq start : Nat) (idle : Bool) : State × SlotInFlight :=
  let kind := v.fldF (SHT_SLOT_T_KIND k)
  let entry := v.patternEntry line k
  let bits := v.patBits v.emt.activeBank entry
  let profile := v.patWord v.emt.activeBank entry 6 % 16
  let cols := entryCols bits
  let (kept, removed) := s.rowsKept profile cols (if kind = 2 || idle then [] else entryRows bits)
  let s := if removed = 0 then s else
    let s := s.wrN EMT_EYE_SUPP (min (2 ^ 32 - 1) (s.rdN EMT_EYE_SUPP + removed))
    let raise := !s.emt.limitRaised
    let s : State := { s with emt := { s.emt with limitRaised := true } }
    s.raiseIf raise EV_EMT_EYE_LIMIT
  let o := v.slotOffset line k
  let h := s.hst
  let r : ShotRec := ⟨h.recSeq, lineSeq, s.rdN GLB_FRAME, line, k, kind, o, rowMask kept, BitVec.ofNat 12 cols, idle⟩
  let s : State := { s with hst := { h with posted := h.posted ++ [r], recSeq := h.recSeq + 1 },
                            emt := { s.emt with drive := { s.emt.drive with cols := BitVec.ofNat 12 cols, sel := profile, rows := 0, release := none } } }
  (s, ⟨k, kind, start, o, rowMask kept, BitVec.ofNat 12 cols, profile, idle, false, false⟩)

/-- A slot of the line in flight may be set up: a line of an open frame is in flight, the chain is whole, and the program goes on. -/
def State.slotDue (s : State) : Bool :=
  s.grid.lineOpen && s.p87 && !s.sht.cut && !s.sht.barred && s.sht.flight.isNone && decide (s.sht.nextSlot < s.sht.plan.length)

/-- A record more for the line in progress. -/
def State.countPosted (s : State) (kind : Nat) : State :=
  s.onLine (fun l => { l with posted := l.posted + 1, coarsePosted := l.coarsePosted + b2n (kind = 0) })

/-- The set-up of the next slot of the line in flight, 2,048 ticks before its start (R75). -/
def State.slotSetup (s : State) : State :=
  let k := s.sht.nextSlot
  let start := s.grid.lineStart + nth 0 s.sht.plan k
  let s := s.advance (start - 2048)
  let (s, f) := s.setUpSlot s k (s.rdN GLB_LINE) s.hst.lineSeq start (s.sht.idleSlot = some k)
  ({ s with sht := { s.sht with flight := some f } } : State).countPosted f.kind

/-- The state under whose settings the line that starts at tick `t` runs: what is latched at that line start is in force, since commits and
edges take part only from 10 ns before it (R25, R26, R75). -/
def State.lineView (s : State) (t : Nat) (frame : Bool) : State :=
  let s : State := { s with now := t }
  ((if frame then s else s.shtLineLatch false).patternSwap frame).takeStep

/-- Slot 0 of line `n`, which starts at tick `t`, where its set-up lies before the line start (R75; log entry 94). -/
def State.prepareLine (s : State) (n t : Nat) (frame : Bool) : State :=
  let v := s.lineView t frame
  match v.linePlan with
  | (start :: _, idle) =>
    if s.sht.prepared.isNone && s.grid.frameOpen && s.p87 && !s.sht.barred && decide (n < v.linesInForce) && decide (start < 2048) then
      let s := s.advance (t + start - 2048)
      let (s, f) := s.setUpSlot v 0 n (s.hst.lineSeq + 1) (t + start) (idle = some 0)
      { s with sht := { s.sht with prepared := some f } }
    else s
  | _ => s

/-- Slot 0 of the line that starts next, at the instant fixed for it. -/
def State.prepareNext (s : State) : State :=
  match s.ctl.nextLine with
  | some t => if s.grid.lineOpen && !s.sht.cut then s.prepareLine s.grid.linesStarted t false else s
  | none => s

/-! ### Line starts (R25, R29, R30) -/

/-- The line in flight ends at a line start: delivered as it is, or cut short where its program has not finished (R29). -/
def State.finishLine (s : State) : State :=
  let unfinished := s.sht.flight.isSome || (!s.sht.cut && decide (s.sht.nextSlot < s.sht.plan.length))
  if s.grid.lineOpen && unfinished then
    let s := s.onLine (fun l => { l with overrun := true })
    let s : State := { s with grid := { s.grid with overruns := s.grid.overruns + 1 } }
    (s.bump SHT_OVERRUN_V 1).cutLine.raise EV_LINE_OVERRUN
  else if s.sht.flight.isSome then s.cutLine
  else s.deliverLine

/-- The sequencer begins a line of an open frame (R31, R33). SHT_STATUS.IDLE_SLOT shows whether an idle slot of R33 is in use: DEDUCED (log
entry 135), while AMB_LOW stands and the program has a slot to turn idle. -/
def State.beginProgram (s : State) : State :=
  let (plan, idle) := s.linePlan
  let idle := match s.sht.prepared with
    | some f => if f.idle then some 0 else idle.filter (fun k => k ≠ 0)
    | none => idle
  let s := s.setFlag SHT_STATUS_IDLE_SLOT (s.flag TDC_STATUS_AMB_LOW && (s.idleChoice plan.length).isSome)
  let s : State := { s with sht := { s.sht with nextSlot := 0, cut := false, plan := plan, idleSlot := idle,
                                                lineCount := (s.sht.lineCount + 1) % 64 } }
  let s := s.startLine.onLine (fun l => { l with slotTotal := plan.length, idle := idle.isSome })
  match s.sht.prepared, plan with
  | some f, start :: _ =>
    ({ s with sht := { s.sht with prepared := none, flight := some { f with start := s.grid.lineStart + start } } } : State).countPosted f.kind
  | _, _ => s.dropPrepared

/-- A line start of the grid that starts no slot. -/
def State.noProgram (s : State) : State :=
  let s := s.dropPrepared.setFlag SHT_STATUS_IDLE_SLOT false
  { s with sht := { s.sht with plan := [], nextSlot := 0, cut := true, idleSlot := none } }

/-- A pulse-density period begins at every line start of the grid whose number is a multiple of 4 (R94). -/
def State.floodLine (s : State) : State :=
  if s.pwr.emissionInReset || (s.grid.linesStarted + s.grid.linesNotRun) % 4 ≠ 1 then s else s.floodPeriod

/-- The actions of a line start of the grid (R25), `frame` on line 0. What is latched "for the next frame" has been latched. -/
def State.gridLine (s : State) (frame : Bool) : State :=
  let n := s.grid.linesStarted
  let s := s.calLineStart
  let s := if frame then s else (s.shtLineLatch false).hstLatch false
  let s := ((s.patternSwap frame).takeStep).detLineStart
  let s := (s.lineupLineStart.tdcLineStart).adcTrigger 1
  let s := s.wrN GLB_LINE n
  let s : State := { s with grid := { s.grid with linesStarted := n + 1, lineStart := s.now, lineTimed := s.grid.sweep,
                                                  lineOpen := s.grid.frameOpen } }
  let s := if s.grid.frameOpen then s.beginProgram else s.noProgram
  (s.floodLine.beginImageLine (4 * n)).nextPlace

/-- A line instant of the grid is reached (R25, R30): beyond the lines in force the line is not run. -/
def State.lineStart (s : State) : State :=
  let s := (s.endLine).finishLine
  if s.linesInForce ≤ s.grid.linesStarted then
    let first := s.grid.linesNotRun = 0
    let s := (s.endImageLine.adcTrigger 1).noProgram
    let s : State := { s with grid := { s.grid with linesNotRun := s.grid.linesNotRun + 1, lineStart := s.now } }
    (s.raiseIf first EV_FRAME_LONG).floodLine.nextPlace
  else s.gridLine false

/-! ### Facet indices (R30, R57, R58, R72) -/

/-- The sweep before a facet index ends: its line in flight, its frame, FRAME_SHORT (R30). -/
def State.endSweep30 (s : State) : State :=
  let s := s.dropPrepared.endImageLine
  let s := (s.endLine).finishLine
  let short := s.grid.running && decide (0 < s.grid.linesStarted) && decide (s.grid.linesStarted < s.linesInForce)
  let s := if short then s.noteShort else s
  let s := s.raiseIf short EV_FRAME_SHORT
  s.closeFrame (if short then 1 else if 0 < s.grid.linesNotRun then 2 else 0)

/-- What every frame start takes and latches (R25 step 1, R72, R81, R82, R109, R114, R186, R200, R218, R441, R443). -/
def State.frameLatches (s : State) : State :=
  let was := s.running
  let s := s.takeServeKey.runFrameStart
  let s : State := if s.running && !was then { s with hst := { s.hst with freshNext := true } } else s
  let s := s.netLatch.coordFrame
  let s := s.pntFrameStart.streamKeyFrameStart
  let s := ((s.imgLatch).shtLineLatch true).hstLatch true
  let s := s.detFrameStart.imgFrameStart
  let s := s.ispFrameStart.hstFrameStart
  let s := s.tdcFrameStart
  -- the flag reads of a frame wait while the current bus is busy (R80, R81)
  let s := if s.running && !s.flag EMT_ECB_STATUS_BUSY then s.sendEcb flagReads else s
  let s : State := { s with emt := { s.emt with flagsWaiting := s.emt.flagsWaiting || s.running, limitRaised := false } }
  -- FRAME_SYNC_OUT (R439)
  if s.flag NET_FSYNC_CFG_OUT_EN then
    { s with net := { s.net with fsyncUntil := s.now + 2560 * s.fld NET_FSYNC_CFG_OUT_W } }
  else s

/-- A frame is in progress where scanner lock stood before this facet index, and it emits where the chain was whole at its start (R34, R57,
R86, R113; log entry 57). -/
def State.openFrame (s : State) : State :=
  let s := s.settleChain
  let s : State := { s with grid := { s.grid with sweep := s.flag CTL_STATUS_LOCK } }
  if s.p87 then
    ({ s with grid := { s.grid with frameOpen := true } } : State).frameStartPacket
  else s

/-- An ENC3 edge (R58): the frame before closes, the frame number increments (R14), and line 0 starts. -/
def State.facetIndex (s : State) : State :=
  let s := s.endSweep30.facetEdge
  let s := s.wrN GLB_FRAME (s.rdN GLB_FRAME + 1)
  let s : State := { s with grid := { s.grid with linesStarted := 0, linesDelivered := 0, linesNotRun := 0, overruns := 0 } }
  -- what takes effect at the start of line 0 is in force in FRAME_START (R197, R321, R328)
  let s := s.calLineStart.frameLatches.takeStep.openFrame
  let (s, declared) := s.lockCheck
  let s := if declared then s.lockRecheck else s
  (s.prepareLine 0 s.now true).gridLine true

/-! ### One slot (R75) -/


/-- The slot start: every lane in service, and every bench lane, opens (R75, R134). -/
def State.slotStart (s : State) (f : SlotInFlight) : State :=
  let s := s.advance f.start
  let closeAt := f.start + f.offset + s.fldF SHT_LISTEN_V
  let line := s.rdN GLB_LINE
  let s := (List.range 208).foldl (fun s l => s.openLane l f.slot line f.start closeAt f.idle (f.slot = 0)) s
  { s with sht := { s.sht with flight := some { f with started := true } } }

/-- The row triggers rise (R75), if the chain is still whole (R85); otherwise the slot is dark. They fall W ticks later, and the columns are
released H ticks after that. The update of the accountant finds a parity error or none (R90). -/
def State.slotEmission (s : State) (f : SlotInFlight) (parityError : Bool) (fl : DriverFlags) : State :=
  let s := s.advance (f.start + f.offset)
  let rows := if s.p87 then f.rows else 0
  let fall := s.now + s.fld EMT_TRIG_CFG_TRIG_W
  let s : State := { s with sht := { s.sht with flight := some { f with rows := rows, emitted := true } },
                            emt := { s.emt with drive := { s.emt.drive with rows := rows, rise := s.now, fall := fall,
                                                                            release := some (fall + s.fld EMT_TRIG_CFG_COL_HOLD) } } }
  if rows = 0 then
    { s with hst := { s.hst with posted := s.hst.posted.map (fun (r : ShotRec) =>
                                   if r.lineSeq = s.hst.lineSeq && r.slot = f.slot then { r with rows := 0 } else r) } }
  else
    let s := s.accountFiring rows f.cols.toNat f.profile
    let past := fun (e : Nat × Bool) => e.2 && decide (e.1 + 256 * s.fld EMT_MON_CFG_DLY_MAX < s.now)
    let s : State := { s with emt := { s.emt with expected := s.emt.expected.filter (fun e => !past e) ++ [(s.now, false)] } }
    if parityError then s.emitterFault (some 6) false fl else s

/-- The window closes (R75, R128): the lanes write their CLOSE words. -/
def State.windowClose (s : State) (f : SlotInFlight) : State :=
  let s := s.advance (f.start + f.offset + s.fldF SHT_LISTEN_V)
  let s := s.closeLanes false
  let s : State := { s with sht := { s.sht with flight := none, nextSlot := s.sht.nextSlot + 1 } }
  if s.sht.cut then s.onLine (fun l => { l with launchEnded := true }) else s

/-! ### The meanings -/

/-- FACET_INDEX (R58). -/
def execFacetIndex (t : Nat) (s : State) : Host.Outcome State Fault Refusal :=
  let s := s.advance t
  done (s.inCore State.facetIndex)

/-- LINE_START (R25, R58): line 0 starts with its facet index; this is the start of every later line, at the instant placed for it. -/
def execLineStart (s : State) : Host.Outcome State Fault Refusal :=
  done (s.inCore (fun s =>
    match s.ctl.nextLine with
    | some t => if s.grid.running then (s.prepareNext.advance t).lineStart else s
    | none => s))

/-- A converter test has ended (R212): the codes of the levels at 7/8 and 1/8 of full scale against the calibrated ones. An error is reported
to the lineup (R306), and the test is replayed in the next image line. -/
def State.converterTest (s : State) (i hi lo : Nat) : State :=
  let w := (s.hidden (17664 + 2 * i + 1)).toNat
  let tol := s.fldF IMG_CONV_CFG_TEST_TOL
  let far := fun (x y : Nat) => decide ((x : Int) - y > tol ∨ (y : Int) - x > tol)
  let s : State := { s with img := { s.img with testing := s.img.testing.filter (fun j => j ≠ i) } }
  if s.converterRole i = 2 || !(far hi (w / 65536 % 16384) || far lo (w % 16384)) then s
  else
    let s := (s.converterTransient i).converterReplays i 1
    if s.converterRole i = 2 then s else { s with img := { s.img with testing := s.img.testing ++ [i] } }

/-- The test codes that a converter measures over the first two frames after a power-up (R322), before the tests of R212 begin: the two runs
are accepted as in R312 and R313. -/
def State.converterMeasure (s : State) (i hi lo : Nat) : State :=
  if s.img.testFrames = 1 then { s with img := { s.img with firstCodes := tabPut s.img.firstCodes i (hi, lo) } }
  else match s.img.firstCodes.find? (fun (e : Nat × Nat × Nat) => e.1 = i) with
    | none => s
    | some (_, h, l) =>
      if converterAccepted ⟨0, 0xFFFF, h, l⟩ ⟨0, 0xFFFF, hi, lo⟩ then
        (s.setHidden (17664 + 2 * i + 1) (BitVec.ofNat 32 ((h + hi + 1) / 2 * 65536 + (l + lo + 1) / 2))).calTouch
      else { s with cal := { s.cal with failed := s.cal.failed.filter (fun (k : Nat) => k ≠ 12288 + i) ++ [12288 + i] } }

/-- The results of the converter tests since the image line start before (R212): all converters are tested in the first image line of a
frame, later only those whose test is replayed. In the first two frames after a power-up they measure their test codes, unless an import
has brought them (R322). -/
def State.converterTests (s : State) (l : List (BitVec 12 × BitVec 14 × BitVec 14)) : State :=
  let first := s.img.line = 0
  let due := s.img.testing
  let measure := decide (s.img.testFrames < 3) && !s.flag CAL_STATUS_IMPORTED
  l.foldl (fun s e =>
    if 3168 ≤ e.1.toNat || !(first || due.contains e.1.toNat) then s
    else if measure then s.converterMeasure e.1.toNat e.2.1.toNat e.2.2.toNat
    else s.converterTest e.1.toNat e.2.1.toNat e.2.2.toNat) s

/-- IMAGE_LINE_START (R24, R212): image lines 1 to 3 of the range line in flight, each T / 4 after the one before; `tests` are the results of
the converter tests that have ended: converter, code at 7/8, code at 1/8. -/
def execImageLineStart (tests : List (BitVec 12 × BitVec 14 × BitVec 14)) (s : State) : Host.Outcome State Fault Refusal :=
  done (s.inCore (fun s =>
    let j := s.img.line + 1 - 4 * s.rdN GLB_LINE
    if s.grid.running && s.img.lineOpen && decide (j < 4) then
      let s := if s.lineRate = 0 then s else s.advance (s.grid.lineStart + j * 64000000000000 / s.lineRate)
      (s.converterTests tests).beginImageLine (s.img.line + 1)
    else s))

/-- SLOT_SETUP (R75): the next slot of the line in flight, or slot 0 of the line after it. -/
def execSlotSetup (s : State) : Host.Outcome State Fault Refusal :=
  done (s.inEmission (fun s => if s.slotDue then s.slotSetup else s.prepareNext))

/-- SLOT_START (R75). -/
def execSlotStart (s : State) : Host.Outcome State Fault Refusal :=
  done (s.inEmission (fun s => match s.sht.flight with
    | some f => if f.started then s else s.slotStart f
    | none => s))

/-- SLOT_EMISSION (R75, R90). -/
def execSlotEmission (parityError : Bool) (fl : DriverFlags) (s : State) : Host.Outcome State Fault Refusal :=
  done (s.inEmission (fun s => match s.sht.flight with
    | some f => if f.started && !f.emitted then s.slotEmission f parityError fl else s
    | none => s))

/-- LISTEN_WINDOW_CLOSE (R75). -/
def execListenWindowClose (s : State) : Host.Outcome State Fault Refusal :=
  done (s.inEmission (fun s => match s.sht.flight with
    | some f => if f.started then s.windowClose f else s
    | none => s))

/-- FRAME_SYNC_IN_EDGE (R439): a rising edge at tick `t` of a pulse `width` ticks long; one shorter than 20 ns is filtered and counted. -/
def execFrameSyncInEdge (t width : Nat) (s : State) : Host.Outcome State Fault Refusal :=
  let s := s.advance t
  done (s.inCore (fun s =>
    if width < 5120 then s.bump NET_SYNC_ERR_FSYNC_SHORT 1
    else
      let s : State := { s with ctl := { s.ctl with fsyncT := some s.now } }
      let s : State := match s.emt.swap with
        | some (2, true, _) => if s.emt.swapEdge.isSome then s else { s with emt := { s.emt with swapEdge := some s.now } }
        | _ => s
      s.imgSync))

end Sys2Proof.Machine
end

