-- ==== Sys2Proof/Machine/Mailbox.lean ====
section
/-! DEFINITION. Mailboxes and the lifecycle of Priard (17_mailboxes_firmware.md): header writes and takes, the reset of the
management domain, boot ROM, and the load of an image. -/

namespace Sys2Proof.Machine

/-! ### Mailbox mechanics (R382 to R386) -/

/-- The code, tag and length of a header (R383). -/
def hdrCode (h : Word) : Nat := h.toNat / 65536
def hdrTag (h : Word) : Nat := h.toNat / 256 % 256
def hdrLen (h : Word) : Nat := h.toNat % 256

/-- The payload words of a mailbox, stored from `a` on. -/
def State.storeWords (s : State) (a : Nat) : List Word → State
  | [] => s
  | w :: t => (s.wr a w).storeWords (a + 4) t

/-- A host writes payload words and then the header of OB k (R384). Writes to the payload of a FULL mailbox are ignored, and so
is the header. -/
def State.obWrite (s : State) (p k : Nat) (hdr : Word) (payload : List Word) : State :=
  if s.flag (MBX_OB_STATUS_FULL p k) then s.setFld (MBX_OB_STATUS_STATUS p k) 5
  else
    let s := (s.storeWords (MBX_OB_DATA p k 1) (payload.take 63)).wr (MBX_OB_HDR p k) hdr
    let s := s.setFld (MBX_OB_STATUS_TAG p k) (hdrTag hdr)
    if 63 < hdrLen hdr then s.setFld (MBX_OB_STATUS_STATUS p k) 3
    else
      let s : State := { s with fw := { s.fw with stamps := tabPut s.fw.stamps (4 * p + k) s.fw.nextStamp, nextStamp := s.fw.nextStamp + 1 } }
      (s.setFlag (MBX_OB_STATUS_FULL p k) true).setFld (MBX_OB_STATUS_STATUS p k) 1

/-- Priard writes a reply into IB k (R384, R389): ignored while the mailbox is FULL. The command of OB k is answered. -/
def State.ibWrite (s : State) (p k : Nat) (hdr : Word) (payload : List Word) : State :=
  let s : State := { s with fw := { s.fw with unanswered := s.fw.unanswered.erase (4 * p + k) } }
  if s.flag (MBX_IB_STATUS_FULL p k) || 63 < hdrLen hdr then s
  else
    let s := (s.storeWords (MBX_IB_DATA p k 1) (payload.take 63)).wr (MBX_HDR p k) hdr
    let s := (s.setFlag (MBX_IB_STATUS_FULL p k) true).setFld (MBX_IB_STATUS_TAG p k) (hdrTag hdr)
    s.raiseInfo EV_MBX_FULL (mbxInfo (hdrTag hdr) p k false)

/-- Post the reply of a command: its status in CODE, its TAG, and the payload (R383, R389). -/
def State.postReply (s : State) (p k tag status : Nat) (words : List Word) : State :=
  s.ibWrite p k (BitVec.ofNat 32 (status * 65536 + tag * 256 + words.length)) words

/-- A read of MBX_TAKE[k] (R385). -/
def State.take (s : State) (p k : Nat) : State :=
  if s.flag (MBX_IB_STATUS_FULL p k) then (s.setFlag (MBX_IB_STATUS_FULL p k) false).answer p (.data (s.rd (MBX_HDR p k)))
  else s.answer p (.data 0xFFFFFFFF)

/-- Priard takes the command of OB k (R385, R388). -/
def State.takeCommand (s : State) (p k : Nat) : State :=
  let s := (s.setFlag (MBX_OB_STATUS_FULL p k) false).setFld (MBX_OB_STATUS_STATUS p k) 2
  let s : State := { s with fw := { s.fw with stamps := tabErase s.fw.stamps (4 * p + k), unanswered := s.fw.unanswered ++ [4 * p + k] } }
  s.raiseInfo EV_MBX_TAKEN (mbxInfo (s.fld (MBX_OB_STATUS_TAG p k)) p k false)

/-- OB k holds a command that Priard may take: IB k is empty and no earlier command is unanswered (R388). -/
def State.obReady (s : State) (p k : Nat) : Bool :=
  s.flag (MBX_OB_STATUS_FULL p k) && !s.flag (MBX_IB_STATUS_FULL p k) && !s.fw.unanswered.contains (4 * p + k)

/-- Of the mailboxes that are ready, Priard takes the oldest header write first (R388). -/
def State.obFirst (s : State) (p k : Nat) : Bool :=
  s.fwRuns && s.obReady p k && (List.range 8).all (fun i =>
    !s.obReady (i / 4) (i % 4) || decide (tabGet 0 s.fw.stamps (4 * p + k) ≤ tabGet 0 s.fw.stamps i))

/-! ### The management domain (R340, R386, R393, R395) -/

/-- A group of mailboxes is cleared by a reset or start of Priard, its receiver (R386); `onlyFull`: those that are still FULL. -/
def State.abortOutbound (s : State) (onlyFull : Bool) : State :=
  loop 8 (fun i s => if onlyFull && !s.flag (MBX_OB_STATUS_FULL (i / 4) (i % 4)) then s else s.abortOb (i / 4) (i % 4)) s

/-- Boot ROM reconstructs the identity key from what the PUF yields; none where the BCH decode fails (R340). -/
def State.identity (s : State) (puf : Option (BitVec 384)) : State :=
  match puf with
  | none =>
    let s : State := { s with sec := { s.sec with idKey := 0 } }
    ((s.setFlag SEC_STATUS_ID_VALID false).setFlag SEC_STATUS_ID_FAIL true).raise EV_SEC_ID_FAIL
  | some v =>
    let d := beNat (sha384 (beBytes 48 v.toNat)) % p384N
    let s : State := { s with sec := { s.sec with idKey := d } }
    let s := (s.setFlag SEC_STATUS_ID_VALID true).setFlag SEC_STATUS_ID_FAIL false
    match pointMul 385 d (some p384G) with
    | none => s
    | some (x, y) => s.storeWords (SEC_ID_PUB 0) (bytesToWords 24 (beBytes 48 x ++ beBytes 48 y))

/-- Boot ROM runs: the identity key, and BOOT (R393). -/
def State.boot (s : State) (puf : Option (BitVec 384)) : State :=
  ((s.identity puf).setFld MBX_FW_STATE_STATE 1).setFld MBX_FW_STATE_CAUSE 0

/-- A load that runs is given up with the domain: its descriptor is not completed, and its queue is free again (DESIGN CHOICE, log entry 162). -/
def State.loadDropped (s : State) : State :=
  match s.fw.loading with
  | none => s
  | some (p, q, _, _) => ({ s with dma := { s.dma with consuming := s.dma.consuming.erase (32 * p + q) } } : State).afterItem p q

/-- What a reset of the management domain does to Priard and the mailboxes (R386, R395): commands end, local memory is cleared. -/
def State.mgmtClear (s : State) : State :=
  let s := s.loadDropped.abortOutbound false
  let s : State := { s with fw := { FwState.init with stamps := s.fw.stamps, nextStamp := s.fw.nextStamp, lastRunFrame := s.fw.lastRunFrame } }
  s.dropRegs 0x20000 0x30000

/-- A reset of the management domain alone (R395): EMT_ARM clears, a run ends as by ABORT, the mailboxes follow R386, and the
device passes through OFF into BOOT. -/
def State.mgmtReset (s : State) (cause : Nat) (puf : Option (BitVec 384)) : State :=
  if s.pwr.mgmtInReset then s
  else
    let s := if s.pwr.emissionInReset then s else s.abortRun.setFlag EMT_ARM_ARM false
    let old := s.fwCode
    let s := s.mgmtClear.setFld MBX_FW_RESET_CAUSE_V cause
    let s := s.setFlag PWR_CAUSE_MANAGEMENT true
    (s.raiseInfo EV_FW_STATE (old * 2 ^ 28 + 0x0D)).boot puf

/-! ### Loading Priard (R338, R339, R391 to R394) -/

/-- The load ends without an image (R393 step 5): RESULT, and FW_LOAD_REFUSED. -/
def State.loadRefused (s : State) (result p : Nat) : State :=
  let s : State := { s with fw := { s.fw with loading := none } }
  let s := (s.setFlag MBX_FW_STATUS_BUSY false).setFld MBX_FW_STATUS_RESULT result
  s.raiseInfo EV_FW_LOAD_REFUSED (result * 2 ^ 24 + p * 65536)

/-- A write of MBX_FW_LOAD with GO = 1 that boot ROM sees (R393, R394): the descriptor at HEAD of queue `q` is `d`. -/
def State.loadGo (s : State) (p q : Nat) (d : BitVec 128) : State :=
  if s.fw.loading.isSome then s.setFld MBX_FW_STATUS_RESULT 5
  else
    let s := (s.setFld MBX_FW_LOAD_QUEUE q).setFld MBX_FW_STATUS_PORT p
    let s : State := { s with sec := { s.sec with minSvnClosed := true } }
    match s.consumerDesc p q d with
    | (s, none) => s.loadRefused 4 p
    | (s, some (len, irq)) =>
      let s : State := { s with fw := { s.fw with loading := some (p, q, len, irq), loadAt := s.now },
                                dma := { s.dma with consuming := s.dma.consuming ++ [32 * p + q] } }
      (s.setFlag MBX_FW_STATUS_BUSY true).setFld MBX_FW_STATUS_RESULT 0

/-- The checks of R393 step 3: the magic, the length rules of R391, and a length field that matches LENGTH. -/
def imageFormat (img : List Byte) (len : Nat) : Bool :=
  decide (img.length = len) && decide (len % 16 = 0) && decide (4096 ≤ len) && decide (len ≤ 786432)
    && decide (img.take 4 = [0x50, 0x52, 0x44, 0x31]) && decide (leNat ((img.drop 4).take 4) = len)

/-- The first check of R338 that an image fails; 0 where it passes all three. -/
def State.imageCheck (s : State) (img : List Byte) : Nat :=
  let n := img.length
  let pub := (img.drop (n - 192)).take 96
  if sha384 pub ≠ s.pwr.fuses.keyHash then 1
  else if leNat ((img.drop 8).take 2) < s.rdN SEC_FW_MIN_SVN then 2
  else if !ecdsaVerify pub (img.drop (n - 96)) (sha384 (img.take (n - 96))) then 3
  else 0


/-- Priard writes the vendor's profile of a loop slot that is open (R63, R413): gains, limits and rates; the values are open (log
entry 59), and the slot's own checks apply to them (R47). -/
def State.vendorProfile (s : State) (n : Nat) : State :=
  if s.coefClosed n || (s.slot n).closed then s
  else
    let offs := [0x08, 0x0C, 0x10, 0x14, 0x18, 0x1C, 0x20, 0x28, 0x2C, 0x30]
    offs.foldl (fun (s : State) (o : Nat) => s.coefWrite (0x1000 + 0x80 * n + o) (Config.vendorProfile n o) n n) s

/-- Priard starts (R393 step 4): the profiles of the six slots, the cooler loop closed, STANDBY. -/
def State.startPriard (s : State) : State :=
  let s := s.abortOutbound true
  let s := loop 6 (fun n s => s.vendorProfile n) s
  let s := s.slotCtrlWrite 4 ((s.rd (CTL_SLOT_CTRL 4)) ||| 1)
  ({ s with refused := none } : State).fwEnter 2 1

/-- The last instant at which the verification of an image ends: 60 ms after GO (R393). -/
def State.verifyEnd (s : State) : Nat := s.fw.loadAt + 15360000000

/-- Boot ROM has checked the image (R393, R338, R339); `img` is what the descriptor's buffer holds, none where its transfer met a
PCIe error. The checks run in order, so the first that fails has not read the SVN (R488; log entry 66). The load ends at the last instant that
R393 allows: 60 ms after GO for a refused image, 150 ms for one that has become STANDBY. -/
def State.loadDone (s : State) (img : Option (List Byte)) : State :=
  match s.fw.loading, img with
  | none, _ => s
  | some (p, q, _, irq), none => (s.consumerDone p q 4 0 irq).loadRefused 4 p
  | some (p, q, len, irq), some img =>
    if !imageFormat img len then ((s.advance s.verifyEnd).consumerDone p q 2 0 irq).loadRefused 3 p
    else
      let c := s.imageCheck img
      let svn := leNat ((img.drop 8).take 2)
      if c ≠ 0 then
        let s := (s.advance s.verifyEnd).setFld SEC_BOOT_RESULT c
        ((s.consumerDone p q 2 0 irq).loadRefused 2 p).tamper 7 ((if c = 1 then 0 else svn) * 65536 + c)
      else
        let s := s.advance (s.fw.loadAt + 38400000000)
        let s : State := { s with fw := { s.fw with loading := none } }
        let s := s.consumerDone p q 0 len irq
        let s := (s.setFld SEC_BOOT_RESULT 0).setFld SEC_BOOT_SVN svn
        let s := ((s.setFlag MBX_FW_STATUS_BUSY false).setFlag MBX_FW_STATUS_LOADED true).setFld MBX_FW_STATUS_RESULT 1
        (s.wrN MBX_FW_VERSION (leNat ((img.drop 12).take 4))).startPriard

/-! ### The meanings -/

/-- MAILBOX_COMMAND_SEND (R384). -/
def execMailboxCommandSend (p : Port) (k : Fin 4) (hdr : Word) (payload : List Word) (s : State) : Host.Outcome State Fault Refusal :=
  done (if s.portSilent p then s else s.obWrite (pix p) k hdr payload)

/-- MAILBOX_REPLY_POST (R384, R404): Priard writes a reply with the header and words given. -/
def execMailboxReplyPost (p : Port) (k : Fin 4) (hdr : Word) (payload : List Word) (s : State) : Host.Outcome State Fault Refusal :=
  done (if !s.fwRuns || s.portInReset (pix p) then s else s.ibWrite (pix p) k hdr payload)

/-- MAILBOX_TAKE (R385). -/
def execMailboxTake (p : Port) (k : Fin 4) (s : State) : Host.Outcome State Fault Refusal :=
  done (if s.portSilent p then s.answer (pix p) .unsupported else s.take (pix p) k)

/-- FIRMWARE_LOAD_GO (R393, R394, R401): a write of GO by a port, or by both in one cycle; `q` and `d`: QUEUE and the descriptor at
HEAD for Port A and Port B. -/
def execFirmwareLoadGo (who : WhichPorts) (qa qb : Fin 32) (da db : BitVec 128) (s : State) : Host.Outcome State Fault Refusal :=
  let go := fun (p : Port) (s : State) =>
    s.hostGate p MBX_FW_LOAD true (fun s => match p with | .a => s.loadGo 0 qa da | .b => s.loadGo 1 qb db)
  done (match who with
    | .one p => go p s
    | .both =>
      if s.portSilent .a || s.portSilent .b || s.pwr.mgmtInReset then s
      else if s.fwRuns then go .b (go .a s)
      else
        let w := s.fld POS_TIE_NEXT
        (go (portOf w) s).setFld POS_TIE_NEXT (1 - w))

/-- FIRMWARE_LOAD_DONE (R393). -/
def execFirmwareLoadDone (image : Option (List Byte)) (s : State) : Host.Outcome State Fault Refusal :=
  done (if s.fwCode ≠ 1 then s else s.loadDone image)

/-- WATCHDOG_EXPIRY (R395): Priard, silent from tick `t` on, has been so for 250 ms; boot ROM then reads `puf`. -/
def execWatchdogExpiry (t : Nat) (puf : Option (BitVec 384)) (s : State) : Host.Outcome State Fault Refusal :=
  done (if s.fwRuns then (s.advance (t + 64000000000)).mgmtReset 3 puf else s)

/-- LOCKSTEP_MISMATCH (R395). -/
def execLockstepMismatch (puf : Option (BitVec 384)) (s : State) : Host.Outcome State Fault Refusal := done (s.mgmtReset 2 puf)

end Sys2Proof.Machine
end

