-- ==== Sys2Proof/Machine/Power.lean ====
section
/-! DEFINITION. Supplies, reset domains and the power-on sequence (20_power_reset.md). -/

namespace Sys2Proof.Machine

/-! ### What a domain holds, returned to its reset values (R452) -/

/-- The emission domain enters reset (R452, R453): a run ends as by ABORT; SHT, EMT but EMT_FAULT, FLD, the chain, the red card, the
locks of SEC_CFG, the PENDING bits and FROZEN take their reset values. -/
def State.emissionClear (s : State) : State :=
  let s := s.abortRun.settleChain.forceLow
  let fault := s.rd EMT_FAULT
  let s := (s.dropRegs 0x100000 0x170000).wr EMT_FAULT fault
  let s : State := { s with sht := ShtState.init, emt := { EmtState.init with emonLow := s.emt.emonLow, drive := s.emt.drive }, flood := FldState.init,
                            sec := { s.sec with pendingKeys := [] } }
  let s := (s.setFlag SEC_STATUS_RED_CARD false).setFlag PNT_PKT_STATUS_FROZEN false
  let s := (s.wrN SEC_CFG 0).setFld ⟨SEC_STATUS, 27, 25⟩ 0
  s.setFld SEC_KEY_STATUS_PENDING 0

/-- The registers that a CORE reset leaves: the PWR block and EMT_FAULT, and the THM block where its domain is not reset (R452). -/
def keptRegs (thm : Bool) (l : List (Nat × Word)) : List (Nat × Word) :=
  l.filter (fun (e : Nat × Word) => (0x480000 ≤ e.1 && e.1 < 0x490000) || e.1 = EMT_FAULT
    || (!thm && 0x410000 ≤ e.1 && e.1 < 0x420000))

/-- Every domain but PWR, and but THM unless `thm`, enters reset (R333, R450, R452): what they hold takes its reset value, field memory
and LPDDR5X list nothing (log entry 60), and the lands keep the levels they are driven to from outside. -/
def State.coreReset (s : State) (thm : Bool) : State :=
  { State.reset with
    regs := keptRegs thm s.regs,
    now := s.now,
    thm := if thm then ThmState.init else s.thm,
    pwr := { PwrState.init with
      thmInReset := thm || s.pwr.thmInReset, hard := s.pwr.hard, railOk := s.pwr.railOk, fuses := s.pwr.fuses,
      t0 := s.pwr.t0, hardWaiting := s.pwr.hardWaiting, hardAt := s.pwr.hardAt },
    portA := { PortState.init with perstLow := s.portA.perstLow },
    portB := { PortState.init with perstLow := s.portB.perstLow },
    sec := { SecState.init with ilkA := s.sec.ilkA, ilkB := s.sec.ilkB, emitHeld := s.sec.emitHeld, faultHeld := s.sec.faultHeld,
                                caseHigh := s.sec.caseHigh, jtag := s.sec.jtag },
    emt := { EmtState.init with emonLow := s.emt.emonLow, drive := s.forceLow.emt.drive },
    ctl := { CtlState.init with encA := s.ctl.encA, encB := s.ctl.encB },
    host := s.host, wire := s.wire, freeCount := s.freeCount, pending := s.pending }

/-! ### Requests and shutdowns (R333, R450, R453 to R455) -/

/-- The cause of the next CORE start, one-hot in PWR_CAUSE[31:28] (R457): 8 POWER_UP, 4 BROWNOUT, 2 HARD, 1 HOST_FULL. -/
def State.startCause (s : State) (c : Nat) : State := s.setFld ⟨PWR_CAUSE, 31, 28⟩ c

/-- The emission domain's reset (R453); ignored where the domain is in reset (R454). -/
def State.emissionReset (s : State) : State :=
  if s.pwr.emissionInReset then s
  else
    let s := (s.setFlag PWR_CAUSE_EMISSION true).bump PWR_RESET_COUNT_EMISSION 1
    let s := s.emissionClear
    { s with pwr := { s.pwr with emissionInReset := true, emissionUntil := s.now + 25600000, redAtRelease := none } }

/-- A FULL request (R453): the actions of R333, and a t0 of 10 ms after it. -/
def State.fullReset (s : State) : State :=
  if s.pwr.coreInReset then s
  else
    let s := ((s.startCause 1).bump PWR_RESET_COUNT_HOST_FULL 1).coreReset false
    { s with pwr := { s.pwr with seq := 1, t0 := s.now + 2560000000 } }

/-- A HARD shutdown (R333, R455). -/
def State.hardShutdown (s : State) : State :=
  if s.pwr.hardWaiting then s
  else
    let s := (s.startCause 2).bump PWR_RESET_COUNT_HARD 1
    let s : State := { s with pwr := { s.pwr with hard := true, hardWaiting := true, hardAt := s.now } }
    let s := s.coreReset false
    { s with pwr := { s.pwr with seq := 5 } }

/-- A power-fail (R450): of the rails named, those that were good have failed. -/
def State.powerFail (s : State) (rails : BitVec 9) : State :=
  let failed := s.pwr.railOk &&& rails
  if failed = 0 then s
  else
    let s : State := { s with pwr := { s.pwr with railOk := s.pwr.railOk &&& ~~~rails, hardWaiting := false } }
    let s := ((s.startCause 4).setFld PWR_CAUSE_RAILS failed.toNat).bump PWR_RESET_COUNT_BROWNOUT 1
    s.coreReset true

/-- VIO falls below 1.2 V: the PWR domain itself is lost, and the next start is a power-up (R450). -/
def State.powerLost (s : State) : State :=
  let x := s.coreReset true
  { x with regs := [], now := 0, pwr := PwrState.init }

/-- Every valid reading lies below CRITICAL minus `h` of its zone (R449, R455). -/
def State.belowCritical (s : State) (h : Int) : Bool :=
  (List.range 28).all (fun i =>
    let t := s.therm i
    !t.started || s.thermFailed i || decide (t.reading < s.level (inDetZone i) 2 - h))

/-- PWR_HARD_ACK (R455): effective once the recovery has begun. -/
def State.hardAck (s : State) : State :=
  if s.pwr.hardWaiting then s else { s with pwr := { s.pwr with hard := false } }

/-- A write of PWR_RESET (R453); `puf`: what the PUF yields where the management domain is reset. -/
def State.pwrResetWrite (s : State) (v : Word) (puf : Option (BitVec 384)) : State :=
  if v.toNat / 2 ^ 24 ≠ 0xA5 then s.refuse PWR_CFG_ERR EV_PWR_CFG_ERROR 1 0
  else
    let d := v.toNat % 4
    if d = 1 then s.emissionReset
    else if d = 2 then s.mgmtReset 5 puf
    else if d = 3 then s.fullReset
    else s.refuse PWR_CFG_ERR EV_PWR_CFG_ERROR 2 0

/-- A write of the PWR block. -/
def State.pwrWrite (s : State) (off : Nat) (v : Word) (puf : Option (BitVec 384)) : State :=
  if off = PWR_RESET then s.pwrResetWrite v puf
  else if off = PWR_HARD_ACK then (if v.toNat % 2 = 1 then s.hardAck else s)
  else s.plainWrite off off v

/-! ### The sequence (R449) -/

/-- The fuse step (R449): a parity failure holds every domain but PWR in reset. -/
def State.fuseStep (s : State) (bank : FuseBank) (parityOk : Bool) : State :=
  let s := s.advance (s.pwr.t0 + 256000000)
  if parityOk then
    let s : State := { s with pwr := { s.pwr with fuseOk := true, fuses := bank, seq := 2 } }
    s.wr PWR_LIFE_SEED bank.lifeSeed
  else { s with pwr := { s.pwr with seq := 5 } }

/-- The fused values of a thermometer's registers (R335). -/
def State.fusedTherm (s : State) (i : Nat) : State :=
  let e := s.pwr.fuses.therm.getD i (0, 0, 0)
  ((s.wr (THM_TRIM i) e.1).wr (THM_NEIGH i) e.2.1).wr (THM_NEIGH_OFS i) e.2.2

/-- The THM domain is released (R449). -/
def State.thmRelease (s : State) : State :=
  let s := s.advance (s.pwr.t0 + 768000000)
  let was := s.pwr.thmInReset
  let s : State := { s with pwr := { s.pwr with thmInReset := false, seq := 3 } }
  if was then loop 28 (fun i s => s.fusedTherm i) { s with thm := { s.thm with windowAt := s.now } } else s

/-- The emission domain is released: the pulse-density periods run from now on (R94), and EMON_FLT_N, with the drivers' flags where it is low,
latches a fault (R91). -/
def State.emissionRelease (s : State) (emon : Option DriverFlags) : State :=
  let s : State := { s with pwr := { s.pwr with emissionInReset := false }, flood := { s.flood with periodAt := s.now },
                            emt := { s.emt with emonLow := emon.isSome } }
  match emon with
  | some f => s.emitterFault none true f
  | none => s

/-- The security block leaves reset (R346, R351): the mesh detector is armed, what the interlock lands hold counts from now on, and a case that
has been open for 1 ms is reported as a new occurrence. -/
def State.armSecurity (s : State) : State :=
  let s : State := { s with sec := { s.sec with meshAt := s.now, ilkSince := none, agreeSince := none, permitting := false } }
  let s := s.ilkLands s.now s.sec.ilkA s.sec.ilkB
  match s.sec.caseHigh with
  | some t => if t + 256000000 ≤ s.now then s.tamperStanding 1 0 else s
  | none => s

/-- The other domains are released and boot ROM starts (R449, R393). A port is down until its link comes up (R359). -/
def State.coreRelease (s : State) (puf : Option (BitVec 384)) (emon : Option DriverFlags) : State :=
  let s := s.advance (s.pwr.t0 + 1024000000)
  let s : State := { s with pwr := { s.pwr with coreInReset := false, mgmtInReset := false, portInReset := [false, false], seq := 4 },
                            det := { s.det with surveyAt := s.now }, bgt := { s.bgt with overStart := s.now },
                            lnp := { s.lnp with checkAt := s.now, scrubAt := s.now }, cal := { s.cal with voteAt := s.now }, thm := { s.thm with trimAt := s.now },
                            portA := { s.portA with down := true }, portB := { s.portB with down := true } }
  let s := s.armSecurity.emissionRelease emon
  let f := s.pwr.fuses
  let s := s.wrN GLB_GRADE f.grade.toNat
  let s := (s.wrN GLB_SERIAL_LO (f.serial.toNat % 2 ^ 32)).wrN GLB_SERIAL_HI (f.serial.toNat / 2 ^ 32)
  let s := ({ s with net := { s.net with members := [s.serial], helloAt := s.now, timeAt := s.now, unsyncedAt := s.now } } : State).showMembers
  (s.setFld MBX_FW_RESET_CAUSE_V (if s.flag PWR_CAUSE_POWER_UP then 1 else 5)).boot puf

/-! ### The meanings -/

/-- RAILS_AND_CLOCKS_GOOD (R449): the last rail has become good at tick `rails`, and both reference clocks run within their limits from tick
`clocks` on, without a break; t0 is the instant at which the rails are good and the clocks have run for 1 ms. -/
def execRailsAndClocksGood (rails clocks : Nat) (s : State) : Host.Outcome State Fault Refusal :=
  done (if s.pwr.seq ≠ 0 then s
    else
      let s := s.advance (max rails (clocks + 256000000))
      { s with pwr := { s.pwr with railOk := 0x1FF, t0 := s.now, seq := 1 } })

/-- FUSE_BANK_READ (R449): at t0 + 1 ms. -/
def execFuseBankRead (bank : FuseBank) (parityOk : Bool) (s : State) : Host.Outcome State Fault Refusal :=
  done (if s.pwr.seq = 1 then s.fuseStep bank parityOk else s)

/-- THM_DOMAIN_RELEASE (R449): at t0 + 3 ms. -/
def execThmDomainRelease (s : State) : Host.Outcome State Fault Refusal :=
  done (if s.pwr.seq = 2 then s.thmRelease else s)

/-- CORE_DOMAINS_RELEASE (R449): at t0 + 4 ms, or later when no valid reading stands at or above CRITICAL any more. -/
def execCoreDomainsRelease (puf : Option (BitVec 384)) (emon : Option DriverFlags) (s : State) : Host.Outcome State Fault Refusal :=
  done (if s.pwr.seq = 3 && s.belowCritical 0 then s.coreRelease puf emon else s)

/-- PERST_N_RISE (R449, R359). -/
def execPerstNRise (p : Port) (s : State) : Host.Outcome State Fault Refusal :=
  done (s.setPort (pix p) { s.port (pix p) with perstLow := false })

/-- PWR_DDR_READY (R449): LPDDR5X training completes, at the latest 40 ms after t0. -/
def execPwrDdrReady (s : State) : Host.Outcome State Fault Refusal :=
  done (if s.pwr.seq = 4 && !s.pwr.ddrReady then
      let s := s.advance (s.pwr.t0 + 10240000000)
      ({ s with pwr := { s.pwr with ddrReady := true } } : State).raise EV_PWR_DDR_READY
    else s)

/-- RAIL_FAIL (R450): the rails named have stood below their falling thresholds since tick `t` and do so for 1 µs; `vio`: VIO in mV. Below
1.2 V the PWR domain itself is lost. -/
def execRailFail (t : Nat) (rails : BitVec 9) (vio : BitVec 12) (s : State) : Host.Outcome State Fault Refusal :=
  let s := s.advance (t + 256000)
  done (if vio.toNat < 1200 then s.powerLost else s.powerFail rails)

/-- PWR_RESET_EMISSION (R453). -/
def execPwrResetEmission (p : Port) (s : State) : Host.Outcome State Fault Refusal :=
  done (s.hostGate p PWR_RESET false (fun s => s.pwrResetWrite 0xA5000001 none))

/-- EMISSION_DOMAIN_RELEASE (R453, R454): a red card decided in the meantime is carried out now. -/
def execEmissionDomainRelease (emon : Option DriverFlags) (s : State) : Host.Outcome State Fault Refusal :=
  done (if s.pwr.coreInReset || !s.pwr.emissionInReset then s
    else
      let s := s.advance s.pwr.emissionUntil
      let red := s.pwr.redAtRelease
      let s := ({ s with pwr := { s.pwr with redAtRelease := none } } : State).emissionRelease emon
      match red with
      | some src => s.redCard src
      | none => s)

/-- PWR_RESET_MANAGEMENT (R453, R395). -/
def execPwrResetManagement (p : Port) (puf : Option (BitVec 384)) (s : State) : Host.Outcome State Fault Refusal :=
  done (s.hostGate p PWR_RESET false (fun s => s.pwrResetWrite 0xA5000002 puf))

/-- PWR_RESET_FULL (R453). -/
def execPwrResetFull (p : Port) (s : State) : Host.Outcome State Fault Refusal :=
  done (s.hostGate p PWR_RESET false (fun s => s.pwrResetWrite 0xA5000003 none))

/-- PWR_RESET_REFUSED (R453): a write whose KEY is not 0xA5, or whose DOMAIN is 0. -/
def execPwrResetRefused (p : Port) (key : BitVec 8) (domain : BitVec 2) (s : State) : Host.Outcome State Fault Refusal :=
  done (if key = 0xA5 && domain ≠ 0 then s
    else s.hostGate p PWR_RESET false (fun s =>
      s.pwrResetWrite (BitVec.ofNat 32 (key.toNat * 2 ^ 24 + domain.toNat)) none))

/-- HARD_RECOVERY_START (R455): every valid reading has stayed below CRITICAL minus HYST for 10 s. -/
def execHardRecoveryStart (s : State) : Host.Outcome State Fault Refusal :=
  done (if s.pwr.hardWaiting && s.belowCritical s.hyst then
      let s := s.advance (s.pwr.hardAt + 2560000000000)
      { s with pwr := { s.pwr with hardWaiting := false, t0 := s.now, seq := 1 } }
    else s)

/-- PWR_HARD_ACK (R455). -/
def execPwrHardAck (p : Port) (s : State) : Host.Outcome State Fault Refusal :=
  done (s.hostGate p PWR_HARD_ACK false State.hardAck)

end Sys2Proof.Machine
end

