-- ==== Sys2Proof/Machine/HostAccess.lean ====
section
/-! DEFINITION. Host reads and writes of BAR0 (R16 to R18, R360, R361, R452): what each register reads, the actions reads have, and
the block a write reaches. -/

namespace Sys2Proof.Machine

/-! ### Places (R361) -/

/-- A view of the other port's DMA or EVT bank (R361). -/
def otherView (off : Nat) : Bool := (0x38000 ≤ off && off < 0x40000) || (0x60000 ≤ off && off < 0x80000)

/-- The offset of the register that an offset shows: the views of the other port's banks show the banks' registers. -/
def tableOff (off : Nat) : Nat :=
  if 0x38000 ≤ off && off < 0x40000 then off - 0x8000
  else if 0x60000 ≤ off && off < 0x80000 then off - 0x20000
  else off

/-- The place in the register file that an offset names for port `p`. -/
def viewKey (p off : Nat) : Nat :=
  if otherView off then bank (1 - p) + tableOff off
  else if (0x30000 ≤ off && off < 0x80000) || 0x3F00000 ≤ off then bank p + off
  else off

/-! ### Registers that show the state (R15) -/

/-- MBX_SUMMARY (R403). -/
def State.mbxSummary (s : State) : Nat :=
  let n := fun (f : Nat → Bool) => (List.range 4).foldl (fun a k => a + 2 ^ k * b2n (f k)) 0
  n (fun k => s.flag (MBX_OB_STATUS_FULL 0 k)) + 2 ^ 8 * n (fun k => s.flag (MBX_IB_STATUS_FULL 0 k))
    + 2 ^ 16 * n (fun k => s.flag (MBX_OB_STATUS_FULL 1 k)) + 2 ^ 24 * n (fun k => s.flag (MBX_IB_STATUS_FULL 1 k))

/-- Priard sleeps (R387): in STANDBY, with no command in progress or waiting and no reply standing in an inbound mailbox (DEDUCED: it
sleeps whenever R387 allows it; log entry 65). -/
def State.fwSleeps (s : State) : Bool :=
  decide (s.fwCode = 2) && s.fw.unanswered.isEmpty && s.fw.longs.isEmpty && decide (s.mbxSummary = 0)

/-- PWR_STATUS (R457). -/
def State.pwrStatus (s : State) : Nat :=
  2 ^ 31 * b2n s.pwr.ddrReady + 2 ^ 30 * b2n s.pwr.fuseOk + 2 ^ 29 * b2n s.pwr.hard + 2 ^ 21 * b2n (s.portInReset 1)
    + 2 ^ 20 * b2n (s.portInReset 0) + 2 ^ 19 * b2n s.pwr.mgmtInReset + 2 ^ 18 * b2n s.pwr.emissionInReset
    + 2 ^ 17 * b2n s.pwr.coreInReset + 2 ^ 16 * b2n s.pwr.thmInReset + s.pwr.railOk.toNat

/-- PWR_UPTIME: milliseconds since power-up (R457). -/
def State.uptime (s : State) : Nat := s.now / 256000000

/-- PNT_STATUS (R194). -/
def State.pntStatus (s : State) : Nat :=
  s.fld (LNP_POOL_BENCH_LEFT 1) * 2 ^ 24 + s.fld (LNP_POOL_SENT_OFF 1) * 2 ^ 16 + s.fld (LNP_POOL_IN_SERVICE 1) * 256 + b2n s.kernelActive

/-- PNT_ENG_STATUS of an engine: its role and channels by the map in force, and its error counts. -/
def State.engStatus (s : State) (e : Nat) : Word :=
  let n := ((List.range 192).filter (fun c => mapEngine s.lnp.map c = e)).length
  let w := (PNT_ENG_STATUS_ROLE e).put (s.rd (PNT_ENG_STATUS e)) (mapState s.lnp.map 1 e)
  (PNT_ENG_STATUS_CH_COUNT e).put w (if mapState s.lnp.map 1 e = 0 then n else 0)

/-- The statistics set a port reads (R238). -/
def State.statSet (s : State) (p : Nat) : Option StatSet :=
  match (s.port p).statSel with
  | some q => s.isp.published.find? (fun (t : StatSet) => t.id = q)
  | none => s.isp.published.getLast?

/-- The registers of the selected statistics set (R236 to R238). -/
def StatSet.view (t : StatSet) (off : Nat) : Nat :=
  if off = ISP_STAT_GEN then t.oldLines % 65536 * 65536 + t.gen % 65536
  else if off = ISP_STAT_LINES then 2 ^ 31 * b2n t.reproc + 2 ^ 30 * b2n t.short + t.lines % 65536
  else if off < 0x341C00 then t.zone ((off - 0x341000) / 16) ((off - 0x341000) % 16 / 4)
  else if off < 0x342000 then t.zcnt ((off - 0x341C00) / 4)
  else t.bin ((off - 0x342000) / 1024) ((off - 0x342000) % 1024 / 4)

/-- An offset of the statistics set. -/
def isStat (off : Nat) : Bool :=
  off = ISP_STAT_GEN || off = ISP_STAT_LINES || (0x341000 ≤ off && off < 0x341F00) || (0x342000 ≤ off && off < 0x343000)

/-- The registers whose value follows from the state; none for the others. -/
def State.computed (s : State) (p off : Nat) : Option Word :=
  let n := fun (v : Nat) => some (BitVec.ofNat 32 v)
  if off = POS_OWN then n (s.heldBy 1 * 65536 + s.heldBy 0)
  else if off = GLB_LINE then some (if s.grid.running then s.rd GLB_LINE else 0xFFFF)
  else if off = MBX_SUMMARY then n s.mbxSummary
  else if off = MBX_FW_STATE then some (MBX_FW_STATE_SLEEP.put (s.rd MBX_FW_STATE) (b2n s.fwSleeps))
  else if off = PWR_STATUS then n s.pwrStatus
  else if off = PWR_UPTIME_LO then n (s.uptime % 2 ^ 32)
  else if off = PWR_UPTIME_HI then n (s.uptime / 2 ^ 32)
  else if off = NET_TIME_LO then n (s.ns % 2 ^ 32)
  else if off = NET_TIME_HI then n (s.ns / 2 ^ 32)
  else if off = DET_STATUS then some s.detStatus
  else if 0x171000 ≤ off && off < 0x171C00 && off % 16 = 12 then some (s.chStatus ((off - 0x171000) / 16))
  else if off = TDC_STATUS then some s.tdcStatus
  else if off = LNP_QUERY_DATA then some (s.elementView s.lnp.query.1 s.lnp.query.2)
  else if 0xC1000 ≤ off && off < 0xC1800 then some (mapGet s.lnp.map ((off - 0xC1000) / 4))
  else if 0x150000 ≤ off && off < 0x152000 then
    n (s.patWord (1 - s.emt.activeBank) ((off - 0x150000) / 32) ((off - 0x150000) % 32 / 4))
  else if 0x152000 ≤ off && off < 0x154000 then
    n (s.patWord s.emt.activeBank ((off - 0x152000) / 32) ((off - 0x152000) % 32 / 4))
  else if off = PNT_STATUS then n s.pntStatus
  else if 0x280100 ≤ off && off < 0x2801D0 then some (s.engStatus ((off - 0x280100) / 4))
  else if off = PNT_PKT_STATUS then some (PNT_PKT_STATUS_KEY_VALID.put (s.rd PNT_PKT_STATUS) (b2n (s.keyValid 1)))
  else if off = IMG_STATUS then some s.imgStatus
  else if isStat off then n ((s.statSet p).elim 0 (fun t => t.view off))
  else if 0x420030 ≤ off && off < 0x42003C then some (s.copyView ((off - 0x420030) / 4))
  else s.adcView p off

/-- What register `off` holds as port `p` sees it, without any action of a read (R16, R18). -/
def State.view (s : State) (p off : Nat) : Word :=
  match accOf (tableOff off) with
  | none => 0
  | some (.wo, _) => 0
  | some _ => if otherView off then s.rd (viewKey p off) else (s.computed p off).getD (s.rd (viewKey p off))

/-! ### Reads (R17, R18, R359 to R361) -/

/-- Low halves, with the register each latches (R17, R218, R465). -/
def latchPairs (off : Nat) : Option Nat :=
  if off = GLB_FRAME then some GLB_LINE
  else if off = IMG_APPLIED_FRAME then some IMG_GEN
  else if off = SHT_SERVE_NONCE_LO || off = PNT_PKT_SEQ_LO || off = NET_TIME_LO || off = NET_TIME_STEP_LO || off = PWR_UPTIME_LO
      || off = GLB_SERIAL_LO then some (off + 4)
  else if 0x171000 ≤ off && off < 0x171C00 && off % 16 = DET_SPAD_EN_LO 0 % 16 then some (off + 4)
  else if 0x172800 ≤ off && off < 0x172E00 && off % 8 = 0 then some (off + 4)
  else if 0x30100 ≤ off && off < 0x30500 && off % 32 = DMA_Q_BASE_LO 0 0 % 32 then some (off + 4)
  else if off = EVT_RING_BASE_LO 0 then some (off + 4)
  else if 0x448100 ≤ off && off < 0x448140 && off % 8 = 0 then some (off + 4)
  else if 0x430200 ≤ off && off < 0x430300 && off % 16 = 4 then some (off + 4)
  else none

/-- The actions of a read by port `p` (R17, R18, R218, R238, R267, R283, R364). -/
def State.readActions (s : State) (p off : Nat) : State :=
  let s := match latchPairs off with
    | some h => s.setPort p { s.port p with latches := tabPut (s.port p).latches h (s.view p h) }
    | none => s
  if otherView off then s
  else if off = ISP_STAT_INFO then
    s.setPort p { s.port p with statSel := (s.isp.published.getLast?).map (fun (t : StatSet) => t.id) }
  else if off = ADC_SEQ_NUM then
    s.setPort p { s.port p with adcSel := (s.adc.kept.head?).map (fun (e : AdcSet) => e.seq) }
  else if !s.possesses (portOf p) off then s
  else
    match accOf off with
    | some (.rc, _) => s.wr (viewKey p off) 0
    | some (.rt, _) => if 0x3C1000 ≤ off && off < 0x3C1C00 then s.restartDetectors ((off - 0x3C1000) / 256) else s
    | _ => s

/-- A read of BAR0 offset `off` by port `p`: what it answers, and its actions. A high half latched by the port answers the latched
value once (R17). -/
def State.hostRead (s : State) (p : Port) (off : Nat) : State :=
  let i := pix p
  if s.portSilent p then s.answer i .unsupported
  else if s.blkInReset (tableOff off) then s.answer i (.data 0)
  else if 0x10000 ≤ off && off < 0x10040 then s.acquire i ((off - 0x10000) / 4)
  else
    match (s.port i).latches.find? (fun (e : Nat × Word) => e.1 = off) with
    | some (_, w) => (s.setPort i { s.port i with latches := tabErase (s.port i).latches off }).answer i (.data w)
    | none =>
      let w := s.view i off
      (s.readActions i off).answer i (.data w)

/-! ### Writes (R18, R361, R401) -/

/-- The write touches a firmware-owned register or field (R401). -/
def fwOwned (off : Nat) (v : Word) : Bool :=
  off = SHT_RUN || off = EMT_ARM || off = THM_STOP_DONE || off = SEC_KEY_CMD || off = SEC_CFG || off = SEC_RESP
    || off = SEC_PIN_CLEAR || off = SEC_FAULT_FORCE || off = MBX_FW_LOAD || (off = SEC_ILK && v.toNat % 2 = 1)

/-- A write of a register reaches its block (R18, R361). `host`: from a host port, not from Priard; `c`: what a re-arm finds (R92);
`puf`: what the PUF yields where the write resets the management domain. A write of MBX_FW_LOAD with GO = 1 has its own command. -/
def State.writeReg (s : State) (p off : Nat) (v : Word) (host : Bool) (c : RearmChecks) (puf : Option (BitVec 384)) : State :=
  if (accOf (tableOff off)).isNone || otherView off then s
  else
    match blkOf off with
    | none => s
    | some b =>
      match b with
      | .glb => s.plainWrite off off v
      | .pos => if off < 0x10040 && v.toNat % 2 = 1 then s.release p ((off - 0x10000) / 4) else s
      | .mbx => if off = MBX_FW_LOAD && v.toNat < 2 ^ 31 then s.plainWrite off off v else s
      | .dma => s.dmaWrite p (off - 0x30000) v
      | .evt => s.evtWrite p (off - 0x40000) v
      | .bgt => s.bgtWrite off v
      | .lnp => s.lnpWrite off v
      | .sht => s.shtWrite off v
      | .emt => s.emtWrite off v c
      | .fld => s.fldWrite off v
      | .det => s.detWrite off v
      | .tdc => s.tdcWrite off v
      | .hst => s.hstWrite off v
      | .pnt => s.pntWrite off v
      | .img => s.imgWrite off v
      | .isp => s.ispWrite off v
      | .ctl => s.ctlWrite off v
      | .afe => s.afeWrite off v
      | .adc => s.adcWrite off v
      | .thm => s.thmWrite off v
      | .cal => s.calWrite off v
      | .sec => s.secWrite off v host
      | .net => s.netWrite off v
      | .chn => s.chnWrite off v
      | .pwr => s.pwrWrite off v puf
      | .msixTable => s.msixWrite p (off - 0x3F00000) v
      | .msixPba => s

/-! ### The meanings -/

/-- REGISTER_WRITE (R361): a host write of any register, under the access rules. -/
def execRegisterWrite (p : Port) (off : BitVec 26) (v : Word) (c : RearmChecks) (puf : Option (BitVec 384)) (s : State) :
    Host.Outcome State Fault Refusal :=
  done (s.hostGate p off.toNat (fwOwned off.toNat v) (fun s => s.writeReg (pix p) off.toNat v true c puf))

/-- RC_READ (R18, R361): a read of an RC register. -/
def execRcRead (p : Port) (off : BitVec 26) (s : State) : Host.Outcome State Fault Refusal := done (s.hostRead p off.toNat)

/-- LOW_HALF_READ (R17): a read of the low half of a 64-bit register. -/
def execLowHalfRead (p : Port) (off : BitVec 26) (s : State) : Host.Outcome State Fault Refusal := done (s.hostRead p off.toNat)

/-- IMG_APPLIED_FRAME_READ (R218). -/
def execImgAppliedFrameRead (p : Port) (s : State) : Host.Outcome State Fault Refusal := done (s.hostRead p IMG_APPLIED_FRAME)

/-- ISP_STAT_INFO_READ (R238). -/
def execIspStatInfoRead (p : Port) (s : State) : Host.Outcome State Fault Refusal := done (s.hostRead p ISP_STAT_INFO)

/-- FLT_PEAK_READ (R267). -/
def execFltPeakRead (p : Port) (j : Fin 12) (s : State) : Host.Outcome State Fault Refusal := done (s.hostRead p (FLT_PEAK j))

/-- ADC_SEQ_NUM_READ (R283). -/
def execAdcSeqNumRead (p : Port) (s : State) : Host.Outcome State Fault Refusal := done (s.hostRead p ADC_SEQ_NUM)

/-- GLB_FRAME_READ (R465). -/
def execGlbFrameRead (p : Port) (s : State) : Host.Outcome State Fault Refusal := done (s.hostRead p GLB_FRAME)

end Sys2Proof.Machine
end

