-- ==== Sys2Proof/Machine/System.lean ====
section
/-! DEFINITION. Happenings that meet several blocks: a window of the thermometers, whose readings may shut the device down
(R326 to R333, R346, R455), the reference trim (R334), and an alarm from a sibling (R440). -/

namespace Sys2Proof.Machine

/-- The end of a window for the blocks that act on the readings (R326, R346, R455). -/
def State.windowEnd (s : State) (counts : List Nat) : State :=
  let (s, hard) := s.thermWindow counts
  let s := if s.belowCritical s.hyst then s else { s with pwr := { s.pwr with hardAt := s.now } }
  let s := if s.pwr.coreInReset then s
    else match s.tempStep with
      | some (i, n) => s.tamper 4 (n * 256 + i)
      | none => s
  if hard then s.hardShutdown else s.stepWithoutGrid

/-- THERMOMETER_WINDOW_END (R326): 250 µs after the window before it; the 28 counts of the window. -/
def execThermometerWindowEnd (counts : List Nat) (s : State) : Host.Outcome State Fault Refusal :=
  done (if s.pwr.thmInReset then s
    else
      let s := s.advance (s.thm.windowAt + 64000000)
      ({ s with thm := { s.thm with windowAt := s.now } } : State).windowEnd counts)

/-- REFERENCE_TRIM_UPDATE (R334): every 10 ms. The code computed from fused coefficients, which the spec does not give, is a free value (log
entry 61); it applies at the next sequence boundary. -/
def execReferenceTrimUpdate (s : State) : Host.Outcome State Fault Refusal :=
  done (s.inCore (fun s =>
    let s := s.advance (s.thm.trimAt + 2560000000)
    let (v, s) := s.fresh
    { s with adc := { s.adc with trimNext := some v }, thm := { s.thm with trimAt := s.now } }))

/-- CHAIN_ALARM_RECEIVED (R440, R346, R488): at tick `t` on link `c`, of the level and tamper source the frame carries. -/
def execChainAlarmReceived (t : Nat) (c : Fin 2) (level : BitVec 2) (src : BitVec 8) (s : State) : Host.Outcome State Fault Refusal :=
  let s := s.advance t
  done (s.inCore (fun s =>
    if s.linkEnabled c && (s.link c).up then
      (s.setLink c { s.link c with goodAt := s.now }).tamper 6 (c.val * 2 ^ 24 + level.toNat * 65536 + src.toNat)
    else s))

end Sys2Proof.Machine
end

