-- ==== Sys2Proof/Machine/Commands.lean ====
section
/-! DEFINITION. How Priard judges and carries out a Sceso command (18_commands.md, R405 to R410), and the session and configuration
commands (R411 to R415). -/

namespace Sys2Proof.Machine

/-! ### Judging a command (R405 to R408) -/

/-- What the Command Reference states of a command: its code; the payloads of an allowed LENGTH; the reserved bits of the payload
words from word 1 on; the word out of its range; the states in which it is legal; its kind of long command; and the groups it
changes. -/
structure CmdSpec where
  code : Nat
  lenOk : List Word → Bool
  reserved : List Nat
  range : List Word → Option Nat
  states : List Nat
  kind : List Nat
  groups : List Word → Nat

/-- STANDBY to FAULT_HOLD (R392). -/
def allStates : List Nat := [2, 3, 4, 5, 6, 7]

/-- A command with a payload of `n` words, legal in every state, that changes no group. -/
def CmdSpec.plain (code n : Nat) : CmdSpec := ⟨code, fun w => w.length = n, [], fun _ => none, allStates, [], fun _ => 0⟩

/-- Kinds of long commands by the codes that belong to them (R408). -/
def kindPolygon : List Nat := [0x0301, 0x0307]
def kindRun : List Nat := [0x0302, 0x0303]
def kindCommit : List Nat := [0x0203, 0x0204, 0x0401, 0x0405]
def kindCalxfer : List Nat := [0x0501, 0x0502, 0x0503, 0x0504]
def kindMemimg : List Nat := [0x0403, 0x0404]

/-- Word `i` of a payload, counted from 1 (R383). -/
def arg (w : List Word) (i : Nat) : Nat := (w.getD (i - 1) 0).toNat

/-- The first payload word with a reserved bit set (R405, step 3). -/
def reservedSet : Nat → List Nat → List Word → Option Nat
  | _, [], _ => none
  | _, _, [] => none
  | i, m :: ms, w :: ws => if w.toNat &&& m ≠ 0 then some i else reservedSet (i + 1) ms ws

/-- The groups named that the other port holds (R407). -/
def State.heldByOther (s : State) (p groups : Nat) : Nat := s.heldBy (1 - p) &&& groups

/-- The code of a running long command of a kind (R408). -/
def State.runningOf (s : State) (kind : List Nat) : Option Nat :=
  (s.fw.longs.find? (fun (l : LongCmd) => kind.contains l.code)).map (fun l => l.code)

/-- The first check of R405, steps 2 to 7, that a command fails: the status and the payload of the reply. -/
def State.judge (s : State) (p : Nat) (c : CmdSpec) (w : List Word) : Option (Nat × List Nat) :=
  if !c.lenOk w then some (0x0102, [0])
  else match reservedSet 1 c.reserved w with
    | some i => some (0x0103, [i])
    | none => match c.range w with
      | some i => some (0x0104, [i])
      | none =>
        if !c.states.contains s.fwCode then some (0x0201, [s.fwCode])
        else match s.runningOf c.kind with
          | some code => some (0x0203, [code])
          | none =>
            let held := s.heldByOther p (c.groups w)
            if held ≠ 0 then some (0x0202, [held]) else none

/-- How the first part of a command ends: a reply at once, or later, with what the command keeps until then. -/
inductive CmdEnd where
  | now (status : Nat) (words : List Nat)
  | later (notes : List Nat)

/-- The payload of OB k. -/
def State.obPayload (s : State) (p k : Nat) : List Word :=
  (List.range (hdrLen (s.rd (MBX_OB_HDR p k)))).map (fun i => s.rd (MBX_OB_DATA p k (i + 1)))

/-- Post the reply of a command that has not been ended meanwhile by a reset (R386, R408). -/
def State.reply (s : State) (p k tag status : Nat) (words : List Nat) : State :=
  if s.fwRuns && s.fw.unanswered.contains (4 * p + k) then s.postReply p k tag status (words.map (BitVec.ofNat 32)) else s

/-- Priard takes the command of OB k, judges it, and carries out its first part (R388, R405). -/
def State.carryOut (s : State) (p k : Nat) (c : CmdSpec) (f : List Word → State → State × CmdEnd) : State :=
  let tag := hdrTag (s.rd (MBX_OB_HDR p k))
  let w := s.obPayload p k
  let s := (s.takeCommand p k).flush
  match s.judge p c w with
  | some (status, words) => s.reply p k tag status words
  | none =>
    match f w { s with refused := none } with
    | (s, .now status words) => s.reply p k tag status words
    | (s, .later notes) =>
      { s with fw := { s.fw with longs := s.fw.longs ++ [⟨p, k, tag, c.code, w, false, 0, s.now, notes⟩] } }

/-- A command is served when Priard may take it next, and its header carries the code (R388). -/
def State.serve (s : State) (p : Port) (k : Fin 4) (c : CmdSpec) (f : List Word → State → State × CmdEnd) : State :=
  if s.obFirst (pix p) k && hdrCode (s.rd (MBX_OB_HDR (pix p) k)) = c.code then s.carryOut (pix p) k c f else s

/-- Priard's writes of single registers do not reach EMT_REARM, so nothing is found by its checks. -/
def noChecks : RearmChecks := ⟨false, ⟨[], []⟩, [], false⟩

/-- Priard writes a register: no access rule of the ports stops it; a block in reset takes nothing (R361, R452). -/
def State.fwDo (s : State) (off : Nat) (v : Word) : State :=
  if s.blkInReset off then s else s.writeReg 0 off v false noChecks none

/-- Priard writes a register with a field replaced. -/
def State.fwField (s : State) (f : Fld) (v : Nat) : State := s.fwDo f.reg (f.put (s.rd f.reg) v)

/-- The registers named hold again what they held in `old`: a command that is refused changes nothing (R409). -/
def State.restore (s old : State) (offs : List Nat) : State := offs.foldl (fun (s : State) (o : Nat) => s.wr o (old.rd o)) s

/-- The bits of a register that its table leaves reserved. -/
def reservedOf (off : Nat) : Nat := 2 ^ 32 - 1 - ((accOf off).elim 0 (fun e => e.2))

/-! ### Session (R411, R412) -/

/-- IDENTIFY (R411). -/
def execIdentify (p : Port) (k : Fin 4) (s : State) : Host.Outcome State Fault Refusal :=
  done (s.serve p k (CmdSpec.plain 0x0101 0) (fun _ s =>
    (s, .now 0 [s.rdN MBX_FW_VERSION, 0x10000 + s.fld SEC_BOOT_SVN, pix p * 256 + s.fwCode, s.rdN GLB_SERIAL_LO, s.rdN GLB_SERIAL_HI,
                s.fld GLB_GRADE_GRADE * 256 + 0xB0, s.rdN SEC_KEY_STATUS, s.rdN EMT_CHAIN])))

/-- ECHO (R411). -/
def execEcho (p : Port) (k : Fin 4) (s : State) : Host.Outcome State Fault Refusal :=
  done (s.serve p k { CmdSpec.plain 0x0102 0 with lenOk := fun w => decide (w.length ≤ 63) } (fun w s =>
    (s, .now 0 (w.map (fun x => x.toNat)))))

/-- RESTART (R411, R412): the reply, and 1 ms later the reset of the management domain; boot ROM then reads `puf`. -/
def execRestart (p : Port) (k : Fin 4) (puf : Option (BitVec 384)) (s : State) : Host.Outcome State Fault Refusal :=
  let c : CmdSpec := { CmdSpec.plain 0x0103 1 with range := fun w => if arg w 1 = 0xA55A then none else some 1 }
  let go := s.obFirst (pix p) k && hdrCode (s.rd (MBX_OB_HDR (pix p) k)) = c.code
    && (s.judge (pix p) c (s.obPayload (pix p) k)).isNone
  let s := s.serve p k c (fun _ s => (s, .now 0 []))
  done (if go then
      let s := s.flush
      (s.advance (s.now + 256000000)).mgmtReset 4 puf
    else s)

/-- STATUS (R411). -/
def execStatus (p : Port) (k : Fin 4) (s : State) : Host.Outcome State Fault Refusal :=
  done (s.serve p k (CmdSpec.plain 0x0104 0) (fun _ s =>
    (s, .now 0 [s.rdN MBX_FW_STATE, s.degraded, s.rdN SEC_FAULT, s.rdN THM_STATUS, s.rdN GLB_FRAME, s.heldBy 1 * 65536 + s.heldBy 0])))

/-! ### Registers (R409, R410, R413) -/

/-- An offset that REG_WRITE and REG_READ refuse: not aligned, beyond 64 MiB, or in POS, MBX, DMA or EVT (R413). -/
def badOffset (o : Nat) : Bool := o % 4 ≠ 0 || 0x4000000 ≤ o || (0x10000 ≤ o && o < 0x80000)

/-- The pairs of offset and value of REG_WRITE. -/
def pairsOf : List Word → List (Nat × Word)
  | o :: v :: t => (o.toNat, v) :: pairsOf t
  | _ => []

/-- A register that its chapter names as shadow (R410): R68, R83, R165, R194, R218, R233, R266, R284 and R301. -/
def isShadow (o : Nat) : Bool :=
  let within := fun (a b : Nat) => decide (a ≤ o) && decide (o < b)
  within 0x100000 0x10001C || within 0x100100 0x100300 || within 0x200000 0x200014 || within 0x280004 0x28001C
    || within 0x300020 0x300044 || within 0x340008 0x34004C || within 0x40000C 0x400010 || within 0x400018 0x40001C
    || within 0x400100 0x400200 || within 0x80000 0x80008 || (within 0x80100 0x80200 && o % 8 = 0)
    || (within 0x3C1000 0x3C1C00 && decide (0x20 ≤ o % 256) && decide (o % 256 < 0x60))

/-- The group of an offset's block (R362). -/
def groupAt (o : Nat) : Option Nat := (blkOf o).bind Blk.group

/-- The groups of a list of offsets. -/
def groupsOf (l : List Nat) : Nat :=
  (List.range 16).foldl (fun a g => a + 2 ^ g * b2n (l.any (fun o => groupAt o = some g))) 0

/-- A pair is refused in the state in force (R410). -/
def State.stateBars (s : State) (o : Nat) : Bool :=
  if s.fwCode = 4 || s.fwCode = 5 then !isShadow o
  else if s.fwCode = 7 then groupAt o = some 2 || groupAt o = some 3 || groupAt o = some 11
  else false

/-- The pairs are written in order, from pair `i` on; the first refused ends the command (R409, R413). -/
def State.regPairs (p : Nat) (c : RearmChecks) (puf : Option (BitVec 384)) : Nat → List (Nat × Word) → State → State × CmdEnd
  | _, [], s => (s, .now 0 [])
  | i, (o, v) :: t, s =>
    if s.stateBars o then (s, .now 0x0201 [s.fwCode, i])
    else
      let s := if s.blkInReset o then s else s.writeReg p o v false c puf
      match s.refused with
      | some w => (s, .now (0x0301 + (groupAt o).getD 0) [w.toNat, i])
      | none => if s.fwRuns then State.regPairs p c puf (i + 1) t s else (s, .now 0 [])

/-- What the Command Reference states of REG_WRITE (R413). -/
def regWriteSpec : CmdSpec :=
  {
    code := 0x0201, lenOk := fun w => decide (2 ≤ w.length) && decide (w.length ≤ 62) && decide (w.length % 2 = 0), reserved := [],
    range := fun w => ((List.range (w.length / 2)).find? (fun i => badOffset (arg w (2 * i + 1)))).map (fun i => 2 * i + 1),
    states := [2, 3, 4, 5, 7], kind := [], groups := fun w => groupsOf ((pairsOf w).map (fun e => e.1)) }

/-- REG_WRITE (R413): `c` is what a re-arm sequence among the writes finds, `puf` what boot ROM reads where they reset the management
domain. -/
def execRegWrite (p : Port) (k : Fin 4) (c : RearmChecks) (puf : Option (BitVec 384)) (s : State) : Host.Outcome State Fault Refusal :=
  done (s.serve p k regWriteSpec (fun w s =>
    let l := pairsOf w
    match (List.range l.length).find? (fun i => let e := nth (0, 0) l i; fwOwned e.1 e.2) with
    | some i => (s, .now 0x0204 [i])
    | none => State.regPairs (pix p) c puf 0 l s))

/-- What the Command Reference states of REG_READ (R413). -/
def regReadSpec : CmdSpec :=
  { CmdSpec.plain 0x0202 0 with
    lenOk := fun w => decide (1 ≤ w.length) && decide (w.length ≤ 62),
    range := fun w => ((List.range w.length).find? (fun i => badOffset (arg w (i + 1)))).map (fun i => i + 1) }

/-- REG_READ (R413): no clear and no take action. -/
def execRegRead (p : Port) (k : Fin 4) (s : State) : Host.Outcome State Fault Refusal :=
  done (s.serve p k regReadSpec (fun w s =>
    (s, .now 0 (w.map (fun x => if s.blkInReset x.toNat then 0 else (s.view (pix p) x.toNat).toNat)))))

/-! ### Profiles and commits (R413 to R415) -/

/-- The shot program of SCAN_PROFILE is written into the shadow registers (R414, steps 1 and 2). -/
def State.writeProfile (s : State) (w : List Word) : State :=
  let coarse := arg w 2 / 256 % 128
  let n := coarse + arg w 2 % 128
  let listen := arg w 3
  let s := (s.fwDo SHT_CFG (BitVec.ofNat 32 (arg w 1 / 65536 * 65536 + n))).fwDo SHT_LISTEN (BitVec.ofNat 32 listen)
  (List.range n).foldl (fun (s : State) (j : Nat) =>
    (s.fwDo (SHT_SLOT_T j) (BitVec.ofNat 32 ((if j < coarse then 0 else 1) * 2 ^ 26 + j * (listen + 16384) % 2 ^ 26))).fwDo
      (SHT_SLOT_P j) (BitVec.ofNat 32 j)) s

/-- What the Command Reference states of SCAN_PROFILE (R414). -/
def scanProfileSpec : CmdSpec :=
  {
    code := 0x0203, lenOk := fun w => w.length = 3, reserved := [0xE0000000, 0xFFFF8080, 0xFFE00000],
    range := fun w =>
      let c := arg w 2 / 256
      let z := arg w 2 % 256
      if c < 1 || 63 < c || 63 < z || 64 < c + z then some 2 else none,
    states := [2, 3, 4, 5], kind := kindCommit, groups := fun _ => 2 ^ 2 + 2 ^ 11 }

/-- SCAN_PROFILE (R414). -/
def execScanProfile (p : Port) (k : Fin 4) (s : State) : Host.Outcome State Fault Refusal :=
  done (s.serve p k scanProfileSpec (fun w s =>
    let t := (s.writeProfile w).fwDo SHT_COMMIT 3
    match t.refused with
    | some e => (t.restore s ([SHT_CFG, SHT_LISTEN] ++ (List.range 64).flatMap (fun j => [SHT_SLOT_T j, SHT_SLOT_P j])),
                 .now 0x0303 [e.toNat])
    | none => (t, .later [s.fld SHT_GEN_V])))

/-- The commits COMMIT names by bit, in the order Priard writes them: the register, and whether it takes MODE (R415). -/
def commitRegs : List (Nat × Nat × Bool) :=
  [(0, BGT_COMMIT, false), (1, ADC_COMMIT, false), (2, SHT_COMMIT, true), (3, HST_COMMIT, true), (4, IMG_COMMIT, false)]

/-- The named commits are written; answers the first refusal. In FAULT_HOLD the commit of SHT ends the command (R410). -/
def State.writeCommits (w : Nat) : List (Nat × Nat × Bool) → Option (Nat × List Nat) → State → State × Option (Nat × List Nat)
  | [], r, s => (s, r)
  | (b, off, mode) :: t, r, s =>
    if !w.testBit b then State.writeCommits w t r s
    else if s.stateBars off && s.fwCode = 7 then (s, some (r.getD (0x0201, [s.fwCode, b])))
    else
      let s := ({ s with refused := none } : State).fwDo off (BitVec.ofNat 32 (1 + if mode then w / 256 % 2 * 2 else 0))
      let r := match s.refused with
        | some e => some (r.getD (0x0301 + (groupAt off).getD 0, [e.toNat, b]))
        | none => r
      State.writeCommits w t r s

/-- What the Command Reference states of COMMIT (R415). -/
def commitSpec : CmdSpec :=
  {
    code := 0x0204, lenOk := fun w => w.length = 1, reserved := [0xFFFFFEE0], range := fun _ => none, states := [2, 3, 4, 5, 7],
    kind := kindCommit,
    groups := fun w => groupsOf ((commitRegs.filter (fun e => (arg w 1).testBit e.1)).map (fun e => e.2.1)) }

/-- COMMIT (R415). The writes are made together, at the take or, where the last line start of a running grid is less than 2 µs before it, 2 µs
after that line start. -/
def execCommit (p : Port) (k : Fin 4) (s : State) : Host.Outcome State Fault Refusal :=
  done (s.serve p k commitSpec (fun w s =>
    let s := if s.grid.running then s.advance (s.grid.lineStart + 512000) else s
    match State.writeCommits (arg w 1) commitRegs none s with
    | (s, some (status, words)) => (s, .now status words)
    | (s, none) => (s, .later [])))

/-- A slot counts as closed from the write that closes it on (R46). -/
def State.closedSlots (s : State) (w : Nat) : Nat :=
  (List.range 8).foldl (fun a n => a + 2 ^ n * b2n (w.testBit n && (s.coefClosed n || (s.slot n).closed))) 0

/-- What the Command Reference states of LOOP_PROFILE (R413). -/
def loopProfileSpec : CmdSpec :=
  { CmdSpec.plain 0x0205 1 with reserved := [0xFFFFFF00], states := [2], groups := fun _ => 2 ^ 11 }

/-- LOOP_PROFILE (R413, R63). -/
def execLoopProfile (p : Port) (k : Fin 4) (s : State) : Host.Outcome State Fault Refusal :=
  done (s.serve p k loopProfileSpec (fun w s =>
    let closed := s.closedSlots (arg w 1)
    if closed ≠ 0 then (s, .now 0x0401 [closed])
    else
      let s := (List.range 8).foldl (fun (s : State) (n : Nat) => if (arg w 1).testBit n then s.vendorProfile n else s) s
      ({ s with refused := none }, .now 0 [])))

end Sys2Proof.Machine
end

