-- ==== Sys2Proof/Machine/ScanCommands.lean ====
section
/-! DEFINITION. The scan-control commands (R416 to R418) and the imaging commands (R419). -/

namespace Sys2Proof.Machine

/-! ### Scan control (R416 to R418) -/

/-- Any of slots 0 to 3 is closed (R416). -/
def State.polygonClosed (s : State) : Bool := s.closedSlots 15 ≠ 0

/-- SPIN_UP (R416), up to the wait for speed: slot 0 opens, CTL_PHASE_REF is written, and slots 3, 0, 1 and 2 close. -/
def State.spinUp (s : State) (w : Nat) : State :=
  let s := (s.openSlot 0).fwField (CTL_SLOT_CFG_OPEN_ACTION 0) 0
  let s := s.fwDo CTL_PHASE_REF (BitVec.ofNat 32 (w / 65536 * 65536 + w % 2))
  (((s.slotCtrlWrite 3 1).slotCtrlWrite 0 1).slotCtrlWrite 1 1).slotCtrlWrite 2 1

/-- What the Command Reference states of SPIN_UP (R416). -/
def spinUpSpec : CmdSpec :=
  { CmdSpec.plain 0x0301 1 with reserved := [0x0000FFFE], states := [2], kind := kindPolygon, groups := fun _ => 2 ^ 11 }

/-- SPIN_UP (R416). -/
def execSpinUp (p : Port) (k : Fin 4) (s : State) : Host.Outcome State Fault Refusal :=
  done (s.serve p k spinUpSpec (fun w s =>
    if s.flag CTL_STATUS_LOCK then (s, .now 0x0001 []) else (s.spinUp (arg w 1), .later [])))

/-- A command's entry among the long commands is taken out. -/
def State.dropLong (s : State) (l : LongCmd) : State := { s with fw := { s.fw with longs := s.fw.longs.erase l } }

/-- A long command ends with its reply (R388, R389); that of a command whose port was reset is discarded (R386, R408). -/
def State.endLong (s : State) (l : LongCmd) (status : Nat) (words : List Nat) : State :=
  let s := s.dropLong l
  if l.orphan then s else s.reply l.port l.mbx l.tag status words

/-- The long command taken from OB k of a port. -/
def State.longAt (s : State) (p k : Nat) : Option LongCmd :=
  s.fw.longs.find? (fun (l : LongCmd) => l.port = p && l.mbx = k)

/-- A long command takes a step at OB k: possession is judged again (R407), and the step's number goes into a refusal (R409). -/
def State.longStep (s : State) (l : LongCmd) (groups step : Nat) (f : State → State) : State :=
  let held := s.heldByOther l.port groups
  if held ≠ 0 then s.endLong l 0x0202 [held, step] else f s

/-- SPIN_UP_PHASE_MODE (R416): the speed has stayed within 1 % for 1 s, and slot 0 goes to PHASE. -/
def execSpinUpPhaseMode (p : Port) (k : Fin 4) (s : State) : Host.Outcome State Fault Refusal :=
  done (match s.longAt (pix p) k with
    | some l =>
      match l.code, l.phase, l.notes with
      | 0x0301, 0, t :: _ =>
        if s.fld (CTL_SLOT_CTRL_MODE 0) = 1 then s
        else (s.advance (t - 1 + 256000000000)).longStep l (2 ^ 11) 5 (fun s => s.slotCtrlWrite 0 3)
      | _, _, _ => s
    | none => s)

/-- RUN_START (R417). -/
def State.runStart (s : State) (w : List Word) : State × CmdEnd :=
  if (arg w 3).testBit 31 && s.fld SHT_GEN_V ≠ arg w 3 % 65536 then (s, .now 0x0401 [0x100])
  else
    let s := if (arg w 2).testBit 0 then s.fwField DET_CTRL_ENABLE 1 else s
    match s.refused with
    | some e => (s, .now 0x0306 [e.toNat, 0])
    | none =>
      let s := if (arg w 2).testBit 1 then s.fwField IMG_CTRL_ENABLE 1 else s
      (s.fwDo SHT_RUN (BitVec.ofNat 32 (2 ^ 29 + arg w 1)), .later [])

/-- What the Command Reference states of RUN_START (R417). -/
def runStartSpec : CmdSpec :=
  {
    code := 0x0302, lenOk := fun w => w.length = 3, reserved := [0xFFFF0000, 0xFFFFFFFC, 0x7FFF0000],
    range := fun w => if arg w 1 = 0 then some 1 else none, states := [3], kind := kindRun, groups := fun _ => 2 ^ 2 + 2 ^ 5 + 2 ^ 9 }

/-- RUN_START (R417). -/
def execRunStart (p : Port) (k : Fin 4) (s : State) : Host.Outcome State Fault Refusal :=
  done (s.serve p k runStartSpec (fun w s => s.runStart w))

/-- Long commands whose effect a later command undoes end SUPERSEDED with that command's code (R417, R430). -/
def State.supersede (s : State) (codes : List Nat) (by_ : Nat) : State :=
  { s with fw := { s.fw with longs := s.fw.longs.map (fun (l : LongCmd) =>
                               if codes.contains l.code && l.phase = 0 then { l with phase := 4, notes := [by_] } else l) } }

/-- What the Command Reference states of RUN_STOP (R416). -/
def runStopSpec : CmdSpec :=
  { CmdSpec.plain 0x0303 0 with states := [4, 5], kind := kindRun, groups := fun _ => 2 ^ 2 }

/-- RUN_STOP (R416). -/
def execRunStop (p : Port) (k : Fin 4) (s : State) : Host.Outcome State Fault Refusal :=
  done (s.serve p k runStopSpec (fun _ s => ((s.supersede [0x0504] 0x0303).fwDo SHT_RUN 0x40000000, .later [])))

/-- What the Command Reference states of RUN_ABORT (R416). -/
def runAbortSpec : CmdSpec :=
  { CmdSpec.plain 0x0304 0 with states := [4, 5], groups := fun _ => 2 ^ 2 }

/-- RUN_ABORT (R416). -/
def execRunAbort (p : Port) (k : Fin 4) (s : State) : Host.Outcome State Fault Refusal :=
  done (s.serve p k runAbortSpec (fun _ s =>
    let s := (s.supersede [0x0504] 0x0304).fwDo SHT_RUN 0x80000000
    (s, .now 0 [s.rdN GLB_FRAME])))

/-- The conditions of R397 that are missing, as the bitmap of R418. -/
def State.armMissing (s : State) : Nat :=
  b2n (!s.flag CAL_STATUS_IMPORTED) + 2 * b2n (!s.flag EMT_EYE_CFG_LOCK)
    + 4 * b2n (!((s.keyValid 0 && s.flag SHT_STATUS_NONCE_SET) || s.fldF SHT_SERVE_CFG_BITS = 0))
    + 8 * b2n (!(s.keyValid 1 || s.flag PNT_PKT_CFG_ALLOW_UNSIGNED)) + 16 * b2n s.critical

/-- The head is armed (R396 cause 0x02). -/
def State.arm (s : State) : State := (s.fwDo EMT_ARM 1).fwEnter 3 2

/-- The head is disarmed (R396 cause 0x03): EMT_ARM clears, and a run that is active ends as by ABORT (R416). -/
def State.disarm (s : State) : State :=
  let s := (s.fwDo EMT_ARM 0).fwDo SHT_RUN 0x80000000
  let s := if s.fwCode = 4 || s.fwCode = 5 then s.fwEnter 3 6 else s
  if s.fwCode = 3 then s.fwEnter 2 3 else s

/-- What the Command Reference states of ARM (R418). -/
def armSpec : CmdSpec :=
  { CmdSpec.plain 0x0305 0 with states := [2], groups := fun _ => 2 ^ 3 }

/-- ARM (R418). -/
def execArm (p : Port) (k : Fin 4) (s : State) : Host.Outcome State Fault Refusal :=
  done (s.serve p k armSpec (fun _ s => if s.armMissing ≠ 0 then (s, .now 0x0401 [s.armMissing]) else (s.arm, .now 0 [])))

/-- What the Command Reference states of DISARM (R416). -/
def disarmSpec : CmdSpec :=
  { CmdSpec.plain 0x0306 0 with states := [3], groups := fun _ => 2 ^ 3 + 2 ^ 2 }

/-- DISARM (R416). -/
def execDisarm (p : Port) (k : Fin 4) (s : State) : Host.Outcome State Fault Refusal :=
  done (s.serve p k disarmSpec (fun _ s => ((s.supersede [0x0302, 0x0504] 0x0306).disarm, .now 0 [])))

/-- What the Command Reference states of SPIN_DOWN (R416). -/
def spinDownSpec : CmdSpec :=
  { CmdSpec.plain 0x0307 0 with states := [2], kind := kindPolygon, groups := fun _ => 2 ^ 11 }

/-- SPIN_DOWN (R416): slot 0 opens with OPEN_ACTION 1, and slots 1 and 2 open. -/
def execSpinDown (p : Port) (k : Fin 4) (s : State) : Host.Outcome State Fault Refusal :=
  done (s.serve p k spinDownSpec (fun _ s =>
    if !s.polygonClosed then (s, .now 0x0001 [])
    else
      let s := (s.openSlot 0).fwField (CTL_SLOT_CFG_OPEN_ACTION 0) 1
      ((s.openSlot 1).openSlot 2, .later [])))

/-- What the Command Reference states of EMITTER_REARM (R416). -/
def emitterRearmSpec : CmdSpec :=
  { CmdSpec.plain 0x0308 0 with states := [7], groups := fun _ => 2 ^ 3 }

/-- EMITTER_REARM (R416, R92): `c` is what the sequence finds. -/
def execEmitterRearm (p : Port) (k : Fin 4) (c : RearmChecks) (s : State) : Host.Outcome State Fault Refusal :=
  done (s.serve p k emitterRearmSpec (fun _ s =>
    if !s.flag EMT_FAULT_LATCHED then (s, .now 0x0001 [])
    else
      let s := if s.pwr.emissionInReset then s else (s.rearmWrite 0xA5 c).rearmWrite 0x5A c
      if s.flag EMT_FAULT_LATCHED then (s, .now 0x0601 [EV_EMT_REARM_REFUSED, s.rdN EMT_FAULT]) else (s, .now 0 [])))

/-! ### Imaging (R419) -/

/-- The registers IMG_SETUP writes, in order (R419). -/
def imgSetupRegs : List Nat :=
  [IMG_TDI_CFG, IMG_SET_A, IMG_SET_B, IMG_ROWS, IMG_LINES, IMG_BIN, IMG_TRIG_CFG, IMG_TRIG_ANGLE, IMG_CONV_CFG]

/-- The registers ISP_SETUP writes, in order (R419). -/
def ispSetupRegs : List Nat :=
  [ISP_CFG, ISP_SNR, ISP_TNR, ISP_HDR, ISP_DEMOSAIC] ++ (List.range 8).map ISP_CCM ++ [ISP_OUT, ISP_FUSE, ISP_STAT_CFG]

/-- Settings are written, and committed where the last word asks for it (R419). -/
def State.setUp (s : State) (regs : List Nat) (w : List Word) : State × CmdEnd :=
  let t := (regs.zip w).foldl (fun (s : State) (e : Nat × Word) => s.fwDo e.1 e.2) s
  if arg w (regs.length + 1) % 2 = 0 then (t, .now 0 [])
  else
    let t := t.fwDo IMG_COMMIT 1
    match t.refused with
    | some e => (t.restore s regs, .now 0x030A [e.toNat])
    | none => (t, .later [])

/-- IMG_SETUP and ISP_SETUP are commands of the COMMIT kind only when they commit (R408). -/
def State.setupKind (s : State) (p k n : Nat) : List Nat := if arg (s.obPayload p k) n % 2 = 1 then kindCommit else []

/-- What the Command Reference states of IMG_SETUP (R419). -/
def imgSetupSpec (p : Port) (k : Fin 4) (s : State) : CmdSpec :=
  { CmdSpec.plain 0x0401 10 with
    reserved := imgSetupRegs.map reservedOf ++ [0xFFFFFFFE], kind := s.setupKind (pix p) k 10, groups := fun _ => 2 ^ 9 }

/-- IMG_SETUP (R419). -/
def execImgSetup (p : Port) (k : Fin 4) (s : State) : Host.Outcome State Fault Refusal :=
  done (s.serve p k (imgSetupSpec p k s) (fun w s => s.setUp imgSetupRegs w))

/-- What the Command Reference states of IMG_ENABLE (R419). -/
def imgEnableSpec : CmdSpec :=
  { CmdSpec.plain 0x0402 1 with reserved := [0xFFFFFFFE], groups := fun _ => 2 ^ 9 }

/-- IMG_ENABLE (R419). -/
def execImgEnable (p : Port) (k : Fin 4) (s : State) : Host.Outcome State Fault Refusal :=
  done (s.serve p k imgEnableSpec (fun w s =>
    if arg w 1 = 1 && s.flag ISP_STATUS_REPROC_BUSY then (s, .now 0x0401 [1])
    else
      let s := s.fwField IMG_CTRL_ENABLE (arg w 1)
      if s.grid.running then (s, .later [s.rdN GLB_FRAME]) else (s, .now 0 [0xFFFFFFFF])))

/-- What the Command Reference states of CAPTURE (R419). -/
def captureSpec : CmdSpec :=
  { CmdSpec.plain 0x0403 1 with reserved := [0xFFFF0000], kind := kindMemimg, groups := fun _ => 2 ^ 10 }

/-- CAPTURE (R419, R245). -/
def execCapture (p : Port) (k : Fin 4) (s : State) : Host.Outcome State Fault Refusal :=
  done (s.serve p k captureSpec (fun w s =>
    let t := (s.fwDo ISP_MEM_BASE (w.getD 0 0)).fwDo ISP_MEM_CTRL 0x40000000
    match t.refused with
    | some e => (t.restore s [ISP_MEM_BASE], .now 0x030B [e.toNat])
    | none => (t, .later [])))

/-- What the Command Reference states of REPROCESS (R419). -/
def reprocessSpec : CmdSpec :=
  { CmdSpec.plain 0x0404 2 with reserved := [0xFFFF0000, 0xFFFF0000], kind := kindMemimg, groups := fun _ => 2 ^ 10 }

/-- REPROCESS (R419, R246). -/
def execReprocess (p : Port) (k : Fin 4) (s : State) : Host.Outcome State Fault Refusal :=
  done (s.serve p k reprocessSpec (fun w s =>
    let t := s.fwField ISP_CTRL_SRC 1
    let t := if t.refused.isSome then t else (t.fwDo ISP_MEM_BASE (w.getD 0 0)).fwDo ISP_MEM_CTRL (BitVec.ofNat 32 (2 ^ 31 + arg w 2))
    match t.refused with
    | some e => (t.restore s [ISP_CTRL, ISP_MEM_BASE], .now 0x030B [e.toNat])
    | none => (t, .later [])))

/-- What the Command Reference states of ISP_SETUP (R419). -/
def ispSetupSpec (p : Port) (k : Fin 4) (s : State) : CmdSpec :=
  { CmdSpec.plain 0x0405 17 with
    reserved := ispSetupRegs.map reservedOf ++ [0xFFFFFFFE], kind := s.setupKind (pix p) k 17, groups := fun _ => 2 ^ 9 + 2 ^ 10 }

/-- ISP_SETUP (R419). -/
def execIspSetup (p : Port) (k : Fin 4) (s : State) : Host.Outcome State Fault Refusal :=
  done (s.serve p k (ispSetupSpec p k s) (fun w s => s.setUp ispSetupRegs w))

end Sys2Proof.Machine
end

