-- ==== Sys2Proof/Machine/DataCommands.lean ====
section
/-! DEFINITION. The calibration commands (R420, R421), the lineup commands (R422), and the thermal and power commands (R423). -/

namespace Sys2Proof.Machine

/-! ### Calibration (R420, R421) -/

/-- CAL_XFER names the queue of the commanding port (R420). -/
def State.nameQueue (s : State) (p : Nat) (w : List Word) : State :=
  s.fwDo CAL_XFER (BitVec.ofNat 32 (p * 2 ^ 31 + arg w 1 % 32 * 2 ^ 24))

/-- What the Command Reference states of CAL_EXPORT (R420). -/
def calExportSpec : CmdSpec :=
  { CmdSpec.plain 0x0501 1 with reserved := [0xFFFFFFE0], kind := kindCalxfer, groups := fun _ => 2 ^ 14 }

/-- CAL_EXPORT (R420, R319). -/
def execCalExport (p : Port) (k : Fin 4) (s : State) : Host.Outcome State Fault Refusal :=
  done (s.serve p k calExportSpec (fun w s =>
    let t := (s.nameQueue (pix p) w).fwDo CAL_CTRL 1
    match t.refused with
    | some e => (t.restore s [CAL_XFER], .now 0x030F [e.toNat])
    | none => (t, .later [])))

/-- What the Command Reference states of CAL_IMPORT (R420). -/
def calImportSpec : CmdSpec :=
  { CmdSpec.plain 0x0502 1 with
    reserved := [0xFFFFFFE0], states := [2, 7], kind := kindCalxfer, groups := fun _ => 2 ^ 14 }

/-- CAL_IMPORT (R420, R320): `d` is the descriptor at HEAD of the queue, `read` what its transfer brings. -/
def execCalImport (p : Port) (k : Fin 4) (d : BitVec 128) (read : Option (List Byte)) (s : State) : Host.Outcome State Fault Refusal :=
  done (s.serve p k calImportSpec (fun w s =>
    let t := (s.nameQueue (pix p) w).fwDo CAL_CTRL 2
    let t := if t.refused.isSome then t else t.importRead d read
    match t.refused with
    | some e => (t.restore s [CAL_XFER], .now 0x030F [e.toNat])
    | none => (t, .later [])))

/-- What the Command Reference states of CAL_RESELECT (R420). -/
def calReselectSpec : CmdSpec :=
  { CmdSpec.plain 0x0503 1 with
    reserved := [0x0FFFF000], states := [2, 3, 4, 5], kind := kindCalxfer, groups := fun _ => 2 ^ 14 }

/-- CAL_RESELECT (R420, R314). -/
def execCalReselect (p : Port) (k : Fin 4) (s : State) : Host.Outcome State Fault Refusal :=
  done (s.serve p k calReselectSpec (fun w s =>
    let t := s.fwDo CAL_RESEL (w.getD 0 0)
    match t.refused with
    | some e => (t, .now 0x030F [e.toNat])
    | none => (t, .later [])))

/-- The elements a target item names: channels of the bitmap for items 0 to 3, one offset for item 4, the pixels for item 5 (R421). -/
def targetElements (w : List Word) : List Nat :=
  let item := arg w 1
  if item ≤ 3 then (List.range 192).filter (fun c => (arg w (2 + c / 32)).testBit (c % 32))
  else if item = 4 then [0] else List.range 3072

/-- How far the two runs of a target item may differ, value by value, in the units of the record (R312): stop-link skew 0.25 tick and
range offset 0.5 tick in 1/16 tick; the walk table and the pile shift 1 tick at every entry; the trim 1 code; the colour offset 2
units; OFS 4 LSB and GAIN 16/16,384. -/
def targetTolerances (item : Nat) : List Int :=
  if item = 0 then [4, 8]
  else if item = 1 then List.replicate 64 16
  else if item = 2 then List.replicate 16 16
  else if item = 3 then [1]
  else if item = 4 then [2]
  else [4, 16]

/-- A pair of runs meets the acceptance of its item (R312). -/
def targetAccepted (item : Nat) (r : TargetRun) : Bool :=
  let tol := targetTolerances item
  r.a.length = tol.length && r.b.length = tol.length
    && ((r.a.zip r.b).zip tol).all (fun e => decide ((e.1.1 - e.1.2).natAbs ≤ e.2.natAbs))

/-- The mean of the two runs, rounded to nearest (R313). -/
def targetMean (r : TargetRun) : List Int := (r.a.zip r.b).map (fun e => roundDiv (e.1 + e.2) 2)

/-- Table values, two in a word, from word `b` of a channel's entry on (R316). -/
def State.writePairs (s : State) (c b : Nat) (l : List Int) : State :=
  loop (l.length / 2) (fun i s =>
    s.setChannelWord c (b + i) (halves (toBits 16 (nth 0 l (2 * i))) (toBits 16 (nth 0 l (2 * i + 1))))) s

/-- Channel `c` is marked no longer once no word that marks it stands split (R318). -/
def State.clearMark (s : State) (c : Nat) : State :=
  let marks := fun (w : Nat) => (17 ≤ w && w < 20) || w = 32 + c / 2 || (8448 + 48 * c ≤ w && w < 8496 + 48 * c)
  if s.cal.splits.any marks then s else s.markChannel c false

/-- The marks of a channel's words from `lo` to below `hi` of its entry are cleared by a target run (R318). -/
def State.clearWords (s : State) (c lo hi : Nat) : State := (s.unsplit (8448 + 48 * c + lo) (8448 + 48 * c + hi)).clearMark c

/-- An accepted value is written (R313): to its register or table, the record, and its marks (R318). The mark of an ISP_FPN word is
cleared by an import alone. -/
def State.writeTarget (s : State) (item i : Nat) (v : List Int) : State :=
  let x := fun (j : Nat) => nth 0 v j
  let s :=
    if item = 0 then
      let s := (s.setFldI (TDC_LINK_SKEW_V i) (x 0)).setChannelWord i 4
        (BitVec.ofNat 32 (s.fld (DET_CH_CFG_TRIM i) * 2 ^ 24 + toBits 16 (x 1)))
      let s := s.unsplit (32 + i / 2) (33 + i / 2)
      ((s.clearMark (i / 2 * 2)).clearMark (i / 2 * 2 + 1)).clearWords i 4 5
    else if item = 1 then (s.writePairs i 13 v).clearWords i 13 45
    else if item = 2 then (s.writePairs i 5 v).clearWords i 5 13
    else if item = 3 then (s.setFld (DET_CH_CFG_TRIM i) (toBits 6 (x 0))).clearWords i 4 5
    else if item = 4 then ((s.setFldI DET_COLOUR_OFS_V (x 0)).setFlag CAL_GLOBAL_UNCAL_COLOUR false).unsplit 16 17
    else (s.setFld (ISP_FPN_OFS i) (toBits 16 (x 0))).setFld (ISP_FPN_GAIN i) (toBits 16 (x 1))
  s.calTouch

/-- The pairs of the elements named are judged and accepted (R313, R421); answers the elements accepted. -/
def State.acceptTargets (s : State) (w : List Word) (runs : List TargetRun) : State × List Nat :=
  let item := arg w 1
  (targetElements w).foldl (fun (a : State × List Nat) (i : Nat) =>
    match runs.find? (fun (r : TargetRun) => r.index = i && targetAccepted item r) with
    | some r => (a.1.writeTarget item i (targetMean r), a.2 ++ [i])
    | none => a) (s, [])

/-- The bitmap of accepted elements in the reply (R421). -/
def targetReply (w : List Word) (accepted : List Nat) : List Nat :=
  if arg w 1 ≤ 3 then (List.range 6).map (fun v => (List.range 32).foldl (fun a b => a + 2 ^ b * b2n (accepted.contains (32 * v + b))) 0)
  else [b2n (decide (accepted.length = (targetElements w).length))]

/-- What CAL_TARGET misses for items 0 to 4 (R421). -/
def State.targetMissing (s : State) : Nat := s.armMissing / 2 * 2 + 64 * b2n (!s.flag CTL_STATUS_LOCK)

/-- What the Command Reference states of CAL_TARGET (R421). -/
def calTargetSpec : CmdSpec :=
  {
    code := 0x0504, lenOk := fun w => w.length = 9, reserved := [0xFFFFFFF0, 0, 0, 0, 0, 0, 0, 0, 0xFFFF0000],
    range := fun w => if 5 < arg w 1 then some 1 else if arg w 9 = 0 then some 9 else none,
    states := [2], kind := kindCalxfer, groups := fun _ => 2 ^ 14 + 2 ^ 2 + 2 ^ 3 }

/-- CAL_TARGET (R421): the head is armed and a run begins; item 5 needs neither. -/
def execCalTarget (p : Port) (k : Fin 4) (s : State) : Host.Outcome State Fault Refusal :=
  done (s.serve p k calTargetSpec (fun w s =>
    if arg w 1 = 5 then (s, .later [s.hst.lineSeq])
    else if s.targetMissing ≠ 0 then (s, .now 0x0401 [s.targetMissing])
    else (s.arm.fwDo SHT_RUN 0x2000FFFF, .later [s.hst.lineSeq])))

/-! ### Lineup and bench (R422) -/

/-- KIND and INDEX of a lineup command. -/
def elementOf (w : List Word) : Nat × Nat := (arg w 1 / 2 ^ 28, arg w 1 % 4096)

/-- The word of a lineup command that is out of its range. -/
def elementRange (w : List Word) : Option Nat :=
  let e := elementOf w
  if 3 < e.1 || kindSize e.1 ≤ e.2 then some 1 else none

/-- The role of an element of any kind. -/
def State.roleOf (s : State) (kind i : Nat) : Nat := if kind < 3 then mapState s.lnp.map kind i else s.converterRole i

/-- What the Command Reference states of SEND_OFF (R422). -/
def sendOffSpec : CmdSpec :=
  { CmdSpec.plain 0x0601 1 with
    reserved := [0x0FFFF000], range := elementRange, states := [2, 3, 4, 5, 7], groups := fun _ => 2 ^ 1 }

/-- SEND_OFF (R422): the reply comes after the map is written. -/
def execSendOff (p : Port) (k : Fin 4) (s : State) : Host.Outcome State Fault Refusal :=
  done (s.serve p k sendOffSpec (fun w s =>
    let (kind, i) := elementOf w
    let role := s.roleOf kind i
    if role = 2 then (s, .now 0x0001 [])
    else if kind < 3 then
      let sub := if role = 0 then s.benchPick kind else none
      let s := s.sendOff kind i 0x06
      (s, .now 0 [s.rdN LNP_EPOCH, sub.getD 0xFFFF])
    else
      let s := s.converterOff i 0x06
      if s.img.convPending.contains i then (s, .later [i]) else (s, .now 0 [s.rdN LNP_EPOCH, 0xFFFF])))

/-- What the Command Reference states of ELEMENT_QUERY (R422). -/
def elementQuerySpec : CmdSpec :=
  { CmdSpec.plain 0x0602 1 with reserved := [0x0FFFF000], range := elementRange }

/-- ELEMENT_QUERY (R422). -/
def execElementQuery (p : Port) (k : Fin 4) (s : State) : Host.Outcome State Fault Refusal :=
  done (s.serve p k elementQuerySpec (fun w s =>
    let (kind, i) := elementOf w
    (s, .now 0 [(s.elementView kind i).toNat, s.rdN (LNP_POOL kind)])))

/-- What the Command Reference states of LINEUP_FACTORY (R422). -/
def lineupFactorySpec : CmdSpec :=
  { CmdSpec.plain 0x0603 0 with states := [2, 3, 7], groups := fun _ => 2 ^ 1 }

/-- LINEUP_FACTORY (R422). -/
def execLineupFactory (p : Port) (k : Fin 4) (s : State) : Host.Outcome State Fault Refusal :=
  done (s.serve p k lineupFactorySpec (fun _ s =>
    let s := (s.factoryLineup (s.rdN LNP_EPOCH + 1)).setFlag LNP_STATUS_SPLIT false
    (s, .now 0 (s.rdN LNP_EPOCH :: (List.range 6).map (fun v => s.rdN (LNP_CHANGED v))))))

/-! ### Thermal and power (R423) -/

/-- The hottest valid reading of a zone, as a 32-bit number; a zone with none has no stated reading: a free value (log entry 62). -/
def State.hottestReading (s : State) (det : Bool) : Nat × State :=
  match s.hottestOf ((zoneTherms det).filter (fun i => (s.therm i).started && !s.thermFailed i)) with
  | some i => (toBits 32 (s.therm i).reading, s)
  | none => s.fresh

/-- THERMAL_REPORT (R423). -/
def execThermalReport (p : Port) (k : Fin 4) (s : State) : Host.Outcome State Fault Refusal :=
  done (s.serve p k (CmdSpec.plain 0x0701 0) (fun _ s =>
    let (a, s) := s.hottestReading false
    let (b, s) := s.hottestReading true
    (s, .now 0 [s.rdN THM_STATUS, s.rdN THM_FAILED, a, b])))

/-- What the Command Reference states of SET_FLOOR (R423). -/
def setFloorSpec : CmdSpec :=
  { CmdSpec.plain 0x0702 1 with
    reserved := [0xFFFFFFF0], range := fun w => if 8 < arg w 1 then some 1 else none, groups := fun _ => 2 ^ 13 }

/-- SET_FLOOR (R423). -/
def execSetFloor (p : Port) (k : Fin 4) (s : State) : Host.Outcome State Fault Refusal :=
  done (s.serve p k setFloorSpec (fun w s =>
    let s := s.fwField THM_STEP_CFG_FLOOR (arg w 1)
    match s.refused with
    | some e => (s, .now 0x030E [e.toNat])
    | none => (s, .now 0 [])))

/-- What the Command Reference states of RETEST (R423). -/
def retestSpec : CmdSpec :=
  { CmdSpec.plain 0x0703 1 with reserved := [0xF0000000], groups := fun _ => 2 ^ 13 }

/-- RETEST (R423): the reply comes 16 ms later. -/
def execRetest (p : Port) (k : Fin 4) (s : State) : Host.Outcome State Fault Refusal :=
  done (s.serve p k retestSpec (fun w s => (s.fwDo THM_RETEST (w.getD 0 0), .later [])))

/-- What the Command Reference states of EMISSION_RESET (R423). -/
def emissionResetSpec : CmdSpec :=
  { CmdSpec.plain 0x0704 1 with
    range := fun w => if arg w 1 = 0xE5E5 then none else some 1, states := [2, 7], groups := fun _ => 2 ^ 3 + 2 ^ 15 }

/-- EMISSION_RESET (R423, R453). -/
def execEmissionReset (p : Port) (k : Fin 4) (s : State) : Host.Outcome State Fault Refusal :=
  done (s.serve p k emissionResetSpec (fun _ s => (s.emissionReset, .later [])))

end Sys2Proof.Machine
end

