-- ==== Sys2Proof/Machine/SecurityCommands.lean ====
section
/-! DEFINITION. The security commands (R424 to R427), the network commands (R428) and the diagnostic commands (R429). -/

namespace Sys2Proof.Machine

/-! ### Keys (R424, R425) -/

/-- Priard starts a key operation: the material goes into SEC_KEY_DATA, then the command (R342). `host`: on behalf of a port, for which
slot 3 is barred (R343). -/
def State.startKey (s : State) (op slot : Nat) (material : List Word) (host : Bool) : State × CmdEnd :=
  let s := (List.range material.length).foldl (fun (s : State) (i : Nat) =>
    s.fwDo (SEC_KEY_DATA i) (material.getD i 0)) s
  let s := s.keyCmd op slot host
  match s.refused with
  | some e => (s, .now 0x0501 [e.toNat])
  | none => (s, .later [slot])

/-- What the Command Reference states of KEY_LOAD (R424). -/
def keyLoadSpec : CmdSpec :=
  let lens := fun (w : List Word) =>
    let slot := arg w 1 % 4
    if slot = 3 then w.length = 9 || w.length = 25 else if slot = 2 then w.length = 25 else w.length = 9
  { CmdSpec.plain 0x0801 0 with lenOk := lens, reserved := [0xFFFFFFFC], groups := fun _ => 2 ^ 15 }

/-- KEY_LOAD (R424, R342). -/
def execKeyLoad (p : Port) (k : Fin 4) (s : State) : Host.Outcome State Fault Refusal :=
  done (s.serve p k keyLoadSpec (fun w s => s.startKey 0 (arg w 1) (w.drop 1) true))

/-- What the Command Reference states of KEY_UNWRAP (R424). -/
def keyUnwrapSpec : CmdSpec :=
  { CmdSpec.plain 0x0802 11 with reserved := [0xFFFFFFFC], groups := fun _ => 2 ^ 15 }

/-- KEY_UNWRAP (R424, R342). -/
def execKeyUnwrap (p : Port) (k : Fin 4) (s : State) : Host.Outcome State Fault Refusal :=
  done (s.serve p k keyUnwrapSpec (fun w s => s.startKey 1 (arg w 1) (w.drop 1) true))

/-- What the Command Reference states of KEY_ZERO (R424). -/
def keyZeroSpec : CmdSpec :=
  { CmdSpec.plain 0x0803 1 with reserved := [0xFFFFFFF0], groups := fun _ => 2 ^ 15 }

/-- KEY_ZERO (R424, R342). -/
def execKeyZero (p : Port) (k : Fin 4) (s : State) : Host.Outcome State Fault Refusal :=
  done (s.serve p k keyZeroSpec (fun w s =>
    let s := (List.range 4).foldl (fun (s : State) (n : Nat) =>
      if (arg w 1).testBit n && s.refused.isNone then s.keyCmd 2 n false else s) s
    match s.refused with
    | some e => (s, .now 0x0501 [e.toNat])
    | none => (s, .now 0 [s.rdN SEC_KEY_STATUS])))

/-- A P-384 coordinate in the words of a payload from byte `b` on, big-endian (R406). -/
def coordinate (l : List Byte) (b : Nat) : Nat := beNat ((l.drop b).take 48)

/-- The serial number in 8 bytes, little-endian. -/
def State.serialBytes (s : State) : List Byte := leBytes 4 (s.rdN GLB_SERIAL_LO) ++ leBytes 4 (s.rdN GLB_SERIAL_HI)

/-- The ASCII bytes "FJT-KEK1" (R425). -/
def kekLabel : List Byte := [0x46, 0x4A, 0x54, 0x2D, 0x4B, 0x45, 0x4B, 0x31]

/-- The KEK of a key agreement (R425); none where the product is the point at infinity. -/
def State.agreedKek (s : State) (x y : Nat) : Option (List Byte) :=
  (pointMul 385 s.sec.idKey (some (x, y))).map (fun z =>
    (sha384 (beBytes 48 z.1 ++ beBytes 48 x ++ beBytes 48 y ++ s.serialBytes ++ kekLabel)).take 32)

/-- What the Command Reference states of KEY_AGREE (R425). -/
def keyAgreeSpec : CmdSpec :=
  { CmdSpec.plain 0x0804 24 with groups := fun _ => 2 ^ 15 }

/-- KEY_AGREE (R425). -/
def execKeyAgree (p : Port) (k : Fin 4) (s : State) : Host.Outcome State Fault Refusal :=
  done (s.serve p k keyAgreeSpec (fun w s =>
    let l := wordsToBytes w
    let x := coordinate l 0
    let y := coordinate l 48
    if !onCurve (x, y) then (s, .now 0x0501 [6])
    else if !s.flag SEC_STATUS_ID_VALID then (s, .now 0x0503 [0])
    else match s.agreedKek x y with
      | none => (s, .now 0x0501 [6])
      | some kek => s.startKey 0 3 (bytesToWords 8 kek) false))

/-- The statement that ATTEST signs (R426). -/
def State.statement (s : State) (nonce : List Byte) : List Byte :=
  nonce ++ s.serialBytes ++ leBytes 1 0xB0 ++ leBytes 1 s.fwCode ++ leBytes 2 (s.fld SEC_BOOT_SVN) ++ leBytes 4 (s.rdN MBX_FW_VERSION)
    ++ (List.range 4).flatMap (fun n => leBytes 3 (s.rdN (SEC_KEY_KCV n))) ++ leBytes 4 (s.rdN SEC_STATUS) ++ leBytes 4 (s.rdN CAL_EPOCH)
    ++ leBytes 4 (s.rdN LNP_EPOCH) ++ leBytes 8 s.ns

/-- ATTEST (R426). The number that a signature of R340 draws is a free value (log entry 63). -/
def execAttest (p : Port) (k : Fin 4) (s : State) : Host.Outcome State Fault Refusal :=
  done (s.serve p k (CmdSpec.plain 0x0805 12) (fun w s =>
    if !s.flag SEC_STATUS_ID_VALID then (s, .now 0x0503 [0])
    else
      let st := s.statement (wordsToBytes w)
      let (r, s) := s.fresh
      (s, .now 0 ((bytesToWords 48 (st ++ ecdsaSign s.sec.idKey (r % (p384N - 1) + 1) (sha384 st))).map (fun (x : Word) => x.toNat)))))

/-! ### Locks, responses and clears (R424) -/

/-- What the Command Reference states of SET_LOCKS (R424). -/
def setLocksSpec : CmdSpec :=
  { CmdSpec.plain 0x0806 1 with reserved := [0xFFFFFFF8], groups := fun _ => 2 ^ 15 }

/-- SET_LOCKS (R424, R345, R347). -/
def execSetLocks (p : Port) (k : Fin 4) (s : State) : Host.Outcome State Fault Refusal :=
  done (s.serve p k setLocksSpec (fun w s =>
    let s := s.fwDo SEC_CFG (w.getD 0 0)
    (s, .now 0 [s.rdN SEC_STATUS])))

/-- What the Command Reference states of SET_RESPONSE (R424). -/
def setResponseSpec : CmdSpec :=
  { CmdSpec.plain 0x0807 1 with
    reserved := [0xFFFC0000],
    range := fun w => if (List.range 9).any (fun i => arg w 1 / 4 ^ i % 4 = 3) then some 1 else none, groups := fun _ => 2 ^ 15 }

/-- SET_RESPONSE (R424, R347). -/
def execSetResponse (p : Port) (k : Fin 4) (s : State) : Host.Outcome State Fault Refusal :=
  done (s.serve p k setResponseSpec (fun w s =>
    let (s, kept) := s.respWrite (w.getD 0 0)
    if kept then (s, .now 0x0002 [s.rdN SEC_RESP]) else (s, .now 0 [])))

/-- What the Command Reference states of SAFETY_CLEAR (R424). -/
def safetyClearSpec : CmdSpec :=
  { CmdSpec.plain 0x0808 1 with reserved := [0xFFFFFFFC], groups := fun _ => 2 ^ 15 }

/-- SAFETY_CLEAR (R424, R351, R354). -/
def execSafetyClear (p : Port) (k : Fin 4) (s : State) : Host.Outcome State Fault Refusal :=
  done (s.serve p k safetyClearSpec (fun w s =>
    let ilk := (arg w 1).testBit 0
    let pin := (arg w 1).testBit 1
    let stands := b2n (ilk && s.sec.ilkA = s.sec.ilkB) + 2 * b2n (pin && !s.landsMatch)
    if stands ≠ 0 then (s, .now 0x0401 [stands])
    else
      let s := if pin then s.fwDo SEC_PIN_CLEAR 1 else s
      let s := if ilk then s.fwDo SEC_ILK 1 else s
      let s := s.settleFault
      (s, .now 0 [s.rdN SEC_FAULT])))

/-- What the Command Reference states of FAULT_FORCE (R424). -/
def faultForceSpec : CmdSpec :=
  { CmdSpec.plain 0x0809 1 with reserved := [0xFFFFFFFE], groups := fun _ => 2 ^ 15 }

/-- FAULT_FORCE (R424, R353). -/
def execFaultForce (p : Port) (k : Fin 4) (s : State) : Host.Outcome State Fault Refusal :=
  done (s.serve p k faultForceSpec (fun w s => (s.fwDo SEC_FAULT_FORCE (w.getD 0 0), .now 0 [])))

/-- What the Command Reference states of SERVE_NONCE (R424). -/
def serveNonceSpec : CmdSpec :=
  { CmdSpec.plain 0x080B 2 with groups := fun _ => 2 ^ 2 }

/-- SERVE_NONCE (R424, R83). -/
def execServeNonce (p : Port) (k : Fin 4) (s : State) : Host.Outcome State Fault Refusal :=
  done (s.serve p k serveNonceSpec (fun w s =>
    ((s.fwDo SHT_SERVE_NONCE_LO (w.getD 0 0)).fwDo SHT_SERVE_NONCE_HI (w.getD 1 0), .now 0 [])))

/-! ### Kernel images (R427) -/

/-- The failures of a kernel image against R185, as the bitmap of R427; `len`: the descriptor's LENGTH. -/
def kernelFaults (img : List Byte) (len : Nat) : Nat :=
  let f := kernelField img
  let zero := fun (l : List Byte) => l.all (fun b => b = 0)
  b2n (img.take 4 ≠ [0x55, 0x4B, 0x52, 0x4E] || f 4 2 ≠ 1)
    + 2 * b2n (1 < f 6 1 || f 7 1 ≠ 0 || !zero ((img.drop 24).take 40))
    + 4 * b2n (32768 < f 8 4 + f 12 4 || f 8 4 ≤ f 20 4)
    + 8 * b2n (len ≠ 64 + f 8 4 + f 12 4 + 96)

/-- Priard judges a kernel image it has read (R427, checks 3 to 5): the status and word of the refusal. -/
def State.kernelRefusal (s : State) (img : List Byte) (len : Nat) : Option (Nat × Nat) :=
  let faults := kernelFaults img len
  if faults ≠ 0 then some (0x0403, faults)
  else if !ecdsaVerify (s.key 2) (img.drop (len - 96)) (sha384 (img.take (len - 96))) then some (0x0502, 3)
  else if s.quotaTooLarge (kernelField img 16 2) then some (0x0309, 0x13 * 2 ^ 24)
  else none

/-- What the Command Reference states of KERNEL_LOAD (R427). -/
def kernelLoadSpec : CmdSpec :=
  { CmdSpec.plain 0x080A 1 with reserved := [0xFFFFFFE0], kind := [0x080A], groups := fun _ => 2 ^ 8 }

/-- KERNEL_LOAD (R427): `d` is the descriptor at HEAD of the queue, `image` what its transfer brings. -/
def execKernelLoad (p : Port) (k : Fin 4) (d : BitVec 128) (image : Option (List Byte)) (s : State) : Host.Outcome State Fault Refusal :=
  done (s.serve p k kernelLoadSpec (fun w s =>
    let q := arg w 1
    let i := pix p
    if !s.keyValid 2 then (s, .now 0x0401 [1])
    else match s.consumerDesc i q d with
      | (s, none) => (s, .now 0x0402 [1])
      | (s, some (len, irq)) =>
        match image with
        | none =>
          let idx := s.fld (DMA_Q_HEAD_V i q)
          ((s.completeDesc i q 4 0 irq).queueError i q idx 4 EV_DMA_HOST_ERROR, .now 0x0601 [EV_DMA_HOST_ERROR])
        | some img =>
          let img := img.take len
          match s.kernelRefusal img len with
          | some (status, word) => (s.completeDesc i q 2 0 irq, .now status [word])
          | none =>
            let s := s.completeDesc i q 0 len irq
            let s : State := { s with pnt := { s.pnt with pendingKernel := some img } }
            (if s.grid.running then s else s.placeKernel, .later [kernelField img 18 2, kernelField img 6 1])))

/-! ### Network (R428) -/

/-- The chain links that are up. -/
def State.linksUp (s : State) : Nat := b2n s.net.link0.up + 2 * b2n s.net.link1.up

/-- NET_STATUS (R428). -/
def execNetStatus (p : Port) (k : Fin 4) (s : State) : Host.Outcome State Fault Refusal :=
  done (s.serve p k (CmdSpec.plain 0x0901 0) (fun _ s =>
    (s, .now 0 [16 * s.linksUp + s.fld NET_STATUS_LINK_UP,
                16 * b2n (s.flag NET_TIME_STATUS_SYNCED) + s.fld NET_TIME_STATUS_IN_FORCE,
                s.rdN NET_OFFSET, (s.rdF SHT_SERVE_CFG).toNat])))

/-- What the Command Reference states of TIME_SOURCE (R428). -/
def timeSourceSpec : CmdSpec :=
  { CmdSpec.plain 0x0902 1 with
    reserved := [0xFFFFFFFC], range := fun w => if arg w 1 = 3 then some 1 else none, groups := fun _ => 2 ^ 15 }

/-- TIME_SOURCE (R428, R435). -/
def execTimeSource (p : Port) (k : Fin 4) (s : State) : Host.Outcome State Fault Refusal :=
  done (s.serve p k timeSourceSpec (fun w s => (s.fwField NET_TIME_CTRL_SOURCE (arg w 1), .now 0 [])))

/-- What the Command Reference states of SERVE_PHASE (R428). -/
def servePhaseSpec : CmdSpec :=
  { CmdSpec.plain 0x0903 1 with reserved := [0xF8F8FCFF], groups := fun _ => 2 ^ 2 }

/-- SERVE_PHASE (R428, R84). -/
def execServePhase (p : Port) (k : Fin 4) (s : State) : Host.Outcome State Fault Refusal :=
  done (s.serve p k servePhaseSpec (fun w s =>
    if s.linksUp ≠ 0 then (s, .now 0x0205 [0])
    else (s.fwDo SHT_SERVE_CFG (BitVec.ofNat 32 (arg w 1 + s.fld SHT_SERVE_CFG_BITS)), .now 0 [])))

/-! ### Diagnostics (R429) -/

/-- What the Command Reference states of SELF_TEST (R429). -/
def selfTestSpec : CmdSpec :=
  { CmdSpec.plain 0x0A01 0 with states := [2, 7], kind := [0x0A01] }

/-- SELF_TEST (R429): the failures come with LONG_COMMAND_COMPLETION. -/
def execSelfTest (p : Port) (k : Fin 4) (s : State) : Host.Outcome State Fault Refusal :=
  done (s.serve p k selfTestSpec (fun _ s => (s, .later [])))

/-- What the Command Reference states of FW_LOG (R429). -/
def fwLogSpec : CmdSpec :=
  { CmdSpec.plain 0x0A02 1 with reserved := [0xFFFF0000] }

/-- FW_LOG (R429): `added` holds the entries Priard has made since the last FW_LOG, whose codes and details the spec does not give: device time
in ns, code, detail. -/
def execFwLog (p : Port) (k : Fin 4) (added : List (BitVec 64 × Word × Word)) (s : State) : Host.Outcome State Fault Refusal :=
  done (s.serve p k fwLogSpec (fun w s =>
    let log := s.fw.log ++ added
    let s : State := { s with fw := { s.fw with log := log } }
    let first := arg w 1
    let l := (log.drop first).take 14
    (s, .now 0 ((log.length % 65536 * 65536 + first) :: l.flatMap (fun (e : BitVec 64 × Word × Word) =>
      [e.1.toNat % 2 ^ 32, e.1.toNat / 2 ^ 32, e.2.1.toNat, e.2.2.toNat])))))

end Sys2Proof.Machine
end

