-- ==== Sys2Proof/Machine/LongCommands.lean ====
section
/-! DEFINITION. The ends of long commands (R388, R407 to R409, R414 to R429): completion, timeout, and the answer to an unknown
command (R405). -/

namespace Sys2Proof.Machine

/-- The check value of a key just loaded into a slot, pending or in force (R345, R424). -/
def State.loadedKcv (s : State) (slot : Nat) : Nat :=
  match s.sec.pendingKeys.find? (fun (e : Nat × List Byte) => e.1 = slot) with
  | some (_, key) => kcvOf slot key
  | none => kcvOf slot (s.key slot)

/-- The reply of a long command whose event has occurred (R414 to R429). -/
def State.completeLong (s : State) (l : LongCmd) : State :=
  let slot := arg l.args 1 % 4
  if l.code = 0x0203 then
    s.longStep l (2 ^ 2 + 2 ^ 11) 4 (fun s =>
      let s := s.setpointWrite 0 (BitVec.ofNat 32 (arg l.args 1 % 65536))
      s.endLong l (if s.spFollow 0 ≠ s.spTarget 0 then 0x0002 else 0) l.notes)
  else if l.code = 0x0404 then s.longStep l (2 ^ 10) 3 (fun s => (s.fwField ISP_CTRL_SRC 0).endLong l 0 [])
  else if l.code = 0x0503 then s.endLong l (if l.notes = [1] then 0 else 0x0005) []
  else if l.code = 0x0601 then s.endLong l 0 [s.rdN LNP_EPOCH, 3072 + arg l.args 1 % 4096 / 32]
  else if l.code = 0x0704 then s.endLong l 0 [s.rdN SEC_STATUS]
  else if l.code = 0x0801 || l.code = 0x0802 then s.endLong l 0 [s.loadedKcv slot, b2n (s.bit SEC_KEY_STATUS (16 + slot))]
  else if l.code = 0x0804 then s.endLong l 0 [s.loadedKcv 3]
  else s.endLong l 0 l.notes

/-- CAL_TARGET leaves no head armed that it armed (R421). -/
def State.afterTarget (s : State) (l : LongCmd) : State := if l.code = 0x0504 && arg l.args 1 ≠ 5 && l.notes ≠ [0x0306] then s.disarm else s

/-- CAL_TARGET's two runs have ended (R421): the values are accepted, and the head is disarmed. -/
def State.completeTarget (s : State) (l : LongCmd) (runs : List TargetRun) : State :=
  if arg l.args 1 ≠ 5 && s.hst.lineSeq < l.notes.headD 0 + 2 * arg l.args 9 then s
  else
    s.longStep l (2 ^ 14 + 2 ^ 2 + 2 ^ 3) 2 (fun s =>
      let (s, ok) := s.acceptTargets l.args runs
      (s.afterTarget l).endLong l (if ok.length = (targetElements l.args).length then 0 else 0x0005) (targetReply l.args ok))

/-- The failure bitmap of SELF_TEST (R429): the accountant's parity, the vote of the lineup copies (R305) and of the calibration copies (R317),
the tests of R330 on every thermometer, and the loopback of the detector link. -/
def State.selfTestBits (s : State) (r : SelfTestRead) : Nat :=
  let copies := s.upsetCopies r.lineup
  let lineup := copies.any (fun m => m ≠ nth [] copies 0 || mapGet m 0x1FF ≠ mapCrc m)
  let cal := r.cal.any (fun e => e.2.2 ≠ s.recWord e.2.1.val)
  let therm := (List.range 28).any (fun i =>
    let l := nth [] r.counts i
    l.any (fun c => !s.countInSpan i c) || (decide (64 ≤ l.length) && l.all (fun c => c = nth 0 l 0)))
  b2n (!r.eyeBad.isEmpty) + 2 * b2n lineup + 4 * b2n cal + 8 * b2n therm + 16 * b2n (r.sent ≠ r.echoed)

/-- A long command that times itself, or whose measurement has ended, completes (R416, R421, R423, R429). -/
def State.completeTimed (s : State) (l : LongCmd) (r : LongResult) : State :=
  match r with
  | .target runs => if l.code = 0x0504 then s.completeTarget l runs else s
  | .selfTest r =>
    if l.code = 0x0A01 then
      let s := s.advance (l.since + 512000000000)
      s.endLong l 0 [s.selfTestBits r]
    else s
  | .none =>
    if l.code = 0x0307 then
      match l.notes with
      | t :: _ => (s.advance (t - 1 + 256000000000)).longStep l (2 ^ 11) 3 (fun s => (s.openSlot 3).endLong l 0 [])
      | [] => s
    else if l.code = 0x0703 then
      let s := s.advance (l.since + 4096000000)
      s.endLong l 0 [s.rdN THM_FAILED]
    else s

/-- LONG_COMMAND_COMPLETION (R388): of the command taken from OB k; `r` is what its own measurement found. -/
def execLongCommandCompletion (p : Port) (k : Fin 4) (r : LongResult) (s : State) : Host.Outcome State Fault Refusal :=
  done (match s.longAt (pix p) k with
    | none => s
    | some l =>
      if !s.fwRuns then s
      else if l.phase = 0 then s.completeTimed l r
      else if l.phase = 1 then s.completeLong l
      else if l.phase = 3 then s.endLong l 0x030F l.notes
      else if l.phase = 4 then (s.afterTarget l).endLong l 0x0004 l.notes
      else if l.code = 0x0801 || l.code = 0x0802 || l.code = 0x0804 then s.endLong l 0x0501 l.notes
      else (s.afterTarget l).endLong l 0x0601 l.notes)

/-- The instant at which a command's wait ends and what its reply names (R415, R416). -/
def State.deadline (s : State) (l : LongCmd) : Option (Nat × Nat) :=
  if l.code = 0x0301 then some (l.since + 7680000000000, EV_SCAN_LOCKED)
  else if l.code = 0x0307 then some (l.since + 15360000000000, 0xFFFF)
  else if l.code = 0x0204 && !s.allLatched (BitVec.ofNat 32 (arg l.args 1 / 4 * 4)) then
    some (max l.since s.grid.lineStart + 256000000000, 0xFFFF)
  else none

/-- COMMAND_TIMEOUT (R415, R416): the event awaited has not occurred in time; what was done stands. -/
def execCommandTimeout (p : Port) (k : Fin 4) (s : State) : Host.Outcome State Fault Refusal :=
  done (match s.longAt (pix p) k with
    | none => s
    | some l =>
      match l.phase, s.deadline l with
      | 0, some (t, src) => if s.fwRuns then (s.advance t).endLong l 0x0602 [src] else s
      | _, _ => s)

/-- The codes of the Command Reference (18_commands.md). -/
def knownCodes : List Nat :=
  [0x0101, 0x0102, 0x0103, 0x0104, 0x0201, 0x0202, 0x0203, 0x0204, 0x0205, 0x0301, 0x0302, 0x0303, 0x0304, 0x0305, 0x0306, 0x0307,
   0x0308, 0x0401, 0x0402, 0x0403, 0x0404, 0x0405, 0x0501, 0x0502, 0x0503, 0x0504, 0x0601, 0x0602, 0x0603, 0x0701, 0x0702, 0x0703,
   0x0704, 0x0801, 0x0802, 0x0803, 0x0804, 0x0805, 0x0806, 0x0807, 0x0808, 0x0809, 0x080A, 0x080B, 0x0901, 0x0902, 0x0903, 0x0A01,
   0x0A02]

/-- UNKNOWN_COMMAND (R405, R430). -/
def execUnknownCommand (p : Port) (k : Fin 4) (s : State) : Host.Outcome State Fault Refusal :=
  let hdr := s.rd (MBX_OB_HDR (pix p) k)
  done (if s.obFirst (pix p) k && !knownCodes.contains (hdrCode hdr) then
      ((s.takeCommand (pix p) k).flush).reply (pix p) k (hdrTag hdr) 0x0101 [0]
    else s)

end Sys2Proof.Machine
end

