-- ==== Sys2Proof/Machine/Dispatch.lean ====
section
/-! DEFINITION. One arm per command of the table, each a direct call of its meaning. -/

namespace Sys2Proof.Machine

def exec (i : Instr) (s : State) : Host.Outcome State Fault Refusal :=
  match i with
  | .registerWrite p off v c puf => Sys2Proof.Machine.execRegisterWrite p off v c puf s
  | .rcRead p off => Sys2Proof.Machine.execRcRead p off s
  | .lowHalfRead p off => Sys2Proof.Machine.execLowHalfRead p off s
  | .malformedAccess p write => Sys2Proof.Machine.execMalformedAccess p write s
  | .facetIndex t => Sys2Proof.Machine.execFacetIndex t s
  | .lineStart => Sys2Proof.Machine.execLineStart s
  | .substitutionChangeover => Sys2Proof.Machine.execSubstitutionChangeover s
  | .imageLineStart tests => Sys2Proof.Machine.execImageLineStart tests s
  | .slotSetup => Sys2Proof.Machine.execSlotSetup s
  | .slotStart => Sys2Proof.Machine.execSlotStart s
  | .slotEmission parityError f => Sys2Proof.Machine.execSlotEmission parityError f s
  | .listenWindowClose => Sys2Proof.Machine.execListenWindowClose s
  | .coarseCounterEnd l => Sys2Proof.Machine.execCoarseCounterEnd l s
  | .periodMeasurementDone l a b => Sys2Proof.Machine.execPeriodMeasurementDone l a b s
  | .loopSample t own p49 tags => Sys2Proof.Machine.execLoopSample t own p49 tags s
  | .slotClose p n => Sys2Proof.Machine.execSlotClose p n s
  | .slotOpen p n => Sys2Proof.Machine.execSlotOpen p n s
  | .slotModeChange p n mode => Sys2Proof.Machine.execSlotModeChange p n mode s
  | .coefficientWrite p off v => Sys2Proof.Machine.execCoefficientWrite p off v s
  | .setpointWrite p n v => Sys2Proof.Machine.execSetpointWrite p n v s
  | .rcCellUpdate => Sys2Proof.Machine.execRcCellUpdate s
  | .revolutionIndex t => Sys2Proof.Machine.execRevolutionIndex t s
  | .quadratureEdge t a b => Sys2Proof.Machine.execQuadratureEdge t a b s
  | .missingFacetIndex => Sys2Proof.Machine.execMissingFacetIndex s
  | .motorTrip code => Sys2Proof.Machine.execMotorTrip code s
  | .coolerTrip code => Sys2Proof.Machine.execCoolerTrip code s
  | .shotProgramCommit p frameMode => Sys2Proof.Machine.execShotProgramCommit p frameMode s
  | .shtRunStart p frames => Sys2Proof.Machine.execShtRunStart p frames s
  | .shtRunStop p => Sys2Proof.Machine.execShtRunStop p s
  | .shtRunAbort p => Sys2Proof.Machine.execShtRunAbort p s
  | .nonceWrite p hi => Sys2Proof.Machine.execNonceWrite p hi s
  | .patternSwapRequest p sync => Sys2Proof.Machine.execPatternSwapRequest p sync s
  | .patternCheckDone => Sys2Proof.Machine.execPatternCheckDone s
  | .patternShadowWrite p w v => Sys2Proof.Machine.execPatternShadowWrite p w v s
  | .currentProfileCommit p => Sys2Proof.Machine.execCurrentProfileCommit p s
  | .currentCommitDone codes f => Sys2Proof.Machine.execCurrentCommitDone codes f s
  | .driverFlagsReadDone f => Sys2Proof.Machine.execDriverFlagsReadDone f s
  | .eyeLock p => Sys2Proof.Machine.execEyeLock p s
  | .eyeSubBinEnd w parityError f => Sys2Proof.Machine.execEyeSubBinEnd w parityError f s
  | .emonFaultInput f => Sys2Proof.Machine.execEmonFaultInput f s
  | .monitorPulse t f => Sys2Proof.Machine.execMonitorPulse t f s
  | .monitorPulseMissing f => Sys2Proof.Machine.execMonitorPulseMissing f s
  | .monitorPulseExcess tot f => Sys2Proof.Machine.execMonitorPulseExcess tot f s
  | .rearmWrite p v c => Sys2Proof.Machine.execRearmWrite p v c s
  | .floodPeriodStart => Sys2Proof.Machine.execFloodPeriodStart s
  | .floodGroupSample m code => Sys2Proof.Machine.execFloodGroupSample m code s
  | .floodEdgeReadback m levels => Sys2Proof.Machine.execFloodEdgeReadback m levels s
  | .floodLampClear p lamps => Sys2Proof.Machine.execFloodLampClear p lamps s
  | .spadDetection n k t => Sys2Proof.Machine.execSpadDetection n k t s
  | .spadMaskSubmit p n hi => Sys2Proof.Machine.execSpadMaskSubmit p n hi s
  | .spadMaskTimer => Sys2Proof.Machine.execSpadMaskTimer s
  | .surveyGo p => Sys2Proof.Machine.execSurveyGo p s
  | .surveyPeriodExpiry => Sys2Proof.Machine.execSurveyPeriodExpiry s
  | .surveyStepEnd counts => Sys2Proof.Machine.execSurveyStepEnd counts s
  | .surveySweepEnd counts => Sys2Proof.Machine.execSurveySweepEnd counts s
  | .detectorEnable p v => Sys2Proof.Machine.execDetectorEnable p v s
  | .detectorLinkFrame good => Sys2Proof.Machine.execDetectorLinkFrame good s
  | .coolerStatusTimer sat => Sys2Proof.Machine.execCoolerStatusTimer sat s
  | .stopArrival l t coarse fine => Sys2Proof.Machine.execStopArrival l t coarse fine s
  | .calibrationEdge l bad => Sys2Proof.Machine.execCalibrationEdge l bad s
  | .calRunComplete l => Sys2Proof.Machine.execCalRunComplete l s
  | .eventLanePush l bad => Sys2Proof.Machine.execEventLanePush l bad s
  | .eventLanePop l => Sys2Proof.Machine.execEventLanePop l s
  | .laneReset p l => Sys2Proof.Machine.execLaneReset p l s
  | .itemReceived c bad => Sys2Proof.Machine.execItemReceived c bad s
  | .coarseHistogramComplete c => Sys2Proof.Machine.execCoarseHistogramComplete c s
  | .zoomWindowsPlaced c => Sys2Proof.Machine.execZoomWindowsPlaced c s
  | .finePassComplete c => Sys2Proof.Machine.execFinePassComplete c s
  | .lineCollection c bad => Sys2Proof.Machine.execLineCollection c bad s
  | .histogramCommit p frameMode => Sys2Proof.Machine.execHistogramCommit p frameMode s
  | .tapConfigWrite p r v => Sys2Proof.Machine.execTapConfigWrite p r v s
  | .pointChainRun c k => Sys2Proof.Machine.execPointChainRun c k s
  | .localMemoryError e c kind word late => Sys2Proof.Machine.execLocalMemoryError e c kind word late s
  | .colourFusionJoin runs => Sys2Proof.Machine.execColourFusionJoin runs s
  | .linePacketAssembly bad => Sys2Proof.Machine.execLinePacketAssembly bad s
  | .packetDestinationSend d full => Sys2Proof.Machine.execPacketDestinationSend d full s
  | .packetConfigWrite p r v => Sys2Proof.Machine.execPacketConfigWrite p r v s
  | .gateStep => Sys2Proof.Machine.execGateStep s
  | .senseIntervalClose signals => Sys2Proof.Machine.execSenseIntervalClose signals s
  | .pixelLineTransfer => Sys2Proof.Machine.execPixelLineTransfer s
  | .pixelLineReceived => Sys2Proof.Machine.execPixelLineReceived s
  | .pixelHeaderTimeout => Sys2Proof.Machine.execPixelHeaderTimeout s
  | .imagingCommit p => Sys2Proof.Machine.execImagingCommit p s
  | .imgAppliedFrameRead p => Sys2Proof.Machine.execImgAppliedFrameRead p s
  | .imagingEnable p on => Sys2Proof.Machine.execImagingEnable p on s
  | .frameSyncInEdge t width => Sys2Proof.Machine.execFrameSyncInEdge t width s
  | .ispLineEnqueue => Sys2Proof.Machine.execIspLineEnqueue s
  | .ispLineProcess => Sys2Proof.Machine.execIspLineProcess s
  | .ispControlWrite p v => Sys2Proof.Machine.execIspControlWrite p v s
  | .ispCaptureRequest p lines => Sys2Proof.Machine.execIspCaptureRequest p lines s
  | .ispReprocRequest p lines => Sys2Proof.Machine.execIspReprocRequest p lines s
  | .reprocessRecord => Sys2Proof.Machine.execReprocessRecord s
  | .ispStatInfoRead p => Sys2Proof.Machine.execIspStatInfoRead p s
  | .afeOutputSample m a b force k => Sys2Proof.Machine.execAfeOutputSample m a b force k s
  | .excitationZeroCrossing m => Sys2Proof.Machine.execExcitationZeroCrossing m s
  | .settlingEnd m => Sys2Proof.Machine.execSettlingEnd m s
  | .chargeResetInstant m charge => Sys2Proof.Machine.execChargeResetInstant m charge s
  | .chargeEarlyReset m t charge => Sys2Proof.Machine.execChargeEarlyReset m t charge s
  | .afeConfigWrite p off v => Sys2Proof.Machine.execAfeConfigWrite p off v s
  | .polyConfigWrite p j v => Sys2Proof.Machine.execPolyConfigWrite p j v s
  | .fltPeakRead p j => Sys2Proof.Machine.execFltPeakRead p j s
  | .detectorRestart p j => Sys2Proof.Machine.execDetectorRestart p j s
  | .interlockTripClear p => Sys2Proof.Machine.execInterlockTripClear p s
  | .adcControlWrite p v => Sys2Proof.Machine.execAdcControlWrite p v s
  | .referenceReady => Sys2Proof.Machine.execReferenceReady s
  | .adcTimerTrigger => Sys2Proof.Machine.execAdcTimerTrigger s
  | .adcGo p => Sys2Proof.Machine.execAdcGo p s
  | .adcSequenceEnd check bias volts => Sys2Proof.Machine.execAdcSequenceEnd check bias volts s
  | .adcCommit p => Sys2Proof.Machine.execAdcCommit p s
  | .adcSeqNumRead p => Sys2Proof.Machine.execAdcSeqNumRead p s
  | .overStart rate => Sys2Proof.Machine.execOverStart rate s
  | .transferGrant t port waiting bad => Sys2Proof.Machine.execTransferGrant t port waiting bad s
  | .budgetCommit p => Sys2Proof.Machine.execBudgetCommit p s
  | .dcfWrite k data => Sys2Proof.Machine.execDcfWrite k data s
  | .dcfRead k parityFails => Sys2Proof.Machine.execDcfRead k parityFails s
  | .elementErrorReport kind k e => Sys2Proof.Machine.execElementErrorReport kind k e s
  | .tileCopyDone pos failed => Sys2Proof.Machine.execTileCopyDone pos failed s
  | .lineupCheck upsets => Sys2Proof.Machine.execLineupCheck upsets s
  | .scrubPass words => Sys2Proof.Machine.execScrubPass words s
  | .lineupQuery p kind k => Sys2Proof.Machine.execLineupQuery p kind k s
  | .reselectionRequest p kind k => Sys2Proof.Machine.execReselectionRequest p kind k s
  | .reselectionDone r => Sys2Proof.Machine.execReselectionDone r s
  | .calibrationVote upsets => Sys2Proof.Machine.execCalibrationVote upsets s
  | .calExportStart p => Sys2Proof.Machine.execCalExportStart p s
  | .calExportComplete => Sys2Proof.Machine.execCalExportComplete s
  | .calImportStart by_ d read => Sys2Proof.Machine.execCalImportStart by_ d read s
  | .calImportApply => Sys2Proof.Machine.execCalImportApply s
  | .thermometerWindowEnd counts => Sys2Proof.Machine.execThermometerWindowEnd counts s
  | .upIntervalEnd => Sys2Proof.Machine.execUpIntervalEnd s
  | .downIntervalEnd => Sys2Proof.Machine.execDownIntervalEnd s
  | .graceExpiry => Sys2Proof.Machine.execGraceExpiry s
  | .thmStopDoneWrite by_ => Sys2Proof.Machine.execThmStopDoneWrite by_ s
  | .thmRetestWrite p v => Sys2Proof.Machine.execThmRetestWrite p v s
  | .referenceTrimUpdate => Sys2Proof.Machine.execReferenceTrimUpdate s
  | .keyLoadOperation by_ slot => Sys2Proof.Machine.execKeyLoadOperation by_ slot s
  | .keyUnwrapOperation by_ slot => Sys2Proof.Machine.execKeyUnwrapOperation by_ slot s
  | .keyZeroOperation by_ slot => Sys2Proof.Machine.execKeyZeroOperation by_ slot s
  | .keyOpInvalid by_ slot => Sys2Proof.Machine.execKeyOpInvalid by_ slot s
  | .keyOperationDone => Sys2Proof.Machine.execKeyOperationDone s
  | .secCfgPlainOff by_ => Sys2Proof.Machine.execSecCfgPlainOff by_ s
  | .secCfgKkeyLock by_ => Sys2Proof.Machine.execSecCfgKkeyLock by_ s
  | .secCfgRespLock by_ => Sys2Proof.Machine.execSecCfgRespLock by_ s
  | .secRespWrite by_ v => Sys2Proof.Machine.execSecRespWrite by_ v s
  | .meshMismatch n driven read => Sys2Proof.Machine.execMeshMismatch n driven read s
  | .caseOpen t => Sys2Proof.Machine.execCaseOpen t s
  | .voltageGlitch t dur failed vcore vio => Sys2Proof.Machine.execVoltageGlitch t dur failed vcore vio s
  | .clockGlitch t period => Sys2Proof.Machine.execClockGlitch t period s
  | .interlockInputChange t a b => Sys2Proof.Machine.execInterlockInputChange t a b s
  | .interlockHoldExpiry => Sys2Proof.Machine.execInterlockHoldExpiry s
  | .interlockDiscrepancy => Sys2Proof.Machine.execInterlockDiscrepancy s
  | .discrepancyClear by_ => Sys2Proof.Machine.execDiscrepancyClear by_ s
  | .pinMismatch t emitAct level => Sys2Proof.Machine.execPinMismatch t emitAct level s
  | .pinMismatchClear by_ released => Sys2Proof.Machine.execPinMismatchClear by_ released s
  | .jtagInstructionLoad k code => Sys2Proof.Machine.execJtagInstructionLoad k code s
  | .portReset p c => Sys2Proof.Machine.execPortReset p c s
  | .portUp p => Sys2Proof.Machine.execPortUp p s
  | .bar2Write off bytes => Sys2Proof.Machine.execBar2Write off bytes s
  | .possessionAcquire who g => Sys2Proof.Machine.execPossessionAcquire who g s
  | .possessionRelease p g => Sys2Proof.Machine.execPossessionRelease p g s
  | .dmaTailWrite p q v => Sys2Proof.Machine.execDmaTailWrite p q v s
  | .dmaDescriptorComplete p q hostError => Sys2Proof.Machine.execDmaDescriptorComplete p q hostError s
  | .dmaItemReady p q desc => Sys2Proof.Machine.execDmaItemReady p q desc s
  | .dmaQueueEnable p q => Sys2Proof.Machine.execDmaQueueEnable p q s
  | .dmaQueueDisable p q => Sys2Proof.Machine.execDmaQueueDisable p q s
  | .dmaQueueReset p q => Sys2Proof.Machine.execDmaQueueReset p q s
  | .eventRingEnable p log2 => Sys2Proof.Machine.execEventRingEnable p log2 s
  | .eventReadIndexWrite p v => Sys2Proof.Machine.execEventReadIndexWrite p v s
  | .eventTest p src => Sys2Proof.Machine.execEventTest p src s
  | .eventMaskWrite p w v => Sys2Proof.Machine.execEventMaskWrite p w v s
  | .mailboxCommandSend p k hdr payload => Sys2Proof.Machine.execMailboxCommandSend p k hdr payload s
  | .mailboxReplyPost p k hdr payload => Sys2Proof.Machine.execMailboxReplyPost p k hdr payload s
  | .mailboxTake p k => Sys2Proof.Machine.execMailboxTake p k s
  | .firmwareLoadGo who qa qb da db => Sys2Proof.Machine.execFirmwareLoadGo who qa qb da db s
  | .firmwareLoadDone image => Sys2Proof.Machine.execFirmwareLoadDone image s
  | .watchdogExpiry t puf => Sys2Proof.Machine.execWatchdogExpiry t puf s
  | .lockstepMismatch puf => Sys2Proof.Machine.execLockstepMismatch puf s
  | .longCommandCompletion p k r => Sys2Proof.Machine.execLongCommandCompletion p k r s
  | .commandTimeout p k => Sys2Proof.Machine.execCommandTimeout p k s
  | .unknownCommand p k => Sys2Proof.Machine.execUnknownCommand p k s
  | .identify p k => Sys2Proof.Machine.execIdentify p k s
  | .echo p k => Sys2Proof.Machine.execEcho p k s
  | .restart p k puf => Sys2Proof.Machine.execRestart p k puf s
  | .status p k => Sys2Proof.Machine.execStatus p k s
  | .regWrite p k c puf => Sys2Proof.Machine.execRegWrite p k c puf s
  | .regRead p k => Sys2Proof.Machine.execRegRead p k s
  | .scanProfile p k => Sys2Proof.Machine.execScanProfile p k s
  | .commit p k => Sys2Proof.Machine.execCommit p k s
  | .loopProfile p k => Sys2Proof.Machine.execLoopProfile p k s
  | .spinUp p k => Sys2Proof.Machine.execSpinUp p k s
  | .runStart p k => Sys2Proof.Machine.execRunStart p k s
  | .runStop p k => Sys2Proof.Machine.execRunStop p k s
  | .runAbort p k => Sys2Proof.Machine.execRunAbort p k s
  | .arm p k => Sys2Proof.Machine.execArm p k s
  | .disarm p k => Sys2Proof.Machine.execDisarm p k s
  | .spinDown p k => Sys2Proof.Machine.execSpinDown p k s
  | .emitterRearm p k c => Sys2Proof.Machine.execEmitterRearm p k c s
  | .imgSetup p k => Sys2Proof.Machine.execImgSetup p k s
  | .imgEnable p k => Sys2Proof.Machine.execImgEnable p k s
  | .capture p k => Sys2Proof.Machine.execCapture p k s
  | .reprocess p k => Sys2Proof.Machine.execReprocess p k s
  | .ispSetup p k => Sys2Proof.Machine.execIspSetup p k s
  | .calExport p k => Sys2Proof.Machine.execCalExport p k s
  | .calImport p k d read => Sys2Proof.Machine.execCalImport p k d read s
  | .calReselect p k => Sys2Proof.Machine.execCalReselect p k s
  | .calTarget p k => Sys2Proof.Machine.execCalTarget p k s
  | .sendOff p k => Sys2Proof.Machine.execSendOff p k s
  | .elementQuery p k => Sys2Proof.Machine.execElementQuery p k s
  | .lineupFactory p k => Sys2Proof.Machine.execLineupFactory p k s
  | .thermalReport p k => Sys2Proof.Machine.execThermalReport p k s
  | .setFloor p k => Sys2Proof.Machine.execSetFloor p k s
  | .retest p k => Sys2Proof.Machine.execRetest p k s
  | .emissionReset p k => Sys2Proof.Machine.execEmissionReset p k s
  | .keyLoad p k => Sys2Proof.Machine.execKeyLoad p k s
  | .keyUnwrap p k => Sys2Proof.Machine.execKeyUnwrap p k s
  | .keyZero p k => Sys2Proof.Machine.execKeyZero p k s
  | .keyAgree p k => Sys2Proof.Machine.execKeyAgree p k s
  | .attest p k => Sys2Proof.Machine.execAttest p k s
  | .setLocks p k => Sys2Proof.Machine.execSetLocks p k s
  | .setResponse p k => Sys2Proof.Machine.execSetResponse p k s
  | .safetyClear p k => Sys2Proof.Machine.execSafetyClear p k s
  | .faultForce p k => Sys2Proof.Machine.execFaultForce p k s
  | .kernelLoad p k d image => Sys2Proof.Machine.execKernelLoad p k d image s
  | .serveNonce p k => Sys2Proof.Machine.execServeNonce p k s
  | .netStatus p k => Sys2Proof.Machine.execNetStatus p k s
  | .timeSource p k => Sys2Proof.Machine.execTimeSource p k s
  | .servePhase p k => Sys2Proof.Machine.execServePhase p k s
  | .selfTest p k => Sys2Proof.Machine.execSelfTest p k s
  | .fwLog p k added => Sys2Proof.Machine.execFwLog p k added s
  | .netLink lane lock remoteFault => Sys2Proof.Machine.execNetLink lane lock remoteFault s
  | .gptpFrameReceived t lane m => Sys2Proof.Machine.execGptpFrameReceived t lane m s
  | .foreignFrameDrop lane fcsOk corr uncorr => Sys2Proof.Machine.execForeignFrameDrop lane fcsOk corr uncorr s
  | .timeStep p hi => Sys2Proof.Machine.execTimeStep p hi s
  | .ppsInEdge t => Sys2Proof.Machine.execPpsInEdge t s
  | .ppsOutPulse => Sys2Proof.Machine.execPpsOutPulse s
  | .helloSend => Sys2Proof.Machine.execHelloSend s
  | .timeFrameSend => Sys2Proof.Machine.execTimeFrameSend s
  | .helloReceived t c serial members quality master hops => Sys2Proof.Machine.execHelloReceived t c serial members quality master hops s
  | .timeFrameReceived t c t2 t3 => Sys2Proof.Machine.execTimeFrameReceived t c t2 t3 s
  | .chainAlarmReceived t c level src => Sys2Proof.Machine.execChainAlarmReceived t c level src s
  | .chainFrameCrcError c => Sys2Proof.Machine.execChainFrameCrcError c s
  | .chainLinkTimeout c => Sys2Proof.Machine.execChainLinkTimeout c s
  | .coordinationApply => Sys2Proof.Machine.execCoordinationApply s
  | .chainMemberReset p => Sys2Proof.Machine.execChainMemberReset p s
  | .netConfigWrite p w v => Sys2Proof.Machine.execNetConfigWrite p w v s
  | .railsAndClocksGood rails clocks => Sys2Proof.Machine.execRailsAndClocksGood rails clocks s
  | .fuseBankRead bank parityOk => Sys2Proof.Machine.execFuseBankRead bank parityOk s
  | .thmDomainRelease => Sys2Proof.Machine.execThmDomainRelease s
  | .coreDomainsRelease puf emon => Sys2Proof.Machine.execCoreDomainsRelease puf emon s
  | .perstNRise p => Sys2Proof.Machine.execPerstNRise p s
  | .pwrDdrReady => Sys2Proof.Machine.execPwrDdrReady s
  | .railFail t rails vio => Sys2Proof.Machine.execRailFail t rails vio s
  | .pwrResetEmission p => Sys2Proof.Machine.execPwrResetEmission p s
  | .emissionDomainRelease emon => Sys2Proof.Machine.execEmissionDomainRelease emon s
  | .pwrResetManagement p puf => Sys2Proof.Machine.execPwrResetManagement p puf s
  | .pwrResetFull p => Sys2Proof.Machine.execPwrResetFull p s
  | .pwrResetRefused p key domain => Sys2Proof.Machine.execPwrResetRefused p key domain s
  | .hardRecoveryStart => Sys2Proof.Machine.execHardRecoveryStart s
  | .pwrHardAck p => Sys2Proof.Machine.execPwrHardAck p s
  | .glbFrameRead p => Sys2Proof.Machine.execGlbFrameRead p s
  | .missedSyncMeasurement t => Sys2Proof.Machine.execMissedSyncMeasurement t s
  | .chainTimeFallback => Sys2Proof.Machine.execChainTimeFallback s
  | .pdelayReqSend => Sys2Proof.Machine.execPdelayReqSend s
  | .tamperSourceCleared src t => Sys2Proof.Machine.execTamperSourceCleared src t s
  | .spinUpPhaseMode p k => Sys2Proof.Machine.execSpinUpPhaseMode p k s

end Sys2Proof.Machine
end

