-- ==== Sys2Proof/Machine/Step.lean ====
section
/-! DEFINITION. One step: the command at the front of the queue, or, on an empty queue, one period of the 100 MHz reference. -/

namespace Sys2Proof.Machine

/-- What a step does on an empty queue (DESIGN CHOICE, log entry 64): one period of the 100 MHz reference passes, 2,560 ticks, in
which device time advances and nothing else happens. -/
def State.idle (s : State) : State := s.advance (s.now + 2560)

/-- Take the command at the front of the queue and run it on the state with the queue's rest. -/
def step (s : State) : Host.Outcome State Fault Refusal :=
  match s.pending with
  | [] => .next s.idle
  | c :: rest => exec c { s with pending := rest }

/-- The state with the command that a word spells at the front of its queue; unchanged where the word spells none. -/
def State.withFetchWord (s : State) (nbits w : Nat) : State :=
  match decodeTableWord nbits w with
  | some c => { s with pending := c :: s.pending }
  | none => s

end Sys2Proof.Machine
end

