-- ==== Sys2Proof/Machine/Lands.lean ====
section
/-! DEFINITION. What the block shows outside its registers: the levels of the output lands as functions of the state (R474 and the rules of
each port), and the PCIe configuration space of the ports (R358, R463). -/

namespace Sys2Proof.Machine

/-! ### Emitters, lamps and drives -/

/-- In EXTEST the row triggers and the column enables are driven low whatever the boundary register holds (R355). -/
def State.boardTest (s : State) : Bool := s.sec.jtag = .extest

/-- TRG_P[r] (P08 to P23): high from the rise to the fall of the pulse of a firing row (R75, R481, R482). -/
def State.trgLand (s : State) (r : Fin 16) : Bool :=
  let d := s.emt.drive
  !s.boardTest && d.rows.getLsbD r && decide (d.rise ≤ s.now) && decide (s.now < d.fall)

/-- COL_EN[k] (P24 to P35): high from the set-up of a slot to the release of its columns (R75, R482). -/
def State.colLand (s : State) (k : Fin 12) : Bool :=
  let d := s.emt.drive
  !s.boardTest && d.cols.getLsbD k && (match d.release with | none => true | some t => decide (s.now < t))

/-- ECB_SEL[3:0] (P36): the current profile of the slot set up last (R75); low in reset. -/
def State.ecbSel (s : State) : BitVec 4 := if s.pwr.emissionInReset then 0 else BitVec.ofNat 4 s.emt.drive.sel

/-- The slot of the pulse-density period at this instant (R94): with a line grid 1,024 slots in each of four range lines, else slots of
24 ns. -/
def State.floodSlot (s : State) : Nat :=
  if s.grid.running then
    let line := (s.grid.linesStarted + s.grid.linesNotRun + 3) % 4
    1024 * line + min 1023 ((s.now - s.grid.lineStart) * s.lineRate / 250000000000)
  else min 4095 ((s.now - s.flood.periodAt) / 6144)

/-- FLm_DRV (P38 to P45) at this instant (R93, R95); low in reset. -/
def State.floodLand (s : State) (m : Fin 8) : Bool :=
  !s.pwr.emissionInReset && s.floodLevel m (s.floodSlot / 2 ^ s.fld FLD_CFG_GROUP_LOG2)

/-- The cycle of 10 ns that runs. -/
def State.cycle (s : State) : Nat := s.now / 2560

/-- The levels of a phase's high-side and low-side outputs at cycle `c` of a PWM period of `period` cycles (R54): the on-time `d` lies about
the centre, at the multiples of the period where slot 3 samples, and an output rises `dead` cycles after the other has fallen, or not at
all where no time is left for it (log entry 168). -/
def phaseLands (period dead d c : Nat) : Bool × Bool :=
  let d : Int := min d period
  -- twice the cycles from the nearest centre
  let x : Int := if 2 * (c % period) < period then 2 * (c % period : Nat) else 2 * ((c % period : Nat) : Int) - 2 * period
  (decide (2 * dead - d ≤ x) && decide (x < d), (decide (x < -d) && decide (d + 2 * dead ≤ x + 2 * period)) || decide (d + 2 * dead ≤ x))

/-- MOT_UH and MOT_UL, MOT_VH and MOT_VL, MOT_WH and MOT_WL (P46 to P48) for phase 0, 1, 2 (R54, R55); low in reset. -/
def State.motorLands (s : State) (ph : Fin 3) : Bool × Bool :=
  if s.pwr.coreInReset || s.ctl.phasesLow then (false, false)
  else phaseLands (s.fld CTL_PWM_CFG_PERIOD) (s.fld CTL_PWM_CFG_DEAD) (nth 0 s.ctl.duty ph) s.cycle

/-- COOL_A and COOL_B (P50, P51): 100 kHz, the sign of the output names the leg and its magnitude the duty (R59; log entry 142); low in
reset. -/
def State.coolLands (s : State) : Bool × Bool :=
  let v := s.coolOut
  let on := !s.pwr.coreInReset && decide (s.cycle % 1000 < v.natAbs * 1000 / 32768)
  (on && decide (0 < v), on && decide (v < 0))

/-! ### Synchronisation, safety and general outputs -/

/-- PPS_OUT (P83), R438. -/
def State.ppsLand (s : State) : Bool := !s.pwr.coreInReset && decide (s.now < s.net.ppsUntil)

/-- FSYNC_OUT (P85), R439. -/
def State.fsyncLand (s : State) : Bool := !s.pwr.coreInReset && decide (s.now < s.net.fsyncUntil)

/-- What the device drives EMIT_ACT (P87) to (R353); low in reset. -/
def State.emitDrive (s : State) : Bool := !s.pwr.emissionInReset && s.p87

/-- What the device drives FAULT (P88) to (R353, R454): none while it is released to high impedance, low while no cause stands. -/
def State.faultDrive (s : State) : Option Bool := if s.anyReset then none else some (s.faultCauses ≠ 0)

/-- GPIO[pin] (P93): the pin of a slot with PLANT 5 carries 100 MHz / 4,096 with the output clamped at 0 as its duty (R61); a pin that
switches drive follows them (R270); every other is an input (none). -/
def State.gpioLand (s : State) (pin : Nat) : Option Bool :=
  if s.pwr.coreInReset then none
  else
    match (List.range 8).find? (fun n => s.fld (CTL_SLOT_CFG_PLANT n) = 5 && s.fld (CTL_SLOT_CFG_GPIO_PIN n) = pin) with
    | some n => some (decide (s.cycle % 4096 < (tabGet 0 s.ctl.gpio n).toNat / 8))
    | none => s.gpioSwitch pin

/-- VREF (P81): the buffer of the internal reference drives the land (R279, R280). -/
def State.vrefDriven (s : State) : Bool :=
  !s.pwr.coreInReset && s.flag ADC_CTRL_REF_EN && !s.flag ADC_CTRL_REF_SRC

/-- The voltage between AFEm_EXP and AFEm_EXN (P57 to P64), in nV (R250); none while the lands are high-Z in reset. -/
def State.afeLand (s : State) (m : Fin 8) : Option Int := if s.pwr.coreInReset then none else some (s.excitation m)

/-! ### PCIe configuration space (R358, R463) -/

/-- The identifiers of a port's configuration space. -/
structure PciIds where
  vendor : Nat
  device : Nat
  revision : Nat
  classCode : Nat
  subVendor : Nat
  subsystem : Nat
  deriving DecidableEq, Repr

/-- The identifiers by port and grade (R463); the class code of R358. -/
def State.pciIds (s : State) (p : Port) : PciIds :=
  { vendor := 0x1F7C, device := match p with | .a => 0x0192 | .b => 0x0193, revision := 0xB0, classCode := 0x118000,
    subVendor := 0x1F7C, subsystem := s.fld GLB_GRADE_GRADE + 1 }

/-- The number of address bits a BAR decodes (R358): BAR0 64 MiB, BAR2 16 GiB on Port A alone, BAR4 64 KiB. -/
def barBits (p : Port) (bar : Nat) : Option Nat :=
  if bar = 0 then some 26
  else if bar = 2 then (match p with | .a => some 34 | .b => none)
  else if bar = 4 then some 16 else none

/-- The power state of a port, 0 D0 and 3 D3hot (R358, R359). -/
def State.pciPower (s : State) (p : Port) : Nat := if (s.port (pix p)).d3hot then 3 else 0

/-- The device serial number capability: the fused serial number (R358, R464). -/
def State.pciSerial (s : State) (_p : Port) : Nat := s.serial

/-- The type bits of a BAR at `off` of the header (R358): 64-bit, prefetchable for BAR2. PRESUMED (log entry 166): their place and the offsets
of the header are those of the PCIe specification. -/
def barType (p : Port) (off : Nat) : Nat :=
  if off = 0x10 || off = 0x20 then 4 else if off = 0x18 && (barBits p 2).isSome then 0xC else 0

/-- A word of a port's configuration header as it stands after a reset of the port (R463; PRESUMED layout, log entry 166). -/
def State.cfgWord (s : State) (p : Port) (off : Nat) : Word :=
  let i := s.pciIds p
  BitVec.ofNat 32
    (if off = 0 then i.device * 65536 + i.vendor
     else if off = 8 then i.classCode * 256 + i.revision
     else if off = 0x2C then i.subsystem * 65536 + i.subVendor
     else barType p off)

/-- A configuration read (R358, R359): nothing answers while the port's domain is in reset or its link is down; during the 10 µs of a port
reset the request completes with Configuration Request Retry Status. -/
def State.cfgRead (s : State) (p : Port) (off : Nat) : Completion :=
  let q := s.port (pix p)
  if s.portInReset (pix p) || q.linkDown || q.perstLow then .none
  else if s.now < q.resetUntil then .retry
  else .data (s.cfgWord p off)

end Sys2Proof.Machine
end

