-- ==== Sys2Proof/Safety.lean ====
section
/-! DEFINITION. The words the statements are made in, and what a safe state of the block is: the emission-enable output and what software reads of it follow the chain, nothing
raised or refused is left over from a step, and memory is in its canonical form. -/

namespace Sys2Proof.Machine

/-- EMT_CHAIN.ACTIVE and its terms show the chain as the machine holds it (R85). -/
def State.chainShown (s : State) : Prop :=
  s.fld ⟨EMT_CHAIN, 7, 0⟩ = s.emt.terms.toNat ∧ s.flag EMT_CHAIN_ACTIVE = s.p87

/-- Every source raised in a step has been logged, and no refusal is remembered beyond its command. -/
def State.settled (s : State) : Prop := s.raised = [] ∧ s.refused = none

/-- Emission is possible only while every term of the chain holds (R85). -/
def State.emissionSafe (s : State) : Prop := s.p87 = true → s.chainTerms = 255

/-- The registers that show an event logged on a port: EVT_WR, EVT_LOST, EVT_SEQ, EVT_STATUS, EVT_GRP_VEC and the pending vectors
(R373 to R376). -/
def eventKey (k : Nat) : Bool :=
  decide (k < 0x8000000) && (let o := k % 0x4000000
    (0x40010 ≤ o && o < 0x4001C) || (0x40140 ≤ o && o < 0x401AC) || (0x3F01000 ≤ o && o < 0x3F01008))

/-- The registers that the end of any step can write beside what its command writes: those of logged events, and those that follow the
emission-enable chain, a frame's end, the interlock, Priard's state and the stream key (R85, R86, R113, R119, R193, R351, R353, R373,
R396). -/
def settleKey (k : Nat) : Bool :=
  eventKey k || [DET_COOL_STATUS, EMT_CHAIN, CTL_LINE_T, SHT_STATUS, EMT_ARM, MBX_FW_STATE, SEC_FAULT, SEC_ILK, SEC_KEY_STATUS, SEC_KEY_KCV 1,
    PNT_PKT_SEQ_LO, PNT_PKT_SEQ_HI, PNT_PKT_STATUS, PNT_PKT_UNSIGNED].contains k
    || (DET_AMB 0 ≤ k && k < DET_AMB 192) || (DET_RATE 0 ≤ k && k < DET_RATE 192)

/-! ### What a command does -/

/-- The command completes: it answers a next state, of which `P` holds. -/
def Gives (c : Instr) (s : State) (P : State → Prop) : Prop := ∃ t, exec c s = .next t ∧ P t

/-- The command's own effect is the state `u`, of which `P` holds, and the step ends as every step does (`settle`). -/
def Does (c : Instr) (s : State) (P : State → Prop) : Prop := ∃ u, exec c s = .next u.settle ∧ P u

/-- What register `off` holds after a write of `v` that its block stores (R18): the writable bits of `v`, the others as they were. -/
def State.stored (s : State) (off : Nat) (v : Word) : Word :=
  match accOf off with
  | some (.rw, m) => (s.rd off &&& ~~~(BitVec.ofNat 32 m)) ||| (v &&& BitVec.ofNat 32 m)
  | _ => s.rd off

/-- A source stands in EVT_STATUS of every port whose domain is out of reset (R373). -/
def Logged (t : State) (src : Nat) : Prop := ∀ p < 2, t.portInReset p = false → t.bit (EVT_STATUS p (src / 32)) (src % 32) = true

/-- All else is as before: every register but those listed and those the end of any step can write, the values in force of shadow
registers, every byte of memory, and the queue of commands. -/
def Kept (s t : State) (keys : List Nat) : Prop :=
  (∀ k, settleKey k = false → k ∉ keys → t.rd k = s.rd k) ∧ t.inForce = s.inForce ∧ (∀ a, memRead t.mem a = memRead s.mem a)
    ∧ t.pending = s.pending

/-- A write of `off` by port `p` reaches its block: the port is in service, the block out of reset, and the port holds the block's
group where it needs one (R359, R361, R452). -/
abbrev Reaches (s : State) (p : Port) (off : Nat) : Prop :=
  s.portSilent p = false ∧ s.blkInReset off = false ∧ s.possesses p off = true

/-- The same for a write of a firmware-owned register, which is taken from a port only while Priard does not run (R361, R401). -/
abbrev ReachesOwned (s : State) (p : Port) (off : Nat) : Prop := Reaches s p off ∧ s.fwRuns = false

/-- A write of a security register takes effect: by a port as above, or through Priard, while it runs (R342, R401). -/
def ReachesSec (s : State) (by_ : Option Port) (off : Nat) : Prop :=
  match by_ with
  | none => s.fwRuns = true ∧ s.pwr.coreInReset = false
  | some p => ReachesOwned s p off

/-- Port `p` holds nothing latched for offset `off` (R17). -/
abbrev Unlatched (s : State) (p : Port) (off : Nat) : Prop := ∀ e ∈ (s.port (pix p)).latches, e.1 ≠ off

/-- A read of `off` by port `p` is answered with the register's value: the port in service, the block out of reset, and no latched
half in the way (R17, R359, R452). -/
abbrev Readable (s : State) (p : Port) (off : Nat) : Prop :=
  s.portSilent p = false ∧ s.blkInReset (tableOff off) = false ∧ Unlatched s p off

/-! ### Priard's commands -/

/-- The state in which Priard has taken the command of OB k, and carries it out (R385, R388). -/
def State.serving (s : State) (p : Port) (k : Fin 4) : State := { (s.takeCommand (pix p) k).flush with refused := none }

/-- The payload of OB k. -/
def State.payload (s : State) (p : Port) (k : Fin 4) : List Word := s.obPayload (pix p) k

/-- Priard may take the command of OB k next, and its header carries the command's code (R388). -/
abbrev Offered (s : State) (p : Port) (k : Fin 4) (c : CmdSpec) : Prop :=
  s.obFirst (pix p) k = true ∧ hdrCode (s.rd (MBX_OB_HDR (pix p) k)) = c.code

/-- The command is offered and passes every check of R405. -/
abbrev Accepted (s : State) (p : Port) (k : Fin 4) (c : CmdSpec) : Prop :=
  Offered s p k c ∧ s.judge (pix p) c (s.payload p k) = none

/-- A reply stands in IB k: its status, tag and words, with MBX_FULL raised (R384, R389). -/
def Posted (u : State) (p k tag status : Nat) (words : List Nat) : Prop :=
  u.flag (MBX_IB_STATUS_FULL p k) = true ∧ u.rd (MBX_HDR p k) = BitVec.ofNat 32 (status * 65536 + tag * 256 + words.length)
    ∧ (∀ i < words.length, u.rd (MBX_IB_DATA p k (i + 1)) = BitVec.ofNat 32 (words.getD i 0)) ∧ u.has EV_MBX_FULL = true

/-- The command of OB k was taken, which empties OB k, and answered in IB k. -/
def Replied (s u : State) (p : Port) (k : Fin 4) (status : Nat) (words : List Nat) : Prop :=
  u.flag (MBX_OB_STATUS_FULL (pix p) k) = false ∧ Posted u (pix p) k (hdrTag (s.rd (MBX_OB_HDR (pix p) k))) status words

/-- The command of OB k was taken and awaits its event as a long command (R408); `notes` is what it keeps until then. -/
def Awaits (s u : State) (p : Port) (k : Fin 4) (code : Nat) (notes : List Nat) : Prop :=
  u.flag (MBX_OB_STATUS_FULL (pix p) k) = false ∧ u.fw.longs = s.fw.longs
    ++ [⟨pix p, k, hdrTag (s.rd (MBX_OB_HDR (pix p) k)), code, s.payload p k, false, 0, s.now, notes⟩]

/-- The registers of OB k and IB k that taking and answering a command write. -/
def mbxKeys (p k : Nat) : List Nat :=
  [MBX_OB_STATUS p k, MBX_IB_STATUS p k, MBX_HDR p k] ++ (List.range 63).map (fun i => MBX_IB_DATA p k (i + 1))

end Sys2Proof.Machine
end

