-- ==== Sys2Proof/Certificates/Slice0/Obligations.lean ====
section
/-! DEFINITION. The statements about the block, one `Obligations.<Name>` each. A clause about one command says, for every state and operands
that meet its hypotheses, that the command completes and what then holds (`Gives`), or what state its own effect makes before the step ends
as every step does (`Does`, or the state written out). -/

open Sys2Proof Sys2Proof.Machine

/-- For every command c and state s: a step of s with c at the front of its queue and any rest behind it is exec of c on s with that rest as its
queue. (R361, R373.) -/
def Obligations.StepRunsFrontCommand : Prop :=
  ∀ (c : Instr) (rest : List Instr) (s : State), step { s with pending := c :: rest } = exec c { s with pending := rest }

/-- For every command and every state exec answers a next state, which is the command's own effect with the end of a step behind it; a source
that the effect raised stands in EVT_STATUS of every port out of reset, and nothing is left raised. (R361, R373, R486.) -/
def Obligations.EveryCommandEndsAStep : Prop :=
  (∀ (c : Instr) (s : State), ∃ u : State, exec c s = .next u.settle) ∧
  (∀ (u : State) (r : Raised), r ∈ u.raised → r.src < 256 → Logged u.settle r.src) ∧
  (∀ (u : State), u.settle.raised = [] ∧ u.settle.refused = none ∧ u.settle.pending = u.pending ∧ u.settle.now = u.now)

/-- On an empty queue a step moves the clock by 2,560 ticks and device time by their length under the rate correction in force, and leaves every
register, value in force, byte of memory and all else as it was. That an empty queue lets one period of 100 MHz pass is the model's own
choice (log entry 64). (R9, R435.) -/
def Obligations.EmptyQueueIsOnePeriod : Prop :=
  ∀ (s : State), s.pending = [] → ∃ t, step s = .next t ∧ t.now = s.now + 2560
    ∧ t.devTime = (s.devTime + 2560 * (2 ^ 40 + s.rateCorr)).toNat ∧ { t with now := s.now, devTime := s.devTime } = s

/-- After reset every register reads its reset value and so does every value in force; THM, CORE, emission, management and both ports are in
reset; Priard is OFF; no port holds a group and NEXT names Port A; no key slot is valid; PWR_CAUSE shows POWER_UP; memory lists nothing; the
emission-enable output is inactive; no command waits. (R341, R364, R365, R392, R449, R452, R454, R457.) -/
def Obligations.ResetIsColdPowerUp : Prop :=
  (∀ k, State.reset.rd k = resetOf k ∧ State.reset.rdF k = resetOf k) ∧ State.reset.pwr.thmInReset = true ∧ State.reset.pwr.coreInReset = true
    ∧ State.reset.pwr.emissionInReset = true ∧ State.reset.pwr.mgmtInReset = true
    ∧ (∀ p < 2, State.reset.portInReset p = true) ∧ State.reset.fwCode = 0 ∧ (∀ g < 16, State.reset.holder g = none)
    ∧ State.reset.fld POS_TIE_NEXT = 0 ∧ (∀ n < 4, State.reset.keyValid n = false ∧ State.reset.key n = [])
    ∧ State.reset.flag PWR_CAUSE_POWER_UP = true ∧ Memory.wf State.reset.mem = true ∧ State.reset.p87 = false ∧ State.reset.pending = []

/-- For every state in which the output's terms are those of R85 as they stand, EMT_CHAIN shows them bit by bit with ACTIVE as the output is
driven, and no source raised waits, every step leads to such a state, whatever command is at the front of the queue, and on an empty queue
too; in such a state the output is active only while all eight terms hold. (That it holds at reset is a statement of its own.) (R85, R353,
R373.) -/
def Obligations.ChainInvariantIsKept : Prop :=
  (∀ (s t : State), s.emt.terms = s.chainTerms → s.chainShown → s.settled → step s = .next t →
    t.emt.terms = t.chainTerms ∧ t.chainShown ∧ t.settled ∧ t.emissionSafe)

/-- At reset the terms that drive the output are those that hold, EMT_CHAIN shows them, nothing raised is left over, and the output is safe.
(R85, R353, R373.) -/
def Obligations.ChainInvariantAtReset : Prop :=
  State.reset.emt.terms = State.reset.chainTerms ∧ State.reset.chainShown ∧ State.reset.settled ∧ State.reset.emissionSafe

/-- Out of reset: a facet index ends the sweep before it, numbers the next frame, takes the frame latches, opens the frame, checks for lock and
starts line 0; a line start inside the lines in force comes at the instant placed for it, ends the line before it and starts the next;
beyond them the line is not run and the first such line raises FRAME_LONG; an image line start takes the results of the converter tests and
starts the next of the four image lines of the line in flight, j quarters of the line after its start; a pulse of FRAME_SYNC_IN of 20 ns or
more is kept with its instant, a shorter one only counted. Out of emission reset: the set-up of a due slot posts its shot record with the
slot's serve-code offset, with no row for a dark or idle slot, sets its columns, and puts the slot in flight; its start opens the window of
every lane in service that is not held after a reset; its emission, with the chain whole and a row enabled, raises the rows' triggers for
TRIG_W, releases the columns COL_HOLD later and awaits a monitor pulse from that instant, a parity error of the accountant is a latched
fault, and with the chain open it fires no row; the close of the window closes every lane's window and moves to the next slot. Under the
hypotheses given, on the state and the operands alone, exec answers a next state for facetIndex, lineStart, imageLineStart, frameSyncInEdge,
slotSetup, slotStart, slotEmission, listenWindowClose. (R14, R25, R30, R57, R58, R74, R75, R85, R90, R128, R212, R439.) -/
def Obligations.SweepInstants : Prop :=
  (
  (∀ (t : Nat) (s : State), s.pwr.coreInReset = false →
    let a := (s.advance t).endSweep30.facetEdge
    let b := a.wrN GLB_FRAME (a.rdN GLB_FRAME + 1)
    let c : State := { b with grid := { b.grid with linesStarted := 0, linesDelivered := 0, linesNotRun := 0, overruns := 0 } }
    let d := c.calLineStart.frameLatches.takeStep.openFrame.lockCheck
    let e := if d.2 then d.1.lockRecheck else d.1
    exec (.facetIndex t) s = .next (((e.prepareLine 0 e.now true).gridLine true).settle)) ∧
  (∀ (t : Nat) (s : State), s.pwr.coreInReset = false → s.grid.running = true → s.ctl.nextLine = some t →
    s.grid.linesStarted < s.linesInForce →
    exec .lineStart s = .next (((s.prepareNext.advance t).endLine.finishLine.gridLine false).settle)) ∧
  (∀ (t : Nat) (s : State), s.pwr.coreInReset = false → s.grid.running = true → s.ctl.nextLine = some t →
    s.linesInForce ≤ s.grid.linesStarted →
    Gives .lineStart s fun u => u.grid.linesStarted = s.grid.linesStarted ∧ u.grid.linesNotRun = s.grid.linesNotRun + 1
      ∧ (s.grid.linesNotRun = 0 → Logged u EV_FRAME_LONG)) ∧
  (∀ (tests : List (BitVec 12 × BitVec 14 × BitVec 14)) (s : State), s.pwr.coreInReset = false → s.grid.running = true →
    s.img.lineOpen = true → s.img.line + 1 < 4 * s.rdN GLB_LINE + 4 →
    let at_ := s.grid.lineStart + (s.img.line + 1 - 4 * s.rdN GLB_LINE) * 64000000000000 / s.lineRate
    let u := (if s.lineRate = 0 then s else s.advance at_).converterTests tests
    exec (.imageLineStart tests) s = .next ((u.beginImageLine (s.img.line + 1)).settle)) ∧
  (∀ (t width : Nat) (s : State), s.pwr.coreInReset = false → 5120 ≤ width →
    Gives (.frameSyncInEdge t width) s fun u => u.ctl.fsyncT = some (max s.now t)) ∧
  (∀ (t width : Nat) (s : State), s.pwr.coreInReset = false → width < 5120 →
    Gives (.frameSyncInEdge t width) s fun u => u.fld NET_SYNC_ERR_FSYNC_SHORT
        = min (2 ^ (NET_SYNC_ERR_FSYNC_SHORT.hi + 1 - NET_SYNC_ERR_FSYNC_SHORT.lo) - 1) (s.fld NET_SYNC_ERR_FSYNC_SHORT + 1)
      ∧ u.ctl.fsyncT = s.ctl.fsyncT)
  ) ∧
  (
  (∀ (s : State), s.pwr.emissionInReset = false → s.slotDue = true → Does .slotSetup s fun u =>
    ∃ f r, u.sht.flight = some f ∧ u.hst.posted = s.hst.posted ++ [r] ∧ f.slot = s.sht.nextSlot
      ∧ f.start = s.grid.lineStart + nth 0 s.sht.plan s.sht.nextSlot ∧ f.started = false ∧ f.emitted = false
      ∧ f.offset = s.slotOffset (s.rdN GLB_LINE) s.sht.nextSlot ∧ r.slot = f.slot ∧ r.offset = f.offset ∧ r.frame = s.rdN GLB_FRAME
      ∧ r.line = s.rdN GLB_LINE ∧ r.kind = s.fldF (SHT_SLOT_T_KIND s.sht.nextSlot)
      ∧ u.emt.drive.cols = f.cols ∧ u.emt.drive.sel = f.profile ∧ u.emt.drive.rows = 0
      ∧ (r.kind = 2 ∨ s.sht.idleSlot = some f.slot → f.rows = 0 ∧ r.rows = 0)) ∧
  (∀ (f : SlotInFlight) (s : State), s.pwr.emissionInReset = false → s.sht.flight = some f → f.started = false →
    Does .slotStart s fun u => u.sht.flight = some { f with started := true } ∧ u.now = max s.now f.start
      ∧ ∀ l < 208, s.laneRole l = 0 → (s.lane l).resetAt = none → (u.lane l).openWin = true ∧ (u.lane l).slot = f.slot) ∧
  (∀ (fl : DriverFlags) (f : SlotInFlight) (s : State), s.pwr.emissionInReset = false → s.sht.flight = some f → f.started = true →
    f.emitted = false → s.p87 = true → f.rows ≠ 0 →
    Does (.slotEmission false fl) s fun u => u.emt.expected.getLast? = some (max s.now (f.start + f.offset), false)
      ∧ u.sht.flight = some { f with emitted := true } ∧ u.emt.drive.rows = f.rows ∧ u.emt.drive.rise = max s.now (f.start + f.offset)
      ∧ u.emt.drive.fall = u.emt.drive.rise + s.fld EMT_TRIG_CFG_TRIG_W
      ∧ u.emt.drive.release = some (u.emt.drive.fall + s.fld EMT_TRIG_CFG_COL_HOLD)) ∧
  (∀ (fl : DriverFlags) (f : SlotInFlight) (s : State), s.pwr.emissionInReset = false → s.sht.flight = some f → f.started = true →
    f.emitted = false → s.p87 = true → f.rows ≠ 0 →
    Does (.slotEmission true fl) s fun u => u.flag EMT_FAULT_LATCHED = true) ∧
  (∀ (e : Bool) (fl : DriverFlags) (f : SlotInFlight) (s : State), s.pwr.emissionInReset = false → s.sht.flight = some f →
    f.started = true → f.emitted = false → s.p87 = false → Does (.slotEmission e fl) s fun u => u.emt.expected = s.emt.expected
      ∧ u.sht.flight = some { f with rows := 0, emitted := true } ∧ u.emt.drive.rows = 0) ∧
  (∀ (f : SlotInFlight) (s : State), s.pwr.emissionInReset = false → s.sht.flight = some f → f.started = true →
    Does .listenWindowClose s fun u => u.sht.flight = none ∧ u.sht.nextSlot = s.sht.nextSlot + 1
      ∧ ∀ l, (u.lane l).openWin = false)
  )

/-- A write that reaches the block and names a mode the slot has: a close sets CLOSE of a slot with a plant; an open clears CLOSE and the slot's
CLOSED bit of CTL_STATUS (slot 5's shows its lamps), and for slots 0 and 3 clears LOCK; a change of slot 0's mode stores it and, to mode 0,
clears LOCK. A mode the slot does not have is refused: CTL_CFG_ERROR is raised, CTL_EVT_INFO records offset and slot, and nothing else
changes. Under the hypotheses given, on the state and the operands alone, exec answers a next state for slotClose, slotOpen, slotModeChange.
(R44, R45, R47, R57.) -/
def Obligations.LoopSlotsOpenAndClose : Prop :=
  (∀ (p : Port) (n : Fin 8) (s : State), Reaches s p (CTL_SLOT_CTRL n) → s.plant n ≠ 0 →
    s.fld (CTL_SLOT_CTRL_MODE n) < (if n.val = 0 then 2 else 1) →
    Gives (.slotClose p n) s fun t => t.flag (CTL_SLOT_CTRL_CLOSE n) = true ∧ Kept s t [CTL_SLOT_CTRL n]) ∧
  (∀ (p : Port) (n : Fin 8) (s : State), Reaches s p (CTL_SLOT_CTRL n) →
    s.fld (CTL_SLOT_CTRL_MODE n) < (if n.val = 0 then 2 else 1) →
    Gives (.slotOpen p n) s fun t => t.flag (CTL_SLOT_CTRL_CLOSE n) = false ∧ (n.val ≠ 5 → t.bit CTL_STATUS (8 + n) = false)
      ∧ ((n.val = 0 ∨ n.val = 3) → t.flag CTL_STATUS_LOCK = false) ∧ Kept s t [CTL_SLOT_CTRL n, CTL_STATUS]) ∧
  (∀ (p : Port) (mode : BitVec 2) (s : State), Reaches s p (CTL_SLOT_CTRL 0) → mode.toNat < 2 →
    s.fld (CTL_SLOT_CTRL_MODE 0) ≠ mode.toNat → s.flag (CTL_SLOT_CTRL_CLOSE 0) = true → s.plant 0 ≠ 0 →
    Gives (.slotModeChange p 0 mode) s fun t => t.fld (CTL_SLOT_CTRL_MODE 0) = mode.toNat
      ∧ (mode = 0 → t.flag CTL_STATUS_LOCK = false) ∧ Kept s t [CTL_SLOT_CTRL 0, CTL_STATUS]) ∧
  (∀ (p : Port) (n : Fin 8) (mode : BitVec 2) (s : State), Reaches s p (CTL_SLOT_CTRL n) →
    (if n.val = 0 then 2 else 1) ≤ mode.toNat →
    Gives (.slotModeChange p n mode) s fun t => Logged t EV_CTL_CFG_ERROR
      ∧ t.rdN CTL_EVT_INFO = (0x1000 + 0x80 * n.val) * 65536 + n.val ∧ Kept s t [CTL_EVT_INFO])

/-- A write of CTL_KP[n], a coefficient of slot n, that reaches the block while slot n is open stores the value's low 16 bits and leaves
everything else but CTL_LOAD as it was. A write of any coefficient register while a slot that it belongs to is closed changes nothing but
CTL_EVT_INFO, which takes the block offset and the lowest such slot, and raises CTL_COEF_LOCKED. A write of a set-point that reaches the
block stores its 16 bits whether the slot is open or closed, and changes no other register; where the limits in force clamp the new target
of a slot other than 3, whose set-points have no effect, CTL_SP_CLAMP is raised. Under the hypotheses given, on the state and the operands
alone, exec answers a next state for coefficientWrite, setpointWrite. (R46, R49, R65.) -/
def Obligations.CoefficientsLockWhileClosed : Prop :=
  (
  (∀ (p : Port) (n : Fin 8) (v : Word) (s : State), Reaches s p (CTL_KP n) → s.coefClosed n = false →
    Gives (.coefficientWrite p (BitVec.ofNat 18 (0x1008 + 0x80 * n.val)) v) s fun t =>
      t.fld (CTL_KP_V n) = v.toNat % 65536 ∧ Kept s t [CTL_KP n, CTL_LOAD]) ∧
  (∀ (p : Port) (off : BitVec 18) (v : Word) (lo hi n : Nat) (s : State), Reaches s p (0x380000 + off.toNat) →
    coefSlots off.toNat = some (lo, hi) → (accOf (0x380000 + off.toNat)).isSome = true → s.lowestClosed lo hi = some n →
    Gives (.coefficientWrite p off v) s fun t => Logged t EV_CTL_COEF_LOCKED
      ∧ t.rdN CTL_EVT_INFO = (off.toNat % 65536) * 65536 + n % 256 ∧ Kept s t [CTL_EVT_INFO])
  ) ∧
  (
  ∀ (p : Port) (n : Fin 8) (v : BitVec 16) (s : State), Reaches s p (CTL_SP n) →
    Gives (.setpointWrite p n v) s fun t => t.rd (CTL_SP n) = v.setWidth 32 ∧ Kept s t [CTL_SP n]
      ∧ (n.val ≠ 3 → t.spFollow n ≠ t.spTarget n → Logged t EV_CTL_SP_CLAMP)
  )

/-- Out of reset: one channel changing counts by 1, in the direction that the levels and DIR give; both changing at once counts in CTL_ENC_ERR
and is an encoder fault; a revolution index restarts the count and the facet edges, and after a revolution with another number of facet
edges than FACETS, or a count off by more than 1, it is an encoder fault; an angle more than 1.25 facets beyond the last facet index ends
the line grid and is an encoder fault. An encoder fault sets ENC_FAULT, clears LOCK, opens slots 0 to 3 and raises CTL_ENC_FAULT. Out of
reset, a motor current above CTL_MOTOR_ITRIP sets MOTOR_TRIP, drives the phase outputs low, opens slots 0 to 3, clears LOCK and raises
CTL_MOTOR_TRIP; a cooler code above CTL_COOL_ITRIP, or below 16,383 minus it, opens slot 4 with the plant output at 0 and raises
CTL_COOL_TRIP. A current within its threshold changes nothing. Under the hypotheses given, on the state and the operands alone, exec answers
a next state for quadratureEdge, revolutionIndex, missingFacetIndex, motorTrip, coolerTrip. (R53, R54, R55, R59.) -/
def Obligations.EncoderEdges : Prop :=
  (
  let Faulted := fun (t : State) => t.flag CTL_STATUS_ENC_FAULT = true ∧ t.flag CTL_STATUS_LOCK = false ∧ Logged t EV_CTL_ENC_FAULT
    ∧ ∀ n < 4, t.flag (CTL_SLOT_CTRL_CLOSE n) = false ∧ t.bit CTL_STATUS (8 + n) = false
  (∀ (t : Nat) (a b : Bool) (s : State), s.pwr.coreInReset = false → (a ≠ s.ctl.encA ↔ b = s.ctl.encB) →
    Gives (.quadratureEdge t a b) s fun u => u.ctl.encA = a ∧ u.ctl.encB = b
      ∧ u.ctl.count = s.ctl.count + (if (if a ≠ s.ctl.encA then decide (a ≠ b) else decide (a = b)) ≠ s.flag CTL_ENC_CFG_DIR then 1 else -1)
      ∧ Kept s u []) ∧
  (∀ (t : Nat) (s : State), s.pwr.coreInReset = false →
    Gives (.quadratureEdge t (!s.ctl.encA) (!s.ctl.encB)) s fun u => Faulted u ∧ u.ctl.count = s.ctl.count
      ∧ u.fld CTL_ENC_ERR_V = min 65535 (s.fld CTL_ENC_ERR_V + 1)) ∧
  (∀ (t : Nat) (s : State), s.pwr.coreInReset = false →
    Gives (.revolutionIndex t) s fun u => u.ctl.count = 0 ∧ u.ctl.facetEdges = 0 ∧ u.ctl.angleValid = true
      ∧ u.grid.facet = s.fld CTL_ENC_CFG_FACETS
      ∧ (s.ctl.angleValid = true → s.ctl.facetEdges ≠ s.fld CTL_ENC_CFG_FACETS → Faulted u)
      ∧ (s.ctl.angleValid = true → 1 < ((s.ctl.count.natAbs : Int) - (s.cpr : Int)).natAbs → Faulted u)) ∧
  (∀ (s : State), s.pwr.coreInReset = false →
    5 * s.cpr < 4 * s.fld CTL_ENC_CFG_FACETS * (s.ctl.count - s.ctl.countAtFacet).natAbs →
    Gives .missingFacetIndex s fun u => Faulted u ∧ u.grid.running = false ∧ u.ctl.nextLine = none)
  ) ∧
  (
  (∀ (code : BitVec 14) (s : State), s.pwr.coreInReset = false → s.fld CTL_MOTOR_ITRIP_V < code.toNat →
    Gives (.motorTrip code) s fun t => t.flag CTL_STATUS_MOTOR_TRIP = true ∧ t.flag CTL_STATUS_LOCK = false ∧ t.ctl.phasesLow = true
      ∧ Logged t EV_CTL_MOTOR_TRIP ∧ (∀ n < 4, t.flag (CTL_SLOT_CTRL_CLOSE n) = false)
      ∧ Kept s t [CTL_STATUS, CTL_SLOT_CTRL 0, CTL_SLOT_CTRL 1, CTL_SLOT_CTRL 2, CTL_SLOT_CTRL 3]) ∧
  (∀ (code : BitVec 14) (s : State), s.pwr.coreInReset = false →
    (s.fld CTL_COOL_ITRIP_V < code.toNat ∨ code.toNat < 16383 - s.fld CTL_COOL_ITRIP_V) →
    Gives (.coolerTrip code) s fun t => t.flag (CTL_SLOT_CTRL_CLOSE 4) = false ∧ t.ctl.cool.out = 0 ∧ Logged t EV_CTL_COOL_TRIP
      ∧ Kept s t [CTL_STATUS, CTL_SLOT_CTRL 4]) ∧
  (∀ (code : BitVec 14) (s : State), code.toNat ≤ s.fld CTL_MOTOR_ITRIP_V → Gives (.motorTrip code) s fun t => Kept s t []) ∧
  (∀ (code : BitVec 14) (s : State), code.toNat ≤ s.fld CTL_COOL_ITRIP_V → 16383 - s.fld CTL_COOL_ITRIP_V ≤ code.toNat → Gives (.coolerTrip code) s fun t => Kept s t [])
  )

/-- Slot 1 or 2, closed on the polygon plant with its own sensor as source, alone at its sample instant while slot 0 is open and its sample not
tagged: the limiter moves its set-point by one sample, the law gives its output on the sensor's value, CTL_OUT and CTL_MEAS show the output
and the value, CTL_SP_NOW the set-point, and its CLOSED bit stands. Under the hypotheses given, on the state and the operands alone, exec
answers a next state for loopSample. (R39, R42, R44, R48.) -/
def Obligations.LoopSampleEvaluatesTheLaw : Prop :=
  ∀ (t : Nat) (n : Fin 8) (own : List Int) (p49 : BitVec 14 × BitVec 14) (s : State), (n.val = 1 ∨ n.val = 2) →
    s.pwr.coreInReset = false → (s.advance t).dueSlots = BitVec.ofNat 8 (2 ^ n.val) → s.plant n = 1 → (s.slot n).closed = true → (s.slot 0).closed = false → s.fld (CTL_SLOT_CFG_SOURCE n) = 0 →
    let u := s.limitSlot n
    let law := (lawStep (u.coefs n) (u.slot n) (ratInt (u.slot n).spNow) (nth 0 own n) false 0 s.polyOut).1
    Gives (.loopSample t own p49 0) s fun r =>
      r.fld (CTL_OUT_V n) = toBits 16 law.u ∧ r.fld (CTL_MEAS_V n) = toBits 16 (nth 0 own n)
        ∧ r.fld (CTL_SP_NOW_V n) = toBits 16 (ratInt (u.slot n).spNow) ∧ (r.slot n).u = law.u ∧ r.bit CTL_STATUS (8 + n) = true

/-- With OUT_MIN not above OUT_MAX and a sum limit that is not negative, the law's output lies between them and the sum it offers within plus or
minus ILIM. A slew limit above 0 bounds the change of an output; a rate limit above 0 with no acceleration limit bounds the change of the
set-point in a sample by the rate times the sample's length; under an acceleration limit a sample either arrives at the target at rest, or
moves by its rate, which differs from the rate before by no more than the acceleration times the sample's length. Out of reset and with the
table enabled, a cell all of whose samples qualified takes GAIN_F of its value plus GAIN_L of the mean error, rounded and clamped to plus or
minus CTL_RC_LIMIT; a cell with a sample that did not qualify keeps its value; every cell's sums start from 0 again in the cell that the
angle has entered, and no register but the table's word changes. Under the hypotheses given, on the state and the operands alone, exec
answers a next state for rcCellUpdate. (R41, R42, R48, R51.) -/
def Obligations.LoopLawStaysInLimits : Prop :=
  (
  (∀ (c : Coefs) (l : LoopState) (w y ff o : Int) (tag : Bool), c.outMin ≤ c.outMax → 0 ≤ c.ilim →
    let r := lawStep c l w y tag ff o
    c.outMin ≤ r.1.u ∧ r.1.u ≤ c.outMax ∧ -(c.ilim * 32768) ≤ r.2 ∧ r.2 ≤ c.ilim * 32768) ∧
  (∀ (out sel slew : Int), 0 < slew → slewTo out sel slew - out ≤ slew ∧ out - slewTo out sel slew ≤ slew) ∧
  (∀ (sp rate : Rat) (target : Int) (maxRate hz : Nat), 0 < maxRate → 0 < hz →
    let r := (limiterStep sp rate target maxRate 0 hz).1
    (r - sp) * hz ≤ maxRate ∧ (sp - r) * hz ≤ maxRate) ∧
  (∀ (sp rate : Rat) (target : Int) (maxRate acc hz : Nat), 0 < acc → 0 < hz →
    let r := limiterStep sp rate target maxRate acc hz
    (r.1 = target ∧ r.2 = 0) ∨ ((r.1 - sp) * hz = r.2 ∧ (r.2 - rate) * hz ≤ acc ∧ (rate - r.2) * hz ≤ acc))
  ) ∧
  (
  (∀ (s : State), s.pwr.coreInReset = false → s.rcCellNow ≠ s.ctl.rcCell → s.ctl.rcOk = false → Gives .rcCellUpdate s fun t =>
    t.ctl.rcCell = s.rcCellNow ∧ t.ctl.rcSum = 0 ∧ t.ctl.rcCount = 0 ∧ t.ctl.rcOk = true ∧ Kept s t []) ∧
  (∀ (s : State), s.pwr.coreInReset = false → s.rcCellNow ≠ s.ctl.rcCell → s.ctl.rcOk = true → s.ctl.rcCount ≠ 0 →
    s.flag CTL_RC_CFG_ENABLE = true → s.ctl.rcCell < 5120 →
    let f := halfFld (CTL_RC_TABLE 0) s.ctl.rcCell
    let lim : Int := (s.fld CTL_RC_LIMIT_V : Nat)
    let k : Int := (s.ctl.rcCount : Nat)
    let m := clampI (roundDiv (s.fldI CTL_RC_GAIN_F * s.fldI f * k + s.fldI CTL_RC_GAIN_L * s.ctl.rcSum) (32768 * k)) (-lim) lim
    Gives .rcCellUpdate s fun t => t.fld f = toBits 16 m ∧ t.ctl.rcCell = s.rcCellNow ∧ t.ctl.rcSum = 0 ∧ t.ctl.rcCount = 0
      ∧ t.ctl.rcOk = true ∧ Kept s t [f.reg])
  )

/-- Out of reset a window ends 250 µs after the one before, and its counts become readings and what follows from them; a reading inside the span
of a thermometer that is not failed and not stuck is shown in THM_TEMP. A retest starts for the failed thermometers named and for no other.
Levels that do not rise are refused with code 0x01. Out of reset: at the end of an UP interval, UP times 10 ms after it began, L rises by 1
up to 8, at the end of a DOWN interval of DOWN times 0.1 s it falls by 1, the next interval begins, and with no line grid the step decided
is in force at once. The end of the grace period, GRACE after its start, and Priard's THM_STOP_DONE both end it, with EMT_ARM cleared and no
run active; the first raises THM_STOP_TIMEOUT. Under the hypotheses given, on the state and the operands alone, exec answers a next state
for thermometerWindowEnd, thmRetestWrite, upIntervalEnd, downIntervalEnd, graceExpiry, thmStopDoneWrite. (R326, R327, R328, R330, R332,
R336.) -/
def Obligations.ThermometerWindows : Prop :=
  (
  (∀ (counts : List Nat) (s : State), s.pwr.thmInReset = false →
    let u := s.advance (s.thm.windowAt + 64000000)
    exec (.thermometerWindowEnd counts) s
      = .next ((({ u with thm := { u.thm with windowAt := u.now } } : State).windowEnd counts).settle)) ∧
  (∀ (i c : Nat) (s : State), i < 28 → s.thermFailed i = false → s.countInSpan i c = true →
    ((s.therm i).started = false ∨ c ≠ (s.therm i).lastCount ∨ (s.therm i).same < 63) →
    ((s.readTherm i c).therm i).reading = s.countToReading i c
      ∧ (s.readTherm i c).fld (THM_TEMP_TEMP i) = toBits 16 (satI 16 (s.countToReading i c))
      ∧ (s.readTherm i c).thermFailed i = false) ∧
  (∀ (p : Port) (v : BitVec 28) (i : Nat) (s : State), Reaches s p THM_RETEST → i < 28 →
    Gives (.thmRetestWrite p v) s fun t => (if v.getLsbD i && s.thermFailed i then (t.therm i).retest = some 0 else t.therm i = s.therm i)
      ∧ Kept s t []) ∧
  (∀ (p : Port) (v : Word) (c : RearmChecks) (s : State), Reaches s p THM_LEVEL_LOGIC →
    ¬(signedN 8 (v.toNat % 256) < signedN 8 (v.toNat / 256 % 256) ∧ signedN 8 (v.toNat / 256 % 256) < signedN 8 (v.toNat / 65536 % 256)
      ∧ signedN 8 (v.toNat / 65536 % 256) < signedN 8 (v.toNat / 2 ^ 24 % 256)) →
    Gives (.registerWrite p (BitVec.ofNat 26 THM_LEVEL_LOGIC) v c none) s fun t => t.rdN THM_CFG_ERR = 0x0100FFFF
      ∧ Logged t EV_THM_CFG_ERROR ∧ Kept s t [THM_CFG_ERR])
  ) ∧
  (
  (∀ (at_ : Nat) (s : State), s.pwr.thmInReset = false → s.thm.upFrom = some at_ → Gives .upIntervalEnd s fun t =>
    t.now = max s.now (at_ + 2560000000 * s.fld THM_STEP_CFG_UP) ∧ t.thm.upFrom = some t.now
      ∧ t.fld THM_STATUS_L = min 8 (s.fld THM_STATUS_L + 1) ∧ (s.grid.running = false → t.fld THM_STATUS_STEP = t.thm.stepNext)
      ∧ Kept s t [THM_STATUS]) ∧
  (∀ (at_ : Nat) (s : State), s.pwr.thmInReset = false → s.thm.downFrom = some at_ → Gives .downIntervalEnd s fun t =>
    t.now = max s.now (at_ + 25600000000 * s.fld THM_STEP_CFG_DOWN) ∧ t.thm.downFrom = some t.now
      ∧ t.fld THM_STATUS_L = s.fld THM_STATUS_L - 1 ∧ (s.grid.running = false → t.fld THM_STATUS_STEP = t.thm.stepNext)
      ∧ Kept s t [THM_STATUS]) ∧
  (∀ (at_ : Nat) (s : State), s.thm.grace = some at_ → Does .graceExpiry s fun u =>
    u.now = max s.now (at_ + 256000000 * s.fld THM_CRIT_GRACE_V) ∧ u.thm.grace = none ∧ u.flag EMT_ARM_ARM = false ∧ u.running = false ∧ u.has EV_THM_STOP_TIMEOUT = true) ∧
  (∀ (s : State), s.thm.grace.isSome = true → s.fwRuns = true → Does (.thmStopDoneWrite none) s fun u =>
    u.thm.grace = none ∧ u.flag EMT_ARM_ARM = false ∧ u.running = false)
  )

/-- A commit that reaches the block stages the whole shadow set with its mode and instant when every check passes; when one fails, SHT_CFG_ERR
takes its code and detail, SHT_CFG_ERROR is raised, and the pending program and everything else stay. A LINES outside 512 to 4,096 is
refused with code 0x01. Under the hypotheses given, on the state and the operands alone, exec answers a next state for shotProgramCommit.
(R68, R70, R486.) -/
def Obligations.ShotProgramCommitChecks : Prop :=
  (∀ (p : Port) (m : Bool) (s : State), Reaches s p SHT_COMMIT →
    programCheck (s.shadowSet programSpans) (s.spMaxFor (fldIn (s.shadowSet programSpans) SHT_CFG_LINES)).toNat
      (s.fld EMT_TRIG_CFG_TRIG_W) (s.fld EMT_TRIG_CFG_COL_HOLD) = none →
    Gives (.shotProgramCommit p m) s fun t => t.sht.pending = some (m, s.now) ∧ t.sht.staged = s.shadowSet programSpans ∧ Kept s t []) ∧
  (∀ (p : Port) (m : Bool) (c d : Nat) (s : State), Reaches s p SHT_COMMIT →
    programCheck (s.shadowSet programSpans) (s.spMaxFor (fldIn (s.shadowSet programSpans) SHT_CFG_LINES)).toNat
      (s.fld EMT_TRIG_CFG_TRIG_W) (s.fld EMT_TRIG_CFG_COL_HOLD) = some (c, d) →
    Gives (.shotProgramCommit p m) s fun t => t.rd SHT_CFG_ERR = BitVec.ofNat 32 (c * 2 ^ 24 + d % 2 ^ 16) ∧ Logged t EV_SHT_CFG_ERROR
      ∧ t.sht.pending = s.sht.pending ∧ Kept s t [SHT_CFG_ERR]) ∧
  (∀ (p : Port) (m : Bool) (s : State), Reaches s p SHT_COMMIT → (s.fld SHT_CFG_LINES < 512 ∨ 4096 < s.fld SHT_CFG_LINES) →
    Gives (.shotProgramCommit p m) s fun t => t.rdN SHT_CFG_ERR = 0x01000000 ∧ t.sht.pending = s.sht.pending)

/-- While Priard does not run, a start with FRAMES above 0 waits for the next frame start, or gives a run in progress its new count; FRAMES = 0
is refused with code 0x0B; a stop ends a run with its frame and cancels a pending start; an abort ends the run at once, with no window in
flight, no slot set up for the next line and no frame open. The high word of the nonce completes it and sets NONCE_SET. With PHASES_LOG2 not
above BITS, BITS at most 10 and PHASE below 2 to the PHASES_LOG2, the offset of every slot is below 2 to the BITS and equal to PHASE modulo
2 to the PHASES_LOG2; with BITS = 0 it is 0. Under the hypotheses given, on the state and the operands alone, exec answers a next state for
shtRunStart, shtRunStop, shtRunAbort, nonceWrite. (R70, R72, R82, R83.) -/
def Obligations.RunCommands : Prop :=
  (
  (∀ (p : Port) (n : BitVec 16) (s : State), ReachesOwned s p SHT_RUN → n ≠ 0 → s.running = false →
    Does (.shtRunStart p n) s fun u => u.sht.startPending = some n.toNat) ∧
  (∀ (p : Port) (n : BitVec 16) (s : State), ReachesOwned s p SHT_RUN → n ≠ 0 → s.running = true →
    Does (.shtRunStart p n) s fun u => u.sht.newCount = some n.toNat ∧ u.sht.stopAtEnd = false) ∧
  (∀ (p : Port) (s : State), ReachesOwned s p SHT_RUN →
    Gives (.shtRunStart p 0) s fun t => t.rdN SHT_CFG_ERR = 0x0B000000 ∧ Logged t EV_SHT_CFG_ERROR ∧ Kept s t [SHT_CFG_ERR]) ∧
  (∀ (p : Port) (s : State), ReachesOwned s p SHT_RUN → s.running = true → Does (.shtRunStop p) s fun u => u.sht.stopAtEnd = true) ∧
  (∀ (p : Port) (s : State), ReachesOwned s p SHT_RUN → s.running = false →
    Does (.shtRunStop p) s fun u => u.sht.startPending = none ∧ u.running = false) ∧
  (∀ (p : Port) (s : State), ReachesOwned s p SHT_RUN → s.running = true →
    Does (.shtRunAbort p) s fun u => u.running = false ∧ u.sht.flight = none ∧ u.sht.prepared = none ∧ u.sht.startPending = none
      ∧ u.grid.frameOpen = false) ∧
  (∀ (p : Port) (hi : Word) (s : State), Reaches s p SHT_SERVE_NONCE_HI →
    Does (.nonceWrite p hi) s fun u => u.rd SHT_SERVE_NONCE_HI = hi ∧ u.flag SHT_STATUS_NONCE_SET = true)
  ) ∧
  (
  (∀ (b bits pl phase k : Nat), 1 ≤ bits → bits ≤ 10 → pl ≤ bits → phase < 2 ^ pl →
    serveOffset b bits pl phase k < 2 ^ bits ∧ serveOffset b bits pl phase k % 2 ^ pl = phase) ∧
  (∀ (b pl phase k : Nat), serveOffset b 0 pl phase k = 0)
  )

/-- With no swap pending, a shadow write stores its word in the inactive bank (of word 6 the profile's 4 bits, of the reserved word 7 nothing)
and a request with SYNC 0 to 2 sets a swap pending; while one is pending a shadow write raises EMT_CFG_ERROR and stores nothing, and a
further request changes nothing; SYNC = 3 raises EMT_CFG_ERROR. The check refuses the bank at its first entry that is no rectangle, with
PATTERN_ERROR and EMT_PAT_ERR, and otherwise the swap waits for its sync event. With the chain open, the accountant unlocked and no commit
running, a profile commit sets BUSY, clears VERIFIED and sends the 256 codes and their readback on the current bus; with one of these it
raises EMT_CFG_ERROR and changes nothing. A commit whose readback matched ends with VERIFIED. A lock of a verified, idle accountant sets
LOCK and empties its sums; of one not verified, it raises EMT_CFG_ERROR. With the accountant locked, the end of a sub-bin of a window comes
at its instant and advances its ring to an empty bin. Under the hypotheses given, on the state and the operands alone, exec answers a next
state for patternShadowWrite, patternSwapRequest, patternCheckDone, currentProfileCommit, currentCommitDone, eyeLock, eyeSubBinEnd. (R67,
R76, R77, R78, R80, R87, R89.) -/
def Obligations.PatternMemoryCommands : Prop :=
  (
  (∀ (p : Port) (w : BitVec 11) (v : Word) (s : State), Reaches s p (EMT_PAT_SHADOW w.toNat) → s.flag EMT_PAT_CTRL_PENDING = false →
    Gives (.patternShadowWrite p w v) s fun t => t.patWord (1 - s.emt.activeBank) (w.toNat / 8) (w.toNat % 8)
        = (if w.toNat % 8 = 7 then 0 else if w.toNat % 8 = 6 then v.toNat % 16 else v.toNat)
      ∧ (∀ i, i ≠ 2048 * (1 - s.emt.activeBank) + w.toNat → tabGet 0 t.emt.patterns i = tabGet 0 s.emt.patterns i) ∧ Kept s t []) ∧
  (∀ (p : Port) (w : BitVec 11) (v : Word) (s : State), Reaches s p (EMT_PAT_SHADOW w.toNat) → s.flag EMT_PAT_CTRL_PENDING = true →
    Gives (.patternShadowWrite p w v) s fun t => t.emt.patterns = s.emt.patterns ∧ Logged t EV_EMT_CFG_ERROR ∧ Kept s t []) ∧
  (∀ (p : Port) (sync : BitVec 2) (s : State), Reaches s p EMT_PAT_CTRL → sync ≠ 3 → s.flag EMT_PAT_CTRL_PENDING = false →
    Gives (.patternSwapRequest p sync) s fun t => t.emt.swap = some (sync.toNat, false, s.now) ∧ t.flag EMT_PAT_CTRL_PENDING = true
      ∧ t.fld EMT_PAT_CTRL_SYNC = sync.toNat ∧ Kept s t [EMT_PAT_CTRL]) ∧
  (∀ (p : Port) (sync : BitVec 2) (s : State), Reaches s p EMT_PAT_CTRL → sync ≠ 3 → s.flag EMT_PAT_CTRL_PENDING = true →
    Gives (.patternSwapRequest p sync) s fun t => t.emt.swap = s.emt.swap ∧ Kept s t []) ∧
  (∀ (p : Port) (s : State), Reaches s p EMT_PAT_CTRL →
    Gives (.patternSwapRequest p 3) s fun t => t.emt.swap = s.emt.swap ∧ Logged t EV_EMT_CFG_ERROR ∧ Kept s t []) ∧
  (∀ (sync at_ e : Nat) (s : State), s.pwr.emissionInReset = false → s.emt.swap = some (sync, false, at_) → e < 256 →
    isRectangle (s.patBits (1 - s.emt.activeBank) e) = false →
    (∀ i < e, isRectangle (s.patBits (1 - s.emt.activeBank) i) = true) →
    Gives .patternCheckDone s fun t => t.rdN EMT_PAT_ERR = 2 ^ 31 + e ∧ t.flag EMT_PAT_CTRL_PENDING = false ∧ t.emt.swap = none
      ∧ Logged t EV_EMT_PATTERN_ERROR ∧ Kept s t [EMT_PAT_ERR, EMT_PAT_CTRL]) ∧
  (∀ (sync at_ : Nat) (s : State), s.pwr.emissionInReset = false → s.emt.swap = some (sync, false, at_) →
    (∀ i < 256, isRectangle (s.patBits (1 - s.emt.activeBank) i) = true) →
    Gives .patternCheckDone s fun t => t.emt.swap = some (sync, true, s.now) ∧ Kept s t [])
  ) ∧
  (
  (∀ (p : Port) (s : State), Reaches s p EMT_CUR_COMMIT → s.p87 = false → s.flag EMT_EYE_CFG_LOCK = false → s.flag EMT_ECB_STATUS_BUSY = false →
    Gives (.currentProfileCommit p) s fun t => t.flag EMT_ECB_STATUS_BUSY = true ∧ t.flag EMT_ECB_STATUS_VERIFIED = false
      ∧ t.emt.codes = s.profileCodes ∧ t.wire = s.wire ++ (profileFrames s.profileCodes).map WireFrame.ecb
      ∧ Kept s t [EMT_ECB_STATUS]) ∧
  (∀ (p : Port) (s : State), Reaches s p EMT_CUR_COMMIT → (s.p87 = true ∨ s.flag EMT_EYE_CFG_LOCK = true ∨ s.flag EMT_ECB_STATUS_BUSY = true) →
    Gives (.currentProfileCommit p) s fun t => Logged t EV_EMT_CFG_ERROR ∧ Kept s t []) ∧
  (∀ (f : DriverFlags) (s : State), s.pwr.emissionInReset = false → s.flag EMT_ECB_STATUS_BUSY = true →
    Gives (.currentCommitDone s.emt.codes f) s fun t => t.flag EMT_ECB_STATUS_BUSY = false ∧ t.flag EMT_ECB_STATUS_VERIFIED = true
      ∧ t.flag EMT_ECB_STATUS_VERIFY_FAIL = false ∧ Kept s t [EMT_ECB_STATUS]) ∧
  (∀ (p : Port) (s : State), Reaches s p EMT_EYE_CFG → s.flag EMT_EYE_CFG_LOCK = false → s.flag EMT_ECB_STATUS_BUSY = false →
    s.flag EMT_ECB_STATUS_VERIFIED = true →
    Gives (.eyeLock p) s fun t => t.flag EMT_EYE_CFG_LOCK = true ∧ t.emt.eye = [] ∧ Kept s t [EMT_EYE_CFG, EMT_EYE_PEAK]) ∧
  (∀ (p : Port) (s : State), Reaches s p EMT_EYE_CFG → s.flag EMT_EYE_CFG_LOCK = false → s.flag EMT_ECB_STATUS_VERIFIED = false →
    Gives (.eyeLock p) s fun t => Logged t EV_EMT_CFG_ERROR ∧ Kept s t []) ∧
  (∀ (w : Fin 2) (f : DriverFlags) (s : State), s.pwr.emissionInReset = false → s.flag EMT_EYE_CFG_LOCK = true →
    let pos := (nth 0 s.emt.eyePos w + 1) % 65
    Gives (.eyeSubBinEnd w false f) s fun t => t.emt.eyePos = setNth s.emt.eyePos w pos
      ∧ (∀ e ∈ t.emt.eye, e.1 / 256 ≠ 65 * w.val + pos) ∧ t.now = max s.now (nth 0 s.emt.eyeEnd w) ∧ Kept s t [EMT_EYE_PEAK])
  )

/-- Out of emission reset: a monitor pulse outside every expected window, a missing pulse, a pulse over threshold for longer than TOT_MAX, a
failed readback of the current bus, a parity error of the accountant, EMON_FLT_N, and a driver flag read at a frame start each set LATCHED
and their cause; the first latch records the emitter that the flags name, or 0xFF, and raises EMITTER_FAULT. A pulse inside an expected
window matches it and latches nothing; a flag read with no flag set ends the wait for it and latches nothing. A write of 0xA5 starts the
sequence. A write of 0x5A within 1 ms of it, with a fault latched, clears the latch and every cause when EMON_FLT_N is high, the driver
flags are clear and the recorded causes' own checks pass; when EMON_FLT_N is low, it changes no register and raises EMT_REARM_REFUSED. Under
the hypotheses given, on the state and the operands alone, exec answers a next state for monitorPulse, monitorPulseMissing,
monitorPulseExcess, currentCommitDone, eyeSubBinEnd, emonFaultInput, driverFlagsReadDone, rearmWrite. (R80, R81, R90, R91, R92.) -/
def Obligations.EmitterFaultsLatch : Prop :=
  (
  let Latches := fun (c : Instr) (s : State) (f : DriverFlags) (cause : List Nat) => Gives c s fun t =>
    t.flag EMT_FAULT_LATCHED = true ∧ (∀ b ∈ cause, t.bit EMT_FAULT b = true)
      ∧ (s.flag EMT_FAULT_LATCHED = false → t.fld EMT_FAULT_EMITTER = (firstFlag f).getD 0xFF ∧ Logged t EV_EMITTER_FAULT)
  (∀ (t : Nat) (f : DriverFlags) (s : State), s.pwr.emissionInReset = false →
    (∀ e ∈ s.emt.expected, ¬(e.1 + 256 * s.fld EMT_MON_CFG_DLY_MIN ≤ t ∧ t ≤ e.1 + 256 * s.fld EMT_MON_CFG_DLY_MAX)) →
    Latches (.monitorPulse t f) s f [4]) ∧
  (∀ (e : Nat) (f : DriverFlags) (s : State), s.pwr.emissionInReset = false → s.emt.expected.find? (fun x => !x.2) = some (e, false) →
    Latches (.monitorPulseMissing f) s f [2]
      ∧ Does (.monitorPulseMissing f) s fun u => u.now = max s.now (e + 256 * s.fld EMT_MON_CFG_DLY_MAX)
        ∧ u.emt.expected = s.emt.expected.erase (e, false)) ∧
  (∀ (tot : Nat) (f : DriverFlags) (s : State), s.pwr.emissionInReset = false → s.fld EMT_MON_CFG_TOT_MAX < tot →
    Latches (.monitorPulseExcess tot f) s f [3]) ∧
  (∀ (codes : List (BitVec 10)) (f : DriverFlags) (s : State), s.pwr.emissionInReset = false → s.flag EMT_ECB_STATUS_BUSY = true →
    codes ≠ s.emt.codes → Latches (.currentCommitDone codes f) s f [5]) ∧
  (∀ (w : Fin 2) (f : DriverFlags) (s : State), s.pwr.emissionInReset = false → s.flag EMT_EYE_CFG_LOCK = true → Latches (.eyeSubBinEnd w true f) s f [6]) ∧
  (∀ (f : DriverFlags) (s : State), s.pwr.emissionInReset = false →
    Latches (.emonFaultInput f) s f (if firstFlag f = none then [0, 1] else [])
      ∧ Does (.emonFaultInput f) s fun u => u.emt.emonLow = true) ∧
  (∀ (f : DriverFlags) (s : State), s.pwr.emissionInReset = false → s.emt.flagsWaiting = true → s.flag EMT_ECB_STATUS_BUSY = false →
    firstFlag f ≠ none → Latches (.driverFlagsReadDone f) s f []) ∧
  (∀ (f : DriverFlags) (s : State), s.pwr.emissionInReset = false → s.emt.flagsWaiting = true → s.flag EMT_ECB_STATUS_BUSY = false →
    firstFlag f = none → Gives (.driverFlagsReadDone f) s fun t => t.emt.flagsWaiting = false ∧ Kept s t []) ∧
  (∀ (t e : Nat) (b : Bool) (f : DriverFlags) (s : State), s.pwr.emissionInReset = false → s.emt.expected = [(e, b)] →
    e + 256 * s.fld EMT_MON_CFG_DLY_MIN ≤ t → t ≤ e + 256 * s.fld EMT_MON_CFG_DLY_MAX →
    Gives (.monitorPulse t f) s fun u => u.emt.expected = [(e, true)] ∧ Kept s u [])
  ) ∧
  (
  (∀ (p : Port) (c : RearmChecks) (s : State), Reaches s p EMT_REARM →
    Gives (.rearmWrite p 0xA5 c) s fun t => t.emt.rearmAt = some s.now ∧ Kept s t []) ∧
  (∀ (p : Port) (t0 : Nat) (c : RearmChecks) (s : State), Reaches s p EMT_REARM → s.emt.rearmAt = some t0 → s.now ≤ t0 + 256000000 →
    s.flag EMT_FAULT_LATCHED = true → c.emonHigh = true → firstFlag c.flags = none → c.codes = s.emt.codes → c.parityOk = true →
    Gives (.rearmWrite p 0x5A c) s fun t => t.flag EMT_FAULT_LATCHED = false ∧ t.fld ⟨EMT_FAULT, 6, 0⟩ = 0
      ∧ t.emt.rearmAt = none ∧ Kept s t [EMT_FAULT]) ∧
  (∀ (p : Port) (t0 : Nat) (c : RearmChecks) (s : State), Reaches s p EMT_REARM → s.emt.rearmAt = some t0 → s.now ≤ t0 + 256000000 →
    s.flag EMT_FAULT_LATCHED = true → c.emonHigh = false →
    Gives (.rearmWrite p 0x5A c) s fun t => Logged t EV_EMT_REARM_REFUSED ∧ t.emt.rearmAt = none ∧ Kept s t [])
  )

/-- Out of emission reset: at a period, which without a line grid begins 4,096 slots of 24 ns after the one before, every closed lamp that is
not excluded takes the density last computed, the full 4,096 for full scale, and every other lamp 0; in the middle of its next on-group a
current above LIM.SHORT excludes the lamp with cause SHORT, one in range is only added to its mean, and the 64th in a row below LIM.OPEN
with the lamp driven excludes it as OPEN; 8 ns after its next edge a second readback in a row that differs excludes it as STUCK, and levels
as commanded change nothing; a clear ends the exclusion of the lamps named and clears their causes, and leaves the others' as they are.
Under the hypotheses given, on the state and the operands alone, exec answers a next state for floodPeriodStart, floodGroupSample,
floodEdgeReadback, floodLampClear. (R94, R95, R96, R98.) -/
def Obligations.FloodLampCommands : Prop :=
  let Out := fun (t : State) (m : Fin 8) (cause : Nat) => t.bit FLD_STATUS (8 + m) = true ∧ t.bit FLD_STATUS m = false
    ∧ t.bit CTL_FL_CLOSE m = false ∧ t.bit (FLD_FAULT m) cause = true ∧ Logged t EV_FLD_LAMP_FAULT
  let sampled := fun (s : State) (m : Fin 8) =>
    let gs := 2 ^ s.fld FLD_CFG_GROUP_LOG2
    s.nextGroup (tabGet 0 s.flood.toSample m) (fun g => (2 * g + 1) * gs) 0 (fun g => s.floodLevel m g)
  let edge := fun (s : State) (m : Fin 8) =>
    let gs := 2 ^ s.fld FLD_CFG_GROUP_LOG2
    s.nextGroup (tabGet 0 s.flood.toRead m) (fun g => 2 * g * gs) 2048 (fun g => s.floodEdge m g)
  (∀ (m : Fin 8) (s : State), s.pwr.emissionInReset = false → s.grid.running = false →
    let v := tabGet 0 s.flood.computed m
    let d := min 4096 ((v * 4096 * 2 + 32768) / 65536)
    Gives .floodPeriodStart s fun t => t.now = max s.now (s.flood.periodAt + 25165824) ∧ t.flood.periodAt = t.now ∧ t.fld (FLD_DENSITY_V m)
      = (if s.bit CTL_FL_CLOSE m && !s.bit FLD_STATUS (8 + m) then (if v = 0x7FFF then 4096 else d) else 0)) ∧
  (∀ (m : Fin 8) (code : BitVec 14) (g at_ : Nat) (s : State), s.pwr.emissionInReset = false → sampled s m = some (g, at_) →
    s.fld (FLD_LIM_SHORT m) < code.toNat → Gives (.floodGroupSample m code) s fun t => Out t m 0) ∧
  (∀ (m : Fin 8) (code : BitVec 14) (g at_ : Nat) (s : State), s.pwr.emissionInReset = false → sampled s m = some (g, at_) →
    code.toNat ≤ s.fld (FLD_LIM_SHORT m) → s.fld (FLD_LIM_OPEN m) ≤ code.toNat →
    Gives (.floodGroupSample m code) s fun t => t.now = max s.now at_ ∧ tabGet 0 t.flood.toSample m = g + 1
      ∧ tabGet (0, 0) t.flood.sense m = ((tabGet (0, 0) s.flood.sense m).1 + code.toNat, (tabGet (0, 0) s.flood.sense m).2 + 1)
      ∧ Kept s t []) ∧
  (∀ (m : Fin 8) (code : BitVec 14) (g at_ : Nat) (s : State), s.pwr.emissionInReset = false → sampled s m = some (g, at_) →
    code.toNat ≤ s.fld (FLD_LIM_SHORT m) → code.toNat < s.fld (FLD_LIM_OPEN m) → 0 < s.fld (FLD_DENSITY_V m) →
    tabGet 0 s.flood.openRun m = 63 → Gives (.floodGroupSample m code) s fun t => Out t m 1) ∧
  (∀ (m : Fin 8) (levels : BitVec 8) (g at_ : Nat) (s : State), s.pwr.emissionInReset = false → edge s m = some (g, at_) →
    levels.getLsbD m ≠ (s.floodLevels g).getLsbD m → tabGet 0 s.flood.stuckRun m = 1 →
    Gives (.floodEdgeReadback m levels) s fun t => Out t m 2) ∧
  (∀ (m : Fin 8) (g at_ : Nat) (s : State), s.pwr.emissionInReset = false → edge s m = some (g, at_) →
    Gives (.floodEdgeReadback m (s.floodLevels g)) s fun t => t.now = max s.now at_ ∧ tabGet 0 t.flood.toRead m = g + 1 ∧ Kept s t []) ∧
  (∀ (p : Port) (lamps : BitVec 8) (s : State), Reaches s p FLD_CLEAR →
    Gives (.floodLampClear p lamps) s fun t => ∀ m < 8,
      (lamps.getLsbD m = true → t.bit FLD_STATUS (8 + m) = false ∧ t.rd (FLD_FAULT m) = 0)
        ∧ (lamps.getLsbD m = false → t.bit FLD_STATUS (8 + m) = s.bit FLD_STATUS (8 + m) ∧ t.rd (FLD_FAULT m) = s.rd (FLD_FAULT m)))

/-- For every state and command: out of emission reset, after the command EMT_CHAIN.ACTIVE is 1 if and only if the interlock permits with no
discrepancy and no trip latched, the scanner has lock, the accountant is locked, no emitter fault is latched, the serve key is valid or
serve codes are off, no red card stands, EMT_ARM is 1, and the run is active. (R85, R353.) -/
def Obligations.ChainActiveExactlyWhileTermsHold : Prop :=
  ∀ (c : Instr) (s t : State), exec c s = .next t → t.pwr.emissionInReset = false →
    (t.flag EMT_CHAIN_ACTIVE = true ↔
      (t.sec.permitting = true ∧ t.sec.discrepancy = false ∧ t.flag FLT_TRIP_LATCHED = false) ∧ t.flag CTL_STATUS_LOCK = true
        ∧ t.flag EMT_EYE_CFG_LOCK = true ∧ t.flag EMT_FAULT_LATCHED = false
        ∧ (t.bit SEC_KEY_STATUS 0 = true ∨ t.fldF SHT_SERVE_CFG_BITS = 0) ∧ t.emt.redCard = false ∧ t.flag EMT_ARM_ARM = true
        ∧ t.flag SHT_STATUS_RUNNING = true)

/-- Where the chain was whole and a term of it no longer holds when a command's effect is complete, the end of the step leaves no frame open;
where any term but the scanner's lock was lost, EMT_CHAIN_OPEN is raised. (R34, R86.) -/
def Obligations.LossOfTheChainEndsTheFrame : Prop :=
  (∀ (s : State), s.emt.terms = 255 → s.settle.emt.terms ≠ 255 → s.settle.grid.frameOpen = false) ∧
  (∀ (s : State), s.emt.terms = 255 → s.chainTerms ||| 2 ≠ 255 → Logged s.settle EV_EMT_CHAIN_OPEN)

/-- A mask that reaches the block with more than 40 SPADs is refused with code 0x01 and its channel, one that enables a sent-off SPAD with code
0x02; a legal one waits 4 microseconds. Without a line grid and with the detector link up, the timer puts the one mask that waits in force
at its instant. A detection of a SPAD that is disabled makes no stop; of an enabled, live one with depth 1 and no stop before it, on a
channel that the crossbar leads to a lane, it makes its channel's stop edge at that instant and the SPAD dead for HOLDOFF ns.
DETECTOR_ENABLE with the bias out of its window is refused with code 0x03; with it in the window it enables and ends HV_FAULT. A good link
frame makes LINK_OK, and the detector runs on the registers; a bad one is replayed, and after 3 replays ends LINK_OK and raises
DET_LINK_ERROR, and the detector keeps the settings it has. A second at the set-point shows AT_SP, a second at a limit SATURATED. Under the
hypotheses given, on the state and the operands alone, exec answers a next state for spadMaskSubmit, spadMaskTimer, spadDetection,
detectorEnable, detectorLinkFrame, coolerStatusTimer. (R106, R109, R111, R112, R113, R114, R116, R117, R119, R121, R486.) -/
def Obligations.MaskSubmissions : Prop :=
  (
  let mask := fun (s : State) (n : Fin 192) (hi : BitVec 16) => BitVec.ofNat 48 (s.rdN (DET_SPAD_EN_LO n) + hi.toNat * 2 ^ 32)
  (∀ (p : Port) (n : Fin 192) (hi : BitVec 16) (s : State), Reaches s p (DET_SPAD_EN_HI n) → 40 < maskCount (mask s n hi) →
    Gives (.spadMaskSubmit p n hi) s fun t => t.rdN DET_CFG_ERR = 0x01000000 + n.val ∧ Logged t EV_DET_CFG_ERROR ∧ Kept s t [DET_CFG_ERR]) ∧
  (∀ (p : Port) (n : Fin 192) (hi : BitVec 16) (s : State), Reaches s p (DET_SPAD_EN_HI n) → maskCount (mask s n hi) ≤ 40 →
    mask s n hi &&& s.scream n ≠ 0 →
    Gives (.spadMaskSubmit p n hi) s fun t => t.rdN DET_CFG_ERR = 0x02000000 + n.val ∧ Logged t EV_DET_CFG_ERROR ∧ Kept s t [DET_CFG_ERR]) ∧
  (∀ (p : Port) (n : Fin 192) (hi : BitVec 16) (s : State), Reaches s p (DET_SPAD_EN_HI n) → maskCount (mask s n hi) ≤ 40 →
    mask s n hi &&& s.scream n = 0 →
    Does (.spadMaskSubmit p n hi) s fun u => (u.chan n).waiting = (s.chan n).waiting ++ [(mask s n hi, s.now + 1024000)]
      ∧ (u.chan n).mask = (s.chan n).mask ∧ u.rdN (DET_SPAD_EN_HI n) = hi.toNat) ∧
  (∀ (n : Nat) (c : DetChan) (m : BitVec 48) (t : Nat) (s : State), s.pwr.coreInReset = false → s.grid.running = false →
    s.flag DET_STATUS_LINK_OK = true → s.det.chans = [(n, c)] → c.waiting = [(m, t)] → c.repairFrom = none → m &&& s.scream n = 0 →
    Does .spadMaskTimer s fun u => (u.chan n).mask = m ∧ (u.chan n).waiting = [] ∧ u.now = max s.now t)
  ) ∧
  (
  (∀ (n : Fin 192) (i : Fin 48) (t : Nat) (s : State), (s.detKept.enable = false ∨ (s.chan n).mask.getLsbD i = false) →
    Gives (.spadDetection n i t) s fun u => u.det.stops = s.det.stops ∧ Kept s u []) ∧
  (∀ (n : Fin 192) (i : Fin 48) (t : Nat) (s : State), s.pwr.coreInReset = false → s.detKept.enable = true → s.linked n = true →
    (s.chan n).mask.getLsbD i = true → (s.chan n).dead = [] → (s.chan n).depth = 1 → (s.chan n).lastStop = none → 0 < s.detKept.window →
    Does (.spadDetection n i t) s fun u => (∃ e ∈ u.det.stops, e.channel = n.val ∧ e.tick = max s.now t)
      ∧ (u.chan n).dead = [(i.val, max s.now t + 256 * s.detKept.holdoff)] ∧ (u.chan n).lastStop = some (max s.now t)) ∧
  (∀ (p : Port) (v : BitVec 2) (s : State), Reaches s p DET_CTRL → v.getLsbD 0 = true → s.flag DET_CTRL_ENABLE = false →
    s.flag DET_STATUS_HV_OK = false →
    Gives (.detectorEnable p v) s fun t => t.rdN DET_CFG_ERR = 0x0300FFFF ∧ Logged t EV_DET_CFG_ERROR ∧ Kept s t [DET_CFG_ERR]) ∧
  (∀ (p : Port) (v : BitVec 2) (s : State), Reaches s p DET_CTRL → v.getLsbD 0 = true → s.flag DET_CTRL_ENABLE = false →
    s.flag DET_STATUS_HV_OK = true →
    Gives (.detectorEnable p v) s fun t => t.flag DET_CTRL_ENABLE = true ∧ t.flag DET_STATUS_HV_FAULT = false
      ∧ t.det.firstFrame = true ∧ Kept s t [DET_CTRL, DET_STATUS]) ∧
  (∀ (s : State), s.pwr.coreInReset = false → Gives (.detectorLinkFrame true) s fun t =>
    t.flag DET_STATUS_LINK_OK = true ∧ t.det.replays = 0 ∧ t.det.kept = none ∧ Kept s t [DET_STATUS]) ∧
  (∀ (s : State), s.pwr.coreInReset = false → s.det.replays < 3 → Gives (.detectorLinkFrame false) s fun t =>
    t.det.replays = s.det.replays + 1 ∧ Kept s t []) ∧
  (∀ (s : State), s.pwr.coreInReset = false → 3 ≤ s.det.replays → Gives (.detectorLinkFrame false) s fun t =>
    t.flag DET_STATUS_LINK_OK = false ∧ t.det.kept = some s.detKept ∧ Logged t EV_DET_LINK_ERROR ∧ Kept s t [DET_STATUS]) ∧
  (∀ (t : Nat) (s : State), s.pwr.coreInReset = false → s.det.atSpSince = some t → Does (.coolerStatusTimer false) s fun u =>
    u.flag DET_COOL_STATUS_AT_SP = true ∧ u.now = max s.now (t + 256000000000)) ∧
  (∀ (t : Nat) (s : State), s.pwr.coreInReset = false → s.det.satSince = some t → s.flag DET_COOL_STATUS_SATURATED = false →
    Does (.coolerStatusTimer true) s fun u => u.flag DET_COOL_STATUS_SATURATED = true ∧ u.has EV_DET_COOL_SAT = true
      ∧ u.now = max s.now (t + 256000000000))
  )

/-- A go starts a sweep at step 0 and is dropped while one runs; the period's end, PERIOD seconds after the one before, starts one only in
automatic mode; the end of a step, DWELL ms after its beginning, keeps each macropixel's count as a rate and goes to the next; at the end of
the last, the SPADs found screaming now and in the sweep before are marked in DET_SCREAM, and the step is 0 again. Under the hypotheses
given, on the state and the operands alone, exec answers a next state for surveyGo, surveyPeriodExpiry, surveyStepEnd, surveySweepEnd.
(R108, R109.) -/
def Obligations.SurveyCommands : Prop :=
  (∀ (p : Port) (s : State), Reaches s p DET_SURVEY_GO → s.flag DET_STATUS_SURVEY_BUSY = false →
    Gives (.surveyGo p) s fun t => t.flag DET_STATUS_SURVEY_BUSY = true ∧ t.fld DET_STATUS_SURVEY_STEP = 0 ∧ t.det.rates = []
      ∧ Kept s t [DET_STATUS]) ∧
  (∀ (p : Port) (s : State), Reaches s p DET_SURVEY_GO → s.flag DET_STATUS_SURVEY_BUSY = true →
    Gives (.surveyGo p) s fun t => t.det.rates = s.det.rates ∧ Kept s t []) ∧
  (∀ (s : State), s.pwr.coreInReset = false → s.flag DET_CTRL_SURVEY_AUTO = true → s.flag DET_STATUS_SURVEY_BUSY = false →
    s.fld DET_SURVEY_CFG_PERIOD ≠ 0 →
    Gives .surveyPeriodExpiry s fun t => t.flag DET_STATUS_SURVEY_BUSY = true
      ∧ t.now = max s.now (s.det.surveyAt + 256000000000 * s.fld DET_SURVEY_CFG_PERIOD) ∧ Kept s t [DET_STATUS]) ∧
  (∀ (s : State), s.flag DET_CTRL_SURVEY_AUTO = false → Gives .surveyPeriodExpiry s fun t => Kept s t []) ∧
  (∀ (counts : List Nat) (n : Fin 192) (s : State), s.pwr.coreInReset = false → s.flag DET_STATUS_SURVEY_BUSY = true →
    s.fld DET_STATUS_SURVEY_STEP < 47 →
    Gives (.surveyStepEnd counts) s fun t => t.fld DET_STATUS_SURVEY_STEP = s.fld DET_STATUS_SURVEY_STEP + 1
      ∧ tabGet 0 t.det.rates (48 * n + s.fld DET_STATUS_SURVEY_STEP) = ((nth 0 counts n : Nat) : Rat) / (max 1 (s.fld DET_SURVEY_CFG_DWELL) : Nat)
      ∧ t.now = max s.now (s.det.stepAt + 256000000 * s.fld DET_SURVEY_CFG_DWELL) ∧ Kept s t [DET_STATUS]) ∧
  (∀ (counts : List Nat) (n : Fin 192) (s : State), s.pwr.coreInReset = false → s.flag DET_STATUS_SURVEY_BUSY = true →
    s.fld DET_STATUS_SURVEY_STEP = 47 →
    Gives (.surveySweepEnd counts) s fun t => t.fld DET_STATUS_SURVEY_STEP = 0
      ∧ t.scream n = s.scream n ||| ((s.surveyCounts counts).screamersOf n &&& ~~~(s.scream n) &&& (s.chan n).screaming))

/-- On a lane in service with an open window that is not the line's first: the channel's oldest stop edge is taken; with the lane free its two
stamp halfwords join the output stage; within 1 ns of the last stop taken it is dropped as SPACING, with 16 taken as COUNT, each counted
with saturation. A generator edge in the window of an idle slot or of a bench lane, where the generator's EDGES and MIN_SPACING let it
stand, joins the lane's output stage with a free DEPTH and PILE, and on a bench lane counts in its code-density run. The coarse counter's
end comes PERIOD x 16,384 ticks after S, writes the CLOSE word and closes the window. Under the hypotheses given, on the state and the
operands alone, exec answers a next state for stopArrival, coarseCounterEnd. (R125, R127, R129, R134, R143.) -/
def Obligations.StopsPassTheChecks : Prop :=
  let Open := fun (s : State) (l : Fin 208) (e : StopEdge) (rest : List StopEdge) => s.pwr.coreInReset = false ∧ (s.lane l).openWin = true
    ∧ (s.lane l).gen = false ∧ (s.lane l).first = false ∧ s.laneRole l = 0
    ∧ takeEdge (s.fld (TDC_LANE_STATUS_CHANNEL l)) s.det.stops = some (e, rest)
  let Inside := fun (s : State) (l : Fin 208) (t : Nat) => max s.now t < (s.lane l).closeAt ∧ (s.lane l).noItem = false
  (∀ (l : Fin 208) (t : Nat) (coarse : BitVec 14) (fine : BitVec 6) (e : StopEdge) (rest : List StopEdge) (s : State), Open s l e rest → Inside s l t →
    (s.lane l).lastTaken = none → (s.lane l).osc = [] → (s.lane l).taken < 16 → (s.lane l).out.length ≤ 65 →
    Does (.stopArrival l t coarse fine) s fun u => u.det.stops = rest ∧ (u.lane l).taken = (s.lane l).taken + 1
      ∧ (u.lane l).lastTaken = some (max s.now t)
      ∧ (u.lane l).out = (s.lane l).out ++ stampWords coarse.toNat fine.toNat (s.lane l).taken e.depth e.pile) ∧
  (∀ (l : Fin 208) (t k : Nat) (coarse : BitVec 14) (fine : BitVec 6) (e : StopEdge) (rest : List StopEdge) (s : State), Open s l e rest → Inside s l t →
    (s.lane l).lastTaken = some k → max s.now t < k + 256 →
    Does (.stopArrival l t coarse fine) s fun u => u.det.stops = rest ∧ (u.lane l).out = (s.lane l).out ∧ (u.lane l).spacingDrop = true
      ∧ u.fld (TDC_DROP_SPACING l) = min 255 (s.fld (TDC_DROP_SPACING l) + 1)) ∧
  (∀ (l : Fin 208) (t : Nat) (coarse : BitVec 14) (fine : BitVec 6) (e : StopEdge) (rest : List StopEdge) (s : State), Open s l e rest → Inside s l t →
    (s.lane l).lastTaken = none → (s.lane l).osc = [] → 16 ≤ (s.lane l).taken →
    Does (.stopArrival l t coarse fine) s fun u => u.det.stops = rest ∧ (u.lane l).out = (s.lane l).out ∧ (u.lane l).countLimit = true
      ∧ u.fld (TDC_DROP_COUNT l) = min 255 (s.fld (TDC_DROP_COUNT l) + 1)) ∧
  (∀ (l : Fin 208) (t : Nat) (coarse : BitVec 14) (fine : BitVec 6) (s : State), s.pwr.coreInReset = false → (s.lane l).openWin = true →
    (s.lane l).gen = true → (s.lane l).first = false → Inside s l t → s.genPlaces (s.lane l) (max s.now t) = true →
    (s.lane l).lastTaken = none → (s.lane l).osc = [] → (s.lane l).taken < 16 → (s.lane l).out.length ≤ 65 →
    Does (.stopArrival l t coarse fine) s fun u => u.freeCount = s.freeCount + 1 ∧ (u.lane l).genCount = (s.lane l).genCount + 1
      ∧ (∃ d p, (u.lane l).out = (s.lane l).out ++ stampWords coarse.toNat fine.toNat (s.lane l).taken d p)
      ∧ (s.laneRole l ≠ 0 → s.flag TDC_CTRL_CAL_RUN = true → (s.lane l).edges < 16384 → (s.lane l).second = false →
          tabGet 0 (u.lane l).runA fine.toNat = tabGet 0 (s.lane l).runA fine.toNat + 1)) ∧
  (∀ (l : Fin 208) (s : State), s.pwr.coreInReset = false → (s.lane l).openWin = true → (s.lane l).noItem = false →
    (s.lane l).start + s.rdN (TDC_PERIOD l) / 4 < (s.lane l).closeAt →
    Does (.coarseCounterEnd l) s fun u => (u.lane l).openWin = false ∧ u.now = max s.now ((s.lane l).start + s.rdN (TDC_PERIOD l) / 4)
      ∧ (u.lane l).out = (s.lane l).out ++ [closeWord (s.lane l).taken (s.lane l).overflow (s.lane l).countLimit (s.lane l).busyDrop
          (s.lane l).spacingDrop false (s.lane l).gen true])

/-- While CAL_RUN is 1, a generated edge on its way back is counted at its fine code in the run in progress; after 16,384 edges the first run
ends and the second begins, and a second run whose pair passes R135 yields the table for the next line start and ends the fail streak. A
line's measurement whose reference stop A or B was not taken is counted in TDC_PERIOD_SKIPS; one of at least 100 ns joins the last eight. A
CLOSE halfword of a lane in service pushed without a parity error completes a read word, and EVL_DEPTH shows the words held; with 8 words
held the push waits. A pop inside the budget takes the oldest word, hands a complete item on, and counts a transfer of class STAMP; with the
quota spent it waits. A lane reset closes the window, empties the lane, counts the items lost (of a bench lane the open one) and raises
EVL_LOST. Under the hypotheses given, on the state and the operands alone, exec answers a next state for calibrationEdge, calRunComplete,
periodMeasurementDone, eventLanePush, eventLanePop, laneReset. (R132, R133, R134, R135, R141, R142, R144, R145.) -/
def Obligations.CodeDensityRuns : Prop :=
  (
  (∀ (l : Fin 208) (f : Nat) (g bad : Bool) (s : State), s.pwr.coreInReset = false → s.tdc.returns = [⟨l.val, [f], g⟩] →
    s.flag TDC_CTRL_CAL_RUN = true → (s.lane l).edges < 16384 → (s.lane l).second = false →
    Does (.calibrationEdge l bad) s fun u => u.tdc.returns = [] ∧ (u.lane l).edges = (s.lane l).edges + 1
      ∧ tabGet 0 (u.lane l).runA f = tabGet 0 (s.lane l).runA f + 1) ∧
  (∀ (l : Fin 208) (s : State), s.pwr.coreInReset = false → 16384 ≤ (s.lane l).edges → (s.lane l).second = false →
    Does (.calRunComplete l) s fun u => u.lane l = { s.lane l with second := true, edges := 0 }) ∧
  (∀ (l : Fin 208) (s : State), s.pwr.coreInReset = false → 16384 ≤ (s.lane l).edges → (s.lane l).second = true →
    pairOk (tabGet 0 (s.lane l).runA) (tabGet 0 (s.lane l).runB) (s.rdN (TDC_PERIOD l)) (s.fld TDC_CAL_CFG_AGREE_TOL)
      (s.fld TDC_CAL_CFG_MIN_COUNT) (s.fld TDC_CAL_CFG_MAX_COUNT) (s.fld TDC_CAL_CFG_TOP_MAX) = true →
    Does (.calRunComplete l) s fun u => (u.lane l).tableNext = some (buildTable (tabGet 0 (s.lane l).runA) (tabGet 0 (s.lane l).runB))
      ∧ (u.lane l).second = false ∧ (u.lane l).edges = 0 ∧ u.fld (TDC_LANE_STATUS_FAIL_STREAK l) = 0) ∧
  (∀ (l : Fin 208) (a b : BitVec 14 × BitVec 6) (s : State), s.pwr.coreInReset = false → (s.lane l).measDue = true →
    (s.lane l).openWin = false → ((s.lane l).refA = none ∨ (s.lane l).refB = none) → Does (.periodMeasurementDone l a b) s fun u =>
    u.rd TDC_PERIOD_SKIPS = s.rd TDC_PERIOD_SKIPS + 1 ∧ (u.lane l).measDue = false ∧ (u.lane l).meas = (s.lane l).meas.take 8) ∧
  (∀ (l : Fin 208) (a b : BitVec 14 × BitVec 6) (ta tb : Nat) (s : State), s.pwr.coreInReset = false → (s.lane l).measDue = true →
    (s.lane l).openWin = false → (s.lane l).refA = some ta → (s.lane l).refB = some tb → ta + 25600 ≤ tb →
    let pos := fun (e : BitVec 14 × BitVec 6) => (e.1.toNat : Rat) + (tableEntry (s.tableWords l) e.2.toNat : Rat) / 65536
    let ts := ((tb - ta : Nat) : Rat) / (pos b - pos a)
    0 < pos b - pos a → Does (.periodMeasurementDone l a b) s fun u => u.rd TDC_PERIOD_SKIPS = s.rd TDC_PERIOD_SKIPS ∧ (u.lane l).measDue = false
      ∧ (u.lane l).meas = ((ts, ts * pos a - ((ta : Rat) - ((s.lane l).refStart : Rat))) :: (s.lane l).meas).take 8)
  ) ∧
  (
  (∀ (l : Fin 208) (h : BitVec 16) (rest : List (BitVec 16)) (s : State), s.pwr.coreInReset = false → (s.lane l).out = h :: rest →
    s.laneRole l = 0 → isClose h = true → (s.lane l).fifo.length < 8 → (∀ e ∈ (s.lane l).forming, e.2 = false) →
    Does (.eventLanePush l false) s fun u => (u.lane l).out = rest ∧ (u.lane l).forming = []
      ∧ (u.lane l).fifo.length = (s.lane l).fifo.length + 1 ∧ u.fld (EVL_DEPTH_V l) = (s.lane l).fifo.length + 1) ∧
  (∀ (l : Fin 208) (bad : Bool) (s : State), 8 ≤ (s.lane l).fifo.length → Does (.eventLanePush l bad) s fun u => u = s) ∧
  (∀ (l : Fin 208) (w : ReadWord) (rest : List ReadWord) (s : State), s.pwr.coreInReset = false → (s.lane l).fifo = w :: rest →
    rest.length < 8 → w.eop = true → s.spent 0 < s.quota 0 →
    Does (.eventLanePop l) s fun u => (u.lane l).fifo = rest ∧ (u.lane l).partialItem = []
      ∧ (u.lane l).items = (s.lane l).items ++ [(s.lane l).partialItem ++ w.halves] ∧ u.spent 0 = s.spent 0 + 1
      ∧ u.fld (EVL_DEPTH_V l) = rest.length) ∧
  (∀ (l : Fin 208) (s : State), s.quota 0 ≤ s.spent 0 → Does (.eventLanePop l) s fun u => u = s) ∧
  (∀ (p : Port) (l : Fin 208) (s : State), Reaches s p (TDC_LANE_RESET l) →
    Does (.laneReset p l) s fun u => (u.lane l).openWin = false ∧ (u.lane l).out = [] ∧ (u.lane l).fifo = [] ∧ (u.lane l).items = []
      ∧ (u.lane l).resetAt = some s.now ∧ u.fld (EVL_DEPTH_V l) = 0
      ∧ u.rd (EVL_LOST_ITEMS l) = s.rd (EVL_LOST_ITEMS l)
        + BitVec.ofNat 32 (if s.laneRole l = 1 then b2n (s.lane l).openWin else (s.lane l).lostItems) ∧ u.has EV_EVL_LOST = true)
  )

/-- With no complete item on the channel's lane nothing changes. A poisoned item counts in HST_CH_ERR, raises HST_POISON once a frame and
consumes the channel's oldest record as lost. The item of the oldest record, of a dark slot, consumes the record and sends its stamps back
as calibration edges. The engine takes an item only while no more than 2 read words of returns wait for its lane. Under the hypotheses
given, on the state and the operands alone, exec answers a next state for itemReceived. (R134, R151.) -/
def Obligations.HistogramItems : Prop :=
  let Next := fun (s : State) (c : Fin 192) (it : List (BitVec 16 × Bool)) (rest : List (List (BitVec 16 × Bool))) (r : ShotRec)
      (more : List ShotRec) (x : ChanLine) => s.pwr.coreInReset = false ∧ (s.lane (s.laneOf c)).items = it :: rest
    ∧ s.outstanding c = r :: more ∧ s.job (192 * r.lineSeq + c) = some x ∧ x.ownDue = false
    ∧ (s.tdc.returns.filter (fun (e : CalReturn) => e.lane = s.laneOf c)).length ≤ 2
  (∀ (c : Fin 192) (bad : Bool) (s : State), (s.lane (s.laneOf c)).items = [] → Does (.itemReceived c bad) s fun u => u = s) ∧
  (∀ (c : Fin 192) (it : List (BitVec 16 × Bool)) (rest : List (List (BitVec 16 × Bool))) (r : ShotRec) (more : List ShotRec)
      (x : ChanLine) (s : State), Next s c it rest r more x → (viewItem it).poison = true →
    Does (.itemReceived c false) s fun u => (u.lane (s.laneOf c)).items = rest ∧ tabGet 0 u.hst.next c = r.seq + 1
      ∧ u.fld (HST_CH_ERR_POISON c) = min (2 ^ ((HST_CH_ERR_POISON c).hi + 1 - (HST_CH_ERR_POISON c).lo) - 1) (s.fld (HST_CH_ERR_POISON c) + 1)
      ∧ (s.hst.poisonRaised = false → u.has EV_HST_POISON = true)) ∧
  (∀ (c : Fin 192) (it : List (BitVec 16 × Bool)) (rest : List (List (BitVec 16 × Bool))) (r : ShotRec) (more : List ShotRec)
      (x : ChanLine) (s : State), Next s c it rest r more x → (viewItem it).poison = false → (viewItem it).slot = r.slot →
    (viewItem it).line6 = r.line % 64 → r.kind = 2 → (viewItem it).close.testBit 2 = false → (viewItem it).close.testBit 1 = false →
    (∀ q ∈ s.outstanding c, r.seq ≤ q.seq) → (s.lineOf r.lineSeq).isSome = true →
    Does (.itemReceived c false) s fun u => (u.lane (s.laneOf c)).items = rest ∧ tabGet 0 u.hst.next c = r.seq + 1
      ∧ u.tdc.returns = s.tdc.returns
          ++ (if (viewItem it).stamps = [] then [] else [⟨x.lane, (viewItem it).stamps.map (fun e => e.fine), false⟩]))

/-- For a channel-line whose items have all come: with no coarse shot accepted the coarse pass keeps the ambient estimate and finds no run;
otherwise it takes the runs of R155 and the estimate of R153. Window placement gives the windows of R157. The fine pass shows shots, losses,
windows and the ambient estimate in the channel's registers. The collection clears the line's two areas of field memory and changes no other
byte. Under the hypotheses given, on the state and the operands alone, exec answers a next state for coarseHistogramComplete,
zoomWindowsPlaced, finePassComplete, lineCollection. (R152, R153, R155, R157, R160, R163.) -/
def Obligations.HistogramPasses : Prop :=
  (∀ (c : Fin 192) (key : Nat) (l : HstLine) (x : ChanLine) (s : State), s.pwr.coreInReset = false → s.jobAt c 0 = some key →
    s.lineOf (key / 192) = some l → l.launchEnded = true → (s.openRecs c (key / 192)).filter (fun r => r.kind = 0) = [] → s.job key = some x →
    x.nC = 0 → Does (.coarseHistogramComplete c) s fun u => u.job key = some { x with stage := 1, amb := tabGet 0 s.hst.amb c }) ∧
  (∀ (c : Fin 192) (key : Nat) (l : HstLine) (x : ChanLine) (s : State), s.pwr.coreInReset = false → s.jobAt c 0 = some key →
    s.lineOf (key / 192) = some l → l.launchEnded = true → (s.openRecs c (key / 192)).filter (fun r => r.kind = 0) = [] → s.job key = some x →
    x.nC ≠ 0 → x.notBinned = false → x.void = false → x.fresh = false → l.fresh = false →
    let runs := findRuns l x.coarse (2 * x.nC * tabGet 0 s.hst.amb c) 65536
    let amb := ambientOf l x.coarse runs x.nC (tabGet 0 s.hst.amb c)
    Does (.coarseHistogramComplete c) s fun u => u.job key = some { x with stage := 1, runs := runs, amb := amb } ∧ tabGet 0 u.hst.amb c = amb) ∧
  (∀ (c : Fin 192) (key : Nat) (l : HstLine) (x : ChanLine) (s : State), s.pwr.coreInReset = false → s.jobAt c 1 = some key →
    s.lineOf (key / 192) = some l → s.job key = some x → x.held = [] →
    Does (.zoomWindowsPlaced c) s fun u => ∃ y, u.job key = some y ∧ y.stage = 2 ∧ y.windows = placeWindows l x.runs) ∧
  (∀ (c : Fin 192) (key : Nat) (l : HstLine) (x : ChanLine) (s : State), s.pwr.coreInReset = false → s.jobAt c 2 = some key →
    s.lineOf (key / 192) = some l → l.launchEnded = true → s.openRecs c (key / 192) = [] → s.job key = some x →
    Gives (.finePassComplete c) s fun t =>
      t.rd (HST_CH_SHOTS c) = BitVec.ofNat 32 (min 127 x.lost * 2 ^ 24 + x.nZ * 2 ^ 16 + x.nC * 256 + x.windows.length)
        ∧ t.rd (HST_CH_AMB c) = BitVec.ofNat 32 x.amb ∧ Kept s t [HST_CH_SHOTS c, HST_CH_AMB c, HST_CH_WIN c]) ∧
  (∀ (c : Fin 192) (key : Nat) (l : HstLine) (x : ChanLine) (s : State), s.pwr.coreInReset = false → s.jobAt c 3 = some key →
    s.lineOf (key / 192) = some l → s.job key = some x → s.flag HST_TAP_CFG_EN = false → x.notBinned = false →
    Gives (.lineCollection c false) s fun t => ∀ a,
      let b := s.chanBase c
      let k := l.line % 2
      memRead t.mem a = (if (b + 0x2000 * k ≤ a ∧ a < b + 0x2000 * (k + 1)) ∨ (b + 0x4000 + 0x800 * k ≤ a ∧ a < b + 0x4000 + 0x800 * (k + 1))
        then 0 else memRead s.mem a))

/-- Whatever a coarse histogram holds, peak picking keeps at most 16 runs, window placement places at most WINDOWS windows, and the threshold is
at least TH_MIN. A commit whose shadow set passes the checks stages it with its mode and instant; one that fails is refused with the first
failing code. A DECIM of 0 and a tap channel above 191 are refused with code 0x08; a legal write of HST_TAP_CFG is stored. Under the
hypotheses given, on the state and the operands alone, exec answers a next state for histogramCommit, tapConfigWrite. (R154, R155, R157,
R165, R166, R194, R486.) -/
def Obligations.PickingStaysInBounds : Prop :=
  (
  (∀ (l : HstLine) (h : List (Nat × Nat)) (p q : Nat), (findRuns l h p q).length ≤ 16) ∧
  (∀ (l : HstLine) (runs : List PickRun), (placeWindows l runs).length ≤ l.get HST_ZOOM_CFG_WINDOWS) ∧
  (∀ (thMin thK p q : Nat), thMin ≤ threshold thMin thK p q)
  ) ∧
  (
  (∀ (p : Port) (m : Bool) (s : State), Reaches s p HST_COMMIT → s.hstCheck = 0 →
    Does (.histogramCommit p m) s fun u => u.hst.pending = some (m, s.now) ∧ u.hst.staged = s.shadowSet hstSpans) ∧
  (∀ (p : Port) (m : Bool) (s : State), Reaches s p HST_COMMIT → s.hstCheck ≠ 0 →
    Gives (.histogramCommit p m) s fun t => t.rd HST_CFG_ERR = BitVec.ofNat 32 (s.hstCheck * 2 ^ 24) ∧ Logged t EV_HST_CFG_ERROR
      ∧ Kept s t [HST_CFG_ERR]) ∧
  (∀ (p : Port) (v : Word) (s : State), Reaches s p HST_TAP_CFG → v.toNat % 65536 ≠ 0 →
    Gives (.tapConfigWrite p 0 v) s fun t => t.rd HST_TAP_CFG = s.stored HST_TAP_CFG v ∧ Kept s t [HST_TAP_CFG]) ∧
  (∀ (p : Port) (v : Word) (s : State), Reaches s p HST_TAP_CFG → v.toNat % 65536 = 0 →
    Gives (.tapConfigWrite p 0 v) s fun t => t.rdN HST_CFG_ERR = 0x08000000 ∧ Logged t EV_HST_CFG_ERROR ∧ Kept s t [HST_CFG_ERR]) ∧
  (∀ (p : Port) (r : Fin 8) (v : Word) (s : State), Reaches s p (HST_TAP_CH r) → 191 < v.toNat % 256 →
    Gives (.tapConfigWrite p r.succ v) s fun t => t.rdN HST_CFG_ERR = 0x08000000 + r.val ∧ Logged t EV_HST_CFG_ERROR
      ∧ Kept s t [HST_CFG_ERR])
  )

/-- Decoding keeps at most the returns asked for, in rising range; a list a kernel leaves is cut to 4, sorted, and holds no record of range
0xF_FFFF. The chain's run on a collected line takes a channel-line to its next stage: with a status other than NORMAL it has no returns;
otherwise, with no kernel, no more than MAX_RETURNS, and confidence 0 where the channel is uncalibrated. With no line collected it changes
nothing. A corrected error only counts. One that hits a channel-line the engine holds counts a replay and raises PNT_REPLAY; where the
replay is abandoned the line is lost, counted and reported, and otherwise no line is lost. The join waits while a channel-line of the oldest
line has not run its chain; then, with no kernel, each takes the colour of its scene angle into every return. Under the hypotheses given, on
the state and the operands alone, exec answers a next state for pointChainRun, localMemoryError, colourFusionJoin. (R175, R176, R180, R184,
R187, R188, R240, R306.) -/
def Obligations.ReturnsAreBounded : Prop :=
  (
  (∀ (n : Nat) (l : List Ret), (keepReturns n l).length ≤ n ∧ (keepReturns n l).Pairwise (fun a b => a.code ≤ b.code)) ∧
  (∀ (l : List (Nat × Nat)), (kernelList l).length ≤ 4 ∧ (kernelList l).Pairwise (fun a b => recRange a.1 ≤ recRange b.1)
    ∧ ∀ e ∈ kernelList l, recRange e.1 ≠ 0xFFFFF) ∧
  (∀ (c : Fin 192) (k : KernelRun) (key : Nat) (l : HstLine) (x : ChanLine) (s : State), s.pwr.coreInReset = false →
    s.jobAt c 4 = some key → s.lineOf (key / 192) = some l → s.job key = some x → statusOf x ≠ 0 →
    Does (.pointChainRun c k) s fun u => u.job key = some { x with stage := if l.get PNT_CHAIN_CFG_COLOUR = 1 then 5 else 6, returns := [] }) ∧
  (∀ (c : Fin 192) (k : KernelRun) (key : Nat) (l : HstLine) (x : ChanLine) (s : State), s.pwr.coreInReset = false →
    s.jobAt c 4 = some key → s.lineOf (key / 192) = some l → s.job key = some x → statusOf x = 0 → s.kernelActive = false →
    Does (.pointChainRun c k) s fun u => ∃ y, u.job key = some y ∧ y.stage = (if l.get PNT_CHAIN_CFG_COLOUR = 1 then 5 else 6)
      ∧ y.kernelAbort = false ∧ y.returns.length ≤ l.get PNT_CHAIN_CFG_MAX_RETURNS
      ∧ (x.uncal = true → ∀ e ∈ y.returns, e.1 / 2 ^ 12 % 256 = 0)) ∧
  (∀ (c : Fin 192) (k : KernelRun) (s : State), s.jobAt c 4 = none → Does (.pointChainRun c k) s fun u => u = s)
  ) ∧
  (
  (∀ (e : Fin 52) (c : Fin 192) (w : BitVec 14) (a : Bool) (s : State), s.pwr.coreInReset = false →
    Gives (.localMemoryError e c .corrected w a) s fun t => t.fld (PNT_ENG_STATUS_CORRECTED e)
        = min (2 ^ ((PNT_ENG_STATUS_CORRECTED e).hi + 1 - (PNT_ENG_STATUS_CORRECTED e).lo) - 1) (s.fld (PNT_ENG_STATUS_CORRECTED e) + 1)
      ∧ Kept s t [PNT_ENG_STATUS e]) ∧
  (∀ (e : Fin 52) (c : Fin 192) (w : BitVec 14) (key : Nat) (x : ChanLine) (s : State), s.pwr.coreInReset = false →
    s.hst.jobs.find? (fun j => decide (j.1 % 192 = c.val) && decide (j.2.engine = e.val) && decide (4 ≤ j.2.stage)) = some (key, x) →
    s.job key = some x →
    Does (.localMemoryError e c .parity w false) s fun u => u.rd PNT_REPLAYS = s.rd PNT_REPLAYS + 1
      ∧ u.rd PNT_LINE_LOST = s.rd PNT_LINE_LOST ∧ u.has EV_PNT_REPLAY = true
      ∧ ∃ y, u.job key = some y ∧ y.lineLost = x.lineLost ∧ y.replays = x.replays + 1) ∧
  (∀ (e : Fin 52) (c : Fin 192) (w : BitVec 14) (key : Nat) (x : ChanLine) (s : State), s.pwr.coreInReset = false →
    s.hst.jobs.find? (fun j => decide (j.1 % 192 = c.val) && decide (j.2.engine = e.val) && decide (4 ≤ j.2.stage)) = some (key, x) →
    s.job key = some x →
    Does (.localMemoryError e c .uncorrectable w true) s fun u => u.rd PNT_REPLAYS = s.rd PNT_REPLAYS + 1
      ∧ u.rd PNT_LINE_LOST = s.rd PNT_LINE_LOST + 1 ∧ u.has EV_PNT_REPLAY = true ∧ u.has EV_PNT_LINE_LOST = true
      ∧ ∃ y, u.job key = some y ∧ y.lineLost = true ∧ y.returns = [] ∧ y.replays = x.replays + 1) ∧
  (∀ (runs : List (BitVec 8 × KernelRun)) (seq : Nat) (l : HstLine) (rest : List (Nat × HstLine)) (s : State),
    s.hst.lines = (seq, l) :: rest → (∃ e ∈ s.hst.jobs, e.1 / 192 = seq ∧ e.2.stage < 5) →
    Does (.colourFusionJoin runs) s fun u => u = s) ∧
  (∀ (runs : List (BitVec 8 × KernelRun)) (seq key : Nat) (l : HstLine) (rest : List (Nat × HstLine)) (x : ChanLine) (s : State),
    s.pwr.coreInReset = false → s.hst.lines = (seq, l) :: rest → (∀ e ∈ s.hst.jobs, e.1 / 192 = seq → 5 ≤ e.2.stage) →
    tabSorted 0 s.hst.jobs = true → s.kernelActive = false → s.job key = some x → key / 192 = seq → x.stage = 5 →
    let ext := s.colourExt l (key % 192)
    Does (.colourFusionJoin runs) s fun u =>
      u.job key = some { x with stage := 6, colour := ext, returns := forceList x (x.returns.map (fun r => (r.1, ext))) })
  )

/-- A packet takes the next SEQ and, under a valid stream key, a tag over all before it; one withheld only counts. A line is assembled when each
channel-line is ready, as one packet for each segment, and is then let go. A destination sends its oldest packet into its queue, or drops it
where its buffer is full and no room is reserved, counting it. Packet settings are refused with code 1 during a run and with code 2 for a
SEGMENT that is none of the legal ones; otherwise stored. Under the hypotheses given, on the state and the operands alone, exec answers a
next state for linePacketAssembly, packetDestinationSend, packetConfigWrite. (R192, R193, R195, R196, R198, R199, R200.) -/
def Obligations.PacketsAreFormedAndRouted : Prop :=
  (∀ (d : List Nat) (r : Bool) (type flags frame line : Nat) (body : List Byte) (s : State), s.frozen = false →
    s.bit SEC_KEY_STATUS 17 = false → s.keyValid 1 = true →
    let u := s.formPacket d r type flags frame line body
    let head := s.packetHead type flags frame line body
    u.seq = (s.seq + 1) % 2 ^ 64 ∧ u.pnt.waiting = s.pnt.waiting ++ d.map (fun n => (n, ⟨head ++ packetTag (s.key 1) head, r⟩))) ∧
  (∀ (d : List Nat) (r : Bool) (type flags frame line : Nat) (body : List Byte) (s : State), s.frozen = false →
    s.bit SEC_KEY_STATUS 17 = false → s.withheld = true →
    let u := s.formPacket d r type flags frame line body
    u.seq = s.seq ∧ u.pnt.waiting = s.pnt.waiting ∧ u.rd PNT_PKT_UNSIGNED = s.rd PNT_PKT_UNSIGNED + 1) ∧
  (∀ (seq : Nat) (l : HstLine) (rest : List (Nat × HstLine)) (s : State), s.hst.lines = (seq, l) :: rest →
    (∃ e ∈ s.hst.jobs, e.1 / 192 = seq ∧ e.2.stage < 6) → Does (.linePacketAssembly false) s fun u => u = s) ∧
  (∀ (seq : Nat) (l : HstLine) (rest : List (Nat × HstLine)) (s : State), s.pwr.coreInReset = false → s.hst.lines = (seq, l) :: rest →
    (∀ e ∈ s.hst.jobs, e.1 / 192 = seq → 6 ≤ e.2.stage) → s.frozen = false → s.withheld = false → s.bit SEC_KEY_STATUS 17 = false →
    let n := 192 / max 1 (l.get PNT_PKT_CFG_SEGMENT)
    Does (.linePacketAssembly false) s fun u => u.hst.lines = rest ∧ (∀ e ∈ u.hst.jobs, e.1 / 192 ≠ seq) ∧ u.seq = (s.seq + n) % 2 ^ 64
      ∧ u.pnt.waiting.length = s.pnt.waiting.length + n * (s.route 0).length) ∧
  (∀ (d : Fin 3) (q : Packet) (rest : List (Nat × Packet)) (s : State), s.pwr.coreInReset = false →
    takePacket d s.pnt.waiting = some (q, rest) → q.reserved = false →
    Does (.packetDestinationSend d true) s fun u => u.pnt.waiting = rest ∧ u.rd (PNT_PKT_DROP d) = s.rd (PNT_PKT_DROP d) + 1
      ∧ (s.pnt.dropRaised = false → u.has EV_PNT_PKT_DROP = true)) ∧
  (∀ (d : Fin 2) (full : Bool) (q : Packet) (rest : List (Nat × Packet)) (s : State), s.pwr.coreInReset = false →
    takePacket d s.pnt.waiting = some (q, rest) → (full = false ∨ q.reserved = true) →
    Does (.packetDestinationSend d.castSucc full) s fun u => u.pnt.waiting = rest ∧ u.dma.ready = s.dma.ready
      ++ [⟨d, if d = 0 then s.fldF PNT_PKT_QUEUE_QUEUE_A else s.fldF PNT_PKT_QUEUE_QUEUE_B, 0, q.bytes⟩]) ∧
  (∀ (p : Port) (r : Fin 4) (v : Word) (s : State), Reaches s p (0x280040 + 4 * r.val) → s.running = false →
    (r = 0 → v.toNat / 2 ^ 24 ∈ [12, 24, 48, 96, 192]) →
    Gives (.packetConfigWrite p r v) s fun t => t.rd (0x280040 + 4 * r.val) = s.stored (0x280040 + 4 * r.val) v
      ∧ Kept s t [0x280040 + 4 * r.val]) ∧
  (∀ (p : Port) (r : Fin 4) (v : Word) (s : State), Reaches s p (0x280040 + 4 * r.val) →
    (s.running = true ∨ (r = 0 ∧ v.toNat / 2 ^ 24 ∉ [12, 24, 48, 96, 192])) →
    Gives (.packetConfigWrite p r v) s fun t => t.rdN PNT_CFG_ERR = (if s.running then 1 else 2) * 2 ^ 24 + 0x40 + 4 * r.val
      ∧ Logged t EV_PNT_CFG_ERROR ∧ Kept s t [PNT_CFG_ERR])

/-- While the column runs, each gate step of the schedule comes at its instant in the image line, puts an empty packet at gate 0, moves each on
by one with what it collected and brings the closing lines one gate nearer their tap; a step beyond floor((i+1)VEL/256) - floor(i VEL/256)
of image line i changes nothing. The close of a sense interval converts the oldest line at its tap, no code above 16,383 and 0 for a line
cut, stores it, and gives it the instant from which it may be sent. A transfer puts the header beat and the pixel beats of the oldest line
of the store on a free bus, not before that instant and 16 cycles of PIXCLK after the last beat. A line received 4 ns a beat later is padded
or truncated to the pixels expected and marked so; one not expected is not taken; a missing header delivers the line expected longest as
zeros one image line after its instant. (Where in the image line a gate step lies is the model's choice, log entry 149.) Under the
hypotheses given, on the state and the operands alone, exec answers a next state for gateStep, senseIntervalClose, pixelLineTransfer,
pixelLineReceived, pixelHeaderTimeout. (R204, R205, R206, R211, R212, R213, R214, R215, R216, R217.) -/
def Obligations.ColourLinesAreShiftedAndRead : Prop :=
  let Shown := fun (s t : State) (l : ColourLine) (px : List Nat) => ∃ y, t.img.arrived = s.img.arrived ++ [y] ∧
    (let n := outPixels (s.genCfg l.gen); y.pixels = (px ++ List.replicate (n - px.length) 0).take n
      ∧ y.short = decide (px.length < n) ∧ y.long = decide (n < px.length)
      ∧ (y.short = true → s.img.shortRaised = false → Logged t EV_LINE_SHORT) ∧ (y.long = true → s.img.longRaised = false → Logged t EV_LINE_LONG))
  (∀ (s : State), s.pwr.coreInReset = false → s.flag IMG_STATUS_RUNNING = true → s.grid.running = true → s.img.lineOpen = true →
    s.img.steps < stepsIn s.img.dieVel s.img.line →
    Gives .gateStep s fun t => t.img.packets = (TdiPacket.enter (s.fld IMG_GEN_V) s.img.dieGen :: s.img.packets.map s.stepPacket).take 320
      ∧ t.now = max s.now (s.img.lineAt + (2 * s.img.steps + 1) * s.imageLineTicks / (2 * stepsIn s.img.dieVel s.img.line))
      ∧ t.img.steps = s.img.steps + 1 ∧ t.img.closing.map (fun l => l.left) = s.img.closing.map (fun l => l.left - 1)
      ∧ (∀ l ∈ t.img.closing, l.left = 0 → l.lit.isSome = true)
      ∧ t.img.crossed = s.img.crossed + (if s.img.packets[119]?.isSome then 1 else 0) ∧ Kept s t []) ∧
  (∀ (s : State), (s.flag IMG_STATUS_RUNNING = false ∨ s.grid.running = false ∨ s.img.lineOpen = false
      ∨ stepsIn s.img.dieVel s.img.line ≤ s.img.steps) →
    Gives .gateStep s fun t => t.img = s.img ∧ Kept s t []) ∧
  (∀ (cfg : List (Nat × Word)) (b : Bool) (vel n lit : Nat) (x : Int), convCode cfg b vel n lit x ≤ 16383) ∧
  (∀ (s : State) (l : ColourLine) (x : List Int), l.cut = true → ∀ p ∈ (s.convert l x).pixels, p = 0) ∧
  (∀ (x : List Int) (l : ColourLine) (s : State), s.pwr.coreInReset = false → s.flag IMG_STATUS_RUNNING = true → s.grid.running = true →
    s.img.closing.find? (fun l => l.left = 0) = some l → l.read = true →
    Gives (.senseIntervalClose x) s fun t =>
      let m := { l with readyAt := max (l.closedAt + 25600) s.img.convFree + 307200 }
      t.img.closing = s.img.closing.erase l ∧ t.img.store = s.img.store ++ [(s.advance l.closedAt).defectLine.convert m x]
      ∧ t.img.convFree + 51200 = m.readyAt ∧ t.img.expected = (if l.expect then s.img.expected ++ [m] else s.img.expected)) ∧
  (∀ (x : List Int) (s : State), (s.flag IMG_STATUS_RUNNING = false ∨ s.grid.running = false
      ∨ s.img.closing.find? (fun l => l.left = 0) = none) →
    Gives (.senseIntervalClose x) s fun t => t.img = s.img ∧ Kept s t []) ∧
  (∀ (l : ColourLine) (s : State), s.pwr.coreInReset = false → s.img.bus = none → s.img.store.find? (fun l => !s.earlierUnsent l) = some l →
    Gives .pixelLineTransfer s fun t => ∃ b, t.img.bus = some b ∧ b.line = l ∧ b.lvAt = t.now
      ∧ b.beats = BitVec.ofNat 56 (headerBeat (s.genCfg l.die) l) :: pixelBeats l.pixels
      ∧ t.now = max s.now (max l.readyAt (s.img.busFree + 16384))
      ∧ t.img.store = s.img.store.erase l ∧ t.img.fv = true ∧ Kept s t []) ∧
  (∀ (b : PixelBus) (x : ColourLine) (s : State), s.pwr.coreInReset = false → s.img.bus = some b → s.expects b.received = some x →
    s.flag ISP_CTRL_SRC = false →
    Gives .pixelLineReceived s fun t => t.img.bus = none ∧ t.now = max s.now (b.lvAt + 1024 * b.beats.length)
      ∧ t.img.expected = s.img.expected.erase x ∧ Shown s t b.received b.received.pixels) ∧
  (∀ (b : PixelBus) (s : State), s.pwr.coreInReset = false → s.img.bus = some b → s.expects b.received = none →
    Gives .pixelLineReceived s fun t => t.img.bus = none ∧ t.img.expected = s.img.expected ∧ t.img.arrived = s.img.arrived) ∧
  (∀ (l : ColourLine) (rest : List ColourLine) (s : State), s.pwr.coreInReset = false → s.img.expected = l :: rest →
    s.img.bus.any (fun b => b.line.frame = l.frame && b.line.line = l.line) = false → s.flag ISP_CTRL_SRC = false →
    Gives .pixelHeaderTimeout s fun t => t.img.expected = rest ∧ t.now = max s.now (l.readyAt + s.imageLineTicks) ∧ Shown s t l [])

/-- A commit that passes every check stages the shadow set with its instant, shows COMMIT_PENDING and clears TDI_HALT. One that fails records
the first failing code with its DETAIL, raises IMG_CFG_ERROR and leaves what was staged. A ROW_BIN of 3 with legal rows is refused with code
0x02. ENABLE is stored as written. With ENABLE of IMG_CTRL at 1, a write of ISP_CTRL, a capture and a reprocessing request are refused with
code 0x23; with it at 0, ISP_CTRL is stored, a capture of a legal region waits for the next frame and shows CAPTURE, and a reprocessing
request under SRC = 1 begins at the region's base. A reprocessing of 0 lines is refused with 0x23, and a region that does not fit with 0x24.
Under the hypotheses given, on the state and the operands alone, exec answers a next state for imagingCommit, imagingEnable,
ispControlWrite, ispCaptureRequest, ispReprocRequest. (R218, R219, R220, R222, R234, R245, R246, R486.) -/
def Obligations.ImagingSettings : Prop :=
  (
  (∀ (p : Port) (s : State), Reaches s p IMG_COMMIT → s.imgCheck = none →
    Gives (.imagingCommit p) s fun t => t.img.commit = some s.now ∧ t.img.staged = s.shadowSet imgSpans
      ∧ t.flag IMG_STATUS_COMMIT_PENDING = true ∧ t.flag IMG_STATUS_TDI_HALT = false ∧ Kept s t [IMG_STATUS]) ∧
  (∀ (p : Port) (c d : Nat) (s : State), Reaches s p IMG_COMMIT → s.imgCheck = some (c, d) →
    Gives (.imagingCommit p) s fun t => t.rd IMG_CFG_ERR = BitVec.ofNat 32 (c * 2 ^ 24 + d % 2 ^ 16) ∧ Logged t EV_IMG_CFG_ERROR
      ∧ t.img.commit = s.img.commit ∧ t.img.staged = s.img.staged ∧ Kept s t [IMG_CFG_ERR]) ∧
  (∀ (p : Port) (s : State), Reaches s p IMG_COMMIT → s.fld IMG_ROWS_START % 2 = 0 → s.fld IMG_ROWS_COUNT ≠ 0 →
    s.fld IMG_ROWS_COUNT % 2 = 0 → s.fld IMG_ROWS_START + s.fld IMG_ROWS_COUNT ≤ 1536 → s.fld IMG_BIN_ROW_BIN = 3 →
    Gives (.imagingCommit p) s fun t => t.rdN IMG_CFG_ERR = 0x02000000) ∧
  (∀ (p : Port) (on : Bool) (s : State), Reaches s p IMG_CTRL →
    Gives (.imagingEnable p on) s fun t => t.flag IMG_CTRL_ENABLE = on ∧ t.rd IMG_CTRL = s.stored IMG_CTRL (BitVec.ofNat 32 (b2n on))
      ∧ Kept s t [IMG_CTRL])
  ) ∧
  (
  let Refused := fun (s t : State) (code : Nat) => t.rdN IMG_CFG_ERR = code * 2 ^ 24 + 0xFFFF ∧ Logged t EV_IMG_CFG_ERROR ∧ t.isp = s.isp
    ∧ Kept s t [IMG_CFG_ERR]
  let Fits := fun (s : State) (n : Nat) => s.regionBad (n * s.recordBytes) = false
  (∀ (p : Port) (v : BitVec 2) (s : State), Reaches s p ISP_CTRL → s.flag IMG_CTRL_ENABLE = false →
    Gives (.ispControlWrite p v) s fun t => t.rd ISP_CTRL = s.stored ISP_CTRL (v.setWidth 32) ∧ Kept s t [ISP_CTRL]) ∧
  (∀ (p : Port) (v : BitVec 2) (s : State), Reaches s p ISP_CTRL → s.flag IMG_CTRL_ENABLE = true →
    Gives (.ispControlWrite p v) s fun t => Refused s t 0x23) ∧
  (∀ (p : Port) (n : BitVec 16) (s : State), Reaches s p ISP_MEM_CTRL → s.flag IMG_CTRL_ENABLE = false → Fits s (4 * s.linesInForce) →
    s.isp.capture = none →
    Gives (.ispCaptureRequest p n) s fun t => t.isp = { s.isp with capture := some (none, 0, s.memBase) }
      ∧ t.flag ISP_MEM_CTRL_CAPTURE = true ∧ t.flag ISP_STATUS_CAPTURE_ACTIVE = true ∧ t.fld ISP_MEM_CTRL_LINES = n.toNat
      ∧ Kept s t [ISP_MEM_CTRL, ISP_STATUS]) ∧
  (∀ (p : Port) (n : BitVec 16) (s : State), Reaches s p ISP_MEM_CTRL → s.flag IMG_CTRL_ENABLE = false → s.flag ISP_CTRL_SRC = true →
    n ≠ 0 → Fits s n.toNat → s.isp.reproc = none →
    Gives (.ispReprocRequest p n) s fun t => t.isp = { s.isp with reproc := some (n.toNat, s.memBase, 0) }
      ∧ t.flag ISP_MEM_CTRL_REPROC = true ∧ t.flag ISP_STATUS_REPROC_BUSY = true ∧ t.fld ISP_MEM_CTRL_LINES = n.toNat
      ∧ Kept s t [ISP_MEM_CTRL, ISP_STATUS]) ∧
  (∀ (p : Port) (n : BitVec 16) (s : State), Reaches s p ISP_MEM_CTRL → s.flag IMG_CTRL_ENABLE = true →
    Gives (.ispCaptureRequest p n) s fun t => Refused s t 0x23) ∧
  (∀ (p : Port) (n : BitVec 16) (s : State), Reaches s p ISP_MEM_CTRL → (s.flag IMG_CTRL_ENABLE = true ∨ n = 0) →
    Gives (.ispReprocRequest p n) s fun t => Refused s t 0x23) ∧
  (∀ (p : Port) (n : BitVec 16) (s : State), Reaches s p ISP_MEM_CTRL → s.flag IMG_CTRL_ENABLE = false → ¬Fits s (4 * s.linesInForce) →
    Gives (.ispCaptureRequest p n) s fun t => Refused s t 0x24) ∧
  (∀ (p : Port) (n : BitVec 16) (s : State), Reaches s p ISP_MEM_CTRL → s.flag IMG_CTRL_ENABLE = false → n ≠ 0 → ¬Fits s n.toNat →
    Gives (.ispReprocRequest p n) s fun t => Refused s t 0x24)
  )

/-- The queue takes an arrived line while it holds fewer than 32, and otherwise drops it, counts it and raises ISP_LINE_DROP once a frame; with
ENABLE 0 the line goes no further. Processing takes the oldest line that awaits no partner and counts it in its frame's statistics. A
reprocessed record is counted or, malformed, dropped; after the last, REPROC ends, its statistics are no longer gathered and ISP_REPROC_DONE
is raised. The black level and colour matrix stages answer within 20 bits. Under the hypotheses given, on the state and the operands alone,
exec answers a next state for ispLineEnqueue, ispLineProcess, reprocessRecord. (R224, R229, R232, R235, R236, R245, R246.) -/
def Obligations.PipelineLinesAndRecords : Prop :=
  (∀ (l : ColourLine) (rest : List ColourLine) (s : State), s.pwr.coreInReset = false → s.img.arrived = l :: rest →
    s.flag ISP_CTRL_ENABLE = true → s.isp.queue.length < 32 →
    Gives .ispLineEnqueue s fun t => t.img.arrived = rest ∧ t.isp.queue = s.isp.queue ++ [l]
      ∧ t.fld ISP_STATUS_QUEUE = s.isp.queue.length + 1 ∧ Kept s t [ISP_STATUS]) ∧
  (∀ (l : ColourLine) (rest : List ColourLine) (s : State), s.pwr.coreInReset = false → s.img.arrived = l :: rest →
    s.flag ISP_CTRL_ENABLE = true → 32 ≤ s.isp.queue.length →
    Gives .ispLineEnqueue s fun t => t.img.arrived = rest ∧ t.isp.queue = s.isp.queue ∧ t.rd ISP_DROP = s.rd ISP_DROP + 1
      ∧ (s.isp.dropRaised = false → Logged t EV_ISP_LINE_DROP) ∧ Kept s t [ISP_DROP]) ∧
  (∀ (l : ColourLine) (rest : List ColourLine) (s : State), s.pwr.coreInReset = false → s.img.arrived = l :: rest →
    s.flag ISP_CTRL_ENABLE = false →
    Gives .ispLineEnqueue s fun t => t.img.arrived = rest ∧ t.isp.queue = s.isp.queue ∧ Kept s t []) ∧
  (∀ (l : ColourLine) (s : State), s.pwr.coreInReset = false → s.isp.queue.find? (fun l => !s.partnerComing l) = some l →
    s.isp.queue.length ≤ 32 →
    Gives .ispLineProcess s fun t => t.isp.queue = s.isp.queue.erase l ∧ t.fld ISP_STATUS_QUEUE = (s.isp.queue.erase l).length
      ∧ ∃ x ∈ t.isp.sums, x.frame = l.frame ∧ x.reproc = l.reproc ∧ x.lines = (s.sumsOf l).lines + 1) ∧
  (∀ (s : State), s.isp.queue.find? (fun l => !s.partnerComing l) = none →
    Gives .ispLineProcess s fun t => t.isp = s.isp ∧ Kept s t []) ∧
  (∀ (left a n len : Nat) (l : ColourLine) (cfg : List (Nat × Word)) (s : State), s.pwr.coreInReset = false →
    s.isp.reproc = some (left, a, n) → 1 < left → s.readRecord a = some (l, len, cfg) →
    Gives .reprocessRecord s fun t => t.isp.reproc = some (left - 1, a + len, n + 1)) ∧
  (∀ (left a n : Nat) (s : State), s.pwr.coreInReset = false → s.isp.reproc = some (left, a, n) → 1 < left → s.readRecord a = none →
    Gives .reprocessRecord s fun t => t.isp.reproc = some (left - 1, a + s.recordBytes, n) ∧ t.rd ISP_DROP = s.rd ISP_DROP + 1
      ∧ Kept s t [ISP_DROP]) ∧
  (∀ (left a n : Nat) (s : State), s.pwr.coreInReset = false → s.isp.reproc = some (left, a, n) → left ≤ 1 →
    Gives .reprocessRecord s fun t => t.isp.reproc = none ∧ t.flag ISP_MEM_CTRL_REPROC = false ∧ t.flag ISP_STATUS_REPROC_BUSY = false
      ∧ (∀ x ∈ t.isp.sums, x.reproc = false) ∧ Logged t EV_ISP_REPROC_DONE) ∧
  (∀ (cfg : List (Nat × Word)) (q code : Nat), blackLevel cfg q code < 2 ^ 20) ∧
  (∀ (m : List (List Int)) (px : List Nat), ∀ v ∈ colourMatrix m px, v < 2 ^ 20)

/-- A channel that does not run delivers nothing. An output sample of one that runs comes at its output instant, sets the next one an output
period later, shows the raw value of the inputs, demodulated at EXC_PHASE + DEMOD_PHASE where the channel drives an excitation, clamped to
16 bits, OVERRANGE where the clamp acts, and counts in FLT_COUNT; a polynomial value stays within 16 bits. At the zero crossing that a
change waits for, the excitation takes effect and settling begins; the end of settling restarts the chain's detectors. A charge reset comes
RESET_MS after the one before and applies a pending range; an early reset at 31/32 of the range also marks the next sample and raises
AFE_EARLY_RESET, and below that nothing changes. Under the hypotheses given, on the state and the operands alone, exec answers a next state
for afeOutputSample, excitationZeroCrossing, settlingEnd, chargeResetInstant, chargeEarlyReset. (R249, R251, R252, R257, R258, R259, R262,
R263, R264, R276.) -/
def Obligations.FrontEndSamples : Prop :=
  (∀ (m : Fin 8) (a b : Int × Int) (f i : Int) (s : State), s.pwr.coreInReset = false → s.afeRuns m = false →
    Gives (.afeOutputSample m a b f i) s fun u => u.afe = s.afe ∧ Kept s u []) ∧
  (∀ (m : Fin 8) (a b : Int × Int) (f i x : Int) (s : State), s.pwr.coreInReset = false → s.afeRuns m = true →
    (s.afeChan m).settleUntil = none → (s.afeChan m).settleDue = false →
    let phase := s.fldF (AFE_PHASE_EXC_PHASE m) + s.fldF (AFE_PHASE_DEMOD_PHASE m)
    let p := if s.excited m then demodulate phase a else (a.1, 0)
    let q := if s.excited m then (demodulate phase b).1 else b.1
    s.rawX m ⟨p.1, q, p.2, f, i⟩ (max s.now (s.afeChan m).nextOut) = some x →
    Gives (.afeOutputSample m a b f i) s fun u => u.rdN (AFE_RAW m) % 65536 = toBits 16 (clampI x (-32768) 32767)
      ∧ u.flag (AFE_FAULT_OVERRANGE m) = decide (x < -32768 ∨ 32767 < x) ∧ u.rd (FLT_COUNT m) = s.rd (FLT_COUNT m) + 1
      ∧ (u.afeChan m).satRange = none ∧ u.now = max s.now (s.afeChan m).nextOut
      ∧ (u.afeChan m).nextOut = (s.afeChan m).nextOut + outputTicks (s.fld (AFE_MODE_PRESET m))) ∧
  (∀ (s : State) (j : Nat) (x tau : Int), -32768 ≤ (s.polyValue j x tau).1 ∧ (s.polyValue j x tau).1 ≤ 32767) ∧
  (∀ (m : Fin 8) (e : Nat) (s : State), s.pwr.coreInReset = false → s.excited m = true → (s.afeChan m).excDue = some e →
    Gives (.excitationZeroCrossing m) s fun u => u.rdF (AFE_EXC m) = s.rd (AFE_EXC m) ∧ u.rdF (AFE_PHASE m) = s.rd (AFE_PHASE m)
      ∧ u.now = max s.now e ∧ (u.afeChan m).excDue = none ∧ (u.afeChan m).settleUntil.isSome = true ∧ u.bit AFE_STATUS (16 + m) = true) ∧
  (∀ (m : Fin 8) (s : State), (s.excited m = false ∨ (s.afeChan m).excDue = none) →
    Gives (.excitationZeroCrossing m) s fun u => u.afe = s.afe ∧ Kept s u []) ∧
  (∀ (m : Fin 8) (e : Nat) (s : State), s.pwr.coreInReset = false → (s.afeChan m).settleUntil = some e →
    Gives (.settlingEnd m) s fun u => (u.afeChan m).settleUntil = none ∧ u.bit AFE_STATUS (16 + m) = false ∧ u.now = max s.now e
      ∧ u.rd (FLT_PEAK m) = 0x80007FFF ∧ u.rd (FLT_RMS m) = 0 ∧ u.rd (FLT_ENV m) = 0
      ∧ Kept s u [AFE_STATUS, FLT_PEAK m, FLT_RMS m, FLT_ENV m]) ∧
  (∀ (m : Fin 8) (charge : Int) (s : State), s.pwr.coreInReset = false → s.afeRuns m = true → s.afeMode m = 7 →
    Gives (.chargeResetInstant m charge) s fun u => u.chargeRange m = s.fld (AFE_MODE_RANGE m) ∧ (u.afeChan m).carriedAt = u.now
      ∧ u.now = max s.now ((s.afeChan m).resetFrom + 256000000 * s.fld (AFE_CHG_RESET_MS m)) ∧ (u.afeChan m).resetFrom = u.now
      ∧ (u.afeChan m).carried = s.carriedAt m u.now + charge * 65536 ∧ u.flag (AFE_MODE_RANGE_PENDING m) = false) ∧
  (∀ (m : Fin 8) (t : Nat) (charge : Int) (s : State), s.pwr.coreInReset = false → s.afeRuns m = true → s.afeMode m = 7 →
    31 * chargeFull (s.chargeRange m) ≤ 32 * charge.natAbs → s.afe.earlyAt = none →
    Gives (.chargeEarlyReset m t charge) s fun u => (u.afeChan m).satRange.isSome = true ∧ u.chargeRange m = s.fld (AFE_MODE_RANGE m)
      ∧ Logged u EV_AFE_EARLY_RESET) ∧
  (∀ (m : Fin 8) (t : Nat) (charge : Int) (s : State), 32 * charge.natAbs < 31 * chargeFull (s.chargeRange m) →
    Gives (.chargeEarlyReset m t charge) s fun u => u.afe = s.afe ∧ Kept s u [])

/-- The reference is ready 2.0 ms after REF_EN was set, and raises ADC_REF_READY. With RUN at 1 and no sequence running, the trigger chosen
starts one; one that finds a sequence running counts in ADC_OVERRUN. A sequence's end publishes a set under the next ADC_SEQ_NUM, and check
codes that differ by more than TOL set SUSPECT. Clearing RUN abandons the sequence; a change of REF_SRC under REF_EN is refused with code
0x05. A commit that passes waits for the next sequence while RUN is 1 and else latches at once. Codes saturate. A write that a check of R275
refuses records code and DETAIL and raises AFE_CFG_ERROR, and nothing else changes. A legal FLT_DET_CFG is stored; a legal FLT_POLY_CFG is
stored and latches the polynomial at the next sample; a TSRC that names its own chain is refused with code 0x05. A restart puts the peaks at
their ends and RMS and envelope at 0. CLEAR empties FLT_TRIP while every interlock switch is off, and does nothing otherwise. Under the
hypotheses given, on the state and the operands alone, exec answers a next state for referenceReady, adcTimerTrigger, adcGo, adcSequenceEnd,
adcControlWrite, adcCommit, afeConfigWrite, polyConfigWrite, detectorRestart, interlockTripClear. (R264, R266, R267, R271, R275, R278, R280,
R281, R282, R283, R284, R287.) -/
def Obligations.ConverterSequences : Prop :=
  (
  (∀ (t0 : Nat) (s : State), s.pwr.coreInReset = false → s.adc.refSince = some t0 → s.flag ADC_STATUS_REF_READY = false →
    Gives .referenceReady s fun t => t.flag ADC_STATUS_REF_READY = true ∧ t.adc.readyAt = some (t0 + 512000000)
      ∧ t.now = max s.now (t0 + 512000000) ∧ Logged t EV_ADC_REF_READY ∧ Kept s t [ADC_STATUS]) ∧
  (∀ (s : State), s.adc.refSince = none → Gives .referenceReady s fun t => t.adc = s.adc ∧ Kept s t []) ∧
  (∀ (s : State), s.pwr.coreInReset = false → s.flag ADC_CTRL_RUN = true → s.fldF ADC_SEQ_CFG_TRIG = 0 → s.adc.seqStart = none →
    s.adc.staged = none →
    let at_ := s.adc.timerFrom + 256000 * s.fldF ADC_SEQ_CFG_PERIOD
    Gives .adcTimerTrigger s fun t => t.adc.seqStart = some (max s.now at_) ∧ t.adc.timerFrom = at_ ∧ t.flag ADC_STATUS_RUNNING = true
      ∧ Kept s t [ADC_STATUS]) ∧
  (∀ (p : Port) (s : State), Reaches s p ADC_GO → s.flag ADC_CTRL_RUN = true → s.fldF ADC_SEQ_CFG_TRIG = 2 → s.adc.seqStart = none →
    Gives (.adcGo p) s fun t => t.adc.seqStart = some s.now ∧ t.adc.staged = none ∧ t.flag ADC_STATUS_RUNNING = true) ∧
  (∀ (p : Port) (t0 : Nat) (s : State), Reaches s p ADC_GO → s.flag ADC_CTRL_RUN = true → s.fldF ADC_SEQ_CFG_TRIG = 2 →
    s.adc.seqStart = some t0 →
    Gives (.adcGo p) s fun t => t.adc.seqStart = some t0 ∧ (s.adc.overrunAt = none → Logged t EV_ADC_OVERRUN)
      ∧ t.fld ADC_OVERRUN_V = min (2 ^ (ADC_OVERRUN_V.hi + 1 - ADC_OVERRUN_V.lo) - 1) (s.fld ADC_OVERRUN_V + 1) ∧ Kept s t [ADC_OVERRUN]) ∧
  (∀ (c b : Int × Int) (v : List (Int × Int)) (t0 : Nat) (s : State), s.pwr.coreInReset = false → s.adc.seqStart = some t0 →
    Gives (.adcSequenceEnd c b v) s fun t => t.adc.seqStart = none ∧ t.flag ADC_STATUS_RUNNING = false
      ∧ t.rd ADC_SEQ_NUM = s.rd ADC_SEQ_NUM + 1 ∧ (∃ x rest, t.adc.kept = x :: rest ∧ x.seq = t.rdN ADC_SEQ_NUM
        ∧ x.check0 = (adcCode false 0 c.1).1.toNat ∧ x.check1 = (adcCode false 0 c.2).1.toNat)
      ∧ (s.refReadyAt t0 = true → (s.fldF ADC_CHECK_CFG_TOL : Nat) < ((adcCode false 0 c.1).1 - (adcCode false 0 c.2).1).natAbs →
          t.flag ADC_STATUS_SUSPECT = true ∧ t.adc.agree = 0)) ∧
  (∀ (p : Port) (v : BitVec 5) (s : State), Reaches s p ADC_CTRL → (s.flag ADC_CTRL_REF_EN = false ∨ v.getLsbD 4 = s.flag ADC_CTRL_REF_SRC) →
    Gives (.adcControlWrite p v) s fun t => t.rd ADC_CTRL = s.stored ADC_CTRL (v.setWidth 32)
      ∧ (s.flag ADC_CTRL_RUN = true → t.flag ADC_CTRL_RUN = false → t.adc.seqStart = none ∧ t.flag ADC_STATUS_RUNNING = false)
      ∧ (s.flag ADC_CTRL_REF_EN = false → t.flag ADC_CTRL_REF_EN = true → t.adc.refSince = some s.now)
      ∧ (s.flag ADC_CTRL_REF_EN = true → t.flag ADC_CTRL_REF_EN = false → t.flag ADC_STATUS_REF_READY = false)) ∧
  (∀ (p : Port) (v : BitVec 5) (s : State), Reaches s p ADC_CTRL → s.flag ADC_CTRL_REF_EN = true → v.getLsbD 4 ≠ s.flag ADC_CTRL_REF_SRC →
    Gives (.adcControlWrite p v) s fun t => t.rdN ADC_CFG_ERR = 0x0500FFFF ∧ Logged t EV_ADC_CFG_ERROR ∧ t.adc = s.adc ∧ Kept s t [ADC_CFG_ERR]) ∧
  (∀ (p : Port) (s : State), Reaches s p ADC_COMMIT → s.adcCheckCode.1 = 0 → s.flag ADC_CTRL_RUN = true →
    Gives (.adcCommit p) s fun t => t.adc.staged = some s.adcShadow ∧ t.flag ADC_STATUS_COMMIT_PENDING = true ∧ Kept s t [ADC_STATUS]) ∧
  (∀ (p : Port) (s : State), Reaches s p ADC_COMMIT → s.adcCheckCode.1 = 0 → s.flag ADC_CTRL_RUN = false →
    Gives (.adcCommit p) s fun t => t.adc.staged = none ∧ t.rdF ADC_SEQ_CFG = s.rd ADC_SEQ_CFG ∧ t.rdF ADC_CHECK_CFG = s.rd ADC_CHECK_CFG
      ∧ ∀ k < 64, t.rdF (ADC_STEP k) = s.rd (ADC_STEP k)) ∧
  (∀ (p : Port) (c d : Nat) (s : State), Reaches s p ADC_COMMIT → s.adcCheckCode = (c, d) → c ≠ 0 →
    Gives (.adcCommit p) s fun t => t.rd ADC_CFG_ERR = BitVec.ofNat 32 (c * 2 ^ 24 + d % 2 ^ 16) ∧ Logged t EV_ADC_CFG_ERROR
      ∧ t.adc = s.adc ∧ Kept s t [ADC_CFG_ERR]) ∧
  (∀ (g : Nat) (v : Int), 0 ≤ (adcCode false g v).1 ∧ (adcCode false g v).1 ≤ 16383 ∧ -8192 ≤ (adcCode true g v).1 ∧ (adcCode true g v).1 ≤ 8191)
  ) ∧
  (
  (∀ (p : Port) (off : BitVec 14) (v : Word) (c d : Nat) (s : State), Reaches s p (0x3C0000 + off.toNat / 4 * 4) →
    s.afeWriteCode (off.toNat / 4 * 4) v = (c, d) → c ≠ 0 →
    Gives (.afeConfigWrite p off v) s fun t => t.rd AFE_CFG_ERR = BitVec.ofNat 32 (c * 2 ^ 24 + d % 2 ^ 16) ∧ Logged t EV_AFE_CFG_ERROR
      ∧ t.afe = s.afe ∧ Kept s t [AFE_CFG_ERR]) ∧
  (∀ (p : Port) (j : Fin 12) (v : Word) (s : State), Reaches s p (FLT_DET_CFG j) → v.toNat / 65536 % 16 ≠ 0 → 4 ≤ v.toNat % 16 →
    Gives (.afeConfigWrite p (BitVec.ofNat 14 (0x10A4 + 256 * j.val)) v) s fun t => t.rd (FLT_DET_CFG j) = s.stored (FLT_DET_CFG j) v
      ∧ t.afe = s.afe ∧ Kept s t [FLT_DET_CFG j]) ∧
  (∀ (p : Port) (j : Fin 12) (v : Word) (s : State), Reaches s p (FLT_POLY_CFG j) → (s.afeWriteCode (0x1004 + 256 * j.val) v).1 = 0 →
    Gives (.polyConfigWrite p j v) s fun t => t.rd (FLT_POLY_CFG j) = s.stored (FLT_POLY_CFG j) v ∧ (t.chain j).polyDue = true
      ∧ Kept s t [FLT_POLY_CFG j]) ∧
  (∀ (p : Port) (j : Fin 12) (v : Word) (s : State), Reaches s p (FLT_POLY_CFG j) → v.toNat % 256 = 0x10 + j.val →
    Gives (.polyConfigWrite p j v) s fun t => t.rdN AFE_CFG_ERR = 0x05000000 + j.val ∧ Logged t EV_AFE_CFG_ERROR ∧ t.afe = s.afe
      ∧ Kept s t [AFE_CFG_ERR]) ∧
  (∀ (p : Port) (j : Fin 12) (s : State), Reaches s p (FLT_DET_RESTART j) →
    Gives (.detectorRestart p j) s fun t => t.rd (FLT_PEAK j) = 0x80007FFF ∧ t.rd (FLT_RMS j) = 0 ∧ t.rd (FLT_ENV j) = 0
      ∧ (t.chain j).rmsSum = 0 ∧ (t.chain j).rmsCount = 0 ∧ Kept s t [FLT_PEAK j, FLT_RMS j, FLT_ENV j]) ∧
  (∀ (p : Port) (s : State), Reaches s p FLT_TRIP → s.ilkSwitchesOff = true →
    Gives (.interlockTripClear p) s fun t => t.rd FLT_TRIP = 0 ∧ Kept s t [FLT_TRIP]) ∧
  (∀ (p : Port) (s : State), Reaches s p FLT_TRIP → s.ilkSwitchesOff = false →
    Gives (.interlockTripClear p) s fun t => t.afe = s.afe ∧ Kept s t [])
  )

/-- Of the classes that wait at a port and have quota left in the over, one of the lowest rank is granted: its spend rises by one, it is the
port's last grant and waits no longer, and no other class's spend changes. A word granted that fails its parity in a FIFO of class 5 to 7 is
counted in BGT_PARITY. Where every class that waits has spent its quota, none is granted. An over starts BGT_OVER periods after the one
before, with no quota spent, BGT_OVER_NUM one higher and BGT_FAB_RATE at the rate measured, and takes the staged quotas and over length in
force. A commit whose shadow set passes the checks is staged and shown pending; one that fails is refused with its code and detail. A write
to a FIFO adds its word, one that finds it full as the entry that its writer holds until FULL clears; a read takes the oldest entry, and
with a parity error sets POISON_SEEN; of an empty FIFO it changes nothing. Under the hypotheses given, on the state and the operands alone,
exec answers a next state for transferGrant, overStart, budgetCommit, dcfWrite, dcfRead. (R294, R298, R299, R301, R302, R309.) -/
def Obligations.GrantsFollowPriorityAndQuota : Prop :=
  (
  (∀ (s : State) (port : Nat) (w : BitVec 32) (n : Nat), s.grantee port w = some n →
    w.getLsbD n = true ∧ s.spent n < s.quota n ∧ ∀ m < 32, w.getLsbD m = true → s.spent m < s.quota m → s.rank n ≤ s.rank m) ∧
  (∀ (s : State) (port : Nat) (w : BitVec 32), s.grantee port w = none → ∀ m < 32, w.getLsbD m = true → s.quota m ≤ s.spent m) ∧
  (∀ (t port n : Nat) (w : BitVec 32) (s : State), s.pwr.coreInReset = false → s.grantee port w = some n →
    Gives (.transferGrant t port w none) s fun u => u.spent n = s.spent n + 1 ∧ (∀ m, m ≠ n → u.spent m = s.spent m)
      ∧ tabGet 31 u.bgt.lastGrant port = n ∧ Kept s u []) ∧
  (∀ (t port n : Nat) (w : BitVec 32) (k : Fin 3) (s : State), s.pwr.coreInReset = false → s.grantee port w = some n →
    Gives (.transferGrant t port w (some k)) s fun u => u.spent n = s.spent n + 1 ∧ (∀ m, m ≠ n → u.spent m = s.spent m)
      ∧ u.fld (BGT_PARITY_V (5 + k)) = min (2 ^ ((BGT_PARITY_V (5 + k)).hi + 1 - (BGT_PARITY_V (5 + k)).lo) - 1) (s.fld (BGT_PARITY_V (5 + k)) + 1)) ∧
  (∀ (t port : Nat) (w : BitVec 32) (s : State), s.pwr.coreInReset = false → s.grantee port w = none →
    Gives (.transferGrant t port w none) s fun u => (∀ m, u.spent m = s.spent m) ∧ Kept s u [])
  ) ∧
  (
  (∀ (rate : BitVec 16) (s : State), s.pwr.coreInReset = false →
    Gives (.overStart rate) s fun u => (∀ n, u.spent n = 0) ∧ u.rd BGT_OVER_NUM = s.rd BGT_OVER_NUM + 1 ∧ u.fld BGT_FAB_RATE_V = rate.toNat
      ∧ u.bgt.staged = none ∧ u.bgt.overStart = max s.now (s.bgt.overStart + 2560 * s.fldF BGT_OVER_V)
      ∧ (∀ set, s.bgt.staged = some set → u.flag BGT_STATUS_COMMIT_PENDING = false ∧ u.fldF BGT_OVER_V = fldIn set BGT_OVER_V
          ∧ ∀ n < 32, u.quota n = fldIn set (BGT_CLASS_QUOTA n))
      ∧ (s.bgt.staged = none → u.inForce = s.inForce)) ∧
  (∀ (p : Port) (s : State), Reaches s p BGT_COMMIT → s.bgtCheck = none →
    Gives (.budgetCommit p) s fun u => u.bgt.staged = some (s.shadowSet bgtSpans) ∧ u.flag BGT_STATUS_COMMIT_PENDING = true
      ∧ Kept s u [BGT_STATUS]) ∧
  (∀ (p : Port) (c d : Nat) (s : State), Reaches s p BGT_COMMIT → s.bgtCheck = some (c, d) →
    Gives (.budgetCommit p) s fun u => u.rd BGT_CFG_ERR = BitVec.ofNat 32 (c * 2 ^ 24 + d) ∧ Logged u EV_BGT_CFG_ERROR
      ∧ u.bgt.staged = s.bgt.staged ∧ Kept s u [BGT_CFG_ERR]) ∧
  (∀ (i : Fin 24) (data : BitVec 64) (s : State), s.pwr.coreInReset = false →
    Gives (.dcfWrite i data) s fun u => u.dcf i = s.dcf i ++ [(data, false)] ∧ u.fld (BGT_DCF_LEVEL i) = min (dcfDepth i) ((s.dcf i).length + 1)
      ∧ u.flag (BGT_DCF_EMPTY i) = false ∧ (u.flag (BGT_DCF_FULL i) = true ↔ dcfDepth i ≤ (s.dcf i).length + 1) ∧ Kept s u [BGT_DCF i]) ∧
  (∀ (i : Fin 24) (bad : Bool) (e : BitVec 64 × Bool) (rest : List (BitVec 64 × Bool)) (s : State), s.pwr.coreInReset = false →
    s.dcf i = e :: rest →
    Gives (.dcfRead i bad) s fun u => u.dcf i = rest ∧ u.fld (BGT_DCF_LEVEL i) = min (dcfDepth i) rest.length
      ∧ (u.flag (BGT_DCF_FULL i) = true ↔ dcfDepth i ≤ rest.length)
      ∧ u.flag (BGT_DCF_POISON_SEEN i) = (bad || s.flag (BGT_DCF_POISON_SEEN i)) ∧ Kept s u [BGT_DCF i, BGT_PARITY 8]) ∧
  (∀ (i : Fin 24) (bad : Bool) (s : State), s.pwr.coreInReset = false → s.dcf i = [] →
    Gives (.dcfRead i bad) s fun u => u.dcf i = [] ∧ Kept s u [])
  )

/-- A permanent error of a bench element sends it off: LNP_LAST names kind, number and cause, LNP_SENT_OFF is raised, and the map holds it sent
off with EPOCH one higher in all three copies. For a lane in service the lane picked from the bench takes every channel that it served and
no other, and a change to it waits. A transient below ERR_LIMIT is only counted. A word whose re-read fails with the same syndrome sends its
tile off with cause 0x04, any other counts as a replay. The end of a tile's copy poisons the words that failed; a due change moves the
channel to its new lane and raises LNP_SUBSTITUTED. Under the hypotheses given, on the state and the operands alone, exec answers a next
state for elementErrorReport, scrubPass, tileCopyDone, substitutionChangeover. (R124, R303, R305, R306, R307, R310.) -/
def Obligations.ElementsAreSentOffAndReplaced : Prop :=
  let Off := fun (s t : State) (k i cause : Nat) => t.rd LNP_LAST = BitVec.ofNat 32 (k * 2 ^ 28 + i * 2 ^ 16 + cause) ∧ Logged t EV_LNP_SENT_OFF
    ∧ mapState t.lnp.map k i = 2 ∧ mapGet t.lnp.map 1 = mapGet s.lnp.map 1 + 1 ∧ t.lnp.copies = [t.lnp.map, t.lnp.map, t.lnp.map]
  (∀ (k : Fin 3) (i : BitVec 12) (cause : BitVec 8) (s : State), s.pwr.coreInReset = false → i.toNat < kindSize k →
    mapState s.lnp.map k i.toNat = 1 →
    Gives (.elementErrorReport k.castSucc i (.permanent cause)) s fun t => Off s t k i.toNat cause.toNat) ∧
  (∀ (i : BitVec 12) (n : Nat) (cause : BitVec 8) (s : State), s.pwr.coreInReset = false → i.toNat < 208 → mapState s.lnp.map 0 i.toNat = 0 →
    s.benchPick 0 = some n →
    Gives (.elementErrorReport 0 i (.permanent cause)) s fun t => Off s t 0 i.toNat cause.toNat ∧ mapState t.lnp.map 0 n = 0
      ∧ (∀ c < 192, mapLane t.lnp.map c = if mapLane s.lnp.map c = i.toNat then n else mapLane s.lnp.map c)
      ∧ (∃ x ∈ t.lnp.changes, x.kind = 0 ∧ x.index = i.toNat ∧ x.sub = some n ∧ x.left = 2 ∧ x.chans = s.servedBy 0 i.toNat)) ∧
  (∀ (k : Fin 3) (i : BitVec 12) (s : State), s.pwr.coreInReset = false → i.toNat < kindSize k → s.lnp.errors = [] →
    1 < s.fld LNP_CFG_ERR_LIMIT →
    Gives (.elementErrorReport k.castSucc i .transient) s fun t => t.lnp.errors = [(4096 * k.val + i.toNat, s.now)] ∧ t.lnp.map = s.lnp.map
      ∧ Kept s t []) ∧
  (∀ (i : BitVec 9) (x : BitVec 10) (s : State), s.pwr.coreInReset = false → i.toNat < 288 → mapState s.lnp.map 2 i.toNat = 1 → x ≠ 0 →
    Gives (.scrubPass [(i, x, x)]) s fun t => Off s t 2 i.toNat 4
      ∧ t.now = max s.now (s.lnp.scrubAt + 256000000000 * s.fld LNP_SCRUB_V)) ∧
  (∀ (i : BitVec 9) (x y : BitVec 10) (s : State), s.pwr.coreInReset = false → i.toNat < 288 → x ≠ 0 → x ≠ y → s.lnp.replays = [] →
    0 < s.fld LNP_CFG_REPLAY_MAX →
    Gives (.scrubPass [(i, x, y)]) s fun t => t.lnp.replays = [(4096 * 2 + i.toNat, t.now)] ∧ t.lnp.map = s.lnp.map ∧ Kept s t []) ∧
  (∀ (i n : Nat) (pos : BitVec 8) (failed : List (BitVec 15)) (s : State), s.pwr.coreInReset = false →
    s.lnp.changes = [⟨2, i, some n, [], 0, some pos.toNat⟩] → mapRole s.lnp.map pos.toNat ≠ 1 →
    Gives (.tileCopyDone pos failed) s fun t => t.lnp.changes = [] ∧ (∀ w ∈ failed, pos.toNat * 0x8000 + w.toNat ∈ t.poison)
      ∧ Logged t EV_LNP_SUBSTITUTED ∧ Kept s t []) ∧
  (∀ (c i n : Nat) (s : State), s.pwr.coreInReset = false → c < 192 → i < 208 → n < 208 → i ≠ n →
    s.lnp.changes = [⟨0, i, some n, [c], 0, none⟩] → mapLane s.lnp.map c = n → s.laneOf c < 208 → s.laneOf c ≠ n →
    Gives .substitutionChangeover s fun t => t.lnp.changes = [] ∧ t.laneOf c = n ∧ t.laneRole n = 0
      ∧ t.fld (TDC_LANE_STATUS_CHANNEL n) = c ∧ Logged t EV_LNP_SUBSTITUTED)

/-- A check comes one second after the one before. With two sound copies that agree, it puts the map they hold into force and into all three
copies, whatever one word of the third holds. Where no copy passes its CRC, the factory default lineup takes effect with EPOCH one above the
greatest held, SPLIT is set and LINEUP_SPLIT raised. A query write names the element that LNP_QUERY_DATA shows. Under the hypotheses given,
on the state and the operands alone, exec answers a next state for lineupCheck, lineupQuery. (R303, R305, R310.) -/
def Obligations.TheLineupIsVoted : Prop :=
  (∀ (i : Fin 3) (w : Fin 512) (v : Word) (m : List (Nat × Word)) (s : State), s.pwr.coreInReset = false → s.lnp.map = m →
    s.lnp.copies = [m, m, m] → mapGet m 0x1FF = mapCrc m →
    Gives (.lineupCheck [(i, w, v)]) s fun t => t.now = max s.now (s.lnp.checkAt + 256000000000) ∧ t.lnp.map = m ∧ t.lnp.copies = [m, m, m]) ∧
  (∀ (a b c : List (Nat × Word)) (s : State), s.pwr.coreInReset = false → s.lnp.copies = [a, b, c] → mapGet a 0x1FF ≠ mapCrc a →
    mapGet b 0x1FF ≠ mapCrc b → mapGet c 0x1FF ≠ mapCrc c →
    Gives (.lineupCheck []) s fun t => t.flag LNP_STATUS_SPLIT = true ∧ Logged t EV_LINEUP_SPLIT
      ∧ mapGet t.lnp.map 1 = BitVec.ofNat 32 (max (max (mapGet a 1).toNat (mapGet b 1).toNat) (mapGet c 1).toNat + 1)
      ∧ ∀ w, w ≠ 1 → w ≠ 0x1FF → mapGet t.lnp.map w = factoryWord w) ∧
  (∀ (p : Port) (kind : BitVec 4) (i : BitVec 12) (s : State), Reaches s p LNP_QUERY →
    Gives (.lineupQuery p kind i) s fun t => t.lnp.query = (kind.toNat, i.toNat) ∧ Kept s t [])

/-- An eligible reselection shows RESEL_BUSY, another is refused with code 0x09; accepted runs record the lane's cells, count an EPOCH and bring
a lane sent off back to the bench, and refused ones report FAIL. A vote comes one second after the one before: a word of one copy that
differs is mended and counted, and nothing else changes; three that differ are a split, with the greatest EPOCH kept. An export takes the
record and ends with DIRTY cleared unless a change came in between; one during a transfer or a reselection is refused with 0x01. An import
is accepted whole or refused with the first failing check, and an accepted one takes the greater EPOCH plus 1 and waits for the next line
start. A new reference trim, every 10 ms, waits for the next sequence. Under the hypotheses given, on the state and the operands alone, exec
answers a next state for reselectionRequest, reselectionDone, calibrationVote, calExportStart, calExportComplete, calImportStart,
calImportApply, referenceTrimUpdate. (R312, R313, R314, R317, R318, R319, R320, R321, R334.) -/
def Obligations.CalibrationStore : Prop :=
  (∀ (p : Port) (k : BitVec 4) (i : BitVec 12) (s : State), Reaches s p CAL_RESEL → s.reselEligible k.toNat i.toNat = true →
    Gives (.reselectionRequest p k i) s fun t => t.cal = { s.cal with resel := some (k.toNat, i.toNat) } ∧ t.flag CAL_STATUS_RESEL_BUSY = true
      ∧ Kept s t [CAL_STATUS]) ∧
  (∀ (p : Port) (k : BitVec 4) (i : BitVec 12) (s : State), Reaches s p CAL_RESEL → s.reselEligible k.toNat i.toNat = false →
    Gives (.reselectionRequest p k i) s fun t => t.cal = s.cal ∧ t.rdN CAL_ERR = 0x09000000 ∧ Kept s t [CAL_ERR]) ∧
  (∀ (l : Nat) (a b : LaneRun) (s : State), s.pwr.coreInReset = false → l < 208 → s.cal.resel = some (0, l) → s.laneAccepted a b = true →
    Gives (.reselectionDone (.lane a b)) s fun t => t.rd CAL_RESEL_STATUS = BitVec.ofNat 32 (2 ^ 31 + l) ∧ t.cal.resel = none
      ∧ t.flag CAL_STATUS_RESEL_BUSY = false ∧ (∀ k < 5, t.hidden (128 + 40 * l + 34 + k) = nth 0 a.cells k)
      ∧ t.rd CAL_EPOCH = s.rd CAL_EPOCH + 1 ∧ t.flag CAL_STATUS_DIRTY = true ∧ Logged t EV_CAL_RESEL_DONE
      ∧ (mapState s.lnp.map 0 l = 2 → mapState t.lnp.map 0 l = 1)) ∧
  (∀ (l : Nat) (a b : LaneRun) (s : State), s.pwr.coreInReset = false → s.cal.resel = some (0, l) → s.laneAccepted a b = false →
    s.cal.failed = [] →
    Gives (.reselectionDone (.lane a b)) s fun t => t.rd CAL_RESEL_STATUS = BitVec.ofNat 32 (2 ^ 30 + l) ∧ t.cal.resel = none
      ∧ t.flag CAL_STATUS_RESEL_BUSY = false ∧ t.cal.failed = [l] ∧ Logged t EV_CAL_RESEL_DONE ∧ Kept s t [CAL_RESEL_STATUS, CAL_STATUS]) ∧
  (∀ (i : Fin 3) (w : Fin 27648) (x : Word) (s : State), s.pwr.coreInReset = false → w.val ≠ 27647 → x ≠ s.recWord w →
    Gives (.calibrationVote [(i, w, x)]) s fun t => t.fld CAL_FIXES_V
      = min (2 ^ (CAL_FIXES_V.hi + 1 - CAL_FIXES_V.lo) - 1) (s.fld CAL_FIXES_V + 1)
      ∧ t.now = max s.now (s.cal.voteAt + 256000000000) ∧ Kept s t [CAL_FIXES]) ∧
  (∀ (a b c : Word) (s : State), s.pwr.coreInReset = false → a ≠ b → a ≠ c → b ≠ c →
    Gives (.calibrationVote [(0, 2, a), (1, 2, b), (2, 2, c)]) s fun t => Logged t EV_CAL_SPLIT
      ∧ t.rdN CAL_EPOCH = max a.toNat (max b.toNat c.toNat) ∧ Kept s t [CAL_EPOCH, CAL_SPLIT_CNT]) ∧
  (∀ (s : State), Gives (.calibrationVote []) s fun t => Kept s t []) ∧
  (∀ (p : Port) (s : State), Reaches s p CAL_CTRL → s.flag CAL_STATUS_BUSY = false →
    s.flag CAL_STATUS_RESEL_BUSY = false → Gives (.calExportStart p) s fun t => t.flag CAL_STATUS_BUSY = true ∧ t.cal = { s.cal with exporting := some (s.rdN CAL_EPOCH, false), held := false }
      ∧ t.dma.ready = s.dma.ready ++ [⟨s.fld CAL_XFER_PORT, s.fld CAL_XFER_QUEUE, 2, wordsToBytes s.record⟩] ∧ Kept s t [CAL_STATUS]) ∧
  (∀ (p : Port) (s : State), Reaches s p CAL_CTRL → (s.flag CAL_STATUS_BUSY = true ∨ s.flag CAL_STATUS_RESEL_BUSY = true) →
    Gives (.calExportStart p) s fun t => t.rdN CAL_ERR = 0x01000000 ∧ Logged t EV_CAL_IMPORT_REFUSED ∧ t.cal = s.cal ∧ Kept s t [CAL_ERR]) ∧
  (∀ (e : Nat) (s : State), s.pwr.coreInReset = false → s.cal.exporting = some (e, true) →
    Gives .calExportComplete s fun t => t.cal.exporting = none ∧ t.flag CAL_STATUS_BUSY = false ∧ t.rd CAL_EXPORT_EPOCH = BitVec.ofNat 32 e
      ∧ t.flag CAL_STATUS_DIRTY = (s.cal.held && s.flag CAL_STATUS_DIRTY) ∧ Logged t EV_CAL_EXPORT_DONE
      ∧ Kept s t [CAL_STATUS, CAL_EXPORT_EPOCH]) ∧
  (∀ (p : Port) (d : BitVec 128) (addr : Nat) (irq : Bool) (bytes : List Byte) (s : State), Reaches s p CAL_CTRL →
    s.flag CAL_STATUS_BUSY = false → s.flag CAL_STATUS_RESEL_BUSY = false → s.queueOpen (s.fld CAL_XFER_PORT) (s.fld CAL_XFER_QUEUE) = true →
    s.flag (DMA_Q_CFG_DIR (s.fld CAL_XFER_PORT) (s.fld CAL_XFER_QUEUE)) = true → readDesc d = (addr, 110592, irq, true) →
    let r := bytesToWords recordWords bytes
    Gives (.calImportStart (some p) d (some bytes)) s fun t => t.cal.importAsked = false ∧
      (if (s.recordCode r).1 = 0 then t.cal.accepted = some r ∧ t.flag CAL_STATUS_BUSY = true
       else t.cal.accepted = s.cal.accepted ∧ t.flag CAL_STATUS_BUSY = false ∧ Logged t EV_CAL_IMPORT_REFUSED
         ∧ t.rd CAL_ERR = BitVec.ofNat 32 ((s.recordCode r).1 * 2 ^ 24 + (s.recordCode r).2 % 2 ^ 16))) ∧
  (∀ (r : List Word) (s : State), s.pwr.coreInReset = false → s.cal.accepted = some r → s.grid.running = true →
    Gives .calImportApply s fun t => t.cal = { s.cal with accepted := none, due := some r } ∧ t.flag CAL_STATUS_IMPORTED = true
      ∧ t.flag CAL_STATUS_DIRTY = false ∧ t.flag CAL_STATUS_BUSY = false ∧ t.rd CAL_EXPORT_EPOCH = t.rd CAL_EPOCH
      ∧ t.rd CAL_EPOCH = BitVec.ofNat 32 (max (s.rdN CAL_EPOCH) (nth 0 r 2).toNat + 1) ∧ Logged t EV_CAL_IMPORT_DONE
      ∧ Kept s t [CAL_EPOCH, CAL_EXPORT_EPOCH, CAL_STATUS]) ∧
  (∀ (s : State), s.pwr.coreInReset = false → Gives .referenceTrimUpdate s fun t => t.adc.trimNext.isSome = true
    ∧ t.freeCount = s.freeCount + 1 ∧ t.adc.trim = s.adc.trim ∧ t.now = max s.now (s.thm.trimAt + 2560000000) ∧ Kept s t [])

/-- A LOAD or UNWRAP that no rule refuses takes SEC_KEY_DATA as its material, empties it and shows BUSY. A command that a rule refuses sets
ERROR to the first code that applies, raises SEC_KEY_ERROR and changes no key. ZERO clears the slot, with what is pending, at once. OP 3 is
refused with 0x9, or with 0x7 while BUSY. A LOAD ends 2 µs and an UNWRAP 10 µs after its command, the latest instants that R342 allows (log
entry 159): a key of slot 0 or 1 is then pending and the key in force stays; a key of slot 3 is valid at once; an UNWRAP whose check fails
ends with ERROR 0x2. Under the hypotheses given, on the state and the operands alone, exec answers a next state for keyLoadOperation,
keyUnwrapOperation, keyZeroOperation, keyOpInvalid, keyOperationDone. (R341, R342, R343, R344, R345.) -/
def Obligations.KeyOperations : Prop :=
  let Open := fun (s : State) => s.fld SEC_BOOT_RESULT = 0 ∨ s.fwRuns = true
  let Fails := fun (s u : State) (c : Nat) => u.fld SEC_KEY_STATUS_ERROR = c ∧ u.has EV_SEC_KEY_ERROR = true ∧ u.sec.keys = s.sec.keys
    ∧ u.sec.pendingKeys = s.sec.pendingKeys ∧ u.sec.busyOp = s.sec.busyOp.map (fun o => { o with passed := true }) ∧ u.sec.keyData = []
  (∀ (b : Option Port) (slot : Fin 4) (s : State), ReachesSec s b SEC_KEY_CMD → Open s → s.keyCmdCode 0 slot b.isSome = 0 →
    Does (.keyLoadOperation b slot) s fun u => u.flag SEC_KEY_STATUS_BUSY = true ∧ u.sec.keyData = []
      ∧ u.sec.busyOp = some ⟨0, slot, s.keyMaterial (if slot = 2 then 24 else 8), u.now, false⟩ ∧ u.sec.keys = s.sec.keys) ∧
  (∀ (b : Option Port) (slot : Fin 4) (s : State), ReachesSec s b SEC_KEY_CMD → Open s → s.keyCmdCode 1 slot b.isSome = 0 →
    Does (.keyUnwrapOperation b slot) s fun u => u.flag SEC_KEY_STATUS_BUSY = true ∧ u.sec.keyData = []
      ∧ u.sec.busyOp = some ⟨1, slot, s.keyMaterial 10, u.now, false⟩ ∧ u.sec.keys = s.sec.keys) ∧
  (∀ (b : Option Port) (slot : Fin 4) (s : State), ReachesSec s b SEC_KEY_CMD → Open s →
    (s.keyCmdCode 0 slot b.isSome ≠ 0 → Does (.keyLoadOperation b slot) s fun u => Fails s u (s.keyCmdCode 0 slot b.isSome))
      ∧ (s.keyCmdCode 1 slot b.isSome ≠ 0 → Does (.keyUnwrapOperation b slot) s fun u => Fails s u (s.keyCmdCode 1 slot b.isSome))
      ∧ (s.keyCmdCode 2 slot b.isSome ≠ 0 → Does (.keyZeroOperation b slot) s fun u => Fails s u (s.keyCmdCode 2 slot b.isSome))
      ∧ Does (.keyOpInvalid b slot) s fun u => Fails s u (if s.flag SEC_KEY_STATUS_BUSY then 7 else 9)) ∧
  (∀ (b : Option Port) (slot : Fin 4) (s : State), ReachesSec s b SEC_KEY_CMD → Open s → s.keyCmdCode 2 slot b.isSome = 0 →
    Does (.keyZeroOperation b slot) s fun u => u.key slot = [] ∧ tabGet [] u.sec.pendingKeys slot = [] ∧ u.keyValid slot = false
      ∧ u.bit SEC_KEY_STATUS (16 + slot) = false ∧ u.rd (SEC_KEY_KCV slot) = 0 ∧ u.fld SEC_KEY_STATUS_ERROR = 0
      ∧ ∀ n, n ≠ slot.val → u.key n = s.key n) ∧
  (∀ (slot : Fin 2) (m : List Byte) (t0 : Nat) (refused : Bool) (s : State), s.pwr.coreInReset = false →
    s.sec.busyOp = some ⟨0, slot, m, t0, refused⟩ →
    Does .keyOperationDone s fun u => u.sec.busyOp = none ∧ u.flag SEC_KEY_STATUS_BUSY = false ∧ tabGet [] u.sec.pendingKeys slot = m
      ∧ u.now = max s.now (t0 + 512000) ∧ u.fld SEC_KEY_STATUS_ERROR = (if refused then s.fld SEC_KEY_STATUS_ERROR else 0)
      ∧ u.bit SEC_KEY_STATUS (16 + slot) = true ∧ u.sec.keys = s.sec.keys ∧ u.has EV_SEC_KEY_LOADED = true) ∧
  (∀ (m : List Byte) (t0 : Nat) (refused : Bool) (s : State), s.pwr.coreInReset = false → s.sec.busyOp = some ⟨0, 3, m, t0, refused⟩ →
    Does .keyOperationDone s fun u => u.sec.busyOp = none ∧ u.key 3 = m ∧ u.keyValid 3 = true ∧ u.has EV_SEC_KEY_LOADED = true
      ∧ u.now = max s.now (t0 + 512000) ∧ ∀ n, n ≠ 3 → u.key n = s.key n) ∧
  (∀ (slot : Nat) (m : List Byte) (t0 : Nat) (s : State), s.pwr.coreInReset = false → s.sec.busyOp = some ⟨1, slot, m, t0, false⟩ →
    keyUnwrap (s.key 3) m = none →
    Does .keyOperationDone s fun u => u.sec.busyOp = none ∧ u.fld SEC_KEY_STATUS_ERROR = 2 ∧ u.has EV_SEC_KEY_ERROR = true
      ∧ u.now = max s.now (t0 + 2560000))

/-- A source that is not standing is logged with its detail at the log's next entry, counted and then stands; one that stands changes nothing
until it has cleared. Two mesh bits in a row that differ, a case open for 1 ms, a supply outside its window for 5 ns and a clock period
outside its bounds are sources; glitches are seen only while armed, and not where a power-fail of 1 µs drops the report. A JTAG instruction
is loaded, but EXTEST, CLAMP and HIGHZ while a key is valid load BYPASS and are logged as source 5. With a response of red card, no key is
left in any slot and SEC_RED_CARD is raised. Under the hypotheses given, on the state and the operands alone, exec answers a next state for
meshMismatch, caseOpen, voltageGlitch, clockGlitch, tamperSourceCleared, jtagInstructionLoad. (R346, R347, R348, R349, R355, R451, R488.) -/
def Obligations.TamperIsLoggedAndAnswered : Prop :=
  let Outside := fun (vcore vio : BitVec 12) => 2 * b2n (decide (vio.toNat < 1450) || decide (2150 < vio.toNat))
    + b2n (decide (vcore.toNat < 600) || decide (950 < vcore.toNat))
  let Entry := fun (s t : State) (src detail : Nat) => t.rd (SEC_TLOG (s.fld SEC_TLOG_HEAD_NEXT) 3) = BitVec.ofNat 32 detail
    ∧ t.rd (SEC_TLOG (s.fld SEC_TLOG_HEAD_NEXT) 0) = BitVec.ofNat 32 (s.fld SEC_TLOG_HEAD_TOTAL * 65536 + s.respLevel src * 256 + src)
    ∧ t.fld SEC_TLOG_HEAD_NEXT = (s.fld SEC_TLOG_HEAD_NEXT + 1) % 16 ∧ t.fld (SEC_TCOUNT_V src) = min 65535 (s.fld (SEC_TCOUNT_V src) + 1)
  (∀ (n : Nat) (d q : BitVec 2) (s : State), s.pwr.coreInReset = false → 0 ∉ s.sec.standing → d ^^^ q = 3 →
    Gives (.meshMismatch n d q) s fun t => Entry s t 0 (n % 2 ^ 32) ∧ t.sec.standing = s.sec.standing ++ [0]
      ∧ t.now = max s.now (s.sec.meshAt + 256000 * n)) ∧
  (∀ (n : Nat) (d q : BitVec 2) (s : State), (0 ∈ s.sec.standing ∨ d ^^^ q ≠ 3) →
    Gives (.meshMismatch n d q) s fun t => t.sec.standing = s.sec.standing ∧ Kept s t []) ∧
  (∀ (t0 : Nat) (s : State), s.pwr.coreInReset = false → 1 ∉ s.sec.standing →
    Gives (.caseOpen t0) s fun t => Entry s t 1 0 ∧ t.sec.standing = s.sec.standing ++ [1] ∧ t.now = max s.now (t0 + 256000000)) ∧
  (∀ (t0 dur failed : Nat) (vcore vio : BitVec 12) (s : State), s.pwr.coreInReset = false → s.glitchArmed = true → 2 ∉ s.sec.standing →
    1280 ≤ dur → failed < 256000 → Outside vcore vio ≠ 0 →
    Gives (.voltageGlitch t0 dur failed vcore vio) s fun t => Entry s t 2 (Outside vcore vio) ∧ t.sec.standing = s.sec.standing ++ [2]) ∧
  (∀ (t0 : Nat) (period : Option Nat) (s : State), s.pwr.coreInReset = false → s.glitchArmed = true → 3 ∉ s.sec.standing →
    (∀ x, period = some x → x < 1920 ∨ 3200 < x) →
    Gives (.clockGlitch t0 period) s fun t => Entry s t 3 (match period with | none => 4 | some x => if x < 1920 then 1 else 2)
      ∧ t.sec.standing = s.sec.standing ++ [3]) ∧
  (∀ (t0 dur failed : Nat) (vcore vio : BitVec 12) (s : State),
    (dur < 1280 ∨ 256000 ≤ failed ∨ Outside vcore vio = 0 ∨ s.glitchArmed = false ∨ 2 ∈ s.sec.standing) →
    Gives (.voltageGlitch t0 dur failed vcore vio) s fun t => t.sec.standing = s.sec.standing ∧ Kept s t []) ∧
  (∀ (t0 : Nat) (s : State), 1 ∈ s.sec.standing → Gives (.caseOpen t0) s fun t => t.sec.standing = s.sec.standing ∧ Kept s t []) ∧
  (∀ (src : Fin 9) (t0 : Nat) (s : State), Gives (.tamperSourceCleared src t0) s fun t =>
    t.sec.standing = s.sec.standing.filter (fun x => x ≠ src.val) ∧ t.now = max s.now (t0 + 256000000) ∧ Kept s t []) ∧
  (∀ (i : JtagInstr) (code : BitVec 8) (s : State), (i = .bypass ∨ i = .sample ∨ i = .preload ∨ i = .idcode ∨
      (s.fld SEC_KEY_STATUS_VALID = 0 ∧ s.flag EMT_CHAIN_RUN = false)) →
    Gives (.jtagInstructionLoad i code) s fun t => t.sec.jtag = i ∧ Kept s t []) ∧
  (∀ (i : JtagInstr) (code : BitVec 8) (s : State), (i = .extest ∨ i = .clamp ∨ i = .highz) → s.fld SEC_KEY_STATUS_VALID ≠ 0 →
    Gives (.jtagInstructionLoad i code) s fun t => t.sec.jtag = .bypass ∧ Entry s t 5 code.toNat) ∧
  (∀ (n : Nat) (d q : BitVec 2) (s : State), s.pwr.coreInReset = false → s.pwr.emissionInReset = false → 0 ∉ s.sec.standing →
    s.emt.redCard = false → d ^^^ q = 3 → 2 ≤ s.respLevel 0 →
    Does (.meshMismatch n d q) s fun u => u.emt.redCard = true ∧ u.flag SEC_STATUS_RED_CARD = true ∧ u.has EV_SEC_RED_CARD = true
      ∧ u.sec.busyOp = none ∧ ∀ slot < 4, u.key slot = [] ∧ u.keyValid slot = false)

/-- A change of the lands towards not permitting acts after the glitch filter of 100 ns, one towards permitting only at the end of HOLD, counted
from the change. Lands that agree for more than 1 ms latch a discrepancy and raise ILK_DISCREPANCY; it is cleared only while they are
complementary. A land held against its drive for more than 2 µs latches a pin mismatch, clears EMT_ARM and raises SEC_PIN_MISMATCH; it is
cleared once the lands are released. A lock write sets its lock, shows it in SEC_STATUS and leaves the other locks as they were. A response
write with a level of 3 changes nothing; otherwise each response takes the level written, but one that RESP_LOCK keeps from falling. Under
the hypotheses given, on the state and the operands alone, exec answers a next state for interlockInputChange, interlockHoldExpiry,
interlockDiscrepancy, discrepancyClear, pinMismatch, pinMismatchClear, secCfgPlainOff, secCfgKkeyLock, secCfgRespLock, secRespWrite. (R345,
R347, R351, R353, R354.) -/
def Obligations.InterlockAndPins : Prop :=
  (
  (∀ (t0 : Nat) (a b : Bool) (s : State),
    let at_ := if (s.sec.ilkA && !a) || (!s.sec.ilkB && b) then t0 + 25600 else t0
    Gives (.interlockInputChange t0 a b) s fun t => t.sec.ilkA = a ∧ t.sec.ilkB = b ∧ t.now = max s.now at_
      ∧ t.sec.permitting = (s.sec.permitting && a && !b) ∧ t.sec.discrepancy = s.sec.discrepancy
      ∧ t.sec.ilkSince = (if a && !b then some (s.sec.ilkSince.getD t0) else none)
      ∧ t.sec.agreeSince = (if a = b then some (s.sec.agreeSince.getD t0) else none) ∧ Kept s t []) ∧
  (∀ (t0 : Nat) (s : State), s.pwr.coreInReset = false → s.sec.ilkSince = some t0 →
    Gives .interlockHoldExpiry s fun t => t.sec.permitting = true ∧ t.now = max s.now (t0 + 25600000 * s.fld SEC_ILK_CFG_HOLD) ∧ Kept s t []) ∧
  (∀ (s : State), s.sec.ilkSince = none →
    Gives .interlockHoldExpiry s fun t => t.sec.permitting = s.sec.permitting ∧ Kept s t []) ∧
  (∀ (t0 : Nat) (s : State), s.pwr.coreInReset = false → s.sec.agreeSince = some t0 → s.sec.discrepancy = false →
    Gives .interlockDiscrepancy s fun t => t.sec.discrepancy = true ∧ t.now = max s.now (t0 + 256000001) ∧ Logged t EV_ILK_DISCREPANCY
      ∧ Kept s t []) ∧
  (∀ (b : Option Port) (s : State), ReachesSec s b SEC_ILK → s.sec.ilkA ≠ s.sec.ilkB →
    Gives (.discrepancyClear b) s fun t => t.sec.discrepancy = false ∧ Kept s t []) ∧
  (∀ (b : Option Port) (s : State), s.sec.ilkA = s.sec.ilkB → s.sec.discrepancy = true →
    Gives (.discrepancyClear b) s fun t => t.sec.discrepancy = true) ∧
  (∀ (t0 : Nat) (level : Bool) (s : State), s.pwr.coreInReset = false → s.sec.pinMismatch = false → level ≠ s.p87 →
    Does (.pinMismatch t0 true level) s fun u => u.sec.pinMismatch = true ∧ u.flag EMT_ARM_ARM = false ∧ u.has EV_SEC_PIN_MISMATCH = true
      ∧ u.now = max (max s.now t0) (s.sec.emitDiffers.getD (max s.now t0) + 512001)) ∧
  (∀ (t0 : Nat) (level : Bool) (s : State), s.pwr.coreInReset = false → s.sec.pinMismatch = false →
    level ≠ ((s.advance t0).anyReset || s.faultCauses ≠ 0) →
    Does (.pinMismatch t0 false level) s fun u => u.sec.pinMismatch = true ∧ u.flag EMT_ARM_ARM = false ∧ u.has EV_SEC_PIN_MISMATCH = true) ∧
  (∀ (t0 : Nat) (s : State),
    Does (.pinMismatch t0 true s.p87) s fun u => u.sec.pinMismatch = s.sec.pinMismatch ∧ u.flag EMT_ARM_ARM = s.flag EMT_ARM_ARM) ∧
  (∀ (b : Option Port) (s : State), ReachesSec s b SEC_PIN_CLEAR →
    Gives (.pinMismatchClear b true) s fun t => t.sec.pinMismatch = false ∧ t.sec.emitHeld = none ∧ t.sec.faultHeld = none ∧ Kept s t []) ∧
  (∀ (b : Option Port) (s : State), ReachesSec s b SEC_PIN_CLEAR → s.landsMatch = false →
    Gives (.pinMismatchClear b false) s fun t => t.sec.pinMismatch = s.sec.pinMismatch ∧ Kept s t [])
  ) ∧
  (
  (∀ (b : Option Port) (s : State), ReachesSec s b SEC_CFG →
    Gives (.secCfgPlainOff b) s fun t => t.flag SEC_CFG_PLAIN_OFF = true ∧ t.flag SEC_STATUS_PLAIN_OFF = true
      ∧ t.flag SEC_CFG_KKEY_LOCK = s.flag SEC_CFG_KKEY_LOCK ∧ t.flag SEC_CFG_RESP_LOCK = s.flag SEC_CFG_RESP_LOCK ∧ Kept s t [SEC_CFG, SEC_STATUS]) ∧
  (∀ (b : Option Port) (s : State), ReachesSec s b SEC_CFG →
    Gives (.secCfgKkeyLock b) s fun t => t.flag SEC_CFG_KKEY_LOCK = true ∧ t.flag SEC_STATUS_KKEY_LOCK = true
      ∧ t.flag SEC_CFG_PLAIN_OFF = s.flag SEC_CFG_PLAIN_OFF ∧ t.flag SEC_CFG_RESP_LOCK = s.flag SEC_CFG_RESP_LOCK ∧ Kept s t [SEC_CFG, SEC_STATUS]) ∧
  (∀ (b : Option Port) (s : State), ReachesSec s b SEC_CFG →
    Gives (.secCfgRespLock b) s fun t => t.flag SEC_CFG_RESP_LOCK = true ∧ t.flag SEC_STATUS_RESP_LOCK = true
      ∧ t.flag SEC_CFG_PLAIN_OFF = s.flag SEC_CFG_PLAIN_OFF ∧ t.flag SEC_CFG_KKEY_LOCK = s.flag SEC_CFG_KKEY_LOCK ∧ Kept s t [SEC_CFG, SEC_STATUS]) ∧
  (∀ (b : Option Port) (v : BitVec 18) (s : State), ReachesSec s b SEC_RESP → (∀ k < 9, v.toNat / 4 ^ k % 4 ≠ 3) →
    Gives (.secRespWrite b v) s fun t => (∀ k < 9, t.respLevel k
        = (if s.flag SEC_CFG_RESP_LOCK then max (s.respLevel k) (v.toNat / 4 ^ k % 4) else v.toNat / 4 ^ k % 4)) ∧ Kept s t [SEC_RESP]) ∧
  (∀ (b : Option Port) (v : BitVec 18) (k : Nat) (s : State), ReachesSec s b SEC_RESP → k < 9 → v.toNat / 4 ^ k % 4 = 3 →
    Gives (.secRespWrite b v) s fun t => Kept s t [])
  )

/-- A read of a port out of service is answered Unsupported Request; of a block in reset, 0. A read by the port that holds the group of an RC
register answers its value and clears it, and by another port clears nothing. A read of a low half answers it and latches the high half for
the port, and the read of the high half then answers the latched value once. GLB_FRAME latches GLB_LINE and IMG_APPLIED_FRAME latches
IMG_GEN; ISP_STAT_INFO and ADC_SEQ_NUM select the set published last; FLT_PEAK restarts its detectors. A malformed access is counted for its
port. Under the hypotheses given, on the state and the operands alone, exec answers a next state for rcRead, lowHalfRead, malformedAccess,
glbFrameRead, imgAppliedFrameRead, ispStatInfoRead, adcSeqNumRead, fltPeakRead. (R15, R17, R18, R218, R238, R267, R283, R359, R360, R361,
R452, R465.) -/
def Obligations.HostReads : Prop :=
  let Answers := fun (t : State) (p : Port) (w : Word) => (t.port (pix p)).answer = .data w
  (∀ (p : Port) (off : BitVec 26) (s : State), s.portSilent p = true →
    Gives (.rcRead p off) s fun t => (t.port (pix p)).answer = .unsupported ∧ Kept s t []) ∧
  (∀ (p : Port) (off : BitVec 26) (s : State), s.portSilent p = false → s.blkInReset (tableOff off.toNat) = true →
    Gives (.rcRead p off) s fun t => Answers t p 0 ∧ Kept s t []) ∧
  (∀ (p : Port) (off : BitVec 26) (m : Nat) (s : State), Readable s p off.toNat → accOf off.toNat = some (.rc, m) →
    otherView off.toNat = false → s.computed (pix p) off.toNat = none → s.possesses p off.toNat = true →
    Does (.rcRead p off) s fun u => Answers u p (s.rd (viewKey (pix p) off.toNat)) ∧ u.rd (viewKey (pix p) off.toNat) = 0) ∧
  (∀ (p : Port) (off : BitVec 26) (m : Nat) (s : State), Readable s p off.toNat → accOf off.toNat = some (.rc, m) →
    otherView off.toNat = false → s.computed (pix p) off.toNat = none → s.possesses p off.toNat = false →
    Gives (.rcRead p off) s fun t => Answers t p (s.rd (viewKey (pix p) off.toNat)) ∧ Kept s t []) ∧
  (∀ (p : Port) (off : BitVec 26) (h : Nat) (s : State), Readable s p off.toNat → latchPairs off.toNat = some h → 0x20000 ≤ off.toNat →
    Gives (.lowHalfRead p off) s fun t => Answers t p (s.view (pix p) off.toNat)
      ∧ tabGet 0 (t.port (pix p)).latches h = s.view (pix p) h ∧ ((∀ m, accOf off.toNat ≠ some (.rc, m) ∧ accOf off.toNat ≠ some (.rt, m)) → Kept s t [])) ∧
  (∀ (p : Port) (off : BitVec 26) (w : Word) (s : State), s.portSilent p = false → s.blkInReset (tableOff off.toNat) = false →
    0x20000 ≤ off.toNat → (s.port (pix p)).latches = [(off.toNat, w)] →
    Gives (.rcRead p off) s fun t => Answers t p w ∧ (t.port (pix p)).latches = [] ∧ Kept s t []) ∧
  (∀ (p : Port) (w : Bool) (s : State), s.portSilent p = false → s.pwr.coreInReset = false →
    let f := match p with | .a => POS_ACC_ERR_PORT_A | .b => POS_ACC_ERR_PORT_B
    Gives (.malformedAccess p w) s fun t => t.fld f = min 65535 (s.fld f + 1) ∧ (w = false → (t.port (pix p)).answer = .unsupported)
      ∧ Kept s t [POS_ACC_ERR]) ∧
  (∀ (p : Port) (s : State), Readable s p GLB_FRAME → Gives (.glbFrameRead p) s fun t => Answers t p (s.rd GLB_FRAME)
    ∧ tabGet 0 (t.port (pix p)).latches GLB_LINE = s.view (pix p) GLB_LINE ∧ Kept s t []) ∧
  (∀ (p : Port) (s : State), Readable s p IMG_APPLIED_FRAME → Gives (.imgAppliedFrameRead p) s fun t => Answers t p (s.rd IMG_APPLIED_FRAME)
    ∧ tabGet 0 (t.port (pix p)).latches IMG_GEN = s.rd IMG_GEN ∧ Kept s t []) ∧
  (∀ (p : Port) (s : State), Readable s p ISP_STAT_INFO → Gives (.ispStatInfoRead p) s fun t => Answers t p (s.rd ISP_STAT_INFO)
    ∧ (t.port (pix p)).statSel = s.isp.published.getLast?.map (fun x => x.id) ∧ Kept s t []) ∧
  (∀ (p : Port) (s : State), Readable s p ADC_SEQ_NUM → Gives (.adcSeqNumRead p) s fun t => Answers t p (s.rd ADC_SEQ_NUM)
    ∧ (t.port (pix p)).adcSel = s.adc.kept.head?.map (fun x => x.seq) ∧ Kept s t []) ∧
  (∀ (p : Port) (j : Fin 12) (s : State), Readable s p (FLT_PEAK j) → s.possesses p (FLT_PEAK j) = true →
    Gives (.fltPeakRead p j) s fun t => Answers t p (s.rd (FLT_PEAK j)) ∧ t.rd (FLT_PEAK j) = 0x80007FFF ∧ t.rd (FLT_RMS j) = 0
      ∧ t.rd (FLT_ENV j) = 0 ∧ Kept s t [FLT_PEAK j, FLT_RMS j, FLT_ENV j])

/-- A write of a register whose group the port does not hold, or that belongs to Priard while it runs, changes nothing but the record of blocked
writes, and raises BLOCKED_WRITE; one that is allowed is stored. A read of a free group makes the reader its holder; a group held stays with
its holder; of two reads in one cycle the port that NEXT names wins, and NEXT toggles. A release by another port changes nothing. Under the
hypotheses given, on the state and the operands alone, exec answers a next state for registerWrite, possessionAcquire, possessionRelease.
(R361, R364, R365, R401, R452.) -/
def Obligations.HostWritesAreGated : Prop :=
  let Blocked := fun (s t : State) (p : Port) (reason off : Nat) => t.rd POS_BLK_INFO
      = BitVec.ofNat 32 (2 ^ 31 + reason * 2 ^ 29 + pix p * 2 ^ 28 + off) ∧ Logged t EV_BLOCKED_WRITE ∧ Kept s t [POS_BLK_INFO, POS_BLK_COUNT]
  (∀ (p : Port) (off : BitVec 26) (v : Word) (c : RearmChecks) (f : Option (BitVec 384)) (s : State), s.portSilent p = true →
    Gives (.registerWrite p off v c f) s fun t => Kept s t []) ∧
  (∀ (p : Port) (off : BitVec 26) (v : Word) (c : RearmChecks) (f : Option (BitVec 384)) (s : State), s.portSilent p = false →
    s.blkInReset off.toNat = false → s.possesses p off.toNat = false →
    Gives (.registerWrite p off v c f) s fun t => Blocked s t p 1 off.toNat) ∧
  (∀ (p : Port) (off : BitVec 26) (v : Word) (c : RearmChecks) (f : Option (BitVec 384)) (s : State), Reaches s p off.toNat →
    fwOwned off.toNat v = true → s.fwRuns = true → Gives (.registerWrite p off v c f) s fun t => Blocked s t p 2 off.toNat) ∧
  (∀ (p : Port) (n : Fin 32) (v : Word) (c : RearmChecks) (f : Option (BitVec 384)) (s : State), Reaches s p (BGT_CLASS n) →
    Gives (.registerWrite p (BitVec.ofNat 26 (BGT_CLASS n)) v c f) s fun t => t.rd (BGT_CLASS n) = s.stored (BGT_CLASS n) v
      ∧ Kept s t [BGT_CLASS n]) ∧
  (∀ (p : Port) (g : Fin 16) (s : State), s.portSilent p = false → s.pwr.coreInReset = false → s.holder g = none →
    Gives (.possessionAcquire (.one p) g) s fun t => t.holder g = some (pix p)
      ∧ (t.port (pix p)).answer = .data (BitVec.ofNat 32 (2 ^ 30 + pix p * 2 ^ 24)) ∧ Kept s t [POS_PEEK g]) ∧
  (∀ (p : Port) (g : Fin 16) (h : Nat) (s : State), s.portSilent p = false → s.pwr.coreInReset = false → s.holder g = some h →
    Gives (.possessionAcquire (.one p) g) s fun t => t.holder g = some h
      ∧ (t.port (pix p)).answer = .data (BitVec.ofNat 32 (if h = pix p then 2 ^ 30 + 2 ^ 29 + h * 2 ^ 24 else 2 ^ 31 + h * 2 ^ 24))
      ∧ Kept s t []) ∧
  (∀ (g : Fin 16) (s : State), s.portSilent .a = false → s.portSilent .b = false → s.pwr.coreInReset = false → s.holder g = none →
    Gives (.possessionAcquire .both g) s fun t => t.holder g = some (s.fld POS_TIE_NEXT) ∧ t.fld POS_TIE_NEXT = 1 - s.fld POS_TIE_NEXT
      ∧ Kept s t [POS_PEEK g, POS_TIE]) ∧
  (∀ (p : Port) (g : Fin 16) (s : State), Reaches s p (POS_GRP g) → s.holder g = some (pix p) →
    Gives (.possessionRelease p g) s fun t => t.holder g = none ∧ Kept s t [POS_PEEK g]) ∧
  (∀ (p : Port) (g : Fin 16) (s : State), s.holder g ≠ some (pix p) →
    Gives (.possessionRelease p g) s fun t => t.holder g = s.holder g)

/-- A reset of a port in service takes it out of service for 10 µs at least, frees every group it holds, clears its latches and raises
PORT_DOWN; PORT_UP brings it back once every cause has ended, with PORT_UP raised. A write by Port A through BAR2 stores its bytes, at most
the 512 of a transfer and inside the window, and no other; one into a protected region stores none and is blocked with reason 3; LPDDR5X
takes none before DDR_READY. Under the hypotheses given, on the state and the operands alone, exec answers a next state for portReset,
portUp, bar2Write. (R359, R363, R381, R386, R449.) -/
def Obligations.PortsAndFieldMemory : Prop :=
  (∀ (p : Port) (c : PortCause) (s : State), s.portInReset (pix p) = false → (s.port (pix p)).down = false →
    Gives (.portReset p c) s fun t => (t.port (pix p)).down = true ∧ (t.port (pix p)).resetUntil = s.now + 2560000
      ∧ (t.port (pix p)).latches = [] ∧ (∀ g < 16, t.holder g ≠ some (pix p)) ∧ Logged t EV_PORT_DOWN
      ∧ (∀ g < 16, s.holder g ≠ some (pix p) → t.holder g = s.holder g)) ∧
  (∀ (p : Port) (c : PortCause) (s : State), (s.portInReset (pix p) = true ∨ (s.port (pix p)).down = true) →
    Gives (.portReset p c) s fun t => Kept s t [] ∧ (t.port (pix p)).down = (s.port (pix p)).down) ∧
  (∀ (p : Port) (s : State), s.portInReset (pix p) = false → (s.port (pix p)).down = true → (s.port (pix p)).perstLow = false →
    Gives (.portUp p) s fun t => (t.port (pix p)).down = false ∧ t.now = max s.now (s.port (pix p)).resetUntil ∧ Logged t EV_PORT_UP
      ∧ Kept s t []) ∧
  (∀ (p : Port) (s : State), (s.port (pix p)).perstLow = true →
    Gives (.portUp p) s fun t => (t.port (pix p)).down = (s.port (pix p)).down ∧ Kept s t []) ∧
  (∀ (off : BitVec 34) (b : List Byte) (s : State), s.portSilent .a = false → s.pwr.coreInReset = false →
    (off.toNat < 0x4000000 ∨ (0x100000000 ≤ off.toNat ∧ off.toNat < 0x300000000 ∧ s.pwr.ddrReady = true)) → s.bar2Protected off.toNat = false →
    Gives (.bar2Write off b) s fun t => (∀ a, memRead t.mem a
        = if off.toNat ≤ a ∧ a < off.toNat + min b.length (min 512 ((if off.toNat < 0x4000000 then 0x4000000 else 0x300000000) - off.toNat)) then nth 0 b (a - off.toNat) else memRead s.mem a)
      ∧ (∀ k, settleKey k = false → t.rd k = s.rd k) ∧ t.inForce = s.inForce ∧ t.pending = s.pending) ∧
  (∀ (off : BitVec 34) (b : List Byte) (s : State), s.portSilent .a = false → s.pwr.coreInReset = false →
    (off.toNat < 0x4000000 ∨ (0x100000000 ≤ off.toNat ∧ off.toNat < 0x300000000 ∧ s.pwr.ddrReady = true)) → s.bar2Protected off.toNat = true →
    Gives (.bar2Write off b) s fun t => t.mem = s.mem ∧ t.poison = s.poison ∧ Logged t EV_BLOCKED_WRITE
      ∧ t.rd POS_BLK_INFO = BitVec.ofNat 32 (2 ^ 31 + 3 * 2 ^ 29 + off.toNat / 256 % 2 ^ 26) ∧ Kept s t [POS_BLK_INFO, POS_BLK_COUNT]) ∧
  (∀ (off : BitVec 34) (b : List Byte) (s : State), 0x100000000 ≤ off.toNat → s.pwr.ddrReady = false →
    Gives (.bar2Write off b) s fun t => t.mem = s.mem ∧ Kept s t [])

/-- A TAIL below the queue's size is stored, another raises DMA_DESC_ERROR. Enable and disable set ENABLE and STATE, but STATE stays while a
descriptor is in progress; a reset empties the queue, or waits for the descriptor in progress. An item takes the descriptor at HEAD of an
open queue, or is missed and counted. A descriptor that completes writes the data and the completion word, advances HEAD and shows status 0;
a PCIe error puts the queue in ERROR; a waiting reset follows. Under the hypotheses given, on the state and the operands alone, exec answers
a next state for dmaTailWrite, dmaQueueEnable, dmaQueueDisable, dmaQueueReset, dmaItemReady, dmaDescriptorComplete. (R367, R368, R369, R370,
R371, R372.) -/
def Obligations.DmaQueues : Prop :=
  let Idle := fun (s : State) (p : Port) (q : Fin 32) => s.queueBusy (pix p) q = false
  (∀ (p : Port) (q : Fin 32) (v : BitVec 16) (s : State), s.portSilent p = false → v.toNat < s.queueSize (pix p) q →
    Gives (.dmaTailWrite p q v) s fun t => t.fld (DMA_Q_TAIL_V (pix p) q) = v.toNat ∧ Kept s t [DMA_Q_TAIL (pix p) q]) ∧
  (∀ (p : Port) (q : Fin 32) (v : BitVec 16) (s : State), s.portSilent p = false → s.queueSize (pix p) q ≤ v.toNat →
    Gives (.dmaTailWrite p q v) s fun t => Logged t EV_DMA_DESC_ERROR ∧ Kept s t []) ∧
  (∀ (p : Port) (q : Fin 32) (s : State), s.portSilent p = false → s.fld (DMA_Q_STATUS_STATE (pix p) q) < 2 →
    Gives (.dmaQueueEnable p q) s fun t => t.flag (DMA_Q_CTRL_ENABLE (pix p) q) = true ∧ t.fld (DMA_Q_STATUS_STATE (pix p) q) = 1
      ∧ Kept s t [DMA_Q_CTRL (pix p) q, DMA_Q_STATUS (pix p) q]) ∧
  (∀ (p : Port) (q : Fin 32) (s : State), s.portSilent p = false → ¬Idle s p q →
    Gives (.dmaQueueDisable p q) s fun t => t.flag (DMA_Q_CTRL_ENABLE (pix p) q) = false ∧ t.dma.busy = s.dma.busy
      ∧ t.rd (DMA_Q_STATUS (pix p) q) = s.rd (DMA_Q_STATUS (pix p) q) ∧ Kept s t [DMA_Q_CTRL (pix p) q]) ∧
  (∀ (p : Port) (q : Fin 32) (s : State), s.portSilent p = false → Idle s p q → s.fld (DMA_Q_STATUS_STATE (pix p) q) < 2 →
    Gives (.dmaQueueDisable p q) s fun t => t.flag (DMA_Q_CTRL_ENABLE (pix p) q) = false ∧ t.fld (DMA_Q_STATUS_STATE (pix p) q) = 0
      ∧ Kept s t [DMA_Q_CTRL (pix p) q, DMA_Q_STATUS (pix p) q]) ∧
  (∀ (p : Port) (q : Fin 32) (s : State), s.portSilent p = false → Idle s p q →
    Gives (.dmaQueueReset p q) s fun t => t.fld (DMA_Q_HEAD_V (pix p) q) = 0 ∧ t.fld (DMA_Q_TAIL_V (pix p) q) = 0
      ∧ t.flag (DMA_Q_CTRL_ENABLE (pix p) q) = false ∧ t.fld (DMA_Q_STATUS_STATE (pix p) q) = 0
      ∧ Kept s t [DMA_Q_HEAD (pix p) q, DMA_Q_TAIL (pix p) q, DMA_Q_CTRL (pix p) q, DMA_Q_STATUS (pix p) q]) ∧
  (∀ (p : Port) (q : Fin 32) (s : State), s.portSilent p = false → ¬Idle s p q →
    Gives (.dmaQueueReset p q) s fun t => t.dma.resetWaiting = s.dma.resetWaiting ++ [32 * pix p + q.val] ∧ t.dma.busy = s.dma.busy
      ∧ t.fld (DMA_Q_STATUS_STATE (pix p) q) = 3 ∧ Kept s t [DMA_Q_STATUS (pix p) q]) ∧
  (∀ (p : Port) (q : Fin 32) (d : BitVec 128) (i : DmaItem) (rest : List DmaItem) (addr len : Nat) (irq : Bool) (s : State),
    takeItem (pix p) q s.dma.ready = some (i, rest) → s.queueOpen (pix p) q = true → s.flag (DMA_Q_CFG_DIR (pix p) q) = false →
    readDesc d = (addr, len, irq, true) →
    Gives (.dmaItemReady p q d) s fun t => t.dma.ready = rest ∧ t.dma.busy = tabPut s.dma.busy (32 * pix p + q.val) ⟨i, addr, len, irq⟩
      ∧ Kept s t []) ∧
  (∀ (p : Port) (q : Fin 32) (d : BitVec 128) (i : DmaItem) (rest : List DmaItem) (s : State), Idle s p q →
    takeItem (pix p) q s.dma.ready = some (i, rest) → (s.queueOpen (pix p) q = false ∨ s.flag (DMA_Q_CFG_DIR (pix p) q) = true) →
    Gives (.dmaItemReady p q d) s fun t => t.dma.ready = rest ∧ t.dma.busy = s.dma.busy
      ∧ t.rd (DMA_Q_MISS (pix p) q) = s.rd (DMA_Q_MISS (pix p) q) + 1) ∧
  (∀ (p : Port) (q : Fin 32) (b : DmaBusy) (s : State), s.dma.busy = [(32 * pix p + q.val, b)] → b.item.data.length ≤ b.length →
    b.irq = false → s.dma.resetWaiting = [] → s.queueSize (pix p) q ≤ 65536 →
    let head := s.fld (DMA_Q_HEAD_V (pix p) q)
    Does (.dmaDescriptorComplete p q false) s fun u => u.dma.busy = [] ∧ u.fld (DMA_Q_HEAD_V (pix p) q) = (head + 1) % s.queueSize (pix p) q
      ∧ u.fld (DMA_Q_STATUS_LAST_STATUS (pix p) q) = 0
      ∧ u.host = s.host ++ [.write (pix p) b.addr b.item.data, .write (pix p)
          (s.rdN (DMA_Q_BASE_HI (pix p) q) * 2 ^ 32 + s.rdN (DMA_Q_BASE_LO (pix p) q) + 16 * head + 12) (leBytes 4 (2 ^ 31 + b.item.data.length))]) ∧
  (∀ (p : Port) (q : Fin 32) (b : DmaBusy) (s : State), s.dma.busy = [(32 * pix p + q.val, b)] → s.dma.resetWaiting = [] →
    Gives (.dmaDescriptorComplete p q true) s fun t => t.dma.busy = [] ∧ t.fld (DMA_Q_STATUS_STATE (pix p) q) = 2
      ∧ t.fld (DMA_Q_STATUS_LAST_STATUS (pix p) q) = 4 ∧ t.fld (DMA_Q_STATUS_ERR_INDEX (pix p) q) = s.fld (DMA_Q_HEAD_V (pix p) q)
      ∧ Logged t EV_DMA_HOST_ERROR) ∧
  (∀ (p : Port) (q : Fin 32) (b : DmaBusy) (e : Bool) (s : State), s.dma.busy = [(32 * pix p + q.val, b)] →
    s.dma.resetWaiting = [32 * pix p + q.val] →
    Gives (.dmaDescriptorComplete p q e) s fun t => t.dma.busy = [] ∧ t.dma.resetWaiting = [] ∧ t.fld (DMA_Q_HEAD_V (pix p) q) = 0
      ∧ t.fld (DMA_Q_TAIL_V (pix p) q) = 0 ∧ t.fld (DMA_Q_STATUS_STATE (pix p) q) = 0)

/-- A ring that is enabled starts empty: WR at index 0 with phase 1, RD and SEQ at 0, with the size written where it is legal. A read index is
stored and arms every enabled group. A mask is stored. An entry holds the source, the phase, the sequence number, the device time and the
INFO word, and takes the next place of the ring; a full ring loses it and counts it. Under the hypotheses given, on the state and the
operands alone, exec answers a next state for eventRingEnable, eventReadIndexWrite, eventMaskWrite. (R373, R374, R375, R376, R469.) -/
def Obligations.EventRings : Prop :=
  (∀ (p : Port) (n : BitVec 4) (s : State), s.portSilent p = false → s.flag (EVT_RING_CFG_ENABLE (pix p)) = false →
    Does (.eventRingEnable p n) s fun u => u.flag (EVT_RING_CFG_ENABLE (pix p)) = true ∧ u.rdN (EVT_WR (pix p)) = 0x10000
      ∧ u.rdN (EVT_RD (pix p)) = 0 ∧ u.rdN (EVT_SEQ (pix p)) = 0 ∧ (u.port (pix p)).entries = []
      ∧ u.fld (EVT_RING_CFG_LOG2_ENTRIES (pix p)) = (if n.toNat < 8 then s.fld (EVT_RING_CFG_LOG2_ENTRIES (pix p)) else n.toNat)) ∧
  (∀ (p : Port) (v : BitVec 16) (s : State), s.portSilent p = false →
    Does (.eventReadIndexWrite p v) s fun u => u.rdN (EVT_RD (pix p)) = v.toNat
      ∧ (u.port (pix p)).entries = s.pendingGroups (pix p) (v.toNat % ringSize s (pix p))
      ∧ ∀ g < 11, s.flag (EVT_GRP_VEC_EN (pix p) g) = true → g ∉ s.pendingGroups (pix p) (v.toNat % ringSize s (pix p)) →
          u.flag (EVT_GRP_VEC_ARMED (pix p) g) = true) ∧
  (∀ (p : Port) (w : Fin 8) (v : Word) (s : State), s.portSilent p = false →
    Gives (.eventMaskWrite p w v) s fun t => t.rd (EVT_MASK (pix p) w) = v ∧ Kept s t [EVT_MASK (pix p) w]) ∧
  (∀ (p src : Nat) (info : Word) (s : State), p < 2 → src < 256 → s.flag (EVT_RING_CFG_ENABLE p) = true →
    s.bit (EVT_MASK p (src / 32)) (src % 32) = false →
    let nx := (s.fld (EVT_WR_INDEX p) + 1) % ringSize s p
    (nx ≠ s.fld (EVT_RD_V p) → (s.logEntry p src info).fld (EVT_WR_INDEX p) = nx ∧ (s.logEntry p src info).rd (EVT_SEQ p) = s.rd (EVT_SEQ p) + 1
      ∧ HostMsg.write p (s.rdN (EVT_RING_BASE_HI p) * 2 ^ 32 + s.rdN (EVT_RING_BASE_LO p) + 16 * s.fld (EVT_WR_INDEX p))
          (entryBytes src (s.flag (EVT_WR_PHASE p)) (s.port p).lostPending (s.rdN (EVT_SEQ p)) s.ns info.toNat) ∈ (s.logEntry p src info).host)
      ∧ (nx = s.fld (EVT_RD_V p) → (s.logEntry p src info).host = s.host ∧ ((s.logEntry p src info).port p).lostPending = true
          ∧ (s.logEntry p src info).fld (EVT_LOST_V p) = min (2 ^ 32 - 1) (s.fld (EVT_LOST_V p) + 1)))

/-- With the port in service: the source's status bit is set on that port; where its ring is enabled, the source unmasked and the ring not full,
the entry written carries INFO 0xFFFF_FFFF; no register changes but event registers of that port, the other port's state is as before, and
no source is raised elsewhere. Under the hypotheses given, on the state and the operands alone, exec answers a next state for eventTest.
(R377.) -/
def Obligations.EventTestStaysOnItsPort : Prop :=
  ∀ (p : Port) (src : BitVec 8) (s : State), s.portSilent p = false → Does (.eventTest p src) s fun u =>
    u.bit (EVT_STATUS (pix p) (src.toNat / 32)) (src.toNat % 32) = true
      ∧ (s.flag (EVT_RING_CFG_ENABLE (pix p)) = true → s.bit (EVT_MASK (pix p) (src.toNat / 32)) (src.toNat % 32) = false →
          (s.fld (EVT_WR_INDEX (pix p)) + 1) % ringSize s (pix p) ≠ s.fld (EVT_RD_V (pix p)) →
          HostMsg.write (pix p) (s.rdN (EVT_RING_BASE_HI (pix p)) * 2 ^ 32 + s.rdN (EVT_RING_BASE_LO (pix p)) + 16 * s.fld (EVT_WR_INDEX (pix p)))
            (entryBytes src.toNat (s.flag (EVT_WR_PHASE (pix p))) (s.port (pix p)).lostPending (s.rdN (EVT_SEQ (pix p))) s.ns 0xFFFFFFFF) ∈ u.host)
      ∧ (∀ k, u.rd k ≠ s.rd k → eventKey k = true ∧ k / 0x4000000 = pix p) ∧ u.port (1 - pix p) = s.port (1 - pix p)
      ∧ u = { s with regs := u.regs, host := u.host, portA := u.portA, portB := u.portB }

/-- A header written to an OB that is not FULL stores the payload and the header with a new stamp, sets FULL and shows STATUS 1 with its tag; a
LENGTH above 63 sets no FULL and shows STATUS 3; a write to an OB that is FULL changes nothing but STATUS, which shows 5. A reply fills an
empty IB and raises MBX_FULL, and is ignored while the IB is FULL. A take answers the header and clears FULL, or answers all ones. Under the
hypotheses given, on the state and the operands alone, exec answers a next state for mailboxCommandSend, mailboxReplyPost, mailboxTake.
(R383, R384, R385, R401, R404.) -/
def Obligations.Mailboxes : Prop :=
  (∀ (p : Port) (k : Fin 4) (hdr : Word) (l : List Word) (s : State), s.portSilent p = false →
    s.flag (MBX_OB_STATUS_FULL (pix p) k) = false → hdrLen hdr ≤ 63 → l.length ≤ 63 →
    Gives (.mailboxCommandSend p k hdr l) s fun t => t.flag (MBX_OB_STATUS_FULL (pix p) k) = true ∧ t.fld (MBX_OB_STATUS_STATUS (pix p) k) = 1
      ∧ t.fld (MBX_OB_STATUS_TAG (pix p) k) = hdrTag hdr ∧ t.rd (MBX_OB_HDR (pix p) k) = hdr
      ∧ (∀ i < l.length, t.rd (MBX_OB_DATA (pix p) k (i + 1)) = l.getD i 0)
      ∧ tabGet 0 t.fw.stamps (4 * pix p + k.val) = s.fw.nextStamp ∧ t.fw.nextStamp = s.fw.nextStamp + 1
      ∧ Kept s t ([MBX_OB_STATUS (pix p) k, MBX_OB_HDR (pix p) k] ++ (List.range 63).map (fun i => MBX_OB_DATA (pix p) k (i + 1)))) ∧
  (∀ (p : Port) (k : Fin 4) (hdr : Word) (l : List Word) (s : State), s.portSilent p = false →
    s.flag (MBX_OB_STATUS_FULL (pix p) k) = false → 63 < hdrLen hdr →
    Gives (.mailboxCommandSend p k hdr l) s fun t => t.flag (MBX_OB_STATUS_FULL (pix p) k) = false
      ∧ t.fld (MBX_OB_STATUS_STATUS (pix p) k) = 3 ∧ t.fw.stamps = s.fw.stamps) ∧
  (∀ (p : Port) (k : Fin 4) (hdr : Word) (l : List Word) (s : State), s.portSilent p = false →
    s.flag (MBX_OB_STATUS_FULL (pix p) k) = true →
    Gives (.mailboxCommandSend p k hdr l) s fun t => t.flag (MBX_OB_STATUS_FULL (pix p) k) = true
      ∧ t.fld (MBX_OB_STATUS_STATUS (pix p) k) = 5 ∧ Kept s t [MBX_OB_STATUS (pix p) k]) ∧
  (∀ (p : Port) (k : Fin 4) (hdr : Word) (l : List Word) (s : State), s.fwRuns = true → s.portInReset (pix p) = false →
    s.flag (MBX_IB_STATUS_FULL (pix p) k) = false → hdrLen hdr ≤ 63 → l.length ≤ 63 →
    Gives (.mailboxReplyPost p k hdr l) s fun t => t.flag (MBX_IB_STATUS_FULL (pix p) k) = true ∧ t.rd (MBX_HDR (pix p) k) = hdr
      ∧ (∀ i < l.length, t.rd (MBX_IB_DATA (pix p) k (i + 1)) = l.getD i 0) ∧ t.fld (MBX_IB_STATUS_TAG (pix p) k) = hdrTag hdr
      ∧ Logged t EV_MBX_FULL ∧ t.fw.unanswered = s.fw.unanswered.erase (4 * pix p + k.val) ∧ Kept s t (mbxKeys (pix p) k)) ∧
  (∀ (p : Port) (k : Fin 4) (hdr : Word) (l : List Word) (s : State), s.flag (MBX_IB_STATUS_FULL (pix p) k) = true →
    Gives (.mailboxReplyPost p k hdr l) s fun t => Kept s t []) ∧
  (∀ (p : Port) (k : Fin 4) (s : State), s.portSilent p = false → s.flag (MBX_IB_STATUS_FULL (pix p) k) = true →
    Gives (.mailboxTake p k) s fun t => (t.port (pix p)).answer = .data (s.rd (MBX_HDR (pix p) k))
      ∧ t.flag (MBX_IB_STATUS_FULL (pix p) k) = false ∧ Kept s t [MBX_IB_STATUS (pix p) k]) ∧
  (∀ (p : Port) (k : Fin 4) (s : State), s.portSilent p = false → s.flag (MBX_IB_STATUS_FULL (pix p) k) = false →
    Gives (.mailboxTake p k) s fun t => (t.port (pix p)).answer = .data 0xFFFFFFFF ∧ Kept s t []) ∧
  (∀ (p : Port) (k : Fin 4) (s : State), s.portSilent p = true →
    Gives (.mailboxTake p k) s fun t => (t.port (pix p)).answer = .unsupported ∧ Kept s t [])

/-- While a load runs, a write of MBX_FW_LOAD with GO = 1 that may reach its block leaves the load as it is and every register as it was but
MBX_FW_STATUS, whose RESULT then holds the code of BUSY, 5. When both ports write GO in the same cycle, the load of the port named by
POS_TIE.NEXT is taken, with its queue and descriptor, and NEXT toggles; the other port's write has no effect. Outside OFF and BOOT the write
is blocked as R361 says, with reason 2, and reaches nothing. Under the hypotheses given, on the state and the operands alone, exec answers a
next state for firmwareLoadGo. (R394.) -/
def Obligations.LoadsAreTakenOneAtATime : Prop :=
  (∀ (p : Port) (qa qb : Fin 32) (da db : BitVec 128) (s : State), ReachesOwned s p MBX_FW_LOAD → s.fw.loading.isSome = true →
    Gives (.firmwareLoadGo (.one p) qa qb da db) s fun t => t.fld MBX_FW_STATUS_RESULT = 5
      ∧ t.rd MBX_FW_STATUS = MBX_FW_STATUS_RESULT.put (s.rd MBX_FW_STATUS) 5 ∧ t.fw.loading = s.fw.loading ∧ t.sec.minSvnClosed = s.sec.minSvnClosed
      ∧ Kept s t [MBX_FW_STATUS]) ∧
  (∀ (qa qb : Fin 32) (da db : BitVec 128) (addr len : Nat) (irq : Bool) (s : State), ReachesOwned s .a MBX_FW_LOAD →
    ReachesOwned s .b MBX_FW_LOAD → s.fw.loading = none →
    let w := s.fld POS_TIE_NEXT
    let q := if w = 0 then qa else qb
    s.queueOpen w q = true → s.flag (DMA_Q_CFG_DIR w q) = true → readDesc (if w = 0 then da else db) = (addr, len, irq, true) →
    Gives (.firmwareLoadGo .both qa qb da db) s fun t => t.fw.loading = some (w, q.val, len, irq) ∧ t.fld POS_TIE_NEXT = 1 - w
      ∧ t.fld MBX_FW_STATUS_PORT = w ∧ t.fld MBX_FW_LOAD_QUEUE = q.val ∧ t.fld MBX_FW_STATUS_RESULT = 0
      ∧ Kept s t [POS_TIE, MBX_FW_LOAD, MBX_FW_STATUS]) ∧
  (∀ (p : Port) (qa qb : Fin 32) (da db : BitVec 128) (s : State), Reaches s p MBX_FW_LOAD → s.fwRuns = true →
    Gives (.firmwareLoadGo (.one p) qa qb da db) s fun t => Logged t EV_BLOCKED_WRITE ∧ t.fw.loading = s.fw.loading
      ∧ t.rd POS_BLK_INFO = BitVec.ofNat 32 (2 ^ 31 + 2 * 2 ^ 29 + pix p * 2 ^ 28 + MBX_FW_LOAD) ∧ Kept s t [POS_BLK_INFO, POS_BLK_COUNT])

/-- In BOOT a GO with an open queue takes the descriptor at HEAD, shows BUSY and ends the writing of SEC_FW_MIN_SVN; without one the load ends
with RESULT 4. An image that breaks the layout ends with RESULT 3, one that fails R338 with RESULT 2, the failing check in SEC_BOOT and a
tamper entry; one that passes starts Priard in STANDBY with its version. The load ends at the last instant that R393 allows (log entry 162).
A mismatch, or a Priard silent for 250 ms, clears EMT_ARM, ends the run and leaves BOOT with its cause. Under the hypotheses given, on the
state and the operands alone, exec answers a next state for firmwareLoadGo, firmwareLoadDone, watchdogExpiry, lockstepMismatch. (R338, R339,
R391, R393, R395, R401.) -/
def Obligations.FirmwareLoadsAndRestarts : Prop :=
  let Refused := fun (u : State) (r : Nat) => u.fld MBX_FW_STATUS_RESULT = r ∧ u.flag MBX_FW_STATUS_BUSY = false ∧ u.fw.loading = none
    ∧ u.has EV_FW_LOAD_REFUSED = true
  let Back := fun (s u : State) (cause : Nat) => u.fwCode = 1 ∧ u.fld MBX_FW_RESET_CAUSE_V = cause ∧ u.has EV_FW_STATE = true
    ∧ u.flag PWR_CAUSE_MANAGEMENT = true ∧ u.fw.longs = [] ∧ (s.pwr.emissionInReset = false → u.flag EMT_ARM_ARM = false ∧ u.running = false)
  (∀ (p : Port) (q : Fin 32) (d : BitVec 128) (addr len : Nat) (irq : Bool) (s : State), ReachesOwned s p MBX_FW_LOAD → s.fw.loading = none →
    s.queueOpen (pix p) q = true → s.flag (DMA_Q_CFG_DIR (pix p) q) = true → readDesc d = (addr, len, irq, true) →
    Gives (.firmwareLoadGo (.one p) q q d d) s fun t => t.fw.loading = some (pix p, q.val, len, irq) ∧ t.flag MBX_FW_STATUS_BUSY = true
      ∧ t.fld MBX_FW_STATUS_RESULT = 0 ∧ t.fld MBX_FW_STATUS_PORT = pix p ∧ t.sec.minSvnClosed = true ∧ Kept s t [MBX_FW_LOAD, MBX_FW_STATUS]) ∧
  (∀ (p : Port) (q : Fin 32) (d : BitVec 128) (s : State), ReachesOwned s p MBX_FW_LOAD → s.fw.loading = none →
    s.queueOpen (pix p) q = false → Does (.firmwareLoadGo (.one p) q q d d) s fun u => Refused u 4) ∧
  (∀ (img : List Byte) (p q len : Nat) (irq : Bool) (s : State), s.fwCode = 1 → s.fw.loading = some (p, q, len, irq) → p < 2 → q < 32 →
    Does (.firmwareLoadDone (some img)) s fun u =>
      if imageFormat img len = false then Refused u 3 ∧ u.fwCode = 1 ∧ u.now = max s.now (s.fw.loadAt + 15360000000)
      else if s.imageCheck img ≠ 0 then Refused u 2 ∧ u.fwCode = 1 ∧ u.now = max s.now (s.fw.loadAt + 15360000000) ∧ u.fld SEC_BOOT_RESULT = s.imageCheck img
        ∧ u.fld SEC_TLOG_HEAD_NEXT = (s.fld SEC_TLOG_HEAD_NEXT + 1) % 16
      else u.fwCode = 2 ∧ u.fld MBX_FW_STATUS_RESULT = 1 ∧ u.flag MBX_FW_STATUS_LOADED = true ∧ u.flag MBX_FW_STATUS_BUSY = false
        ∧ u.fw.loading = none ∧ u.rdN MBX_FW_VERSION = leNat ((img.drop 12).take 4) ∧ u.fld SEC_BOOT_SVN = leNat ((img.drop 8).take 2)
        ∧ u.now = max s.now (s.fw.loadAt + 38400000000) ∧ u.has EV_FW_STATE = true) ∧
  (∀ (p q len : Nat) (irq : Bool) (s : State), s.fwCode = 1 → s.fw.loading = some (p, q, len, irq) → p < 2 → q < 32 →
    s.dma.consuming.contains (32 * p + q) = true → Does (.firmwareLoadDone none) s fun u => Refused u 4 ∧ u.fwCode = 1 ∧ u.has EV_DMA_HOST_ERROR = true) ∧
  (∀ (t : Nat) (f : Option (BitVec 384)) (s : State), s.fwRuns = true → s.pwr.mgmtInReset = false →
    Does (.watchdogExpiry t f) s fun u => Back s u 3 ∧ u.now = max s.now (t + 64000000000)) ∧
  (∀ (t0 : Nat) (f : Option (BitVec 384)) (s : State), s.fwRuns = false → Gives (.watchdogExpiry t0 f) s fun t => Kept s t [] ∧ t.fw.loading = s.fw.loading) ∧
  (∀ (f : Option (BitVec 384)) (s : State), s.pwr.mgmtInReset = false → Does (.lockstepMismatch f) s fun u => Back s u 2) ∧
  (∀ (s : State), s.pwr.mgmtInReset = false →
    Does (.lockstepMismatch none) s fun u => u.flag SEC_STATUS_ID_FAIL = true ∧ u.flag SEC_STATUS_ID_VALID = false ∧ u.has EV_SEC_ID_FAIL = true)

/-- A command that Priard may not take next, or whose header has another code, changes nothing. Otherwise it is taken and judged in the order of
R405: a LENGTH not allowed is answered 0x0102, a reserved bit 0x0103 with the word's number, a value out of range 0x0104 with the word's
number, a state that bars it 0x0201 with the state, a running long command of its kind 0x0203 with that command's code, a group held by the
other port 0x0202 with the groups. A refused command changes nothing but its mailboxes and starts no long command. (R385, R388, R405, R406,
R407, R408.) -/
def Obligations.CommandsAreJudged : Prop :=
  ∀ (p : Port) (k : Fin 4) (x : RearmChecks) (f : Option (BitVec 384)) (d : BitVec 128) (m : Option (List Byte))
    (l : List (BitVec 64 × Word × Word)) (s : State),
    let table : List (Instr × CmdSpec) := [(.identify p k, CmdSpec.plain 0x0101 0),
      (.echo p k, { CmdSpec.plain 0x0102 0 with lenOk := fun w => decide (w.length ≤ 63) }),
      (.restart p k f, { CmdSpec.plain 0x0103 1 with range := fun w => if arg w 1 = 0xA55A then none else some 1 }),
      (.status p k, CmdSpec.plain 0x0104 0), (.regWrite p k x f, regWriteSpec), (.regRead p k, regReadSpec),
      (.scanProfile p k, scanProfileSpec), (.commit p k, commitSpec), (.loopProfile p k, loopProfileSpec), (.spinUp p k, spinUpSpec),
      (.runStart p k, runStartSpec), (.runStop p k, runStopSpec), (.runAbort p k, runAbortSpec), (.arm p k, armSpec), (.disarm p k, disarmSpec),
      (.spinDown p k, spinDownSpec), (.emitterRearm p k x, emitterRearmSpec), (.imgSetup p k, imgSetupSpec p k s),
      (.imgEnable p k, imgEnableSpec), (.capture p k, captureSpec), (.reprocess p k, reprocessSpec), (.ispSetup p k, ispSetupSpec p k s),
      (.calExport p k, calExportSpec), (.calImport p k d m, calImportSpec), (.calReselect p k, calReselectSpec),
      (.calTarget p k, calTargetSpec), (.sendOff p k, sendOffSpec), (.elementQuery p k, elementQuerySpec),
      (.lineupFactory p k, lineupFactorySpec), (.thermalReport p k, CmdSpec.plain 0x0701 0), (.setFloor p k, setFloorSpec),
      (.retest p k, retestSpec), (.emissionReset p k, emissionResetSpec), (.keyLoad p k, keyLoadSpec), (.keyUnwrap p k, keyUnwrapSpec),
      (.keyZero p k, keyZeroSpec), (.keyAgree p k, keyAgreeSpec), (.attest p k, CmdSpec.plain 0x0805 12), (.setLocks p k, setLocksSpec),
      (.setResponse p k, setResponseSpec), (.safetyClear p k, safetyClearSpec), (.faultForce p k, faultForceSpec),
      (.serveNonce p k, serveNonceSpec), (.kernelLoad p k d m, kernelLoadSpec), (.netStatus p k, CmdSpec.plain 0x0901 0),
      (.timeSource p k, timeSourceSpec), (.servePhase p k, servePhaseSpec), (.selfTest p k, selfTestSpec), (.fwLog p k l, fwLogSpec)]
    ∀ e ∈ table,
      (¬Offered s p k e.2 → Gives e.1 s fun t => Kept s t [] ∧ t.fw.unanswered = s.fw.unanswered) ∧
      (Offered s p k e.2 →
        let w := s.payload p k
        let Refused := fun (status : Nat) (words : List Nat) => Does e.1 s fun u => Replied s u p k status words ∧ u.fw.longs = s.fw.longs
          ∧ Kept s u (mbxKeys (pix p) k)
        let Formed := e.2.lenOk w = true ∧ reservedSet 1 e.2.reserved w = none ∧ e.2.range w = none
        (e.2.lenOk w = false → Refused 0x0102 [0]) ∧
        (∀ i, e.2.lenOk w = true → reservedSet 1 e.2.reserved w = some i → Refused 0x0103 [i]) ∧
        (∀ i, e.2.lenOk w = true → reservedSet 1 e.2.reserved w = none → e.2.range w = some i → Refused 0x0104 [i]) ∧
        (Formed → s.fwCode ∉ e.2.states → Refused 0x0201 [s.fwCode]) ∧
        (∀ code, Formed → s.fwCode ∈ e.2.states → s.runningOf e.2.kind = some code → Refused 0x0203 [code]) ∧
        (Formed → s.fwCode ∈ e.2.states → s.runningOf e.2.kind = none → s.heldByOther (pix p) (e.2.groups w) ≠ 0 →
          Refused 0x0202 [s.heldByOther (pix p) (e.2.groups w)]))

/-- A query that passes the checks is answered with status 0 and the words its Command Reference names, and changes no register but its
mailboxes'; FW_LOG answers from the log with the entries that Priard has added. ATTEST signs the statement with the identity key under some
number of R340, and without a valid identity is answered 0x0503. REG_READ of a register in reset reads 0. Under the hypotheses given, on the
state and the operands alone, exec answers a next state for identify, echo, status, regRead, elementQuery, thermalReport, attest, netStatus,
fwLog. (R411, R413, R422, R423, R426, R428, R429.) -/
def Obligations.QueriesReplyWithTheState : Prop :=
  let Says := fun (c : Instr) (s : State) (p : Port) (k : Fin 4) (words : List Nat) =>
    Does c s fun u => Replied s u p k 0 words ∧ Kept s u (mbxKeys (pix p) k)
  (∀ (p : Port) (k : Fin 4) (s : State), Accepted s p k (CmdSpec.plain 0x0101 0) →
    Says (.identify p k) s p k [s.rdN MBX_FW_VERSION, 0x10000 + s.fld SEC_BOOT_SVN, pix p * 256 + s.fwCode, s.rdN GLB_SERIAL_LO,
      s.rdN GLB_SERIAL_HI, s.fld GLB_GRADE_GRADE * 256 + 0xB0, s.rdN SEC_KEY_STATUS, s.rdN EMT_CHAIN]) ∧
  (∀ (p : Port) (k : Fin 4) (s : State), Accepted s p k { CmdSpec.plain 0x0102 0 with lenOk := fun w => decide (w.length ≤ 63) } →
    Says (.echo p k) s p k ((s.payload p k).map (fun x => x.toNat))) ∧
  (∀ (p : Port) (k : Fin 4) (s : State), Accepted s p k (CmdSpec.plain 0x0104 0) →
    Says (.status p k) s p k [s.rdN MBX_FW_STATE, s.degraded, s.rdN SEC_FAULT, s.rdN THM_STATUS, s.rdN GLB_FRAME,
      s.heldBy 1 * 65536 + s.heldBy 0]) ∧
  (∀ (p : Port) (k : Fin 4) (s : State), Accepted s p k regReadSpec →
    Says (.regRead p k) s p k ((s.payload p k).map (fun x => if s.blkInReset x.toNat then 0
      else ((s.serving p k).view (pix p) x.toNat).toNat))) ∧
  (∀ (p : Port) (k : Fin 4) (s : State), Accepted s p k elementQuerySpec →
    let e := elementOf (s.payload p k)
    Says (.elementQuery p k) s p k [(s.elementView e.1 e.2).toNat, s.rdN (LNP_POOL e.1)]) ∧
  (∀ (p : Port) (k : Fin 4) (i j : Nat) (s : State), Accepted s p k (CmdSpec.plain 0x0701 0) →
    s.hottestOf ((zoneTherms false).filter (fun i => (s.therm i).started && !s.thermFailed i)) = some i →
    s.hottestOf ((zoneTherms true).filter (fun i => (s.therm i).started && !s.thermFailed i)) = some j →
    Says (.thermalReport p k) s p k [s.rdN THM_STATUS, s.rdN THM_FAILED, toBits 32 (s.therm i).reading, toBits 32 (s.therm j).reading]) ∧
  (∀ (p : Port) (k : Fin 4) (s : State), Accepted s p k (CmdSpec.plain 0x0805 12) → s.flag SEC_STATUS_ID_VALID = true →
    let st := s.statement (wordsToBytes (s.payload p k))
    Does (.attest p k) s fun u => Kept s u (mbxKeys (pix p) k) ∧ ∃ r, 0 < r ∧ r < p384N
      ∧ Replied s u p k 0 ((bytesToWords 48 (st ++ ecdsaSign s.sec.idKey r (sha384 st))).map (fun x => x.toNat))) ∧
  (∀ (p : Port) (k : Fin 4) (s : State), Accepted s p k (CmdSpec.plain 0x0805 12) → s.flag SEC_STATUS_ID_VALID = false →
    Does (.attest p k) s fun u => Replied s u p k 0x0503 [0] ∧ Kept s u (mbxKeys (pix p) k)) ∧
  (∀ (p : Port) (k : Fin 4) (s : State), Accepted s p k (CmdSpec.plain 0x0901 0) →
    Says (.netStatus p k) s p k [16 * s.linksUp + s.fld NET_STATUS_LINK_UP,
      16 * b2n (s.flag NET_TIME_STATUS_SYNCED) + s.fld NET_TIME_STATUS_IN_FORCE, s.rdN NET_OFFSET, (s.rdF SHT_SERVE_CFG).toNat]) ∧
  (∀ (p : Port) (k : Fin 4) (l : List (BitVec 64 × Word × Word)) (s : State), Accepted s p k fwLogSpec →
    (Does (.fwLog p k l) s fun u => u.fw.log = s.fw.log ++ l) ∧
    let first := arg (s.payload p k) 1
    let log := s.fw.log ++ l
    Says (.fwLog p k l) s p k ((log.length % 65536 * 65536 + first) :: ((log.drop first).take 14).flatMap (fun e =>
      [e.1.toNat % 2 ^ 32, e.1.toNat / 2 ^ 32, e.2.1.toNat, e.2.2.toNat])))

/-- REG_WRITE stores its pairs in order and stops at the first that the state bars, with the pairs before it standing. SCAN_PROFILE writes its
slots and commits in mode 1. Every setup command stores its words and, where it commits, awaits the commit; COMMIT writes no earlier than 2
µs after the last line start of a running grid (log entry 169). LOOP_PROFILE writes the vendor's values that R47 allows to the slots named
while all are open, and to none otherwise. CAPTURE and REPROCESS start on a region that fits. SEND_OFF sends an element off, or answers
0x0001 where it was off; LINEUP_FACTORY restores the factory map; SET_FLOOR stores its floor; RETEST starts the retests of failed
thermometers. Under the hypotheses given, on the state and the operands alone, exec answers a next state for regWrite, scanProfile, commit,
loopProfile, imgSetup, ispSetup, imgEnable, capture, reprocess, sendOff, lineupFactory, setFloor, retest. (R409, R410, R413, R414, R415,
R419, R422, R423.) -/
def Obligations.SettingsCommands : Prop :=
  (∀ (p : Port) (k : Fin 4) (x : RearmChecks) (f : Option (BitVec 384)) (n m : Fin 32) (v w : Word) (s : State),
    Accepted s p k regWriteSpec → s.pwr.coreInReset = false → n ≠ m →
    s.payload p k = [BitVec.ofNat 32 (BGT_CLASS n), v, BitVec.ofNat 32 (BGT_CLASS m), w] →
    s.stateBars (BGT_CLASS n) = false → s.stateBars (BGT_CLASS m) = false →
    Does (.regWrite p k x f) s fun u => Replied s u p k 0 [] ∧ u.rd (BGT_CLASS n) = s.stored (BGT_CLASS n) v
      ∧ u.rd (BGT_CLASS m) = s.stored (BGT_CLASS m) w ∧ Kept s u ([BGT_CLASS n, BGT_CLASS m] ++ mbxKeys (pix p) k)) ∧
  (∀ (p : Port) (k : Fin 4) (x : RearmChecks) (f : Option (BitVec 384)) (n : Fin 32) (v o w : Word) (s : State),
    Accepted s p k regWriteSpec → s.pwr.coreInReset = false → s.payload p k = [BitVec.ofNat 32 (BGT_CLASS n), v, o, w] →
    s.stateBars (BGT_CLASS n) = false → s.stateBars o.toNat = true → fwOwned o.toNat w = false →
    Does (.regWrite p k x f) s fun u => Replied s u p k 0x0201 [s.fwCode, 1] ∧ u.rd (BGT_CLASS n) = s.stored (BGT_CLASS n) v
      ∧ Kept s u (BGT_CLASS n :: mbxKeys (pix p) k)) ∧
  (∀ (p : Port) (k : Fin 4) (s : State), Accepted s p k scanProfileSpec → s.pwr.emissionInReset = false →
    (((s.serving p k).writeProfile (s.payload p k)).fwDo SHT_COMMIT 3).refused = none →
    let w := s.payload p k
    let n := arg w 2 / 256 % 128 + arg w 2 % 128
    Does (.scanProfile p k) s fun u => Awaits s u p k 0x0203 [s.fld SHT_GEN_V] ∧ u.sht.pending = some (true, s.now)
      ∧ u.rd SHT_LISTEN = s.stored SHT_LISTEN (BitVec.ofNat 32 (arg w 3)) ∧ (∀ j < n, u.rd (SHT_SLOT_P j) = s.stored (SHT_SLOT_P j) (BitVec.ofNat 32 j))
      ∧ u.rd SHT_CFG = s.stored SHT_CFG (BitVec.ofNat 32 (arg w 1 / 65536 * 65536 + n))) ∧
  (∀ (p : Port) (k : Fin 4) (e : Word) (s : State), Accepted s p k scanProfileSpec → s.pwr.emissionInReset = false →
    (((s.serving p k).writeProfile (s.payload p k)).fwDo SHT_COMMIT 3).refused = some e →
    Does (.scanProfile p k) s fun u => Replied s u p k 0x0303 [e.toNat] ∧ u.sht.pending = s.sht.pending
      ∧ Kept s u (SHT_CFG_ERR :: mbxKeys (pix p) k)) ∧
  (∀ (p : Port) (k : Fin 4) (mode : Bool) (s : State), Accepted s p k commitSpec → s.pwr.emissionInReset = false → s.fwCode ≠ 7 →
    s.payload p k = [BitVec.ofNat 32 (4 + 256 * b2n mode)] →
    programCheck (s.shadowSet programSpans) (s.spMaxFor (fldIn (s.shadowSet programSpans) SHT_CFG_LINES)).toNat
      (s.fld EMT_TRIG_CFG_TRIG_W) (s.fld EMT_TRIG_CFG_COL_HOLD) = none →
    let w := if s.grid.running then s.advance (s.grid.lineStart + 512000) else s
    Does (.commit p k) s fun u => Awaits w u p k 0x0204 [] ∧ u.sht.pending = some (mode, w.now) ∧ u.now = w.now
      ∧ Kept s u [MBX_OB_STATUS (pix p) k]) ∧
  (∀ (p : Port) (k : Fin 4) (s : State), Accepted s p k loopProfileSpec → s.closedSlots (arg (s.payload p k) 1) = 0 →
    Does (.loopProfile p k) s fun u => Replied s u p k 0 [] ∧ ∀ n < 8, ∀ o ∈ [0x08, 0x0C, 0x10, 0x14, 0x18, 0x1C, 0x20, 0x28, 0x2C, 0x30],
      u.rd (CTL_SLOT_CTRL n + o) = if (arg (s.payload p k) 1).testBit n && !illegalCoef (0x1000 + 0x80 * n + o) (Config.vendorProfile n o)
        then s.stored (CTL_SLOT_CTRL n + o) (Config.vendorProfile n o)
        else s.rd (CTL_SLOT_CTRL n + o)) ∧
  (∀ (p : Port) (k : Fin 4) (s : State), Accepted s p k loopProfileSpec → s.closedSlots (arg (s.payload p k) 1) ≠ 0 →
    Does (.loopProfile p k) s fun u => Replied s u p k 0x0401 [s.closedSlots (arg (s.payload p k) 1)] ∧ Kept s u (mbxKeys (pix p) k)) ∧
  (∀ (p : Port) (k : Fin 4) (s : State), Accepted s p k (imgSetupSpec p k s) → s.pwr.coreInReset = false → arg (s.payload p k) 10 % 2 = 0 →
    Does (.imgSetup p k) s fun u => Replied s u p k 0 [] ∧ Kept s u (imgSetupRegs ++ mbxKeys (pix p) k)
      ∧ ∀ e ∈ imgSetupRegs.zip (s.payload p k), u.rd e.1 = s.stored e.1 e.2) ∧
  (∀ (p : Port) (k : Fin 4) (s : State), Accepted s p k (ispSetupSpec p k s) → s.pwr.coreInReset = false → arg (s.payload p k) 17 % 2 = 0 →
    Does (.ispSetup p k) s fun u => Replied s u p k 0 [] ∧ Kept s u (ispSetupRegs ++ mbxKeys (pix p) k)
      ∧ ∀ e ∈ ispSetupRegs.zip (s.payload p k), u.rd e.1 = s.stored e.1 e.2) ∧
  (∀ (p : Port) (k : Fin 4) (on : Bool) (s : State), Accepted s p k imgEnableSpec → s.pwr.coreInReset = false →
    s.payload p k = [BitVec.ofNat 32 (b2n on)] → (on = true → s.flag ISP_STATUS_REPROC_BUSY = false) →
    Does (.imgEnable p k) s fun u => u.flag IMG_CTRL_ENABLE = on
      ∧ (if s.grid.running then Awaits s u p k 0x0402 [s.rdN GLB_FRAME] else Replied s u p k 0 [0xFFFFFFFF])) ∧
  (∀ (p : Port) (k : Fin 4) (s : State), Accepted s p k captureSpec → s.pwr.coreInReset = false → s.flag IMG_CTRL_ENABLE = false →
    s.isp.capture = none → ((s.serving p k).fwDo ISP_MEM_BASE ((s.payload p k).getD 0 0)).regionBad (4 * s.linesInForce * s.recordBytes) = false →
    Does (.capture p k) s fun u => Awaits s u p k 0x0403 [] ∧ u.flag ISP_MEM_CTRL_CAPTURE = true ∧ u.isp.capture = some (none, 0, u.memBase)
      ∧ u.rd ISP_MEM_BASE = s.stored ISP_MEM_BASE ((s.payload p k).getD 0 0)) ∧
  (∀ (p : Port) (k : Fin 4) (s : State), Accepted s p k captureSpec → s.pwr.coreInReset = false → s.flag IMG_CTRL_ENABLE = true →
    Does (.capture p k) s fun u => Replied s u p k 0x030B [0x2300FFFF] ∧ u.isp = s.isp ∧ Kept s u (IMG_CFG_ERR :: mbxKeys (pix p) k)) ∧
  (∀ (p : Port) (k : Fin 4) (s : State), Accepted s p k reprocessSpec → s.pwr.coreInReset = false → s.flag IMG_CTRL_ENABLE = false →
    s.isp.reproc = none → arg (s.payload p k) 2 ≠ 0 →
    ((s.serving p k).fwDo ISP_MEM_BASE ((s.payload p k).getD 0 0)).regionBad (arg (s.payload p k) 2 * s.recordBytes) = false →
    Does (.reprocess p k) s fun u => Awaits s u p k 0x0404 [] ∧ u.flag ISP_CTRL_SRC = true ∧ u.flag ISP_STATUS_REPROC_BUSY = true
      ∧ u.isp.reproc = some (arg (s.payload p k) 2, u.memBase, 0)) ∧
  (∀ (p : Port) (k : Fin 4) (s : State), Accepted s p k sendOffSpec → (elementOf (s.payload p k)).1 < 3 →
    let e := elementOf (s.payload p k)
    Does (.sendOff p k) s fun u =>
      if mapState s.lnp.map e.1 e.2 = 2 then Replied s u p k 1 [] ∧ u.lnp = s.lnp ∧ Kept s u (mbxKeys (pix p) k)
      else mapState u.lnp.map e.1 e.2 = 2 ∧ u.has EV_LNP_SENT_OFF = true ∧ Replied s u p k 0
        [u.rdN LNP_EPOCH, (if mapState s.lnp.map e.1 e.2 = 0 then s.benchPick e.1 else none).getD 0xFFFF]) ∧
  (∀ (p : Port) (k : Fin 4) (s : State), Accepted s p k lineupFactorySpec →
    Does (.lineupFactory p k) s fun u => (∀ w, w ≠ 1 → w ≠ 0x1FF → mapGet u.lnp.map w = factoryWord w) ∧ u.flag LNP_STATUS_SPLIT = false
      ∧ mapGet u.lnp.map 1 = s.rd LNP_EPOCH + 1 ∧ Replied s u p k 0 (u.rdN LNP_EPOCH :: (List.range 6).map (fun v => u.rdN (LNP_CHANGED v)))) ∧
  (∀ (p : Port) (k : Fin 4) (s : State), Accepted s p k setFloorSpec → s.pwr.thmInReset = false → 0 < s.fld ⟨THM_STEP_CFG, 15, 8⟩ →
    0 < s.fld ⟨THM_STEP_CFG, 23, 16⟩ →
    Does (.setFloor p k) s fun u => u.fld THM_STEP_CFG_FLOOR = arg (s.payload p k) 1 ∧ Replied s u p k 0 []) ∧
  (∀ (p : Port) (k : Fin 4) (s : State), Accepted s p k retestSpec → s.pwr.thmInReset = false →
    Does (.retest p k) s fun u => Awaits s u p k 0x0703 [] ∧ (∀ i < 28, if (arg (s.payload p k) 1).testBit i && s.thermFailed i
      then (u.therm i).retest = some 0 else u.therm i = s.therm i) ∧ Kept s u [MBX_OB_STATUS (pix p) k])

/-- SPIN_UP closes slots 0 to 3 in turn, goes to PHASE once the speed has stayed near for 1 s, and SPIN_DOWN opens slots 0 to 2. ARM sets
EMT_ARM and enters ARMED only when no condition of R397 is missing; DISARM clears it and enters STANDBY. RUN_START names the frames; STOP
and ABORT end the run. EMITTER_REARM clears a latched fault where its checks find the cause gone. RESTART answers, and 1 ms later the
management domain is reset with cause 4. Locks, responses, forced fault, nonce, time source and serve phase are stored as their commands
say. Under the hypotheses given, on the state and the operands alone, exec answers a next state for restart, spinUp, spinUpPhaseMode,
spinDown, runStart, runStop, runAbort, arm, disarm, emitterRearm, setLocks, setResponse, safetyClear, faultForce, serveNonce, timeSource,
servePhase. (R412, R416, R417, R418, R424, R428.) -/
def Obligations.ScanAndSafetyCommands : Prop :=
  (∀ (p : Port) (k : Fin 4) (f : Option (BitVec 384)) (s : State),
    Accepted s p k { CmdSpec.plain 0x0103 1 with range := fun w => if arg w 1 = 0xA55A then none else some 1 } → s.pwr.mgmtInReset = false →
    Does (.restart p k f) s fun u => u.now = s.now + 256000000 ∧ u.fwCode = 1 ∧ u.fld MBX_FW_RESET_CAUSE_V = 4 ∧ u.has EV_FW_STATE = true
      ∧ Logged u EV_MBX_FULL ∧ (s.pwr.emissionInReset = false → u.flag EMT_ARM_ARM = false ∧ u.running = false)) ∧
  (∀ (p : Port) (k : Fin 4) (s : State), Accepted s p k spinUpSpec → s.pwr.coreInReset = false → s.flag CTL_STATUS_LOCK = false →
    (∀ n < 4, s.plant n ≠ 0) → Does (.spinUp p k) s fun u => Awaits s u p k 0x0301 [] ∧ (∀ n < 4, u.flag (CTL_SLOT_CTRL_CLOSE n) = true)
      ∧ u.fld (CTL_SLOT_CTRL_MODE 0) = 0
      ∧ u.rd CTL_PHASE_REF = s.stored CTL_PHASE_REF (BitVec.ofNat 32 (arg (s.payload p k) 1 / 65536 * 65536 + arg (s.payload p k) 1 % 2))) ∧
  (∀ (p : Port) (k : Fin 4) (s : State), Accepted s p k spinUpSpec → s.flag CTL_STATUS_LOCK = true →
    Does (.spinUp p k) s fun u => Replied s u p k 1 [] ∧ Kept s u (mbxKeys (pix p) k)) ∧
  (∀ (p : Port) (k : Fin 4) (l : LongCmd) (t : Nat) (ts : List Nat) (s : State), s.longAt (pix p) k = some l → l.code = 0x0301 → l.phase = 0 →
    l.notes = t :: ts → s.fld (CTL_SLOT_CTRL_MODE 0) ≠ 1 → s.heldByOther l.port (2 ^ 11) = 0 →
    Does (.spinUpPhaseMode p k) s fun u => u.now = max s.now (t - 1 + 256000000000) ∧ u.fld (CTL_SLOT_CTRL_MODE 0) = 1 ∧ u.fw = s.fw
      ∧ Kept s u [CTL_SLOT_CTRL 0]) ∧
  (∀ (p : Port) (k : Fin 4) (s : State), Accepted s p k spinDownSpec → s.polygonClosed = true →
    Does (.spinDown p k) s fun u => Awaits s u p k 0x0307 [] ∧ ∀ n < 3, u.flag (CTL_SLOT_CTRL_CLOSE n) = false ∧ (u.slot n).closed = false) ∧
  (∀ (p : Port) (k : Fin 4) (s : State), Accepted s p k runStartSpec → s.pwr.emissionInReset = false → s.pwr.coreInReset = false →
    s.running = false → ((arg (s.payload p k) 2).testBit 0 = true → s.flag DET_STATUS_HV_OK = true) →
    ((arg (s.payload p k) 3).testBit 31 = true → s.fld SHT_GEN_V = arg (s.payload p k) 3 % 65536) →
    Does (.runStart p k) s fun u => Awaits s u p k 0x0302 [] ∧ u.sht.startPending = some (arg (s.payload p k) 1)
      ∧ u.flag DET_CTRL_ENABLE = (s.flag DET_CTRL_ENABLE || (arg (s.payload p k) 2).testBit 0)
      ∧ u.flag IMG_CTRL_ENABLE = (s.flag IMG_CTRL_ENABLE || (arg (s.payload p k) 2).testBit 1)) ∧
  (∀ (p : Port) (k : Fin 4) (s : State), Accepted s p k runStartSpec → (arg (s.payload p k) 3).testBit 31 = true →
    s.fld SHT_GEN_V ≠ arg (s.payload p k) 3 % 65536 →
    Does (.runStart p k) s fun u => Replied s u p k 0x0401 [0x100] ∧ u.sht = s.sht ∧ Kept s u (mbxKeys (pix p) k)) ∧
  (∀ (p : Port) (k : Fin 4) (s : State), Accepted s p k runStopSpec → s.pwr.emissionInReset = false → s.running = true →
    (∀ l ∈ s.fw.longs, l.code ≠ 0x0504) →
    Does (.runStop p k) s fun u => Awaits s u p k 0x0303 [] ∧ u.sht = { s.sht with stopAtEnd := true } ∧ Kept s u [MBX_OB_STATUS (pix p) k]) ∧
  (∀ (p : Port) (k : Fin 4) (s : State), Accepted s p k runAbortSpec → s.pwr.emissionInReset = false → s.running = true →
    Does (.runAbort p k) s fun u => Replied s u p k 0 [s.rdN GLB_FRAME] ∧ u.running = false ∧ u.sht.flight = none ∧ u.grid.frameOpen = false) ∧
  (∀ (p : Port) (k : Fin 4) (s : State), Accepted s p k armSpec → s.pwr.emissionInReset = false → s.armMissing = 0 →
    Does (.arm p k) s fun u => Replied s u p k 0 [] ∧ u.flag EMT_ARM_ARM = true ∧ u.fwCode = 3 ∧ u.fld MBX_FW_STATE_CAUSE = 2
      ∧ u.has EV_FW_STATE = true ∧ Kept s u ([EMT_ARM, MBX_FW_STATE] ++ mbxKeys (pix p) k)) ∧
  (∀ (p : Port) (k : Fin 4) (s : State), Accepted s p k armSpec → s.armMissing ≠ 0 →
    Does (.arm p k) s fun u => Replied s u p k 0x0401 [s.armMissing] ∧ Kept s u (mbxKeys (pix p) k)) ∧
  (∀ (p : Port) (k : Fin 4) (s : State), Accepted s p k disarmSpec → s.pwr.emissionInReset = false →
    Does (.disarm p k) s fun u => Replied s u p k 0 [] ∧ u.flag EMT_ARM_ARM = false ∧ u.running = false ∧ u.fwCode = 2
      ∧ u.fld MBX_FW_STATE_CAUSE = 3) ∧
  (∀ (p : Port) (k : Fin 4) (x : RearmChecks) (s : State), Accepted s p k emitterRearmSpec → s.pwr.emissionInReset = false → s.flag EMT_FAULT_LATCHED = true →
    x.emonHigh = true → firstFlag x.flags = none → (s.flag EMT_FAULT_CUR_VERIFY = true → x.codes = s.emt.codes) →
    (s.flag EMT_FAULT_EYE_PARITY = true → x.parityOk = true) → Does (.emitterRearm p k x) s fun u => Replied s u p k 0 [] ∧ u.flag EMT_FAULT_LATCHED = false
      ∧ Kept s u (EMT_FAULT :: mbxKeys (pix p) k)) ∧
  (∀ (p : Port) (k : Fin 4) (x : RearmChecks) (s : State), Accepted s p k emitterRearmSpec → s.flag EMT_FAULT_LATCHED = false →
    Does (.emitterRearm p k x) s fun u => Replied s u p k 1 [] ∧ Kept s u (mbxKeys (pix p) k)) ∧
  (∀ (p : Port) (k : Fin 4) (s : State), Accepted s p k setLocksSpec → s.pwr.coreInReset = false →
    Does (.setLocks p k) s fun u => Replied s u p k 0 [u.rdN SEC_STATUS]
      ∧ u.flag SEC_CFG_PLAIN_OFF = (s.flag SEC_CFG_PLAIN_OFF || (arg (s.payload p k) 1).testBit 0)
      ∧ u.flag SEC_CFG_KKEY_LOCK = (s.flag SEC_CFG_KKEY_LOCK || (arg (s.payload p k) 1).testBit 1)
      ∧ u.flag SEC_CFG_RESP_LOCK = (s.flag SEC_CFG_RESP_LOCK || (arg (s.payload p k) 1).testBit 2)
      ∧ Kept s u ([SEC_CFG, SEC_STATUS] ++ mbxKeys (pix p) k)) ∧
  (∀ (p : Port) (k : Fin 4) (s : State), Accepted s p k setResponseSpec →
    let x := fun (i : Nat) => arg (s.payload p k) 1 / 4 ^ i % 4
    let bars := s.flag SEC_CFG_RESP_LOCK && (List.range 9).any (fun i => decide (x i < s.respLevel i))
    Does (.setResponse p k) s fun u => Replied s u p k (if bars then 2 else 0) (if bars then [u.rdN SEC_RESP] else [])
      ∧ (∀ i < 9, u.respLevel i = if s.flag SEC_CFG_RESP_LOCK then max (s.respLevel i) (x i) else x i)
      ∧ Kept s u (SEC_RESP :: mbxKeys (pix p) k)) ∧
  (∀ (p : Port) (k : Fin 4) (s : State), Accepted s p k safetyClearSpec → s.pwr.coreInReset = false → s.sec.ilkA ≠ s.sec.ilkB → s.landsMatch = true →
    Does (.safetyClear p k) s fun u => Replied s u p k 0 [u.rdN SEC_FAULT]
      ∧ u.sec.discrepancy = (s.sec.discrepancy && !(arg (s.payload p k) 1).testBit 0)
      ∧ u.sec.pinMismatch = (s.sec.pinMismatch && !(arg (s.payload p k) 1).testBit 1) ∧ Kept s u (SEC_ILK :: mbxKeys (pix p) k)) ∧
  (∀ (p : Port) (k : Fin 4) (s : State), Accepted s p k safetyClearSpec → (arg (s.payload p k) 1).testBit 0 = true → s.sec.ilkA = s.sec.ilkB →
    Does (.safetyClear p k) s fun u => u.sec = s.sec ∧ Kept s u (mbxKeys (pix p) k)
      ∧ Replied s u p k 0x0401 [1 + 2 * b2n ((arg (s.payload p k) 1).testBit 1 && !s.landsMatch)]) ∧
  (∀ (p : Port) (k : Fin 4) (s : State), Accepted s p k faultForceSpec → s.pwr.coreInReset = false →
    Does (.faultForce p k) s fun u => Replied s u p k 0 [] ∧ u.fld SEC_FAULT_FORCE_V = arg (s.payload p k) 1
      ∧ Kept s u (SEC_FAULT_FORCE :: mbxKeys (pix p) k)) ∧
  (∀ (p : Port) (k : Fin 4) (s : State), Accepted s p k serveNonceSpec → s.pwr.emissionInReset = false →
    Does (.serveNonce p k) s fun u => Replied s u p k 0 [] ∧ u.rd SHT_SERVE_NONCE_LO = (s.payload p k).getD 0 0
      ∧ u.rd SHT_SERVE_NONCE_HI = (s.payload p k).getD 1 0 ∧ u.flag SHT_STATUS_NONCE_SET = true) ∧
  (∀ (p : Port) (k : Fin 4) (s : State), Accepted s p k timeSourceSpec → s.pwr.coreInReset = false →
    Does (.timeSource p k) s fun u => Replied s u p k 0 [] ∧ u.fld NET_TIME_CTRL_SOURCE = arg (s.payload p k) 1) ∧
  (∀ (p : Port) (k : Fin 4) (s : State), Accepted s p k servePhaseSpec → s.pwr.emissionInReset = false → s.linksUp = 0 →
    s.flag CHN_STATUS_COORDINATED = false →
    Does (.servePhase p k) s fun u => Replied s u p k 0 []
      ∧ u.rd SHT_SERVE_CFG = s.stored SHT_SERVE_CFG (BitVec.ofNat 32 (arg (s.payload p k) 1 + s.fld SHT_SERVE_CFG_BITS))
      ∧ Kept s u (SHT_SERVE_CFG :: mbxKeys (pix p) k)) ∧
  (∀ (p : Port) (k : Fin 4) (s : State), Accepted s p k servePhaseSpec → s.linksUp ≠ 0 →
    Does (.servePhase p k) s fun u => Replied s u p k 0x0205 [0] ∧ Kept s u (mbxKeys (pix p) k))

/-- CAL_EXPORT and CAL_IMPORT name the commanding port's queue and start the transfer, or answer 0x030F; a record that a check of R320 refuses
is answered 0x030F with its code and detail. CAL_RESELECT starts an eligible reselection. CAL_TARGET arms the head and begins a run, with
item 5 needing neither. A key command starts its operation on the payload's words, and is answered 0x0501 with the code where a rule refuses
it; KEY_ZERO empties the slots named. KERNEL_LOAD judges the image of the descriptor and, where it passes, keeps it for the next frame
start. EMISSION_RESET puts the emission domain into reset. SELF_TEST runs as a long command. Under the hypotheses given, on the state and
the operands alone, exec answers a next state for calExport, calImport, calReselect, calTarget, emissionReset, keyLoad, keyUnwrap, keyZero,
keyAgree, kernelLoad, selfTest. (R408, R420, R421, R423, R424, R425, R427, R429.) -/
def Obligations.TransferAndKeyCommands : Prop :=
  (∀ (p : Port) (k : Fin 4) (s : State), Accepted s p k calExportSpec → s.pwr.coreInReset = false → s.flag CAL_STATUS_BUSY = false →
    s.flag CAL_STATUS_RESEL_BUSY = false →
    Does (.calExport p k) s fun u => Awaits s u p k 0x0501 [] ∧ u.flag CAL_STATUS_BUSY = true
      ∧ u.cal = { s.cal with exporting := some (s.rdN CAL_EPOCH, false), held := false } ∧ u.fld CAL_XFER_PORT = pix p
      ∧ u.fld CAL_XFER_QUEUE = arg (s.payload p k) 1 ∧ ∃ l, u.dma.ready = s.dma.ready ++ [⟨pix p, arg (s.payload p k) 1, 2, l⟩]) ∧
  (∀ (p : Port) (k : Fin 4) (s : State), Accepted s p k calExportSpec → s.pwr.coreInReset = false →
    (s.flag CAL_STATUS_BUSY = true ∨ s.flag CAL_STATUS_RESEL_BUSY = true) →
    Does (.calExport p k) s fun u => Replied s u p k 0x030F [0x01000000] ∧ u.cal = s.cal ∧ Kept s u (CAL_ERR :: mbxKeys (pix p) k)) ∧
  (∀ (p : Port) (k : Fin 4) (d : BitVec 128) (addr : Nat) (irq : Bool) (bytes : List Byte) (s : State), Accepted s p k calImportSpec →
    s.pwr.coreInReset = false → s.flag CAL_STATUS_BUSY = false → s.flag CAL_STATUS_RESEL_BUSY = false →
    s.queueOpen (pix p) (arg (s.payload p k) 1) = true → s.flag (DMA_Q_CFG_DIR (pix p) (arg (s.payload p k) 1)) = true →
    readDesc d = (addr, 110592, irq, true) →
    let r := bytesToWords recordWords bytes
    Does (.calImport p k d (some bytes)) s fun u =>
      (if (s.recordCode r).1 = 0 then Awaits s u p k 0x0502 [] ∧ u.flag CAL_STATUS_BUSY = true ∧ u.cal.accepted = some r
       else Replied s u p k 0x030F [(s.recordCode r).1 * 2 ^ 24 + (s.recordCode r).2 % 2 ^ 16] ∧ u.flag CAL_STATUS_BUSY = false
         ∧ u.cal.accepted = s.cal.accepted)) ∧
  (∀ (p : Port) (k : Fin 4) (s : State), Accepted s p k calReselectSpec → s.pwr.coreInReset = false →
    s.reselEligible ((s.payload p k).getD 0 0 >>> 28).toNat (((s.payload p k).getD 0 0).toNat % 4096) = true →
    Does (.calReselect p k) s fun u => Awaits s u p k 0x0503 [] ∧ u.flag CAL_STATUS_RESEL_BUSY = true
      ∧ u.cal.resel = some (((s.payload p k).getD 0 0 >>> 28).toNat, ((s.payload p k).getD 0 0).toNat % 4096)) ∧
  (∀ (p : Port) (k : Fin 4) (s : State), Accepted s p k calTargetSpec → s.pwr.emissionInReset = false → arg (s.payload p k) 1 ≠ 5 →
    s.targetMissing = 0 → s.running = false →
    Does (.calTarget p k) s fun u => Awaits s u p k 0x0504 [s.hst.lineSeq] ∧ u.flag EMT_ARM_ARM = true ∧ u.fwCode = 3
      ∧ u.sht.startPending = some 0xFFFF) ∧
  (∀ (p : Port) (k : Fin 4) (s : State), Accepted s p k calTargetSpec → arg (s.payload p k) 1 = 5 →
    Does (.calTarget p k) s fun u => Awaits s u p k 0x0504 [s.hst.lineSeq] ∧ Kept s u [MBX_OB_STATUS (pix p) k]) ∧
  (∀ (p : Port) (k : Fin 4) (s : State), Accepted s p k calTargetSpec → arg (s.payload p k) 1 ≠ 5 → s.targetMissing ≠ 0 →
    Does (.calTarget p k) s fun u => Replied s u p k 0x0401 [s.targetMissing] ∧ Kept s u (mbxKeys (pix p) k)) ∧
  (∀ (p : Port) (k : Fin 4) (s : State), Accepted s p k emissionResetSpec → s.pwr.emissionInReset = false →
    Does (.emissionReset p k) s fun u => Awaits s u p k 0x0704 [] ∧ u.pwr.emissionInReset = true ∧ u.pwr.emissionUntil = s.now + 25600000
      ∧ u.flag PWR_CAUSE_EMISSION = true ∧ u.running = false) ∧
  (∀ (p : Port) (k : Fin 4) (op : Fin 2) (s : State), Accepted s p k (if op = 0 then keyLoadSpec else keyUnwrapSpec) → s.pwr.coreInReset = false →
    let slot := arg (s.payload p k) 1
    s.keyCmdCode op slot true = 0 → Does (if op = 0 then .keyLoad p k else .keyUnwrap p k) s fun u =>
      Awaits s u p k (0x0801 + op.val) [slot] ∧ u.flag SEC_KEY_STATUS_BUSY = true
      ∧ u.sec.busyOp = some ⟨op, slot, wordsToBytes ((s.payload p k).drop 1), s.now, false⟩ ∧ u.sec.keys = s.sec.keys) ∧
  (∀ (p : Port) (k : Fin 4) (op : Fin 2) (s : State), Accepted s p k (if op = 0 then keyLoadSpec else keyUnwrapSpec) → s.pwr.coreInReset = false →
    s.keyCmdCode op (arg (s.payload p k) 1) true ≠ 0 → Does (if op = 0 then .keyLoad p k else .keyUnwrap p k) s fun u =>
      Replied s u p k 0x0501 [s.keyCmdCode op (arg (s.payload p k) 1) true] ∧ u.sec.keys = s.sec.keys
      ∧ u.sec.busyOp = s.sec.busyOp.map (fun o => { o with passed := true })) ∧
  (∀ (p : Port) (k : Fin 4) (s : State), Accepted s p k keyZeroSpec → s.flag SEC_KEY_STATUS_BUSY = false →
    Does (.keyZero p k) s fun u => Replied s u p k 0 [u.rdN SEC_KEY_STATUS] ∧ ∀ n < 4,
      if (arg (s.payload p k) 1).testBit n then u.key n = [] ∧ u.keyValid n = false else u.key n = s.key n) ∧
  (∀ (p : Port) (k : Fin 4) (x y : Nat) (kek : List Byte) (s : State), Accepted s p k keyAgreeSpec → s.pwr.coreInReset = false →
    x = coordinate (wordsToBytes (s.payload p k)) 0 → y = coordinate (wordsToBytes (s.payload p k)) 48 → onCurve (x, y) = true →
    s.flag SEC_STATUS_ID_VALID = true → s.agreedKek x y = some kek → s.flag SEC_KEY_STATUS_BUSY = false → s.emt.redCard = false →
    Does (.keyAgree p k) s fun u => Awaits s u p k 0x0804 [3] ∧ u.flag SEC_KEY_STATUS_BUSY = true
      ∧ u.sec.busyOp = some ⟨0, 3, wordsToBytes (bytesToWords 8 kek), s.now, false⟩) ∧
  (∀ (p : Port) (k : Fin 4) (x y : Nat) (s : State), Accepted s p k keyAgreeSpec →
    x = coordinate (wordsToBytes (s.payload p k)) 0 → y = coordinate (wordsToBytes (s.payload p k)) 48 → onCurve (x, y) = false →
    Does (.keyAgree p k) s fun u => Replied s u p k 0x0501 [6] ∧ u.sec = s.sec ∧ Kept s u (mbxKeys (pix p) k)) ∧
  (∀ (p : Port) (k : Fin 4) (d : BitVec 128) (img : List Byte) (addr len : Nat) (irq : Bool) (s : State), Accepted s p k kernelLoadSpec →
    s.keyValid 2 = true → s.queueOpen (pix p) (arg (s.payload p k) 1) = true →
    s.flag (DMA_Q_CFG_DIR (pix p) (arg (s.payload p k) 1)) = true → readDesc d = (addr, len, irq, true) →
    s.kernelRefusal (img.take len) len = none → s.grid.running = true →
    Does (.kernelLoad p k d (some img)) s fun u => u.pnt.pendingKernel = some (img.take len)
      ∧ Awaits s u p k 0x080A [kernelField (img.take len) 18 2, kernelField (img.take len) 6 1]) ∧
  (∀ (p : Port) (k : Fin 4) (d : BitVec 128) (img : List Byte) (addr len st w : Nat) (irq : Bool) (s : State), Accepted s p k kernelLoadSpec →
    s.keyValid 2 = true → s.queueOpen (pix p) (arg (s.payload p k) 1) = true →
    s.flag (DMA_Q_CFG_DIR (pix p) (arg (s.payload p k) 1)) = true → readDesc d = (addr, len, irq, true) →
    s.kernelRefusal (img.take len) len = some (st, w) →
    Does (.kernelLoad p k d (some img)) s fun u => Replied s u p k st [w] ∧ u.pnt = s.pnt) ∧
  (∀ (p : Port) (k : Fin 4) (d : BitVec 128) (m : Option (List Byte)) (s : State), Accepted s p k kernelLoadSpec → s.keyValid 2 = false →
    Does (.kernelLoad p k d m) s fun u => Replied s u p k 0x0401 [1] ∧ u.pnt = s.pnt ∧ Kept s u (mbxKeys (pix p) k)) ∧
  (∀ (p : Port) (k : Fin 4) (s : State), Accepted s p k selfTestSpec →
    Does (.selfTest p k) s fun u => Awaits s u p k 0x0A01 [] ∧ Kept s u [MBX_OB_STATUS (pix p) k])

/-- A long command whose event has occurred is answered with status 0 and what it noted; one that a fault ended with 0x0601, or 0x0501 for a key
operation; one that a block refused with 0x030F; one superseded with 0x0004. RETEST and SELF_TEST answer with what they found, a key load
with the check value and the pending bit. A command whose port was reset meanwhile ends without a reply. A wait that has run out ends at its
deadline with 0x0602 and the source awaited. A code that is in no Command Reference is answered 0x0101. Under the hypotheses given, on the
state and the operands alone, exec answers a next state for longCommandCompletion, commandTimeout, unknownCommand. (R386, R388, R405, R408,
R414, R415, R416, R421, R423, R424, R429.) -/
def Obligations.LongCommandsEnd : Prop :=
  let Ready := fun (s : State) (p : Port) (k : Fin 4) (l : LongCmd) => s.longAt (pix p) k = some l ∧ l.orphan = false ∧ s.fwRuns = true
    ∧ 4 * pix p + k.val ∈ s.fw.unanswered ∧ s.flag (MBX_IB_STATUS_FULL (pix p) k) = false
    ∧ l.notes.length ≤ 63 ∧ l.tag < 256
  let Ends := fun (s u : State) (p : Port) (k : Fin 4) (l : LongCmd) (st : Nat) (words : List Nat) =>
    Posted u (pix p) k l.tag st words ∧ u.fw.longs = s.fw.longs.erase l
  (∀ (p : Port) (k : Fin 4) (r : LongResult) (s : State), s.longAt (pix p) k = none →
    Gives (.longCommandCompletion p k r) s fun t => Kept s t [] ∧ t.fw.unanswered = s.fw.unanswered) ∧
  (∀ (p : Port) (k : Fin 4) (r : LongResult) (l : LongCmd) (s : State), Ready s p k l → l.phase = 1 →
    l.code ∈ [0x0204, 0x0301, 0x0302, 0x0303, 0x0307, 0x0401, 0x0402, 0x0403, 0x0405, 0x0501, 0x0502, 0x080A] →
    Does (.longCommandCompletion p k r) s fun u => Ends s u p k l 0 l.notes ∧ Kept s u (mbxKeys (pix p) k)) ∧
  (∀ (p : Port) (k : Fin 4) (r : LongResult) (l : LongCmd) (s : State), Ready s p k l → l.phase = 2 → l.code ≠ 0x0504 →
    Does (.longCommandCompletion p k r) s fun u => Kept s u (mbxKeys (pix p) k)
      ∧ Ends s u p k l (if l.code = 0x0801 ∨ l.code = 0x0802 ∨ l.code = 0x0804 then 0x0501 else 0x0601) l.notes) ∧
  (∀ (p : Port) (k : Fin 4) (r : LongResult) (l : LongCmd) (s : State), Ready s p k l → l.phase = 3 →
    Does (.longCommandCompletion p k r) s fun u => Ends s u p k l 0x030F l.notes ∧ Kept s u (mbxKeys (pix p) k)) ∧
  (∀ (p : Port) (k : Fin 4) (r : LongResult) (l : LongCmd) (s : State), Ready s p k l → l.phase = 4 → l.code ≠ 0x0504 →
    Does (.longCommandCompletion p k r) s fun u => Ends s u p k l 4 l.notes ∧ Kept s u (mbxKeys (pix p) k)) ∧
  (∀ (p : Port) (k : Fin 4) (r : LongResult) (l : LongCmd) (s : State), s.longAt (pix p) k = some l → l.orphan = true → s.fwRuns = true →
    l.phase = 3 → Does (.longCommandCompletion p k r) s fun u => u = { s with fw := { s.fw with longs := s.fw.longs.erase l } }) ∧
  (∀ (p : Port) (k : Fin 4) (l : LongCmd) (f : SelfTestRead) (s : State), Ready s p k l → l.phase = 0 → l.code = 0x0A01 →
    Does (.longCommandCompletion p k (.selfTest f)) s fun u => Ends s u p k l 0 [s.selfTestBits f] ∧ u.now = max s.now (l.since + 512000000000)
      ∧ Kept s u (mbxKeys (pix p) k)) ∧
  (∀ (p : Port) (k : Fin 4) (l : LongCmd) (s : State), Ready s p k l → l.phase = 0 → l.code = 0x0703 →
    Does (.longCommandCompletion p k .none) s fun u => Ends s u p k l 0 [s.rdN THM_FAILED] ∧ u.now = max s.now (l.since + 4096000000)
      ∧ Kept s u (mbxKeys (pix p) k)) ∧
  (∀ (p : Port) (k : Fin 4) (r : LongResult) (l : LongCmd) (m : List Byte) (s : State), Ready s p k l → l.phase = 1 → l.code = 0x0801 →
    s.sec.pendingKeys = [(arg l.args 1 % 4, m)] →
    Does (.longCommandCompletion p k r) s fun u => Kept s u (mbxKeys (pix p) k)
      ∧ Ends s u p k l 0 [kcvOf (arg l.args 1 % 4) m, b2n (s.bit SEC_KEY_STATUS (16 + arg l.args 1 % 4))]) ∧
  (∀ (p : Port) (k : Fin 4) (r : LongResult) (l : LongCmd) (s : State), Ready s p k l → l.phase = 1 → l.code ∈ [0x0503, 0x0704] →
    Does (.longCommandCompletion p k r) s fun u => Kept s u (mbxKeys (pix p) k)
      ∧ (if l.code = 0x0503 then Ends s u p k l (if l.notes = [1] then 0 else 5) [] else Ends s u p k l 0 [s.rdN SEC_STATUS])) ∧
  (∀ (p : Port) (k : Fin 4) (l : LongCmd) (t src : Nat) (s : State), Ready s p k l → l.phase = 0 → s.deadline l = some (t, src) →
    Does (.commandTimeout p k) s fun u => u.now = max s.now t ∧ Ends s u p k l 0x0602 [src] ∧ Kept s u (mbxKeys (pix p) k)) ∧
  (∀ (p : Port) (k : Fin 4) (l : LongCmd) (s : State), s.longAt (pix p) k = some l → (l.phase ≠ 0 ∨ s.deadline l = none) →
    Gives (.commandTimeout p k) s fun t => t.now = s.now ∧ t.fw.unanswered = s.fw.unanswered ∧ Kept s t []) ∧
  (∀ (p : Port) (k : Fin 4) (s : State), s.obFirst (pix p) k = true → hdrCode (s.rd (MBX_OB_HDR (pix p) k)) ∉ knownCodes →
    Does (.unknownCommand p k) s fun u => Replied s u p k 0x0101 [0] ∧ Kept s u (mbxKeys (pix p) k))

/-- A lane's link is up while it holds block lock without a remote fault; a change shows in NET_STATUS and raises NET_LINK. A frame on a lane
other than PTP_LANE, and a foreign one, is dropped and counted, a bad FCS and FEC codewords with it. A delay request is answered; one of its
own is sent on PTP_LANE, its time kept. A measurement against the source in force shows NET_OFFSET; one beyond 1 µs clears SYNCED, sixteen
running within 100 ns set it, and a change of SYNCED raises NET_SYNC; one beyond 1 ms steps device time by it at the next reference period.
A PPS edge is taken 0.9999 to 1.0001 s after the last, and rejected and counted otherwise; P83 rises at a whole second for OUT_W. Three
missed measurements clear SYNCED; 10 s without it, a synced sibling is followed. That PPS edges count as rejected only while PPS is in
force, and the instant of a third miss of gPTP, are the model's choices (log entry 164). Under the hypotheses given, on the state and the
operands alone, exec answers a next state for netLink, gptpFrameReceived, foreignFrameDrop, pdelayReqSend, timeStep, ppsInEdge, ppsOutPulse,
timeFrameReceived, missedSyncMeasurement, chainTimeFallback. (R9, R432, R435, R436, R437, R438, R442.) -/
def Obligations.TimeFollowsItsSource : Prop :=
  let Measured := fun (s u : State) (o : Int) => u.rdN NET_OFFSET = toBits 32 o
    ∧ u.net.goodRun = (if o.natAbs ≤ 100 then s.net.goodRun + 1 else 0) ∧ u.net.measAt = some s.now
    ∧ u.flag NET_TIME_STATUS_SYNCED = (decide (o.natAbs ≤ 1000) && (s.flag NET_TIME_STATUS_SYNCED || decide (o.natAbs ≤ 100 ∧ 15 ≤ s.net.goodRun)))
    ∧ (u.flag NET_TIME_STATUS_SYNCED ≠ s.flag NET_TIME_STATUS_SYNCED → u.has EV_NET_SYNC = true)
    ∧ (s.fwRuns = true → 1000000 < o.natAbs →
        u.devTime = (((s.advance ((s.now + 2559) / 2560 * 2560)).devTime : Int) - o * 2 ^ 48).toNat % 2 ^ 112)
    ∧ (s.fwRuns = true → o.natAbs ≤ 1000000 → u.devTime = s.devTime ∧ u.rateCorr.natAbs ≤ 549755813)
  (∀ (l : Fin 4) (lock rf : Bool) (s : State), s.pwr.coreInReset = false → s.bit NET_STATUS l ≠ (lock && !rf) →
    Gives (.netLink l lock rf) s fun t => t.bit NET_STATUS l = (lock && !rf) ∧ Logged t EV_NET_LINK ∧ Kept s t [NET_STATUS]) ∧
  (∀ (l : Fin 4) (lock rf : Bool) (s : State), s.bit NET_STATUS l = (lock && !rf) → Gives (.netLink l lock rf) s fun t => Kept s t []) ∧
  (∀ (t : Nat) (l : Fin 4) (m : GptpMsg) (s : State), s.pwr.coreInReset = false → l.val ≠ s.fld NET_TIME_CTRL_PTP_LANE →
    Gives (.gptpFrameReceived t l m) s fun x => x.rd (NET_LANE_RX_DROP l) = s.rd (NET_LANE_RX_DROP l) + 1 ∧ x.net = s.net
      ∧ x.now = max s.now t ∧ Kept s x [NET_LANE_RX_DROP l]) ∧
  (∀ (l : Fin 4) (ok : Bool) (corr uncorr : BitVec 16) (s : State), s.pwr.coreInReset = false →
    Gives (.foreignFrameDrop l ok corr uncorr) s fun t => t.rd (NET_LANE_RX_DROP l) = s.rd (NET_LANE_RX_DROP l) + 1
      ∧ t.rd (NET_LANE_FCS_ERR l) = (if ok then s.rd (NET_LANE_FCS_ERR l) else s.rd (NET_LANE_FCS_ERR l) + 1)
      ∧ t.fld (NET_LANE_FEC_CORR l) = min (65535) (s.fld (NET_LANE_FEC_CORR l) + corr.toNat)
      ∧ t.fld (NET_LANE_FEC_UNCORR l)
          = min (65535) (s.fld (NET_LANE_FEC_UNCORR l) + uncorr.toNat)
      ∧ Kept s t [NET_LANE_RX_DROP l, NET_LANE_FCS_ERR l, NET_LANE_FEC l]) ∧
  (∀ (t : Nat) (l : Fin 4) (s : State), s.pwr.coreInReset = false → s.fwRuns = true → l.val = s.fld NET_TIME_CTRL_PTP_LANE →
    Does (.gptpFrameReceived t l .sync) s fun u => u.net.syncRx = some ((s.advance t).ns + s.fld NET_PTP_LAT_V) ∧ Kept s u []) ∧
  (∀ (t : Nat) (l : Fin 4) (s : State), s.pwr.coreInReset = false → s.fwRuns = true → l.val = s.fld NET_TIME_CTRL_PTP_LANE →
    Does (.gptpFrameReceived t l .pdelayReq) s fun u => Kept s u []
      ∧ u.wire = s.wire ++ [.gptp l 3 (((s.advance t).ns : Int) + s.fld NET_PTP_LAT_V), .gptp l 4 (((s.advance t).ns : Int) - s.fld NET_PTP_LAT_V)]) ∧
  (∀ (t : Nat) (l : Fin 4) (t2 : Int) (s : State), s.pwr.coreInReset = false → s.fwRuns = true → l.val = s.fld NET_TIME_CTRL_PTP_LANE →
    Does (.gptpFrameReceived t l (.pdelayResp t2)) s fun u =>
      u.net.pdelayRx = some (t2, ((s.advance t).ns : Int) + s.fld NET_PTP_LAT_V) ∧ Kept s u []) ∧
  (∀ (t : Nat) (l : Fin 4) (origin : Int) (rx : Nat) (s : State), s.pwr.coreInReset = false → s.fwRuns = true →
    l.val = s.fld NET_TIME_CTRL_PTP_LANE → s.net.syncRx = some rx → s.fld NET_TIME_STATUS_IN_FORCE = 1 →
    Does (.gptpFrameReceived t l (.followUp origin)) s fun u => u.net.syncRx = none ∧ Measured (s.advance t) u (rx - (origin + s.net.peerDelay))) ∧
  (∀ (t : Nat) (l : Fin 4) (t1 t2 t3 t4 : Int) (s : State), s.pwr.coreInReset = false → s.fwRuns = true → l.val = s.fld NET_TIME_CTRL_PTP_LANE →
    s.net.pdelayTx = some t1 → s.net.pdelayRx = some (t2, t4) →
    Does (.gptpFrameReceived t l (.pdelayRespFollowUp t3)) s fun u => u.net.peerDelay = ((t4 - t1) - (t3 - t2)).fdiv 2 ∧ u.net.pdelayTx = none
      ∧ Kept s u []) ∧
  (∀ (s : State), s.pwr.coreInReset = false → s.fwRuns = true →
    Does .pdelayReqSend s fun u => u.wire = s.wire ++ [.gptp (s.fld NET_TIME_CTRL_PTP_LANE) 2 ((s.ns : Int) - s.fld NET_PTP_LAT_V)]
      ∧ u.net.pdelayTx = some ((s.ns : Int) - s.fld NET_PTP_LAT_V) ∧ u.net.pdelayRx = none ∧ Kept s u []) ∧
  (∀ (p : Port) (hi : Word) (s : State), Reaches s p NET_TIME_STEP_HI →
    Gives (.timeStep p hi) s fun t => t.rd NET_TIME_STEP_LO = 0 ∧ Kept s t [NET_TIME_STEP_LO]
      ∧ t.devTime = (((s.advance ((s.now + 2559) / 2560 * 2560)).devTime : Int) + signedN 64 (hi.toNat * 2 ^ 32 + s.rdN NET_TIME_STEP_LO) * 2 ^ 48).toNat % 2 ^ 112) ∧
  (∀ (t : Nat) (s : State), s.pwr.coreInReset = false → s.fld NET_TIME_STATUS_IN_FORCE ≠ 2 →
    Gives (.ppsInEdge t) s fun x => x.now = max s.now t ∧ x.net = s.net ∧ Kept s x []) ∧
  (∀ (t a : Nat) (s : State), s.pwr.coreInReset = false → s.fld NET_TIME_STATUS_IN_FORCE = 2 → s.net.lastPps = some a → s.now ≤ t →
    (t < a + 255974400000 ∨ a + 256025600000 < t) →
    Gives (.ppsInEdge t) s fun x => x.net = s.net ∧ Kept s x [NET_SYNC_ERR]
      ∧ x.fld NET_SYNC_ERR_PPS_REJECT = min (2 ^ (NET_SYNC_ERR_PPS_REJECT.hi + 1 - NET_SYNC_ERR_PPS_REJECT.lo) - 1) (s.fld NET_SYNC_ERR_PPS_REJECT + 1)) ∧
  (∀ (t : Nat) (s : State), s.pwr.coreInReset = false → s.fld NET_TIME_STATUS_IN_FORCE = 2 →
    (∀ a, s.net.lastPps = some a → a + 255974400000 ≤ max s.now t ∧ max s.now t ≤ a + 256025600000) →
    let ns : Int := (s.advance t).ns
    Does (.ppsInEdge t) s fun u => u.net.lastPps = some (max s.now t) ∧ u.flag NET_PPS_SEC_VALID = false
      ∧ Measured (s.advance t) u (if s.flag NET_PPS_SEC_VALID then ns - (s.fld NET_PPS_SEC_SEC : Nat) * 1000000000
        else ns - ((ns + 500000000).fdiv 1000000000) * 1000000000)) ∧
  (∀ (s : State), s.pwr.coreInReset = false →
    let sec := max (s.net.ppsSecond + 1) ((s.devTime + 1000000000 * 2 ^ 48 - 1) / (1000000000 * 2 ^ 48))
    Gives .ppsOutPulse s fun t => t.now = max s.now (s.tickAt (sec * 1000000000)) ∧ t.net.ppsSecond = sec
      ∧ t.net.ppsUntil = (if s.flag NET_PPS_CFG_OUT_EN then t.now + 2560 * s.fld NET_PPS_CFG_OUT_W else s.net.ppsUntil) ∧ Kept s t []) ∧
  (∀ (t : Nat) (c : Fin 2) (t2 t3 : Int) (t1 : Nat) (s : State), s.pwr.coreInReset = false → s.linkEnabled c = true →
    s.fld NET_TIME_STATUS_IN_FORCE = 3 → s.masterLink = some c.val → (s.link c).sentNs = some t1 →
    Does (.timeFrameReceived t c t2 t3) s fun u => (u.link c).goodAt = max s.now t
      ∧ Measured (s.advance t) u ((((t1 : Int) - t2) + (((s.advance t).ns : Int) - t3)).fdiv 2)) ∧
  (∀ (t : Nat) (c : Fin 2) (t2 t3 : Int) (s : State), s.pwr.coreInReset = false → s.linkEnabled c = true →
    (s.fld NET_TIME_STATUS_IN_FORCE ≠ 3 ∨ s.masterLink ≠ some c.val ∨ (s.link c).sentNs = none) →
    Gives (.timeFrameReceived t c t2 t3) s fun x => x.net = (s.setLink c { s.link c with goodAt := max s.now t }).net ∧ Kept s x []) ∧
  (∀ (t : Nat) (c : Fin 2) (t2 t3 : Int) (s : State), s.linkEnabled c = false →
    Gives (.timeFrameReceived t c t2 t3) s fun x => x.net = s.net ∧ Kept s x []) ∧
  (∀ (t : Nat) (s : State), s.pwr.coreInReset = false → s.fld NET_TIME_STATUS_IN_FORCE ≠ 0 →
    Does (.missedSyncMeasurement t) s fun u => u.now = max s.now (s.thirdMiss t) ∧ u.flag NET_TIME_STATUS_SYNCED = false ∧ u.net.goodRun = 0
      ∧ (s.flag NET_TIME_STATUS_SYNCED = true → u.has EV_NET_SYNC = true) ∧ Kept s u [NET_TIME_STATUS]) ∧
  (∀ (t : Nat) (s : State), s.fld NET_TIME_STATUS_IN_FORCE = 0 → Gives (.missedSyncMeasurement t) s fun x => x.net = s.net ∧ Kept s x []) ∧
  (∀ (s : State), s.pwr.coreInReset = false → s.fld NET_TIME_CTRL_SOURCE ≠ 0 → s.flag NET_TIME_STATUS_SYNCED = false → s.syncedSibling = true →
    Gives .chainTimeFallback s fun t => t.now = max s.now (s.net.unsyncedAt + 2560000000000) ∧ t.fld NET_TIME_STATUS_IN_FORCE = 3
      ∧ Kept s t [NET_TIME_STATUS])

/-- Each enabled link sends a hello 1 ms and a TIME frame 10 ms after the one before. The third good hello brings a link up, 10 ms without one
takes it down, and each change raises CHN_LINK; an alarm from a link that is up is tamper source 6. At the first whole second at least 100
ms after the set changed, two to eight members whose number fits BITS take the head number of their rank, at once while nothing is swept and
at the next frame otherwise; more members or too few bits are a conflict. A member reset leaves the own serial number alone. Network
settings are taken only while no run is active, and MTU only from 1,280 to 9,000. Under the hypotheses given, on the state and the operands
alone, exec answers a next state for helloSend, timeFrameSend, helloReceived, chainLinkTimeout, chainFrameCrcError, chainAlarmReceived,
coordinationApply, chainMemberReset, netConfigWrite. (R346, R440, R441, R443, R444.) -/
def Obligations.SiblingsOnTheChain : Prop :=
  (∀ (s : State), s.pwr.coreInReset = false →
    Does .helloSend s fun u => Kept s u [] ∧ u.now = max s.now (s.net.helloAt + 256000000) ∧ u.net.helloAt = u.now
      ∧ u.wire = s.wire ++ ((List.range 2).filter (fun c => s.linkEnabled c)).map (fun c => .hello c s.serial s.net.members s.ownQuality)) ∧
  (∀ (s : State), s.pwr.coreInReset = false →
    let a := s.advance (s.net.timeAt + 2560000000)
    Does .timeFrameSend s fun u => Kept s u [] ∧ u.now = a.now ∧ u.net.timeAt = u.now
      ∧ u.wire = s.wire ++ ((List.range 2).filter (fun c => s.linkEnabled c)).map (fun c => .time c a.ns)
      ∧ ∀ c < 2, s.linkEnabled c = true → (u.link c).sentNs = some a.ns) ∧
  (∀ (t : Nat) (c : Fin 2) (serial master : BitVec 64) (m : List (BitVec 64)) (q : Fin 3) (h : BitVec 4) (s : State), s.pwr.coreInReset = false →
    s.linkEnabled c = true → Does (.helloReceived t c serial m q master h) s fun u =>
      (u.link c).hellos = (s.link c).hellos + 1 ∧ (u.link c).up = ((s.link c).up || decide (2 ≤ (s.link c).hellos))
      ∧ u.bit CHN_STATUS c = (u.link c).up ∧ ((u.link c).up ≠ (s.link c).up → u.has EV_CHN_LINK = true)
      ∧ (u.link c).masterSerial = master.toNat ∧ (u.link c).quality = q.val ∧ (u.link c).hops = h.toNat ∧ (u.link c).goodAt = max s.now t
      ∧ (∀ x, x ∈ u.net.members ↔
          (x ∈ s.net.members ∨ x = serial.toNat ∨ x ∈ m.map BitVec.toNat))
      ∧ (u.net.members ≠ s.net.members → u.net.coordDue = some (((s.advance t).ns + 1099999999) / 1000000000 * 1000000000))) ∧
  (∀ (t : Nat) (c : Fin 2) (serial master : BitVec 64) (m : List (BitVec 64)) (q : Fin 3) (h : BitVec 4) (s : State), s.linkEnabled c = false →
    Gives (.helloReceived t c serial m q master h) s fun x => x.net = s.net ∧ Kept s x []) ∧
  (∀ (c : Fin 2) (s : State), s.pwr.coreInReset = false →
    Does (.chainLinkTimeout c) s fun u => u.now = max s.now ((s.link c).goodAt + 2560000000) ∧ (u.link c).up = false ∧ (u.link c).hellos = 0 ∧ u.bit CHN_STATUS c = false
      ∧ ((s.link c).up = true → u.has EV_CHN_LINK = true) ∧ Kept s u [CHN_STATUS, NET_TIME_STATUS]) ∧
  (∀ (c : Fin 2) (s : State), s.pwr.coreInReset = false →
    Gives (.chainFrameCrcError c) s fun t => t.rd (CHN_CRC_ERR c) = s.rd (CHN_CRC_ERR c) + 1 ∧ Kept s t [CHN_CRC_ERR c]) ∧
  (∀ (t : Nat) (c : Fin 2) (level : BitVec 2) (src : BitVec 8) (s : State), s.pwr.coreInReset = false → s.linkEnabled c = true → (s.link c).up = true →
    Gives (.chainAlarmReceived t c level src) s fun x =>
      x.rd (SEC_TLOG (s.fld SEC_TLOG_HEAD_NEXT) 3) = BitVec.ofNat 32 (c.val * 2 ^ 24 + level.toNat * 65536 + src.toNat)
      ∧ x.rd (SEC_TLOG (s.fld SEC_TLOG_HEAD_NEXT) 0) = BitVec.ofNat 32 (s.fld SEC_TLOG_HEAD_TOTAL * 65536 + s.respLevel 6 * 256 + 6)) ∧
  (∀ (t : Nat) (c : Fin 2) (level : BitVec 2) (src : BitVec 8) (s : State), (s.linkEnabled c = false ∨ (s.link c).up = false) →
    Gives (.chainAlarmReceived t c level src) s fun x => Kept s x []) ∧
  (∀ (due : Nat) (s : State), s.pwr.coreInReset = false → s.net.coordDue = some due → s.flag CHN_CTRL_COORD_EN = true → 2 ≤ s.net.members.length →
    s.net.members.length ≤ 8 → clog2 s.net.members.length ≤ s.fldF SHT_SERVE_CFG_BITS →
    let n := s.net.members.length
    let head := (s.net.members.filter (fun x => decide (x < s.serial))).length
    Does .coordinationApply s fun u => u.flag CHN_STATUS_COORDINATED = true ∧ u.flag CHN_STATUS_CONFLICT = false
      ∧ u.fld CHN_STATUS_HEAD_ID = head % 8 ∧ u.net.coordDue = none ∧ u.now = max s.now (s.tickAt due)
      ∧ (if s.grid.running then u.net.coordLatch = some (head, clog2 n) ∧ u.inForce = s.inForce
         else u.fldF SHT_SERVE_CFG_HEAD_ID = head % 8 ∧ u.fldF SHT_SERVE_CFG_PHASES_LOG2 = clog2 n ∧ u.fldF SHT_SERVE_CFG_PHASE = head % 8
           ∧ u.fld SHT_GEN_V = (s.fld SHT_GEN_V + 1) % 2 ^ (SHT_GEN_V.hi + 1 - SHT_GEN_V.lo))) ∧
  (∀ (due : Nat) (s : State), s.pwr.coreInReset = false → s.net.coordDue = some due → s.flag CHN_CTRL_COORD_EN = true → 2 ≤ s.net.members.length →
    (8 < s.net.members.length ∨ s.fldF SHT_SERVE_CFG_BITS < clog2 s.net.members.length) →
    Gives .coordinationApply s fun t => t.flag CHN_STATUS_CONFLICT = true ∧ t.net.coordDue = none ∧ Logged t EV_CHN_CONFLICT ∧ Kept s t [CHN_STATUS]) ∧
  (∀ (s : State), (s.net.coordDue = none ∨ s.flag CHN_CTRL_COORD_EN = false) → Gives .coordinationApply s fun t => t.net = s.net ∧ Kept s t []) ∧
  (∀ (p : Port) (s : State), Reaches s p CHN_CTRL →
    Gives (.chainMemberReset p) s fun t => t.net.members = [s.serial] ∧ t.flag CHN_STATUS_COORDINATED = false
      ∧ t.flag CHN_STATUS_CONFLICT = false ∧ t.fld CHN_STATUS_HEAD_ID = 0 ∧ t.fld CHN_STATUS_MEMBERS = 1
      ∧ Kept s t (CHN_STATUS :: (List.range 8).flatMap (fun i => [CHN_MEMBER_LO i, CHN_MEMBER_HI i]))) ∧
  (∀ (p : Port) (w : Fin 22) (v : Word) (s : State), Reaches s p (0x440000 + 4 * w.val) → s.running = false →
    (0x440000 + 4 * w.val = NET_MTU → 1280 ≤ v.toNat % 16384 ∧ v.toNat % 16384 ≤ 9000) →
    Gives (.netConfigWrite p w v) s fun t => t.rd (0x440000 + 4 * w.val) = s.stored (0x440000 + 4 * w.val) v ∧ Kept s t [0x440000 + 4 * w.val]) ∧
  (∀ (p : Port) (w : Fin 22) (v : Word) (s : State), Reaches s p (0x440000 + 4 * w.val) → s.running = true →
    Gives (.netConfigWrite p w v) s fun t => t.rdN NET_CFG_ERR = 0x01000000 + 4 * w.val ∧ Logged t EV_NET_CFG_ERROR ∧ Kept s t [NET_CFG_ERR]) ∧
  (∀ (p : Port) (v : Word) (s : State), Reaches s p NET_MTU → s.running = false → (v.toNat % 16384 < 1280 ∨ 9000 < v.toNat % 16384) →
    Gives (.netConfigWrite p ⟨(NET_MTU - 0x440000) / 4, by decide⟩ v) s fun t => t.rdN NET_CFG_ERR = 0x02000000 + (NET_MTU - 0x440000)
      ∧ Logged t EV_NET_CFG_ERROR ∧ Kept s t [NET_CFG_ERR])

/-- t0 is the instant at which the rails are good and the clocks have run for 1 ms; 1 ms later the fuses are read, and a parity failure holds
every other domain in reset for good; 3 ms after t0 the THM domain is released, and 4 ms after t0 the others, once no reading stands at
CRITICAL, with boot ROM in BOOT. An emission reset ends the run and lasts 100 µs; a management reset leaves BOOT; a full reset and a power-
fail put every domain but PWR, and THM or not, into reset. A write of PWR_RESET with a bad KEY or with DOMAIN 0 is refused. A hard shutdown
is left 10 s after the readings have fallen, and its bit by an acknowledge. Under the hypotheses given, on the state and the operands alone,
exec answers a next state for railsAndClocksGood, fuseBankRead, thmDomainRelease, coreDomainsRelease, perstNRise, pwrDdrReady, railFail,
pwrResetEmission, emissionDomainRelease, pwrResetManagement, pwrResetFull, pwrResetRefused, hardRecoveryStart, pwrHardAck. (R333, R335,
R393, R449, R450, R451, R453, R454, R455, R457.) -/
def Obligations.PowerSequence : Prop :=
  let Empty := fun (s u : State) => u.pwr.coreInReset = true ∧ u.pwr.emissionInReset = true ∧ u.pwr.mgmtInReset = true ∧ u.running = false
    ∧ u.p87 = false ∧ u.mem = [] ∧ u.pending = s.pending ∧ (∀ n, u.key n = []) ∧ u.rd EMT_FAULT = s.rd EMT_FAULT
  (∀ (rails clocks : Nat) (s : State), s.pwr.seq = 0 →
    Gives (.railsAndClocksGood rails clocks) s fun x => x.pwr.t0 = max s.now (max rails (clocks + 256000000)) ∧ x.now = x.pwr.t0 ∧ x.pwr.railOk = 0x1FF ∧ x.pwr.seq = 1 ∧ Kept s x []) ∧
  (∀ (b : FuseBank) (s : State), s.pwr.seq = 1 →
    Gives (.fuseBankRead b true) s fun t => t.now = max s.now (s.pwr.t0 + 256000000) ∧ t.pwr.fuses = b ∧ t.pwr.fuseOk = true ∧ t.pwr.seq = 2
      ∧ t.rd PWR_LIFE_SEED = b.lifeSeed ∧ Kept s t [PWR_LIFE_SEED]) ∧
  (∀ (b : FuseBank) (s : State), s.pwr.seq = 1 →
    Gives (.fuseBankRead b false) s fun t => t.pwr.seq = 5 ∧ t.pwr.fuseOk = s.pwr.fuseOk ∧ t.pwr.fuses = s.pwr.fuses ∧ Kept s t []) ∧
  (∀ (s : State), s.pwr.seq = 2 → s.pwr.thmInReset = true →
    Gives .thmDomainRelease s fun t => t.now = max s.now (s.pwr.t0 + 768000000) ∧ t.pwr.thmInReset = false ∧ t.pwr.seq = 3
      ∧ ∀ i < 28, t.rd (THM_TRIM i) = (s.pwr.fuses.therm.getD i (0, 0, 0)).1) ∧
  (∀ (f : Option (BitVec 384)) (e : Option DriverFlags) (s : State), s.pwr.seq = 3 → s.belowCritical 0 = true →
    Does (.coreDomainsRelease f e) s fun u => u.now = max s.now (s.pwr.t0 + 1024000000) ∧ u.pwr.coreInReset = false
      ∧ u.pwr.emissionInReset = false ∧ u.pwr.mgmtInReset = false ∧ u.pwr.seq = 4 ∧ u.portA.down = true ∧ u.portB.down = true
      ∧ u.rd GLB_GRADE = BitVec.ofNat 32 s.pwr.fuses.grade.toNat ∧ u.rdN GLB_SERIAL_LO = s.pwr.fuses.serial.toNat % 2 ^ 32
      ∧ u.rdN GLB_SERIAL_HI = s.pwr.fuses.serial.toNat / 2 ^ 32 ∧ u.fwCode = 1
      ∧ u.fld MBX_FW_RESET_CAUSE_V = (if s.flag PWR_CAUSE_POWER_UP then 1 else 5)
      ∧ u.net.members = [u.serial] ∧ (e.isSome = true → u.flag EMT_FAULT_LATCHED = true)) ∧
  (∀ (f : Option (BitVec 384)) (e : Option DriverFlags) (s : State), s.pwr.seq = 3 → s.belowCritical 0 = false →
    Gives (.coreDomainsRelease f e) s fun t => t.pwr = s.pwr ∧ Kept s t []) ∧
  (∀ (p : Port) (s : State), Gives (.perstNRise p) s fun t => (t.port (pix p)).perstLow = false ∧ Kept s t []) ∧
  (∀ (s : State), s.pwr.seq = 4 → s.pwr.ddrReady = false →
    Gives .pwrDdrReady s fun t => t.now = max s.now (s.pwr.t0 + 10240000000) ∧ t.pwr = { s.pwr with ddrReady := true } ∧ Logged t EV_PWR_DDR_READY ∧ Kept s t []) ∧
  (∀ (t : Nat) (rails : BitVec 9) (vio : BitVec 12) (s : State), 1200 ≤ vio.toNat → s.pwr.railOk &&& rails ≠ 0 →
    Does (.railFail t rails vio) s fun u => Empty s u ∧ u.pwr.thmInReset = true ∧ u.pwr.railOk = s.pwr.railOk &&& ~~~rails
      ∧ u.fld PWR_CAUSE_RAILS = (s.pwr.railOk &&& rails).toNat ∧ u.fld ⟨PWR_CAUSE, 31, 28⟩ = 4 ∧ u.pwr.seq = 0) ∧
  (∀ (t : Nat) (rails : BitVec 9) (vio : BitVec 12) (s : State), 1200 ≤ vio.toNat → s.pwr.railOk &&& rails = 0 →
    Gives (.railFail t rails vio) s fun x => x.now = max s.now (t + 256000) ∧ x.pwr = s.pwr ∧ Kept s x []) ∧
  (∀ (t : Nat) (rails : BitVec 9) (vio : BitVec 12) (s : State), vio.toNat < 1200 →
    Does (.railFail t rails vio) s fun u => u.now = 0 ∧ u.regs = [] ∧ u.pwr = PwrState.init ∧ u.mem = [] ∧ u.pending = s.pending) ∧
  (∀ (p : Port) (s : State), Reaches s p PWR_RESET → s.pwr.emissionInReset = false →
    Does (.pwrResetEmission p) s fun u => u.pwr.emissionInReset = true ∧ u.pwr.emissionUntil = s.now + 25600000 ∧ u.running = false
      ∧ u.p87 = false ∧ u.flag PWR_CAUSE_EMISSION = true ∧ u.sec.pendingKeys = [] ∧ u.rd SEC_CFG = 0 ∧ u.emt.redCard = false
      ∧ u.rd EMT_FAULT = s.rd EMT_FAULT ∧ u.pwr.coreInReset = s.pwr.coreInReset ∧ ∀ n, u.key n = s.key n) ∧
  (∀ (p : Port) (s : State), s.pwr.emissionInReset = true → Gives (.pwrResetEmission p) s fun t => t.pwr = s.pwr) ∧
  (∀ (s : State), s.pwr.coreInReset = false → s.pwr.emissionInReset = true → s.pwr.redAtRelease = none →
    Gives (.emissionDomainRelease none) s fun t => t.now = max s.now s.pwr.emissionUntil ∧ t.pwr.emissionInReset = false ∧ Kept s t []) ∧
  (∀ (f : DriverFlags) (s : State), s.pwr.coreInReset = false → s.pwr.emissionInReset = true →
    Does (.emissionDomainRelease (some f)) s fun u => u.now = max s.now s.pwr.emissionUntil ∧ u.pwr.emissionInReset = false
      ∧ u.flag EMT_FAULT_LATCHED = true) ∧
  (∀ (src : Nat) (e : Option DriverFlags) (s : State), s.pwr.coreInReset = false → s.pwr.emissionInReset = true → s.pwr.redAtRelease = some src →
    Does (.emissionDomainRelease e) s fun u => u.pwr.emissionInReset = false ∧ u.emt.redCard = true ∧ u.has EV_SEC_RED_CARD = true) ∧
  (∀ (p : Port) (f : Option (BitVec 384)) (s : State), Reaches s p PWR_RESET → s.pwr.mgmtInReset = false →
    Does (.pwrResetManagement p f) s fun u => u.fwCode = 1 ∧ u.fld MBX_FW_RESET_CAUSE_V = 5 ∧ u.flag PWR_CAUSE_MANAGEMENT = true
      ∧ u.fw.longs = []) ∧
  (∀ (p : Port) (s : State), Reaches s p PWR_RESET → s.pwr.coreInReset = false →
    Does (.pwrResetFull p) s fun u => Empty s u ∧ u.pwr.thmInReset = s.pwr.thmInReset ∧ u.pwr.seq = 1 ∧ u.pwr.t0 = s.now + 2560000000
      ∧ u.fld ⟨PWR_CAUSE, 31, 28⟩ = 1) ∧
  (∀ (p : Port) (key : BitVec 8) (d : BitVec 2) (s : State), Reaches s p PWR_RESET → (key ≠ 0xA5 ∨ d = 0) →
    Gives (.pwrResetRefused p key d) s fun t => t.rdN PWR_CFG_ERR = (if key = 0xA5 then 0x02000000 else 0x01000000)
      ∧ Logged t EV_PWR_CFG_ERROR ∧ t.pwr = s.pwr ∧ Kept s t [PWR_CFG_ERR]) ∧
  (∀ (s : State), s.pwr.hardWaiting = true → s.belowCritical s.hyst = true →
    Gives .hardRecoveryStart s fun t => t.now = max s.now (s.pwr.hardAt + 2560000000000) ∧ t.pwr.hardWaiting = false ∧ t.pwr.seq = 1
      ∧ t.pwr.t0 = t.now ∧ Kept s t []) ∧
  (∀ (s : State), (s.pwr.hardWaiting = false ∨ s.belowCritical s.hyst = false) →
    Gives .hardRecoveryStart s fun t => t.pwr = s.pwr ∧ Kept s t []) ∧
  (∀ (p : Port) (s : State), Reaches s p PWR_HARD_ACK →
    Gives (.pwrHardAck p) s fun t => t.pwr.hard = (s.pwr.hard && s.pwr.hardWaiting) ∧ Kept s t [])

/-- In no cycle are both outputs of a motor phase high, and within the dead time after one was high the other is not; a motor trip leaves all
six low. After a forced low no row trigger is high that was not high at its decision, none from the programmed fall on, and no column enable
256 ticks after it. A configuration read of a port in service answers with vendor and device, class code and revision, and subsystem by
grade. The dead time's place and the header's layout are the model's choices (log entries 168 and 166). Under the hypotheses given, on the
state and the operands alone, exec answers a next state for motorTrip. (R54, R75, R333, R358, R463, R482.) -/
def Obligations.LandsAndIdentifiers : Prop :=
  (∀ (period dead d c : Nat),
    ((phaseLands period dead d c).1 && (phaseLands period dead d c).2) = false) ∧
  (∀ (period dead d c k : Nat), k ≤ dead → (phaseLands period dead d c).1 = true →
    (phaseLands period dead d (c + k)).2 = false) ∧
  (∀ (period dead d c k : Nat), k ≤ dead → (phaseLands period dead d c).2 = true →
    (phaseLands period dead d (c + k)).1 = false) ∧
  (∀ (code : BitVec 14) (s : State), s.pwr.coreInReset = false → s.fld CTL_MOTOR_ITRIP_V < code.toNat →
    Gives (.motorTrip code) s fun t => ∀ ph, t.motorLands ph = (false, false)) ∧
  (∀ (s : State) (k : Nat), let u : State := { s.forceLow with now := s.now + k }
    (∀ r, u.trgLand r = true → s.trgLand r = true ∧ s.now + k < s.emt.drive.fall)
      ∧ ((∃ r, s.trgLand r = true) → s.emt.drive.fall + 256 ≤ s.now + k → ∀ c, u.colLand c = false)
      ∧ ((s.emt.drive.rows = 0 ∨ s.now < s.emt.drive.rise ∨ s.emt.drive.fall ≤ s.now) → ∀ c, u.colLand c = false)) ∧
  (∀ (p : Port) (s : State), s.portInReset (pix p) = false → (s.port (pix p)).linkDown = false → (s.port (pix p)).perstLow = false →
    (s.port (pix p)).resetUntil ≤ s.now →
    s.cfgRead p 0 = .data (match p with | .a => 0x01921F7C | .b => 0x01931F7C) ∧ s.cfgRead p 8 = .data 0x118000B0
      ∧ s.cfgRead p 0x2C = .data (BitVec.ofNat 32 ((s.fld GLB_GRADE_GRADE + 1) * 65536 + 0x1F7C)))
end

