-- ==== Sys2Proof/Laws/Tables.lean ====
section
/-! SUPPORT. What the table operations answer, and that they keep the canonical form of a table; with them the same for memory. -/

namespace Sys2Proof.Laws

open Sys2Proof.Machine

variable {α : Type}

theorem tabGet_tabErase_same (d : α) (l : List (Nat × α)) (k : Nat) : tabGet d (tabErase l k) k = d := by
  induction l with
  | nil => rfl
  | cons e t ih =>
    obtain ⟨a, v⟩ := e
    by_cases h : k = a
    · simpa [tabErase, h] using (h ▸ ih)
    · simp [tabErase, tabGet, h, ih]

theorem tabGet_tabErase_other (d : α) (l : List (Nat × α)) {j k : Nat} (h : j ≠ k) :
    tabGet d (tabErase l k) j = tabGet d l j := by
  induction l with
  | nil => rfl
  | cons e t ih =>
    obtain ⟨a, v⟩ := e
    by_cases hk : k = a
    · subst hk; simp [tabErase, tabGet, h, ih]
    · by_cases hj : j = a <;> simp [tabErase, tabGet, hk, hj, ih]

theorem tabGet_tabPut_same (d : α) (l : List (Nat × α)) (k : Nat) (v : α) : tabGet d (tabPut l k v) k = v := by
  induction l with
  | nil => simp [tabPut, tabGet]
  | cons e t ih =>
    obtain ⟨a, w⟩ := e
    by_cases h : k = a
    · simp [tabPut, tabGet, h]
    · by_cases h2 : k < a <;> simp [tabPut, tabGet, h, h2, ih]

theorem tabGet_tabPut_other (d : α) (l : List (Nat × α)) {j k : Nat} (v : α) (h : j ≠ k) :
    tabGet d (tabPut l k v) j = tabGet d l j := by
  induction l with
  | nil => simp [tabPut, tabGet, h]
  | cons e t ih =>
    obtain ⟨a, w⟩ := e
    by_cases hk : k = a
    · subst hk; simp [tabPut, tabGet, h]
    · by_cases h2 : k < a
      · simp [tabPut, tabGet, hk, h2, h]
      · by_cases hj : j = a <;> simp [tabPut, tabGet, hk, h2, hj, ih]

@[simp] theorem tabGet_tabSet_same [DecidableEq α] (d : α) (l : List (Nat × α)) (k : Nat) (v : α) :
    tabGet d (tabSet d l k v) k = v := by
  unfold tabSet
  split
  · rename_i h; rw [tabGet_tabErase_same, h]
  · exact tabGet_tabPut_same d l k v

theorem tabGet_tabSet_other [DecidableEq α] (d e : α) (l : List (Nat × α)) {j k : Nat} (v : α) (h : j ≠ k) :
    tabGet d (tabSet e l k v) j = tabGet d l j := by
  unfold tabSet
  split
  · exact tabGet_tabErase_other d l h
  · exact tabGet_tabPut_other d l v h

/-! ### The canonical form -/

theorem tabSorted_mono {lo lo' : Nat} {l : List (Nat × α)} (h : lo' ≤ lo) (hs : tabSorted lo l = true) : tabSorted lo' l = true := by
  cases l with
  | nil => rfl
  | cons e t => simp [tabSorted] at *; exact ⟨by omega, hs.2⟩

theorem tabSorted_tabErase {lo : Nat} {l : List (Nat × α)} (k : Nat) (h : tabSorted lo l = true) :
    tabSorted lo (tabErase l k) = true := by
  induction l generalizing lo with
  | nil => rfl
  | cons e t ih =>
    obtain ⟨a, v⟩ := e
    simp only [tabSorted, Bool.and_eq_true, decide_eq_true_eq] at h
    by_cases hk : k = a
    · simp only [tabErase, hk, if_true]
      exact tabSorted_mono (by omega) (hk ▸ ih h.2)
    · simp [tabErase, hk, tabSorted, h.1, ih h.2]

theorem tabSorted_tabPut {lo : Nat} {l : List (Nat × α)} {k : Nat} (v : α) (hk : lo ≤ k) (h : tabSorted lo l = true) :
    tabSorted lo (tabPut l k v) = true := by
  induction l generalizing lo with
  | nil => simp [tabPut, tabSorted, hk]
  | cons e t ih =>
    obtain ⟨a, w⟩ := e
    simp only [tabSorted, Bool.and_eq_true, decide_eq_true_eq] at h
    by_cases h1 : k = a
    · subst h1; simp [tabPut, tabSorted, hk, h.2]
    · by_cases h2 : k < a
      · simp only [tabPut, h1, h2, if_true, if_false, tabSorted, Bool.and_eq_true, decide_eq_true_eq]
        exact ⟨hk, by omega, h.2⟩
      · simp only [tabPut, h1, h2, if_false, tabSorted, Bool.and_eq_true, decide_eq_true_eq]
        exact ⟨h.1, ih (by omega) h.2⟩

theorem tabSorted_filter {lo : Nat} {l : List (Nat × α)} (p : Nat × α → Bool) (h : tabSorted lo l = true) :
    tabSorted lo (l.filter p) = true := by
  induction l generalizing lo with
  | nil => rfl
  | cons e t ih =>
    obtain ⟨a, w⟩ := e
    simp only [tabSorted, Bool.and_eq_true, decide_eq_true_eq] at h
    by_cases hp : p (a, w) = true
    · simp [List.filter, hp, tabSorted, h.1, ih h.2]
    · simp only [List.filter, hp]
      exact tabSorted_mono (by omega) (ih h.2)

theorem mem_tabErase {l : List (Nat × α)} {k : Nat} {e : Nat × α} (h : e ∈ tabErase l k) : e ∈ l := by
  induction l with
  | nil => simp [tabErase] at h
  | cons x t ih =>
    obtain ⟨a, v⟩ := x
    by_cases hk : k = a
    · simp only [tabErase, hk, if_true] at h
      exact List.mem_cons_of_mem _ (ih (hk ▸ h))
    · simp only [tabErase, hk, if_false, List.mem_cons] at h
      rcases h with h | h
      · simp [h]
      · exact List.mem_cons_of_mem _ (ih h)

theorem mem_tabPut {l : List (Nat × α)} {k : Nat} {v : α} {e : Nat × α} (h : e ∈ tabPut l k v) : e = (k, v) ∨ e ∈ l := by
  induction l with
  | nil => simpa [tabPut] using h
  | cons x t ih =>
    obtain ⟨a, w⟩ := x
    by_cases hk : k = a
    · simp only [tabPut, hk, if_true, List.mem_cons] at h
      rcases h with h | h
      · left; simp [h, hk]
      · right; simp [h]
    · by_cases h2 : k < a
      · simp only [tabPut, hk, h2, if_true, if_false, List.mem_cons] at h
        rcases h with h | h | h <;> simp [h]
      · simp only [tabPut, hk, h2, if_false, List.mem_cons] at h
        rcases h with h | h
        · simp [h]
        · rcases ih h with h | h <;> simp [h]

/-- Setting an entry keeps the canonical form. -/
theorem tabWf_tabSet [DecidableEq α] {d : Nat → α} {l : List (Nat × α)} (k : Nat) (v : α) (h : tabWf d l = true) :
    tabWf d (tabSet (d k) l k v) = true := by
  simp only [tabWf, Bool.and_eq_true, List.all_eq_true, decide_eq_true_eq] at h ⊢
  unfold tabSet
  split
  · exact ⟨tabSorted_tabErase k h.1, fun e he => h.2 e (mem_tabErase he)⟩
  · rename_i hv
    refine ⟨tabSorted_tabPut v (Nat.zero_le _) h.1, fun e he => ?_⟩
    rcases mem_tabPut he with he | he
    · simpa [he] using hv
    · exact h.2 e he

/-- Leaving out a span of keys keeps the canonical form. -/
theorem tabWf_tabDrop [DecidableEq α] {d : Nat → α} {l : List (Nat × α)} (lo hi : Nat) (h : tabWf d l = true) :
    tabWf d (tabDrop lo hi l) = true := by
  simp only [tabWf, Bool.and_eq_true, List.all_eq_true, decide_eq_true_eq] at h ⊢
  exact ⟨tabSorted_filter _ h.1, fun e he => h.2 e (List.mem_of_mem_filter he)⟩

/-! ### Memory -/

@[simp] theorem memRead_memWrite_same (m : List Host.Cell) (a : Nat) (b : Byte) : memRead (memWrite m a b) a = b := by
  simp [memRead, memWrite]

theorem memRead_memWrite_other (m : List Host.Cell) {a c : Nat} (b : Byte) (h : c ≠ a) :
    memRead (memWrite m a b) c = memRead m c := tabGet_tabSet_other 0 0 m b h

theorem memWrite_wf {m : List Host.Cell} (a : Nat) (b : Byte) (h : Memory.wf m = true) : Memory.wf (memWrite m a b) = true :=
  tabWf_tabSet (d := fun _ => (0 : Byte)) a b h

/-- A write of bytes leaves every byte outside them as it was. -/
theorem memRead_memWriteBytes_other (m : List Host.Cell) (a : Nat) (l : List Byte) {c : Nat} (h : c < a ∨ a + l.length ≤ c) :
    memRead (memWriteBytes m a l) c = memRead m c := by
  induction l generalizing m a with
  | nil => rfl
  | cons b t ih =>
    simp only [List.length_cons] at h
    rw [memWriteBytes, ih _ _ (by omega), memRead_memWrite_other m b (by omega)]

/-- A write of bytes puts each byte at its address. -/
theorem memRead_memWriteBytes_at (m : List Host.Cell) (a : Nat) (l : List Byte) {i : Nat} (h : i < l.length) :
    memRead (memWriteBytes m a l) (a + i) = l[i] := by
  induction l generalizing m a i with
  | nil => simp at h
  | cons b t ih =>
    cases i with
    | zero => rw [memWriteBytes, memRead_memWriteBytes_other _ _ _ (by omega)]; simp
    | succ i =>
      have := ih (memWrite m a b) (a + 1) (i := i) (by simpa using h)
      rw [memWriteBytes, show a + (i + 1) = a + 1 + i by omega, this]
      simp

/-- A write of bytes keeps memory's canonical form. -/
theorem memWriteBytes_wf {m : List Host.Cell} (a : Nat) (l : List Byte) (h : Memory.wf m = true) :
    Memory.wf (memWriteBytes m a l) = true := by
  induction l generalizing m a with
  | nil => exact h
  | cons b t ih => exact ih (a + 1) (memWrite_wf a b h)

/-- Clearing a span of memory keeps its canonical form. -/
theorem memDrop_wf {m : List Host.Cell} (lo hi : Nat) (h : Memory.wf m = true) : Memory.wf (tabDrop lo hi m) = true :=
  tabWf_tabDrop (d := fun _ => (0 : Byte)) lo hi h

end Sys2Proof.Laws
end

