-- ==== Sys2Proof/Laws/RegLaws.lean ====
section
/-! SUPPORT. Registers and fields: what a read answers after a write, of the same place and of another. -/

namespace Sys2Proof.Laws

open Sys2Proof.Machine

/-! ### Whole registers -/

@[simp] theorem rd_wr_same (s : State) (k : Nat) (w : Word) : (s.wr k w).rd k = w := by simp [State.rd, State.wr]

theorem rd_wr_other (s : State) {j k : Nat} (w : Word) (h : j ≠ k) : (s.wr k w).rd j = s.rd j :=
  tabGet_tabSet_other _ _ _ w h

theorem rd_wr (s : State) (j k : Nat) (w : Word) : (s.wr k w).rd j = if j = k then w else s.rd j := by
  by_cases h : j = k
  · simp [h]
  · simp [h, rd_wr_other s w h]

theorem rd_wrN (s : State) (j k v : Nat) : (s.wrN k v).rd j = if j = k then BitVec.ofNat 32 v else s.rd j := rd_wr s j k _

theorem rd_setFld (s : State) (j : Nat) (f : Fld) (v : Nat) :
    (s.setFld f v).rd j = if j = f.reg then f.put (s.rd f.reg) v else s.rd j := rd_wr s j _ _

theorem rd_setFlag (s : State) (j : Nat) (f : Fld) (b : Bool) :
    (s.setFlag f b).rd j = if j = f.reg then f.put (s.rd f.reg) (b2n b) else s.rd j := rd_setFld s j f _

theorem rd_setBit (s : State) (j k n : Nat) (b : Bool) :
    (s.setBit k n b).rd j = if j = k then Fld.put ⟨k, n, n⟩ (s.rd k) (b2n b) else s.rd j := rd_setFlag s j ⟨k, n, n⟩ b

theorem rd_bump (s : State) (j : Nat) (f : Fld) (n : Nat) :
    (s.bump f n).rd j = if j = f.reg then f.put (s.rd f.reg) (min (2 ^ (f.hi + 1 - f.lo) - 1) (s.fld f + n)) else s.rd j :=
  rd_setFld s j f _

@[simp] theorem rd_setPort (s : State) (p : Nat) (x : PortState) (j : Nat) : (s.setPort p x).rd j = s.rd j := by
  unfold State.setPort; split <;> rfl

@[simp] theorem rd_raise (s : State) (e j : Nat) : (s.raise e).rd j = s.rd j := rfl
@[simp] theorem rd_raiseInfo (s : State) (e i j : Nat) : (s.raiseInfo e i).rd j = s.rd j := rfl
@[simp] theorem rd_raiseIf (s : State) (c : Bool) (e j : Nat) : (s.raiseIf c e).rd j = s.rd j := by
  unfold State.raiseIf; split <;> rfl
@[simp] theorem rd_ignore (s : State) (j : Nat) : s.ignore.rd j = s.rd j := rfl
@[simp] theorem rd_advance (s : State) (t j : Nat) : (s.advance t).rd j = s.rd j := by unfold State.advance; split <;> rfl

/-! ### Fields -/

theorem put_bound (hi lo w v : Nat) (hl : lo ≤ hi) (hh : hi < 32) (hw : w < 2 ^ 32) :
    w - ((w >>> lo) % 2 ^ (hi + 1 - lo)) * 2 ^ lo + (v % 2 ^ (hi + 1 - lo)) * 2 ^ lo
      = w / 2 ^ (hi + 1) * 2 ^ (hi + 1) + (v % 2 ^ (hi + 1 - lo)) * 2 ^ lo + w % 2 ^ lo ∧
    w - ((w >>> lo) % 2 ^ (hi + 1 - lo)) * 2 ^ lo + (v % 2 ^ (hi + 1 - lo)) * 2 ^ lo < 2 ^ 32 := by
  have e : 2 ^ (hi + 1) = 2 ^ lo * 2 ^ (hi + 1 - lo) := by rw [← Nat.pow_add]; congr 1; omega
  have hp : 0 < 2 ^ lo := Nat.two_pow_pos _
  have hq : 0 < 2 ^ (hi + 1 - lo) := Nat.two_pow_pos _
  have h32 : (2 : Nat) ^ 32 = 2 ^ (31 - hi) * 2 ^ (hi + 1) := by rw [← Nat.pow_add]; congr 1; omega
  rw [Nat.shiftRight_eq_div_pow]
  have d1 : w = 2 ^ lo * (w / 2 ^ lo) + w % 2 ^ lo := (Nat.div_add_mod _ _).symm
  have d2 : w / 2 ^ lo = 2 ^ (hi + 1 - lo) * (w / 2 ^ lo / 2 ^ (hi + 1 - lo)) + w / 2 ^ lo % 2 ^ (hi + 1 - lo) :=
    (Nat.div_add_mod _ _).symm
  have d3 : w / 2 ^ (hi + 1) = w / 2 ^ lo / 2 ^ (hi + 1 - lo) := by rw [e, Nat.div_div_eq_div_mul]
  have hm : w % 2 ^ lo < 2 ^ lo := Nat.mod_lt _ hp
  have hv : v % 2 ^ (hi + 1 - lo) < 2 ^ (hi + 1 - lo) := Nat.mod_lt _ hq
  have hx : w / 2 ^ (hi + 1) < 2 ^ (31 - hi) := by
    rw [Nat.div_lt_iff_lt_mul (Nat.two_pow_pos _)]; omega
  rw [d3, e] at *
  generalize w / 2 ^ lo / 2 ^ (hi + 1 - lo) = x at *
  generalize w / 2 ^ lo % 2 ^ (hi + 1 - lo) = y at *
  generalize w % 2 ^ lo = r at *
  generalize v % 2 ^ (hi + 1 - lo) = u at *
  generalize w / 2 ^ lo = z at *
  generalize 2 ^ (hi + 1 - lo) = Q at *
  generalize 2 ^ lo = P at *
  generalize 2 ^ (31 - hi) = R at *
  subst d2
  have k1 : w - y * P + u * P = x * (P * Q) + u * P + r := by
    have : w = x * (P * Q) + y * P + r := by rw [d1]; ring
    rw [this]; omega
  refine ⟨k1, ?_⟩
  rw [k1, h32]
  calc x * (P * Q) + u * P + r < x * (P * Q) + u * P + P := by omega
    _ = x * (P * Q) + (u + 1) * P := by ring
    _ ≤ x * (P * Q) + Q * P := by gcongr; omega
    _ = (x + 1) * (P * Q) := by ring
    _ ≤ R * (P * Q) := by gcongr; omega

/-- A field after it was put, and the bits above and below it. -/
theorem put_toNat (f : Fld) (w : Word) (v : Nat) (hl : f.lo ≤ f.hi) (hh : f.hi < 32) :
    (f.put w v).toNat = w.toNat / 2 ^ (f.hi + 1) * 2 ^ (f.hi + 1) + (v % 2 ^ (f.hi + 1 - f.lo)) * 2 ^ f.lo + w.toNat % 2 ^ f.lo := by
  obtain ⟨a, b⟩ := put_bound f.hi f.lo w.toNat v hl hh w.isLt
  simp only [Fld.put, Fld.get, BitVec.toNat_ofNat]
  rw [Nat.mod_eq_of_lt b, a]

/-- A field bit by bit. -/
theorem get_testBit (f : Fld) (w : Word) (i : Nat) : (f.get w).testBit i = (decide (i < f.hi + 1 - f.lo) && w.toNat.testBit (f.lo + i)) := by
  simp [Fld.get, Nat.testBit_mod_two_pow, Nat.testBit_shiftRight]

/-- A word bit by bit after a field was put. -/
theorem put_testBit (f : Fld) (w : Word) (v i : Nat) (hl : f.lo ≤ f.hi) (hh : f.hi < 32) :
    (f.put w v).toNat.testBit i = if f.lo ≤ i ∧ i ≤ f.hi then v.testBit (i - f.lo) else w.toNat.testBit i := by
  have e : 2 ^ (f.hi + 1) = 2 ^ f.lo * 2 ^ (f.hi + 1 - f.lo) := by rw [← Nat.pow_add]; congr 1; omega
  have hv : v % 2 ^ (f.hi + 1 - f.lo) < 2 ^ (f.hi + 1 - f.lo) := Nat.mod_lt _ (Nat.two_pow_pos _)
  have hm : w.toNat % 2 ^ f.lo < 2 ^ f.lo := Nat.mod_lt _ (Nat.two_pow_pos _)
  have hb : (v % 2 ^ (f.hi + 1 - f.lo)) * 2 ^ f.lo + w.toNat % 2 ^ f.lo < 2 ^ (f.hi + 1) := by
    rw [e]; nlinarith [Nat.two_pow_pos f.lo]
  rw [put_toNat f w v hl hh, Nat.add_assoc, Nat.mul_comm (w.toNat / 2 ^ (f.hi + 1)), Nat.testBit_two_pow_mul_add _ hb,
    Nat.mul_comm (v % 2 ^ (f.hi + 1 - f.lo)), Nat.testBit_two_pow_mul_add _ hm]
  by_cases h1 : i < f.hi + 1
  · by_cases h2 : i < f.lo
    · simp [h1, h2, Nat.testBit_mod_two_pow]
    · have : i - f.lo < f.hi + 1 - f.lo := by omega
      simp [h1, h2, Nat.testBit_mod_two_pow, this]; omega
  · have h3 : ¬ (f.lo ≤ i ∧ i ≤ f.hi) := by omega
    simp only [h1, h3, if_false, Nat.testBit_div_two_pow]
    congr 1; omega

theorem get_put_same (f : Fld) (w : Word) (v : Nat) (hl : f.lo ≤ f.hi) (hh : f.hi < 32) :
    f.get (f.put w v) = v % 2 ^ (f.hi + 1 - f.lo) := by
  apply Nat.eq_of_testBit_eq
  intro i
  rw [get_testBit, put_testBit f w v _ hl hh, Nat.testBit_mod_two_pow]
  by_cases h : i < f.hi + 1 - f.lo
  · have h2 : f.lo + i ≤ f.hi := by omega
    simp [h, h2]
  · simp [h]

/-- A field apart from another is untouched by a write of that one. -/
theorem get_put_apart (f g : Fld) (w : Word) (v : Nat) (hl : f.lo ≤ f.hi) (hh : f.hi < 32) (hg : g.hi < f.lo ∨ f.hi < g.lo) :
    g.get (f.put w v) = g.get w := by
  apply Nat.eq_of_testBit_eq
  intro i
  rw [get_testBit, get_testBit, put_testBit f w v _ hl hh]
  by_cases h : i < g.hi + 1 - g.lo
  · have h2 : ¬ (f.lo ≤ g.lo + i ∧ g.lo + i ≤ f.hi) := by omega
    simp [h2]
  · simp [h]

/-- A field that was put reads as the low bits of what was put. -/
theorem fld_setFld_same (s : State) (f : Fld) (v : Nat) (hl : f.lo ≤ f.hi) (hh : f.hi < 32) :
    (s.setFld f v).fld f = v % 2 ^ (f.hi + 1 - f.lo) := by
  simp only [State.fld, rd_setFld, if_true]
  exact get_put_same f _ v hl hh

/-- A field of another register, or apart from the one that was put, is as it was. -/
theorem fld_setFld_other (s : State) (f g : Fld) (v : Nat) (hl : f.lo ≤ f.hi) (hh : f.hi < 32)
    (h : g.reg ≠ f.reg ∨ g.hi < f.lo ∨ f.hi < g.lo) : (s.setFld f v).fld g = s.fld g := by
  simp only [State.fld, rd_setFld]
  split
  · rename_i e
    rw [get_put_apart f g _ v hl hh (by tauto), e]
  · rfl

theorem flag_setFlag_same (s : State) (f : Fld) (b : Bool) (h : f.lo = f.hi) (hh : f.hi < 32) : (s.setFlag f b).flag f = b := by
  have := fld_setFld_same s f (b2n b) (by omega) hh
  simp only [State.flag, State.setFlag, this, h]
  cases b <;> simp [b2n]

theorem flag_setFlag_other (s : State) (f g : Fld) (b : Bool) (hl : f.lo ≤ f.hi) (hh : f.hi < 32)
    (h : g.reg ≠ f.reg ∨ g.hi < f.lo ∨ f.hi < g.lo) : (s.setFlag f b).flag g = s.flag g := by
  simp only [State.flag, State.setFlag, fld_setFld_other s f g _ hl hh h]

/-- The value and the field of a register are those of the register before, where the register reads as before. -/
theorem fld_congr {s t : State} {f : Fld} (h : t.rd f.reg = s.rd f.reg) : t.fld f = s.fld f := by simp [State.fld, h]

theorem flag_congr {s t : State} {f : Fld} (h : t.rd f.reg = s.rd f.reg) : t.flag f = s.flag f := by simp [State.flag, fld_congr h]

end Sys2Proof.Laws
end

