-- ==== Sys2Proof/Laws/Settle.lean ====
section
/-! SUPPORT. What the end of a step (`settle`) can change: the registers of `settleKey`, and the fields that `State.kept` blanks; all
else is as the command left it. One lemma for each operation the end of a step is made of. -/

namespace Sys2Proof.Laws

open Sys2Proof.Machine

/-- A port's state without what an event entry changes. -/
def keptPort (p : PortState) : PortState := { p with lostPending := false, entries := [] }

/-- The line grid without what the end of a step can change. -/
def keptGrid (g : GridState) : GridState := { g with sweep := false, frameOpen := false, linesDelivered := 0, lineOpen := false, lineTimed := false }

/-- The state without what the end of a step can change. -/
def keptState (s : State) : State :=
  { s with regs := [], grid := keptGrid s.grid, hst := HstState.init, tdc := TdcState.init, pnt := PntState.init, host := [], raised := [],
           refused := none, portA := keptPort s.portA, portB := keptPort s.portB,
           sht := { s.sht with startPending := none, newCount := none, stopAtEnd := false, barred := false, cut := false, flight := none,
                               prepared := none },
           emt := { s.emt with terms := 0, drive := EmtState.init.drive },
           sec := { s.sec with keys := [], pendingKeys := [], emitDiffers := none, faultDiffers := none },
           fw := { s.fw with lastRunFrame := 0, longs := [] },
           ctl := { s.ctl with slots := [] },
           det := { s.det with durSum := 0, chans := [], atSpSince := none, satSince := none } }

/-- The registers EVT_STATUS of both ports. -/
def statusKey (k : Nat) : Bool := decide (k < 0x8000000) && (0x40140 ≤ k % 0x4000000 && k % 0x4000000 < 0x40160)

/-- `t` differs from `s` only in what the end of a step can change; no raised source is lost and no bit of EVT_STATUS is cleared. -/
structure Quiet (s t : State) : Prop where
  rd : ∀ k, settleKey k = false → t.rd k = s.rd k
  kept : keptState t = keptState s
  more : ∀ r ∈ s.raised, r ∈ t.raised
  bits : ∀ p w n, p < 2 → w < 8 → s.bit (EVT_STATUS p w) n = true → t.bit (EVT_STATUS p w) n = true

theorem keptState_reset {s t : State} (h : keptState t = keptState s) (p : Nat) : t.portInReset p = s.portInReset p := by
  have : (keptState t).pwr = (keptState s).pwr := by rw [h]
  simp only [State.portInReset]; rw [show t.pwr = s.pwr from this]

theorem Quiet.refl (s : State) : Quiet s s := ⟨fun _ _ => rfl, rfl, fun _ h => h, fun _ _ _ _ _ h => h⟩

theorem Quiet.trans {s t u : State} (h : Quiet s t) (g : Quiet t u) : Quiet s u :=
  ⟨fun k hk => (g.rd k hk).trans (h.rd k hk), g.kept.trans h.kept, fun r hr => g.more r (h.more r hr),
   fun p w n hp hw hs => g.bits p w n hp hw (h.bits p w n hp hw hs)⟩

theorem Quiet.ite {s t u : State} {c : Prop} [Decidable c] (h : Quiet s t) (g : Quiet s u) : Quiet s (if c then t else u) := by
  split <;> assumption

/-- A change of nothing but the fields that `keptState` blanks. -/
theorem Quiet.of_regs {s t : State} (h : t.regs = s.regs) (g : keptState t = keptState s) (r : t.raised = s.raised := by rfl) : Quiet s t :=
  ⟨fun k _ => by simp [State.rd, h], g, fun x hx => r ▸ hx, fun p w n _ _ hs => by simpa [State.bit, State.rd, h] using hs⟩

/-- Sources added to those that wait. -/
theorem quiet_more (s : State) (l : List Raised) : Quiet s { s with raised := s.raised ++ l } :=
  ⟨fun _ _ => rfl, rfl, fun _ hr => List.mem_append_left _ hr, fun _ _ _ _ _ h => h⟩

theorem quiet_grid (s : State) (x : GridState) (h : keptGrid x = keptGrid s.grid) : Quiet s { s with grid := x } :=
  .of_regs rfl (by simp [keptState, h])
theorem quiet_hst (s : State) (x : HstState) : Quiet s { s with hst := x } := .of_regs rfl rfl
theorem quiet_tdc (s : State) (x : TdcState) : Quiet s { s with tdc := x } := .of_regs rfl rfl
theorem quiet_pnt (s : State) (x : PntState) : Quiet s { s with pnt := x } := .of_regs rfl rfl
theorem quiet_host (s : State) (x : List HostMsg) : Quiet s { s with host := x } := .of_regs rfl rfl
theorem quiet_longs (s : State) (x : List LongCmd) : Quiet s { s with fw := { s.fw with longs := x } } := .of_regs rfl rfl
theorem quiet_lastRun (s : State) (x : Nat) : Quiet s { s with fw := { s.fw with lastRunFrame := x } } := .of_regs rfl rfl
theorem quiet_slots (s : State) (x : List (Nat × LoopState)) : Quiet s { s with ctl := { s.ctl with slots := x } } := .of_regs rfl rfl
theorem quiet_terms (s : State) (x : BitVec 8) : Quiet s { s with emt := { s.emt with terms := x } } := .of_regs rfl rfl
theorem quiet_keys (s : State) (x y : List (Nat × List Byte)) : Quiet s { s with sec := { s.sec with keys := x, pendingKeys := y } } :=
  .of_regs rfl rfl
theorem quiet_chans (s : State) (x : List (Nat × DetChan)) (n : Nat) : Quiet s { s with det := { s.det with chans := x, durSum := n } } :=
  .of_regs rfl rfl
theorem quiet_lineTail (s : State) (g : GridState) (x : List (Nat × DetChan)) (n : Nat)
    (h : keptGrid g = keptGrid s.grid) : Quiet s { s with grid := g, det := { s.det with durSum := n, chans := x } } :=
  .of_regs rfl (by simp [keptState, h])
theorem quiet_since (s : State) (x y : Option Nat) : Quiet s { s with det := { s.det with atSpSince := x, satSince := y } } := .of_regs rfl rfl
theorem quiet_flight (s : State) (c : Bool) (x : Option SlotInFlight) : Quiet s { s with sht := { s.sht with cut := c, flight := x } } :=
  .of_regs rfl rfl

theorem statusKey_evt {p w : Nat} (hp : p < 2) (hw : w < 8) : statusKey (EVT_STATUS p w) = true := by
  have h : p = 0 ∨ p = 1 := by omega
  rcases h with rfl | rfl <;> simp [statusKey, EVT_STATUS, bank] <;> omega

/-- A register the end of a step can write that is no EVT_STATUS. -/
def freeKey (k : Nat) : Bool := settleKey k && !statusKey k

theorem quiet_wr (s : State) {k : Nat} (w : Word) (h : freeKey k = true) : Quiet s (s.wr k w) := by
  simp only [freeKey, Bool.and_eq_true, Bool.not_eq_true'] at h
  refine ⟨fun j hj => rd_wr_other s w (fun e => by subst e; simp [h.1] at hj), rfl, fun _ hr => hr, fun p v n hp hv hs => ?_⟩
  rw [State.bit, rd_wr_other s w (fun e' => ?_)]
  · exact hs
  · have := statusKey_evt hp hv
    rw [e', h.2] at this; exact absurd this (by simp)

theorem quiet_setFld (s : State) (f : Fld) (v : Nat) (h : freeKey f.reg = true) : Quiet s (s.setFld f v) := quiet_wr s _ h
theorem quiet_setFlag (s : State) (f : Fld) (b : Bool) (h : freeKey f.reg = true) : Quiet s (s.setFlag f b) := quiet_wr s _ h
theorem quiet_setBit (s : State) {k : Nat} (n : Nat) (b : Bool) (h : freeKey k = true) : Quiet s (s.setBit k n b) := quiet_wr s _ h
theorem quiet_bump (s : State) (f : Fld) (n : Nat) (h : freeKey f.reg = true) : Quiet s (s.bump f n) := quiet_wr s _ h
theorem quiet_raise (s : State) (e : Nat) : Quiet s (s.raise e) := quiet_more s _
theorem quiet_raiseInfo (s : State) (e i : Nat) : Quiet s (s.raiseInfo e i) := quiet_more s _
theorem quiet_raiseIf (s : State) (c : Bool) (e : Nat) : Quiet s (s.raiseIf c e) := by
  unfold State.raiseIf; exact .ite (quiet_raise s e) (.refl s)

/-- A port's state changed in nothing but what an event entry changes. -/
theorem quiet_setPort (s : State) (p : Nat) (x : PortState) (h : keptPort x = keptPort (s.port p)) : Quiet s (s.setPort p x) := by
  unfold State.setPort State.port at *
  split <;> rename_i hp <;> simp [hp] at h <;> exact .of_regs rfl (by simp [keptState, h]) rfl

theorem quiet_loop (n : Nat) (f : Nat → State → State) (s : State) (h : ∀ i < n, ∀ t, Quiet t (f i t)) : Quiet s (loop n f s) := by
  induction n with
  | zero => exact .refl s
  | succ n ih => exact (ih fun i hi => h i (by omega)).trans (h n (by omega) _)

theorem quiet_foldl {β : Type} (l : List β) (f : State → β → State) (s : State) (h : ∀ t, ∀ b ∈ l, Quiet t (f t b)) :
    Quiet s (l.foldl f s) := by
  induction l generalizing s with
  | nil => exact .refl s
  | cons a t ih =>
    exact (h s a (by simp)).trans (ih (f s a) fun u b hb => h u b (by simp [hb]))

/-! ### The event log (R373 to R376) -/

theorem bank_lt {p : Nat} (hp : p < 2) {o : Nat} (ho : o < 0x4000000) : bank p + o < 0x8000000 ∧ (bank p + o) % 0x4000000 = o := by
  unfold bank; omega

theorem eventKey_bank {p : Nat} (hp : p < 2) {o : Nat}
    (ho : (0x40010 ≤ o ∧ o < 0x4001C) ∨ (0x40180 ≤ o ∧ o < 0x401AC) ∨ (0x3F01000 ≤ o ∧ o < 0x3F01008)) : freeKey (bank p + o) = true := by
  have h := bank_lt hp (o := o) (by omega)
  simp only [freeKey, statusKey, settleKey, eventKey, h.2, Bool.or_eq_true, Bool.and_eq_true, Bool.not_eq_true', Bool.and_eq_false_iff,
    decide_eq_true_eq, decide_eq_false_iff_not]
  refine ⟨.inl (.inl (.inl ⟨h.1, by omega⟩)), by omega⟩

theorem groupOf_lt (src : Nat) : groupOf src < 11 := by
  have : (groupStarts.filter (fun a => a ≤ src)).length ≤ 11 := List.length_filter_le _ _
  unfold groupOf; omega

theorem fld_lt (s : State) (f : Fld) : s.fld f < 2 ^ (f.hi + 1 - f.lo) := Nat.mod_lt _ (Nat.two_pow_pos _)

theorem quiet_sendVector (s : State) {p v : Nat} (hp : p < 2) (hv : v < 64) : Quiet s (s.sendVector p v) := by
  unfold State.sendVector
  refine .ite (quiet_setBit s _ _ ?_) (.of_regs rfl rfl)
  rw [Nat.add_assoc]; exact eventKey_bank hp (by omega)

theorem quiet_groupVector (s : State) {p : Nat} (hp : p < 2) (src : Nat) : Quiet s (s.groupVector p src) := by
  unfold State.groupVector
  refine .ite ?_ (.refl s)
  have hg := groupOf_lt src
  refine (quiet_setFlag s _ _ ?_).trans (quiet_sendVector _ hp ?_)
  · simp only [EVT_GRP_VEC]; rw [Nat.add_assoc]; exact eventKey_bank hp (by omega)
  · exact fld_lt s _

theorem keptPort_wr (s : State) (k : Nat) (w : Word) (p : Nat) :
    keptPort { s.port p with lostPending := true } = keptPort ((s.wr k w).port p) := by
  unfold State.port; split <;> rfl

theorem quiet_logEntry (s : State) {p : Nat} (hp : p < 2) (src : Nat) (info : Word) : Quiet s (s.logEntry p src info) := by
  unfold State.logEntry
  refine .ite ?_ (.refl s)
  extract_lets wr phase nx x0 base e s1 x1 s2 s3 s4
  refine .ite ?_ ?_
  · exact (quiet_bump s _ _ (eventKey_bank hp (by omega))).trans (quiet_setPort _ _ { s.port p with lostPending := true } (keptPort_wr s _ _ p))
  · have h1 : Quiet s s1 := quiet_host s _
    have h2 : Quiet s1 s2 := quiet_setPort s1 p _ rfl
    have h3 : Quiet s2 s3 := (quiet_setFld _ _ _ (eventKey_bank hp (by omega))).trans (quiet_setFlag _ _ _ (eventKey_bank hp (by omega)))
    have h4 : Quiet s3 s4 := quiet_wr _ _ (eventKey_bank hp (by omega))
    exact h1.trans (h2.trans (h3.trans (h4.trans (quiet_groupVector _ hp src))))

theorem wr_kept (s : State) (k : Nat) (w : Word) : keptState (s.wr k w) = keptState s := rfl
theorem wr_raised (s : State) (k : Nat) (w : Word) : (s.wr k w).raised = s.raised := rfl

theorem quiet_setStatus (s : State) {p w : Nat} (hp : p < 2) (hw : w < 8) (n : Nat) (hn : n < 32) :
    Quiet s (s.setBit (EVT_STATUS p w) n true) := by
  refine ⟨fun j hj => ?_, wr_kept s _ _, fun r hr => (wr_raised s _ _).symm ▸ hr, fun q v m _ _ hs => ?_⟩
  · rw [rd_setBit, if_neg]
    intro e
    have h := bank_lt hp (o := 0x40140 + 4 * w) (by omega)
    have : settleKey (EVT_STATUS p w) = true := by
      simp only [EVT_STATUS, Nat.add_assoc, settleKey, eventKey, h.2, Bool.or_eq_true, Bool.and_eq_true, decide_eq_true_eq]
      exact .inl (.inl (.inl ⟨h.1, by omega⟩))
    rw [e, this] at hj; exact absurd hj (by simp)
  · rw [State.bit, rd_setBit]
    split
    · rename_i h
      rw [put_testBit _ _ _ _ (by simp) (by simpa using hn)]
      split
      · rename_i h2
        have : m = n := by simp at h2; omega
        simp [this, b2n]
      · rw [← h]; exact hs
    · exact hs

theorem quiet_logOn (s : State) {p : Nat} (hp : p < 2) (src : Nat) (info : Word) : Quiet s (s.logOn p src info) := by
  unfold State.logOn
  exact .ite (.refl s) ((quiet_setStatus s hp (Nat.mod_lt _ (by omega)) _ (Nat.mod_lt _ (by omega))).trans (quiet_logEntry _ hp _ _))

/-- Logging a source sets its bit of EVT_STATUS on a port out of reset. -/
theorem logOn_bit (s : State) {p : Nat} (hp : p < 2) {src : Nat} (he : src < 256) (info : Word) (hr : s.portInReset p = false) :
    (s.logOn p src info).bit (EVT_STATUS p (src / 32)) (src % 32) = true := by
  unfold State.logOn
  rw [if_neg (by simp [hr]), show src / 32 % 8 = src / 32 by omega]
  refine (quiet_logEntry _ hp _ _).bits p _ _ hp (by omega) ?_
  rw [State.bit, rd_setBit, if_pos rfl, put_testBit _ _ _ _ (by simp) (by simp; omega)]
  simp [b2n]

theorem quiet_logRaised (s : State) (r : Raised) : Quiet s (s.logRaised r) :=
  (quiet_logOn s (by omega) _ _).trans (quiet_logOn _ (by omega) _ _)

theorem logRaised_bit (s : State) (r : Raised) {p : Nat} (hp : p < 2) (he : r.src < 256) (hr : s.portInReset p = false) :
    (s.logRaised r).bit (EVT_STATUS p (r.src / 32)) (r.src % 32) = true := by
  have h : p = 0 ∨ p = 1 := by omega
  unfold State.logRaised
  rcases h with rfl | rfl
  · exact (quiet_logOn _ (by omega) _ _).bits 0 _ _ (by omega) (by omega) (logOn_bit s (by omega) he _ hr)
  · refine logOn_bit _ (by omega) he _ ?_
    rw [keptState_reset (quiet_logOn s (by omega) _ _).kept]; exact hr

theorem mem_insertRaised {r x : Raised} {l : List Raised} : x ∈ insertRaised r l ↔ x = r ∨ x ∈ l := by
  induction l with
  | nil => simp [insertRaised]
  | cons a t ih =>
    unfold insertRaised
    split
    · simp only [List.mem_cons, ih]; tauto
    · simp

theorem mem_sortRaised {x : Raised} {l : List Raised} : x ∈ sortRaised l ↔ x ∈ l := by
  have : ∀ (l acc : List Raised), x ∈ l.foldl (fun acc r => insertRaised r acc) acc ↔ x ∈ l ∨ x ∈ acc := by
    intro l
    induction l with
    | nil => simp
    | cons a t ih => intro acc; simp only [List.foldl_cons, ih, mem_insertRaised, List.mem_cons]; tauto
  simp [sortRaised, this]

/-- The state with every raised source logged, before the list of raised sources is emptied. -/
def logged (s : State) : State := (sortRaised s.raised).foldl State.logRaised s

theorem quiet_logged (s : State) : Quiet s (logged s) := quiet_foldl _ _ s fun t r _ => quiet_logRaised t r

theorem logged_bit (s : State) {r : Raised} (h : r ∈ s.raised) {p : Nat} (hp : p < 2) (he : r.src < 256) (hr : s.portInReset p = false) :
    (logged s).bit (EVT_STATUS p (r.src / 32)) (r.src % 32) = true := by
  have : ∀ (l : List Raised) (t : State), r ∈ l → t.portInReset p = false →
      (l.foldl State.logRaised t).bit (EVT_STATUS p (r.src / 32)) (r.src % 32) = true := by
    intro l
    induction l with
    | nil => simp
    | cons a l ih =>
      intro t hl ht
      rcases List.mem_cons.mp hl with rfl | hl
      · exact (quiet_foldl l _ _ fun u x _ => quiet_logRaised u x).bits p _ _ hp (by omega) (logRaised_bit t r hp he ht)
      · exact ih _ hl (by rw [keptState_reset (quiet_logRaised t a).kept]; exact ht)
  exact this _ s (mem_sortRaised.mpr h) hr

/-! ### Packets (R192, R193, R195, R197) -/

theorem quiet_setSeq (s : State) (n : Nat) : Quiet s (s.setSeq n) := (quiet_wr s _ (by decide)).trans (quiet_wr _ _ (by decide))

theorem quiet_adoptStreamKey (s : State) : Quiet s s.adoptStreamKey := by
  unfold State.adoptStreamKey State.setKey
  refine .ite ?_ (.refl s)
  extract_lets k x0 s1 x1 s2 s3
  have h1 : Quiet s s1 := .of_regs rfl rfl
  have h2 : Quiet s1 s2 := .of_regs rfl rfl
  have h3 : Quiet s2 s3 := by
    refine Quiet.trans ?_ (quiet_setSeq _ _)
    refine Quiet.trans ?_ (quiet_setBit _ _ _ (by decide))
    exact (quiet_setBit _ _ _ (by decide)).trans (quiet_setFld _ _ _ (by decide))
  exact h1.trans (h2.trans (h3.trans (quiet_setFld _ _ _ (by decide))))

theorem quiet_formPacket (s : State) (d : List Nat) (r : Bool) (ty fl fr ln : Nat) (b : List Byte) :
    Quiet s (s.formPacket d r ty fl fr ln b) := by
  unfold State.formPacket
  refine .ite (.refl s) ?_
  extract_lets s1 signed head bytes s2
  have h : Quiet s s1 := .ite (.refl s) (quiet_adoptStreamKey s)
  refine h.trans (.ite (quiet_wr _ _ (by decide)) ?_)
  exact (quiet_setSeq s1 _).trans (quiet_pnt _ _)

theorem quiet_sendPacket (s : State) (k ty fl fr ln : Nat) (b : List Byte) : Quiet s (s.sendPacket k ty fl fr ln b) :=
  quiet_formPacket s _ _ _ _ _ _ _

theorem quiet_tryFrameEnd (s : State) : Quiet s s.tryFrameEnd := by
  unfold State.tryFrameEnd
  split
  · exact .refl s
  · split
    · exact .refl s
    · refine .ite (.refl s) ?_
      extract_lets x0 s1 body
      exact (quiet_pnt s _).trans (quiet_sendPacket s1 _ _ _ _ _ _)

theorem quiet_onFrame (s : State) (n : Nat) (f : FrameAcc → FrameAcc) : Quiet s (s.onFrame n f) := quiet_pnt s _
theorem quiet_endFrameAcc (s : State) (a b c d e : Nat) : Quiet s (s.endFrameAcc a b c d e) := quiet_pnt s _

/-! ### The end of a line, a frame and a run (R29, R30, R34, R72) -/

theorem quiet_setLane (s : State) (l : Nat) (x : Lane) : Quiet s (s.setLane l x) := quiet_tdc s _
theorem quiet_closeLane (s : State) (l : Nat) (a b : Bool) : Quiet s (s.closeLane l a b) := quiet_setLane s _ _
theorem quiet_closeLanes (s : State) (a : Bool) : Quiet s (s.closeLanes a) :=
  quiet_foldl _ _ s fun t _ _ => .ite (quiet_closeLane t _ _ _) (.refl t)

theorem quiet_discardWindow (s : State) : Quiet s s.discardWindow := by
  unfold State.discardWindow
  split
  · exact .refl s
  · extract_lets x0 s1
    exact (quiet_flight s _ _).trans (.ite (quiet_closeLanes s1 true) (.refl s1))

theorem quiet_onLine (s : State) (f : HstLine → HstLine) : Quiet s (s.onLine f) := quiet_hst s _

theorem quiet_stopLaunch (s : State) : Quiet s s.stopLaunch := by
  unfold State.stopLaunch
  extract_lets x0 s1
  have h1 : Quiet s s1 := quiet_flight s true s.sht.flight
  refine h1.trans ?_
  split
  · exact quiet_onLine s1 _
  · refine .ite (.refl s1) ?_
    exact Quiet.trans ((quiet_flight s1 s1.sht.cut none).trans (quiet_hst _ _)) (quiet_onLine _ _)

theorem quiet_deliverLine (s : State) : Quiet s s.deliverLine := by
  unfold State.deliverLine
  refine .ite ?_ (.refl s)
  extract_lets s1
  have h1 : Quiet s s1 := .ite (quiet_onLine s _) (.refl s)
  exact h1.trans (quiet_grid s1 _ rfl)

theorem quiet_dropPrepared (s : State) : Quiet s s.dropPrepared := by
  unfold State.dropPrepared
  split
  · exact .refl s
  · exact .of_regs rfl rfl

theorem settleKey_amb : ∀ {n : Nat}, n < 192 → freeKey (DET_AMB_V n).reg = true := by decide +kernel
theorem settleKey_rate : ∀ {n : Nat}, n < 192 → freeKey (DET_RATE_V n).reg = true := by decide +kernel

theorem quiet_endLine (s : State) : Quiet s s.endLine := by
  unfold State.endLine
  refine .ite (.refl s) ?_
  extract_lets dur s1 amb base mine x1 s2 s3
  have h1 : Quiet s s1 := quiet_wr s _ (by decide)
  have h2 : Quiet s1 s2 := quiet_hst s1 _
  have h3 : Quiet s2 s3 := quiet_loop 192 _ _ fun i hi t => quiet_setFld t _ _ (settleKey_amb hi)
  exact h1.trans (h2.trans (h3.trans (quiet_lineTail s3 _ _ _ rfl)))

theorem quiet_frameRates (s : State) : Quiet s s.frameRates := by
  unfold State.frameRates
  extract_lets d s1
  have h1 : Quiet s s1 := .ite (.refl s) (quiet_loop 192 _ _ fun i hi t => quiet_setFld t _ _ (settleKey_rate hi))
  exact h1.trans (quiet_chans s1 _ _)

theorem quiet_closeFrame (s : State) (c : Nat) : Quiet s (s.closeFrame c) := by
  unfold State.closeFrame
  refine (quiet_deliverLine s).trans ?_
  extract_lets s1 s2 x0 s3
  have h2 : Quiet s1 s3 := .ite (((quiet_endLine s1).trans (quiet_frameRates _)).trans (quiet_grid _ _ rfl)) (.refl s1)
  exact h2.trans (.ite ((quiet_pnt s3 _).trans (quiet_grid _ _ rfl)) (.refl s3))

theorem quiet_cutLine (s : State) : Quiet s s.cutLine :=
  (quiet_discardWindow s).trans ((quiet_stopLaunch _).trans (quiet_deliverLine _))

theorem quiet_loseEmission (s : State) (c : Nat) : Quiet s (s.loseEmission c) :=
  (quiet_dropPrepared s).trans ((quiet_stopLaunch _).trans (quiet_closeFrame _ c))

theorem quiet_endRun (s : State) : Quiet s s.endRun := by
  unfold State.endRun
  extract_lets was x0 s1 s2
  have h1 : Quiet s s1 := .of_regs rfl rfl
  have h2 : Quiet s1 s2 := quiet_setFlag _ _ _ (by decide)
  exact h1.trans (h2.trans (.ite (quiet_lastRun s2 _) (.refl s2)))

theorem quiet_abortRun (s : State) : Quiet s s.abortRun := by
  unfold State.abortRun
  exact .ite ((quiet_dropPrepared s).trans ((quiet_cutLine _).trans ((quiet_closeFrame _ _).trans (quiet_endRun _)))) (quiet_endRun s)

/-! ### The chain, SEC_FAULT and Priard (R85, R86, R353, R396) -/

theorem quiet_forceLow (s : State) : Quiet s s.forceLow := .of_regs rfl rfl

theorem quiet_settleChain (s : State) : Quiet s s.settleChain := by
  unfold State.settleChain
  extract_lets old new lost s1 x1 s2 s3 s4
  have h1 : Quiet s s1 := .ite (.refl s) (quiet_setFld s _ _ (by decide))
  have h2 : Quiet s1 s2 := quiet_terms s1 _
  have h3 : Quiet s2 s3 := quiet_setFld s2 _ _ (by decide)
  have h4 : Quiet s3 s4 := quiet_setFlag s3 _ _ (by decide)
  refine (h1.trans (h2.trans (h3.trans h4))).trans (.ite ?_ (.refl s4))
  exact ((quiet_forceLow s4).trans (quiet_loseEmission _ _)).trans (quiet_raiseIf _ _ _)

theorem quiet_settleFault (s : State) : Quiet s s.settleFault := by
  unfold State.settleFault
  extract_lets since x0 s1
  have h1 : Quiet s s1 := .of_regs rfl rfl
  exact h1.trans ((quiet_wr s1 _ (by decide)).trans (quiet_wr _ _ (by decide)))

theorem quiet_fwEnter (s : State) (n c : Nat) : Quiet s (s.fwEnter n c) :=
  (quiet_setFld s _ _ (by decide)).trans ((quiet_setFld _ _ _ (by decide)).trans (quiet_raiseInfo _ _ _))

theorem quiet_settleFw (s : State) : Quiet s s.settleFw := by
  have hd : ∀ t : State, Quiet t (t.setFlag EMT_ARM_ARM false) := fun t => quiet_setFlag t _ _ (by decide)
  unfold State.settleFw
  refine .ite (.refl s) (.ite ?_ (.ite ?_ (.ite ?_ (.ite ?_ (.ite ?_ (.ite (.refl s) (.ite ?_ (.ite ?_ (.ite ?_ (.ite ?_ (.refl s)))))))))))
  · exact (quiet_abortRun s).trans ((hd _).trans (quiet_fwEnter _ _ _))
  · exact .ite (hd s) (quiet_fwEnter _ _ _)
  · exact (quiet_loseEmission s _).trans ((quiet_endRun _).trans (quiet_fwEnter _ _ _))
  · exact .ite (.refl s) (quiet_fwEnter _ _ _)
  · exact .ite (quiet_fwEnter _ _ _) (.refl s)
  · exact quiet_fwEnter _ _ _
  · exact quiet_fwEnter _ _ _
  · exact quiet_fwEnter _ _ _
  · exact quiet_fwEnter _ _ _

theorem quiet_settleClamp1 (s : State) (n : Nat) : Quiet s (s.settleClamp1 n) := by
  unfold State.settleClamp1
  extract_lets l c s1
  refine .ite (.refl s) ?_
  have h1 : Quiet s s1 := quiet_slots s _
  exact h1.trans (.ite (quiet_raise s1 _) (.refl s1))

theorem quiet_settleClamp (s : State) : Quiet s s.settleClamp := quiet_loop 8 _ s fun i _ t => quiet_settleClamp1 t i

theorem quiet_settleCool (s : State) : Quiet s s.settleCool := by
  unfold State.settleCool
  extract_lets l near lim keep x0 s1 s2
  have h1 : Quiet s s1 := quiet_since s _ _
  have h2 : Quiet s1 s2 := .ite (.refl s1) (quiet_setFlag s1 _ _ (by decide))
  exact h1.trans (h2.trans (.ite (.refl s2) (quiet_setFlag s2 _ _ (by decide))))

theorem quiet_noteLongs (s : State) : Quiet s s.noteLongs := by
  unfold State.noteLongs; exact .ite (.refl s) (quiet_longs s _)

/-- The state at the end of a step before the raised sources are logged. -/
theorem settle_before (s : State) : ∃ u, Quiet s u ∧ s.settle = { logged u with raised := [], refused := none } := by
  unfold State.settle
  extract_lets s1 s2 s3 s4 s5
  have h1 : Quiet s s1 := .ite (.refl s) ((quiet_settleClamp s).trans (quiet_settleCool _))
  have h2 : Quiet s1 s2 := quiet_settleChain s1
  have h3 : Quiet s2 s3 := .ite (.refl s2) (quiet_settleFw s2)
  have h4 : Quiet s3 s4 := quiet_settleChain s3
  have h5 : Quiet s4 s5 := .ite (.refl s4) ((quiet_settleFault s4).trans ((quiet_tryFrameEnd _).trans (quiet_noteLongs _)))
  exact ⟨s5, h1.trans (h2.trans (h3.trans (h4.trans h5))), rfl⟩

/-- A register that the end of a step cannot write reads as the command left it. -/
theorem settle_rd (s : State) {k : Nat} (h : settleKey k = false) : s.settle.rd k = s.rd k := by
  obtain ⟨u, hu, e⟩ := settle_before s
  rw [e]
  exact (hu.trans (quiet_logged u)).rd k h

theorem settle_fld (s : State) {f : Fld} (h : settleKey f.reg = false) : s.settle.fld f = s.fld f := fld_congr (settle_rd s h)
theorem settle_flag (s : State) {f : Fld} (h : settleKey f.reg = false) : s.settle.flag f = s.flag f := flag_congr (settle_rd s h)
theorem settle_rdN (s : State) {k : Nat} (h : settleKey k = false) : s.settle.rdN k = s.rdN k := congrArg BitVec.toNat (settle_rd s h)

/-- What `keptState` keeps is as the command left it. -/
theorem settle_kept (s : State) : keptState s.settle = keptState s := by
  obtain ⟨u, hu, e⟩ := settle_before s
  rw [e]
  exact (hu.trans (quiet_logged u)).kept

@[simp] theorem settle_raised (s : State) : s.settle.raised = [] := by obtain ⟨u, _, e⟩ := settle_before s; rw [e]
@[simp] theorem settle_refused (s : State) : s.settle.refused = none := by obtain ⟨u, _, e⟩ := settle_before s; rw [e]

/-- A source the command raised has its bit of EVT_STATUS at the end of the step, on every port out of reset (R373). -/
theorem settle_status (s : State) {r : Raised} (h : r ∈ s.raised) {p : Nat} (hp : p < 2) (he : r.src < 256) (hr : s.portInReset p = false) :
    s.settle.bit (EVT_STATUS p (r.src / 32)) (r.src % 32) = true := by
  obtain ⟨u, hu, e⟩ := settle_before s
  rw [e]
  exact logged_bit u (hu.more r h) hp he (by rw [keptState_reset hu.kept]; exact hr)

/-- A bit of EVT_STATUS that stood before stands after (R373). -/
theorem settle_status_keep (s : State) {p w n : Nat} (hp : p < 2) (hw : w < 8) (h : s.bit (EVT_STATUS p w) n = true) :
    s.settle.bit (EVT_STATUS p w) n = true := by
  obtain ⟨u, hu, e⟩ := settle_before s
  rw [e]
  exact (hu.trans (quiet_logged u)).bits p w n hp hw h

@[simp] theorem settle_mem (s : State) : s.settle.mem = s.mem :=
  show (keptState s.settle).mem = (keptState s).mem by rw [settle_kept]
@[simp] theorem settle_poison (s : State) : s.settle.poison = s.poison :=
  show (keptState s.settle).poison = (keptState s).poison by rw [settle_kept]
@[simp] theorem settle_pending (s : State) : s.settle.pending = s.pending :=
  show (keptState s.settle).pending = (keptState s).pending by rw [settle_kept]
@[simp] theorem settle_inForce (s : State) : s.settle.inForce = s.inForce :=
  show (keptState s.settle).inForce = (keptState s).inForce by rw [settle_kept]
@[simp] theorem settle_now (s : State) : s.settle.now = s.now :=
  show (keptState s.settle).now = (keptState s).now by rw [settle_kept]
@[simp] theorem settle_devTime (s : State) : s.settle.devTime = s.devTime :=
  show (keptState s.settle).devTime = (keptState s).devTime by rw [settle_kept]
@[simp] theorem settle_rateCorr (s : State) : s.settle.rateCorr = s.rateCorr :=
  show (keptState s.settle).rateCorr = (keptState s).rateCorr by rw [settle_kept]
@[simp] theorem settle_freeCount (s : State) : s.settle.freeCount = s.freeCount :=
  show (keptState s.settle).freeCount = (keptState s).freeCount by rw [settle_kept]
@[simp] theorem settle_wire (s : State) : s.settle.wire = s.wire :=
  show (keptState s.settle).wire = (keptState s).wire by rw [settle_kept]
@[simp] theorem settle_dma (s : State) : s.settle.dma = s.dma :=
  show (keptState s.settle).dma = (keptState s).dma by rw [settle_kept]
@[simp] theorem settle_pwr (s : State) : s.settle.pwr = s.pwr :=
  show (keptState s.settle).pwr = (keptState s).pwr by rw [settle_kept]
@[simp] theorem settle_flood (s : State) : s.settle.flood = s.flood :=
  show (keptState s.settle).flood = (keptState s).flood by rw [settle_kept]
@[simp] theorem settle_thm (s : State) : s.settle.thm = s.thm :=
  show (keptState s.settle).thm = (keptState s).thm by rw [settle_kept]
@[simp] theorem settle_net (s : State) : s.settle.net = s.net :=
  show (keptState s.settle).net = (keptState s).net by rw [settle_kept]
@[simp] theorem settle_bgt (s : State) : s.settle.bgt = s.bgt :=
  show (keptState s.settle).bgt = (keptState s).bgt by rw [settle_kept]
@[simp] theorem settle_lnp (s : State) : s.settle.lnp = s.lnp :=
  show (keptState s.settle).lnp = (keptState s).lnp by rw [settle_kept]
@[simp] theorem settle_img (s : State) : s.settle.img = s.img :=
  show (keptState s.settle).img = (keptState s).img by rw [settle_kept]
@[simp] theorem settle_isp (s : State) : s.settle.isp = s.isp :=
  show (keptState s.settle).isp = (keptState s).isp by rw [settle_kept]
@[simp] theorem settle_afe (s : State) : s.settle.afe = s.afe :=
  show (keptState s.settle).afe = (keptState s).afe by rw [settle_kept]
@[simp] theorem settle_adc (s : State) : s.settle.adc = s.adc :=
  show (keptState s.settle).adc = (keptState s).adc by rw [settle_kept]
@[simp] theorem settle_cal (s : State) : s.settle.cal = s.cal :=
  show (keptState s.settle).cal = (keptState s).cal by rw [settle_kept]

@[simp] theorem settle_shtPending (s : State) : s.settle.sht.pending = s.sht.pending :=
  show (keptState s.settle).sht.pending = (keptState s).sht.pending by rw [settle_kept]
@[simp] theorem settle_shtStaged (s : State) : s.settle.sht.staged = s.sht.staged :=
  show (keptState s.settle).sht.staged = (keptState s).sht.staged by rw [settle_kept]

/-- Of the emission block, only the terms of the chain and the drive of the lands. -/
theorem settle_emt (s : State) : s.settle.emt = { s.emt with terms := s.settle.emt.terms, drive := s.settle.emt.drive } := by
  have h : (keptState s.settle).emt = (keptState s).emt := by rw [settle_kept]
  cases h1 : s.settle.emt; cases h2 : s.emt
  simp only [keptState, h1, h2, EmtState.mk.injEq] at h ⊢
  simp [h]

/-- Of the control engine, only what the slots hold. -/
theorem settle_ctl (s : State) : s.settle.ctl = { s.ctl with slots := s.settle.ctl.slots } := by
  have h : (keptState s.settle).ctl = (keptState s).ctl := by rw [settle_kept]
  cases h1 : s.settle.ctl; cases h2 : s.ctl
  simp only [keptState, h1, h2, CtlState.mk.injEq] at h ⊢
  simp [h]

/-- Of security, only the keys a stream key's adoption changes, and since when a land differs from its drive. -/
theorem settle_sec (s : State) : s.settle.sec = { s.sec with keys := s.settle.sec.keys, pendingKeys := s.settle.sec.pendingKeys,
                                                             emitDiffers := s.settle.sec.emitDiffers,
                                                             faultDiffers := s.settle.sec.faultDiffers } := by
  have h : (keptState s.settle).sec = (keptState s).sec := by rw [settle_kept]
  cases h1 : s.settle.sec; cases h2 : s.sec
  simp only [keptState, h1, h2, SecState.mk.injEq] at h ⊢
  simp [h]

/-- Of Priard, only the last run's frame and the long commands' notes. -/
theorem settle_fw (s : State) : s.settle.fw = { s.fw with lastRunFrame := s.settle.fw.lastRunFrame, longs := s.settle.fw.longs } := by
  have h : (keptState s.settle).fw = (keptState s).fw := by rw [settle_kept]
  cases h1 : s.settle.fw; cases h2 : s.fw
  simp only [keptState, h1, h2, FwState.mk.injEq] at h ⊢
  simp [h]

/-- A port's answer, and what it selected and latched, are as the command left them. -/
theorem settle_port (s : State) (p : Nat) : keptPort (s.settle.port p) = keptPort (s.port p) := by
  have ha : (keptState s.settle).portA = (keptState s).portA := by rw [settle_kept]
  have hb : (keptState s.settle).portB = (keptState s).portB := by rw [settle_kept]
  unfold State.port
  split
  · exact ha
  · exact hb

end Sys2Proof.Laws
end

