-- ==== Sys2Proof/Laws/State.lean ====
section
/-! SUPPORT. What each named update of the state leaves alone, and what it changes: one lemma for each field and update. -/

set_option Elab.async false

namespace Sys2Proof.Machine

/-! ### Setting a register -/

@[simp] theorem State.wr_regs (s : State) (k : Nat) (w : Word) : (s.wr k w).regs = tabSet (resetOf k) s.regs k w := rfl
@[simp] theorem State.wr_inForce (s : State) (k : Nat) (w : Word) : (s.wr k w).inForce = s.inForce := rfl
@[simp] theorem State.wr_now (s : State) (k : Nat) (w : Word) : (s.wr k w).now = s.now := rfl
@[simp] theorem State.wr_devTime (s : State) (k : Nat) (w : Word) : (s.wr k w).devTime = s.devTime := rfl
@[simp] theorem State.wr_rateCorr (s : State) (k : Nat) (w : Word) : (s.wr k w).rateCorr = s.rateCorr := rfl
@[simp] theorem State.wr_portA (s : State) (k : Nat) (w : Word) : (s.wr k w).portA = s.portA := rfl
@[simp] theorem State.wr_portB (s : State) (k : Nat) (w : Word) : (s.wr k w).portB = s.portB := rfl
@[simp] theorem State.wr_dma (s : State) (k : Nat) (w : Word) : (s.wr k w).dma = s.dma := rfl
@[simp] theorem State.wr_fw (s : State) (k : Nat) (w : Word) : (s.wr k w).fw = s.fw := rfl
@[simp] theorem State.wr_pwr (s : State) (k : Nat) (w : Word) : (s.wr k w).pwr = s.pwr := rfl
@[simp] theorem State.wr_grid (s : State) (k : Nat) (w : Word) : (s.wr k w).grid = s.grid := rfl
@[simp] theorem State.wr_ctl (s : State) (k : Nat) (w : Word) : (s.wr k w).ctl = s.ctl := rfl
@[simp] theorem State.wr_sht (s : State) (k : Nat) (w : Word) : (s.wr k w).sht = s.sht := rfl
@[simp] theorem State.wr_emt (s : State) (k : Nat) (w : Word) : (s.wr k w).emt = s.emt := rfl
@[simp] theorem State.wr_flood (s : State) (k : Nat) (w : Word) : (s.wr k w).flood = s.flood := rfl
@[simp] theorem State.wr_sec (s : State) (k : Nat) (w : Word) : (s.wr k w).sec = s.sec := rfl
@[simp] theorem State.wr_thm (s : State) (k : Nat) (w : Word) : (s.wr k w).thm = s.thm := rfl
@[simp] theorem State.wr_net (s : State) (k : Nat) (w : Word) : (s.wr k w).net = s.net := rfl
@[simp] theorem State.wr_det (s : State) (k : Nat) (w : Word) : (s.wr k w).det = s.det := rfl
@[simp] theorem State.wr_tdc (s : State) (k : Nat) (w : Word) : (s.wr k w).tdc = s.tdc := rfl
@[simp] theorem State.wr_bgt (s : State) (k : Nat) (w : Word) : (s.wr k w).bgt = s.bgt := rfl
@[simp] theorem State.wr_lnp (s : State) (k : Nat) (w : Word) : (s.wr k w).lnp = s.lnp := rfl
@[simp] theorem State.wr_hst (s : State) (k : Nat) (w : Word) : (s.wr k w).hst = s.hst := rfl
@[simp] theorem State.wr_pnt (s : State) (k : Nat) (w : Word) : (s.wr k w).pnt = s.pnt := rfl
@[simp] theorem State.wr_img (s : State) (k : Nat) (w : Word) : (s.wr k w).img = s.img := rfl
@[simp] theorem State.wr_isp (s : State) (k : Nat) (w : Word) : (s.wr k w).isp = s.isp := rfl
@[simp] theorem State.wr_afe (s : State) (k : Nat) (w : Word) : (s.wr k w).afe = s.afe := rfl
@[simp] theorem State.wr_adc (s : State) (k : Nat) (w : Word) : (s.wr k w).adc = s.adc := rfl
@[simp] theorem State.wr_cal (s : State) (k : Nat) (w : Word) : (s.wr k w).cal = s.cal := rfl
@[simp] theorem State.wr_mem (s : State) (k : Nat) (w : Word) : (s.wr k w).mem = s.mem := rfl
@[simp] theorem State.wr_poison (s : State) (k : Nat) (w : Word) : (s.wr k w).poison = s.poison := rfl
@[simp] theorem State.wr_host (s : State) (k : Nat) (w : Word) : (s.wr k w).host = s.host := rfl
@[simp] theorem State.wr_wire (s : State) (k : Nat) (w : Word) : (s.wr k w).wire = s.wire := rfl
@[simp] theorem State.wr_raised (s : State) (k : Nat) (w : Word) : (s.wr k w).raised = s.raised := rfl
@[simp] theorem State.wr_refused (s : State) (k : Nat) (w : Word) : (s.wr k w).refused = s.refused := rfl
@[simp] theorem State.wr_freeCount (s : State) (k : Nat) (w : Word) : (s.wr k w).freeCount = s.freeCount := rfl
@[simp] theorem State.wr_pending (s : State) (k : Nat) (w : Word) : (s.wr k w).pending = s.pending := rfl

@[simp] theorem State.wrN_regs (s : State) (k v : Nat) : (s.wrN k v).regs = (s.wr k (BitVec.ofNat 32 v)).regs := rfl
@[simp] theorem State.wrN_inForce (s : State) (k v : Nat) : (s.wrN k v).inForce = s.inForce := rfl
@[simp] theorem State.wrN_now (s : State) (k v : Nat) : (s.wrN k v).now = s.now := rfl
@[simp] theorem State.wrN_devTime (s : State) (k v : Nat) : (s.wrN k v).devTime = s.devTime := rfl
@[simp] theorem State.wrN_rateCorr (s : State) (k v : Nat) : (s.wrN k v).rateCorr = s.rateCorr := rfl
@[simp] theorem State.wrN_portA (s : State) (k v : Nat) : (s.wrN k v).portA = s.portA := rfl
@[simp] theorem State.wrN_portB (s : State) (k v : Nat) : (s.wrN k v).portB = s.portB := rfl
@[simp] theorem State.wrN_dma (s : State) (k v : Nat) : (s.wrN k v).dma = s.dma := rfl
@[simp] theorem State.wrN_fw (s : State) (k v : Nat) : (s.wrN k v).fw = s.fw := rfl
@[simp] theorem State.wrN_pwr (s : State) (k v : Nat) : (s.wrN k v).pwr = s.pwr := rfl
@[simp] theorem State.wrN_grid (s : State) (k v : Nat) : (s.wrN k v).grid = s.grid := rfl
@[simp] theorem State.wrN_ctl (s : State) (k v : Nat) : (s.wrN k v).ctl = s.ctl := rfl
@[simp] theorem State.wrN_sht (s : State) (k v : Nat) : (s.wrN k v).sht = s.sht := rfl
@[simp] theorem State.wrN_emt (s : State) (k v : Nat) : (s.wrN k v).emt = s.emt := rfl
@[simp] theorem State.wrN_flood (s : State) (k v : Nat) : (s.wrN k v).flood = s.flood := rfl
@[simp] theorem State.wrN_sec (s : State) (k v : Nat) : (s.wrN k v).sec = s.sec := rfl
@[simp] theorem State.wrN_thm (s : State) (k v : Nat) : (s.wrN k v).thm = s.thm := rfl
@[simp] theorem State.wrN_net (s : State) (k v : Nat) : (s.wrN k v).net = s.net := rfl
@[simp] theorem State.wrN_det (s : State) (k v : Nat) : (s.wrN k v).det = s.det := rfl
@[simp] theorem State.wrN_tdc (s : State) (k v : Nat) : (s.wrN k v).tdc = s.tdc := rfl
@[simp] theorem State.wrN_bgt (s : State) (k v : Nat) : (s.wrN k v).bgt = s.bgt := rfl
@[simp] theorem State.wrN_lnp (s : State) (k v : Nat) : (s.wrN k v).lnp = s.lnp := rfl
@[simp] theorem State.wrN_hst (s : State) (k v : Nat) : (s.wrN k v).hst = s.hst := rfl
@[simp] theorem State.wrN_pnt (s : State) (k v : Nat) : (s.wrN k v).pnt = s.pnt := rfl
@[simp] theorem State.wrN_img (s : State) (k v : Nat) : (s.wrN k v).img = s.img := rfl
@[simp] theorem State.wrN_isp (s : State) (k v : Nat) : (s.wrN k v).isp = s.isp := rfl
@[simp] theorem State.wrN_afe (s : State) (k v : Nat) : (s.wrN k v).afe = s.afe := rfl
@[simp] theorem State.wrN_adc (s : State) (k v : Nat) : (s.wrN k v).adc = s.adc := rfl
@[simp] theorem State.wrN_cal (s : State) (k v : Nat) : (s.wrN k v).cal = s.cal := rfl
@[simp] theorem State.wrN_mem (s : State) (k v : Nat) : (s.wrN k v).mem = s.mem := rfl
@[simp] theorem State.wrN_poison (s : State) (k v : Nat) : (s.wrN k v).poison = s.poison := rfl
@[simp] theorem State.wrN_host (s : State) (k v : Nat) : (s.wrN k v).host = s.host := rfl
@[simp] theorem State.wrN_wire (s : State) (k v : Nat) : (s.wrN k v).wire = s.wire := rfl
@[simp] theorem State.wrN_raised (s : State) (k v : Nat) : (s.wrN k v).raised = s.raised := rfl
@[simp] theorem State.wrN_refused (s : State) (k v : Nat) : (s.wrN k v).refused = s.refused := rfl
@[simp] theorem State.wrN_freeCount (s : State) (k v : Nat) : (s.wrN k v).freeCount = s.freeCount := rfl
@[simp] theorem State.wrN_pending (s : State) (k v : Nat) : (s.wrN k v).pending = s.pending := rfl

@[simp] theorem State.setFld_regs (s : State) (f : Fld) (v : Nat) : (s.setFld f v).regs = (s.wr f.reg (f.put (s.rd f.reg) v)).regs := rfl
@[simp] theorem State.setFld_inForce (s : State) (f : Fld) (v : Nat) : (s.setFld f v).inForce = s.inForce := rfl
@[simp] theorem State.setFld_now (s : State) (f : Fld) (v : Nat) : (s.setFld f v).now = s.now := rfl
@[simp] theorem State.setFld_devTime (s : State) (f : Fld) (v : Nat) : (s.setFld f v).devTime = s.devTime := rfl
@[simp] theorem State.setFld_rateCorr (s : State) (f : Fld) (v : Nat) : (s.setFld f v).rateCorr = s.rateCorr := rfl
@[simp] theorem State.setFld_portA (s : State) (f : Fld) (v : Nat) : (s.setFld f v).portA = s.portA := rfl
@[simp] theorem State.setFld_portB (s : State) (f : Fld) (v : Nat) : (s.setFld f v).portB = s.portB := rfl
@[simp] theorem State.setFld_dma (s : State) (f : Fld) (v : Nat) : (s.setFld f v).dma = s.dma := rfl
@[simp] theorem State.setFld_fw (s : State) (f : Fld) (v : Nat) : (s.setFld f v).fw = s.fw := rfl
@[simp] theorem State.setFld_pwr (s : State) (f : Fld) (v : Nat) : (s.setFld f v).pwr = s.pwr := rfl
@[simp] theorem State.setFld_grid (s : State) (f : Fld) (v : Nat) : (s.setFld f v).grid = s.grid := rfl
@[simp] theorem State.setFld_ctl (s : State) (f : Fld) (v : Nat) : (s.setFld f v).ctl = s.ctl := rfl
@[simp] theorem State.setFld_sht (s : State) (f : Fld) (v : Nat) : (s.setFld f v).sht = s.sht := rfl
@[simp] theorem State.setFld_emt (s : State) (f : Fld) (v : Nat) : (s.setFld f v).emt = s.emt := rfl
@[simp] theorem State.setFld_flood (s : State) (f : Fld) (v : Nat) : (s.setFld f v).flood = s.flood := rfl
@[simp] theorem State.setFld_sec (s : State) (f : Fld) (v : Nat) : (s.setFld f v).sec = s.sec := rfl
@[simp] theorem State.setFld_thm (s : State) (f : Fld) (v : Nat) : (s.setFld f v).thm = s.thm := rfl
@[simp] theorem State.setFld_net (s : State) (f : Fld) (v : Nat) : (s.setFld f v).net = s.net := rfl
@[simp] theorem State.setFld_det (s : State) (f : Fld) (v : Nat) : (s.setFld f v).det = s.det := rfl
@[simp] theorem State.setFld_tdc (s : State) (f : Fld) (v : Nat) : (s.setFld f v).tdc = s.tdc := rfl
@[simp] theorem State.setFld_bgt (s : State) (f : Fld) (v : Nat) : (s.setFld f v).bgt = s.bgt := rfl
@[simp] theorem State.setFld_lnp (s : State) (f : Fld) (v : Nat) : (s.setFld f v).lnp = s.lnp := rfl
@[simp] theorem State.setFld_hst (s : State) (f : Fld) (v : Nat) : (s.setFld f v).hst = s.hst := rfl
@[simp] theorem State.setFld_pnt (s : State) (f : Fld) (v : Nat) : (s.setFld f v).pnt = s.pnt := rfl
@[simp] theorem State.setFld_img (s : State) (f : Fld) (v : Nat) : (s.setFld f v).img = s.img := rfl
@[simp] theorem State.setFld_isp (s : State) (f : Fld) (v : Nat) : (s.setFld f v).isp = s.isp := rfl
@[simp] theorem State.setFld_afe (s : State) (f : Fld) (v : Nat) : (s.setFld f v).afe = s.afe := rfl
@[simp] theorem State.setFld_adc (s : State) (f : Fld) (v : Nat) : (s.setFld f v).adc = s.adc := rfl
@[simp] theorem State.setFld_cal (s : State) (f : Fld) (v : Nat) : (s.setFld f v).cal = s.cal := rfl
@[simp] theorem State.setFld_mem (s : State) (f : Fld) (v : Nat) : (s.setFld f v).mem = s.mem := rfl
@[simp] theorem State.setFld_poison (s : State) (f : Fld) (v : Nat) : (s.setFld f v).poison = s.poison := rfl
@[simp] theorem State.setFld_host (s : State) (f : Fld) (v : Nat) : (s.setFld f v).host = s.host := rfl
@[simp] theorem State.setFld_wire (s : State) (f : Fld) (v : Nat) : (s.setFld f v).wire = s.wire := rfl
@[simp] theorem State.setFld_raised (s : State) (f : Fld) (v : Nat) : (s.setFld f v).raised = s.raised := rfl
@[simp] theorem State.setFld_refused (s : State) (f : Fld) (v : Nat) : (s.setFld f v).refused = s.refused := rfl
@[simp] theorem State.setFld_freeCount (s : State) (f : Fld) (v : Nat) : (s.setFld f v).freeCount = s.freeCount := rfl
@[simp] theorem State.setFld_pending (s : State) (f : Fld) (v : Nat) : (s.setFld f v).pending = s.pending := rfl

@[simp] theorem State.setFlag_regs (s : State) (f : Fld) (b : Bool) : (s.setFlag f b).regs = (s.setFld f (b2n b)).regs := rfl
@[simp] theorem State.setFlag_inForce (s : State) (f : Fld) (b : Bool) : (s.setFlag f b).inForce = s.inForce := rfl
@[simp] theorem State.setFlag_now (s : State) (f : Fld) (b : Bool) : (s.setFlag f b).now = s.now := rfl
@[simp] theorem State.setFlag_devTime (s : State) (f : Fld) (b : Bool) : (s.setFlag f b).devTime = s.devTime := rfl
@[simp] theorem State.setFlag_rateCorr (s : State) (f : Fld) (b : Bool) : (s.setFlag f b).rateCorr = s.rateCorr := rfl
@[simp] theorem State.setFlag_portA (s : State) (f : Fld) (b : Bool) : (s.setFlag f b).portA = s.portA := rfl
@[simp] theorem State.setFlag_portB (s : State) (f : Fld) (b : Bool) : (s.setFlag f b).portB = s.portB := rfl
@[simp] theorem State.setFlag_dma (s : State) (f : Fld) (b : Bool) : (s.setFlag f b).dma = s.dma := rfl
@[simp] theorem State.setFlag_fw (s : State) (f : Fld) (b : Bool) : (s.setFlag f b).fw = s.fw := rfl
@[simp] theorem State.setFlag_pwr (s : State) (f : Fld) (b : Bool) : (s.setFlag f b).pwr = s.pwr := rfl
@[simp] theorem State.setFlag_grid (s : State) (f : Fld) (b : Bool) : (s.setFlag f b).grid = s.grid := rfl
@[simp] theorem State.setFlag_ctl (s : State) (f : Fld) (b : Bool) : (s.setFlag f b).ctl = s.ctl := rfl
@[simp] theorem State.setFlag_sht (s : State) (f : Fld) (b : Bool) : (s.setFlag f b).sht = s.sht := rfl
@[simp] theorem State.setFlag_emt (s : State) (f : Fld) (b : Bool) : (s.setFlag f b).emt = s.emt := rfl
@[simp] theorem State.setFlag_flood (s : State) (f : Fld) (b : Bool) : (s.setFlag f b).flood = s.flood := rfl
@[simp] theorem State.setFlag_sec (s : State) (f : Fld) (b : Bool) : (s.setFlag f b).sec = s.sec := rfl
@[simp] theorem State.setFlag_thm (s : State) (f : Fld) (b : Bool) : (s.setFlag f b).thm = s.thm := rfl
@[simp] theorem State.setFlag_net (s : State) (f : Fld) (b : Bool) : (s.setFlag f b).net = s.net := rfl
@[simp] theorem State.setFlag_det (s : State) (f : Fld) (b : Bool) : (s.setFlag f b).det = s.det := rfl
@[simp] theorem State.setFlag_tdc (s : State) (f : Fld) (b : Bool) : (s.setFlag f b).tdc = s.tdc := rfl
@[simp] theorem State.setFlag_bgt (s : State) (f : Fld) (b : Bool) : (s.setFlag f b).bgt = s.bgt := rfl
@[simp] theorem State.setFlag_lnp (s : State) (f : Fld) (b : Bool) : (s.setFlag f b).lnp = s.lnp := rfl
@[simp] theorem State.setFlag_hst (s : State) (f : Fld) (b : Bool) : (s.setFlag f b).hst = s.hst := rfl
@[simp] theorem State.setFlag_pnt (s : State) (f : Fld) (b : Bool) : (s.setFlag f b).pnt = s.pnt := rfl
@[simp] theorem State.setFlag_img (s : State) (f : Fld) (b : Bool) : (s.setFlag f b).img = s.img := rfl
@[simp] theorem State.setFlag_isp (s : State) (f : Fld) (b : Bool) : (s.setFlag f b).isp = s.isp := rfl
@[simp] theorem State.setFlag_afe (s : State) (f : Fld) (b : Bool) : (s.setFlag f b).afe = s.afe := rfl
@[simp] theorem State.setFlag_adc (s : State) (f : Fld) (b : Bool) : (s.setFlag f b).adc = s.adc := rfl
@[simp] theorem State.setFlag_cal (s : State) (f : Fld) (b : Bool) : (s.setFlag f b).cal = s.cal := rfl
@[simp] theorem State.setFlag_mem (s : State) (f : Fld) (b : Bool) : (s.setFlag f b).mem = s.mem := rfl
@[simp] theorem State.setFlag_poison (s : State) (f : Fld) (b : Bool) : (s.setFlag f b).poison = s.poison := rfl
@[simp] theorem State.setFlag_host (s : State) (f : Fld) (b : Bool) : (s.setFlag f b).host = s.host := rfl
@[simp] theorem State.setFlag_wire (s : State) (f : Fld) (b : Bool) : (s.setFlag f b).wire = s.wire := rfl
@[simp] theorem State.setFlag_raised (s : State) (f : Fld) (b : Bool) : (s.setFlag f b).raised = s.raised := rfl
@[simp] theorem State.setFlag_refused (s : State) (f : Fld) (b : Bool) : (s.setFlag f b).refused = s.refused := rfl
@[simp] theorem State.setFlag_freeCount (s : State) (f : Fld) (b : Bool) : (s.setFlag f b).freeCount = s.freeCount := rfl
@[simp] theorem State.setFlag_pending (s : State) (f : Fld) (b : Bool) : (s.setFlag f b).pending = s.pending := rfl

@[simp] theorem State.setFldI_regs (s : State) (f : Fld) (x : Int) : (s.setFldI f x).regs = (s.setFld f (toBits (f.hi + 1 - f.lo) x)).regs := rfl
@[simp] theorem State.setFldI_inForce (s : State) (f : Fld) (x : Int) : (s.setFldI f x).inForce = s.inForce := rfl
@[simp] theorem State.setFldI_now (s : State) (f : Fld) (x : Int) : (s.setFldI f x).now = s.now := rfl
@[simp] theorem State.setFldI_devTime (s : State) (f : Fld) (x : Int) : (s.setFldI f x).devTime = s.devTime := rfl
@[simp] theorem State.setFldI_rateCorr (s : State) (f : Fld) (x : Int) : (s.setFldI f x).rateCorr = s.rateCorr := rfl
@[simp] theorem State.setFldI_portA (s : State) (f : Fld) (x : Int) : (s.setFldI f x).portA = s.portA := rfl
@[simp] theorem State.setFldI_portB (s : State) (f : Fld) (x : Int) : (s.setFldI f x).portB = s.portB := rfl
@[simp] theorem State.setFldI_dma (s : State) (f : Fld) (x : Int) : (s.setFldI f x).dma = s.dma := rfl
@[simp] theorem State.setFldI_fw (s : State) (f : Fld) (x : Int) : (s.setFldI f x).fw = s.fw := rfl
@[simp] theorem State.setFldI_pwr (s : State) (f : Fld) (x : Int) : (s.setFldI f x).pwr = s.pwr := rfl
@[simp] theorem State.setFldI_grid (s : State) (f : Fld) (x : Int) : (s.setFldI f x).grid = s.grid := rfl
@[simp] theorem State.setFldI_ctl (s : State) (f : Fld) (x : Int) : (s.setFldI f x).ctl = s.ctl := rfl
@[simp] theorem State.setFldI_sht (s : State) (f : Fld) (x : Int) : (s.setFldI f x).sht = s.sht := rfl
@[simp] theorem State.setFldI_emt (s : State) (f : Fld) (x : Int) : (s.setFldI f x).emt = s.emt := rfl
@[simp] theorem State.setFldI_flood (s : State) (f : Fld) (x : Int) : (s.setFldI f x).flood = s.flood := rfl
@[simp] theorem State.setFldI_sec (s : State) (f : Fld) (x : Int) : (s.setFldI f x).sec = s.sec := rfl
@[simp] theorem State.setFldI_thm (s : State) (f : Fld) (x : Int) : (s.setFldI f x).thm = s.thm := rfl
@[simp] theorem State.setFldI_net (s : State) (f : Fld) (x : Int) : (s.setFldI f x).net = s.net := rfl
@[simp] theorem State.setFldI_det (s : State) (f : Fld) (x : Int) : (s.setFldI f x).det = s.det := rfl
@[simp] theorem State.setFldI_tdc (s : State) (f : Fld) (x : Int) : (s.setFldI f x).tdc = s.tdc := rfl
@[simp] theorem State.setFldI_bgt (s : State) (f : Fld) (x : Int) : (s.setFldI f x).bgt = s.bgt := rfl
@[simp] theorem State.setFldI_lnp (s : State) (f : Fld) (x : Int) : (s.setFldI f x).lnp = s.lnp := rfl
@[simp] theorem State.setFldI_hst (s : State) (f : Fld) (x : Int) : (s.setFldI f x).hst = s.hst := rfl
@[simp] theorem State.setFldI_pnt (s : State) (f : Fld) (x : Int) : (s.setFldI f x).pnt = s.pnt := rfl
@[simp] theorem State.setFldI_img (s : State) (f : Fld) (x : Int) : (s.setFldI f x).img = s.img := rfl
@[simp] theorem State.setFldI_isp (s : State) (f : Fld) (x : Int) : (s.setFldI f x).isp = s.isp := rfl
@[simp] theorem State.setFldI_afe (s : State) (f : Fld) (x : Int) : (s.setFldI f x).afe = s.afe := rfl
@[simp] theorem State.setFldI_adc (s : State) (f : Fld) (x : Int) : (s.setFldI f x).adc = s.adc := rfl
@[simp] theorem State.setFldI_cal (s : State) (f : Fld) (x : Int) : (s.setFldI f x).cal = s.cal := rfl
@[simp] theorem State.setFldI_mem (s : State) (f : Fld) (x : Int) : (s.setFldI f x).mem = s.mem := rfl
@[simp] theorem State.setFldI_poison (s : State) (f : Fld) (x : Int) : (s.setFldI f x).poison = s.poison := rfl
@[simp] theorem State.setFldI_host (s : State) (f : Fld) (x : Int) : (s.setFldI f x).host = s.host := rfl
@[simp] theorem State.setFldI_wire (s : State) (f : Fld) (x : Int) : (s.setFldI f x).wire = s.wire := rfl
@[simp] theorem State.setFldI_raised (s : State) (f : Fld) (x : Int) : (s.setFldI f x).raised = s.raised := rfl
@[simp] theorem State.setFldI_refused (s : State) (f : Fld) (x : Int) : (s.setFldI f x).refused = s.refused := rfl
@[simp] theorem State.setFldI_freeCount (s : State) (f : Fld) (x : Int) : (s.setFldI f x).freeCount = s.freeCount := rfl
@[simp] theorem State.setFldI_pending (s : State) (f : Fld) (x : Int) : (s.setFldI f x).pending = s.pending := rfl

@[simp] theorem State.setBit_regs (s : State) (k n : Nat) (b : Bool) : (s.setBit k n b).regs = (s.setFlag ⟨k, n, n⟩ b).regs := rfl
@[simp] theorem State.setBit_inForce (s : State) (k n : Nat) (b : Bool) : (s.setBit k n b).inForce = s.inForce := rfl
@[simp] theorem State.setBit_now (s : State) (k n : Nat) (b : Bool) : (s.setBit k n b).now = s.now := rfl
@[simp] theorem State.setBit_devTime (s : State) (k n : Nat) (b : Bool) : (s.setBit k n b).devTime = s.devTime := rfl
@[simp] theorem State.setBit_rateCorr (s : State) (k n : Nat) (b : Bool) : (s.setBit k n b).rateCorr = s.rateCorr := rfl
@[simp] theorem State.setBit_portA (s : State) (k n : Nat) (b : Bool) : (s.setBit k n b).portA = s.portA := rfl
@[simp] theorem State.setBit_portB (s : State) (k n : Nat) (b : Bool) : (s.setBit k n b).portB = s.portB := rfl
@[simp] theorem State.setBit_dma (s : State) (k n : Nat) (b : Bool) : (s.setBit k n b).dma = s.dma := rfl
@[simp] theorem State.setBit_fw (s : State) (k n : Nat) (b : Bool) : (s.setBit k n b).fw = s.fw := rfl
@[simp] theorem State.setBit_pwr (s : State) (k n : Nat) (b : Bool) : (s.setBit k n b).pwr = s.pwr := rfl
@[simp] theorem State.setBit_grid (s : State) (k n : Nat) (b : Bool) : (s.setBit k n b).grid = s.grid := rfl
@[simp] theorem State.setBit_ctl (s : State) (k n : Nat) (b : Bool) : (s.setBit k n b).ctl = s.ctl := rfl
@[simp] theorem State.setBit_sht (s : State) (k n : Nat) (b : Bool) : (s.setBit k n b).sht = s.sht := rfl
@[simp] theorem State.setBit_emt (s : State) (k n : Nat) (b : Bool) : (s.setBit k n b).emt = s.emt := rfl
@[simp] theorem State.setBit_flood (s : State) (k n : Nat) (b : Bool) : (s.setBit k n b).flood = s.flood := rfl
@[simp] theorem State.setBit_sec (s : State) (k n : Nat) (b : Bool) : (s.setBit k n b).sec = s.sec := rfl
@[simp] theorem State.setBit_thm (s : State) (k n : Nat) (b : Bool) : (s.setBit k n b).thm = s.thm := rfl
@[simp] theorem State.setBit_net (s : State) (k n : Nat) (b : Bool) : (s.setBit k n b).net = s.net := rfl
@[simp] theorem State.setBit_det (s : State) (k n : Nat) (b : Bool) : (s.setBit k n b).det = s.det := rfl
@[simp] theorem State.setBit_tdc (s : State) (k n : Nat) (b : Bool) : (s.setBit k n b).tdc = s.tdc := rfl
@[simp] theorem State.setBit_bgt (s : State) (k n : Nat) (b : Bool) : (s.setBit k n b).bgt = s.bgt := rfl
@[simp] theorem State.setBit_lnp (s : State) (k n : Nat) (b : Bool) : (s.setBit k n b).lnp = s.lnp := rfl
@[simp] theorem State.setBit_hst (s : State) (k n : Nat) (b : Bool) : (s.setBit k n b).hst = s.hst := rfl
@[simp] theorem State.setBit_pnt (s : State) (k n : Nat) (b : Bool) : (s.setBit k n b).pnt = s.pnt := rfl
@[simp] theorem State.setBit_img (s : State) (k n : Nat) (b : Bool) : (s.setBit k n b).img = s.img := rfl
@[simp] theorem State.setBit_isp (s : State) (k n : Nat) (b : Bool) : (s.setBit k n b).isp = s.isp := rfl
@[simp] theorem State.setBit_afe (s : State) (k n : Nat) (b : Bool) : (s.setBit k n b).afe = s.afe := rfl
@[simp] theorem State.setBit_adc (s : State) (k n : Nat) (b : Bool) : (s.setBit k n b).adc = s.adc := rfl
@[simp] theorem State.setBit_cal (s : State) (k n : Nat) (b : Bool) : (s.setBit k n b).cal = s.cal := rfl
@[simp] theorem State.setBit_mem (s : State) (k n : Nat) (b : Bool) : (s.setBit k n b).mem = s.mem := rfl
@[simp] theorem State.setBit_poison (s : State) (k n : Nat) (b : Bool) : (s.setBit k n b).poison = s.poison := rfl
@[simp] theorem State.setBit_host (s : State) (k n : Nat) (b : Bool) : (s.setBit k n b).host = s.host := rfl
@[simp] theorem State.setBit_wire (s : State) (k n : Nat) (b : Bool) : (s.setBit k n b).wire = s.wire := rfl
@[simp] theorem State.setBit_raised (s : State) (k n : Nat) (b : Bool) : (s.setBit k n b).raised = s.raised := rfl
@[simp] theorem State.setBit_refused (s : State) (k n : Nat) (b : Bool) : (s.setBit k n b).refused = s.refused := rfl
@[simp] theorem State.setBit_freeCount (s : State) (k n : Nat) (b : Bool) : (s.setBit k n b).freeCount = s.freeCount := rfl
@[simp] theorem State.setBit_pending (s : State) (k n : Nat) (b : Bool) : (s.setBit k n b).pending = s.pending := rfl

@[simp] theorem State.bump_regs (s : State) (f : Fld) (n : Nat) : (s.bump f n).regs = (s.setFld f (min (2 ^ (f.hi + 1 - f.lo) - 1) (s.fld f + n))).regs := rfl
@[simp] theorem State.bump_inForce (s : State) (f : Fld) (n : Nat) : (s.bump f n).inForce = s.inForce := rfl
@[simp] theorem State.bump_now (s : State) (f : Fld) (n : Nat) : (s.bump f n).now = s.now := rfl
@[simp] theorem State.bump_devTime (s : State) (f : Fld) (n : Nat) : (s.bump f n).devTime = s.devTime := rfl
@[simp] theorem State.bump_rateCorr (s : State) (f : Fld) (n : Nat) : (s.bump f n).rateCorr = s.rateCorr := rfl
@[simp] theorem State.bump_portA (s : State) (f : Fld) (n : Nat) : (s.bump f n).portA = s.portA := rfl
@[simp] theorem State.bump_portB (s : State) (f : Fld) (n : Nat) : (s.bump f n).portB = s.portB := rfl
@[simp] theorem State.bump_dma (s : State) (f : Fld) (n : Nat) : (s.bump f n).dma = s.dma := rfl
@[simp] theorem State.bump_fw (s : State) (f : Fld) (n : Nat) : (s.bump f n).fw = s.fw := rfl
@[simp] theorem State.bump_pwr (s : State) (f : Fld) (n : Nat) : (s.bump f n).pwr = s.pwr := rfl
@[simp] theorem State.bump_grid (s : State) (f : Fld) (n : Nat) : (s.bump f n).grid = s.grid := rfl
@[simp] theorem State.bump_ctl (s : State) (f : Fld) (n : Nat) : (s.bump f n).ctl = s.ctl := rfl
@[simp] theorem State.bump_sht (s : State) (f : Fld) (n : Nat) : (s.bump f n).sht = s.sht := rfl
@[simp] theorem State.bump_emt (s : State) (f : Fld) (n : Nat) : (s.bump f n).emt = s.emt := rfl
@[simp] theorem State.bump_flood (s : State) (f : Fld) (n : Nat) : (s.bump f n).flood = s.flood := rfl
@[simp] theorem State.bump_sec (s : State) (f : Fld) (n : Nat) : (s.bump f n).sec = s.sec := rfl
@[simp] theorem State.bump_thm (s : State) (f : Fld) (n : Nat) : (s.bump f n).thm = s.thm := rfl
@[simp] theorem State.bump_net (s : State) (f : Fld) (n : Nat) : (s.bump f n).net = s.net := rfl
@[simp] theorem State.bump_det (s : State) (f : Fld) (n : Nat) : (s.bump f n).det = s.det := rfl
@[simp] theorem State.bump_tdc (s : State) (f : Fld) (n : Nat) : (s.bump f n).tdc = s.tdc := rfl
@[simp] theorem State.bump_bgt (s : State) (f : Fld) (n : Nat) : (s.bump f n).bgt = s.bgt := rfl
@[simp] theorem State.bump_lnp (s : State) (f : Fld) (n : Nat) : (s.bump f n).lnp = s.lnp := rfl
@[simp] theorem State.bump_hst (s : State) (f : Fld) (n : Nat) : (s.bump f n).hst = s.hst := rfl
@[simp] theorem State.bump_pnt (s : State) (f : Fld) (n : Nat) : (s.bump f n).pnt = s.pnt := rfl
@[simp] theorem State.bump_img (s : State) (f : Fld) (n : Nat) : (s.bump f n).img = s.img := rfl
@[simp] theorem State.bump_isp (s : State) (f : Fld) (n : Nat) : (s.bump f n).isp = s.isp := rfl
@[simp] theorem State.bump_afe (s : State) (f : Fld) (n : Nat) : (s.bump f n).afe = s.afe := rfl
@[simp] theorem State.bump_adc (s : State) (f : Fld) (n : Nat) : (s.bump f n).adc = s.adc := rfl
@[simp] theorem State.bump_cal (s : State) (f : Fld) (n : Nat) : (s.bump f n).cal = s.cal := rfl
@[simp] theorem State.bump_mem (s : State) (f : Fld) (n : Nat) : (s.bump f n).mem = s.mem := rfl
@[simp] theorem State.bump_poison (s : State) (f : Fld) (n : Nat) : (s.bump f n).poison = s.poison := rfl
@[simp] theorem State.bump_host (s : State) (f : Fld) (n : Nat) : (s.bump f n).host = s.host := rfl
@[simp] theorem State.bump_wire (s : State) (f : Fld) (n : Nat) : (s.bump f n).wire = s.wire := rfl
@[simp] theorem State.bump_raised (s : State) (f : Fld) (n : Nat) : (s.bump f n).raised = s.raised := rfl
@[simp] theorem State.bump_refused (s : State) (f : Fld) (n : Nat) : (s.bump f n).refused = s.refused := rfl
@[simp] theorem State.bump_freeCount (s : State) (f : Fld) (n : Nat) : (s.bump f n).freeCount = s.freeCount := rfl
@[simp] theorem State.bump_pending (s : State) (f : Fld) (n : Nat) : (s.bump f n).pending = s.pending := rfl

/-! ### Registers back to their reset values -/

@[simp] theorem State.dropRegs_regs (s : State) (lo hi : Nat) : (s.dropRegs lo hi).regs = tabDrop lo hi s.regs := rfl
@[simp] theorem State.dropRegs_inForce (s : State) (lo hi : Nat) : (s.dropRegs lo hi).inForce = tabDrop lo hi s.inForce := rfl
@[simp] theorem State.dropRegs_now (s : State) (lo hi : Nat) : (s.dropRegs lo hi).now = s.now := rfl
@[simp] theorem State.dropRegs_devTime (s : State) (lo hi : Nat) : (s.dropRegs lo hi).devTime = s.devTime := rfl
@[simp] theorem State.dropRegs_rateCorr (s : State) (lo hi : Nat) : (s.dropRegs lo hi).rateCorr = s.rateCorr := rfl
@[simp] theorem State.dropRegs_portA (s : State) (lo hi : Nat) : (s.dropRegs lo hi).portA = s.portA := rfl
@[simp] theorem State.dropRegs_portB (s : State) (lo hi : Nat) : (s.dropRegs lo hi).portB = s.portB := rfl
@[simp] theorem State.dropRegs_dma (s : State) (lo hi : Nat) : (s.dropRegs lo hi).dma = s.dma := rfl
@[simp] theorem State.dropRegs_fw (s : State) (lo hi : Nat) : (s.dropRegs lo hi).fw = s.fw := rfl
@[simp] theorem State.dropRegs_pwr (s : State) (lo hi : Nat) : (s.dropRegs lo hi).pwr = s.pwr := rfl
@[simp] theorem State.dropRegs_grid (s : State) (lo hi : Nat) : (s.dropRegs lo hi).grid = s.grid := rfl
@[simp] theorem State.dropRegs_ctl (s : State) (lo hi : Nat) : (s.dropRegs lo hi).ctl = s.ctl := rfl
@[simp] theorem State.dropRegs_sht (s : State) (lo hi : Nat) : (s.dropRegs lo hi).sht = s.sht := rfl
@[simp] theorem State.dropRegs_emt (s : State) (lo hi : Nat) : (s.dropRegs lo hi).emt = s.emt := rfl
@[simp] theorem State.dropRegs_flood (s : State) (lo hi : Nat) : (s.dropRegs lo hi).flood = s.flood := rfl
@[simp] theorem State.dropRegs_sec (s : State) (lo hi : Nat) : (s.dropRegs lo hi).sec = s.sec := rfl
@[simp] theorem State.dropRegs_thm (s : State) (lo hi : Nat) : (s.dropRegs lo hi).thm = s.thm := rfl
@[simp] theorem State.dropRegs_net (s : State) (lo hi : Nat) : (s.dropRegs lo hi).net = s.net := rfl
@[simp] theorem State.dropRegs_det (s : State) (lo hi : Nat) : (s.dropRegs lo hi).det = s.det := rfl
@[simp] theorem State.dropRegs_tdc (s : State) (lo hi : Nat) : (s.dropRegs lo hi).tdc = s.tdc := rfl
@[simp] theorem State.dropRegs_bgt (s : State) (lo hi : Nat) : (s.dropRegs lo hi).bgt = s.bgt := rfl
@[simp] theorem State.dropRegs_lnp (s : State) (lo hi : Nat) : (s.dropRegs lo hi).lnp = s.lnp := rfl
@[simp] theorem State.dropRegs_hst (s : State) (lo hi : Nat) : (s.dropRegs lo hi).hst = s.hst := rfl
@[simp] theorem State.dropRegs_pnt (s : State) (lo hi : Nat) : (s.dropRegs lo hi).pnt = s.pnt := rfl
@[simp] theorem State.dropRegs_img (s : State) (lo hi : Nat) : (s.dropRegs lo hi).img = s.img := rfl
@[simp] theorem State.dropRegs_isp (s : State) (lo hi : Nat) : (s.dropRegs lo hi).isp = s.isp := rfl
@[simp] theorem State.dropRegs_afe (s : State) (lo hi : Nat) : (s.dropRegs lo hi).afe = s.afe := rfl
@[simp] theorem State.dropRegs_adc (s : State) (lo hi : Nat) : (s.dropRegs lo hi).adc = s.adc := rfl
@[simp] theorem State.dropRegs_cal (s : State) (lo hi : Nat) : (s.dropRegs lo hi).cal = s.cal := rfl
@[simp] theorem State.dropRegs_mem (s : State) (lo hi : Nat) : (s.dropRegs lo hi).mem = s.mem := rfl
@[simp] theorem State.dropRegs_poison (s : State) (lo hi : Nat) : (s.dropRegs lo hi).poison = s.poison := rfl
@[simp] theorem State.dropRegs_host (s : State) (lo hi : Nat) : (s.dropRegs lo hi).host = s.host := rfl
@[simp] theorem State.dropRegs_wire (s : State) (lo hi : Nat) : (s.dropRegs lo hi).wire = s.wire := rfl
@[simp] theorem State.dropRegs_raised (s : State) (lo hi : Nat) : (s.dropRegs lo hi).raised = s.raised := rfl
@[simp] theorem State.dropRegs_refused (s : State) (lo hi : Nat) : (s.dropRegs lo hi).refused = s.refused := rfl
@[simp] theorem State.dropRegs_freeCount (s : State) (lo hi : Nat) : (s.dropRegs lo hi).freeCount = s.freeCount := rfl
@[simp] theorem State.dropRegs_pending (s : State) (lo hi : Nat) : (s.dropRegs lo hi).pending = s.pending := rfl

/-! ### Shadow registers put in force -/

@[simp] theorem State.latch_regs (s : State) (lo hi : Nat) (src : List (Nat × Word)) : (s.latch lo hi src).regs = s.regs := rfl
@[simp] theorem State.latch_inForce (s : State) (lo hi : Nat) (src : List (Nat × Word)) : (s.latch lo hi src).inForce = tabCopy lo hi src s.inForce := rfl
@[simp] theorem State.latch_now (s : State) (lo hi : Nat) (src : List (Nat × Word)) : (s.latch lo hi src).now = s.now := rfl
@[simp] theorem State.latch_devTime (s : State) (lo hi : Nat) (src : List (Nat × Word)) : (s.latch lo hi src).devTime = s.devTime := rfl
@[simp] theorem State.latch_rateCorr (s : State) (lo hi : Nat) (src : List (Nat × Word)) : (s.latch lo hi src).rateCorr = s.rateCorr := rfl
@[simp] theorem State.latch_portA (s : State) (lo hi : Nat) (src : List (Nat × Word)) : (s.latch lo hi src).portA = s.portA := rfl
@[simp] theorem State.latch_portB (s : State) (lo hi : Nat) (src : List (Nat × Word)) : (s.latch lo hi src).portB = s.portB := rfl
@[simp] theorem State.latch_dma (s : State) (lo hi : Nat) (src : List (Nat × Word)) : (s.latch lo hi src).dma = s.dma := rfl
@[simp] theorem State.latch_fw (s : State) (lo hi : Nat) (src : List (Nat × Word)) : (s.latch lo hi src).fw = s.fw := rfl
@[simp] theorem State.latch_pwr (s : State) (lo hi : Nat) (src : List (Nat × Word)) : (s.latch lo hi src).pwr = s.pwr := rfl
@[simp] theorem State.latch_grid (s : State) (lo hi : Nat) (src : List (Nat × Word)) : (s.latch lo hi src).grid = s.grid := rfl
@[simp] theorem State.latch_ctl (s : State) (lo hi : Nat) (src : List (Nat × Word)) : (s.latch lo hi src).ctl = s.ctl := rfl
@[simp] theorem State.latch_sht (s : State) (lo hi : Nat) (src : List (Nat × Word)) : (s.latch lo hi src).sht = s.sht := rfl
@[simp] theorem State.latch_emt (s : State) (lo hi : Nat) (src : List (Nat × Word)) : (s.latch lo hi src).emt = s.emt := rfl
@[simp] theorem State.latch_flood (s : State) (lo hi : Nat) (src : List (Nat × Word)) : (s.latch lo hi src).flood = s.flood := rfl
@[simp] theorem State.latch_sec (s : State) (lo hi : Nat) (src : List (Nat × Word)) : (s.latch lo hi src).sec = s.sec := rfl
@[simp] theorem State.latch_thm (s : State) (lo hi : Nat) (src : List (Nat × Word)) : (s.latch lo hi src).thm = s.thm := rfl
@[simp] theorem State.latch_net (s : State) (lo hi : Nat) (src : List (Nat × Word)) : (s.latch lo hi src).net = s.net := rfl
@[simp] theorem State.latch_det (s : State) (lo hi : Nat) (src : List (Nat × Word)) : (s.latch lo hi src).det = s.det := rfl
@[simp] theorem State.latch_tdc (s : State) (lo hi : Nat) (src : List (Nat × Word)) : (s.latch lo hi src).tdc = s.tdc := rfl
@[simp] theorem State.latch_bgt (s : State) (lo hi : Nat) (src : List (Nat × Word)) : (s.latch lo hi src).bgt = s.bgt := rfl
@[simp] theorem State.latch_lnp (s : State) (lo hi : Nat) (src : List (Nat × Word)) : (s.latch lo hi src).lnp = s.lnp := rfl
@[simp] theorem State.latch_hst (s : State) (lo hi : Nat) (src : List (Nat × Word)) : (s.latch lo hi src).hst = s.hst := rfl
@[simp] theorem State.latch_pnt (s : State) (lo hi : Nat) (src : List (Nat × Word)) : (s.latch lo hi src).pnt = s.pnt := rfl
@[simp] theorem State.latch_img (s : State) (lo hi : Nat) (src : List (Nat × Word)) : (s.latch lo hi src).img = s.img := rfl
@[simp] theorem State.latch_isp (s : State) (lo hi : Nat) (src : List (Nat × Word)) : (s.latch lo hi src).isp = s.isp := rfl
@[simp] theorem State.latch_afe (s : State) (lo hi : Nat) (src : List (Nat × Word)) : (s.latch lo hi src).afe = s.afe := rfl
@[simp] theorem State.latch_adc (s : State) (lo hi : Nat) (src : List (Nat × Word)) : (s.latch lo hi src).adc = s.adc := rfl
@[simp] theorem State.latch_cal (s : State) (lo hi : Nat) (src : List (Nat × Word)) : (s.latch lo hi src).cal = s.cal := rfl
@[simp] theorem State.latch_mem (s : State) (lo hi : Nat) (src : List (Nat × Word)) : (s.latch lo hi src).mem = s.mem := rfl
@[simp] theorem State.latch_poison (s : State) (lo hi : Nat) (src : List (Nat × Word)) : (s.latch lo hi src).poison = s.poison := rfl
@[simp] theorem State.latch_host (s : State) (lo hi : Nat) (src : List (Nat × Word)) : (s.latch lo hi src).host = s.host := rfl
@[simp] theorem State.latch_wire (s : State) (lo hi : Nat) (src : List (Nat × Word)) : (s.latch lo hi src).wire = s.wire := rfl
@[simp] theorem State.latch_raised (s : State) (lo hi : Nat) (src : List (Nat × Word)) : (s.latch lo hi src).raised = s.raised := rfl
@[simp] theorem State.latch_refused (s : State) (lo hi : Nat) (src : List (Nat × Word)) : (s.latch lo hi src).refused = s.refused := rfl
@[simp] theorem State.latch_freeCount (s : State) (lo hi : Nat) (src : List (Nat × Word)) : (s.latch lo hi src).freeCount = s.freeCount := rfl
@[simp] theorem State.latch_pending (s : State) (lo hi : Nat) (src : List (Nat × Word)) : (s.latch lo hi src).pending = s.pending := rfl

/-! ### Raising a source, a refusal -/

@[simp] theorem State.raise_regs (s : State) (e : Nat) : (s.raise e).regs = s.regs := rfl
@[simp] theorem State.raise_inForce (s : State) (e : Nat) : (s.raise e).inForce = s.inForce := rfl
@[simp] theorem State.raise_now (s : State) (e : Nat) : (s.raise e).now = s.now := rfl
@[simp] theorem State.raise_devTime (s : State) (e : Nat) : (s.raise e).devTime = s.devTime := rfl
@[simp] theorem State.raise_rateCorr (s : State) (e : Nat) : (s.raise e).rateCorr = s.rateCorr := rfl
@[simp] theorem State.raise_portA (s : State) (e : Nat) : (s.raise e).portA = s.portA := rfl
@[simp] theorem State.raise_portB (s : State) (e : Nat) : (s.raise e).portB = s.portB := rfl
@[simp] theorem State.raise_dma (s : State) (e : Nat) : (s.raise e).dma = s.dma := rfl
@[simp] theorem State.raise_fw (s : State) (e : Nat) : (s.raise e).fw = s.fw := rfl
@[simp] theorem State.raise_pwr (s : State) (e : Nat) : (s.raise e).pwr = s.pwr := rfl
@[simp] theorem State.raise_grid (s : State) (e : Nat) : (s.raise e).grid = s.grid := rfl
@[simp] theorem State.raise_ctl (s : State) (e : Nat) : (s.raise e).ctl = s.ctl := rfl
@[simp] theorem State.raise_sht (s : State) (e : Nat) : (s.raise e).sht = s.sht := rfl
@[simp] theorem State.raise_emt (s : State) (e : Nat) : (s.raise e).emt = s.emt := rfl
@[simp] theorem State.raise_flood (s : State) (e : Nat) : (s.raise e).flood = s.flood := rfl
@[simp] theorem State.raise_sec (s : State) (e : Nat) : (s.raise e).sec = s.sec := rfl
@[simp] theorem State.raise_thm (s : State) (e : Nat) : (s.raise e).thm = s.thm := rfl
@[simp] theorem State.raise_net (s : State) (e : Nat) : (s.raise e).net = s.net := rfl
@[simp] theorem State.raise_det (s : State) (e : Nat) : (s.raise e).det = s.det := rfl
@[simp] theorem State.raise_tdc (s : State) (e : Nat) : (s.raise e).tdc = s.tdc := rfl
@[simp] theorem State.raise_bgt (s : State) (e : Nat) : (s.raise e).bgt = s.bgt := rfl
@[simp] theorem State.raise_lnp (s : State) (e : Nat) : (s.raise e).lnp = s.lnp := rfl
@[simp] theorem State.raise_hst (s : State) (e : Nat) : (s.raise e).hst = s.hst := rfl
@[simp] theorem State.raise_pnt (s : State) (e : Nat) : (s.raise e).pnt = s.pnt := rfl
@[simp] theorem State.raise_img (s : State) (e : Nat) : (s.raise e).img = s.img := rfl
@[simp] theorem State.raise_isp (s : State) (e : Nat) : (s.raise e).isp = s.isp := rfl
@[simp] theorem State.raise_afe (s : State) (e : Nat) : (s.raise e).afe = s.afe := rfl
@[simp] theorem State.raise_adc (s : State) (e : Nat) : (s.raise e).adc = s.adc := rfl
@[simp] theorem State.raise_cal (s : State) (e : Nat) : (s.raise e).cal = s.cal := rfl
@[simp] theorem State.raise_mem (s : State) (e : Nat) : (s.raise e).mem = s.mem := rfl
@[simp] theorem State.raise_poison (s : State) (e : Nat) : (s.raise e).poison = s.poison := rfl
@[simp] theorem State.raise_host (s : State) (e : Nat) : (s.raise e).host = s.host := rfl
@[simp] theorem State.raise_wire (s : State) (e : Nat) : (s.raise e).wire = s.wire := rfl
@[simp] theorem State.raise_raised (s : State) (e : Nat) : (s.raise e).raised = s.raised ++ [⟨e, none⟩] := rfl
@[simp] theorem State.raise_refused (s : State) (e : Nat) : (s.raise e).refused = s.refused := rfl
@[simp] theorem State.raise_freeCount (s : State) (e : Nat) : (s.raise e).freeCount = s.freeCount := rfl
@[simp] theorem State.raise_pending (s : State) (e : Nat) : (s.raise e).pending = s.pending := rfl

@[simp] theorem State.raiseInfo_regs (s : State) (e i : Nat) : (s.raiseInfo e i).regs = s.regs := rfl
@[simp] theorem State.raiseInfo_inForce (s : State) (e i : Nat) : (s.raiseInfo e i).inForce = s.inForce := rfl
@[simp] theorem State.raiseInfo_now (s : State) (e i : Nat) : (s.raiseInfo e i).now = s.now := rfl
@[simp] theorem State.raiseInfo_devTime (s : State) (e i : Nat) : (s.raiseInfo e i).devTime = s.devTime := rfl
@[simp] theorem State.raiseInfo_rateCorr (s : State) (e i : Nat) : (s.raiseInfo e i).rateCorr = s.rateCorr := rfl
@[simp] theorem State.raiseInfo_portA (s : State) (e i : Nat) : (s.raiseInfo e i).portA = s.portA := rfl
@[simp] theorem State.raiseInfo_portB (s : State) (e i : Nat) : (s.raiseInfo e i).portB = s.portB := rfl
@[simp] theorem State.raiseInfo_dma (s : State) (e i : Nat) : (s.raiseInfo e i).dma = s.dma := rfl
@[simp] theorem State.raiseInfo_fw (s : State) (e i : Nat) : (s.raiseInfo e i).fw = s.fw := rfl
@[simp] theorem State.raiseInfo_pwr (s : State) (e i : Nat) : (s.raiseInfo e i).pwr = s.pwr := rfl
@[simp] theorem State.raiseInfo_grid (s : State) (e i : Nat) : (s.raiseInfo e i).grid = s.grid := rfl
@[simp] theorem State.raiseInfo_ctl (s : State) (e i : Nat) : (s.raiseInfo e i).ctl = s.ctl := rfl
@[simp] theorem State.raiseInfo_sht (s : State) (e i : Nat) : (s.raiseInfo e i).sht = s.sht := rfl
@[simp] theorem State.raiseInfo_emt (s : State) (e i : Nat) : (s.raiseInfo e i).emt = s.emt := rfl
@[simp] theorem State.raiseInfo_flood (s : State) (e i : Nat) : (s.raiseInfo e i).flood = s.flood := rfl
@[simp] theorem State.raiseInfo_sec (s : State) (e i : Nat) : (s.raiseInfo e i).sec = s.sec := rfl
@[simp] theorem State.raiseInfo_thm (s : State) (e i : Nat) : (s.raiseInfo e i).thm = s.thm := rfl
@[simp] theorem State.raiseInfo_net (s : State) (e i : Nat) : (s.raiseInfo e i).net = s.net := rfl
@[simp] theorem State.raiseInfo_det (s : State) (e i : Nat) : (s.raiseInfo e i).det = s.det := rfl
@[simp] theorem State.raiseInfo_tdc (s : State) (e i : Nat) : (s.raiseInfo e i).tdc = s.tdc := rfl
@[simp] theorem State.raiseInfo_bgt (s : State) (e i : Nat) : (s.raiseInfo e i).bgt = s.bgt := rfl
@[simp] theorem State.raiseInfo_lnp (s : State) (e i : Nat) : (s.raiseInfo e i).lnp = s.lnp := rfl
@[simp] theorem State.raiseInfo_hst (s : State) (e i : Nat) : (s.raiseInfo e i).hst = s.hst := rfl
@[simp] theorem State.raiseInfo_pnt (s : State) (e i : Nat) : (s.raiseInfo e i).pnt = s.pnt := rfl
@[simp] theorem State.raiseInfo_img (s : State) (e i : Nat) : (s.raiseInfo e i).img = s.img := rfl
@[simp] theorem State.raiseInfo_isp (s : State) (e i : Nat) : (s.raiseInfo e i).isp = s.isp := rfl
@[simp] theorem State.raiseInfo_afe (s : State) (e i : Nat) : (s.raiseInfo e i).afe = s.afe := rfl
@[simp] theorem State.raiseInfo_adc (s : State) (e i : Nat) : (s.raiseInfo e i).adc = s.adc := rfl
@[simp] theorem State.raiseInfo_cal (s : State) (e i : Nat) : (s.raiseInfo e i).cal = s.cal := rfl
@[simp] theorem State.raiseInfo_mem (s : State) (e i : Nat) : (s.raiseInfo e i).mem = s.mem := rfl
@[simp] theorem State.raiseInfo_poison (s : State) (e i : Nat) : (s.raiseInfo e i).poison = s.poison := rfl
@[simp] theorem State.raiseInfo_host (s : State) (e i : Nat) : (s.raiseInfo e i).host = s.host := rfl
@[simp] theorem State.raiseInfo_wire (s : State) (e i : Nat) : (s.raiseInfo e i).wire = s.wire := rfl
@[simp] theorem State.raiseInfo_raised (s : State) (e i : Nat) : (s.raiseInfo e i).raised = s.raised ++ [⟨e, some (BitVec.ofNat 32 i)⟩] := rfl
@[simp] theorem State.raiseInfo_refused (s : State) (e i : Nat) : (s.raiseInfo e i).refused = s.refused := rfl
@[simp] theorem State.raiseInfo_freeCount (s : State) (e i : Nat) : (s.raiseInfo e i).freeCount = s.freeCount := rfl
@[simp] theorem State.raiseInfo_pending (s : State) (e i : Nat) : (s.raiseInfo e i).pending = s.pending := rfl

/-- A refusal writes the error register, raises the event and notes the word (R486), and does nothing else. -/
theorem State.refuse_form (s : State) (r e c d : Nat) : ∃ w, w = c * 2 ^ 24 + d % 2 ^ 16 ∧
    s.refuse r e c d = { (s.wrN r w).raise e with refused := some (BitVec.ofNat 32 w) } := ⟨_, rfl, by unfold State.refuse; rfl⟩
@[simp] theorem State.refuse_regs (s : State) (r e c d : Nat) : (s.refuse r e c d).regs = (s.wrN r (c * 2 ^ 24 + d % 2 ^ 16)).regs := by
  obtain ⟨w, hw, h⟩ := s.refuse_form r e c d; rw [h]; rw [← hw]; rfl
@[simp] theorem State.refuse_inForce (s : State) (r e c d : Nat) : (s.refuse r e c d).inForce = s.inForce := by
  obtain ⟨w, -, h⟩ := s.refuse_form r e c d; rw [h]; rfl
@[simp] theorem State.refuse_now (s : State) (r e c d : Nat) : (s.refuse r e c d).now = s.now := by
  obtain ⟨w, -, h⟩ := s.refuse_form r e c d; rw [h]; rfl
@[simp] theorem State.refuse_devTime (s : State) (r e c d : Nat) : (s.refuse r e c d).devTime = s.devTime := by
  obtain ⟨w, -, h⟩ := s.refuse_form r e c d; rw [h]; rfl
@[simp] theorem State.refuse_rateCorr (s : State) (r e c d : Nat) : (s.refuse r e c d).rateCorr = s.rateCorr := by
  obtain ⟨w, -, h⟩ := s.refuse_form r e c d; rw [h]; rfl
@[simp] theorem State.refuse_portA (s : State) (r e c d : Nat) : (s.refuse r e c d).portA = s.portA := by
  obtain ⟨w, -, h⟩ := s.refuse_form r e c d; rw [h]; rfl
@[simp] theorem State.refuse_portB (s : State) (r e c d : Nat) : (s.refuse r e c d).portB = s.portB := by
  obtain ⟨w, -, h⟩ := s.refuse_form r e c d; rw [h]; rfl
@[simp] theorem State.refuse_dma (s : State) (r e c d : Nat) : (s.refuse r e c d).dma = s.dma := by
  obtain ⟨w, -, h⟩ := s.refuse_form r e c d; rw [h]; rfl
@[simp] theorem State.refuse_fw (s : State) (r e c d : Nat) : (s.refuse r e c d).fw = s.fw := by
  obtain ⟨w, -, h⟩ := s.refuse_form r e c d; rw [h]; rfl
@[simp] theorem State.refuse_pwr (s : State) (r e c d : Nat) : (s.refuse r e c d).pwr = s.pwr := by
  obtain ⟨w, -, h⟩ := s.refuse_form r e c d; rw [h]; rfl
@[simp] theorem State.refuse_grid (s : State) (r e c d : Nat) : (s.refuse r e c d).grid = s.grid := by
  obtain ⟨w, -, h⟩ := s.refuse_form r e c d; rw [h]; rfl
@[simp] theorem State.refuse_ctl (s : State) (r e c d : Nat) : (s.refuse r e c d).ctl = s.ctl := by
  obtain ⟨w, -, h⟩ := s.refuse_form r e c d; rw [h]; rfl
@[simp] theorem State.refuse_sht (s : State) (r e c d : Nat) : (s.refuse r e c d).sht = s.sht := by
  obtain ⟨w, -, h⟩ := s.refuse_form r e c d; rw [h]; rfl
@[simp] theorem State.refuse_emt (s : State) (r e c d : Nat) : (s.refuse r e c d).emt = s.emt := by
  obtain ⟨w, -, h⟩ := s.refuse_form r e c d; rw [h]; rfl
@[simp] theorem State.refuse_flood (s : State) (r e c d : Nat) : (s.refuse r e c d).flood = s.flood := by
  obtain ⟨w, -, h⟩ := s.refuse_form r e c d; rw [h]; rfl
@[simp] theorem State.refuse_sec (s : State) (r e c d : Nat) : (s.refuse r e c d).sec = s.sec := by
  obtain ⟨w, -, h⟩ := s.refuse_form r e c d; rw [h]; rfl
@[simp] theorem State.refuse_thm (s : State) (r e c d : Nat) : (s.refuse r e c d).thm = s.thm := by
  obtain ⟨w, -, h⟩ := s.refuse_form r e c d; rw [h]; rfl
@[simp] theorem State.refuse_net (s : State) (r e c d : Nat) : (s.refuse r e c d).net = s.net := by
  obtain ⟨w, -, h⟩ := s.refuse_form r e c d; rw [h]; rfl
@[simp] theorem State.refuse_det (s : State) (r e c d : Nat) : (s.refuse r e c d).det = s.det := by
  obtain ⟨w, -, h⟩ := s.refuse_form r e c d; rw [h]; rfl
@[simp] theorem State.refuse_tdc (s : State) (r e c d : Nat) : (s.refuse r e c d).tdc = s.tdc := by
  obtain ⟨w, -, h⟩ := s.refuse_form r e c d; rw [h]; rfl
@[simp] theorem State.refuse_bgt (s : State) (r e c d : Nat) : (s.refuse r e c d).bgt = s.bgt := by
  obtain ⟨w, -, h⟩ := s.refuse_form r e c d; rw [h]; rfl
@[simp] theorem State.refuse_lnp (s : State) (r e c d : Nat) : (s.refuse r e c d).lnp = s.lnp := by
  obtain ⟨w, -, h⟩ := s.refuse_form r e c d; rw [h]; rfl
@[simp] theorem State.refuse_hst (s : State) (r e c d : Nat) : (s.refuse r e c d).hst = s.hst := by
  obtain ⟨w, -, h⟩ := s.refuse_form r e c d; rw [h]; rfl
@[simp] theorem State.refuse_pnt (s : State) (r e c d : Nat) : (s.refuse r e c d).pnt = s.pnt := by
  obtain ⟨w, -, h⟩ := s.refuse_form r e c d; rw [h]; rfl
@[simp] theorem State.refuse_img (s : State) (r e c d : Nat) : (s.refuse r e c d).img = s.img := by
  obtain ⟨w, -, h⟩ := s.refuse_form r e c d; rw [h]; rfl
@[simp] theorem State.refuse_isp (s : State) (r e c d : Nat) : (s.refuse r e c d).isp = s.isp := by
  obtain ⟨w, -, h⟩ := s.refuse_form r e c d; rw [h]; rfl
@[simp] theorem State.refuse_afe (s : State) (r e c d : Nat) : (s.refuse r e c d).afe = s.afe := by
  obtain ⟨w, -, h⟩ := s.refuse_form r e c d; rw [h]; rfl
@[simp] theorem State.refuse_adc (s : State) (r e c d : Nat) : (s.refuse r e c d).adc = s.adc := by
  obtain ⟨w, -, h⟩ := s.refuse_form r e c d; rw [h]; rfl
@[simp] theorem State.refuse_cal (s : State) (r e c d : Nat) : (s.refuse r e c d).cal = s.cal := by
  obtain ⟨w, -, h⟩ := s.refuse_form r e c d; rw [h]; rfl
@[simp] theorem State.refuse_mem (s : State) (r e c d : Nat) : (s.refuse r e c d).mem = s.mem := by
  obtain ⟨w, -, h⟩ := s.refuse_form r e c d; rw [h]; rfl
@[simp] theorem State.refuse_poison (s : State) (r e c d : Nat) : (s.refuse r e c d).poison = s.poison := by
  obtain ⟨w, -, h⟩ := s.refuse_form r e c d; rw [h]; rfl
@[simp] theorem State.refuse_host (s : State) (r e c d : Nat) : (s.refuse r e c d).host = s.host := by
  obtain ⟨w, -, h⟩ := s.refuse_form r e c d; rw [h]; rfl
@[simp] theorem State.refuse_wire (s : State) (r e c d : Nat) : (s.refuse r e c d).wire = s.wire := by
  obtain ⟨w, -, h⟩ := s.refuse_form r e c d; rw [h]; rfl
@[simp] theorem State.refuse_raised (s : State) (r e c d : Nat) : (s.refuse r e c d).raised = s.raised ++ [⟨e, none⟩] := by
  obtain ⟨w, hw, h⟩ := s.refuse_form r e c d; rw [h]; rfl
@[simp] theorem State.refuse_refused (s : State) (r e c d : Nat) : (s.refuse r e c d).refused = some (BitVec.ofNat 32 (c * 2 ^ 24 + d % 2 ^ 16)) := by
  obtain ⟨w, hw, h⟩ := s.refuse_form r e c d; rw [h]; rw [← hw]
@[simp] theorem State.refuse_freeCount (s : State) (r e c d : Nat) : (s.refuse r e c d).freeCount = s.freeCount := by
  obtain ⟨w, -, h⟩ := s.refuse_form r e c d; rw [h]; rfl
@[simp] theorem State.refuse_pending (s : State) (r e c d : Nat) : (s.refuse r e c d).pending = s.pending := by
  obtain ⟨w, -, h⟩ := s.refuse_form r e c d; rw [h]; rfl

@[simp] theorem State.ignore_regs (s : State) : s.ignore.regs = s.regs := rfl
@[simp] theorem State.ignore_inForce (s : State) : s.ignore.inForce = s.inForce := rfl
@[simp] theorem State.ignore_now (s : State) : s.ignore.now = s.now := rfl
@[simp] theorem State.ignore_devTime (s : State) : s.ignore.devTime = s.devTime := rfl
@[simp] theorem State.ignore_rateCorr (s : State) : s.ignore.rateCorr = s.rateCorr := rfl
@[simp] theorem State.ignore_portA (s : State) : s.ignore.portA = s.portA := rfl
@[simp] theorem State.ignore_portB (s : State) : s.ignore.portB = s.portB := rfl
@[simp] theorem State.ignore_dma (s : State) : s.ignore.dma = s.dma := rfl
@[simp] theorem State.ignore_fw (s : State) : s.ignore.fw = s.fw := rfl
@[simp] theorem State.ignore_pwr (s : State) : s.ignore.pwr = s.pwr := rfl
@[simp] theorem State.ignore_grid (s : State) : s.ignore.grid = s.grid := rfl
@[simp] theorem State.ignore_ctl (s : State) : s.ignore.ctl = s.ctl := rfl
@[simp] theorem State.ignore_sht (s : State) : s.ignore.sht = s.sht := rfl
@[simp] theorem State.ignore_emt (s : State) : s.ignore.emt = s.emt := rfl
@[simp] theorem State.ignore_flood (s : State) : s.ignore.flood = s.flood := rfl
@[simp] theorem State.ignore_sec (s : State) : s.ignore.sec = s.sec := rfl
@[simp] theorem State.ignore_thm (s : State) : s.ignore.thm = s.thm := rfl
@[simp] theorem State.ignore_net (s : State) : s.ignore.net = s.net := rfl
@[simp] theorem State.ignore_det (s : State) : s.ignore.det = s.det := rfl
@[simp] theorem State.ignore_tdc (s : State) : s.ignore.tdc = s.tdc := rfl
@[simp] theorem State.ignore_bgt (s : State) : s.ignore.bgt = s.bgt := rfl
@[simp] theorem State.ignore_lnp (s : State) : s.ignore.lnp = s.lnp := rfl
@[simp] theorem State.ignore_hst (s : State) : s.ignore.hst = s.hst := rfl
@[simp] theorem State.ignore_pnt (s : State) : s.ignore.pnt = s.pnt := rfl
@[simp] theorem State.ignore_img (s : State) : s.ignore.img = s.img := rfl
@[simp] theorem State.ignore_isp (s : State) : s.ignore.isp = s.isp := rfl
@[simp] theorem State.ignore_afe (s : State) : s.ignore.afe = s.afe := rfl
@[simp] theorem State.ignore_adc (s : State) : s.ignore.adc = s.adc := rfl
@[simp] theorem State.ignore_cal (s : State) : s.ignore.cal = s.cal := rfl
@[simp] theorem State.ignore_mem (s : State) : s.ignore.mem = s.mem := rfl
@[simp] theorem State.ignore_poison (s : State) : s.ignore.poison = s.poison := rfl
@[simp] theorem State.ignore_host (s : State) : s.ignore.host = s.host := rfl
@[simp] theorem State.ignore_wire (s : State) : s.ignore.wire = s.wire := rfl
@[simp] theorem State.ignore_raised (s : State) : s.ignore.raised = s.raised := rfl
@[simp] theorem State.ignore_refused (s : State) : s.ignore.refused = some 0 := rfl
@[simp] theorem State.ignore_freeCount (s : State) : s.ignore.freeCount = s.freeCount := rfl
@[simp] theorem State.ignore_pending (s : State) : s.ignore.pending = s.pending := rfl

@[simp] theorem State.ignoreRaise_regs (s : State) (e : Nat) : (s.ignoreRaise e).regs = s.regs := rfl
@[simp] theorem State.ignoreRaise_inForce (s : State) (e : Nat) : (s.ignoreRaise e).inForce = s.inForce := rfl
@[simp] theorem State.ignoreRaise_now (s : State) (e : Nat) : (s.ignoreRaise e).now = s.now := rfl
@[simp] theorem State.ignoreRaise_devTime (s : State) (e : Nat) : (s.ignoreRaise e).devTime = s.devTime := rfl
@[simp] theorem State.ignoreRaise_rateCorr (s : State) (e : Nat) : (s.ignoreRaise e).rateCorr = s.rateCorr := rfl
@[simp] theorem State.ignoreRaise_portA (s : State) (e : Nat) : (s.ignoreRaise e).portA = s.portA := rfl
@[simp] theorem State.ignoreRaise_portB (s : State) (e : Nat) : (s.ignoreRaise e).portB = s.portB := rfl
@[simp] theorem State.ignoreRaise_dma (s : State) (e : Nat) : (s.ignoreRaise e).dma = s.dma := rfl
@[simp] theorem State.ignoreRaise_fw (s : State) (e : Nat) : (s.ignoreRaise e).fw = s.fw := rfl
@[simp] theorem State.ignoreRaise_pwr (s : State) (e : Nat) : (s.ignoreRaise e).pwr = s.pwr := rfl
@[simp] theorem State.ignoreRaise_grid (s : State) (e : Nat) : (s.ignoreRaise e).grid = s.grid := rfl
@[simp] theorem State.ignoreRaise_ctl (s : State) (e : Nat) : (s.ignoreRaise e).ctl = s.ctl := rfl
@[simp] theorem State.ignoreRaise_sht (s : State) (e : Nat) : (s.ignoreRaise e).sht = s.sht := rfl
@[simp] theorem State.ignoreRaise_emt (s : State) (e : Nat) : (s.ignoreRaise e).emt = s.emt := rfl
@[simp] theorem State.ignoreRaise_flood (s : State) (e : Nat) : (s.ignoreRaise e).flood = s.flood := rfl
@[simp] theorem State.ignoreRaise_sec (s : State) (e : Nat) : (s.ignoreRaise e).sec = s.sec := rfl
@[simp] theorem State.ignoreRaise_thm (s : State) (e : Nat) : (s.ignoreRaise e).thm = s.thm := rfl
@[simp] theorem State.ignoreRaise_net (s : State) (e : Nat) : (s.ignoreRaise e).net = s.net := rfl
@[simp] theorem State.ignoreRaise_det (s : State) (e : Nat) : (s.ignoreRaise e).det = s.det := rfl
@[simp] theorem State.ignoreRaise_tdc (s : State) (e : Nat) : (s.ignoreRaise e).tdc = s.tdc := rfl
@[simp] theorem State.ignoreRaise_bgt (s : State) (e : Nat) : (s.ignoreRaise e).bgt = s.bgt := rfl
@[simp] theorem State.ignoreRaise_lnp (s : State) (e : Nat) : (s.ignoreRaise e).lnp = s.lnp := rfl
@[simp] theorem State.ignoreRaise_hst (s : State) (e : Nat) : (s.ignoreRaise e).hst = s.hst := rfl
@[simp] theorem State.ignoreRaise_pnt (s : State) (e : Nat) : (s.ignoreRaise e).pnt = s.pnt := rfl
@[simp] theorem State.ignoreRaise_img (s : State) (e : Nat) : (s.ignoreRaise e).img = s.img := rfl
@[simp] theorem State.ignoreRaise_isp (s : State) (e : Nat) : (s.ignoreRaise e).isp = s.isp := rfl
@[simp] theorem State.ignoreRaise_afe (s : State) (e : Nat) : (s.ignoreRaise e).afe = s.afe := rfl
@[simp] theorem State.ignoreRaise_adc (s : State) (e : Nat) : (s.ignoreRaise e).adc = s.adc := rfl
@[simp] theorem State.ignoreRaise_cal (s : State) (e : Nat) : (s.ignoreRaise e).cal = s.cal := rfl
@[simp] theorem State.ignoreRaise_mem (s : State) (e : Nat) : (s.ignoreRaise e).mem = s.mem := rfl
@[simp] theorem State.ignoreRaise_poison (s : State) (e : Nat) : (s.ignoreRaise e).poison = s.poison := rfl
@[simp] theorem State.ignoreRaise_host (s : State) (e : Nat) : (s.ignoreRaise e).host = s.host := rfl
@[simp] theorem State.ignoreRaise_wire (s : State) (e : Nat) : (s.ignoreRaise e).wire = s.wire := rfl
@[simp] theorem State.ignoreRaise_raised (s : State) (e : Nat) : (s.ignoreRaise e).raised = s.raised ++ [⟨e, none⟩] := rfl
@[simp] theorem State.ignoreRaise_refused (s : State) (e : Nat) : (s.ignoreRaise e).refused = some 0 := rfl
@[simp] theorem State.ignoreRaise_freeCount (s : State) (e : Nat) : (s.ignoreRaise e).freeCount = s.freeCount := rfl
@[simp] theorem State.ignoreRaise_pending (s : State) (e : Nat) : (s.ignoreRaise e).pending = s.pending := rfl

/-! ### The blocks' own tables -/

@[simp] theorem State.setSlot_regs (s : State) (n : Nat) (l : LoopState) : (s.setSlot n l).regs = s.regs := rfl
@[simp] theorem State.setSlot_inForce (s : State) (n : Nat) (l : LoopState) : (s.setSlot n l).inForce = s.inForce := rfl
@[simp] theorem State.setSlot_now (s : State) (n : Nat) (l : LoopState) : (s.setSlot n l).now = s.now := rfl
@[simp] theorem State.setSlot_devTime (s : State) (n : Nat) (l : LoopState) : (s.setSlot n l).devTime = s.devTime := rfl
@[simp] theorem State.setSlot_rateCorr (s : State) (n : Nat) (l : LoopState) : (s.setSlot n l).rateCorr = s.rateCorr := rfl
@[simp] theorem State.setSlot_portA (s : State) (n : Nat) (l : LoopState) : (s.setSlot n l).portA = s.portA := rfl
@[simp] theorem State.setSlot_portB (s : State) (n : Nat) (l : LoopState) : (s.setSlot n l).portB = s.portB := rfl
@[simp] theorem State.setSlot_dma (s : State) (n : Nat) (l : LoopState) : (s.setSlot n l).dma = s.dma := rfl
@[simp] theorem State.setSlot_fw (s : State) (n : Nat) (l : LoopState) : (s.setSlot n l).fw = s.fw := rfl
@[simp] theorem State.setSlot_pwr (s : State) (n : Nat) (l : LoopState) : (s.setSlot n l).pwr = s.pwr := rfl
@[simp] theorem State.setSlot_grid (s : State) (n : Nat) (l : LoopState) : (s.setSlot n l).grid = s.grid := rfl
@[simp] theorem State.setSlot_sht (s : State) (n : Nat) (l : LoopState) : (s.setSlot n l).sht = s.sht := rfl
@[simp] theorem State.setSlot_emt (s : State) (n : Nat) (l : LoopState) : (s.setSlot n l).emt = s.emt := rfl
@[simp] theorem State.setSlot_flood (s : State) (n : Nat) (l : LoopState) : (s.setSlot n l).flood = s.flood := rfl
@[simp] theorem State.setSlot_sec (s : State) (n : Nat) (l : LoopState) : (s.setSlot n l).sec = s.sec := rfl
@[simp] theorem State.setSlot_thm (s : State) (n : Nat) (l : LoopState) : (s.setSlot n l).thm = s.thm := rfl
@[simp] theorem State.setSlot_net (s : State) (n : Nat) (l : LoopState) : (s.setSlot n l).net = s.net := rfl
@[simp] theorem State.setSlot_det (s : State) (n : Nat) (l : LoopState) : (s.setSlot n l).det = s.det := rfl
@[simp] theorem State.setSlot_tdc (s : State) (n : Nat) (l : LoopState) : (s.setSlot n l).tdc = s.tdc := rfl
@[simp] theorem State.setSlot_bgt (s : State) (n : Nat) (l : LoopState) : (s.setSlot n l).bgt = s.bgt := rfl
@[simp] theorem State.setSlot_lnp (s : State) (n : Nat) (l : LoopState) : (s.setSlot n l).lnp = s.lnp := rfl
@[simp] theorem State.setSlot_hst (s : State) (n : Nat) (l : LoopState) : (s.setSlot n l).hst = s.hst := rfl
@[simp] theorem State.setSlot_pnt (s : State) (n : Nat) (l : LoopState) : (s.setSlot n l).pnt = s.pnt := rfl
@[simp] theorem State.setSlot_img (s : State) (n : Nat) (l : LoopState) : (s.setSlot n l).img = s.img := rfl
@[simp] theorem State.setSlot_isp (s : State) (n : Nat) (l : LoopState) : (s.setSlot n l).isp = s.isp := rfl
@[simp] theorem State.setSlot_afe (s : State) (n : Nat) (l : LoopState) : (s.setSlot n l).afe = s.afe := rfl
@[simp] theorem State.setSlot_adc (s : State) (n : Nat) (l : LoopState) : (s.setSlot n l).adc = s.adc := rfl
@[simp] theorem State.setSlot_cal (s : State) (n : Nat) (l : LoopState) : (s.setSlot n l).cal = s.cal := rfl
@[simp] theorem State.setSlot_mem (s : State) (n : Nat) (l : LoopState) : (s.setSlot n l).mem = s.mem := rfl
@[simp] theorem State.setSlot_poison (s : State) (n : Nat) (l : LoopState) : (s.setSlot n l).poison = s.poison := rfl
@[simp] theorem State.setSlot_host (s : State) (n : Nat) (l : LoopState) : (s.setSlot n l).host = s.host := rfl
@[simp] theorem State.setSlot_wire (s : State) (n : Nat) (l : LoopState) : (s.setSlot n l).wire = s.wire := rfl
@[simp] theorem State.setSlot_raised (s : State) (n : Nat) (l : LoopState) : (s.setSlot n l).raised = s.raised := rfl
@[simp] theorem State.setSlot_refused (s : State) (n : Nat) (l : LoopState) : (s.setSlot n l).refused = s.refused := rfl
@[simp] theorem State.setSlot_freeCount (s : State) (n : Nat) (l : LoopState) : (s.setSlot n l).freeCount = s.freeCount := rfl
@[simp] theorem State.setSlot_pending (s : State) (n : Nat) (l : LoopState) : (s.setSlot n l).pending = s.pending := rfl

@[simp] theorem State.setLamp_regs (s : State) (m : Nat) (l : LoopState) : (s.setLamp m l).regs = s.regs := rfl
@[simp] theorem State.setLamp_inForce (s : State) (m : Nat) (l : LoopState) : (s.setLamp m l).inForce = s.inForce := rfl
@[simp] theorem State.setLamp_now (s : State) (m : Nat) (l : LoopState) : (s.setLamp m l).now = s.now := rfl
@[simp] theorem State.setLamp_devTime (s : State) (m : Nat) (l : LoopState) : (s.setLamp m l).devTime = s.devTime := rfl
@[simp] theorem State.setLamp_rateCorr (s : State) (m : Nat) (l : LoopState) : (s.setLamp m l).rateCorr = s.rateCorr := rfl
@[simp] theorem State.setLamp_portA (s : State) (m : Nat) (l : LoopState) : (s.setLamp m l).portA = s.portA := rfl
@[simp] theorem State.setLamp_portB (s : State) (m : Nat) (l : LoopState) : (s.setLamp m l).portB = s.portB := rfl
@[simp] theorem State.setLamp_dma (s : State) (m : Nat) (l : LoopState) : (s.setLamp m l).dma = s.dma := rfl
@[simp] theorem State.setLamp_fw (s : State) (m : Nat) (l : LoopState) : (s.setLamp m l).fw = s.fw := rfl
@[simp] theorem State.setLamp_pwr (s : State) (m : Nat) (l : LoopState) : (s.setLamp m l).pwr = s.pwr := rfl
@[simp] theorem State.setLamp_grid (s : State) (m : Nat) (l : LoopState) : (s.setLamp m l).grid = s.grid := rfl
@[simp] theorem State.setLamp_sht (s : State) (m : Nat) (l : LoopState) : (s.setLamp m l).sht = s.sht := rfl
@[simp] theorem State.setLamp_emt (s : State) (m : Nat) (l : LoopState) : (s.setLamp m l).emt = s.emt := rfl
@[simp] theorem State.setLamp_flood (s : State) (m : Nat) (l : LoopState) : (s.setLamp m l).flood = s.flood := rfl
@[simp] theorem State.setLamp_sec (s : State) (m : Nat) (l : LoopState) : (s.setLamp m l).sec = s.sec := rfl
@[simp] theorem State.setLamp_thm (s : State) (m : Nat) (l : LoopState) : (s.setLamp m l).thm = s.thm := rfl
@[simp] theorem State.setLamp_net (s : State) (m : Nat) (l : LoopState) : (s.setLamp m l).net = s.net := rfl
@[simp] theorem State.setLamp_det (s : State) (m : Nat) (l : LoopState) : (s.setLamp m l).det = s.det := rfl
@[simp] theorem State.setLamp_tdc (s : State) (m : Nat) (l : LoopState) : (s.setLamp m l).tdc = s.tdc := rfl
@[simp] theorem State.setLamp_bgt (s : State) (m : Nat) (l : LoopState) : (s.setLamp m l).bgt = s.bgt := rfl
@[simp] theorem State.setLamp_lnp (s : State) (m : Nat) (l : LoopState) : (s.setLamp m l).lnp = s.lnp := rfl
@[simp] theorem State.setLamp_hst (s : State) (m : Nat) (l : LoopState) : (s.setLamp m l).hst = s.hst := rfl
@[simp] theorem State.setLamp_pnt (s : State) (m : Nat) (l : LoopState) : (s.setLamp m l).pnt = s.pnt := rfl
@[simp] theorem State.setLamp_img (s : State) (m : Nat) (l : LoopState) : (s.setLamp m l).img = s.img := rfl
@[simp] theorem State.setLamp_isp (s : State) (m : Nat) (l : LoopState) : (s.setLamp m l).isp = s.isp := rfl
@[simp] theorem State.setLamp_afe (s : State) (m : Nat) (l : LoopState) : (s.setLamp m l).afe = s.afe := rfl
@[simp] theorem State.setLamp_adc (s : State) (m : Nat) (l : LoopState) : (s.setLamp m l).adc = s.adc := rfl
@[simp] theorem State.setLamp_cal (s : State) (m : Nat) (l : LoopState) : (s.setLamp m l).cal = s.cal := rfl
@[simp] theorem State.setLamp_mem (s : State) (m : Nat) (l : LoopState) : (s.setLamp m l).mem = s.mem := rfl
@[simp] theorem State.setLamp_poison (s : State) (m : Nat) (l : LoopState) : (s.setLamp m l).poison = s.poison := rfl
@[simp] theorem State.setLamp_host (s : State) (m : Nat) (l : LoopState) : (s.setLamp m l).host = s.host := rfl
@[simp] theorem State.setLamp_wire (s : State) (m : Nat) (l : LoopState) : (s.setLamp m l).wire = s.wire := rfl
@[simp] theorem State.setLamp_raised (s : State) (m : Nat) (l : LoopState) : (s.setLamp m l).raised = s.raised := rfl
@[simp] theorem State.setLamp_refused (s : State) (m : Nat) (l : LoopState) : (s.setLamp m l).refused = s.refused := rfl
@[simp] theorem State.setLamp_freeCount (s : State) (m : Nat) (l : LoopState) : (s.setLamp m l).freeCount = s.freeCount := rfl
@[simp] theorem State.setLamp_pending (s : State) (m : Nat) (l : LoopState) : (s.setLamp m l).pending = s.pending := rfl

@[simp] theorem State.setChan_regs (s : State) (n : Nat) (c : DetChan) : (s.setChan n c).regs = s.regs := rfl
@[simp] theorem State.setChan_inForce (s : State) (n : Nat) (c : DetChan) : (s.setChan n c).inForce = s.inForce := rfl
@[simp] theorem State.setChan_now (s : State) (n : Nat) (c : DetChan) : (s.setChan n c).now = s.now := rfl
@[simp] theorem State.setChan_devTime (s : State) (n : Nat) (c : DetChan) : (s.setChan n c).devTime = s.devTime := rfl
@[simp] theorem State.setChan_rateCorr (s : State) (n : Nat) (c : DetChan) : (s.setChan n c).rateCorr = s.rateCorr := rfl
@[simp] theorem State.setChan_portA (s : State) (n : Nat) (c : DetChan) : (s.setChan n c).portA = s.portA := rfl
@[simp] theorem State.setChan_portB (s : State) (n : Nat) (c : DetChan) : (s.setChan n c).portB = s.portB := rfl
@[simp] theorem State.setChan_dma (s : State) (n : Nat) (c : DetChan) : (s.setChan n c).dma = s.dma := rfl
@[simp] theorem State.setChan_fw (s : State) (n : Nat) (c : DetChan) : (s.setChan n c).fw = s.fw := rfl
@[simp] theorem State.setChan_pwr (s : State) (n : Nat) (c : DetChan) : (s.setChan n c).pwr = s.pwr := rfl
@[simp] theorem State.setChan_grid (s : State) (n : Nat) (c : DetChan) : (s.setChan n c).grid = s.grid := rfl
@[simp] theorem State.setChan_ctl (s : State) (n : Nat) (c : DetChan) : (s.setChan n c).ctl = s.ctl := rfl
@[simp] theorem State.setChan_sht (s : State) (n : Nat) (c : DetChan) : (s.setChan n c).sht = s.sht := rfl
@[simp] theorem State.setChan_emt (s : State) (n : Nat) (c : DetChan) : (s.setChan n c).emt = s.emt := rfl
@[simp] theorem State.setChan_flood (s : State) (n : Nat) (c : DetChan) : (s.setChan n c).flood = s.flood := rfl
@[simp] theorem State.setChan_sec (s : State) (n : Nat) (c : DetChan) : (s.setChan n c).sec = s.sec := rfl
@[simp] theorem State.setChan_thm (s : State) (n : Nat) (c : DetChan) : (s.setChan n c).thm = s.thm := rfl
@[simp] theorem State.setChan_net (s : State) (n : Nat) (c : DetChan) : (s.setChan n c).net = s.net := rfl
@[simp] theorem State.setChan_tdc (s : State) (n : Nat) (c : DetChan) : (s.setChan n c).tdc = s.tdc := rfl
@[simp] theorem State.setChan_bgt (s : State) (n : Nat) (c : DetChan) : (s.setChan n c).bgt = s.bgt := rfl
@[simp] theorem State.setChan_lnp (s : State) (n : Nat) (c : DetChan) : (s.setChan n c).lnp = s.lnp := rfl
@[simp] theorem State.setChan_hst (s : State) (n : Nat) (c : DetChan) : (s.setChan n c).hst = s.hst := rfl
@[simp] theorem State.setChan_pnt (s : State) (n : Nat) (c : DetChan) : (s.setChan n c).pnt = s.pnt := rfl
@[simp] theorem State.setChan_img (s : State) (n : Nat) (c : DetChan) : (s.setChan n c).img = s.img := rfl
@[simp] theorem State.setChan_isp (s : State) (n : Nat) (c : DetChan) : (s.setChan n c).isp = s.isp := rfl
@[simp] theorem State.setChan_afe (s : State) (n : Nat) (c : DetChan) : (s.setChan n c).afe = s.afe := rfl
@[simp] theorem State.setChan_adc (s : State) (n : Nat) (c : DetChan) : (s.setChan n c).adc = s.adc := rfl
@[simp] theorem State.setChan_cal (s : State) (n : Nat) (c : DetChan) : (s.setChan n c).cal = s.cal := rfl
@[simp] theorem State.setChan_mem (s : State) (n : Nat) (c : DetChan) : (s.setChan n c).mem = s.mem := rfl
@[simp] theorem State.setChan_poison (s : State) (n : Nat) (c : DetChan) : (s.setChan n c).poison = s.poison := rfl
@[simp] theorem State.setChan_host (s : State) (n : Nat) (c : DetChan) : (s.setChan n c).host = s.host := rfl
@[simp] theorem State.setChan_wire (s : State) (n : Nat) (c : DetChan) : (s.setChan n c).wire = s.wire := rfl
@[simp] theorem State.setChan_raised (s : State) (n : Nat) (c : DetChan) : (s.setChan n c).raised = s.raised := rfl
@[simp] theorem State.setChan_refused (s : State) (n : Nat) (c : DetChan) : (s.setChan n c).refused = s.refused := rfl
@[simp] theorem State.setChan_freeCount (s : State) (n : Nat) (c : DetChan) : (s.setChan n c).freeCount = s.freeCount := rfl
@[simp] theorem State.setChan_pending (s : State) (n : Nat) (c : DetChan) : (s.setChan n c).pending = s.pending := rfl

@[simp] theorem State.setLane_regs (s : State) (l : Nat) (x : Lane) : (s.setLane l x).regs = s.regs := rfl
@[simp] theorem State.setLane_inForce (s : State) (l : Nat) (x : Lane) : (s.setLane l x).inForce = s.inForce := rfl
@[simp] theorem State.setLane_now (s : State) (l : Nat) (x : Lane) : (s.setLane l x).now = s.now := rfl
@[simp] theorem State.setLane_devTime (s : State) (l : Nat) (x : Lane) : (s.setLane l x).devTime = s.devTime := rfl
@[simp] theorem State.setLane_rateCorr (s : State) (l : Nat) (x : Lane) : (s.setLane l x).rateCorr = s.rateCorr := rfl
@[simp] theorem State.setLane_portA (s : State) (l : Nat) (x : Lane) : (s.setLane l x).portA = s.portA := rfl
@[simp] theorem State.setLane_portB (s : State) (l : Nat) (x : Lane) : (s.setLane l x).portB = s.portB := rfl
@[simp] theorem State.setLane_dma (s : State) (l : Nat) (x : Lane) : (s.setLane l x).dma = s.dma := rfl
@[simp] theorem State.setLane_fw (s : State) (l : Nat) (x : Lane) : (s.setLane l x).fw = s.fw := rfl
@[simp] theorem State.setLane_pwr (s : State) (l : Nat) (x : Lane) : (s.setLane l x).pwr = s.pwr := rfl
@[simp] theorem State.setLane_grid (s : State) (l : Nat) (x : Lane) : (s.setLane l x).grid = s.grid := rfl
@[simp] theorem State.setLane_ctl (s : State) (l : Nat) (x : Lane) : (s.setLane l x).ctl = s.ctl := rfl
@[simp] theorem State.setLane_sht (s : State) (l : Nat) (x : Lane) : (s.setLane l x).sht = s.sht := rfl
@[simp] theorem State.setLane_emt (s : State) (l : Nat) (x : Lane) : (s.setLane l x).emt = s.emt := rfl
@[simp] theorem State.setLane_flood (s : State) (l : Nat) (x : Lane) : (s.setLane l x).flood = s.flood := rfl
@[simp] theorem State.setLane_sec (s : State) (l : Nat) (x : Lane) : (s.setLane l x).sec = s.sec := rfl
@[simp] theorem State.setLane_thm (s : State) (l : Nat) (x : Lane) : (s.setLane l x).thm = s.thm := rfl
@[simp] theorem State.setLane_net (s : State) (l : Nat) (x : Lane) : (s.setLane l x).net = s.net := rfl
@[simp] theorem State.setLane_det (s : State) (l : Nat) (x : Lane) : (s.setLane l x).det = s.det := rfl
@[simp] theorem State.setLane_bgt (s : State) (l : Nat) (x : Lane) : (s.setLane l x).bgt = s.bgt := rfl
@[simp] theorem State.setLane_lnp (s : State) (l : Nat) (x : Lane) : (s.setLane l x).lnp = s.lnp := rfl
@[simp] theorem State.setLane_hst (s : State) (l : Nat) (x : Lane) : (s.setLane l x).hst = s.hst := rfl
@[simp] theorem State.setLane_pnt (s : State) (l : Nat) (x : Lane) : (s.setLane l x).pnt = s.pnt := rfl
@[simp] theorem State.setLane_img (s : State) (l : Nat) (x : Lane) : (s.setLane l x).img = s.img := rfl
@[simp] theorem State.setLane_isp (s : State) (l : Nat) (x : Lane) : (s.setLane l x).isp = s.isp := rfl
@[simp] theorem State.setLane_afe (s : State) (l : Nat) (x : Lane) : (s.setLane l x).afe = s.afe := rfl
@[simp] theorem State.setLane_adc (s : State) (l : Nat) (x : Lane) : (s.setLane l x).adc = s.adc := rfl
@[simp] theorem State.setLane_cal (s : State) (l : Nat) (x : Lane) : (s.setLane l x).cal = s.cal := rfl
@[simp] theorem State.setLane_mem (s : State) (l : Nat) (x : Lane) : (s.setLane l x).mem = s.mem := rfl
@[simp] theorem State.setLane_poison (s : State) (l : Nat) (x : Lane) : (s.setLane l x).poison = s.poison := rfl
@[simp] theorem State.setLane_host (s : State) (l : Nat) (x : Lane) : (s.setLane l x).host = s.host := rfl
@[simp] theorem State.setLane_wire (s : State) (l : Nat) (x : Lane) : (s.setLane l x).wire = s.wire := rfl
@[simp] theorem State.setLane_raised (s : State) (l : Nat) (x : Lane) : (s.setLane l x).raised = s.raised := rfl
@[simp] theorem State.setLane_refused (s : State) (l : Nat) (x : Lane) : (s.setLane l x).refused = s.refused := rfl
@[simp] theorem State.setLane_freeCount (s : State) (l : Nat) (x : Lane) : (s.setLane l x).freeCount = s.freeCount := rfl
@[simp] theorem State.setLane_pending (s : State) (l : Nat) (x : Lane) : (s.setLane l x).pending = s.pending := rfl

@[simp] theorem State.setJob_regs (s : State) (key : Nat) (x : ChanLine) : (s.setJob key x).regs = s.regs := rfl
@[simp] theorem State.setJob_inForce (s : State) (key : Nat) (x : ChanLine) : (s.setJob key x).inForce = s.inForce := rfl
@[simp] theorem State.setJob_now (s : State) (key : Nat) (x : ChanLine) : (s.setJob key x).now = s.now := rfl
@[simp] theorem State.setJob_devTime (s : State) (key : Nat) (x : ChanLine) : (s.setJob key x).devTime = s.devTime := rfl
@[simp] theorem State.setJob_rateCorr (s : State) (key : Nat) (x : ChanLine) : (s.setJob key x).rateCorr = s.rateCorr := rfl
@[simp] theorem State.setJob_portA (s : State) (key : Nat) (x : ChanLine) : (s.setJob key x).portA = s.portA := rfl
@[simp] theorem State.setJob_portB (s : State) (key : Nat) (x : ChanLine) : (s.setJob key x).portB = s.portB := rfl
@[simp] theorem State.setJob_dma (s : State) (key : Nat) (x : ChanLine) : (s.setJob key x).dma = s.dma := rfl
@[simp] theorem State.setJob_fw (s : State) (key : Nat) (x : ChanLine) : (s.setJob key x).fw = s.fw := rfl
@[simp] theorem State.setJob_pwr (s : State) (key : Nat) (x : ChanLine) : (s.setJob key x).pwr = s.pwr := rfl
@[simp] theorem State.setJob_grid (s : State) (key : Nat) (x : ChanLine) : (s.setJob key x).grid = s.grid := rfl
@[simp] theorem State.setJob_ctl (s : State) (key : Nat) (x : ChanLine) : (s.setJob key x).ctl = s.ctl := rfl
@[simp] theorem State.setJob_sht (s : State) (key : Nat) (x : ChanLine) : (s.setJob key x).sht = s.sht := rfl
@[simp] theorem State.setJob_emt (s : State) (key : Nat) (x : ChanLine) : (s.setJob key x).emt = s.emt := rfl
@[simp] theorem State.setJob_flood (s : State) (key : Nat) (x : ChanLine) : (s.setJob key x).flood = s.flood := rfl
@[simp] theorem State.setJob_sec (s : State) (key : Nat) (x : ChanLine) : (s.setJob key x).sec = s.sec := rfl
@[simp] theorem State.setJob_thm (s : State) (key : Nat) (x : ChanLine) : (s.setJob key x).thm = s.thm := rfl
@[simp] theorem State.setJob_net (s : State) (key : Nat) (x : ChanLine) : (s.setJob key x).net = s.net := rfl
@[simp] theorem State.setJob_det (s : State) (key : Nat) (x : ChanLine) : (s.setJob key x).det = s.det := rfl
@[simp] theorem State.setJob_tdc (s : State) (key : Nat) (x : ChanLine) : (s.setJob key x).tdc = s.tdc := rfl
@[simp] theorem State.setJob_bgt (s : State) (key : Nat) (x : ChanLine) : (s.setJob key x).bgt = s.bgt := rfl
@[simp] theorem State.setJob_lnp (s : State) (key : Nat) (x : ChanLine) : (s.setJob key x).lnp = s.lnp := rfl
@[simp] theorem State.setJob_pnt (s : State) (key : Nat) (x : ChanLine) : (s.setJob key x).pnt = s.pnt := rfl
@[simp] theorem State.setJob_img (s : State) (key : Nat) (x : ChanLine) : (s.setJob key x).img = s.img := rfl
@[simp] theorem State.setJob_isp (s : State) (key : Nat) (x : ChanLine) : (s.setJob key x).isp = s.isp := rfl
@[simp] theorem State.setJob_afe (s : State) (key : Nat) (x : ChanLine) : (s.setJob key x).afe = s.afe := rfl
@[simp] theorem State.setJob_adc (s : State) (key : Nat) (x : ChanLine) : (s.setJob key x).adc = s.adc := rfl
@[simp] theorem State.setJob_cal (s : State) (key : Nat) (x : ChanLine) : (s.setJob key x).cal = s.cal := rfl
@[simp] theorem State.setJob_mem (s : State) (key : Nat) (x : ChanLine) : (s.setJob key x).mem = s.mem := rfl
@[simp] theorem State.setJob_poison (s : State) (key : Nat) (x : ChanLine) : (s.setJob key x).poison = s.poison := rfl
@[simp] theorem State.setJob_host (s : State) (key : Nat) (x : ChanLine) : (s.setJob key x).host = s.host := rfl
@[simp] theorem State.setJob_wire (s : State) (key : Nat) (x : ChanLine) : (s.setJob key x).wire = s.wire := rfl
@[simp] theorem State.setJob_raised (s : State) (key : Nat) (x : ChanLine) : (s.setJob key x).raised = s.raised := rfl
@[simp] theorem State.setJob_refused (s : State) (key : Nat) (x : ChanLine) : (s.setJob key x).refused = s.refused := rfl
@[simp] theorem State.setJob_freeCount (s : State) (key : Nat) (x : ChanLine) : (s.setJob key x).freeCount = s.freeCount := rfl
@[simp] theorem State.setJob_pending (s : State) (key : Nat) (x : ChanLine) : (s.setJob key x).pending = s.pending := rfl

@[simp] theorem State.setAfe_regs (s : State) (m : Nat) (c : AfeChan) : (s.setAfe m c).regs = s.regs := rfl
@[simp] theorem State.setAfe_inForce (s : State) (m : Nat) (c : AfeChan) : (s.setAfe m c).inForce = s.inForce := rfl
@[simp] theorem State.setAfe_now (s : State) (m : Nat) (c : AfeChan) : (s.setAfe m c).now = s.now := rfl
@[simp] theorem State.setAfe_devTime (s : State) (m : Nat) (c : AfeChan) : (s.setAfe m c).devTime = s.devTime := rfl
@[simp] theorem State.setAfe_rateCorr (s : State) (m : Nat) (c : AfeChan) : (s.setAfe m c).rateCorr = s.rateCorr := rfl
@[simp] theorem State.setAfe_portA (s : State) (m : Nat) (c : AfeChan) : (s.setAfe m c).portA = s.portA := rfl
@[simp] theorem State.setAfe_portB (s : State) (m : Nat) (c : AfeChan) : (s.setAfe m c).portB = s.portB := rfl
@[simp] theorem State.setAfe_dma (s : State) (m : Nat) (c : AfeChan) : (s.setAfe m c).dma = s.dma := rfl
@[simp] theorem State.setAfe_fw (s : State) (m : Nat) (c : AfeChan) : (s.setAfe m c).fw = s.fw := rfl
@[simp] theorem State.setAfe_pwr (s : State) (m : Nat) (c : AfeChan) : (s.setAfe m c).pwr = s.pwr := rfl
@[simp] theorem State.setAfe_grid (s : State) (m : Nat) (c : AfeChan) : (s.setAfe m c).grid = s.grid := rfl
@[simp] theorem State.setAfe_ctl (s : State) (m : Nat) (c : AfeChan) : (s.setAfe m c).ctl = s.ctl := rfl
@[simp] theorem State.setAfe_sht (s : State) (m : Nat) (c : AfeChan) : (s.setAfe m c).sht = s.sht := rfl
@[simp] theorem State.setAfe_emt (s : State) (m : Nat) (c : AfeChan) : (s.setAfe m c).emt = s.emt := rfl
@[simp] theorem State.setAfe_flood (s : State) (m : Nat) (c : AfeChan) : (s.setAfe m c).flood = s.flood := rfl
@[simp] theorem State.setAfe_sec (s : State) (m : Nat) (c : AfeChan) : (s.setAfe m c).sec = s.sec := rfl
@[simp] theorem State.setAfe_thm (s : State) (m : Nat) (c : AfeChan) : (s.setAfe m c).thm = s.thm := rfl
@[simp] theorem State.setAfe_net (s : State) (m : Nat) (c : AfeChan) : (s.setAfe m c).net = s.net := rfl
@[simp] theorem State.setAfe_det (s : State) (m : Nat) (c : AfeChan) : (s.setAfe m c).det = s.det := rfl
@[simp] theorem State.setAfe_tdc (s : State) (m : Nat) (c : AfeChan) : (s.setAfe m c).tdc = s.tdc := rfl
@[simp] theorem State.setAfe_bgt (s : State) (m : Nat) (c : AfeChan) : (s.setAfe m c).bgt = s.bgt := rfl
@[simp] theorem State.setAfe_lnp (s : State) (m : Nat) (c : AfeChan) : (s.setAfe m c).lnp = s.lnp := rfl
@[simp] theorem State.setAfe_hst (s : State) (m : Nat) (c : AfeChan) : (s.setAfe m c).hst = s.hst := rfl
@[simp] theorem State.setAfe_pnt (s : State) (m : Nat) (c : AfeChan) : (s.setAfe m c).pnt = s.pnt := rfl
@[simp] theorem State.setAfe_img (s : State) (m : Nat) (c : AfeChan) : (s.setAfe m c).img = s.img := rfl
@[simp] theorem State.setAfe_isp (s : State) (m : Nat) (c : AfeChan) : (s.setAfe m c).isp = s.isp := rfl
@[simp] theorem State.setAfe_adc (s : State) (m : Nat) (c : AfeChan) : (s.setAfe m c).adc = s.adc := rfl
@[simp] theorem State.setAfe_cal (s : State) (m : Nat) (c : AfeChan) : (s.setAfe m c).cal = s.cal := rfl
@[simp] theorem State.setAfe_mem (s : State) (m : Nat) (c : AfeChan) : (s.setAfe m c).mem = s.mem := rfl
@[simp] theorem State.setAfe_poison (s : State) (m : Nat) (c : AfeChan) : (s.setAfe m c).poison = s.poison := rfl
@[simp] theorem State.setAfe_host (s : State) (m : Nat) (c : AfeChan) : (s.setAfe m c).host = s.host := rfl
@[simp] theorem State.setAfe_wire (s : State) (m : Nat) (c : AfeChan) : (s.setAfe m c).wire = s.wire := rfl
@[simp] theorem State.setAfe_raised (s : State) (m : Nat) (c : AfeChan) : (s.setAfe m c).raised = s.raised := rfl
@[simp] theorem State.setAfe_refused (s : State) (m : Nat) (c : AfeChan) : (s.setAfe m c).refused = s.refused := rfl
@[simp] theorem State.setAfe_freeCount (s : State) (m : Nat) (c : AfeChan) : (s.setAfe m c).freeCount = s.freeCount := rfl
@[simp] theorem State.setAfe_pending (s : State) (m : Nat) (c : AfeChan) : (s.setAfe m c).pending = s.pending := rfl

@[simp] theorem State.setChain_regs (s : State) (j : Nat) (c : FltChain) : (s.setChain j c).regs = s.regs := rfl
@[simp] theorem State.setChain_inForce (s : State) (j : Nat) (c : FltChain) : (s.setChain j c).inForce = s.inForce := rfl
@[simp] theorem State.setChain_now (s : State) (j : Nat) (c : FltChain) : (s.setChain j c).now = s.now := rfl
@[simp] theorem State.setChain_devTime (s : State) (j : Nat) (c : FltChain) : (s.setChain j c).devTime = s.devTime := rfl
@[simp] theorem State.setChain_rateCorr (s : State) (j : Nat) (c : FltChain) : (s.setChain j c).rateCorr = s.rateCorr := rfl
@[simp] theorem State.setChain_portA (s : State) (j : Nat) (c : FltChain) : (s.setChain j c).portA = s.portA := rfl
@[simp] theorem State.setChain_portB (s : State) (j : Nat) (c : FltChain) : (s.setChain j c).portB = s.portB := rfl
@[simp] theorem State.setChain_dma (s : State) (j : Nat) (c : FltChain) : (s.setChain j c).dma = s.dma := rfl
@[simp] theorem State.setChain_fw (s : State) (j : Nat) (c : FltChain) : (s.setChain j c).fw = s.fw := rfl
@[simp] theorem State.setChain_pwr (s : State) (j : Nat) (c : FltChain) : (s.setChain j c).pwr = s.pwr := rfl
@[simp] theorem State.setChain_grid (s : State) (j : Nat) (c : FltChain) : (s.setChain j c).grid = s.grid := rfl
@[simp] theorem State.setChain_ctl (s : State) (j : Nat) (c : FltChain) : (s.setChain j c).ctl = s.ctl := rfl
@[simp] theorem State.setChain_sht (s : State) (j : Nat) (c : FltChain) : (s.setChain j c).sht = s.sht := rfl
@[simp] theorem State.setChain_emt (s : State) (j : Nat) (c : FltChain) : (s.setChain j c).emt = s.emt := rfl
@[simp] theorem State.setChain_flood (s : State) (j : Nat) (c : FltChain) : (s.setChain j c).flood = s.flood := rfl
@[simp] theorem State.setChain_sec (s : State) (j : Nat) (c : FltChain) : (s.setChain j c).sec = s.sec := rfl
@[simp] theorem State.setChain_thm (s : State) (j : Nat) (c : FltChain) : (s.setChain j c).thm = s.thm := rfl
@[simp] theorem State.setChain_net (s : State) (j : Nat) (c : FltChain) : (s.setChain j c).net = s.net := rfl
@[simp] theorem State.setChain_det (s : State) (j : Nat) (c : FltChain) : (s.setChain j c).det = s.det := rfl
@[simp] theorem State.setChain_tdc (s : State) (j : Nat) (c : FltChain) : (s.setChain j c).tdc = s.tdc := rfl
@[simp] theorem State.setChain_bgt (s : State) (j : Nat) (c : FltChain) : (s.setChain j c).bgt = s.bgt := rfl
@[simp] theorem State.setChain_lnp (s : State) (j : Nat) (c : FltChain) : (s.setChain j c).lnp = s.lnp := rfl
@[simp] theorem State.setChain_hst (s : State) (j : Nat) (c : FltChain) : (s.setChain j c).hst = s.hst := rfl
@[simp] theorem State.setChain_pnt (s : State) (j : Nat) (c : FltChain) : (s.setChain j c).pnt = s.pnt := rfl
@[simp] theorem State.setChain_img (s : State) (j : Nat) (c : FltChain) : (s.setChain j c).img = s.img := rfl
@[simp] theorem State.setChain_isp (s : State) (j : Nat) (c : FltChain) : (s.setChain j c).isp = s.isp := rfl
@[simp] theorem State.setChain_adc (s : State) (j : Nat) (c : FltChain) : (s.setChain j c).adc = s.adc := rfl
@[simp] theorem State.setChain_cal (s : State) (j : Nat) (c : FltChain) : (s.setChain j c).cal = s.cal := rfl
@[simp] theorem State.setChain_mem (s : State) (j : Nat) (c : FltChain) : (s.setChain j c).mem = s.mem := rfl
@[simp] theorem State.setChain_poison (s : State) (j : Nat) (c : FltChain) : (s.setChain j c).poison = s.poison := rfl
@[simp] theorem State.setChain_host (s : State) (j : Nat) (c : FltChain) : (s.setChain j c).host = s.host := rfl
@[simp] theorem State.setChain_wire (s : State) (j : Nat) (c : FltChain) : (s.setChain j c).wire = s.wire := rfl
@[simp] theorem State.setChain_raised (s : State) (j : Nat) (c : FltChain) : (s.setChain j c).raised = s.raised := rfl
@[simp] theorem State.setChain_refused (s : State) (j : Nat) (c : FltChain) : (s.setChain j c).refused = s.refused := rfl
@[simp] theorem State.setChain_freeCount (s : State) (j : Nat) (c : FltChain) : (s.setChain j c).freeCount = s.freeCount := rfl
@[simp] theorem State.setChain_pending (s : State) (j : Nat) (c : FltChain) : (s.setChain j c).pending = s.pending := rfl

@[simp] theorem State.setHidden_regs (s : State) (w : Nat) (v : Word) : (s.setHidden w v).regs = s.regs := rfl
@[simp] theorem State.setHidden_inForce (s : State) (w : Nat) (v : Word) : (s.setHidden w v).inForce = s.inForce := rfl
@[simp] theorem State.setHidden_now (s : State) (w : Nat) (v : Word) : (s.setHidden w v).now = s.now := rfl
@[simp] theorem State.setHidden_devTime (s : State) (w : Nat) (v : Word) : (s.setHidden w v).devTime = s.devTime := rfl
@[simp] theorem State.setHidden_rateCorr (s : State) (w : Nat) (v : Word) : (s.setHidden w v).rateCorr = s.rateCorr := rfl
@[simp] theorem State.setHidden_portA (s : State) (w : Nat) (v : Word) : (s.setHidden w v).portA = s.portA := rfl
@[simp] theorem State.setHidden_portB (s : State) (w : Nat) (v : Word) : (s.setHidden w v).portB = s.portB := rfl
@[simp] theorem State.setHidden_dma (s : State) (w : Nat) (v : Word) : (s.setHidden w v).dma = s.dma := rfl
@[simp] theorem State.setHidden_fw (s : State) (w : Nat) (v : Word) : (s.setHidden w v).fw = s.fw := rfl
@[simp] theorem State.setHidden_pwr (s : State) (w : Nat) (v : Word) : (s.setHidden w v).pwr = s.pwr := rfl
@[simp] theorem State.setHidden_grid (s : State) (w : Nat) (v : Word) : (s.setHidden w v).grid = s.grid := rfl
@[simp] theorem State.setHidden_ctl (s : State) (w : Nat) (v : Word) : (s.setHidden w v).ctl = s.ctl := rfl
@[simp] theorem State.setHidden_sht (s : State) (w : Nat) (v : Word) : (s.setHidden w v).sht = s.sht := rfl
@[simp] theorem State.setHidden_emt (s : State) (w : Nat) (v : Word) : (s.setHidden w v).emt = s.emt := rfl
@[simp] theorem State.setHidden_flood (s : State) (w : Nat) (v : Word) : (s.setHidden w v).flood = s.flood := rfl
@[simp] theorem State.setHidden_sec (s : State) (w : Nat) (v : Word) : (s.setHidden w v).sec = s.sec := rfl
@[simp] theorem State.setHidden_thm (s : State) (w : Nat) (v : Word) : (s.setHidden w v).thm = s.thm := rfl
@[simp] theorem State.setHidden_net (s : State) (w : Nat) (v : Word) : (s.setHidden w v).net = s.net := rfl
@[simp] theorem State.setHidden_det (s : State) (w : Nat) (v : Word) : (s.setHidden w v).det = s.det := rfl
@[simp] theorem State.setHidden_tdc (s : State) (w : Nat) (v : Word) : (s.setHidden w v).tdc = s.tdc := rfl
@[simp] theorem State.setHidden_bgt (s : State) (w : Nat) (v : Word) : (s.setHidden w v).bgt = s.bgt := rfl
@[simp] theorem State.setHidden_lnp (s : State) (w : Nat) (v : Word) : (s.setHidden w v).lnp = s.lnp := rfl
@[simp] theorem State.setHidden_hst (s : State) (w : Nat) (v : Word) : (s.setHidden w v).hst = s.hst := rfl
@[simp] theorem State.setHidden_pnt (s : State) (w : Nat) (v : Word) : (s.setHidden w v).pnt = s.pnt := rfl
@[simp] theorem State.setHidden_img (s : State) (w : Nat) (v : Word) : (s.setHidden w v).img = s.img := rfl
@[simp] theorem State.setHidden_isp (s : State) (w : Nat) (v : Word) : (s.setHidden w v).isp = s.isp := rfl
@[simp] theorem State.setHidden_afe (s : State) (w : Nat) (v : Word) : (s.setHidden w v).afe = s.afe := rfl
@[simp] theorem State.setHidden_adc (s : State) (w : Nat) (v : Word) : (s.setHidden w v).adc = s.adc := rfl
@[simp] theorem State.setHidden_mem (s : State) (w : Nat) (v : Word) : (s.setHidden w v).mem = s.mem := rfl
@[simp] theorem State.setHidden_poison (s : State) (w : Nat) (v : Word) : (s.setHidden w v).poison = s.poison := rfl
@[simp] theorem State.setHidden_host (s : State) (w : Nat) (v : Word) : (s.setHidden w v).host = s.host := rfl
@[simp] theorem State.setHidden_wire (s : State) (w : Nat) (v : Word) : (s.setHidden w v).wire = s.wire := rfl
@[simp] theorem State.setHidden_raised (s : State) (w : Nat) (v : Word) : (s.setHidden w v).raised = s.raised := rfl
@[simp] theorem State.setHidden_refused (s : State) (w : Nat) (v : Word) : (s.setHidden w v).refused = s.refused := rfl
@[simp] theorem State.setHidden_freeCount (s : State) (w : Nat) (v : Word) : (s.setHidden w v).freeCount = s.freeCount := rfl
@[simp] theorem State.setHidden_pending (s : State) (w : Nat) (v : Word) : (s.setHidden w v).pending = s.pending := rfl

@[simp] theorem State.storeCount_regs (s : State) (a v : Nat) : (s.storeCount a v).regs = s.regs := rfl
@[simp] theorem State.storeCount_inForce (s : State) (a v : Nat) : (s.storeCount a v).inForce = s.inForce := rfl
@[simp] theorem State.storeCount_now (s : State) (a v : Nat) : (s.storeCount a v).now = s.now := rfl
@[simp] theorem State.storeCount_devTime (s : State) (a v : Nat) : (s.storeCount a v).devTime = s.devTime := rfl
@[simp] theorem State.storeCount_rateCorr (s : State) (a v : Nat) : (s.storeCount a v).rateCorr = s.rateCorr := rfl
@[simp] theorem State.storeCount_portA (s : State) (a v : Nat) : (s.storeCount a v).portA = s.portA := rfl
@[simp] theorem State.storeCount_portB (s : State) (a v : Nat) : (s.storeCount a v).portB = s.portB := rfl
@[simp] theorem State.storeCount_dma (s : State) (a v : Nat) : (s.storeCount a v).dma = s.dma := rfl
@[simp] theorem State.storeCount_fw (s : State) (a v : Nat) : (s.storeCount a v).fw = s.fw := rfl
@[simp] theorem State.storeCount_pwr (s : State) (a v : Nat) : (s.storeCount a v).pwr = s.pwr := rfl
@[simp] theorem State.storeCount_grid (s : State) (a v : Nat) : (s.storeCount a v).grid = s.grid := rfl
@[simp] theorem State.storeCount_ctl (s : State) (a v : Nat) : (s.storeCount a v).ctl = s.ctl := rfl
@[simp] theorem State.storeCount_sht (s : State) (a v : Nat) : (s.storeCount a v).sht = s.sht := rfl
@[simp] theorem State.storeCount_emt (s : State) (a v : Nat) : (s.storeCount a v).emt = s.emt := rfl
@[simp] theorem State.storeCount_flood (s : State) (a v : Nat) : (s.storeCount a v).flood = s.flood := rfl
@[simp] theorem State.storeCount_sec (s : State) (a v : Nat) : (s.storeCount a v).sec = s.sec := rfl
@[simp] theorem State.storeCount_thm (s : State) (a v : Nat) : (s.storeCount a v).thm = s.thm := rfl
@[simp] theorem State.storeCount_net (s : State) (a v : Nat) : (s.storeCount a v).net = s.net := rfl
@[simp] theorem State.storeCount_det (s : State) (a v : Nat) : (s.storeCount a v).det = s.det := rfl
@[simp] theorem State.storeCount_tdc (s : State) (a v : Nat) : (s.storeCount a v).tdc = s.tdc := rfl
@[simp] theorem State.storeCount_bgt (s : State) (a v : Nat) : (s.storeCount a v).bgt = s.bgt := rfl
@[simp] theorem State.storeCount_lnp (s : State) (a v : Nat) : (s.storeCount a v).lnp = s.lnp := rfl
@[simp] theorem State.storeCount_hst (s : State) (a v : Nat) : (s.storeCount a v).hst = s.hst := rfl
@[simp] theorem State.storeCount_pnt (s : State) (a v : Nat) : (s.storeCount a v).pnt = s.pnt := rfl
@[simp] theorem State.storeCount_img (s : State) (a v : Nat) : (s.storeCount a v).img = s.img := rfl
@[simp] theorem State.storeCount_isp (s : State) (a v : Nat) : (s.storeCount a v).isp = s.isp := rfl
@[simp] theorem State.storeCount_afe (s : State) (a v : Nat) : (s.storeCount a v).afe = s.afe := rfl
@[simp] theorem State.storeCount_adc (s : State) (a v : Nat) : (s.storeCount a v).adc = s.adc := rfl
@[simp] theorem State.storeCount_cal (s : State) (a v : Nat) : (s.storeCount a v).cal = s.cal := rfl
@[simp] theorem State.storeCount_mem (s : State) (a v : Nat) : (s.storeCount a v).mem = memWriteBytes s.mem a (leBytes 2 v) := rfl
@[simp] theorem State.storeCount_poison (s : State) (a v : Nat) : (s.storeCount a v).poison = s.poison := rfl
@[simp] theorem State.storeCount_host (s : State) (a v : Nat) : (s.storeCount a v).host = s.host := rfl
@[simp] theorem State.storeCount_wire (s : State) (a v : Nat) : (s.storeCount a v).wire = s.wire := rfl
@[simp] theorem State.storeCount_raised (s : State) (a v : Nat) : (s.storeCount a v).raised = s.raised := rfl
@[simp] theorem State.storeCount_refused (s : State) (a v : Nat) : (s.storeCount a v).refused = s.refused := rfl
@[simp] theorem State.storeCount_freeCount (s : State) (a v : Nat) : (s.storeCount a v).freeCount = s.freeCount := rfl
@[simp] theorem State.storeCount_pending (s : State) (a v : Nat) : (s.storeCount a v).pending = s.pending := rfl

/-! ### A port's state -/

theorem State.setPort_port (s : State) {p : Nat} (hp : p < 2) {q : Nat} (hq : q < 2) (x : PortState) :
    (s.setPort p x).port q = if q = p then x else s.port q := by
  have h : (p = 0 ∨ p = 1) ∧ (q = 0 ∨ q = 1) := by omega
  rcases h with ⟨rfl | rfl, rfl | rfl⟩ <;> rfl
@[simp] theorem State.setPort_regs (s : State) (p : Nat) (x : PortState) : (s.setPort p x).regs = s.regs := by
  unfold State.setPort; split <;> rfl
@[simp] theorem State.setPort_inForce (s : State) (p : Nat) (x : PortState) : (s.setPort p x).inForce = s.inForce := by
  unfold State.setPort; split <;> rfl
@[simp] theorem State.setPort_now (s : State) (p : Nat) (x : PortState) : (s.setPort p x).now = s.now := by
  unfold State.setPort; split <;> rfl
@[simp] theorem State.setPort_devTime (s : State) (p : Nat) (x : PortState) : (s.setPort p x).devTime = s.devTime := by
  unfold State.setPort; split <;> rfl
@[simp] theorem State.setPort_rateCorr (s : State) (p : Nat) (x : PortState) : (s.setPort p x).rateCorr = s.rateCorr := by
  unfold State.setPort; split <;> rfl
@[simp] theorem State.setPort_dma (s : State) (p : Nat) (x : PortState) : (s.setPort p x).dma = s.dma := by
  unfold State.setPort; split <;> rfl
@[simp] theorem State.setPort_fw (s : State) (p : Nat) (x : PortState) : (s.setPort p x).fw = s.fw := by
  unfold State.setPort; split <;> rfl
@[simp] theorem State.setPort_pwr (s : State) (p : Nat) (x : PortState) : (s.setPort p x).pwr = s.pwr := by
  unfold State.setPort; split <;> rfl
@[simp] theorem State.setPort_grid (s : State) (p : Nat) (x : PortState) : (s.setPort p x).grid = s.grid := by
  unfold State.setPort; split <;> rfl
@[simp] theorem State.setPort_ctl (s : State) (p : Nat) (x : PortState) : (s.setPort p x).ctl = s.ctl := by
  unfold State.setPort; split <;> rfl
@[simp] theorem State.setPort_sht (s : State) (p : Nat) (x : PortState) : (s.setPort p x).sht = s.sht := by
  unfold State.setPort; split <;> rfl
@[simp] theorem State.setPort_emt (s : State) (p : Nat) (x : PortState) : (s.setPort p x).emt = s.emt := by
  unfold State.setPort; split <;> rfl
@[simp] theorem State.setPort_flood (s : State) (p : Nat) (x : PortState) : (s.setPort p x).flood = s.flood := by
  unfold State.setPort; split <;> rfl
@[simp] theorem State.setPort_sec (s : State) (p : Nat) (x : PortState) : (s.setPort p x).sec = s.sec := by
  unfold State.setPort; split <;> rfl
@[simp] theorem State.setPort_thm (s : State) (p : Nat) (x : PortState) : (s.setPort p x).thm = s.thm := by
  unfold State.setPort; split <;> rfl
@[simp] theorem State.setPort_net (s : State) (p : Nat) (x : PortState) : (s.setPort p x).net = s.net := by
  unfold State.setPort; split <;> rfl
@[simp] theorem State.setPort_det (s : State) (p : Nat) (x : PortState) : (s.setPort p x).det = s.det := by
  unfold State.setPort; split <;> rfl
@[simp] theorem State.setPort_tdc (s : State) (p : Nat) (x : PortState) : (s.setPort p x).tdc = s.tdc := by
  unfold State.setPort; split <;> rfl
@[simp] theorem State.setPort_bgt (s : State) (p : Nat) (x : PortState) : (s.setPort p x).bgt = s.bgt := by
  unfold State.setPort; split <;> rfl
@[simp] theorem State.setPort_lnp (s : State) (p : Nat) (x : PortState) : (s.setPort p x).lnp = s.lnp := by
  unfold State.setPort; split <;> rfl
@[simp] theorem State.setPort_hst (s : State) (p : Nat) (x : PortState) : (s.setPort p x).hst = s.hst := by
  unfold State.setPort; split <;> rfl
@[simp] theorem State.setPort_pnt (s : State) (p : Nat) (x : PortState) : (s.setPort p x).pnt = s.pnt := by
  unfold State.setPort; split <;> rfl
@[simp] theorem State.setPort_img (s : State) (p : Nat) (x : PortState) : (s.setPort p x).img = s.img := by
  unfold State.setPort; split <;> rfl
@[simp] theorem State.setPort_isp (s : State) (p : Nat) (x : PortState) : (s.setPort p x).isp = s.isp := by
  unfold State.setPort; split <;> rfl
@[simp] theorem State.setPort_afe (s : State) (p : Nat) (x : PortState) : (s.setPort p x).afe = s.afe := by
  unfold State.setPort; split <;> rfl
@[simp] theorem State.setPort_adc (s : State) (p : Nat) (x : PortState) : (s.setPort p x).adc = s.adc := by
  unfold State.setPort; split <;> rfl
@[simp] theorem State.setPort_cal (s : State) (p : Nat) (x : PortState) : (s.setPort p x).cal = s.cal := by
  unfold State.setPort; split <;> rfl
@[simp] theorem State.setPort_mem (s : State) (p : Nat) (x : PortState) : (s.setPort p x).mem = s.mem := by
  unfold State.setPort; split <;> rfl
@[simp] theorem State.setPort_poison (s : State) (p : Nat) (x : PortState) : (s.setPort p x).poison = s.poison := by
  unfold State.setPort; split <;> rfl
@[simp] theorem State.setPort_host (s : State) (p : Nat) (x : PortState) : (s.setPort p x).host = s.host := by
  unfold State.setPort; split <;> rfl
@[simp] theorem State.setPort_wire (s : State) (p : Nat) (x : PortState) : (s.setPort p x).wire = s.wire := by
  unfold State.setPort; split <;> rfl
@[simp] theorem State.setPort_raised (s : State) (p : Nat) (x : PortState) : (s.setPort p x).raised = s.raised := by
  unfold State.setPort; split <;> rfl
@[simp] theorem State.setPort_refused (s : State) (p : Nat) (x : PortState) : (s.setPort p x).refused = s.refused := by
  unfold State.setPort; split <;> rfl
@[simp] theorem State.setPort_freeCount (s : State) (p : Nat) (x : PortState) : (s.setPort p x).freeCount = s.freeCount := by
  unfold State.setPort; split <;> rfl
@[simp] theorem State.setPort_pending (s : State) (p : Nat) (x : PortState) : (s.setPort p x).pending = s.pending := by
  unfold State.setPort; split <;> rfl

/-! ### A raise under a condition, time, a free value -/

@[simp] theorem State.raiseIf_regs (s : State) (c : Bool) (e : Nat) : (s.raiseIf c e).regs = s.regs := by
  unfold State.raiseIf; split <;> rfl
@[simp] theorem State.raiseIf_inForce (s : State) (c : Bool) (e : Nat) : (s.raiseIf c e).inForce = s.inForce := by
  unfold State.raiseIf; split <;> rfl
@[simp] theorem State.raiseIf_now (s : State) (c : Bool) (e : Nat) : (s.raiseIf c e).now = s.now := by
  unfold State.raiseIf; split <;> rfl
@[simp] theorem State.raiseIf_devTime (s : State) (c : Bool) (e : Nat) : (s.raiseIf c e).devTime = s.devTime := by
  unfold State.raiseIf; split <;> rfl
@[simp] theorem State.raiseIf_rateCorr (s : State) (c : Bool) (e : Nat) : (s.raiseIf c e).rateCorr = s.rateCorr := by
  unfold State.raiseIf; split <;> rfl
@[simp] theorem State.raiseIf_portA (s : State) (c : Bool) (e : Nat) : (s.raiseIf c e).portA = s.portA := by
  unfold State.raiseIf; split <;> rfl
@[simp] theorem State.raiseIf_portB (s : State) (c : Bool) (e : Nat) : (s.raiseIf c e).portB = s.portB := by
  unfold State.raiseIf; split <;> rfl
@[simp] theorem State.raiseIf_dma (s : State) (c : Bool) (e : Nat) : (s.raiseIf c e).dma = s.dma := by
  unfold State.raiseIf; split <;> rfl
@[simp] theorem State.raiseIf_fw (s : State) (c : Bool) (e : Nat) : (s.raiseIf c e).fw = s.fw := by
  unfold State.raiseIf; split <;> rfl
@[simp] theorem State.raiseIf_pwr (s : State) (c : Bool) (e : Nat) : (s.raiseIf c e).pwr = s.pwr := by
  unfold State.raiseIf; split <;> rfl
@[simp] theorem State.raiseIf_grid (s : State) (c : Bool) (e : Nat) : (s.raiseIf c e).grid = s.grid := by
  unfold State.raiseIf; split <;> rfl
@[simp] theorem State.raiseIf_ctl (s : State) (c : Bool) (e : Nat) : (s.raiseIf c e).ctl = s.ctl := by
  unfold State.raiseIf; split <;> rfl
@[simp] theorem State.raiseIf_sht (s : State) (c : Bool) (e : Nat) : (s.raiseIf c e).sht = s.sht := by
  unfold State.raiseIf; split <;> rfl
@[simp] theorem State.raiseIf_emt (s : State) (c : Bool) (e : Nat) : (s.raiseIf c e).emt = s.emt := by
  unfold State.raiseIf; split <;> rfl
@[simp] theorem State.raiseIf_flood (s : State) (c : Bool) (e : Nat) : (s.raiseIf c e).flood = s.flood := by
  unfold State.raiseIf; split <;> rfl
@[simp] theorem State.raiseIf_sec (s : State) (c : Bool) (e : Nat) : (s.raiseIf c e).sec = s.sec := by
  unfold State.raiseIf; split <;> rfl
@[simp] theorem State.raiseIf_thm (s : State) (c : Bool) (e : Nat) : (s.raiseIf c e).thm = s.thm := by
  unfold State.raiseIf; split <;> rfl
@[simp] theorem State.raiseIf_net (s : State) (c : Bool) (e : Nat) : (s.raiseIf c e).net = s.net := by
  unfold State.raiseIf; split <;> rfl
@[simp] theorem State.raiseIf_det (s : State) (c : Bool) (e : Nat) : (s.raiseIf c e).det = s.det := by
  unfold State.raiseIf; split <;> rfl
@[simp] theorem State.raiseIf_tdc (s : State) (c : Bool) (e : Nat) : (s.raiseIf c e).tdc = s.tdc := by
  unfold State.raiseIf; split <;> rfl
@[simp] theorem State.raiseIf_bgt (s : State) (c : Bool) (e : Nat) : (s.raiseIf c e).bgt = s.bgt := by
  unfold State.raiseIf; split <;> rfl
@[simp] theorem State.raiseIf_lnp (s : State) (c : Bool) (e : Nat) : (s.raiseIf c e).lnp = s.lnp := by
  unfold State.raiseIf; split <;> rfl
@[simp] theorem State.raiseIf_hst (s : State) (c : Bool) (e : Nat) : (s.raiseIf c e).hst = s.hst := by
  unfold State.raiseIf; split <;> rfl
@[simp] theorem State.raiseIf_pnt (s : State) (c : Bool) (e : Nat) : (s.raiseIf c e).pnt = s.pnt := by
  unfold State.raiseIf; split <;> rfl
@[simp] theorem State.raiseIf_img (s : State) (c : Bool) (e : Nat) : (s.raiseIf c e).img = s.img := by
  unfold State.raiseIf; split <;> rfl
@[simp] theorem State.raiseIf_isp (s : State) (c : Bool) (e : Nat) : (s.raiseIf c e).isp = s.isp := by
  unfold State.raiseIf; split <;> rfl
@[simp] theorem State.raiseIf_afe (s : State) (c : Bool) (e : Nat) : (s.raiseIf c e).afe = s.afe := by
  unfold State.raiseIf; split <;> rfl
@[simp] theorem State.raiseIf_adc (s : State) (c : Bool) (e : Nat) : (s.raiseIf c e).adc = s.adc := by
  unfold State.raiseIf; split <;> rfl
@[simp] theorem State.raiseIf_cal (s : State) (c : Bool) (e : Nat) : (s.raiseIf c e).cal = s.cal := by
  unfold State.raiseIf; split <;> rfl
@[simp] theorem State.raiseIf_mem (s : State) (c : Bool) (e : Nat) : (s.raiseIf c e).mem = s.mem := by
  unfold State.raiseIf; split <;> rfl
@[simp] theorem State.raiseIf_poison (s : State) (c : Bool) (e : Nat) : (s.raiseIf c e).poison = s.poison := by
  unfold State.raiseIf; split <;> rfl
@[simp] theorem State.raiseIf_host (s : State) (c : Bool) (e : Nat) : (s.raiseIf c e).host = s.host := by
  unfold State.raiseIf; split <;> rfl
@[simp] theorem State.raiseIf_wire (s : State) (c : Bool) (e : Nat) : (s.raiseIf c e).wire = s.wire := by
  unfold State.raiseIf; split <;> rfl
@[simp] theorem State.raiseIf_refused (s : State) (c : Bool) (e : Nat) : (s.raiseIf c e).refused = s.refused := by
  unfold State.raiseIf; split <;> rfl
@[simp] theorem State.raiseIf_freeCount (s : State) (c : Bool) (e : Nat) : (s.raiseIf c e).freeCount = s.freeCount := by
  unfold State.raiseIf; split <;> rfl
@[simp] theorem State.raiseIf_pending (s : State) (c : Bool) (e : Nat) : (s.raiseIf c e).pending = s.pending := by
  unfold State.raiseIf; split <;> rfl
@[simp] theorem State.advance_regs (s : State) (t : Nat) : (s.advance t).regs = s.regs := by
  unfold State.advance; split <;> rfl
@[simp] theorem State.advance_inForce (s : State) (t : Nat) : (s.advance t).inForce = s.inForce := by
  unfold State.advance; split <;> rfl
@[simp] theorem State.advance_rateCorr (s : State) (t : Nat) : (s.advance t).rateCorr = s.rateCorr := by
  unfold State.advance; split <;> rfl
@[simp] theorem State.advance_portA (s : State) (t : Nat) : (s.advance t).portA = s.portA := by
  unfold State.advance; split <;> rfl
@[simp] theorem State.advance_portB (s : State) (t : Nat) : (s.advance t).portB = s.portB := by
  unfold State.advance; split <;> rfl
@[simp] theorem State.advance_dma (s : State) (t : Nat) : (s.advance t).dma = s.dma := by
  unfold State.advance; split <;> rfl
@[simp] theorem State.advance_fw (s : State) (t : Nat) : (s.advance t).fw = s.fw := by
  unfold State.advance; split <;> rfl
@[simp] theorem State.advance_pwr (s : State) (t : Nat) : (s.advance t).pwr = s.pwr := by
  unfold State.advance; split <;> rfl
@[simp] theorem State.advance_grid (s : State) (t : Nat) : (s.advance t).grid = s.grid := by
  unfold State.advance; split <;> rfl
@[simp] theorem State.advance_ctl (s : State) (t : Nat) : (s.advance t).ctl = s.ctl := by
  unfold State.advance; split <;> rfl
@[simp] theorem State.advance_sht (s : State) (t : Nat) : (s.advance t).sht = s.sht := by
  unfold State.advance; split <;> rfl
@[simp] theorem State.advance_emt (s : State) (t : Nat) : (s.advance t).emt = s.emt := by
  unfold State.advance; split <;> rfl
@[simp] theorem State.advance_flood (s : State) (t : Nat) : (s.advance t).flood = s.flood := by
  unfold State.advance; split <;> rfl
@[simp] theorem State.advance_sec (s : State) (t : Nat) : (s.advance t).sec = s.sec := by
  unfold State.advance; split <;> rfl
@[simp] theorem State.advance_thm (s : State) (t : Nat) : (s.advance t).thm = s.thm := by
  unfold State.advance; split <;> rfl
@[simp] theorem State.advance_net (s : State) (t : Nat) : (s.advance t).net = s.net := by
  unfold State.advance; split <;> rfl
@[simp] theorem State.advance_det (s : State) (t : Nat) : (s.advance t).det = s.det := by
  unfold State.advance; split <;> rfl
@[simp] theorem State.advance_tdc (s : State) (t : Nat) : (s.advance t).tdc = s.tdc := by
  unfold State.advance; split <;> rfl
@[simp] theorem State.advance_bgt (s : State) (t : Nat) : (s.advance t).bgt = s.bgt := by
  unfold State.advance; split <;> rfl
@[simp] theorem State.advance_lnp (s : State) (t : Nat) : (s.advance t).lnp = s.lnp := by
  unfold State.advance; split <;> rfl
@[simp] theorem State.advance_hst (s : State) (t : Nat) : (s.advance t).hst = s.hst := by
  unfold State.advance; split <;> rfl
@[simp] theorem State.advance_pnt (s : State) (t : Nat) : (s.advance t).pnt = s.pnt := by
  unfold State.advance; split <;> rfl
@[simp] theorem State.advance_img (s : State) (t : Nat) : (s.advance t).img = s.img := by
  unfold State.advance; split <;> rfl
@[simp] theorem State.advance_isp (s : State) (t : Nat) : (s.advance t).isp = s.isp := by
  unfold State.advance; split <;> rfl
@[simp] theorem State.advance_afe (s : State) (t : Nat) : (s.advance t).afe = s.afe := by
  unfold State.advance; split <;> rfl
@[simp] theorem State.advance_adc (s : State) (t : Nat) : (s.advance t).adc = s.adc := by
  unfold State.advance; split <;> rfl
@[simp] theorem State.advance_cal (s : State) (t : Nat) : (s.advance t).cal = s.cal := by
  unfold State.advance; split <;> rfl
@[simp] theorem State.advance_mem (s : State) (t : Nat) : (s.advance t).mem = s.mem := by
  unfold State.advance; split <;> rfl
@[simp] theorem State.advance_poison (s : State) (t : Nat) : (s.advance t).poison = s.poison := by
  unfold State.advance; split <;> rfl
@[simp] theorem State.advance_host (s : State) (t : Nat) : (s.advance t).host = s.host := by
  unfold State.advance; split <;> rfl
@[simp] theorem State.advance_wire (s : State) (t : Nat) : (s.advance t).wire = s.wire := by
  unfold State.advance; split <;> rfl
@[simp] theorem State.advance_raised (s : State) (t : Nat) : (s.advance t).raised = s.raised := by
  unfold State.advance; split <;> rfl
@[simp] theorem State.advance_refused (s : State) (t : Nat) : (s.advance t).refused = s.refused := by
  unfold State.advance; split <;> rfl
@[simp] theorem State.advance_freeCount (s : State) (t : Nat) : (s.advance t).freeCount = s.freeCount := by
  unfold State.advance; split <;> rfl
@[simp] theorem State.advance_pending (s : State) (t : Nat) : (s.advance t).pending = s.pending := by
  unfold State.advance; split <;> rfl
/-- The clock after an advance is the later of the two instants. -/
@[simp] theorem State.advance_now (s : State) (t : Nat) : (s.advance t).now = max s.now t := by
  unfold State.advance; split
  · exact (Nat.max_eq_right (Nat.le_of_lt ‹_›)).symm
  · exact (Nat.max_eq_left (Nat.le_of_not_lt ‹_›)).symm
@[simp] theorem State.fresh_regs (s : State) : s.fresh.2.regs = s.regs := rfl
@[simp] theorem State.fresh_inForce (s : State) : s.fresh.2.inForce = s.inForce := rfl
@[simp] theorem State.fresh_now (s : State) : s.fresh.2.now = s.now := rfl
@[simp] theorem State.fresh_devTime (s : State) : s.fresh.2.devTime = s.devTime := rfl
@[simp] theorem State.fresh_rateCorr (s : State) : s.fresh.2.rateCorr = s.rateCorr := rfl
@[simp] theorem State.fresh_portA (s : State) : s.fresh.2.portA = s.portA := rfl
@[simp] theorem State.fresh_portB (s : State) : s.fresh.2.portB = s.portB := rfl
@[simp] theorem State.fresh_dma (s : State) : s.fresh.2.dma = s.dma := rfl
@[simp] theorem State.fresh_fw (s : State) : s.fresh.2.fw = s.fw := rfl
@[simp] theorem State.fresh_pwr (s : State) : s.fresh.2.pwr = s.pwr := rfl
@[simp] theorem State.fresh_grid (s : State) : s.fresh.2.grid = s.grid := rfl
@[simp] theorem State.fresh_ctl (s : State) : s.fresh.2.ctl = s.ctl := rfl
@[simp] theorem State.fresh_sht (s : State) : s.fresh.2.sht = s.sht := rfl
@[simp] theorem State.fresh_emt (s : State) : s.fresh.2.emt = s.emt := rfl
@[simp] theorem State.fresh_flood (s : State) : s.fresh.2.flood = s.flood := rfl
@[simp] theorem State.fresh_sec (s : State) : s.fresh.2.sec = s.sec := rfl
@[simp] theorem State.fresh_thm (s : State) : s.fresh.2.thm = s.thm := rfl
@[simp] theorem State.fresh_net (s : State) : s.fresh.2.net = s.net := rfl
@[simp] theorem State.fresh_det (s : State) : s.fresh.2.det = s.det := rfl
@[simp] theorem State.fresh_tdc (s : State) : s.fresh.2.tdc = s.tdc := rfl
@[simp] theorem State.fresh_bgt (s : State) : s.fresh.2.bgt = s.bgt := rfl
@[simp] theorem State.fresh_lnp (s : State) : s.fresh.2.lnp = s.lnp := rfl
@[simp] theorem State.fresh_hst (s : State) : s.fresh.2.hst = s.hst := rfl
@[simp] theorem State.fresh_pnt (s : State) : s.fresh.2.pnt = s.pnt := rfl
@[simp] theorem State.fresh_img (s : State) : s.fresh.2.img = s.img := rfl
@[simp] theorem State.fresh_isp (s : State) : s.fresh.2.isp = s.isp := rfl
@[simp] theorem State.fresh_afe (s : State) : s.fresh.2.afe = s.afe := rfl
@[simp] theorem State.fresh_adc (s : State) : s.fresh.2.adc = s.adc := rfl
@[simp] theorem State.fresh_cal (s : State) : s.fresh.2.cal = s.cal := rfl
@[simp] theorem State.fresh_mem (s : State) : s.fresh.2.mem = s.mem := rfl
@[simp] theorem State.fresh_poison (s : State) : s.fresh.2.poison = s.poison := rfl
@[simp] theorem State.fresh_host (s : State) : s.fresh.2.host = s.host := rfl
@[simp] theorem State.fresh_wire (s : State) : s.fresh.2.wire = s.wire := rfl
@[simp] theorem State.fresh_raised (s : State) : s.fresh.2.raised = s.raised := rfl
@[simp] theorem State.fresh_refused (s : State) : s.fresh.2.refused = s.refused := rfl
@[simp] theorem State.fresh_pending (s : State) : s.fresh.2.pending = s.pending := rfl
@[simp] theorem State.fresh_freeCount (s : State) : s.fresh.2.freeCount = s.freeCount + 1 := rfl

/-! ### Reset -/

/-- Memory after reset is in its canonical form. -/
theorem reset_mem_wf : Memory.wf State.reset.mem = true := rfl

end Sys2Proof.Machine
end

