-- ==== Sys2Proof/Laws/Shared.lean ====
section
/-! SUPPORT. Everything a shared operation can do, said once: a step, the access rules of a host write, a plain write, and the way
Priard takes, judges and answers a command. -/

namespace Sys2Proof.Machine

/-! ### A step -/

theorem step_empty (s : State) (h : s.pending = []) : step s = .next s.idle := by unfold step; rw [h]

theorem step_front (s : State) {c : Instr} {rest : List Instr} (h : s.pending = c :: rest) :
    step s = exec c { s with pending := rest } := by unfold step; rw [h]

theorem idle_now (s : State) : s.idle.now = s.now + 2560 := by unfold State.idle; rw [State.advance_now]; omega

/-- Device time in an idle period advances by 2560 ticks of the corrected rate (R435). -/
theorem idle_devTime (s : State) : s.idle.devTime = (s.devTime + 2560 * (2 ^ 40 + s.rateCorr)).toNat := by
  have e : s.now + 2560 - s.now = 2560 := by omega
  unfold State.idle State.advance
  rw [if_pos (by omega), e]; rfl

/-! ### A host write (R359, R361, R452) -/

/-- A write reaches its block, or is blocked for one of two reasons, or meets no one. -/
theorem hostGate_cases (s : State) (p : Port) (off : Nat) (own : Bool) (f : State → State) :
    ((s.portSilent p || s.blkInReset off) = true ∧ s.hostGate p off own f = s) ∨
    ((s.portSilent p || s.blkInReset off) = false ∧ s.possesses p off = false ∧ s.hostGate p off own f = s.blockWrite p 1 off) ∨
    ((s.portSilent p || s.blkInReset off) = false ∧ s.possesses p off = true ∧ (own && s.fwRuns) = true ∧
      s.hostGate p off own f = s.blockWrite p 2 off) ∨
    ((s.portSilent p || s.blkInReset off) = false ∧ s.possesses p off = true ∧ (own && s.fwRuns) = false ∧
      s.hostGate p off own f = f s) := by
  unfold State.hostGate
  cases h1 : (s.portSilent p || s.blkInReset off) <;> cases h2 : s.possesses p off <;> cases h3 : (own && s.fwRuns) <;> simp

/-- A write that passes every rule has its block's effect. -/
theorem hostGate_reaches (s : State) (p : Port) (off : Nat) (own : Bool) (f : State → State) (h1 : s.portSilent p = false)
    (h2 : s.blkInReset off = false) (h3 : s.possesses p off = true) (h4 : (own && s.fwRuns) = false) :
    s.hostGate p off own f = f s := by
  unfold State.hostGate; simp [h1, h2, h3, h4]

/-- A blocked write changes no register but POS_BLK_INFO and POS_BLK_COUNT. -/
theorem blockWrite_rd (s : State) (p : Port) (r off : Nat) {k : Nat} (h1 : k ≠ POS_BLK_INFO) (h2 : k ≠ POS_BLK_COUNT) :
    (s.blockWrite p r off).rd k = s.rd k := by
  unfold State.blockWrite
  cases p <;> rw [Laws.rd_raiseInfo, Laws.rd_bump, if_neg (c := k = Fld.reg _) h2, Laws.rd_wrN, if_neg h1]

/-- A plain write of a read/write register stores its writable bits (R18). -/
theorem plainWrite_rw (s : State) (k off : Nat) (v : Word) {m : Nat} (h : accOf off = some (.rw, m)) :
    s.plainWrite k off v = s.wr k ((s.rd k &&& ~~~(BitVec.ofNat 32 m)) ||| (v &&& BitVec.ofNat 32 m)) := by
  unfold State.plainWrite; simp [h]

/-- A plain write changes one register at most. -/
theorem plainWrite_regs (s : State) (k off : Nat) (v : Word) : ∃ w, s.plainWrite k off v = s ∨ s.plainWrite k off v = s.wr k w := by
  unfold State.plainWrite
  split
  · exact ⟨0, .inl rfl⟩
  · split
    · exact ⟨_, .inr rfl⟩
    · exact ⟨_, .inr rfl⟩
    · exact ⟨_, .inr rfl⟩
    · exact ⟨0, .inl rfl⟩

/-! ### Priard's commands (R385, R388, R405, R408) -/

/-- A command that Priard may not take next, or whose code is another's, is left where it is. -/
theorem serve_none (s : State) (p : Port) (k : Fin 4) (c : CmdSpec) (f : List Word → State → State × CmdEnd)
    (h : (s.obFirst (pix p) k && decide (hdrCode (s.rd (MBX_OB_HDR (pix p) k)) = c.code)) = false) : s.serve p k c f = s := by
  unfold State.serve; rw [if_neg]; simpa using h

/-- A command that fails a check of R405 is answered and has no other effect. -/
theorem serve_refused (s : State) (p : Port) (k : Fin 4) (c : CmdSpec) (f : List Word → State → State × CmdEnd)
    (h1 : s.obFirst (pix p) k = true) (h2 : hdrCode (s.rd (MBX_OB_HDR (pix p) k)) = c.code) {st : Nat} {words : List Nat}
    (hj : (s.takeCommand (pix p) k).flush.judge (pix p) c (s.obPayload (pix p) k) = some (st, words)) :
    s.serve p k c f = (s.takeCommand (pix p) k).flush.reply (pix p) k (hdrTag (s.rd (MBX_OB_HDR (pix p) k))) st words := by
  unfold State.serve; rw [if_pos (by simp [h1, h2])]; unfold State.carryOut; simp only [hj]

/-- A command that passes every check and ends at once has its effect and its reply. -/
theorem serve_now (s : State) (p : Port) (k : Fin 4) (c : CmdSpec) (f : List Word → State → State × CmdEnd)
    (h1 : s.obFirst (pix p) k = true) (h2 : hdrCode (s.rd (MBX_OB_HDR (pix p) k)) = c.code)
    (hj : (s.takeCommand (pix p) k).flush.judge (pix p) c (s.obPayload (pix p) k) = none) {t : State} {st : Nat} {words : List Nat}
    (hf : f (s.obPayload (pix p) k) { (s.takeCommand (pix p) k).flush with refused := none } = (t, .now st words)) :
    s.serve p k c f = t.reply (pix p) k (hdrTag (s.rd (MBX_OB_HDR (pix p) k))) st words := by
  unfold State.serve; rw [if_pos (by simp [h1, h2])]; unfold State.carryOut; simp only [hj, hf]

/-- A command that passes every check and ends later is kept as a long command, and not answered yet. -/
theorem serve_later (s : State) (p : Port) (k : Fin 4) (c : CmdSpec) (f : List Word → State → State × CmdEnd)
    (h1 : s.obFirst (pix p) k = true) (h2 : hdrCode (s.rd (MBX_OB_HDR (pix p) k)) = c.code)
    (hj : (s.takeCommand (pix p) k).flush.judge (pix p) c (s.obPayload (pix p) k) = none) {t : State} {notes : List Nat}
    (hf : f (s.obPayload (pix p) k) { (s.takeCommand (pix p) k).flush with refused := none } = (t, .later notes)) :
    s.serve p k c f = { t with fw := { t.fw with longs := t.fw.longs
      ++ [⟨pix p, k, hdrTag (s.rd (MBX_OB_HDR (pix p) k)), c.code, s.obPayload (pix p) k, false, 0, t.now, notes⟩] } } := by
  unfold State.serve; rw [if_pos (by simp [h1, h2])]; unfold State.carryOut; simp only [hj, hf]

/-- A reply is posted exactly where Priard runs and the command is still unanswered (R386, R408). -/
theorem reply_cases (s : State) (p k tag st : Nat) (words : List Nat) :
    ((s.fwRuns && s.fw.unanswered.contains (4 * p + k)) = true ∧
      s.reply p k tag st words = s.postReply p k tag st (words.map (BitVec.ofNat 32))) ∨
    ((s.fwRuns && s.fw.unanswered.contains (4 * p + k)) = false ∧ s.reply p k tag st words = s) := by
  unfold State.reply
  cases h : (s.fwRuns && s.fw.unanswered.contains (4 * p + k)) <;> simp

end Sys2Proof.Machine
end

