-- ==== Sys2Proof/Tests/Fixtures.lean ====
section
/-! SUPPORT. Small states and operands that the tests and the witnesses of the statements use. -/

namespace Sys2Proof.Tests

open Sys2Proof Sys2Proof.Machine

/-- A small live state: every domain out of reset, both ports up, every group held by Port A, Priard in BOOT. -/
def live : State :=
  { State.reset with
    pwr := { State.reset.pwr with thmInReset := false, coreInReset := false, emissionInReset := false, mgmtInReset := false,
                                  portInReset := [false, false], fuseOk := true, ddrReady := true, seq := 4, railOk := 0x1FF },
    regs := (List.range 16).map (fun g => (POS_PEEK g, 0x40000000)) ++ [(MBX_FW_STATE, 0x10000000)],
    portA := { PortState.init with perstLow := false }, portB := { PortState.init with perstLow := false } }
/-- The same with Priard in STANDBY. -/
def standby : State := live.setFld MBX_FW_STATE_STATE 2

/-- The state with its part `grid` changed. -/
def wGrid (s : State) (f : GridState → GridState) : State := { s with grid := f s.grid }
/-- The state with its part `ctl` changed. -/
def wCtl (s : State) (f : CtlState → CtlState) : State := { s with ctl := f s.ctl }
/-- The state with its part `sht` changed. -/
def wSht (s : State) (f : ShtState → ShtState) : State := { s with sht := f s.sht }
/-- The state with its part `emt` changed. -/
def wEmt (s : State) (f : EmtState → EmtState) : State := { s with emt := f s.emt }
/-- The state with its part `flood` changed. -/
def wFlood (s : State) (f : FldState → FldState) : State := { s with flood := f s.flood }
/-- The state with its part `sec` changed. -/
def wSec (s : State) (f : SecState → SecState) : State := { s with sec := f s.sec }
/-- The state with its part `thm` changed. -/
def wThm (s : State) (f : ThmState → ThmState) : State := { s with thm := f s.thm }
/-- The state with its part `net` changed. -/
def wNet (s : State) (f : NetState → NetState) : State := { s with net := f s.net }
/-- The state with its part `det` changed. -/
def wDet (s : State) (f : DetState → DetState) : State := { s with det := f s.det }
/-- The state with its part `tdc` changed. -/
def wTdc (s : State) (f : TdcState → TdcState) : State := { s with tdc := f s.tdc }
/-- The state with its part `bgt` changed. -/
def wBgt (s : State) (f : BgtState → BgtState) : State := { s with bgt := f s.bgt }
/-- The state with its part `lnp` changed. -/
def wLnp (s : State) (f : LnpState → LnpState) : State := { s with lnp := f s.lnp }
/-- The state with its part `hst` changed. -/
def wHst (s : State) (f : HstState → HstState) : State := { s with hst := f s.hst }
/-- The state with its part `pnt` changed. -/
def wPnt (s : State) (f : PntState → PntState) : State := { s with pnt := f s.pnt }
/-- The state with its part `img` changed. -/
def wImg (s : State) (f : ImgState → ImgState) : State := { s with img := f s.img }
/-- The state with its part `isp` changed. -/
def wIsp (s : State) (f : IspState → IspState) : State := { s with isp := f s.isp }
/-- The state with its part `afe` changed. -/
def wAfe (s : State) (f : AfeState → AfeState) : State := { s with afe := f s.afe }
/-- The state with its part `adc` changed. -/
def wAdc (s : State) (f : AdcState → AdcState) : State := { s with adc := f s.adc }
/-- The state with its part `cal` changed. -/
def wCal (s : State) (f : CalState → CalState) : State := { s with cal := f s.cal }
/-- The state with its part `fw` changed. -/
def wFw (s : State) (f : FwState → FwState) : State := { s with fw := f s.fw }
/-- The state with its part `pwr` changed. -/
def wPwr (s : State) (f : PwrState → PwrState) : State := { s with pwr := f s.pwr }
/-- The state with its part `dma` changed. -/
def wDma (s : State) (f : DmaState → DmaState) : State := { s with dma := f s.dma }
/-- A slot set up, not yet started. -/
def fl0 : SlotInFlight := ⟨0, 1, 0, 0, 1, 0, 0, false, false, false⟩
/-- Driver flags with none set. -/
def flags0 : DriverFlags := ⟨List.replicate 16 0, List.replicate 16 0⟩
/-- Re-arm checks of the right lengths. -/
def checks0 : RearmChecks := ⟨true, flags0, List.replicate 256 0, true⟩
/-- Coefficients of 0. -/
def coefs0 : Coefs := ⟨0, 0, 0, 0, 0, 0, 0, 0, 0, false⟩
/-- A stop of channel 0. -/
def edge0 : StopEdge := ⟨0, 0, 1, false⟩
/-- A shot record. -/
def rec0 : ShotRec := ⟨0, 0, 0, 0, 0, 1, 0, 0, 0, false⟩
/-- A channel-line with one coarse shot. -/
def chan0 : ChanLine := { ChanLine.init with nC := 1 }
/-- A line of the histogram engines. -/
def line0 : HstLine := ⟨0, 0, 0, [], 0, 0, 0, 0, 0, 0, true, false, 0, false, false, false, 0⟩
/-- A colour line. -/
def cl0 : ColourLine :=
  { frame := 0, line := 0, time := 0, gen := 0, die := 0, setB := false, velChange := false, cut := false, stale := false, n := 0, vel := 256,
    tap := 0, left := 0, lit := none, closedAt := 0, readyAt := 0, pos := 0, window := 0, read := true, expect := true, pixels := [], marked := [],
    short := false, long := false, reproc := false }
/-- A read word. -/
def word0 : ReadWord := ⟨[], true, true⟩
/-- A packet. -/
def packet0 : Packet := ⟨[], false⟩
/-- A live state with one lane. -/
def withLane (f : Lane → Lane) : State := wTdc live fun t => { t with lanes := [(0, f Lane.init)] }
/-- A live state with one channel-line in line 0. -/
def withJob (x : ChanLine) : State := wHst live fun h => { h with lines := [(0, line0)], jobs := [(0, x)] }
/-- A selection run on a lane. -/
def laneRun0 : LaneRun := ⟨[], 1, []⟩
/-- A live state in which no port holds a group. -/
def unheld : State := { live with regs := [] }
/-- An item of one byte for queue 0 of Port A. -/
def item0 : DmaItem := ⟨0, 0, 0, [1]⟩
/-- A descriptor in progress. -/
def busy0 : DmaBusy := ⟨item0, 0, 64, false⟩
/-- A live state whose queue 0 of Port A has room, device to host. -/
def openQueue : State := ((live.setFld (DMA_Q_STATUS_STATE 0 0) 1).setFld (DMA_Q_TAIL_V 0 0) 1).setFlag (DMA_Q_CTRL_ENABLE 0 0) true
/-- A map whose last word alone is listed has the CRC of the empty one. -/
theorem words_last (v : Word) (n : Nat) (h : n ≤ 0x1FF) : (List.range n).map (mapGet [(0x1FF, v)]) = (List.range n).map (mapGet []) := by
  apply List.map_congr_left
  intro w hw
  have hw : w < n := List.mem_range.mp hw
  have h1 : ¬ 0x1FF = w := by omega
  simp [mapGet, h1]
theorem crc_last (v : Word) : mapCrc [(0x1FF, v)] = mapCrc [] := by
  unfold mapCrc
  rw [words_last v 0x1FF (Nat.le_refl _)]
theorem get_last (v : Word) : mapGet [(0x1FF, v)] 0x1FF = v := by simp [mapGet]
theorem succ_ne (v : Word) : v + 1 ≠ v := by
  intro e
  have := congrArg BitVec.toNat e
  simp [BitVec.toNat_add] at this; omega
/-- A map with a good CRC. -/
def goodMap : List (Nat × Word) := [(0x1FF, mapCrc [])]
theorem goodMap_crc : mapGet goodMap 0x1FF = mapCrc goodMap := by
  unfold goodMap
  rw [get_last, crc_last]
/-- A map with a bad CRC. -/
def badMap : List (Nat × Word) := [(0x1FF, mapCrc [] + 1)]
theorem badMap_crc : mapGet badMap 0x1FF ≠ mapCrc badMap := by
  unfold badMap
  rw [get_last, crc_last]
  exact succ_ne _
/-- A lane whose output holds a CLOSE word. -/
def closing0 : State := withLane fun x => { x with out := [0xD000] }
theorem closing0_forming : (closing0.lane 0).forming = [] := by decide +kernel
/-- Port A's command `code` with payload `w` waits in OB 0, Priard in state `st`. -/
def mail (s : State) (st code : Nat) (w : List Word) : State :=
  (((s.setFld MBX_FW_STATE_STATE st).wr (MBX_OB_HDR 0 0) (BitVec.ofNat 32 (code * 65536 + w.length))).storeWords (MBX_OB_DATA 0 0 1) w).setFlag
    (MBX_OB_STATUS_FULL 0 0) true
/-- A long command of OB 0 of Port A. -/
def long0 (code phase : Nat) : LongCmd := ⟨0, 0, 0, code, [], false, phase, 0, []⟩
/-- Priard holds it, unanswered. -/
def holding (l : LongCmd) : State := wFw standby fun f => { f with longs := [l], unanswered := [0] }
/-- A queue of Port A open for a transfer from the host. -/
def inQueue : State := openQueue.setFlag (DMA_Q_CFG_DIR 0 0) true
/-- A live state whose lamp 0 is closed at full density. -/
def lit : State := (live.setBit CTL_FL_CLOSE 0 true).setFld (FLD_DENSITY_V 0) 4096
/-- A chain link that is up. -/
def upLink : ChainLink := { ChainLink.init with up := true, quality := 2, masterSerial := 0, hops := 0 }
/-- A kernel image of 8 bytes of code, with a signature r ‖ s in which both numbers are the image's digest: the key is then the point of that
abscissa less the base point. -/
def kernelHash : Nat := 0xba8b7a0bd69513b8be2202a399734b0d973901ed6cbd03f7a1ff6c01c3518380ca85b93ca992108e345e492c8dca7941
/-- The image. -/
def kernelImage : List Byte :=
  [0x55, 0x4B, 0x52, 0x4E, 1, 0, 0, 0, 8, 0, 0, 0, 0, 0, 0, 0, 1, 0, 1, 0] ++ List.replicate 52 0 ++ beBytes 48 kernelHash ++ beBytes 48 kernelHash
/-- Its key. -/
def kernelKey : List Byte :=
  beBytes 48 0xe8b3619fd02a4aec164a8353a9c93dc2fd602597fcb0b8ec850e54da7ef089bfc9351fc475bf95cc8fc3c58a8f457bbe
    ++ beBytes 48 0xed1cf941fd92ce790e5f8fba77ea020416db41c43cb6d65f05e6ba572d390b8b71866081067cc8ccb0f6007c7f95fc4b
/-- A key's bytes as payload words. -/
def keyWords (l : List Byte) : List Word := bytesToWords (l.length / 4) l

end Sys2Proof.Tests
end

