-- ==== Sys2Proof/WellFormed.lean ====
section
/-! DEFINITION. What makes a command's operands well formed: lists as long as the hardware they stand for. A command that is not well
formed stands for nothing the block can meet; the meanings are total on it all the same. -/

namespace Sys2Proof

/-- The flags of 16 rows (R90). -/
def DriverFlags.wf (f : DriverFlags) : Bool := f.opens.length = 16 && f.shorts.length = 16

/-- A digest of 48 bytes and 28 thermometers (R326, R338). -/
def FuseBank.wf (b : FuseBank) : Bool := b.keyHash.length = 48 && b.therm.length = 28

/-- What the re-arm sequence finds: the flags of 16 rows, and 256 codes read back (R92). -/
def RearmChecks.wf (c : RearmChecks) : Bool := c.flags.wf && c.codes.length = 256

/-- Cell choices of a lane's five oscillators and vernier steps of its four fast ones (R312). -/
def LaneRun.wf (r : LaneRun) : Bool := r.cells.length = 5 && r.steps.length = 4

/-- The two runs of a reselection. -/
def SelectionRuns.wf : SelectionRuns → Bool
  | .lane a b => a.wf && b.wf
  | .converter _ _ => true

/-- 64 counts of each of the 28 thermometers (R330, R429). -/
def SelfTestRead.wf (r : SelfTestRead) : Bool := r.counts.length = 28 && r.counts.all (fun l => l.length = 64)

/-- What a long command's measurement found is as long as what it measured. -/
def LongResult.wf : LongResult → Bool
  | .selfTest r => r.wf
  | .none | .target _ => true

/-- A command's operands are well formed. -/
def Instr.wf : Instr → Bool
  | .loopSample _ own _ _ => own.length = 8
  | .currentCommitDone codes f => codes.length = 256 && f.wf
  | .driverFlagsReadDone f | .slotEmission _ f | .eyeSubBinEnd _ _ f | .emonFaultInput f | .monitorPulse _ f
    | .monitorPulseMissing f | .monitorPulseExcess _ f => f.wf
  | .rearmWrite _ _ c | .registerWrite _ _ _ c _ | .regWrite _ _ c _ | .emitterRearm _ _ c => c.wf
  | .coreDomainsRelease _ emon | .emissionDomainRelease emon => emon.all DriverFlags.wf
  | .surveyStepEnd counts | .surveySweepEnd counts => counts.length = 192
  | .senseIntervalClose signals => signals.length = 3072
  | .reselectionDone r => r.wf
  | .thermometerWindowEnd counts => counts.length = 28
  | .bar2Write off bytes => 1 ≤ bytes.length && off.toNat + bytes.length ≤ 2 ^ 34
  | .mailboxCommandSend _ _ _ payload => payload.length ≤ 63
  | .mailboxReplyPost _ _ _ payload => payload.length ≤ 63
  | .longCommandCompletion _ _ r => r.wf
  | .fuseBankRead bank _ => bank.wf
  | .rcRead .. | .lowHalfRead .. | .malformedAccess .. | .facetIndex .. | .lineStart | .substitutionChangeover
    | .imageLineStart .. | .slotSetup | .slotStart | .listenWindowClose | .coarseCounterEnd ..
    | .periodMeasurementDone .. | .slotClose .. | .slotOpen .. | .slotModeChange .. | .coefficientWrite ..
    | .setpointWrite .. | .rcCellUpdate | .revolutionIndex .. | .quadratureEdge .. | .missingFacetIndex
    | .motorTrip .. | .coolerTrip .. | .shotProgramCommit .. | .shtRunStart .. | .shtRunStop .. | .shtRunAbort ..
    | .nonceWrite .. | .patternSwapRequest .. | .patternCheckDone | .patternShadowWrite .. | .currentProfileCommit ..
    | .eyeLock .. | .floodPeriodStart | .floodGroupSample .. | .floodEdgeReadback .. | .floodLampClear ..
    | .spadDetection .. | .spadMaskSubmit .. | .spadMaskTimer | .surveyGo .. | .surveyPeriodExpiry
    | .detectorEnable .. | .detectorLinkFrame .. | .coolerStatusTimer .. | .stopArrival .. | .calibrationEdge ..
    | .calRunComplete .. | .eventLanePush .. | .eventLanePop .. | .laneReset .. | .itemReceived ..
    | .coarseHistogramComplete .. | .zoomWindowsPlaced .. | .finePassComplete .. | .lineCollection ..
    | .histogramCommit .. | .tapConfigWrite .. | .pointChainRun .. | .localMemoryError .. | .colourFusionJoin ..
    | .linePacketAssembly .. | .packetDestinationSend .. | .packetConfigWrite .. | .gateStep | .pixelLineTransfer
    | .pixelLineReceived | .pixelHeaderTimeout | .imagingCommit .. | .imgAppliedFrameRead .. | .imagingEnable ..
    | .frameSyncInEdge .. | .ispLineEnqueue | .ispLineProcess | .ispControlWrite .. | .ispCaptureRequest ..
    | .ispReprocRequest .. | .reprocessRecord | .ispStatInfoRead .. | .afeOutputSample .. | .excitationZeroCrossing ..
    | .settlingEnd .. | .chargeResetInstant .. | .chargeEarlyReset .. | .afeConfigWrite .. | .polyConfigWrite ..
    | .fltPeakRead .. | .detectorRestart .. | .interlockTripClear .. | .adcControlWrite .. | .referenceReady
    | .adcTimerTrigger | .adcGo .. | .adcSequenceEnd .. | .adcCommit .. | .adcSeqNumRead .. | .overStart ..
    | .transferGrant .. | .budgetCommit .. | .dcfWrite .. | .dcfRead .. | .elementErrorReport .. | .tileCopyDone ..
    | .lineupCheck .. | .scrubPass .. | .lineupQuery .. | .reselectionRequest .. | .calibrationVote ..
    | .calExportStart .. | .calExportComplete | .calImportStart .. | .calImportApply | .upIntervalEnd
    | .downIntervalEnd | .graceExpiry | .thmStopDoneWrite .. | .thmRetestWrite .. | .referenceTrimUpdate
    | .keyLoadOperation .. | .keyUnwrapOperation .. | .keyZeroOperation .. | .keyOpInvalid .. | .keyOperationDone
    | .secCfgPlainOff .. | .secCfgKkeyLock .. | .secCfgRespLock .. | .secRespWrite .. | .meshMismatch ..
    | .caseOpen .. | .voltageGlitch .. | .clockGlitch .. | .interlockInputChange .. | .interlockHoldExpiry
    | .interlockDiscrepancy | .discrepancyClear .. | .pinMismatch .. | .pinMismatchClear .. | .jtagInstructionLoad ..
    | .portReset .. | .portUp .. | .possessionAcquire .. | .possessionRelease .. | .dmaTailWrite ..
    | .dmaDescriptorComplete .. | .dmaItemReady .. | .dmaQueueEnable .. | .dmaQueueDisable .. | .dmaQueueReset ..
    | .eventRingEnable .. | .eventReadIndexWrite .. | .eventTest .. | .eventMaskWrite .. | .mailboxTake ..
    | .firmwareLoadGo .. | .firmwareLoadDone .. | .watchdogExpiry .. | .lockstepMismatch .. | .commandTimeout ..
    | .unknownCommand .. | .identify .. | .echo .. | .restart .. | .status .. | .regRead .. | .scanProfile ..
    | .commit .. | .loopProfile .. | .spinUp .. | .runStart .. | .runStop .. | .runAbort .. | .arm .. | .disarm ..
    | .spinDown .. | .imgSetup .. | .imgEnable .. | .capture .. | .reprocess .. | .ispSetup .. | .calExport ..
    | .calImport .. | .calReselect .. | .calTarget .. | .sendOff .. | .elementQuery .. | .lineupFactory ..
    | .thermalReport .. | .setFloor .. | .retest .. | .emissionReset .. | .keyLoad .. | .keyUnwrap .. | .keyZero ..
    | .keyAgree .. | .attest .. | .setLocks .. | .setResponse .. | .safetyClear .. | .faultForce .. | .kernelLoad ..
    | .serveNonce .. | .netStatus .. | .timeSource .. | .servePhase .. | .selfTest .. | .fwLog .. | .netLink ..
    | .gptpFrameReceived .. | .foreignFrameDrop .. | .timeStep .. | .ppsInEdge .. | .ppsOutPulse | .helloSend
    | .timeFrameSend | .helloReceived .. | .timeFrameReceived .. | .chainAlarmReceived .. | .chainFrameCrcError ..
    | .chainLinkTimeout .. | .coordinationApply | .chainMemberReset .. | .netConfigWrite .. | .railsAndClocksGood ..
    | .thmDomainRelease | .perstNRise .. | .pwrDdrReady | .railFail .. | .pwrResetEmission .. | .pwrResetManagement ..
    | .pwrResetFull .. | .pwrResetRefused .. | .hardRecoveryStart | .pwrHardAck .. | .glbFrameRead ..
    | .missedSyncMeasurement .. | .chainTimeFallback | .pdelayReqSend | .tamperSourceCleared .. | .spinUpPhaseMode .. => true

end Sys2Proof
end

