-- ==== Sys2Proof/Tests/Slice0.lean ====
section
/-! SUPPORT. Tests of the model: an ill-formed command for each check of well-formedness, and small results whose expected values stand
in the spec's own worked examples and tables, or in the published standards it names. -/

namespace Sys2Proof.Tests

open Sys2Proof Sys2Proof.Machine

/-! ### Well-formedness: each check refuses a command that breaks it -/

/-- Flags of one row only. -/
def shortFlags : DriverFlags := ⟨[0], [0]⟩
/-- The same with one code missing. -/
def shortChecks : RearmChecks := { checks0 with codes := List.replicate 255 0 }
/-- A fuse bank of the right lengths. -/
def bank0 : FuseBank := ⟨0, 0, 0, List.replicate 48 0, List.replicate 28 (0, 0, 0)⟩
/-- A self-test reading with 63 counts of each thermometer. -/
def shortRead : SelfTestRead := ⟨[], [], [], List.replicate 28 (List.replicate 63 0), 0, 0⟩
/-- A selection run of a lane with the steps of three fast oscillators. -/
def shortRun : LaneRun := ⟨List.replicate 5 0, 1, List.replicate 3 0⟩
/-- A selection run of the right lengths. -/
def goodRun : LaneRun := { shortRun with steps := List.replicate 4 0 }

theorem test_wf_loopSample : (Instr.loopSample 0 (List.replicate 7 0) (0, 0) 0).wf = false := by decide
theorem test_wf_currentCommitDone_flags : (Instr.currentCommitDone (List.replicate 256 0) shortFlags).wf = false := by decide +kernel
theorem test_wf_currentCommitDone_codes : (Instr.currentCommitDone (List.replicate 255 0) flags0).wf = false := by decide +kernel
theorem test_wf_driverFlagsReadDone : (Instr.driverFlagsReadDone shortFlags).wf = false := by decide
theorem test_wf_slotEmission : (Instr.slotEmission false shortFlags).wf = false := by decide
theorem test_wf_eyeSubBinEnd : (Instr.eyeSubBinEnd 0 false shortFlags).wf = false := by decide
theorem test_wf_emonFaultInput : (Instr.emonFaultInput shortFlags).wf = false := by decide
theorem test_wf_monitorPulse : (Instr.monitorPulse 0 shortFlags).wf = false := by decide
theorem test_wf_monitorPulseMissing : (Instr.monitorPulseMissing shortFlags).wf = false := by decide
theorem test_wf_monitorPulseExcess : (Instr.monitorPulseExcess 0 shortFlags).wf = false := by decide
theorem test_wf_rearmWrite : (Instr.rearmWrite .a 0x5A shortChecks).wf = false := by decide +kernel
theorem test_wf_rearmWrite_flags : (Instr.rearmWrite .a 0x5A { checks0 with flags := shortFlags }).wf = false := by decide
theorem test_wf_registerWrite : (Instr.registerWrite .a 0 0 shortChecks none).wf = false := by decide +kernel
theorem test_wf_regWrite : (Instr.regWrite .a 0 shortChecks none).wf = false := by decide +kernel
theorem test_wf_emitterRearm : (Instr.emitterRearm .a 0 shortChecks).wf = false := by decide +kernel
theorem test_wf_coreDomainsRelease : (Instr.coreDomainsRelease none (some shortFlags)).wf = false := by decide
theorem test_wf_emissionDomainRelease : (Instr.emissionDomainRelease (some shortFlags)).wf = false := by decide
theorem test_wf_surveyStepEnd : (Instr.surveyStepEnd [0]).wf = false := by decide
theorem test_wf_surveySweepEnd : (Instr.surveySweepEnd [0]).wf = false := by decide
theorem test_wf_senseIntervalClose : (Instr.senseIntervalClose []).wf = false := by decide
theorem test_wf_reselectionDone : (Instr.reselectionDone (.lane laneRun0 goodRun)).wf = false := by decide
theorem test_wf_reselectionDone_steps : (Instr.reselectionDone (.lane goodRun shortRun)).wf = false := by decide
theorem test_wf_thermometerWindowEnd : (Instr.thermometerWindowEnd (List.replicate 27 0)).wf = false := by decide
theorem test_wf_bar2Write_empty : (Instr.bar2Write 0 []).wf = false := by decide
theorem test_wf_bar2Write_beyond : (Instr.bar2Write (BitVec.ofNat 34 (2 ^ 34 - 1)) [0, 0]).wf = false := by decide
theorem test_wf_mailboxCommandSend : (Instr.mailboxCommandSend .a 0 0 (List.replicate 64 0)).wf = false := by decide
theorem test_wf_mailboxReplyPost : (Instr.mailboxReplyPost .a 0 0 (List.replicate 64 0)).wf = false := by decide
theorem test_wf_longCommandCompletion : (Instr.longCommandCompletion .a 0 (.selfTest shortRead)).wf = false := by decide
theorem test_wf_longCommandCompletion_sensors : (Instr.longCommandCompletion .a 0 (.selfTest { shortRead with counts := List.replicate 27 (List.replicate 64 0) })).wf = false := by decide
theorem test_wf_fuseBankRead : (Instr.fuseBankRead { bank0 with therm := [] } true).wf = false := by decide
theorem test_wf_fuseBankRead_digest : (Instr.fuseBankRead { bank0 with keyHash := [] } true).wf = false := by decide
theorem test_wf_loopSample_good : (Instr.loopSample 0 (List.replicate 8 0) (0, 0) 0).wf = true := by decide
theorem test_wf_currentCommitDone_good : (Instr.currentCommitDone (List.replicate 256 0) flags0).wf = true := by decide +kernel
theorem test_wf_driverFlags_good : (Instr.driverFlagsReadDone flags0).wf = true := by decide
theorem test_wf_rearmWrite_good : (Instr.rearmWrite .a 0x5A checks0).wf = true := by decide +kernel
theorem test_wf_coreDomainsRelease_good : (Instr.coreDomainsRelease none none).wf = true := by decide
theorem test_wf_reselectionDone_good : (Instr.reselectionDone (.lane goodRun goodRun)).wf = true := by decide
theorem test_wf_bar2Write_last_good : (Instr.bar2Write (BitVec.ofNat 34 (2 ^ 34 - 1)) [0]).wf = true := by decide
theorem test_wf_longCommandCompletion_good : (Instr.longCommandCompletion .a 0 (.selfTest { shortRead with counts := List.replicate 28 (List.replicate 64 0) })).wf = true := by decide
theorem test_wf_fuseBankRead_good : (Instr.fuseBankRead bank0 true).wf = true := by decide

/-! ### Values the spec works out -/

/-- The serve-code offsets of slots 0 and 1 in the example of R82: 861 and 1,001 ticks. -/
theorem test_serveOffset_slot0 : serveOffset 0x1FA35D 10 2 1 0 = 861 := by decide
theorem test_serveOffset_slot1 : serveOffset 0x1FA35D 10 2 1 1 = 1001 := by decide

/-- The two halfwords of the example of R131: COARSE 4,271, FINE 37, PILE 0. -/
theorem test_readStamps : readStamps [0x50AF, 0xA528] = [⟨4271, 37, 4, false⟩] := by decide

/-- The stamp of the same example lies 273,037.199 ticks after emission. -/
theorem test_stampTime : stampTime { ChanLine.init with set := ⟨0x402000, 0x54, [(18, 0x98000000)], true⟩, linkSkew := 0xC8 } 861 4271 37 = 69897523 := by
  decide +kernel

/-- The worked conversion after R11: 68,314 ticks are the range code 80,000. -/
theorem test_rangeCode : rangeCode 68314 = some 0x13880 := by decide +kernel

/-- The CRC-32 of the digits 1 to 9 (the check value of the polynomial R303 names). -/
theorem test_crc32 : crc32 [0x31, 0x32, 0x33, 0x34, 0x35, 0x36, 0x37, 0x38, 0x39] = 0xCBF43926 := by decide +kernel

/-- FIPS 197, appendix C.3. -/
theorem test_aes256 : aes256 ((List.range 32).map (BitVec.ofNat 8)) ((List.range 16).map (fun i => BitVec.ofNat 8 (17 * i)))
    = [0x8e, 0xa2, 0xb7, 0xca, 0x51, 0x67, 0x45, 0xbf, 0xea, 0xfc, 0x49, 0x90, 0x4b, 0x49, 0x60, 0x89] := by decide +kernel

/-- FIPS 180, the message "abc": the first eight bytes of its SHA-384 digest. -/
theorem test_sha384 : (sha384 [0x61, 0x62, 0x63]).take 8 = [0xcb, 0x00, 0x75, 0x3f, 0x45, 0xa3, 0x5e, 0x8b] := by decide +kernel

/-- A root taken upward, from 10. -/
theorem test_ceilSqrt : ceilSqrt 10 = 4 := by decide +kernel

/-- A set-point that moves away from its target slows down first (R49): 1,000 LSB/s² for 1 ms take 1 LSB/s. -/
theorem test_limiterStep : (limiterStep 0 100 (-1000) 0 1000 1000).2 = 99 := by decide +kernel

/-- The worked conversions after R286. -/
theorem test_adcCode : adcCode false 0 1000000000 = (6554, false) ∧ adcCode true 1 (-300000000) = (-1966, false)
    ∧ adcFormat 1 6554 = 0x6668 ∧ adcFormat 2 (-1966) = 0xF852 ∧ adcNumber false 6554 = -1638 := by decide +kernel

/-- A quarter of a half turn (R249): equal amplitudes. -/
theorem test_atan2 : atan2Q15 1 1 = 8192 := by decide +kernel

/-! ### Single steps -/

/-- On an empty queue one period of the 100 MHz reference passes. -/
theorem test_idle : (match step live with | .next s => s.now | _ => 0) = 2560 := by decide +kernel

/-- GLB_LINE reads 0xFFFF without a line grid (register table of R465). -/
theorem test_glb_line_without_grid :
    (match exec (.rcRead .a (BitVec.ofNat 26 GLB_LINE)) live with | .next s => s.view 0 GLB_LINE | _ => 0) = 0xFFFF := by decide +kernel

end Sys2Proof.Tests
end

