-- ==== Sys2Proof/Tests/Witnesses.lean ====
section
/-! SUPPORT. For every statement with hypotheses, one theorem that shows concrete states and operands meeting them together, clause by clause. -/

set_option Elab.async false

namespace Sys2Proof.Tests

open Sys2Proof Sys2Proof.Machine

theorem witness_EveryCommandEndsAStep :
    (∃ (u : State) (r : Raised), r ∈ u.raised ∧ r.src < 256) :=
  ⟨{ live with raised := [⟨5, none⟩] }, ⟨5, none⟩, by decide +kernel⟩

theorem witness_EmptyQueueIsOnePeriod :
    (∃ (s : State), s.pending = []) :=
  ⟨live, by decide +kernel⟩

theorem witness_ChainInvariantIsKept :
    (∃ (s : State) (t : State), s.emt.terms = s.chainTerms ∧ s.chainShown ∧ s.settled ∧ step s = .next t) :=
  ⟨State.reset, _, by decide +kernel, by simp only [State.chainShown]; decide +kernel, by simp only [State.settled]; decide +kernel, rfl⟩

theorem witness_SweepInstants :
    (∃ (s : State), s.pwr.coreInReset = false) ∧
    (∃ (t : Nat) (s : State), s.pwr.coreInReset = false ∧ s.grid.running = true ∧ s.ctl.nextLine = some t ∧ s.grid.linesStarted < s.linesInForce) ∧
    (∃ (t : Nat) (s : State), s.pwr.coreInReset = false ∧ s.grid.running = true ∧ s.ctl.nextLine = some t ∧ s.linesInForce ≤ s.grid.linesStarted) ∧
    (∃ (s : State), s.pwr.coreInReset = false ∧ s.grid.running = true ∧ s.img.lineOpen = true ∧ s.img.line + 1 < 4 * s.rdN GLB_LINE + 4) ∧
    (∃ (width : Nat) (s : State), s.pwr.coreInReset = false ∧ 5120 ≤ width) ∧
    (∃ (width : Nat) (s : State), s.pwr.coreInReset = false ∧ width < 5120) ∧
    (∃ (s : State), s.pwr.emissionInReset = false ∧ s.slotDue = true) ∧
    (∃ (f : SlotInFlight) (s : State), s.pwr.emissionInReset = false ∧ s.sht.flight = some f ∧ f.started = false) ∧
    (∃ (f : SlotInFlight) (s : State), s.pwr.emissionInReset = false ∧ s.sht.flight = some f ∧ f.started = true ∧ f.emitted = false ∧ s.p87 = true ∧
      f.rows ≠ 0) ∧
    (∃ (f : SlotInFlight) (s : State), s.pwr.emissionInReset = false ∧ s.sht.flight = some f ∧ f.started = true ∧ f.emitted = false ∧ s.p87 = true ∧
      f.rows ≠ 0) ∧
    (∃ (f : SlotInFlight) (s : State), s.pwr.emissionInReset = false ∧ s.sht.flight = some f ∧ f.started = true ∧ f.emitted = false ∧ s.p87 = false) ∧
    (∃ (f : SlotInFlight) (s : State), s.pwr.emissionInReset = false ∧ s.sht.flight = some f ∧ f.started = true) :=
  ⟨⟨live, by decide +kernel⟩,
   ⟨0, wCtl (wGrid live fun g => { g with running := true }) fun c => { c with nextLine := some 0 }, by decide +kernel⟩,
   ⟨0, wCtl (wGrid live fun g => { g with running := true, linesStarted := 4096 }) fun c => { c with nextLine := some 0 }, by decide +kernel⟩,
   ⟨wImg (wGrid live fun g => { g with running := true }) fun g => { g with lineOpen := true }, by decide +kernel⟩,
   ⟨5120, live, by decide +kernel⟩,
   ⟨0, live, by decide +kernel⟩,
   ⟨wSht (wGrid (wEmt live fun e => { e with terms := 255 }) fun g => { g with lineOpen := true }) fun h => { h with plan := [0] }, by decide +kernel⟩,
   ⟨fl0, wSht live fun h => { h with flight := some fl0 }, by decide +kernel⟩,
   ⟨{ fl0 with started := true }, wSht (wEmt live fun e => { e with terms := 255 }) fun h => { h with flight := some { fl0 with started := true } },
     by decide +kernel⟩,
   ⟨{ fl0 with started := true }, wSht (wEmt live fun e => { e with terms := 255 }) fun h => { h with flight := some { fl0 with started := true } },
     by decide +kernel⟩,
   ⟨{ fl0 with started := true }, wSht live fun h => { h with flight := some { fl0 with started := true } }, by decide +kernel⟩,
   ⟨{ fl0 with started := true }, wSht live fun h => { h with flight := some { fl0 with started := true } }, by decide +kernel⟩⟩

theorem witness_LoopSlotsOpenAndClose :
    (∃ (p : Port) (n : Fin 8) (s : State), Reaches s p (CTL_SLOT_CTRL n) ∧ s.plant n ≠ 0 ∧ (s.fld (CTL_SLOT_CTRL_MODE n) < (if n.val = 0 then 2 else
      1))) ∧
    (∃ (p : Port) (n : Fin 8) (s : State), Reaches s p (CTL_SLOT_CTRL n) ∧ (s.fld (CTL_SLOT_CTRL_MODE n) < (if n.val = 0 then 2 else 1))) ∧
    (∃ (p : Port) (mode : BitVec 2) (s : State), Reaches s p (CTL_SLOT_CTRL 0) ∧ mode.toNat < 2 ∧ s.fld (CTL_SLOT_CTRL_MODE 0) ≠ mode.toNat ∧ s.flag
      (CTL_SLOT_CTRL_CLOSE 0) = true ∧ s.plant 0 ≠ 0) ∧
    (∃ (p : Port) (n : Fin 8) (mode : BitVec 2) (s : State), Reaches s p (CTL_SLOT_CTRL n) ∧ ((if n.val = 0 then 2 else 1) ≤ mode.toNat)) :=
  ⟨⟨.a, 0, live, by decide +kernel⟩,
   ⟨.a, 0, live, by decide +kernel⟩,
   ⟨.a, 1, (live.setFlag (CTL_SLOT_CTRL_CLOSE 0) true).setFld (CTL_SLOT_CFG_PLANT 0) 1, by decide +kernel⟩,
   ⟨.a, 1, 1, live, by decide +kernel⟩⟩

theorem witness_CoefficientsLockWhileClosed :
    (∃ (p : Port) (n : Fin 8) (s : State), Reaches s p (CTL_KP n) ∧ s.coefClosed n = false) ∧
    (∃ (p : Port) (off : BitVec 18) (lo : Nat) (hi : Nat) (n : Nat) (s : State), Reaches s p (0x380000 + off.toNat) ∧ coefSlots off.toNat = some (lo,
      hi) ∧ (accOf (0x380000 + off.toNat)).isSome = true ∧ s.lowestClosed lo hi = some n) ∧
    (∃ (p : Port) (n : Fin 8) (s : State), Reaches s p (CTL_SP n)) :=
  ⟨⟨.a, 0, live, by decide +kernel⟩,
   ⟨.a, 0x20, 0, 0, 0, live.setFlag (CTL_SLOT_CTRL_CLOSE 0) true, by decide +kernel⟩,
   ⟨.a, 0, live, by decide +kernel⟩⟩

theorem witness_EncoderEdges :
    (∃ (a : Bool) (b : Bool) (s : State), s.pwr.coreInReset = false ∧ ((a ≠ s.ctl.encA ↔ b = s.ctl.encB))) ∧
    (∃ (s : State), s.pwr.coreInReset = false) ∧
    (∃ (s : State), s.pwr.coreInReset = false) ∧
    (∃ (s : State), s.pwr.coreInReset = false ∧ 5 * s.cpr < 4 * s.fld CTL_ENC_CFG_FACETS * (s.ctl.count - s.ctl.countAtFacet).natAbs) ∧
    (∃ (code : BitVec 14) (s : State), s.pwr.coreInReset = false ∧ s.fld CTL_MOTOR_ITRIP_V < code.toNat) ∧
    (∃ (code : BitVec 14) (s : State), s.pwr.coreInReset = false ∧ ((s.fld CTL_COOL_ITRIP_V < code.toNat ∨ code.toNat < 16383 - s.fld
      CTL_COOL_ITRIP_V))) ∧
    (∃ (code : BitVec 14) (s : State), code.toNat ≤ s.fld CTL_MOTOR_ITRIP_V) ∧
    (∃ (code : BitVec 14) (s : State), code.toNat ≤ s.fld CTL_COOL_ITRIP_V ∧ 16383 - s.fld CTL_COOL_ITRIP_V ≤ code.toNat) :=
  ⟨⟨true, false, live, by decide +kernel⟩,
   ⟨live, by decide +kernel⟩,
   ⟨live, by decide +kernel⟩,
   ⟨wCtl live fun c => { c with count := 1000000 }, by decide +kernel⟩,
   ⟨1, live.wr CTL_MOTOR_ITRIP 0, by decide +kernel⟩,
   ⟨1, live.wr CTL_COOL_ITRIP 0, by decide +kernel⟩,
   ⟨0, live, by decide +kernel⟩,
   ⟨0, live.wr CTL_COOL_ITRIP 16383, by decide +kernel⟩⟩

theorem witness_LoopSampleEvaluatesTheLaw :
    (∃ (t : Nat) (n : Fin 8) (s : State), ((n.val = 1 ∨ n.val = 2)) ∧ s.pwr.coreInReset = false ∧ (s.advance t).dueSlots = BitVec.ofNat 8 (2 ^ n.val)
      ∧ s.plant n = 1 ∧ (s.slot n).closed = true ∧ (s.slot 0).closed = false ∧ s.fld (CTL_SLOT_CFG_SOURCE n) = 0) :=
  ⟨2560000, 1, wCtl (((live.setFld (CTL_SLOT_CFG_RATE 1) 100).setFld (CTL_SLOT_CFG_RATE 0) 1).setFld (CTL_SLOT_CFG_PLANT 1) 1) fun c => { c with slots := [(1, { LoopState.init with closed := true })] },
     by decide +kernel⟩

theorem witness_LoopLawStaysInLimits :
    (∃ (c : Coefs), c.outMin ≤ c.outMax ∧ 0 ≤ c.ilim) ∧
    (∃ (slew : Int), 0 < slew) ∧
    (∃ (maxRate : Nat) (hz : Nat), 0 < maxRate ∧ 0 < hz) ∧
    (∃ (acc : Nat) (hz : Nat), 0 < acc ∧ 0 < hz) ∧
    (∃ (s : State), s.pwr.coreInReset = false ∧ s.rcCellNow ≠ s.ctl.rcCell ∧ s.ctl.rcOk = false) ∧
    (∃ (s : State), s.pwr.coreInReset = false ∧ s.rcCellNow ≠ s.ctl.rcCell ∧ s.ctl.rcOk = true ∧ s.ctl.rcCount ≠ 0 ∧ s.flag CTL_RC_CFG_ENABLE = true ∧
      s.ctl.rcCell < 5120) :=
  ⟨⟨coefs0, by decide +kernel⟩,
   ⟨1, by decide +kernel⟩,
   ⟨1, 1, by decide +kernel⟩,
   ⟨1, 1, by decide +kernel⟩,
   ⟨wCtl live fun c => { c with rcOk := false, rcCell := 1 }, by decide +kernel⟩,
   ⟨wCtl (live.setFlag CTL_RC_CFG_ENABLE true) fun c => { c with rcOk := true, rcCount := 1, rcCell := 1 }, by decide +kernel⟩⟩

theorem witness_ThermometerWindows :
    (∃ (s : State), s.pwr.thmInReset = false) ∧
    (∃ (i : Nat) (c : Nat) (s : State), i < 28 ∧ s.thermFailed i = false ∧ s.countInSpan i c = true ∧ (((s.therm i).started = false ∨ c ≠ (s.therm
      i).lastCount ∨ (s.therm i).same < 63))) ∧
    (∃ (p : Port) (i : Nat) (s : State), Reaches s p THM_RETEST ∧ i < 28) ∧
    (∃ (p : Port) (v : Word) (s : State), Reaches s p THM_LEVEL_LOGIC ∧ ¬(signedN 8 (v.toNat % 256) < signedN 8 (v.toNat / 256 % 256) ∧ signedN 8
      (v.toNat / 256 % 256) < signedN 8 (v.toNat / 65536 % 256) ∧ signedN 8 (v.toNat / 65536 % 256) < signedN 8 (v.toNat / 2 ^ 24 % 256))) ∧
    (∃ (at_ : Nat) (s : State), s.pwr.thmInReset = false ∧ s.thm.upFrom = some at_) ∧
    (∃ (at_ : Nat) (s : State), s.pwr.thmInReset = false ∧ s.thm.downFrom = some at_) ∧
    (∃ (at_ : Nat) (s : State), s.thm.grace = some at_) ∧
    (∃ (s : State), s.thm.grace.isSome = true ∧ s.fwRuns = true) :=
  ⟨⟨live, by decide +kernel⟩,
   ⟨0, 1000, (live.setFld (THM_TRIM_C25 0) 1000).setFld (THM_TRIM_C105 0) 2000, by decide +kernel⟩,
   ⟨.a, 0, live, by decide +kernel⟩,
   ⟨.a, 0, live, by decide +kernel⟩,
   ⟨0, wThm live fun t => { t with upFrom := some 0 }, by decide +kernel⟩,
   ⟨0, wThm live fun t => { t with downFrom := some 0 }, by decide +kernel⟩,
   ⟨0, wThm live fun t => { t with grace := some 0 }, by decide +kernel⟩,
   ⟨wThm standby fun t => { t with grace := some 0 }, by decide +kernel⟩⟩

theorem witness_ShotProgramCommitChecks :
    (∃ (p : Port) (s : State), Reaches s p SHT_COMMIT ∧ programCheck (s.shadowSet programSpans) (s.spMaxFor (fldIn (s.shadowSet programSpans)
      SHT_CFG_LINES)).toNat (s.fld EMT_TRIG_CFG_TRIG_W) (s.fld EMT_TRIG_CFG_COL_HOLD) = none) ∧
    (∃ (p : Port) (c : Nat) (d : Nat) (s : State), Reaches s p SHT_COMMIT ∧ programCheck (s.shadowSet programSpans) (s.spMaxFor (fldIn (s.shadowSet
      programSpans) SHT_CFG_LINES)).toNat (s.fld EMT_TRIG_CFG_TRIG_W) (s.fld EMT_TRIG_CFG_COL_HOLD) = some (c, d)) ∧
    (∃ (p : Port) (s : State), Reaches s p SHT_COMMIT ∧ ((s.fld SHT_CFG_LINES < 512 ∨ 4096 < s.fld SHT_CFG_LINES))) :=
  ⟨⟨.a, live, by decide +kernel⟩,
   ⟨.a, 1, 0, live.setFld SHT_CFG_LINES 511, by decide +kernel⟩,
   ⟨.a, live.setFld SHT_CFG_LINES 511, by decide +kernel⟩⟩

theorem witness_RunCommands :
    (∃ (p : Port) (n : BitVec 16) (s : State), ReachesOwned s p SHT_RUN ∧ n ≠ 0 ∧ s.running = false) ∧
    (∃ (p : Port) (n : BitVec 16) (s : State), ReachesOwned s p SHT_RUN ∧ n ≠ 0 ∧ s.running = true) ∧
    (∃ (p : Port) (s : State), ReachesOwned s p SHT_RUN) ∧
    (∃ (p : Port) (s : State), ReachesOwned s p SHT_RUN ∧ s.running = true) ∧
    (∃ (p : Port) (s : State), ReachesOwned s p SHT_RUN ∧ s.running = false) ∧
    (∃ (p : Port) (s : State), ReachesOwned s p SHT_RUN ∧ s.running = true) ∧
    (∃ (p : Port) (s : State), Reaches s p SHT_SERVE_NONCE_HI) ∧
    (∃ (bits : Nat) (pl : Nat) (phase : Nat), 1 ≤ bits ∧ bits ≤ 10 ∧ pl ≤ bits ∧ phase < 2 ^ pl) :=
  ⟨⟨.a, 1, live, by decide +kernel⟩,
   ⟨.a, 1, live.setFlag SHT_STATUS_RUNNING true, by decide +kernel⟩,
   ⟨.a, live, by decide +kernel⟩,
   ⟨.a, live.setFlag SHT_STATUS_RUNNING true, by decide +kernel⟩,
   ⟨.a, live, by decide +kernel⟩,
   ⟨.a, live.setFlag SHT_STATUS_RUNNING true, by decide +kernel⟩,
   ⟨.a, live, by decide +kernel⟩,
   ⟨1, 0, 0, by decide +kernel⟩⟩

theorem witness_PatternMemoryCommands :
    (∃ (p : Port) (w : BitVec 11) (s : State), Reaches s p (EMT_PAT_SHADOW w.toNat) ∧ s.flag EMT_PAT_CTRL_PENDING = false) ∧
    (∃ (p : Port) (w : BitVec 11) (s : State), Reaches s p (EMT_PAT_SHADOW w.toNat) ∧ s.flag EMT_PAT_CTRL_PENDING = true) ∧
    (∃ (p : Port) (sync : BitVec 2) (s : State), Reaches s p EMT_PAT_CTRL ∧ sync ≠ 3 ∧ s.flag EMT_PAT_CTRL_PENDING = false) ∧
    (∃ (p : Port) (sync : BitVec 2) (s : State), Reaches s p EMT_PAT_CTRL ∧ sync ≠ 3 ∧ s.flag EMT_PAT_CTRL_PENDING = true) ∧
    (∃ (p : Port) (s : State), Reaches s p EMT_PAT_CTRL) ∧
    (∃ (sync : Nat) (at_ : Nat) (e : Nat) (s : State), s.pwr.emissionInReset = false ∧ s.emt.swap = some (sync, false, at_) ∧ e < 256 ∧ isRectangle
      (s.patBits (1 - s.emt.activeBank) e) = false ∧ ((∀ i < e, isRectangle (s.patBits (1 - s.emt.activeBank) i) = true))) ∧
    (∃ (sync : Nat) (at_ : Nat) (s : State), s.pwr.emissionInReset = false ∧ s.emt.swap = some (sync, false, at_) ∧ ((∀ i < 256, isRectangle
      (s.patBits (1 - s.emt.activeBank) i) = true))) ∧
    (∃ (p : Port) (s : State), Reaches s p EMT_CUR_COMMIT ∧ s.p87 = false ∧ s.flag EMT_EYE_CFG_LOCK = false ∧ s.flag EMT_ECB_STATUS_BUSY = false) ∧
    (∃ (p : Port) (s : State), Reaches s p EMT_CUR_COMMIT ∧ ((s.p87 = true ∨ s.flag EMT_EYE_CFG_LOCK = true ∨ s.flag EMT_ECB_STATUS_BUSY = true))) ∧
    (∃ (s : State), s.pwr.emissionInReset = false ∧ s.flag EMT_ECB_STATUS_BUSY = true) ∧
    (∃ (p : Port) (s : State), Reaches s p EMT_EYE_CFG ∧ s.flag EMT_EYE_CFG_LOCK = false ∧ s.flag EMT_ECB_STATUS_BUSY = false ∧ s.flag
      EMT_ECB_STATUS_VERIFIED = true) ∧
    (∃ (p : Port) (s : State), Reaches s p EMT_EYE_CFG ∧ s.flag EMT_EYE_CFG_LOCK = false ∧ s.flag EMT_ECB_STATUS_VERIFIED = false) ∧
    (∃ (s : State), s.pwr.emissionInReset = false ∧ s.flag EMT_EYE_CFG_LOCK = true) :=
  ⟨⟨.a, 0, live, by decide +kernel⟩,
   ⟨.a, 0, live.setFlag EMT_PAT_CTRL_PENDING true, by decide +kernel⟩,
   ⟨.a, 0, live, by decide +kernel⟩,
   ⟨.a, 0, live.setFlag EMT_PAT_CTRL_PENDING true, by decide +kernel⟩,
   ⟨.a, live, by decide +kernel⟩,
   ⟨0, 0, 0, wEmt live fun e => { e with swap := some (0, false, 0), patterns := [(2048, 0x2001)] }, by decide +kernel⟩,
   ⟨0, 0, wEmt live fun e => { e with swap := some (0, false, 0) }, by decide +kernel⟩,
   ⟨.a, live, by decide +kernel⟩,
   ⟨.a, live.setFlag EMT_EYE_CFG_LOCK true, by decide +kernel⟩,
   ⟨live.setFlag EMT_ECB_STATUS_BUSY true, by decide +kernel⟩,
   ⟨.a, live.setFlag EMT_ECB_STATUS_VERIFIED true, by decide +kernel⟩,
   ⟨.a, live, by decide +kernel⟩,
   ⟨live.setFlag EMT_EYE_CFG_LOCK true, by decide +kernel⟩⟩

theorem witness_EmitterFaultsLatch :
    (∃ (t : Nat) (s : State), s.pwr.emissionInReset = false ∧ ((∀ e ∈ s.emt.expected, ¬(e.1 + 256 * s.fld EMT_MON_CFG_DLY_MIN ≤ t ∧ t ≤ e.1 + 256 *
      s.fld EMT_MON_CFG_DLY_MAX)))) ∧
    (∃ (e : Nat) (s : State), s.pwr.emissionInReset = false ∧ s.emt.expected.find? (fun x => !x.2) = some (e, false)) ∧
    (∃ (tot : Nat) (s : State), s.pwr.emissionInReset = false ∧ s.fld EMT_MON_CFG_TOT_MAX < tot) ∧
    (∃ (codes : List (BitVec 10)) (s : State), s.pwr.emissionInReset = false ∧ s.flag EMT_ECB_STATUS_BUSY = true ∧ codes ≠ s.emt.codes) ∧
    (∃ (s : State), s.pwr.emissionInReset = false ∧ s.flag EMT_EYE_CFG_LOCK = true) ∧
    (∃ (s : State), s.pwr.emissionInReset = false) ∧
    (∃ (f : DriverFlags) (s : State), s.pwr.emissionInReset = false ∧ s.emt.flagsWaiting = true ∧ s.flag EMT_ECB_STATUS_BUSY = false ∧ firstFlag f ≠
      none) ∧
    (∃ (f : DriverFlags) (s : State), s.pwr.emissionInReset = false ∧ s.emt.flagsWaiting = true ∧ s.flag EMT_ECB_STATUS_BUSY = false ∧ firstFlag f =
      none) ∧
    (∃ (t : Nat) (e : Nat) (b : Bool) (s : State), s.pwr.emissionInReset = false ∧ s.emt.expected = [(e, b)] ∧ e + 256 * s.fld EMT_MON_CFG_DLY_MIN ≤ t
      ∧ t ≤ e + 256 * s.fld EMT_MON_CFG_DLY_MAX) ∧
    (∃ (p : Port) (s : State), Reaches s p EMT_REARM) ∧
    (∃ (p : Port) (t0 : Nat) (c : RearmChecks) (s : State), Reaches s p EMT_REARM ∧ s.emt.rearmAt = some t0 ∧ s.now ≤ t0 + 256000000 ∧ s.flag
      EMT_FAULT_LATCHED = true ∧ c.emonHigh = true ∧ firstFlag c.flags = none ∧ c.codes = s.emt.codes ∧ c.parityOk = true) ∧
    (∃ (p : Port) (t0 : Nat) (c : RearmChecks) (s : State), Reaches s p EMT_REARM ∧ s.emt.rearmAt = some t0 ∧ s.now ≤ t0 + 256000000 ∧ s.flag
      EMT_FAULT_LATCHED = true ∧ c.emonHigh = false) :=
  ⟨⟨0, live, by decide +kernel⟩,
   ⟨0, wEmt live fun e => { e with expected := [(0, false)] }, by decide +kernel⟩,
   ⟨0x10000, live, by decide +kernel⟩,
   ⟨[0], live.setFlag EMT_ECB_STATUS_BUSY true, by decide +kernel⟩,
   ⟨live.setFlag EMT_EYE_CFG_LOCK true, by decide +kernel⟩,
   ⟨live, by decide +kernel⟩,
   ⟨⟨1 :: List.replicate 15 0, List.replicate 16 0⟩, wEmt live fun e => { e with flagsWaiting := true }, by decide +kernel⟩,
   ⟨flags0, wEmt live fun e => { e with flagsWaiting := true }, by decide +kernel⟩,
   ⟨256 * live.fld EMT_MON_CFG_DLY_MIN, 0, false, wEmt live fun e => { e with expected := [(0, false)] }, by decide +kernel⟩,
   ⟨.a, live, by decide +kernel⟩,
   ⟨.a, 0, { checks0 with codes := [] }, wEmt (live.setFlag EMT_FAULT_LATCHED true) fun e => { e with rearmAt := some 0 }, by decide +kernel⟩,
   ⟨.a, 0, { checks0 with emonHigh := false }, wEmt (live.setFlag EMT_FAULT_LATCHED true) fun e => { e with rearmAt := some 0 }, by decide +kernel⟩⟩

theorem witness_FloodLampCommands :
    (∃ (s : State), s.pwr.emissionInReset = false ∧ s.grid.running = false) ∧
    (let sampled := (fun (s : State) (m : Fin 8) => let gs := (2 ^ s.fld FLD_CFG_GROUP_LOG2); s.nextGroup (tabGet 0 s.flood.toSample m) (fun g => (2 *
      g + 1) * gs) 0 (fun g => s.floodLevel m g)); ∃ (m : Fin 8) (code : BitVec 14) (g : Nat) (at_ : Nat) (s : State), s.pwr.emissionInReset = false ∧
      sampled s m = some (g, at_) ∧ s.fld (FLD_LIM_SHORT m) < code.toNat) ∧
    (let sampled := (fun (s : State) (m : Fin 8) => let gs := (2 ^ s.fld FLD_CFG_GROUP_LOG2); s.nextGroup (tabGet 0 s.flood.toSample m) (fun g => (2 *
      g + 1) * gs) 0 (fun g => s.floodLevel m g)); ∃ (m : Fin 8) (code : BitVec 14) (g : Nat) (at_ : Nat) (s : State), s.pwr.emissionInReset = false ∧
      sampled s m = some (g, at_) ∧ code.toNat ≤ s.fld (FLD_LIM_SHORT m) ∧ s.fld (FLD_LIM_OPEN m) ≤ code.toNat) ∧
    (let sampled := (fun (s : State) (m : Fin 8) => let gs := (2 ^ s.fld FLD_CFG_GROUP_LOG2); s.nextGroup (tabGet 0 s.flood.toSample m) (fun g => (2 *
      g + 1) * gs) 0 (fun g => s.floodLevel m g)); ∃ (m : Fin 8) (code : BitVec 14) (g : Nat) (at_ : Nat) (s : State), s.pwr.emissionInReset = false ∧
      sampled s m = some (g, at_) ∧ code.toNat ≤ s.fld (FLD_LIM_SHORT m) ∧ code.toNat < s.fld (FLD_LIM_OPEN m) ∧ 0 < s.fld (FLD_DENSITY_V m) ∧ tabGet
      0 s.flood.openRun m = 63) ∧
    (let edge := (fun (s : State) (m : Fin 8) => let gs := (2 ^ s.fld FLD_CFG_GROUP_LOG2); s.nextGroup (tabGet 0 s.flood.toRead m) (fun g => 2 * g *
      gs) 2048 (fun g => s.floodEdge m g)); ∃ (m : Fin 8) (levels : BitVec 8) (g : Nat) (at_ : Nat) (s : State), s.pwr.emissionInReset = false ∧ edge
      s m = some (g, at_) ∧ levels.getLsbD m ≠ (s.floodLevels g).getLsbD m ∧ tabGet 0 s.flood.stuckRun m = 1) ∧
    (let edge := (fun (s : State) (m : Fin 8) => let gs := (2 ^ s.fld FLD_CFG_GROUP_LOG2); s.nextGroup (tabGet 0 s.flood.toRead m) (fun g => 2 * g *
      gs) 2048 (fun g => s.floodEdge m g)); ∃ (m : Fin 8) (g : Nat) (at_ : Nat) (s : State), s.pwr.emissionInReset = false ∧ edge s m = some (g, at_)) ∧
    (∃ (p : Port) (s : State), Reaches s p FLD_CLEAR) :=
  ⟨⟨live, by decide +kernel⟩,
   ⟨0, 1, 0, 3072, lit.setFld (FLD_LIM_SHORT 0) 0, by decide +kernel⟩,
   ⟨0, 1, 0, 3072, (lit.setFld (FLD_LIM_SHORT 0) 1).setFld (FLD_LIM_OPEN 0) 1, by decide +kernel⟩,
   ⟨0, 0, 0, 3072, wFlood ((lit.setFld (FLD_LIM_SHORT 0) 1).setFld (FLD_LIM_OPEN 0) 1) fun f => { f with openRun := [(0, 63)] }, by decide +kernel⟩,
   ⟨0, 0, 0, 2048, wFlood lit fun f => { f with stuckRun := [(0, 1)] }, by decide +kernel⟩,
   ⟨0, 0, 2048, lit, by decide +kernel⟩,
   ⟨.a, live, by decide +kernel⟩⟩

theorem witness_ChainActiveExactlyWhileTermsHold :
    (∃ (c : Instr) (s : State) (t : State), exec c s = .next t ∧ t.pwr.emissionInReset = false) :=
  ⟨.floodPeriodStart, live, _, rfl, by decide +kernel⟩

theorem witness_LossOfTheChainEndsTheFrame :
    (∃ (s : State), s.emt.terms = 255 ∧ s.settle.emt.terms ≠ 255) ∧
    (∃ (s : State), s.emt.terms = 255 ∧ s.chainTerms ||| 2 ≠ 255) :=
  ⟨⟨wEmt live fun e => { e with terms := 255 }, by decide +kernel⟩,
   ⟨wEmt live fun e => { e with terms := 255 }, by decide +kernel⟩⟩

theorem witness_MaskSubmissions :
    (let mask := (fun (s : State) (n : Fin 192) (hi : BitVec 16) => BitVec.ofNat 48 (s.rdN (DET_SPAD_EN_LO n) + hi.toNat * 2 ^ 32)); ∃ (p : Port) (n :
      Fin 192) (hi : BitVec 16) (s : State), Reaches s p (DET_SPAD_EN_HI n) ∧ 40 < maskCount (mask s n hi)) ∧
    (let mask := (fun (s : State) (n : Fin 192) (hi : BitVec 16) => BitVec.ofNat 48 (s.rdN (DET_SPAD_EN_LO n) + hi.toNat * 2 ^ 32)); ∃ (p : Port) (n :
      Fin 192) (hi : BitVec 16) (s : State), Reaches s p (DET_SPAD_EN_HI n) ∧ maskCount (mask s n hi) ≤ 40 ∧ mask s n hi &&& s.scream n ≠ 0) ∧
    (let mask := (fun (s : State) (n : Fin 192) (hi : BitVec 16) => BitVec.ofNat 48 (s.rdN (DET_SPAD_EN_LO n) + hi.toNat * 2 ^ 32)); ∃ (p : Port) (n :
      Fin 192) (hi : BitVec 16) (s : State), Reaches s p (DET_SPAD_EN_HI n) ∧ maskCount (mask s n hi) ≤ 40 ∧ mask s n hi &&& s.scream n = 0) ∧
    (∃ (n : Nat) (c : DetChan) (m : BitVec 48) (t : Nat) (s : State), s.pwr.coreInReset = false ∧ s.grid.running = false ∧ s.flag DET_STATUS_LINK_OK =
      true ∧ s.det.chans = [(n, c)] ∧ c.waiting = [(m, t)] ∧ c.repairFrom = none ∧ m &&& s.scream n = 0) ∧
    (∃ (n : Fin 192) (i : Fin 48) (s : State), ((s.detKept.enable = false ∨ (s.chan n).mask.getLsbD i = false))) ∧
    (∃ (n : Fin 192) (i : Fin 48) (s : State), s.pwr.coreInReset = false ∧ s.detKept.enable = true ∧ s.linked n = true ∧ (s.chan n).mask.getLsbD i =
      true ∧ (s.chan n).dead = [] ∧ (s.chan n).depth = 1 ∧ (s.chan n).lastStop = none ∧ 0 < s.detKept.window) ∧
    (∃ (p : Port) (v : BitVec 2) (s : State), Reaches s p DET_CTRL ∧ v.getLsbD 0 = true ∧ s.flag DET_CTRL_ENABLE = false ∧ s.flag DET_STATUS_HV_OK =
      false) ∧
    (∃ (p : Port) (v : BitVec 2) (s : State), Reaches s p DET_CTRL ∧ v.getLsbD 0 = true ∧ s.flag DET_CTRL_ENABLE = false ∧ s.flag DET_STATUS_HV_OK =
      true) ∧
    (∃ (s : State), s.pwr.coreInReset = false) ∧
    (∃ (s : State), s.pwr.coreInReset = false ∧ s.det.replays < 3) ∧
    (∃ (s : State), s.pwr.coreInReset = false ∧ 3 ≤ s.det.replays) ∧
    (∃ (t : Nat) (s : State), s.pwr.coreInReset = false ∧ s.det.atSpSince = some t) ∧
    (∃ (t : Nat) (s : State), s.pwr.coreInReset = false ∧ s.det.satSince = some t ∧ s.flag DET_COOL_STATUS_SATURATED = false) :=
  ⟨⟨.a, 0, 0x1FF, live.wr (DET_SPAD_EN_LO 0) 0xFFFFFFFF, by decide +kernel⟩,
   ⟨.a, 0, 0, (live.wr (DET_SPAD_EN_LO 0) 1).setScream 0 1, by decide +kernel⟩,
   ⟨.a, 0, 0, live, by decide +kernel⟩,
   ⟨0, { DetChan.init with waiting := [(1, 0)] }, 1, 0, wDet (live.setFlag DET_STATUS_LINK_OK true) fun d => { d with chans := [(0, { DetChan.init with waiting := [(1, 0)] })] },
     by decide +kernel⟩,
   ⟨0, 0, live, by decide +kernel⟩,
   ⟨0, 0, (live.setFlag DET_CTRL_ENABLE true).setFld DET_COINC_WIN_V 1, by decide +kernel⟩,
   ⟨.a, 1, live, by decide +kernel⟩,
   ⟨.a, 1, live.setFlag DET_STATUS_HV_OK true, by decide +kernel⟩,
   ⟨live, by decide +kernel⟩,
   ⟨live, by decide +kernel⟩,
   ⟨wDet live fun d => { d with replays := 3 }, by decide +kernel⟩,
   ⟨0, wDet live fun d => { d with atSpSince := some 0 }, by decide +kernel⟩,
   ⟨0, wDet live fun d => { d with satSince := some 0 }, by decide +kernel⟩⟩

theorem witness_SurveyCommands :
    (∃ (p : Port) (s : State), Reaches s p DET_SURVEY_GO ∧ s.flag DET_STATUS_SURVEY_BUSY = false) ∧
    (∃ (p : Port) (s : State), Reaches s p DET_SURVEY_GO ∧ s.flag DET_STATUS_SURVEY_BUSY = true) ∧
    (∃ (s : State), s.pwr.coreInReset = false ∧ s.flag DET_CTRL_SURVEY_AUTO = true ∧ s.flag DET_STATUS_SURVEY_BUSY = false ∧ s.fld
      DET_SURVEY_CFG_PERIOD ≠ 0) ∧
    (∃ (s : State), s.flag DET_CTRL_SURVEY_AUTO = false) ∧
    (∃ (s : State), s.pwr.coreInReset = false ∧ s.flag DET_STATUS_SURVEY_BUSY = true ∧ s.fld DET_STATUS_SURVEY_STEP < 47) ∧
    (∃ (s : State), s.pwr.coreInReset = false ∧ s.flag DET_STATUS_SURVEY_BUSY = true ∧ s.fld DET_STATUS_SURVEY_STEP = 47) :=
  ⟨⟨.a, live, by decide +kernel⟩,
   ⟨.a, live.setFlag DET_STATUS_SURVEY_BUSY true, by decide +kernel⟩,
   ⟨live, by decide +kernel⟩,
   ⟨live.setFlag DET_CTRL_SURVEY_AUTO false, by decide +kernel⟩,
   ⟨live.setFlag DET_STATUS_SURVEY_BUSY true, by decide +kernel⟩,
   ⟨(live.setFlag DET_STATUS_SURVEY_BUSY true).setFld DET_STATUS_SURVEY_STEP 47, by decide +kernel⟩⟩

theorem witness_StopsPassTheChecks :
    (let Open := (fun (s : State) (l : Fin 208) (e : StopEdge) (rest : List StopEdge) => s.pwr.coreInReset = false ∧ (s.lane l).openWin = true ∧
      (s.lane l).gen = false ∧ (s.lane l).first = false ∧ s.laneRole l = 0 ∧ takeEdge (s.fld (TDC_LANE_STATUS_CHANNEL l)) s.det.stops = some (e,
      rest)); let Inside := (fun (s : State) (l : Fin 208) (t : Nat) => max s.now t < (s.lane l).closeAt ∧ (s.lane l).noItem = false); ∃ (l : Fin 208)
      (t : Nat) (e : StopEdge) (rest : List StopEdge) (s : State), Open s l e rest ∧ Inside s l t ∧ (s.lane l).lastTaken = none ∧ (s.lane l).osc = []
      ∧ (s.lane l).taken < 16 ∧ (s.lane l).out.length ≤ 65) ∧
    (let Open := (fun (s : State) (l : Fin 208) (e : StopEdge) (rest : List StopEdge) => s.pwr.coreInReset = false ∧ (s.lane l).openWin = true ∧
      (s.lane l).gen = false ∧ (s.lane l).first = false ∧ s.laneRole l = 0 ∧ takeEdge (s.fld (TDC_LANE_STATUS_CHANNEL l)) s.det.stops = some (e,
      rest)); let Inside := (fun (s : State) (l : Fin 208) (t : Nat) => max s.now t < (s.lane l).closeAt ∧ (s.lane l).noItem = false); ∃ (l : Fin 208)
      (t : Nat) (k : Nat) (e : StopEdge) (rest : List StopEdge) (s : State), Open s l e rest ∧ Inside s l t ∧ (s.lane l).lastTaken = some k ∧ max
      s.now t < k + 256) ∧
    (let Open := (fun (s : State) (l : Fin 208) (e : StopEdge) (rest : List StopEdge) => s.pwr.coreInReset = false ∧ (s.lane l).openWin = true ∧
      (s.lane l).gen = false ∧ (s.lane l).first = false ∧ s.laneRole l = 0 ∧ takeEdge (s.fld (TDC_LANE_STATUS_CHANNEL l)) s.det.stops = some (e,
      rest)); let Inside := (fun (s : State) (l : Fin 208) (t : Nat) => max s.now t < (s.lane l).closeAt ∧ (s.lane l).noItem = false); ∃ (l : Fin 208)
      (t : Nat) (e : StopEdge) (rest : List StopEdge) (s : State), Open s l e rest ∧ Inside s l t ∧ (s.lane l).lastTaken = none ∧ (s.lane l).osc = []
      ∧ 16 ≤ (s.lane l).taken) ∧
    (let Inside := (fun (s : State) (l : Fin 208) (t : Nat) => max s.now t < (s.lane l).closeAt ∧ (s.lane l).noItem = false); ∃ (l : Fin 208) (t :
      Nat) (s : State), s.pwr.coreInReset = false ∧ (s.lane l).openWin = true ∧ (s.lane l).gen = true ∧ (s.lane l).first = false ∧ Inside s l t ∧
      s.genPlaces (s.lane l) (max s.now t) = true ∧ (s.lane l).lastTaken = none ∧ (s.lane l).osc = [] ∧ (s.lane l).taken < 16 ∧ (s.lane l).out.length
      ≤ 65) ∧
    (∃ (l : Fin 208) (s : State), s.pwr.coreInReset = false ∧ (s.lane l).openWin = true ∧ (s.lane l).noItem = false ∧ (s.lane l).start + s.rdN
      (TDC_PERIOD l) / 4 < (s.lane l).closeAt) :=
  ⟨⟨0, 0, edge0, [], wDet (withLane fun x => { x with openWin := true, closeAt := 1 }) fun d => { d with stops := [edge0] }, by decide +kernel⟩,
   ⟨0, 0, 0, edge0, [], wDet (withLane fun x => { x with openWin := true, lastTaken := some 0, closeAt := 1 }) fun d => { d with stops := [edge0] },
     by decide +kernel⟩,
   ⟨0, 0, edge0, [], wDet (withLane fun x => { x with openWin := true, taken := 16, closeAt := 1 }) fun d => { d with stops := [edge0] },
     by decide +kernel⟩,
   ⟨0, 0, withLane fun x => { x with openWin := true, gen := true, closeAt := 1 }, by decide +kernel⟩,
   ⟨0, withLane fun x => { x with openWin := true, closeAt := 10000000000 }, by decide +kernel⟩⟩

theorem witness_CodeDensityRuns :
    (∃ (l : Fin 208) (f : Nat) (g : Bool) (s : State), s.pwr.coreInReset = false ∧ s.tdc.returns = [⟨l.val, [f], g⟩] ∧ s.flag TDC_CTRL_CAL_RUN = true
      ∧ (s.lane l).edges < 16384 ∧ (s.lane l).second = false) ∧
    (∃ (l : Fin 208) (s : State), s.pwr.coreInReset = false ∧ 16384 ≤ (s.lane l).edges ∧ (s.lane l).second = false) ∧
    (∃ (l : Fin 208) (s : State), s.pwr.coreInReset = false ∧ 16384 ≤ (s.lane l).edges ∧ (s.lane l).second = true ∧ pairOk (tabGet 0 (s.lane l).runA)
      (tabGet 0 (s.lane l).runB) (s.rdN (TDC_PERIOD l)) (s.fld TDC_CAL_CFG_AGREE_TOL) (s.fld TDC_CAL_CFG_MIN_COUNT) (s.fld TDC_CAL_CFG_MAX_COUNT)
      (s.fld TDC_CAL_CFG_TOP_MAX) = true) ∧
    (∃ (l : Fin 208) (s : State), s.pwr.coreInReset = false ∧ (s.lane l).measDue = true ∧ (s.lane l).openWin = false ∧ (((s.lane l).refA = none ∨
      (s.lane l).refB = none))) ∧
    (∃ (l : Fin 208) (a : BitVec 14 × BitVec 6) (b : BitVec 14 × BitVec 6) (ta : Nat) (tb : Nat) (s : State), let pos := (fun (e : BitVec 14 × BitVec
      6) => (e.1.toNat : Rat) + (tableEntry (s.tableWords l) e.2.toNat : Rat) / 65536); s.pwr.coreInReset = false ∧ (s.lane l).measDue = true ∧
      (s.lane l).openWin = false ∧ (s.lane l).refA = some ta ∧ (s.lane l).refB = some tb ∧ ta + 25600 ≤ tb ∧ 0 < pos b - pos a) ∧
    (∃ (l : Fin 208) (h : BitVec 16) (rest : List (BitVec 16)) (s : State), s.pwr.coreInReset = false ∧ (s.lane l).out = h :: rest ∧ s.laneRole l = 0
      ∧ isClose h = true ∧ (s.lane l).fifo.length < 8 ∧ ((∀ e ∈ (s.lane l).forming, e.2 = false))) ∧
    (∃ (l : Fin 208) (s : State), 8 ≤ (s.lane l).fifo.length) ∧
    (∃ (l : Fin 208) (w : ReadWord) (rest : List ReadWord) (s : State), s.pwr.coreInReset = false ∧ (s.lane l).fifo = w :: rest ∧ rest.length < 8 ∧
      w.eop = true ∧ s.spent 0 < s.quota 0) ∧
    (∃ (s : State), s.quota 0 ≤ s.spent 0) ∧
    (∃ (p : Port) (l : Fin 208) (s : State), Reaches s p (TDC_LANE_RESET l)) :=
  ⟨⟨0, 0, true, wTdc (live.setFlag TDC_CTRL_CAL_RUN true) fun t => { t with returns := [⟨0, [0], true⟩] }, by decide +kernel⟩,
   ⟨0, withLane fun x => { x with edges := 16384 }, by decide +kernel⟩,
   ⟨0, withLane fun x => { x with edges := 16384, second := true, runA := (List.range 64).map (fun f => (f, 256)), runB := (List.range 64).map (fun f => (f, 256)) },
     by decide +kernel⟩,
   ⟨0, withLane fun x => { x with measDue := true }, by decide +kernel⟩,
   ⟨0, (0, 0), (100, 0), 0, 25600, withLane fun x => { x with measDue := true, refA := some 0, refB := some 25600 }, by decide +kernel⟩,
   ⟨0, 0xD000, [], closing0,
     by exact ⟨by decide +kernel,
     by decide +kernel,
     by decide +kernel,
     by decide +kernel,
     by decide +kernel, fun e (he : e ∈ (closing0.lane 0).forming) => by rw [closing0_forming] at he; cases he⟩⟩,
   ⟨0, withLane fun x => { x with fifo := List.replicate 8 ⟨[], false, false⟩ }, by decide +kernel⟩,
   ⟨0, word0, [], withLane fun x => { x with fifo := [⟨[], true, true⟩] }, by decide +kernel⟩,
   ⟨wBgt live fun b => { b with spend := [(0, 1000000)] }, by decide +kernel⟩,
   ⟨.a, 0, live, by decide +kernel⟩⟩

theorem witness_HistogramItems :
    (∃ (c : Fin 192) (s : State), (s.lane (s.laneOf c)).items = []) ∧
    (let Next := (fun (s : State) (c : Fin 192) (it : List (BitVec 16 × Bool)) (rest : List (List (BitVec 16 × Bool))) (r : ShotRec) (more : List
      ShotRec) (x : ChanLine) => s.pwr.coreInReset = false ∧ (s.lane (s.laneOf c)).items = it :: rest ∧ s.outstanding c = r :: more ∧ s.job (192 *
      r.lineSeq + c) = some x ∧ x.ownDue = false ∧ (s.tdc.returns.filter (fun (e : CalReturn) => e.lane = s.laneOf c)).length ≤ 2); ∃ (c : Fin 192)
      (it : List (BitVec 16 × Bool)) (rest : List (List (BitVec 16 × Bool))) (r : ShotRec) (more : List ShotRec) (x : ChanLine) (s : State), Next s c
      it rest r more x ∧ (viewItem it).poison = true) ∧
    (let Next := (fun (s : State) (c : Fin 192) (it : List (BitVec 16 × Bool)) (rest : List (List (BitVec 16 × Bool))) (r : ShotRec) (more : List
      ShotRec) (x : ChanLine) => s.pwr.coreInReset = false ∧ (s.lane (s.laneOf c)).items = it :: rest ∧ s.outstanding c = r :: more ∧ s.job (192 *
      r.lineSeq + c) = some x ∧ x.ownDue = false ∧ (s.tdc.returns.filter (fun (e : CalReturn) => e.lane = s.laneOf c)).length ≤ 2); ∃ (c : Fin 192)
      (it : List (BitVec 16 × Bool)) (rest : List (List (BitVec 16 × Bool))) (r : ShotRec) (more : List ShotRec) (x : ChanLine) (s : State), Next s c
      it rest r more x ∧ (viewItem it).poison = false ∧ (viewItem it).slot = r.slot ∧ (viewItem it).line6 = r.line % 64 ∧ r.kind = 2 ∧ (viewItem
      it).close.testBit 2 = false ∧ (viewItem it).close.testBit 1 = false ∧ ((∀ q ∈ s.outstanding c, r.seq ≤ q.seq)) ∧ (s.lineOf r.lineSeq).isSome =
      true) :=
  ⟨⟨0, live, by decide +kernel⟩,
   ⟨0, [(0, true)], [], rec0, [], chan0, wTdc (wHst live fun h => { h with posted := [rec0], jobs := [(0, chan0)] }) fun t => { t with lanes := [(0, { Lane.init with items := [[(0, true)]] })] },
     by decide +kernel⟩,
   ⟨0, [(0, false)], [], { rec0 with kind := 2 }, [], chan0, wTdc (wHst live fun h => { h with posted := [{ rec0 with kind := 2 }], lines := [(0, line0)], jobs := [(0, chan0)] }) fun t => { t with lanes := [(0, { Lane.init with items := [[(0, false)]] })] },
     by decide +kernel⟩⟩

theorem witness_HistogramPasses :
    (∃ (c : Fin 192) (key : Nat) (l : HstLine) (x : ChanLine) (s : State), s.pwr.coreInReset = false ∧ s.jobAt c 0 = some key ∧ s.lineOf (key / 192) =
      some l ∧ l.launchEnded = true ∧ (s.openRecs c (key / 192)).filter (fun r => r.kind = 0) = [] ∧ s.job key = some x ∧ x.nC = 0) ∧
    (∃ (c : Fin 192) (key : Nat) (l : HstLine) (x : ChanLine) (s : State), s.pwr.coreInReset = false ∧ s.jobAt c 0 = some key ∧ s.lineOf (key / 192) =
      some l ∧ l.launchEnded = true ∧ (s.openRecs c (key / 192)).filter (fun r => r.kind = 0) = [] ∧ s.job key = some x ∧ x.nC ≠ 0 ∧ x.notBinned =
      false ∧ x.void = false ∧ x.fresh = false ∧ l.fresh = false) ∧
    (∃ (c : Fin 192) (key : Nat) (l : HstLine) (x : ChanLine) (s : State), s.pwr.coreInReset = false ∧ s.jobAt c 1 = some key ∧ s.lineOf (key / 192) =
      some l ∧ s.job key = some x ∧ x.held = []) ∧
    (∃ (c : Fin 192) (key : Nat) (l : HstLine) (x : ChanLine) (s : State), s.pwr.coreInReset = false ∧ s.jobAt c 2 = some key ∧ s.lineOf (key / 192) =
      some l ∧ l.launchEnded = true ∧ s.openRecs c (key / 192) = [] ∧ s.job key = some x) ∧
    (∃ (c : Fin 192) (key : Nat) (l : HstLine) (x : ChanLine) (s : State), s.pwr.coreInReset = false ∧ s.jobAt c 3 = some key ∧ s.lineOf (key / 192) =
      some l ∧ s.job key = some x ∧ s.flag HST_TAP_CFG_EN = false ∧ x.notBinned = false) :=
  ⟨⟨0, 0, line0, ChanLine.init, withJob ChanLine.init, by decide +kernel⟩,
   ⟨0, 0, line0, chan0, withJob chan0, by decide +kernel⟩,
   ⟨0, 0, line0, { chan0 with stage := 1 }, withJob { chan0 with stage := 1 }, by decide +kernel⟩,
   ⟨0, 0, line0, { chan0 with stage := 2 }, withJob { chan0 with stage := 2 }, by decide +kernel⟩,
   ⟨0, 0, line0, { chan0 with stage := 3 }, withJob { chan0 with stage := 3 }, by decide +kernel⟩⟩

theorem witness_PickingStaysInBounds :
    (∃ (p : Port) (s : State), Reaches s p HST_COMMIT ∧ s.hstCheck = 0) ∧
    (∃ (p : Port) (s : State), Reaches s p HST_COMMIT ∧ s.hstCheck ≠ 0) ∧
    (∃ (p : Port) (v : Word) (s : State), Reaches s p HST_TAP_CFG ∧ v.toNat % 65536 ≠ 0) ∧
    (∃ (p : Port) (v : Word) (s : State), Reaches s p HST_TAP_CFG ∧ v.toNat % 65536 = 0) ∧
    (∃ (p : Port) (r : Fin 8) (v : Word) (s : State), Reaches s p (HST_TAP_CH r) ∧ 191 < v.toNat % 256) :=
  ⟨⟨.a, live, by decide +kernel⟩,
   ⟨.a, live.setFld HST_COARSE_CFG_BINS 0, by decide +kernel⟩,
   ⟨.a, 1, live, by decide +kernel⟩,
   ⟨.a, 0, live, by decide +kernel⟩,
   ⟨.a, 0, 192, live, by decide +kernel⟩⟩

theorem witness_ReturnsAreBounded :
    (∃ (c : Fin 192) (key : Nat) (l : HstLine) (x : ChanLine) (s : State), s.pwr.coreInReset = false ∧ s.jobAt c 4 = some key ∧ s.lineOf (key / 192) =
      some l ∧ s.job key = some x ∧ statusOf x ≠ 0) ∧
    (∃ (c : Fin 192) (key : Nat) (l : HstLine) (x : ChanLine) (s : State), s.pwr.coreInReset = false ∧ s.jobAt c 4 = some key ∧ s.lineOf (key / 192) =
      some l ∧ s.job key = some x ∧ statusOf x = 0 ∧ s.kernelActive = false) ∧
    (∃ (c : Fin 192) (s : State), s.jobAt c 4 = none) ∧
    (∃ (s : State), s.pwr.coreInReset = false) ∧
    (∃ (e : Fin 52) (c : Fin 192) (key : Nat) (x : ChanLine) (s : State), s.pwr.coreInReset = false ∧ s.hst.jobs.find? (fun j => decide (j.1 % 192 =
      c.val) && decide (j.2.engine = e.val) && decide (4 ≤ j.2.stage)) = some (key, x) ∧ s.job key = some x) ∧
    (∃ (e : Fin 52) (c : Fin 192) (key : Nat) (x : ChanLine) (s : State), s.pwr.coreInReset = false ∧ s.hst.jobs.find? (fun j => decide (j.1 % 192 =
      c.val) && decide (j.2.engine = e.val) && decide (4 ≤ j.2.stage)) = some (key, x) ∧ s.job key = some x) ∧
    (∃ (seq : Nat) (l : HstLine) (rest : List (Nat × HstLine)) (s : State), s.hst.lines = (seq, l) :: rest ∧ ((∃ e ∈ s.hst.jobs, e.1 / 192 = seq ∧
      e.2.stage < 5))) ∧
    (∃ (seq : Nat) (key : Nat) (l : HstLine) (rest : List (Nat × HstLine)) (x : ChanLine) (s : State), s.pwr.coreInReset = false ∧ s.hst.lines = (seq,
      l) :: rest ∧ ((∀ e ∈ s.hst.jobs, e.1 / 192 = seq → 5 ≤ e.2.stage)) ∧ tabSorted 0 s.hst.jobs = true ∧ s.kernelActive = false ∧ s.job key = some x
      ∧ key / 192 = seq ∧ x.stage = 5) :=
  ⟨⟨0, 0, line0, { chan0 with stage := 4, dark := true }, withJob { chan0 with stage := 4, dark := true }, by decide +kernel⟩,
   ⟨0, 0, line0, { chan0 with stage := 4 }, withJob { chan0 with stage := 4 }, by decide +kernel⟩,
   ⟨0, live, by decide +kernel⟩,
   ⟨live, by decide +kernel⟩,
   ⟨0, 0, 0, { chan0 with stage := 4 }, withJob { chan0 with stage := 4 }, by decide +kernel⟩,
   ⟨0, 0, 0, { chan0 with stage := 4 }, withJob { chan0 with stage := 4 }, by decide +kernel⟩,
   ⟨0, line0, [], withJob chan0, by decide +kernel⟩,
   ⟨0, 0, line0, [], { chan0 with stage := 5 }, withJob { chan0 with stage := 5 }, by decide +kernel⟩⟩

theorem witness_PacketsAreFormedAndRouted :
    (∃ (s : State), s.frozen = false ∧ s.bit SEC_KEY_STATUS 17 = false ∧ s.keyValid 1 = true) ∧
    (∃ (s : State), s.frozen = false ∧ s.bit SEC_KEY_STATUS 17 = false ∧ s.withheld = true) ∧
    (∃ (seq : Nat) (l : HstLine) (rest : List (Nat × HstLine)) (s : State), s.hst.lines = (seq, l) :: rest ∧ ((∃ e ∈ s.hst.jobs, e.1 / 192 = seq ∧
      e.2.stage < 6))) ∧
    (∃ (seq : Nat) (l : HstLine) (rest : List (Nat × HstLine)) (s : State), s.pwr.coreInReset = false ∧ s.hst.lines = (seq, l) :: rest ∧ ((∀ e ∈
      s.hst.jobs, e.1 / 192 = seq → 6 ≤ e.2.stage)) ∧ s.frozen = false ∧ s.withheld = false ∧ s.bit SEC_KEY_STATUS 17 = false) ∧
    (∃ (d : Fin 3) (q : Packet) (rest : List (Nat × Packet)) (s : State), s.pwr.coreInReset = false ∧ takePacket d s.pnt.waiting = some (q, rest) ∧
      q.reserved = false) ∧
    (∃ (d : Fin 2) (full : Bool) (q : Packet) (rest : List (Nat × Packet)) (s : State), s.pwr.coreInReset = false ∧ takePacket d s.pnt.waiting = some
      (q, rest) ∧ ((full = false ∨ q.reserved = true))) ∧
    (∃ (p : Port) (r : Fin 4) (v : Word) (s : State), Reaches s p (0x280040 + 4 * r.val) ∧ s.running = false ∧ ((r = 0 → v.toNat / 2 ^ 24 ∈ [12, 24,
      48, 96, 192]))) ∧
    (∃ (p : Port) (r : Fin 4) (v : Word) (s : State), Reaches s p (0x280040 + 4 * r.val) ∧ ((s.running = true ∨ (r = 0 ∧ v.toNat / 2 ^ 24 ∉ [12, 24,
      48, 96, 192])))) :=
  ⟨⟨live.setBit SEC_KEY_STATUS 1 true, by decide +kernel⟩,
   ⟨live, by decide +kernel⟩,
   ⟨0, line0, [], withJob chan0, by decide +kernel⟩,
   ⟨0, line0, [], (withJob { chan0 with stage := 6 }).setBit SEC_KEY_STATUS 1 true, by decide +kernel⟩,
   ⟨0, packet0, [], wPnt live fun h => { h with waiting := [(0, packet0)] }, by decide +kernel⟩,
   ⟨0, false, packet0, [], wPnt live fun h => { h with waiting := [(0, packet0)] }, by decide +kernel⟩,
   ⟨.a, 1, 0, live, by decide +kernel⟩,
   ⟨.a, 0, 0, live, by decide +kernel⟩⟩

theorem witness_ColourLinesAreShiftedAndRead :
    (∃ (s : State), s.pwr.coreInReset = false ∧ s.flag IMG_STATUS_RUNNING = true ∧ s.grid.running = true ∧ s.img.lineOpen = true ∧ s.img.steps <
      stepsIn s.img.dieVel s.img.line) ∧
    (∃ (s : State), ((s.flag IMG_STATUS_RUNNING = false ∨ s.grid.running = false ∨ s.img.lineOpen = false ∨ stepsIn s.img.dieVel s.img.line ≤
      s.img.steps))) ∧
    (∃ (l : ColourLine), l.cut = true) ∧
    (∃ (l : ColourLine) (s : State), s.pwr.coreInReset = false ∧ s.flag IMG_STATUS_RUNNING = true ∧ s.grid.running = true ∧ s.img.closing.find? (fun l
      => l.left = 0) = some l ∧ l.read = true) ∧
    (∃ (s : State), ((s.flag IMG_STATUS_RUNNING = false ∨ s.grid.running = false ∨ s.img.closing.find? (fun l => l.left = 0) = none))) ∧
    (∃ (l : ColourLine) (s : State), s.pwr.coreInReset = false ∧ s.img.bus = none ∧ s.img.store.find? (fun l => !s.earlierUnsent l) = some l) ∧
    (∃ (b : PixelBus) (x : ColourLine) (s : State), s.pwr.coreInReset = false ∧ s.img.bus = some b ∧ s.expects b.received = some x ∧ s.flag
      ISP_CTRL_SRC = false) ∧
    (∃ (b : PixelBus) (s : State), s.pwr.coreInReset = false ∧ s.img.bus = some b ∧ s.expects b.received = none) ∧
    (∃ (l : ColourLine) (rest : List ColourLine) (s : State), s.pwr.coreInReset = false ∧ s.img.expected = l :: rest ∧ s.img.bus.any (fun b =>
      b.line.frame = l.frame && b.line.line = l.line) = false ∧ s.flag ISP_CTRL_SRC = false) :=
  ⟨⟨wImg (wGrid (live.setFlag IMG_STATUS_RUNNING true) fun g => { g with running := true }) fun i => { i with lineOpen := true, dieVel := 256 },
     by decide +kernel⟩,
   ⟨live, by decide +kernel⟩,
   ⟨{ cl0 with cut := true }, by decide +kernel⟩,
   ⟨cl0, wImg (wGrid (live.setFlag IMG_STATUS_RUNNING true) fun g => { g with running := true }) fun i => { i with closing := [cl0] }, by decide +kernel⟩,
   ⟨live, by decide +kernel⟩,
   ⟨cl0, wImg live fun i => { i with store := [cl0] }, by decide +kernel⟩,
   ⟨⟨cl0, [], 0⟩, cl0, wImg live fun i => { i with bus := some ⟨cl0, [], 0⟩, expected := [cl0] }, by decide +kernel⟩,
   ⟨⟨cl0, [], 0⟩, wImg live fun i => { i with bus := some ⟨cl0, [], 0⟩ }, by decide +kernel⟩,
   ⟨cl0, [], wImg live fun i => { i with expected := [cl0] }, by decide +kernel⟩⟩

theorem witness_ImagingSettings :
    (∃ (p : Port) (s : State), Reaches s p IMG_COMMIT ∧ s.imgCheck = none) ∧
    (∃ (p : Port) (c : Nat) (d : Nat) (s : State), Reaches s p IMG_COMMIT ∧ s.imgCheck = some (c, d)) ∧
    (∃ (p : Port) (s : State), Reaches s p IMG_COMMIT ∧ s.fld IMG_ROWS_START % 2 = 0 ∧ s.fld IMG_ROWS_COUNT ≠ 0 ∧ s.fld IMG_ROWS_COUNT % 2 = 0 ∧ s.fld
      IMG_ROWS_START + s.fld IMG_ROWS_COUNT ≤ 1536 ∧ s.fld IMG_BIN_ROW_BIN = 3) ∧
    (∃ (p : Port) (s : State), Reaches s p IMG_CTRL) ∧
    (∃ (p : Port) (s : State), Reaches s p ISP_CTRL ∧ s.flag IMG_CTRL_ENABLE = false) ∧
    (∃ (p : Port) (s : State), Reaches s p ISP_CTRL ∧ s.flag IMG_CTRL_ENABLE = true) ∧
    (let Fits := (fun (s : State) (n : Nat) => s.regionBad (n * s.recordBytes) = false); ∃ (p : Port) (s : State), Reaches s p ISP_MEM_CTRL ∧ s.flag
      IMG_CTRL_ENABLE = false ∧ Fits s (4 * s.linesInForce) ∧ s.isp.capture = none) ∧
    (let Fits := (fun (s : State) (n : Nat) => s.regionBad (n * s.recordBytes) = false); ∃ (p : Port) (n : BitVec 16) (s : State), Reaches s p
      ISP_MEM_CTRL ∧ s.flag IMG_CTRL_ENABLE = false ∧ s.flag ISP_CTRL_SRC = true ∧ n ≠ 0 ∧ Fits s n.toNat ∧ s.isp.reproc = none) ∧
    (∃ (p : Port) (s : State), Reaches s p ISP_MEM_CTRL ∧ s.flag IMG_CTRL_ENABLE = true) ∧
    (∃ (p : Port) (n : BitVec 16) (s : State), Reaches s p ISP_MEM_CTRL ∧ ((s.flag IMG_CTRL_ENABLE = true ∨ n = 0))) ∧
    (let Fits := (fun (s : State) (n : Nat) => s.regionBad (n * s.recordBytes) = false); ∃ (p : Port) (s : State), Reaches s p ISP_MEM_CTRL ∧ s.flag
      IMG_CTRL_ENABLE = false ∧ ¬Fits s (4 * s.linesInForce)) ∧
    (let Fits := (fun (s : State) (n : Nat) => s.regionBad (n * s.recordBytes) = false); ∃ (p : Port) (n : BitVec 16) (s : State), Reaches s p
      ISP_MEM_CTRL ∧ s.flag IMG_CTRL_ENABLE = false ∧ n ≠ 0 ∧ ¬Fits s n.toNat) :=
  ⟨⟨.a, (live.setFld IMG_TDI_CFG_VEL_SRC 1).setFld IMG_TDI_CFG_VEL 256, by decide +kernel⟩,
   ⟨.a, 5, 0, live, by decide +kernel⟩,
   ⟨.a, live.setFld IMG_BIN_ROW_BIN 3, by decide +kernel⟩,
   ⟨.a, live, by decide +kernel⟩,
   ⟨.a, live, by decide +kernel⟩,
   ⟨.a, live.setFlag IMG_CTRL_ENABLE true, by decide +kernel⟩,
   ⟨.a, live, by decide +kernel⟩,
   ⟨.a, 1, live.setFlag ISP_CTRL_SRC true, by decide +kernel⟩,
   ⟨.a, live.setFlag IMG_CTRL_ENABLE true, by decide +kernel⟩,
   ⟨.a, 0, live, by decide +kernel⟩,
   ⟨.a, live.wr ISP_MEM_BASE 0x1FFF, by decide +kernel⟩,
   ⟨.a, 1, live.wr ISP_MEM_BASE 0x2000, by decide +kernel⟩⟩

theorem witness_PipelineLinesAndRecords :
    (∃ (l : ColourLine) (rest : List ColourLine) (s : State), s.pwr.coreInReset = false ∧ s.img.arrived = l :: rest ∧ s.flag ISP_CTRL_ENABLE = true ∧
      s.isp.queue.length < 32) ∧
    (∃ (l : ColourLine) (rest : List ColourLine) (s : State), s.pwr.coreInReset = false ∧ s.img.arrived = l :: rest ∧ s.flag ISP_CTRL_ENABLE = true ∧
      32 ≤ s.isp.queue.length) ∧
    (∃ (l : ColourLine) (rest : List ColourLine) (s : State), s.pwr.coreInReset = false ∧ s.img.arrived = l :: rest ∧ s.flag ISP_CTRL_ENABLE = false) ∧
    (∃ (l : ColourLine) (s : State), s.pwr.coreInReset = false ∧ s.isp.queue.find? (fun l => !s.partnerComing l) = some l ∧ s.isp.queue.length ≤ 32) ∧
    (∃ (s : State), s.isp.queue.find? (fun l => !s.partnerComing l) = none) ∧
    (∃ (left : Nat) (a : Nat) (n : Nat) (len : Nat) (l : ColourLine) (cfg : List (Nat × Word)) (s : State), s.pwr.coreInReset = false ∧ s.isp.reproc =
      some (left, a, n) ∧ 1 < left ∧ s.readRecord a = some (l, len, cfg)) ∧
    (∃ (left : Nat) (a : Nat) (n : Nat) (s : State), s.pwr.coreInReset = false ∧ s.isp.reproc = some (left, a, n) ∧ 1 < left ∧ s.readRecord a = none) ∧
    (∃ (left : Nat) (a : Nat) (n : Nat) (s : State), s.pwr.coreInReset = false ∧ s.isp.reproc = some (left, a, n) ∧ left ≤ 1) :=
  ⟨⟨cl0, [], wImg (live.setFlag ISP_CTRL_ENABLE true) fun i => { i with arrived := [cl0] }, by decide +kernel⟩,
   ⟨cl0, [], wIsp (wImg (live.setFlag ISP_CTRL_ENABLE true) fun i => { i with arrived := [cl0] }) fun i => { i with queue := List.replicate 32 cl0 },
     by decide +kernel⟩,
   ⟨cl0, [], wImg (live.setFlag ISP_CTRL_ENABLE false) fun i => { i with arrived := [cl0] }, by decide +kernel⟩,
   ⟨cl0, wIsp live fun i => { i with queue := [cl0] }, by decide +kernel⟩,
   ⟨live, by decide +kernel⟩,
   ⟨2, 0, 0, 16, _, _, ({ wIsp live fun i => { i with reproc := some (2, 0, 0) } with mem := [(0, 1)] } : State), by decide +kernel, rfl, by decide, rfl⟩,
   ⟨2, 0, 0, wIsp live fun i => { i with reproc := some (2, 0, 0) }, by decide +kernel⟩,
   ⟨1, 0, 0, wIsp live fun i => { i with reproc := some (1, 0, 0) }, by decide +kernel⟩⟩

theorem witness_FrontEndSamples :
    (∃ (m : Fin 8) (s : State), s.pwr.coreInReset = false ∧ s.afeRuns m = false) ∧
    (∃ (m : Fin 8) (a : Int × Int) (b : Int × Int) (f : Int) (i : Int) (x : Int) (s : State), let phase := (s.fldF (AFE_PHASE_EXC_PHASE m) + s.fldF
      (AFE_PHASE_DEMOD_PHASE m)); let p := (if s.excited m then demodulate phase a else (a.1, 0)); let q := (if s.excited m then (demodulate phase
      b).1 else b.1); s.pwr.coreInReset = false ∧ s.afeRuns m = true ∧ (s.afeChan m).settleUntil = none ∧ (s.afeChan m).settleDue = false ∧ s.rawX m
      ⟨p.1, q, p.2, f, i⟩ (max s.now (s.afeChan m).nextOut) = some x) ∧
    (∃ (m : Fin 8) (e : Nat) (s : State), s.pwr.coreInReset = false ∧ s.excited m = true ∧ (s.afeChan m).excDue = some e) ∧
    (∃ (m : Fin 8) (s : State), ((s.excited m = false ∨ (s.afeChan m).excDue = none))) ∧
    (∃ (m : Fin 8) (e : Nat) (s : State), s.pwr.coreInReset = false ∧ (s.afeChan m).settleUntil = some e) ∧
    (∃ (m : Fin 8) (s : State), s.pwr.coreInReset = false ∧ s.afeRuns m = true ∧ s.afeMode m = 7) ∧
    (∃ (m : Fin 8) (charge : Int) (s : State), s.pwr.coreInReset = false ∧ s.afeRuns m = true ∧ s.afeMode m = 7 ∧ 31 * chargeFull (s.chargeRange m) ≤
      32 * charge.natAbs ∧ s.afe.earlyAt = none) ∧
    (∃ (m : Fin 8) (charge : Int) (s : State), 32 * charge.natAbs < 31 * chargeFull (s.chargeRange m)) :=
  ⟨⟨0, live, by decide +kernel⟩,
   ⟨0, (2500000000, 0), (0, 0), 0, 0, 32768, (live.wr AFE_CTRL 1).setFld (AFE_MODE_MODE 0) 3, by decide +kernel⟩,
   ⟨0, 0, wAfe ((live.wr AFE_CTRL 1).setFld (AFE_MODE_MODE 0) 1) fun a => { a with chans := [(0, { AfeChan.init with excDue := some 0 })] },
     by decide +kernel⟩,
   ⟨0, live, by decide +kernel⟩,
   ⟨0, 0, wAfe live fun a => { a with chans := [(0, { AfeChan.init with settleUntil := some 0 })] }, by decide +kernel⟩,
   ⟨0, (live.wr AFE_CTRL 1).setFld (AFE_MODE_MODE 0) 7, by decide +kernel⟩,
   ⟨0, 4096, (live.wr AFE_CTRL 1).setFld (AFE_MODE_MODE 0) 7, by decide +kernel⟩,
   ⟨0, 0, live, by decide +kernel⟩⟩

theorem witness_ConverterSequences :
    (∃ (t0 : Nat) (s : State), s.pwr.coreInReset = false ∧ s.adc.refSince = some t0 ∧ s.flag ADC_STATUS_REF_READY = false) ∧
    (∃ (s : State), s.adc.refSince = none) ∧
    (∃ (s : State), s.pwr.coreInReset = false ∧ s.flag ADC_CTRL_RUN = true ∧ s.fldF ADC_SEQ_CFG_TRIG = 0 ∧ s.adc.seqStart = none ∧ s.adc.staged =
      none) ∧
    (∃ (p : Port) (s : State), Reaches s p ADC_GO ∧ s.flag ADC_CTRL_RUN = true ∧ s.fldF ADC_SEQ_CFG_TRIG = 2 ∧ s.adc.seqStart = none) ∧
    (∃ (p : Port) (t0 : Nat) (s : State), Reaches s p ADC_GO ∧ s.flag ADC_CTRL_RUN = true ∧ s.fldF ADC_SEQ_CFG_TRIG = 2 ∧ s.adc.seqStart = some t0) ∧
    (∃ (t0 : Nat) (s : State), s.pwr.coreInReset = false ∧ s.adc.seqStart = some t0) ∧
    (∃ (p : Port) (v : BitVec 5) (s : State), Reaches s p ADC_CTRL ∧ ((s.flag ADC_CTRL_REF_EN = false ∨ v.getLsbD 4 = s.flag ADC_CTRL_REF_SRC))) ∧
    (∃ (p : Port) (v : BitVec 5) (s : State), Reaches s p ADC_CTRL ∧ s.flag ADC_CTRL_REF_EN = true ∧ v.getLsbD 4 ≠ s.flag ADC_CTRL_REF_SRC) ∧
    (∃ (p : Port) (s : State), Reaches s p ADC_COMMIT ∧ s.adcCheckCode.1 = 0 ∧ s.flag ADC_CTRL_RUN = true) ∧
    (∃ (p : Port) (s : State), Reaches s p ADC_COMMIT ∧ s.adcCheckCode.1 = 0 ∧ s.flag ADC_CTRL_RUN = false) ∧
    (∃ (p : Port) (c : Nat) (d : Nat) (s : State), Reaches s p ADC_COMMIT ∧ s.adcCheckCode = (c, d) ∧ c ≠ 0) ∧
    (∃ (p : Port) (off : BitVec 14) (v : Word) (c : Nat) (d : Nat) (s : State), Reaches s p (0x3C0000 + off.toNat / 4 * 4) ∧ s.afeWriteCode (off.toNat
      / 4 * 4) v = (c, d) ∧ c ≠ 0) ∧
    (∃ (p : Port) (j : Fin 12) (v : Word) (s : State), Reaches s p (FLT_DET_CFG j) ∧ v.toNat / 65536 % 16 ≠ 0 ∧ 4 ≤ v.toNat % 16) ∧
    (∃ (p : Port) (j : Fin 12) (v : Word) (s : State), Reaches s p (FLT_POLY_CFG j) ∧ (s.afeWriteCode (0x1004 + 256 * j.val) v).1 = 0) ∧
    (∃ (p : Port) (j : Fin 12) (v : Word) (s : State), Reaches s p (FLT_POLY_CFG j) ∧ v.toNat % 256 = 0x10 + j.val) ∧
    (∃ (p : Port) (j : Fin 12) (s : State), Reaches s p (FLT_DET_RESTART j)) ∧
    (∃ (p : Port) (s : State), Reaches s p FLT_TRIP ∧ s.ilkSwitchesOff = true) ∧
    (∃ (p : Port) (s : State), Reaches s p FLT_TRIP ∧ s.ilkSwitchesOff = false) :=
  ⟨⟨0, wAdc live fun a => { a with refSince := some 0 }, by decide +kernel⟩,
   ⟨live, by decide +kernel⟩,
   ⟨live.setFlag ADC_CTRL_RUN true, by decide +kernel⟩,
   ⟨.a, ({ live with inForce := [(ADC_SEQ_CFG, 0x80000000)] } : State).setFlag ADC_CTRL_RUN true, by decide +kernel⟩,
   ⟨.a, 0, wAdc (({ live with inForce := [(ADC_SEQ_CFG, 0x80000000)] } : State).setFlag ADC_CTRL_RUN true) fun a => { a with seqStart := some 0 },
     by decide +kernel⟩,
   ⟨0, wAdc live fun a => { a with seqStart := some 0 }, by decide +kernel⟩,
   ⟨.a, 0, live, by decide +kernel⟩,
   ⟨.a, 16, live.setFlag ADC_CTRL_REF_EN true, by decide +kernel⟩,
   ⟨.a, live.setFlag ADC_CTRL_RUN true, by decide +kernel⟩,
   ⟨.a, live, by decide +kernel⟩,
   ⟨.a, 1, 0, live.setFld ADC_SEQ_CFG_TRIG 3, by decide +kernel⟩,
   ⟨.a, 0x100, 8, 1, 0, live, by decide +kernel⟩,
   ⟨.a, 0, 0x10004, live, by decide +kernel⟩,
   ⟨.a, 0, 0, live, by decide +kernel⟩,
   ⟨.a, 0, 0x10, live, by decide +kernel⟩,
   ⟨.a, 0, live, by decide +kernel⟩,
   ⟨.a, live, by decide +kernel⟩,
   ⟨.a, ((live.setFlag (FLT_SW_CFG_EN 0 0) true).setFlag (FLT_SW_CFG_ROUTE_ILK 0 0) true).setBit (FLT_SW_STATE 0) 0 true, by decide +kernel⟩⟩

theorem witness_GrantsFollowPriorityAndQuota :
    (∃ (port : Nat) (n : Nat) (w : BitVec 32) (s : State), s.pwr.coreInReset = false ∧ s.grantee port w = some n) ∧
    (∃ (port : Nat) (n : Nat) (w : BitVec 32) (s : State), s.pwr.coreInReset = false ∧ s.grantee port w = some n) ∧
    (∃ (port : Nat) (w : BitVec 32) (s : State), s.pwr.coreInReset = false ∧ s.grantee port w = none) ∧
    (∃ (s : State), s.pwr.coreInReset = false) ∧
    (∃ (p : Port) (s : State), Reaches s p BGT_COMMIT ∧ s.bgtCheck = none) ∧
    (∃ (p : Port) (c : Nat) (d : Nat) (s : State), Reaches s p BGT_COMMIT ∧ s.bgtCheck = some (c, d)) ∧
    (∃ (s : State), s.pwr.coreInReset = false) ∧
    (∃ (i : Fin 24) (e : BitVec 64 × Bool) (rest : List (BitVec 64 × Bool)) (s : State), s.pwr.coreInReset = false ∧ s.dcf i = e :: rest) ∧
    (∃ (i : Fin 24) (s : State), s.pwr.coreInReset = false ∧ s.dcf i = []) ∧
    (∃ (s : State) (port n : Nat) (w : BitVec 32), s.grantee port w = some n) ∧
    (∃ (s : State) (port : Nat) (w : BitVec 32), s.grantee port w = none) :=
  ⟨⟨0, 0, 1, live, by decide +kernel⟩,
   ⟨0, 0, 1, live, by decide +kernel⟩,
   ⟨0, 0, live, by decide +kernel⟩,
   ⟨live, by decide +kernel⟩,
   ⟨.a, live, by decide +kernel⟩,
   ⟨.a, 1, 0, live.wr BGT_OVER 0, by decide +kernel⟩,
   ⟨live, by decide +kernel⟩,
   ⟨0, (0, false), [], wBgt live fun b => { b with dcfs := [(0, ⟨[(0, false)]⟩)] }, by decide +kernel⟩,
   ⟨0, live, by decide +kernel⟩,
   ⟨live, 0, 0, 1, by decide +kernel⟩,
   ⟨live, 0, 0, by decide +kernel⟩⟩

theorem witness_ElementsAreSentOffAndReplaced :
    (∃ (k : Fin 3) (i : BitVec 12) (s : State), s.pwr.coreInReset = false ∧ i.toNat < kindSize k ∧ mapState s.lnp.map k i.toNat = 1) ∧
    (∃ (i : BitVec 12) (n : Nat) (s : State), s.pwr.coreInReset = false ∧ i.toNat < 208 ∧ mapState s.lnp.map 0 i.toNat = 0 ∧ s.benchPick 0 = some n) ∧
    (∃ (k : Fin 3) (i : BitVec 12) (s : State), s.pwr.coreInReset = false ∧ i.toNat < kindSize k ∧ s.lnp.errors = [] ∧ 1 < s.fld LNP_CFG_ERR_LIMIT) ∧
    (∃ (i : BitVec 9) (x : BitVec 10) (s : State), s.pwr.coreInReset = false ∧ i.toNat < 288 ∧ mapState s.lnp.map 2 i.toNat = 1 ∧ x ≠ 0) ∧
    (∃ (i : BitVec 9) (x : BitVec 10) (y : BitVec 10) (s : State), s.pwr.coreInReset = false ∧ i.toNat < 288 ∧ x ≠ 0 ∧ x ≠ y ∧ s.lnp.replays = [] ∧ 0
      < s.fld LNP_CFG_REPLAY_MAX) ∧
    (∃ (i : Nat) (n : Nat) (pos : BitVec 8) (s : State), s.pwr.coreInReset = false ∧ s.lnp.changes = [⟨2, i, some n, [], 0, some pos.toNat⟩] ∧ mapRole
      s.lnp.map pos.toNat ≠ 1) ∧
    (∃ (c : Nat) (i : Nat) (n : Nat) (s : State), s.pwr.coreInReset = false ∧ c < 192 ∧ i < 208 ∧ n < 208 ∧ i ≠ n ∧ s.lnp.changes = [⟨0, i, some n,
      [c], 0, none⟩] ∧ mapLane s.lnp.map c = n ∧ s.laneOf c < 208 ∧ s.laneOf c ≠ n) :=
  ⟨⟨0, 192, live, by decide +kernel⟩,
   ⟨0, 192, live, by decide +kernel⟩,
   ⟨0, 0, live, by decide +kernel⟩,
   ⟨256, 1, live, by decide +kernel⟩,
   ⟨0, 1, 0, live, by decide +kernel⟩,
   ⟨0, 256, 255, wLnp live fun l => { l with changes := [⟨2, 0, some 256, [], 0, some 255⟩] }, by decide +kernel⟩,
   ⟨0, 1, 2, (wLnp live fun l => { l with changes := [⟨0, 1, some 2, [0], 0, none⟩], map := [(4, 0x02000000)] }), by decide +kernel⟩⟩

theorem witness_TheLineupIsVoted :
    (∃ (i : Fin 3) (w : Fin 512) (v : Word) (m : List (Nat × Word)) (s : State), s.pwr.coreInReset = false ∧ s.lnp.map = m ∧ s.lnp.copies = [m, m, m]
      ∧ mapGet m 0x1FF = mapCrc m) ∧
    (∃ (a : List (Nat × Word)) (b : List (Nat × Word)) (c : List (Nat × Word)) (s : State), s.pwr.coreInReset = false ∧ s.lnp.copies = [a, b, c] ∧
      mapGet a 0x1FF ≠ mapCrc a ∧ mapGet b 0x1FF ≠ mapCrc b ∧ mapGet c 0x1FF ≠ mapCrc c) ∧
    (∃ (p : Port) (s : State), Reaches s p LNP_QUERY) :=
  ⟨⟨0, 0, 0, goodMap, wLnp live fun l => { l with map := goodMap, copies := [goodMap, goodMap, goodMap] }, by decide +kernel, rfl, rfl, goodMap_crc⟩,
   ⟨badMap, badMap, badMap, wLnp live fun l => { l with copies := [badMap, badMap, badMap] }, by decide +kernel, rfl, badMap_crc, badMap_crc, badMap_crc⟩,
   ⟨.a, live, by decide +kernel⟩⟩

theorem witness_CalibrationStore :
    (∃ (p : Port) (k : BitVec 4) (i : BitVec 12) (s : State), Reaches s p CAL_RESEL ∧ s.reselEligible k.toNat i.toNat = true) ∧
    (∃ (p : Port) (k : BitVec 4) (i : BitVec 12) (s : State), Reaches s p CAL_RESEL ∧ s.reselEligible k.toNat i.toNat = false) ∧
    (∃ (l : Nat) (a : LaneRun) (b : LaneRun) (s : State), s.pwr.coreInReset = false ∧ l < 208 ∧ s.cal.resel = some (0, l) ∧ s.laneAccepted a b = true) ∧
    (∃ (l : Nat) (a : LaneRun) (b : LaneRun) (s : State), s.pwr.coreInReset = false ∧ s.cal.resel = some (0, l) ∧ s.laneAccepted a b = false ∧
      s.cal.failed = []) ∧
    (∃ (w : Fin 27648) (x : Word) (s : State), s.pwr.coreInReset = false ∧ w.val ≠ 27647 ∧ x ≠ s.recWord w) ∧
    (∃ (a : Word) (b : Word) (c : Word) (s : State), s.pwr.coreInReset = false ∧ a ≠ b ∧ a ≠ c ∧ b ≠ c) ∧
    (∃ (p : Port) (s : State), Reaches s p CAL_CTRL ∧ s.flag CAL_STATUS_BUSY = false ∧ s.flag CAL_STATUS_RESEL_BUSY = false) ∧
    (∃ (p : Port) (s : State), Reaches s p CAL_CTRL ∧ ((s.flag CAL_STATUS_BUSY = true ∨ s.flag CAL_STATUS_RESEL_BUSY = true))) ∧
    (∃ (e : Nat) (s : State), s.pwr.coreInReset = false ∧ s.cal.exporting = some (e, true)) ∧
    (∃ (p : Port) (d : BitVec 128) (addr : Nat) (irq : Bool) (s : State), Reaches s p CAL_CTRL ∧ s.flag CAL_STATUS_BUSY = false ∧ s.flag
      CAL_STATUS_RESEL_BUSY = false ∧ s.queueOpen (s.fld CAL_XFER_PORT) (s.fld CAL_XFER_QUEUE) = true ∧ s.flag (DMA_Q_CFG_DIR (s.fld CAL_XFER_PORT)
      (s.fld CAL_XFER_QUEUE)) = true ∧ readDesc d = (addr, 110592, irq, true)) ∧
    (∃ (r : List Word) (s : State), s.pwr.coreInReset = false ∧ s.cal.accepted = some r ∧ s.grid.running = true) ∧
    (∃ (s : State), s.pwr.coreInReset = false) :=
  ⟨⟨.a, 0, 192, live, by decide +kernel⟩,
   ⟨.a, 0, 0, live, by decide +kernel⟩,
   ⟨0, ⟨[], 0x400000, []⟩, ⟨[], 0x400000, []⟩, wCal live fun c => { c with resel := some (0, 0) }, by decide +kernel⟩,
   ⟨0, ⟨[], 0, []⟩, laneRun0, wCal live fun c => { c with resel := some (0, 0) }, by decide +kernel⟩,
   ⟨0, 0, live, by decide +kernel⟩,
   ⟨1, 2, 3, live, by decide +kernel⟩,
   ⟨.a, live, by decide +kernel⟩,
   ⟨.a, live.setFlag CAL_STATUS_BUSY true, by decide +kernel⟩,
   ⟨0, wCal live fun c => { c with exporting := some (0, true) }, by decide +kernel⟩,
   ⟨.a, 0x1B0000000000000000000, 0, false, openQueue.setFlag (DMA_Q_CFG_DIR 0 0) true, by decide +kernel⟩,
   ⟨[], wCal (wGrid live fun g => { g with running := true }) fun c => { c with accepted := some [] }, by decide +kernel⟩,
   ⟨live, by decide +kernel⟩⟩

theorem witness_KeyOperations :
    (let Open := (fun (s : State) => s.fld SEC_BOOT_RESULT = 0 ∨ s.fwRuns = true); ∃ (b : Option Port) (slot : Fin 4) (s : State), ReachesSec s b
      SEC_KEY_CMD ∧ Open s ∧ s.keyCmdCode 0 slot b.isSome = 0) ∧
    (let Open := (fun (s : State) => s.fld SEC_BOOT_RESULT = 0 ∨ s.fwRuns = true); ∃ (b : Option Port) (slot : Fin 4) (s : State), ReachesSec s b
      SEC_KEY_CMD ∧ Open s ∧ s.keyCmdCode 1 slot b.isSome = 0) ∧
    (let Open := (fun (s : State) => s.fld SEC_BOOT_RESULT = 0 ∨ s.fwRuns = true); ∃ (b : Option Port) (s : State), ReachesSec s b SEC_KEY_CMD ∧ Open
      s) ∧
    (let Open := (fun (s : State) => s.fld SEC_BOOT_RESULT = 0 ∨ s.fwRuns = true); ∃ (b : Option Port) (slot : Fin 4) (s : State), ReachesSec s b
      SEC_KEY_CMD ∧ Open s ∧ s.keyCmdCode 2 slot b.isSome = 0) ∧
    (∃ (slot : Fin 2) (m : List Byte) (t0 : Nat) (refused : Bool) (s : State), s.pwr.coreInReset = false ∧ s.sec.busyOp = some ⟨0, slot, m, t0,
      refused⟩) ∧
    (∃ (m : List Byte) (t0 : Nat) (refused : Bool) (s : State), s.pwr.coreInReset = false ∧ s.sec.busyOp = some ⟨0, 3, m, t0, refused⟩) ∧
    (∃ (slot : Nat) (m : List Byte) (t0 : Nat) (s : State), s.pwr.coreInReset = false ∧ s.sec.busyOp = some ⟨1, slot, m, t0, false⟩ ∧ keyUnwrap (s.key
      3) m = none) :=
  ⟨⟨some .a, 0, live, by simp only [ReachesSec]; decide +kernel⟩,
   ⟨some .a, 0, live.setBit SEC_KEY_STATUS 3 true, by simp only [ReachesSec]; decide +kernel⟩,
   ⟨some .a, live, by simp only [ReachesSec]; decide +kernel⟩,
   ⟨some .a, 0, live, by simp only [ReachesSec]; decide +kernel⟩,
   ⟨0, [], 0, false, wSec live fun x => { x with busyOp := some ⟨0, 0, [], 0, false⟩ }, by decide +kernel⟩,
   ⟨[], 0, false, wSec live fun x => { x with busyOp := some ⟨0, 3, [], 0, false⟩ }, by decide +kernel⟩,
   ⟨0, [], 0, wSec live fun x => { x with busyOp := some ⟨1, 0, [], 0, false⟩ }, by decide +kernel⟩⟩

theorem witness_TamperIsLoggedAndAnswered :
    (∃ (d : BitVec 2) (q : BitVec 2) (s : State), s.pwr.coreInReset = false ∧ 0 ∉ s.sec.standing ∧ d ^^^ q = 3) ∧
    (∃ (d : BitVec 2) (q : BitVec 2) (s : State), ((0 ∈ s.sec.standing ∨ d ^^^ q ≠ 3))) ∧
    (∃ (s : State), s.pwr.coreInReset = false ∧ 1 ∉ s.sec.standing) ∧
    (let Outside := (fun (vcore vio : BitVec 12) => 2 * b2n (decide (vio.toNat < 1450) || decide (2150 < vio.toNat)) + b2n (decide (vcore.toNat < 600)
      || decide (950 < vcore.toNat))); ∃ (dur : Nat) (failed : Nat) (vcore : BitVec 12) (vio : BitVec 12) (s : State), s.pwr.coreInReset = false ∧
      s.glitchArmed = true ∧ 2 ∉ s.sec.standing ∧ 1280 ≤ dur ∧ failed < 256000 ∧ Outside vcore vio ≠ 0) ∧
    (∃ (period : Option Nat) (s : State), s.pwr.coreInReset = false ∧ s.glitchArmed = true ∧ 3 ∉ s.sec.standing ∧ ((∀ x, period = some x → x < 1920 ∨
      3200 < x))) ∧
    (let Outside := (fun (vcore vio : BitVec 12) => 2 * b2n (decide (vio.toNat < 1450) || decide (2150 < vio.toNat)) + b2n (decide (vcore.toNat < 600)
      || decide (950 < vcore.toNat))); ∃ (dur : Nat) (failed : Nat) (vcore : BitVec 12) (vio : BitVec 12) (s : State), ((dur < 1280 ∨ 256000 ≤ failed
      ∨ Outside vcore vio = 0 ∨ s.glitchArmed = false ∨ 2 ∈ s.sec.standing))) ∧
    (∃ (s : State), 1 ∈ s.sec.standing) ∧
    (∃ (i : JtagInstr) (s : State), ((i = .bypass ∨ i = .sample ∨ i = .preload ∨ i = .idcode ∨ (s.fld SEC_KEY_STATUS_VALID = 0 ∧ s.flag EMT_CHAIN_RUN
      = false)))) ∧
    (∃ (i : JtagInstr) (s : State), ((i = .extest ∨ i = .clamp ∨ i = .highz)) ∧ s.fld SEC_KEY_STATUS_VALID ≠ 0) ∧
    (∃ (d : BitVec 2) (q : BitVec 2) (s : State), s.pwr.coreInReset = false ∧ s.pwr.emissionInReset = false ∧ 0 ∉ s.sec.standing ∧ s.emt.redCard =
      false ∧ d ^^^ q = 3 ∧ 2 ≤ s.respLevel 0) :=
  ⟨⟨3, 0, live, by decide +kernel⟩,
   ⟨0, 0, live, by decide +kernel⟩,
   ⟨live, by decide +kernel⟩,
   ⟨1280, 0, 0, 0, live, by decide +kernel⟩,
   ⟨none, live, by decide +kernel⟩,
   ⟨0, 0, 0, 0, live, by decide +kernel⟩,
   ⟨wSec live fun x => { x with standing := [1] }, by decide +kernel⟩,
   ⟨.bypass, live, by decide +kernel⟩,
   ⟨.extest, live.setBit SEC_KEY_STATUS 1 true, by decide +kernel⟩,
   ⟨3, 0, live, by decide +kernel⟩⟩

theorem witness_InterlockAndPins :
    (∃ (t0 : Nat) (s : State), s.pwr.coreInReset = false ∧ s.sec.ilkSince = some t0) ∧
    (∃ (s : State), s.sec.ilkSince = none) ∧
    (∃ (t0 : Nat) (s : State), s.pwr.coreInReset = false ∧ s.sec.agreeSince = some t0 ∧ s.sec.discrepancy = false) ∧
    (∃ (b : Option Port) (s : State), ReachesSec s b SEC_ILK ∧ s.sec.ilkA ≠ s.sec.ilkB) ∧
    (∃ (s : State), s.sec.ilkA = s.sec.ilkB ∧ s.sec.discrepancy = true) ∧
    (∃ (level : Bool) (s : State), s.pwr.coreInReset = false ∧ s.sec.pinMismatch = false ∧ level ≠ s.p87) ∧
    (∃ (t0 : Nat) (level : Bool) (s : State), s.pwr.coreInReset = false ∧ s.sec.pinMismatch = false ∧ level ≠ ((s.advance t0).anyReset ||
      s.faultCauses ≠ 0)) ∧
    (∃ (b : Option Port) (s : State), ReachesSec s b SEC_PIN_CLEAR) ∧
    (∃ (b : Option Port) (s : State), ReachesSec s b SEC_PIN_CLEAR ∧ s.landsMatch = false) ∧
    (∃ (b : Option Port) (s : State), ReachesSec s b SEC_CFG) ∧
    (∃ (b : Option Port) (s : State), ReachesSec s b SEC_CFG) ∧
    (∃ (b : Option Port) (s : State), ReachesSec s b SEC_CFG) ∧
    (∃ (b : Option Port) (v : BitVec 18) (s : State), ReachesSec s b SEC_RESP ∧ ((∀ k < 9, v.toNat / 4 ^ k % 4 ≠ 3))) ∧
    (∃ (b : Option Port) (v : BitVec 18) (k : Nat) (s : State), ReachesSec s b SEC_RESP ∧ k < 9 ∧ v.toNat / 4 ^ k % 4 = 3) :=
  ⟨⟨0, wSec live fun x => { x with ilkA := true, ilkB := false, ilkSince := some 0 }, by decide +kernel⟩,
   ⟨live, by decide +kernel⟩,
   ⟨0, wSec live fun x => { x with ilkA := true, ilkB := true, agreeSince := some 0 }, by decide +kernel⟩,
   ⟨some .a, live, by simp only [ReachesSec]; decide +kernel⟩,
   ⟨wSec live fun x => { x with ilkA := true, discrepancy := true }, by decide +kernel⟩,
   ⟨true, live, by decide +kernel⟩,
   ⟨0, true, live, by decide +kernel⟩,
   ⟨some .a, live, by simp only [ReachesSec]; decide +kernel⟩,
   ⟨some .a, wSec live fun x => { x with emitHeld := some true }, by simp only [ReachesSec]; decide +kernel⟩,
   ⟨some .a, live, by simp only [ReachesSec]; decide +kernel⟩,
   ⟨some .a, live, by simp only [ReachesSec]; decide +kernel⟩,
   ⟨some .a, live, by simp only [ReachesSec]; decide +kernel⟩,
   ⟨some .a, 0, live, by simp only [ReachesSec]; decide +kernel⟩,
   ⟨some .a, 3, 0, live, by simp only [ReachesSec]; decide +kernel⟩⟩

theorem witness_HostReads :
    (∃ (p : Port) (s : State), s.portSilent p = true) ∧
    (∃ (p : Port) (off : BitVec 26) (s : State), s.portSilent p = false ∧ s.blkInReset (tableOff off.toNat) = true) ∧
    (∃ (p : Port) (off : BitVec 26) (m : Nat) (s : State), Readable s p off.toNat ∧ accOf off.toNat = some (.rc, m) ∧ otherView off.toNat = false ∧
      s.computed (pix p) off.toNat = none ∧ s.possesses p off.toNat = true) ∧
    (∃ (p : Port) (off : BitVec 26) (m : Nat) (s : State), Readable s p off.toNat ∧ accOf off.toNat = some (.rc, m) ∧ otherView off.toNat = false ∧
      s.computed (pix p) off.toNat = none ∧ s.possesses p off.toNat = false) ∧
    (∃ (p : Port) (off : BitVec 26) (h : Nat) (s : State), Readable s p off.toNat ∧ latchPairs off.toNat = some h ∧ 0x20000 ≤ off.toNat) ∧
    (∃ (p : Port) (off : BitVec 26) (w : Word) (s : State), s.portSilent p = false ∧ s.blkInReset (tableOff off.toNat) = false ∧ 0x20000 ≤ off.toNat ∧
      (s.port (pix p)).latches = [(off.toNat, w)]) ∧
    (∃ (p : Port) (s : State), s.portSilent p = false ∧ s.pwr.coreInReset = false) ∧
    (∃ (p : Port) (s : State), Readable s p GLB_FRAME) ∧
    (∃ (p : Port) (s : State), Readable s p IMG_APPLIED_FRAME) ∧
    (∃ (p : Port) (s : State), Readable s p ISP_STAT_INFO) ∧
    (∃ (p : Port) (s : State), Readable s p ADC_SEQ_NUM) ∧
    (∃ (p : Port) (j : Fin 12) (s : State), Readable s p (FLT_PEAK j) ∧ s.possesses p (FLT_PEAK j) = true) :=
  ⟨⟨.a, wPwr live fun x => { x with portInReset := [true, true] }, by decide +kernel⟩,
   ⟨.a, 0x200000, wPwr live fun x => { x with coreInReset := true }, by decide +kernel⟩,
   ⟨.a, 0x80024, 0xFFFFFFFF, live, by decide +kernel⟩,
   ⟨.a, 0x80024, 0xFFFFFFFF, unheld, by decide +kernel⟩,
   ⟨.a, 0x30100, 0x30104, live, by decide +kernel⟩,
   ⟨.a, 0x30104, 0, ({ live with portA := { live.portA with latches := [(0x30104, 0)] } } : State), by decide +kernel⟩,
   ⟨.a, live, by decide +kernel⟩,
   ⟨.a, live, by decide +kernel⟩,
   ⟨.a, live, by decide +kernel⟩,
   ⟨.a, live, by decide +kernel⟩,
   ⟨.a, live, by decide +kernel⟩,
   ⟨.a, 0, live, by decide +kernel⟩⟩

theorem witness_HostWritesAreGated :
    (∃ (p : Port) (s : State), s.portSilent p = true) ∧
    (∃ (p : Port) (off : BitVec 26) (s : State), s.portSilent p = false ∧ s.blkInReset off.toNat = false ∧ s.possesses p off.toNat = false) ∧
    (∃ (p : Port) (off : BitVec 26) (v : Word) (s : State), Reaches s p off.toNat ∧ fwOwned off.toNat v = true ∧ s.fwRuns = true) ∧
    (∃ (p : Port) (n : Fin 32) (s : State), Reaches s p (BGT_CLASS n)) ∧
    (∃ (p : Port) (g : Fin 16) (s : State), s.portSilent p = false ∧ s.pwr.coreInReset = false ∧ s.holder g = none) ∧
    (∃ (p : Port) (g : Fin 16) (h : Nat) (s : State), s.portSilent p = false ∧ s.pwr.coreInReset = false ∧ s.holder g = some h) ∧
    (∃ (g : Fin 16) (s : State), s.portSilent .a = false ∧ s.portSilent .b = false ∧ s.pwr.coreInReset = false ∧ s.holder g = none) ∧
    (∃ (p : Port) (g : Fin 16) (s : State), Reaches s p (POS_GRP g) ∧ s.holder g = some (pix p)) ∧
    (∃ (p : Port) (g : Fin 16) (s : State), s.holder g ≠ some (pix p)) :=
  ⟨⟨.a, wPwr live fun x => { x with portInReset := [true, true] }, by decide +kernel⟩,
   ⟨.a, 0x80024, unheld, by decide +kernel⟩,
   ⟨.a, 0x100024, 0, standby, by decide +kernel⟩,
   ⟨.a, 0, live, by decide +kernel⟩,
   ⟨.a, 0, unheld, by decide +kernel⟩,
   ⟨.a, 0, 0, live, by decide +kernel⟩,
   ⟨0, unheld, by decide +kernel⟩,
   ⟨.a, 0, live, by decide +kernel⟩,
   ⟨.a, 0, unheld, by decide +kernel⟩⟩

theorem witness_PortsAndFieldMemory :
    (∃ (p : Port) (s : State), s.portInReset (pix p) = false ∧ (s.port (pix p)).down = false) ∧
    (∃ (p : Port) (s : State), ((s.portInReset (pix p) = true ∨ (s.port (pix p)).down = true))) ∧
    (∃ (p : Port) (s : State), s.portInReset (pix p) = false ∧ (s.port (pix p)).down = true ∧ (s.port (pix p)).perstLow = false) ∧
    (∃ (p : Port) (s : State), (s.port (pix p)).perstLow = true) ∧
    (∃ (off : BitVec 34) (s : State), s.portSilent .a = false ∧ s.pwr.coreInReset = false ∧ ((off.toNat < 0x4000000 ∨ (0x100000000 ≤ off.toNat ∧
      off.toNat < 0x300000000 ∧ s.pwr.ddrReady = true))) ∧ s.bar2Protected off.toNat = false) ∧
    (∃ (off : BitVec 34) (s : State), s.portSilent .a = false ∧ s.pwr.coreInReset = false ∧ ((off.toNat < 0x4000000 ∨ (0x100000000 ≤ off.toNat ∧
      off.toNat < 0x300000000 ∧ s.pwr.ddrReady = true))) ∧ s.bar2Protected off.toNat = true) ∧
    (∃ (off : BitVec 34) (s : State), 0x100000000 ≤ off.toNat ∧ s.pwr.ddrReady = false) :=
  ⟨⟨.a, live, by decide +kernel⟩,
   ⟨.a, State.reset, by decide +kernel⟩,
   ⟨.a, ({ live with portA := { live.portA with down := true } } : State), by decide +kernel⟩,
   ⟨.a, State.reset, by decide +kernel⟩,
   ⟨0x200000000, live, by decide +kernel⟩,
   ⟨0, live, by decide +kernel⟩,
   ⟨0x100000000, State.reset, by decide +kernel⟩⟩

theorem witness_DmaQueues :
    (∃ (p : Port) (q : Fin 32) (v : BitVec 16) (s : State), s.portSilent p = false ∧ v.toNat < s.queueSize (pix p) q) ∧
    (∃ (p : Port) (q : Fin 32) (v : BitVec 16) (s : State), s.portSilent p = false ∧ s.queueSize (pix p) q ≤ v.toNat) ∧
    (∃ (p : Port) (q : Fin 32) (s : State), s.portSilent p = false ∧ s.fld (DMA_Q_STATUS_STATE (pix p) q) < 2) ∧
    (let Idle := (fun (s : State) (p : Port) (q : Fin 32) => s.queueBusy (pix p) q = false); ∃ (p : Port) (q : Fin 32) (s : State), s.portSilent p =
      false ∧ ¬Idle s p q) ∧
    (let Idle := (fun (s : State) (p : Port) (q : Fin 32) => s.queueBusy (pix p) q = false); ∃ (p : Port) (q : Fin 32) (s : State), s.portSilent p =
      false ∧ Idle s p q ∧ s.fld (DMA_Q_STATUS_STATE (pix p) q) < 2) ∧
    (let Idle := (fun (s : State) (p : Port) (q : Fin 32) => s.queueBusy (pix p) q = false); ∃ (p : Port) (q : Fin 32) (s : State), s.portSilent p =
      false ∧ Idle s p q) ∧
    (let Idle := (fun (s : State) (p : Port) (q : Fin 32) => s.queueBusy (pix p) q = false); ∃ (p : Port) (q : Fin 32) (s : State), s.portSilent p =
      false ∧ ¬Idle s p q) ∧
    (∃ (p : Port) (q : Fin 32) (d : BitVec 128) (i : DmaItem) (rest : List DmaItem) (addr : Nat) (len : Nat) (irq : Bool) (s : State), takeItem (pix
      p) q s.dma.ready = some (i, rest) ∧ s.queueOpen (pix p) q = true ∧ s.flag (DMA_Q_CFG_DIR (pix p) q) = false ∧ readDesc d = (addr, len, irq,
      true)) ∧
    (let Idle := (fun (s : State) (p : Port) (q : Fin 32) => s.queueBusy (pix p) q = false); ∃ (p : Port) (q : Fin 32) (i : DmaItem) (rest : List
      DmaItem) (s : State), Idle s p q ∧ takeItem (pix p) q s.dma.ready = some (i, rest) ∧ ((s.queueOpen (pix p) q = false ∨ s.flag (DMA_Q_CFG_DIR
      (pix p) q) = true))) ∧
    (∃ (p : Port) (q : Fin 32) (b : DmaBusy) (s : State), s.dma.busy = [(32 * pix p + q.val, b)] ∧ b.item.data.length ≤ b.length ∧ b.irq = false ∧
      s.dma.resetWaiting = [] ∧ s.queueSize (pix p) q ≤ 65536) ∧
    (∃ (p : Port) (q : Fin 32) (b : DmaBusy) (s : State), s.dma.busy = [(32 * pix p + q.val, b)] ∧ s.dma.resetWaiting = []) ∧
    (∃ (p : Port) (q : Fin 32) (b : DmaBusy) (s : State), s.dma.busy = [(32 * pix p + q.val, b)] ∧ s.dma.resetWaiting = [32 * pix p + q.val]) :=
  ⟨⟨.a, 0, 0, live, by decide +kernel⟩,
   ⟨.a, 0, 0x10, live, by decide +kernel⟩,
   ⟨.a, 0, live, by decide +kernel⟩,
   ⟨.a, 0, wDma live fun d => { d with busy := [(0, busy0)] }, by decide +kernel⟩,
   ⟨.a, 0, live, by decide +kernel⟩,
   ⟨.a, 0, live, by decide +kernel⟩,
   ⟨.a, 0, wDma live fun d => { d with busy := [(0, busy0)] }, by decide +kernel⟩,
   ⟨.a, 0, 0x10000000000000000, item0, [], 0, 1, false, (wDma openQueue fun d => { d with ready := [item0] }).setFlag (DMA_Q_CFG_DIR 0 0) false,
     by decide +kernel⟩,
   ⟨.a, 0, item0, [], wDma live fun d => { d with ready := [item0] }, by decide +kernel⟩,
   ⟨.a, 0, busy0, wDma live fun d => { d with busy := [(0, busy0)] }, by decide +kernel⟩,
   ⟨.a, 0, busy0, wDma live fun d => { d with busy := [(0, busy0)] }, by decide +kernel⟩,
   ⟨.a, 0, busy0, wDma live fun d => { d with busy := [(0, busy0)], resetWaiting := [0] }, by decide +kernel⟩⟩

theorem witness_EventRings :
    (∃ (p : Port) (s : State), s.portSilent p = false ∧ s.flag (EVT_RING_CFG_ENABLE (pix p)) = false) ∧
    (∃ (p : Port) (s : State), s.portSilent p = false) ∧
    (∃ (p : Port) (s : State), s.portSilent p = false) ∧
    (∃ (p : Nat) (src : Nat) (s : State), p < 2 ∧ src < 256 ∧ s.flag (EVT_RING_CFG_ENABLE p) = true ∧ s.bit (EVT_MASK p (src / 32)) (src % 32) =
      false) :=
  ⟨⟨.a, live, by decide +kernel⟩,
   ⟨.a, live, by decide +kernel⟩,
   ⟨.a, live, by decide +kernel⟩,
   ⟨0, 0, live.setFlag (EVT_RING_CFG_ENABLE 0) true, by decide +kernel⟩⟩

theorem witness_EventTestStaysOnItsPort :
    (∃ (p : Port) (s : State), s.portSilent p = false) :=
  ⟨.a, live, by decide +kernel⟩

theorem witness_Mailboxes :
    (∃ (p : Port) (k : Fin 4) (hdr : Word) (l : List Word) (s : State), s.portSilent p = false ∧ s.flag (MBX_OB_STATUS_FULL (pix p) k) = false ∧
      hdrLen hdr ≤ 63 ∧ l.length ≤ 63) ∧
    (∃ (p : Port) (k : Fin 4) (hdr : Word) (s : State), s.portSilent p = false ∧ s.flag (MBX_OB_STATUS_FULL (pix p) k) = false ∧ 63 < hdrLen hdr) ∧
    (∃ (p : Port) (k : Fin 4) (s : State), s.portSilent p = false ∧ s.flag (MBX_OB_STATUS_FULL (pix p) k) = true) ∧
    (∃ (p : Port) (k : Fin 4) (hdr : Word) (l : List Word) (s : State), s.fwRuns = true ∧ s.portInReset (pix p) = false ∧ s.flag (MBX_IB_STATUS_FULL
      (pix p) k) = false ∧ hdrLen hdr ≤ 63 ∧ l.length ≤ 63) ∧
    (∃ (p : Port) (k : Fin 4) (s : State), s.flag (MBX_IB_STATUS_FULL (pix p) k) = true) ∧
    (∃ (p : Port) (k : Fin 4) (s : State), s.portSilent p = false ∧ s.flag (MBX_IB_STATUS_FULL (pix p) k) = true) ∧
    (∃ (p : Port) (k : Fin 4) (s : State), s.portSilent p = false ∧ s.flag (MBX_IB_STATUS_FULL (pix p) k) = false) ∧
    (∃ (p : Port) (s : State), s.portSilent p = true) :=
  ⟨⟨.a, 0, 0, [], live, by decide +kernel⟩,
   ⟨.a, 0, 64, live, by decide +kernel⟩,
   ⟨.a, 0, live.setFlag (MBX_OB_STATUS_FULL 0 0) true, by decide +kernel⟩,
   ⟨.a, 0, 0, [], standby, by decide +kernel⟩,
   ⟨.a, 0, live.setFlag (MBX_IB_STATUS_FULL 0 0) true, by decide +kernel⟩,
   ⟨.a, 0, live.setFlag (MBX_IB_STATUS_FULL 0 0) true, by decide +kernel⟩,
   ⟨.a, 0, live, by decide +kernel⟩,
   ⟨.a, State.reset, by decide +kernel⟩⟩

theorem witness_LoadsAreTakenOneAtATime :
    (∃ (p : Port) (s : State), ReachesOwned s p MBX_FW_LOAD ∧ s.fw.loading.isSome = true) ∧
    (∃ (qa : Fin 32) (qb : Fin 32) (da : BitVec 128) (db : BitVec 128) (addr : Nat) (len : Nat) (irq : Bool) (s : State), let w := (s.fld
      POS_TIE_NEXT); let q := (if w = 0 then qa else qb); ReachesOwned s .a MBX_FW_LOAD ∧ ReachesOwned s .b MBX_FW_LOAD ∧ s.fw.loading = none ∧
      s.queueOpen w q = true ∧ s.flag (DMA_Q_CFG_DIR w q) = true ∧ (readDesc (if w = 0 then da else db) = (addr, len, irq, true))) ∧
    (∃ (p : Port) (s : State), Reaches s p MBX_FW_LOAD ∧ s.fwRuns = true) :=
  ⟨⟨.a, wFw live fun f => { f with loading := some (0, 0, 0, false) }, by decide +kernel⟩,
   ⟨0, 0, 0x10000000000000000, 0, 0, 1, false, inQueue, by decide +kernel⟩,
   ⟨.a, standby, by decide +kernel⟩⟩

theorem witness_FirmwareLoadsAndRestarts :
    (∃ (p : Port) (q : Fin 32) (d : BitVec 128) (addr : Nat) (len : Nat) (irq : Bool) (s : State), ReachesOwned s p MBX_FW_LOAD ∧ s.fw.loading = none
      ∧ s.queueOpen (pix p) q = true ∧ s.flag (DMA_Q_CFG_DIR (pix p) q) = true ∧ readDesc d = (addr, len, irq, true)) ∧
    (∃ (p : Port) (q : Fin 32) (s : State), ReachesOwned s p MBX_FW_LOAD ∧ s.fw.loading = none ∧ s.queueOpen (pix p) q = false) ∧
    (∃ (p : Nat) (q : Nat) (len : Nat) (irq : Bool) (s : State), s.fwCode = 1 ∧ s.fw.loading = some (p, q, len, irq) ∧ p < 2 ∧ q < 32) ∧
    (∃ (p : Nat) (q : Nat) (len : Nat) (irq : Bool) (s : State), s.fwCode = 1 ∧ s.fw.loading = some (p, q, len, irq) ∧ p < 2 ∧ q < 32 ∧
      s.dma.consuming.contains (32 * p + q) = true) ∧
    (∃ (s : State), s.fwRuns = true ∧ s.pwr.mgmtInReset = false) ∧
    (∃ (s : State), s.fwRuns = false) ∧
    (∃ (s : State), s.pwr.mgmtInReset = false) ∧
    (∃ (s : State), s.pwr.mgmtInReset = false) :=
  ⟨⟨.a, 0, 0x10000000000000000, 0, 1, false, inQueue, by decide +kernel⟩,
   ⟨.a, 0, live, by decide +kernel⟩,
   ⟨0, 0, 1, false, wFw live fun f => { f with loading := some (0, 0, 1, false) }, by decide +kernel⟩,
   ⟨0, 0, 1, false, wDma (wFw live fun f => { f with loading := some (0, 0, 1, false) }) fun d => { d with consuming := [0] }, by decide +kernel⟩,
   ⟨standby, by decide +kernel⟩,
   ⟨live, by decide +kernel⟩,
   ⟨live, by decide +kernel⟩,
   ⟨live, by decide +kernel⟩⟩

theorem witness_CommandsAreJudged :
    (∃ (s : State) (p : Port) (k : Fin 4), ¬Offered s p k (CmdSpec.plain 0x0101 0)) ∧
    (∃ (s : State) (p : Port) (k : Fin 4), let c := CmdSpec.plain 0x0101 0; Offered s p k c ∧ c.lenOk (s.payload p k) = false) ∧
    (∃ (s : State) (p : Port) (k : Fin 4), Offered s p k commitSpec ∧ commitSpec.lenOk (s.payload p k) = true ∧ reservedSet 1 commitSpec.reserved
      (s.payload p k) = some 1) ∧
    (∃ (s : State) (p : Port) (k : Fin 4), let w := s.payload p k; Offered s p k calTargetSpec ∧ calTargetSpec.lenOk w = true ∧ reservedSet 1
      calTargetSpec.reserved w = none ∧ calTargetSpec.range w = some 9) ∧
    (∃ (s : State) (p : Port) (k : Fin 4), let w := s.payload p k; Offered s p k armSpec ∧ armSpec.lenOk w = true ∧ reservedSet 1 armSpec.reserved w =
      none ∧ armSpec.range w = none ∧ s.fwCode ∉ armSpec.states) ∧
    (∃ (s : State) (p : Port) (k : Fin 4), let w := s.payload p k; Offered s p k spinUpSpec ∧ spinUpSpec.lenOk w = true ∧ reservedSet 1
      spinUpSpec.reserved w = none ∧ spinUpSpec.range w = none ∧ s.fwCode ∈ spinUpSpec.states ∧ s.runningOf spinUpSpec.kind = some 0x0307) ∧
    (∃ (s : State) (p : Port) (k : Fin 4), let w := s.payload p k; Offered s p k setLocksSpec ∧ setLocksSpec.lenOk w = true ∧ reservedSet 1
      setLocksSpec.reserved w = none ∧ setLocksSpec.range w = none ∧ s.fwCode ∈ setLocksSpec.states ∧ s.runningOf setLocksSpec.kind = none ∧
      s.heldByOther (pix p) (setLocksSpec.groups w) ≠ 0) :=
  ⟨⟨live, .a, 0, by decide +kernel⟩,
   ⟨mail live 2 0x0101 [0], .a, 0, by decide +kernel⟩,
   ⟨mail live 2 0x0204 [0x20], .a, 0, by decide +kernel⟩,
   ⟨mail live 2 0x0504 (List.replicate 9 0), .a, 0, by decide +kernel⟩,
   ⟨mail live 3 0x0305 [], .a, 0, by decide +kernel⟩,
   ⟨mail (wFw live fun f => { f with longs := [{ long0 0x0307 0 with mbx := 1 }] }) 2 0x0301 [0], .a, 0, by decide +kernel⟩,
   ⟨mail (live.setFld (POS_PEEK_HOLDER 15) 1) 2 0x0806 [0], .a, 0, by decide +kernel⟩⟩

theorem witness_QueriesReplyWithTheState :
    (∃ (p : Port) (k : Fin 4) (s : State), Accepted s p k (CmdSpec.plain 0x0101 0)) ∧
    (∃ (p : Port) (k : Fin 4) (s : State), Accepted s p k { CmdSpec.plain 0x0102 0 with lenOk := fun w => decide (w.length ≤ 63) }) ∧
    (∃ (p : Port) (k : Fin 4) (s : State), Accepted s p k (CmdSpec.plain 0x0104 0)) ∧
    (∃ (p : Port) (k : Fin 4) (s : State), Accepted s p k regReadSpec) ∧
    (∃ (p : Port) (k : Fin 4) (s : State), Accepted s p k elementQuerySpec) ∧
    (∃ (p : Port) (k : Fin 4) (i : Nat) (j : Nat) (s : State), Accepted s p k (CmdSpec.plain 0x0701 0) ∧ s.hottestOf ((zoneTherms false).filter (fun i
      => (s.therm i).started && !s.thermFailed i)) = some i ∧ s.hottestOf ((zoneTherms true).filter (fun i => (s.therm i).started && !s.thermFailed
      i)) = some j) ∧
    (∃ (p : Port) (k : Fin 4) (s : State), Accepted s p k (CmdSpec.plain 0x0805 12) ∧ s.flag SEC_STATUS_ID_VALID = true) ∧
    (∃ (p : Port) (k : Fin 4) (s : State), Accepted s p k (CmdSpec.plain 0x0805 12) ∧ s.flag SEC_STATUS_ID_VALID = false) ∧
    (∃ (p : Port) (k : Fin 4) (s : State), Accepted s p k (CmdSpec.plain 0x0901 0)) ∧
    (∃ (p : Port) (k : Fin 4) (s : State), Accepted s p k fwLogSpec) :=
  ⟨⟨.a, 0, mail live 2 0x0101 [], by decide +kernel⟩,
   ⟨.a, 0, mail live 2 0x0102 [], by decide +kernel⟩,
   ⟨.a, 0, mail live 2 0x0104 [], by decide +kernel⟩,
   ⟨.a, 0, mail live 2 0x0202 [0x80000], by decide +kernel⟩,
   ⟨.a, 0, mail live 2 0x0602 [0], by decide +kernel⟩,
   ⟨.a, 0, 0, 24, mail (wThm live fun t => { t with therms := [(0, { Therm.init with started := true }), (24, { Therm.init with started := true })] }) 2 0x0701 [],
     by decide +kernel⟩,
   ⟨.a, 0, mail (live.setFlag SEC_STATUS_ID_VALID true) 2 0x0805 (List.replicate 12 0), by decide +kernel⟩,
   ⟨.a, 0, mail live 2 0x0805 (List.replicate 12 0), by decide +kernel⟩,
   ⟨.a, 0, mail live 2 0x0901 [], by decide +kernel⟩,
   ⟨.a, 0, mail live 2 0x0A02 [0], by decide +kernel⟩⟩

theorem witness_SettingsCommands :
    (∃ (p : Port) (k : Fin 4) (n : Fin 32) (m : Fin 32) (v : Word) (w : Word) (s : State), Accepted s p k regWriteSpec ∧ s.pwr.coreInReset = false ∧ n
      ≠ m ∧ s.payload p k = [BitVec.ofNat 32 (BGT_CLASS n), v, BitVec.ofNat 32 (BGT_CLASS m), w] ∧ s.stateBars (BGT_CLASS n) = false ∧ s.stateBars
      (BGT_CLASS m) = false) ∧
    (∃ (p : Port) (k : Fin 4) (n : Fin 32) (v : Word) (o : Word) (w : Word) (s : State), Accepted s p k regWriteSpec ∧ s.pwr.coreInReset = false ∧
      s.payload p k = [BitVec.ofNat 32 (BGT_CLASS n), v, o, w] ∧ s.stateBars (BGT_CLASS n) = false ∧ s.stateBars o.toNat = true ∧ fwOwned o.toNat w =
      false) ∧
    (∃ (p : Port) (k : Fin 4) (s : State), Accepted s p k scanProfileSpec ∧ s.pwr.emissionInReset = false ∧ (((s.serving p k).writeProfile (s.payload
      p k)).fwDo SHT_COMMIT 3).refused = none) ∧
    (∃ (p : Port) (k : Fin 4) (e : Word) (s : State), Accepted s p k scanProfileSpec ∧ s.pwr.emissionInReset = false ∧ (((s.serving p k).writeProfile
      (s.payload p k)).fwDo SHT_COMMIT 3).refused = some e) ∧
    (∃ (p : Port) (k : Fin 4) (mode : Bool) (s : State), Accepted s p k commitSpec ∧ s.pwr.emissionInReset = false ∧ s.fwCode ≠ 7 ∧ s.payload p k =
      [BitVec.ofNat 32 (4 + 256 * b2n mode)] ∧ programCheck (s.shadowSet programSpans) (s.spMaxFor (fldIn (s.shadowSet programSpans)
      SHT_CFG_LINES)).toNat (s.fld EMT_TRIG_CFG_TRIG_W) (s.fld EMT_TRIG_CFG_COL_HOLD) = none) ∧
    (∃ (p : Port) (k : Fin 4) (s : State), Accepted s p k loopProfileSpec ∧ s.closedSlots (arg (s.payload p k) 1) = 0) ∧
    (∃ (p : Port) (k : Fin 4) (s : State), Accepted s p k loopProfileSpec ∧ s.closedSlots (arg (s.payload p k) 1) ≠ 0) ∧
    (∃ (p : Port) (k : Fin 4) (s : State), Accepted s p k (imgSetupSpec p k s) ∧ s.pwr.coreInReset = false ∧ arg (s.payload p k) 10 % 2 = 0) ∧
    (∃ (p : Port) (k : Fin 4) (s : State), Accepted s p k (ispSetupSpec p k s) ∧ s.pwr.coreInReset = false ∧ arg (s.payload p k) 17 % 2 = 0) ∧
    (∃ (p : Port) (k : Fin 4) (on : Bool) (s : State), Accepted s p k imgEnableSpec ∧ s.pwr.coreInReset = false ∧ s.payload p k = [BitVec.ofNat 32
      (b2n on)] ∧ ((on = true → s.flag ISP_STATUS_REPROC_BUSY = false))) ∧
    (∃ (p : Port) (k : Fin 4) (s : State), Accepted s p k captureSpec ∧ s.pwr.coreInReset = false ∧ s.flag IMG_CTRL_ENABLE = false ∧ s.isp.capture =
      none ∧ ((s.serving p k).fwDo ISP_MEM_BASE ((s.payload p k).getD 0 0)).regionBad (4 * s.linesInForce * s.recordBytes) = false) ∧
    (∃ (p : Port) (k : Fin 4) (s : State), Accepted s p k captureSpec ∧ s.pwr.coreInReset = false ∧ s.flag IMG_CTRL_ENABLE = true) ∧
    (∃ (p : Port) (k : Fin 4) (s : State), Accepted s p k reprocessSpec ∧ s.pwr.coreInReset = false ∧ s.flag IMG_CTRL_ENABLE = false ∧ s.isp.reproc =
      none ∧ arg (s.payload p k) 2 ≠ 0 ∧ ((s.serving p k).fwDo ISP_MEM_BASE ((s.payload p k).getD 0 0)).regionBad (arg (s.payload p k) 2 *
      s.recordBytes) = false) ∧
    (∃ (p : Port) (k : Fin 4) (s : State), Accepted s p k sendOffSpec ∧ (elementOf (s.payload p k)).1 < 3) ∧
    (∃ (p : Port) (k : Fin 4) (s : State), Accepted s p k lineupFactorySpec) ∧
    (∃ (p : Port) (k : Fin 4) (s : State), Accepted s p k setFloorSpec ∧ s.pwr.thmInReset = false ∧ 0 < s.fld ⟨THM_STEP_CFG, 15, 8⟩ ∧ 0 < s.fld
      ⟨THM_STEP_CFG, 23, 16⟩) ∧
    (∃ (p : Port) (k : Fin 4) (s : State), Accepted s p k retestSpec ∧ s.pwr.thmInReset = false) :=
  ⟨⟨.a, 0, 0, 1, 0, 0, mail live 2 0x0201 [BitVec.ofNat 32 (BGT_CLASS 0), 0, BitVec.ofNat 32 (BGT_CLASS 1), 0], by decide +kernel⟩,
   ⟨.a, 0, 0, 0, BitVec.ofNat 32 EMT_MON_CFG, 0, mail live 4 0x0201 [BitVec.ofNat 32 (BGT_CLASS 0), 0, BitVec.ofNat 32 EMT_MON_CFG, 0],
     by decide +kernel⟩,
   ⟨.a, 0, mail live 2 0x0203 [0x04000400, 0x101, 0x1000], by decide +kernel⟩,
   ⟨.a, 0, 0x01000000, mail live 2 0x0203 [0, 0x101, 0], by decide +kernel⟩,
   ⟨.a, 0, false, mail live 2 0x0204 [4], by decide +kernel⟩,
   ⟨.a, 0, mail live 2 0x0205 [0], by decide +kernel⟩,
   ⟨.a, 0, mail (live.setFlag (CTL_SLOT_CTRL_CLOSE 0) true) 2 0x0205 [1], by decide +kernel⟩,
   ⟨.a, 0, mail live 2 0x0401 (List.replicate 10 0), by decide +kernel⟩,
   ⟨.a, 0, mail live 2 0x0405 (List.replicate 17 0), by decide +kernel⟩,
   ⟨.a, 0, true, mail live 2 0x0402 [1], by decide +kernel⟩,
   ⟨.a, 0, mail live 2 0x0403 [0x100], by decide +kernel⟩,
   ⟨.a, 0, mail (live.setFlag IMG_CTRL_ENABLE true) 2 0x0403 [0x100], by decide +kernel⟩,
   ⟨.a, 0, mail live 2 0x0404 [0x100, 1], by decide +kernel⟩,
   ⟨.a, 0, mail live 2 0x0601 [0], by decide +kernel⟩,
   ⟨.a, 0, mail live 2 0x0603 [], by decide +kernel⟩,
   ⟨.a, 0, mail live 2 0x0702 [0], by decide +kernel⟩,
   ⟨.a, 0, mail live 2 0x0703 [0], by decide +kernel⟩⟩

theorem witness_ScanAndSafetyCommands :
    (∃ (p : Port) (k : Fin 4) (s : State), (Accepted s p k { CmdSpec.plain 0x0103 1 with range := fun w => if arg w 1 = 0xA55A then none else some 1
      }) ∧ s.pwr.mgmtInReset = false) ∧
    (∃ (p : Port) (k : Fin 4) (s : State), Accepted s p k spinUpSpec ∧ s.pwr.coreInReset = false ∧ s.flag CTL_STATUS_LOCK = false ∧ ((∀ n < 4, s.plant
      n ≠ 0))) ∧
    (∃ (p : Port) (k : Fin 4) (s : State), Accepted s p k spinUpSpec ∧ s.flag CTL_STATUS_LOCK = true) ∧
    (∃ (p : Port) (k : Fin 4) (l : LongCmd) (t : Nat) (ts : List Nat) (s : State), s.longAt (pix p) k = some l ∧ l.code = 0x0301 ∧ l.phase = 0 ∧
      l.notes = t :: ts ∧ s.fld (CTL_SLOT_CTRL_MODE 0) ≠ 1 ∧ s.heldByOther l.port (2 ^ 11) = 0) ∧
    (∃ (p : Port) (k : Fin 4) (s : State), Accepted s p k spinDownSpec ∧ s.polygonClosed = true) ∧
    (∃ (p : Port) (k : Fin 4) (s : State), Accepted s p k runStartSpec ∧ s.pwr.emissionInReset = false ∧ s.pwr.coreInReset = false ∧ s.running = false
      ∧ (((arg (s.payload p k) 2).testBit 0 = true → s.flag DET_STATUS_HV_OK = true)) ∧ (((arg (s.payload p k) 3).testBit 31 = true → s.fld SHT_GEN_V
      = arg (s.payload p k) 3 % 65536))) ∧
    (∃ (p : Port) (k : Fin 4) (s : State), Accepted s p k runStartSpec ∧ (arg (s.payload p k) 3).testBit 31 = true ∧ s.fld SHT_GEN_V ≠ arg (s.payload
      p k) 3 % 65536) ∧
    (∃ (p : Port) (k : Fin 4) (s : State), Accepted s p k runStopSpec ∧ s.pwr.emissionInReset = false ∧ s.running = true ∧ ((∀ l ∈ s.fw.longs, l.code
      ≠ 0x0504))) ∧
    (∃ (p : Port) (k : Fin 4) (s : State), Accepted s p k runAbortSpec ∧ s.pwr.emissionInReset = false ∧ s.running = true) ∧
    (∃ (p : Port) (k : Fin 4) (s : State), Accepted s p k armSpec ∧ s.pwr.emissionInReset = false ∧ s.armMissing = 0) ∧
    (∃ (p : Port) (k : Fin 4) (s : State), Accepted s p k armSpec ∧ s.armMissing ≠ 0) ∧
    (∃ (p : Port) (k : Fin 4) (s : State), Accepted s p k disarmSpec ∧ s.pwr.emissionInReset = false) ∧
    (∃ (p : Port) (k : Fin 4) (x : RearmChecks) (s : State), Accepted s p k emitterRearmSpec ∧ s.pwr.emissionInReset = false ∧ s.flag
      EMT_FAULT_LATCHED = true ∧ x.emonHigh = true ∧ firstFlag x.flags = none ∧ ((s.flag EMT_FAULT_CUR_VERIFY = true → x.codes = s.emt.codes)) ∧
      ((s.flag EMT_FAULT_EYE_PARITY = true → x.parityOk = true))) ∧
    (∃ (p : Port) (k : Fin 4) (s : State), Accepted s p k emitterRearmSpec ∧ s.flag EMT_FAULT_LATCHED = false) ∧
    (∃ (p : Port) (k : Fin 4) (s : State), Accepted s p k setLocksSpec ∧ s.pwr.coreInReset = false) ∧
    (∃ (p : Port) (k : Fin 4) (s : State), Accepted s p k setResponseSpec) ∧
    (∃ (p : Port) (k : Fin 4) (s : State), Accepted s p k safetyClearSpec ∧ s.pwr.coreInReset = false ∧ s.sec.ilkA ≠ s.sec.ilkB ∧ s.landsMatch = true) ∧
    (∃ (p : Port) (k : Fin 4) (s : State), Accepted s p k safetyClearSpec ∧ (arg (s.payload p k) 1).testBit 0 = true ∧ s.sec.ilkA = s.sec.ilkB) ∧
    (∃ (p : Port) (k : Fin 4) (s : State), Accepted s p k faultForceSpec ∧ s.pwr.coreInReset = false) ∧
    (∃ (p : Port) (k : Fin 4) (s : State), Accepted s p k serveNonceSpec ∧ s.pwr.emissionInReset = false) ∧
    (∃ (p : Port) (k : Fin 4) (s : State), Accepted s p k timeSourceSpec ∧ s.pwr.coreInReset = false) ∧
    (∃ (p : Port) (k : Fin 4) (s : State), Accepted s p k servePhaseSpec ∧ s.pwr.emissionInReset = false ∧ s.linksUp = 0 ∧ s.flag
      CHN_STATUS_COORDINATED = false) ∧
    (∃ (p : Port) (k : Fin 4) (s : State), Accepted s p k servePhaseSpec ∧ s.linksUp ≠ 0) :=
  ⟨⟨.a, 0, mail live 2 0x0103 [0xA55A], by decide +kernel⟩,
   ⟨.a, 0, mail ((((live.setFld (CTL_SLOT_CFG_PLANT 0) 1).setFld (CTL_SLOT_CFG_PLANT 1) 1).setFld (CTL_SLOT_CFG_PLANT 2) 1).setFld (CTL_SLOT_CFG_PLANT 3) 2) 2 0x0301 [0],
     by decide +kernel⟩,
   ⟨.a, 0, mail (live.setFlag CTL_STATUS_LOCK true) 2 0x0301 [0], by decide +kernel⟩,
   ⟨.a, 0, { long0 0x0301 0 with notes := [1] }, 1, [], holding { long0 0x0301 0 with notes := [1] }, by decide +kernel⟩,
   ⟨.a, 0, mail (live.setFlag (CTL_SLOT_CTRL_CLOSE 0) true) 2 0x0307 [], by decide +kernel⟩,
   ⟨.a, 0, mail live 3 0x0302 [1, 0, 0], by decide +kernel⟩,
   ⟨.a, 0, mail live 3 0x0302 [1, 0, 0x80000005], by decide +kernel⟩,
   ⟨.a, 0, mail (live.setFlag SHT_STATUS_RUNNING true) 4 0x0303 [], by decide +kernel⟩,
   ⟨.a, 0, mail (live.setFlag SHT_STATUS_RUNNING true) 4 0x0304 [], by decide +kernel⟩,
   ⟨.a, 0, mail ((((live.setFlag CAL_STATUS_IMPORTED true).setFlag EMT_EYE_CFG_LOCK true).setBit SEC_KEY_STATUS 0 true).setBit SEC_KEY_STATUS 1 true |>.setFlag SHT_STATUS_NONCE_SET true) 2 0x0305 [],
     by decide +kernel⟩,
   ⟨.a, 0, mail live 2 0x0305 [], by decide +kernel⟩,
   ⟨.a, 0, mail live 3 0x0306 [], by decide +kernel⟩,
   ⟨.a, 0, checks0, mail (live.setFlag EMT_FAULT_LATCHED true) 7 0x0308 [], by decide +kernel⟩,
   ⟨.a, 0, mail live 7 0x0308 [], by decide +kernel⟩,
   ⟨.a, 0, mail live 2 0x0806 [0], by decide +kernel⟩,
   ⟨.a, 0, mail live 2 0x0807 [0], by decide +kernel⟩,
   ⟨.a, 0, mail (wSec live fun x => { x with ilkA := true, ilkB := false }) 2 0x0808 [3], by decide +kernel⟩,
   ⟨.a, 0, mail (wSec live fun x => { x with ilkA := true, ilkB := true }) 2 0x0808 [1], by decide +kernel⟩,
   ⟨.a, 0, mail live 2 0x0809 [1], by decide +kernel⟩,
   ⟨.a, 0, mail live 2 0x080B [0, 0], by decide +kernel⟩,
   ⟨.a, 0, mail live 2 0x0902 [1], by decide +kernel⟩,
   ⟨.a, 0, mail live 2 0x0903 [0], by decide +kernel⟩,
   ⟨.a, 0, mail (wNet live fun n => { n with link0 := upLink }) 2 0x0903 [0], by decide +kernel⟩⟩

theorem witness_TransferAndKeyCommands :
    (∃ (p : Port) (k : Fin 4) (s : State), Accepted s p k calExportSpec ∧ s.pwr.coreInReset = false ∧ s.flag CAL_STATUS_BUSY = false ∧ s.flag
      CAL_STATUS_RESEL_BUSY = false) ∧
    (∃ (p : Port) (k : Fin 4) (s : State), Accepted s p k calExportSpec ∧ s.pwr.coreInReset = false ∧ ((s.flag CAL_STATUS_BUSY = true ∨ s.flag
      CAL_STATUS_RESEL_BUSY = true))) ∧
    (∃ (p : Port) (k : Fin 4) (d : BitVec 128) (addr : Nat) (irq : Bool) (s : State), Accepted s p k calImportSpec ∧ s.pwr.coreInReset = false ∧
      s.flag CAL_STATUS_BUSY = false ∧ s.flag CAL_STATUS_RESEL_BUSY = false ∧ s.queueOpen (pix p) (arg (s.payload p k) 1) = true ∧ s.flag
      (DMA_Q_CFG_DIR (pix p) (arg (s.payload p k) 1)) = true ∧ readDesc d = (addr, 110592, irq, true)) ∧
    (∃ (p : Port) (k : Fin 4) (s : State), Accepted s p k calReselectSpec ∧ s.pwr.coreInReset = false ∧ s.reselEligible ((s.payload p k).getD 0 0 >>>
      28).toNat (((s.payload p k).getD 0 0).toNat % 4096) = true) ∧
    (∃ (p : Port) (k : Fin 4) (s : State), Accepted s p k calTargetSpec ∧ s.pwr.emissionInReset = false ∧ arg (s.payload p k) 1 ≠ 5 ∧ s.targetMissing
      = 0 ∧ s.running = false) ∧
    (∃ (p : Port) (k : Fin 4) (s : State), Accepted s p k calTargetSpec ∧ arg (s.payload p k) 1 = 5) ∧
    (∃ (p : Port) (k : Fin 4) (s : State), Accepted s p k calTargetSpec ∧ arg (s.payload p k) 1 ≠ 5 ∧ s.targetMissing ≠ 0) ∧
    (∃ (p : Port) (k : Fin 4) (s : State), Accepted s p k emissionResetSpec ∧ s.pwr.emissionInReset = false) ∧
    (∃ (p : Port) (k : Fin 4) (op : Fin 2) (s : State), let slot := (arg (s.payload p k) 1); (Accepted s p k (if op = 0 then keyLoadSpec else
      keyUnwrapSpec)) ∧ s.pwr.coreInReset = false ∧ s.keyCmdCode op slot true = 0) ∧
    (∃ (p : Port) (k : Fin 4) (op : Fin 2) (s : State), (Accepted s p k (if op = 0 then keyLoadSpec else keyUnwrapSpec)) ∧ s.pwr.coreInReset = false ∧
      s.keyCmdCode op (arg (s.payload p k) 1) true ≠ 0) ∧
    (∃ (p : Port) (k : Fin 4) (s : State), Accepted s p k keyZeroSpec ∧ s.flag SEC_KEY_STATUS_BUSY = false) ∧
    (∃ (p : Port) (k : Fin 4) (x : Nat) (y : Nat) (kek : List Byte) (s : State), Accepted s p k keyAgreeSpec ∧ s.pwr.coreInReset = false ∧ x =
      coordinate (wordsToBytes (s.payload p k)) 0 ∧ y = coordinate (wordsToBytes (s.payload p k)) 48 ∧ onCurve (x, y) = true ∧ s.flag
      SEC_STATUS_ID_VALID = true ∧ s.agreedKek x y = some kek ∧ s.flag SEC_KEY_STATUS_BUSY = false ∧ s.emt.redCard = false) ∧
    (∃ (p : Port) (k : Fin 4) (x : Nat) (y : Nat) (s : State), Accepted s p k keyAgreeSpec ∧ x = coordinate (wordsToBytes (s.payload p k)) 0 ∧ y =
      coordinate (wordsToBytes (s.payload p k)) 48 ∧ onCurve (x, y) = false) ∧
    (∃ (p : Port) (k : Fin 4) (d : BitVec 128) (img : List Byte) (addr : Nat) (len : Nat) (irq : Bool) (s : State), Accepted s p k kernelLoadSpec ∧
      s.keyValid 2 = true ∧ s.queueOpen (pix p) (arg (s.payload p k) 1) = true ∧ s.flag (DMA_Q_CFG_DIR (pix p) (arg (s.payload p k) 1)) = true ∧
      readDesc d = (addr, len, irq, true) ∧ s.kernelRefusal (img.take len) len = none ∧ s.grid.running = true) ∧
    (∃ (p : Port) (k : Fin 4) (d : BitVec 128) (img : List Byte) (addr : Nat) (len : Nat) (st : Nat) (w : Nat) (irq : Bool) (s : State), Accepted s p
      k kernelLoadSpec ∧ s.keyValid 2 = true ∧ s.queueOpen (pix p) (arg (s.payload p k) 1) = true ∧ s.flag (DMA_Q_CFG_DIR (pix p) (arg (s.payload p k)
      1)) = true ∧ readDesc d = (addr, len, irq, true) ∧ s.kernelRefusal (img.take len) len = some (st, w)) ∧
    (∃ (p : Port) (k : Fin 4) (s : State), Accepted s p k kernelLoadSpec ∧ s.keyValid 2 = false) ∧
    (∃ (p : Port) (k : Fin 4) (s : State), Accepted s p k selfTestSpec) :=
  ⟨⟨.a, 0, mail live 2 0x0501 [0], by decide +kernel⟩,
   ⟨.a, 0, mail (live.setFlag CAL_STATUS_BUSY true) 2 0x0501 [0], by decide +kernel⟩,
   ⟨.a, 0, 0x1B0000000000000000000, 0, false, mail inQueue 2 0x0502 [0], by decide +kernel⟩,
   ⟨.a, 0, mail live 2 0x0503 [192], by decide +kernel⟩,
   ⟨.a, 0, mail (((((live.setFlag CAL_STATUS_IMPORTED true).setFlag EMT_EYE_CFG_LOCK true).setBit SEC_KEY_STATUS 0 true).setBit SEC_KEY_STATUS 1 true |>.setFlag SHT_STATUS_NONCE_SET true).setFlag CTL_STATUS_LOCK true) 2 0x0504 [0, 0, 0, 0, 0, 0, 0, 0, 1],
     by decide +kernel⟩,
   ⟨.a, 0, mail live 2 0x0504 [5, 0, 0, 0, 0, 0, 0, 0, 1], by decide +kernel⟩,
   ⟨.a, 0, mail live 2 0x0504 [0, 0, 0, 0, 0, 0, 0, 0, 1], by decide +kernel⟩,
   ⟨.a, 0, mail live 2 0x0704 [0xE5E5], by decide +kernel⟩,
   ⟨.a, 0, 0, mail live 2 0x0801 (List.replicate 9 0), by decide +kernel⟩,
   ⟨.a, 0, 0, mail (wEmt live fun e => { e with redCard := true }) 2 0x0801 (List.replicate 9 0), by decide +kernel⟩,
   ⟨.a, 0, mail live 2 0x0803 [1], by decide +kernel⟩,
   ⟨.a, 0, p384G.1, p384G.2, ((wSec live fun w => { w with idKey := 1 }).agreedKek p384G.1 p384G.2).getD [], mail (wSec (live.setFlag SEC_STATUS_ID_VALID true) fun w => { w with idKey := 1 }) 2 0x0804 (keyWords (beBytes 48 p384G.1 ++ beBytes 48 p384G.2)),
     by decide +kernel⟩,
   ⟨.a, 0, 0, 0, mail live 2 0x0804 (List.replicate 24 0), by decide +kernel⟩,
   ⟨.a, 0, 0xA80000000000000000, kernelImage, 0, 168, false, mail (wGrid (wSec (inQueue.setBit SEC_KEY_STATUS 2 true) fun w => { w with keys := [(2, kernelKey)] }) fun g => { g with running := true }) 2 0x080A [0],
     by decide +kernel⟩,
   ⟨.a, 0, 0x10000000000000000, [], 0, 1, 0x0403, 13, false, mail (inQueue.setBit SEC_KEY_STATUS 2 true) 2 0x080A [0], by decide +kernel⟩,
   ⟨.a, 0, mail live 2 0x080A [0], by decide +kernel⟩,
   ⟨.a, 0, mail live 2 0x0A01 [], by decide +kernel⟩⟩

theorem witness_LongCommandsEnd :
    (∃ (p : Port) (k : Fin 4) (s : State), s.longAt (pix p) k = none) ∧
    (let Ready := (fun (s : State) (p : Port) (k : Fin 4) (l : LongCmd) => s.longAt (pix p) k = some l ∧ l.orphan = false ∧ s.fwRuns = true ∧ 4 * pix
      p + k.val ∈ s.fw.unanswered ∧ s.flag (MBX_IB_STATUS_FULL (pix p) k) = false ∧ l.notes.length ≤ 63 ∧ l.tag < 256); ∃ (p : Port) (k : Fin 4) (l :
      LongCmd) (s : State), Ready s p k l ∧ l.phase = 1 ∧ l.code ∈ [0x0204, 0x0301, 0x0302, 0x0303, 0x0307, 0x0401, 0x0402, 0x0403, 0x0405, 0x0501,
      0x0502, 0x080A]) ∧
    (let Ready := (fun (s : State) (p : Port) (k : Fin 4) (l : LongCmd) => s.longAt (pix p) k = some l ∧ l.orphan = false ∧ s.fwRuns = true ∧ 4 * pix
      p + k.val ∈ s.fw.unanswered ∧ s.flag (MBX_IB_STATUS_FULL (pix p) k) = false ∧ l.notes.length ≤ 63 ∧ l.tag < 256); ∃ (p : Port) (k : Fin 4) (l :
      LongCmd) (s : State), Ready s p k l ∧ l.phase = 2 ∧ l.code ≠ 0x0504) ∧
    (let Ready := (fun (s : State) (p : Port) (k : Fin 4) (l : LongCmd) => s.longAt (pix p) k = some l ∧ l.orphan = false ∧ s.fwRuns = true ∧ 4 * pix
      p + k.val ∈ s.fw.unanswered ∧ s.flag (MBX_IB_STATUS_FULL (pix p) k) = false ∧ l.notes.length ≤ 63 ∧ l.tag < 256); ∃ (p : Port) (k : Fin 4) (l :
      LongCmd) (s : State), Ready s p k l ∧ l.phase = 3) ∧
    (let Ready := (fun (s : State) (p : Port) (k : Fin 4) (l : LongCmd) => s.longAt (pix p) k = some l ∧ l.orphan = false ∧ s.fwRuns = true ∧ 4 * pix
      p + k.val ∈ s.fw.unanswered ∧ s.flag (MBX_IB_STATUS_FULL (pix p) k) = false ∧ l.notes.length ≤ 63 ∧ l.tag < 256); ∃ (p : Port) (k : Fin 4) (l :
      LongCmd) (s : State), Ready s p k l ∧ l.phase = 4 ∧ l.code ≠ 0x0504) ∧
    (∃ (p : Port) (k : Fin 4) (l : LongCmd) (s : State), s.longAt (pix p) k = some l ∧ l.orphan = true ∧ s.fwRuns = true ∧ l.phase = 3) ∧
    (let Ready := (fun (s : State) (p : Port) (k : Fin 4) (l : LongCmd) => s.longAt (pix p) k = some l ∧ l.orphan = false ∧ s.fwRuns = true ∧ 4 * pix
      p + k.val ∈ s.fw.unanswered ∧ s.flag (MBX_IB_STATUS_FULL (pix p) k) = false ∧ l.notes.length ≤ 63 ∧ l.tag < 256); ∃ (p : Port) (k : Fin 4) (l :
      LongCmd) (s : State), Ready s p k l ∧ l.phase = 0 ∧ l.code = 0x0A01) ∧
    (let Ready := (fun (s : State) (p : Port) (k : Fin 4) (l : LongCmd) => s.longAt (pix p) k = some l ∧ l.orphan = false ∧ s.fwRuns = true ∧ 4 * pix
      p + k.val ∈ s.fw.unanswered ∧ s.flag (MBX_IB_STATUS_FULL (pix p) k) = false ∧ l.notes.length ≤ 63 ∧ l.tag < 256); ∃ (p : Port) (k : Fin 4) (l :
      LongCmd) (s : State), Ready s p k l ∧ l.phase = 0 ∧ l.code = 0x0703) ∧
    (let Ready := (fun (s : State) (p : Port) (k : Fin 4) (l : LongCmd) => s.longAt (pix p) k = some l ∧ l.orphan = false ∧ s.fwRuns = true ∧ 4 * pix
      p + k.val ∈ s.fw.unanswered ∧ s.flag (MBX_IB_STATUS_FULL (pix p) k) = false ∧ l.notes.length ≤ 63 ∧ l.tag < 256); ∃ (p : Port) (k : Fin 4) (l :
      LongCmd) (m : List Byte) (s : State), Ready s p k l ∧ l.phase = 1 ∧ l.code = 0x0801 ∧ s.sec.pendingKeys = [(arg l.args 1 % 4, m)]) ∧
    (let Ready := (fun (s : State) (p : Port) (k : Fin 4) (l : LongCmd) => s.longAt (pix p) k = some l ∧ l.orphan = false ∧ s.fwRuns = true ∧ 4 * pix
      p + k.val ∈ s.fw.unanswered ∧ s.flag (MBX_IB_STATUS_FULL (pix p) k) = false ∧ l.notes.length ≤ 63 ∧ l.tag < 256); ∃ (p : Port) (k : Fin 4) (l :
      LongCmd) (s : State), Ready s p k l ∧ l.phase = 1 ∧ l.code ∈ [0x0503, 0x0704]) ∧
    (let Ready := (fun (s : State) (p : Port) (k : Fin 4) (l : LongCmd) => s.longAt (pix p) k = some l ∧ l.orphan = false ∧ s.fwRuns = true ∧ 4 * pix
      p + k.val ∈ s.fw.unanswered ∧ s.flag (MBX_IB_STATUS_FULL (pix p) k) = false ∧ l.notes.length ≤ 63 ∧ l.tag < 256); ∃ (p : Port) (k : Fin 4) (l :
      LongCmd) (t : Nat) (src : Nat) (s : State), Ready s p k l ∧ l.phase = 0 ∧ s.deadline l = some (t, src)) ∧
    (∃ (p : Port) (k : Fin 4) (l : LongCmd) (s : State), s.longAt (pix p) k = some l ∧ ((l.phase ≠ 0 ∨ s.deadline l = none))) ∧
    (∃ (p : Port) (k : Fin 4) (s : State), s.obFirst (pix p) k = true ∧ hdrCode (s.rd (MBX_OB_HDR (pix p) k)) ∉ knownCodes) :=
  ⟨⟨.a, 0, live, by decide +kernel⟩,
   ⟨.a, 0, long0 0x0204 1, holding (long0 0x0204 1), by decide +kernel⟩,
   ⟨.a, 0, long0 0x0204 2, holding (long0 0x0204 2), by decide +kernel⟩,
   ⟨.a, 0, long0 0x0204 3, holding (long0 0x0204 3), by decide +kernel⟩,
   ⟨.a, 0, long0 0x0204 4, holding (long0 0x0204 4), by decide +kernel⟩,
   ⟨.a, 0, { long0 0x0204 3 with orphan := true }, holding { long0 0x0204 3 with orphan := true }, by decide +kernel⟩,
   ⟨.a, 0, long0 0x0A01 0, holding (long0 0x0A01 0), by decide +kernel⟩,
   ⟨.a, 0, long0 0x0703 0, holding (long0 0x0703 0), by decide +kernel⟩,
   ⟨.a, 0, long0 0x0801 1, [], wSec (holding (long0 0x0801 1)) fun x => { x with pendingKeys := [(0, [])] }, by decide +kernel⟩,
   ⟨.a, 0, long0 0x0503 1, holding (long0 0x0503 1), by decide +kernel⟩,
   ⟨.a, 0, long0 0x0301 0, 7680000000000, EV_SCAN_LOCKED, holding (long0 0x0301 0), by decide +kernel⟩,
   ⟨.a, 0, long0 0x0703 0, holding (long0 0x0703 0), by decide +kernel⟩,
   ⟨.a, 0, mail live 2 0x0105 [], by decide +kernel⟩⟩

theorem witness_TimeFollowsItsSource :
    (∃ (l : Fin 4) (lock : Bool) (rf : Bool) (s : State), s.pwr.coreInReset = false ∧ s.bit NET_STATUS l ≠ (lock && !rf)) ∧
    (∃ (l : Fin 4) (lock : Bool) (rf : Bool) (s : State), s.bit NET_STATUS l = (lock && !rf)) ∧
    (∃ (l : Fin 4) (s : State), s.pwr.coreInReset = false ∧ l.val ≠ s.fld NET_TIME_CTRL_PTP_LANE) ∧
    (∃ (s : State), s.pwr.coreInReset = false) ∧
    (∃ (l : Fin 4) (s : State), s.pwr.coreInReset = false ∧ s.fwRuns = true ∧ l.val = s.fld NET_TIME_CTRL_PTP_LANE) ∧
    (∃ (l : Fin 4) (s : State), s.pwr.coreInReset = false ∧ s.fwRuns = true ∧ l.val = s.fld NET_TIME_CTRL_PTP_LANE) ∧
    (∃ (l : Fin 4) (s : State), s.pwr.coreInReset = false ∧ s.fwRuns = true ∧ l.val = s.fld NET_TIME_CTRL_PTP_LANE) ∧
    (∃ (l : Fin 4) (rx : Nat) (s : State), s.pwr.coreInReset = false ∧ s.fwRuns = true ∧ l.val = s.fld NET_TIME_CTRL_PTP_LANE ∧ s.net.syncRx = some rx
      ∧ s.fld NET_TIME_STATUS_IN_FORCE = 1) ∧
    (∃ (l : Fin 4) (t1 : Int) (t2 : Int) (t4 : Int) (s : State), s.pwr.coreInReset = false ∧ s.fwRuns = true ∧ l.val = s.fld NET_TIME_CTRL_PTP_LANE ∧
      s.net.pdelayTx = some t1 ∧ s.net.pdelayRx = some (t2, t4)) ∧
    (∃ (s : State), s.pwr.coreInReset = false ∧ s.fwRuns = true) ∧
    (∃ (p : Port) (s : State), Reaches s p NET_TIME_STEP_HI) ∧
    (∃ (s : State), s.pwr.coreInReset = false ∧ s.fld NET_TIME_STATUS_IN_FORCE ≠ 2) ∧
    (∃ (t : Nat) (a : Nat) (s : State), s.pwr.coreInReset = false ∧ s.fld NET_TIME_STATUS_IN_FORCE = 2 ∧ s.net.lastPps = some a ∧ s.now ≤ t ∧ ((t < a
      + 255974400000 ∨ a + 256025600000 < t))) ∧
    (∃ (t : Nat) (s : State), s.pwr.coreInReset = false ∧ s.fld NET_TIME_STATUS_IN_FORCE = 2 ∧ ((∀ a, s.net.lastPps = some a → a + 255974400000 ≤ max
      s.now t ∧ max s.now t ≤ a + 256025600000))) ∧
    (∃ (s : State), s.pwr.coreInReset = false) ∧
    (∃ (c : Fin 2) (t1 : Nat) (s : State), s.pwr.coreInReset = false ∧ s.linkEnabled c = true ∧ s.fld NET_TIME_STATUS_IN_FORCE = 3 ∧ s.masterLink =
      some c.val ∧ (s.link c).sentNs = some t1) ∧
    (∃ (c : Fin 2) (s : State), s.pwr.coreInReset = false ∧ s.linkEnabled c = true ∧ ((s.fld NET_TIME_STATUS_IN_FORCE ≠ 3 ∨ s.masterLink ≠ some c.val
      ∨ (s.link c).sentNs = none))) ∧
    (∃ (c : Fin 2) (s : State), s.linkEnabled c = false) ∧
    (∃ (s : State), s.pwr.coreInReset = false ∧ s.fld NET_TIME_STATUS_IN_FORCE ≠ 0) ∧
    (∃ (s : State), s.fld NET_TIME_STATUS_IN_FORCE = 0) ∧
    (∃ (s : State), s.pwr.coreInReset = false ∧ s.fld NET_TIME_CTRL_SOURCE ≠ 0 ∧ s.flag NET_TIME_STATUS_SYNCED = false ∧ s.syncedSibling = true) :=
  ⟨⟨0, true, false, live, by decide +kernel⟩,
   ⟨0, true, true, live, by decide +kernel⟩,
   ⟨1, live, by decide +kernel⟩,
   ⟨live, by decide +kernel⟩,
   ⟨0, standby, by decide +kernel⟩,
   ⟨0, standby, by decide +kernel⟩,
   ⟨0, standby, by decide +kernel⟩,
   ⟨0, 0, wNet (standby.setFld NET_TIME_STATUS_IN_FORCE 1) fun n => { n with syncRx := some 0 }, by decide +kernel⟩,
   ⟨0, 0, 0, 0, wNet standby fun n => { n with pdelayTx := some 0, pdelayRx := some (0, 0) }, by decide +kernel⟩,
   ⟨standby, by decide +kernel⟩,
   ⟨.a, live, by decide +kernel⟩,
   ⟨live, by decide +kernel⟩,
   ⟨1, 0, wNet (live.setFld NET_TIME_STATUS_IN_FORCE 2) fun n => { n with lastPps := some 0 }, by decide +kernel⟩,
   ⟨0, ({ wNet (live.setFld NET_TIME_STATUS_IN_FORCE 2) fun n => { n with lastPps := some 0 } with now := 255974400000 } : State), by decide +kernel⟩,
   ⟨live.setFlag NET_PPS_CFG_OUT_EN true, by decide +kernel⟩,
   ⟨0, 0, wNet ((live.setFld NET_TIME_STATUS_IN_FORCE 3).setBit CHN_CTRL 0 true) fun n => { n with link0 := { upLink with sentNs := some 0 } },
     by decide +kernel⟩,
   ⟨0, live, by decide +kernel⟩,
   ⟨0, live.wr CHN_CTRL 0, by decide +kernel⟩,
   ⟨live.setFld NET_TIME_STATUS_IN_FORCE 2, by decide +kernel⟩,
   ⟨live, by decide +kernel⟩,
   ⟨wNet ((live.setFld NET_TIME_CTRL_SOURCE 1).setFlag NET_TIME_STATUS_SYNCED false) fun n => { n with link0 := upLink }, by decide +kernel⟩⟩

theorem witness_SiblingsOnTheChain :
    (∃ (s : State), s.pwr.coreInReset = false) ∧
    (∃ (s : State), s.pwr.coreInReset = false) ∧
    (∃ (c : Fin 2) (s : State), s.pwr.coreInReset = false ∧ s.linkEnabled c = true) ∧
    (∃ (c : Fin 2) (s : State), s.linkEnabled c = false) ∧
    (∃ (s : State), s.pwr.coreInReset = false) ∧
    (∃ (s : State), s.pwr.coreInReset = false) ∧
    (∃ (c : Fin 2) (s : State), s.pwr.coreInReset = false ∧ s.linkEnabled c = true ∧ (s.link c).up = true) ∧
    (∃ (c : Fin 2) (s : State), ((s.linkEnabled c = false ∨ (s.link c).up = false))) ∧
    (∃ (due : Nat) (s : State), s.pwr.coreInReset = false ∧ s.net.coordDue = some due ∧ s.flag CHN_CTRL_COORD_EN = true ∧ 2 ≤ s.net.members.length ∧
      s.net.members.length ≤ 8 ∧ clog2 s.net.members.length ≤ s.fldF SHT_SERVE_CFG_BITS) ∧
    (∃ (due : Nat) (s : State), s.pwr.coreInReset = false ∧ s.net.coordDue = some due ∧ s.flag CHN_CTRL_COORD_EN = true ∧ 2 ≤ s.net.members.length ∧
      ((8 < s.net.members.length ∨ s.fldF SHT_SERVE_CFG_BITS < clog2 s.net.members.length))) ∧
    (∃ (s : State), ((s.net.coordDue = none ∨ s.flag CHN_CTRL_COORD_EN = false))) ∧
    (∃ (p : Port) (s : State), Reaches s p CHN_CTRL) ∧
    (∃ (p : Port) (w : Fin 22) (v : Word) (s : State), Reaches s p (0x440000 + 4 * w.val) ∧ s.running = false ∧ ((0x440000 + 4 * w.val = NET_MTU →
      1280 ≤ v.toNat % 16384 ∧ v.toNat % 16384 ≤ 9000))) ∧
    (∃ (p : Port) (w : Fin 22) (s : State), Reaches s p (0x440000 + 4 * w.val) ∧ s.running = true) ∧
    (∃ (p : Port) (v : Word) (s : State), Reaches s p NET_MTU ∧ s.running = false ∧ ((v.toNat % 16384 < 1280 ∨ 9000 < v.toNat % 16384))) :=
  ⟨⟨live, by decide +kernel⟩,
   ⟨(live.setBit CHN_CTRL 0 true).setBit CHN_CTRL 1 false, by decide +kernel⟩,
   ⟨0, live, by decide +kernel⟩,
   ⟨0, live.wr CHN_CTRL 0, by decide +kernel⟩,
   ⟨live, by decide +kernel⟩,
   ⟨live, by decide +kernel⟩,
   ⟨0, wNet (live.setBit CHN_CTRL 0 true) fun n => { n with link0 := upLink }, by decide +kernel⟩,
   ⟨0, live, by decide +kernel⟩,
   ⟨0, wNet (({ live with inForce := [(SHT_SERVE_CFG, 0x5)] } : State).setFlag CHN_CTRL_COORD_EN true) fun n => { n with coordDue := some 0, members := [0, 1] },
     by decide +kernel⟩,
   ⟨0, wNet (live.setFlag CHN_CTRL_COORD_EN true) fun n => { n with coordDue := some 0, members := [0, 1, 2, 3, 4, 5, 6, 7, 8] }, by decide +kernel⟩,
   ⟨live, by decide +kernel⟩,
   ⟨.a, live, by decide +kernel⟩,
   ⟨.a, 0, 0, live, by decide +kernel⟩,
   ⟨.a, 0, live.setFlag SHT_STATUS_RUNNING true, by decide +kernel⟩,
   ⟨.a, 0, live, by decide +kernel⟩⟩

theorem witness_PowerSequence :
    (∃ (s : State), s.pwr.seq = 0) ∧
    (∃ (s : State), s.pwr.seq = 1) ∧
    (∃ (s : State), s.pwr.seq = 1) ∧
    (∃ (s : State), s.pwr.seq = 2 ∧ s.pwr.thmInReset = true) ∧
    (∃ (s : State), s.pwr.seq = 3 ∧ s.belowCritical 0 = true) ∧
    (∃ (s : State), s.pwr.seq = 3 ∧ s.belowCritical 0 = false) ∧
    (∃ (s : State), s.pwr.seq = 4 ∧ s.pwr.ddrReady = false) ∧
    (∃ (rails : BitVec 9) (vio : BitVec 12) (s : State), 1200 ≤ vio.toNat ∧ s.pwr.railOk &&& rails ≠ 0) ∧
    (∃ (rails : BitVec 9) (vio : BitVec 12) (s : State), 1200 ≤ vio.toNat ∧ s.pwr.railOk &&& rails = 0) ∧
    (∃ (vio : BitVec 12), vio.toNat < 1200) ∧
    (∃ (p : Port) (s : State), Reaches s p PWR_RESET ∧ s.pwr.emissionInReset = false) ∧
    (∃ (s : State), s.pwr.emissionInReset = true) ∧
    (∃ (s : State), s.pwr.coreInReset = false ∧ s.pwr.emissionInReset = true ∧ s.pwr.redAtRelease = none) ∧
    (∃ (s : State), s.pwr.coreInReset = false ∧ s.pwr.emissionInReset = true) ∧
    (∃ (src : Nat) (s : State), s.pwr.coreInReset = false ∧ s.pwr.emissionInReset = true ∧ s.pwr.redAtRelease = some src) ∧
    (∃ (p : Port) (s : State), Reaches s p PWR_RESET ∧ s.pwr.mgmtInReset = false) ∧
    (∃ (p : Port) (s : State), Reaches s p PWR_RESET ∧ s.pwr.coreInReset = false) ∧
    (∃ (p : Port) (key : BitVec 8) (d : BitVec 2) (s : State), Reaches s p PWR_RESET ∧ ((key ≠ 0xA5 ∨ d = 0))) ∧
    (∃ (s : State), s.pwr.hardWaiting = true ∧ s.belowCritical s.hyst = true) ∧
    (∃ (s : State), ((s.pwr.hardWaiting = false ∨ s.belowCritical s.hyst = false))) ∧
    (∃ (p : Port) (s : State), Reaches s p PWR_HARD_ACK) :=
  ⟨⟨State.reset, by decide +kernel⟩,
   ⟨wPwr State.reset fun w => { w with seq := 1 }, by decide +kernel⟩,
   ⟨wPwr State.reset fun w => { w with seq := 1 }, by decide +kernel⟩,
   ⟨wPwr State.reset fun w => { w with seq := 2 }, by decide +kernel⟩,
   ⟨wPwr State.reset fun w => { w with seq := 3 }, by decide +kernel⟩,
   ⟨wThm (wPwr State.reset fun w => { w with seq := 3 }) fun t => { t with therms := [(0, { Therm.init with started := true, reading := 40960 })] },
     by decide +kernel⟩,
   ⟨wPwr live fun w => { w with ddrReady := false }, by decide +kernel⟩,
   ⟨1, 1800, live, by decide +kernel⟩,
   ⟨0, 1800, live, by decide +kernel⟩,
   ⟨0, by decide +kernel⟩,
   ⟨.a, live, by decide +kernel⟩,
   ⟨State.reset, by decide +kernel⟩,
   ⟨wPwr live fun w => { w with emissionInReset := true }, by decide +kernel⟩,
   ⟨wPwr live fun w => { w with emissionInReset := true }, by decide +kernel⟩,
   ⟨0, wPwr live fun w => { w with emissionInReset := true, redAtRelease := some 0 }, by decide +kernel⟩,
   ⟨.a, live, by decide +kernel⟩,
   ⟨.a, live, by decide +kernel⟩,
   ⟨.a, 0, 0, live, by decide +kernel⟩,
   ⟨wPwr live fun w => { w with hardWaiting := true }, by decide +kernel⟩,
   ⟨live, by decide +kernel⟩,
   ⟨.a, live, by decide +kernel⟩⟩

theorem witness_LandsAndIdentifiers :
    (∃ (period : Nat) (dead : Nat) (d : Nat) (c : Nat) (k : Nat), k ≤ dead ∧ (phaseLands period dead d c).1 = true) ∧
    (∃ (period : Nat) (dead : Nat) (d : Nat) (c : Nat) (k : Nat), k ≤ dead ∧ (phaseLands period dead d c).2 = true) ∧
    (∃ (code : BitVec 14) (s : State), s.pwr.coreInReset = false ∧ s.fld CTL_MOTOR_ITRIP_V < code.toNat) ∧
    (∃ (p : Port) (s : State), s.portInReset (pix p) = false ∧ (s.port (pix p)).linkDown = false ∧ (s.port (pix p)).perstLow = false ∧ (s.port (pix
      p)).resetUntil ≤ s.now) :=
  ⟨⟨10, 1, 5, 0, 0, by decide +kernel⟩,
   ⟨10, 1, 5, 5, 0, by decide +kernel⟩,
   ⟨1, live.wr CTL_MOTOR_ITRIP 0, by decide +kernel⟩,
   ⟨.a, live, by decide +kernel⟩⟩

end Sys2Proof.Tests
end

section
/-! SUPPORT. What "all else is as before" (`Kept`) and "logged" (`Logged`) survive: one rule for each update of the state, and for the end of
a step. -/

namespace Sys2Proof.Machine

open Sys2Proof.Laws

theorem Kept.refl (s : State) (keys : List Nat) : Kept s s keys := ⟨fun _ _ _ => rfl, rfl, fun _ => rfl, rfl⟩

/-- A change of neither registers, values in force, memory nor queue. -/
theorem Kept.of_eq {s t u : State} {keys : List Nat} (h : Kept s t keys) (hr : u.regs = t.regs) (hf : u.inForce = t.inForce)
    (hm : u.mem = t.mem) (hp : u.pending = t.pending) : Kept s u keys := by
  obtain ⟨rd, force, mem, pend⟩ := h
  exact ⟨fun k hk hn => (by simp [State.rd, hr] : u.rd k = t.rd k).trans (rd k hk hn), hf.trans force, fun a => hm ▸ mem a, hp.trans pend⟩

theorem Kept.trans {s t u : State} {keys : List Nat} (h : Kept s t keys) (g : Kept t u keys) : Kept s u keys := by
  obtain ⟨rd, force, mem, pend⟩ := h
  obtain ⟨rd', force', mem', pend'⟩ := g
  exact ⟨fun k hk hn => (rd' k hk hn).trans (rd k hk hn), force'.trans force, fun a => (mem' a).trans (mem a), pend'.trans pend⟩

/-- A write of a register that is listed. -/
theorem Kept.wr {s t : State} {keys : List Nat} (h : Kept s t keys) {k : Nat} (w : Word) (hk : k ∈ keys) : Kept s (t.wr k w) keys := by
  obtain ⟨rd, force, mem, pend⟩ := h
  exact ⟨fun j hj hn => (rd_wr_other t w (fun e => hn (by rw [e]; exact hk))).trans (rd j hj hn), force, mem, pend⟩

theorem Kept.wrN {s t : State} {keys : List Nat} (h : Kept s t keys) {k : Nat} (v : Nat) (hk : k ∈ keys) : Kept s (t.wrN k v) keys :=
  h.wr _ hk
theorem Kept.setFld {s t : State} {keys : List Nat} (h : Kept s t keys) {f : Fld} (v : Nat) (hk : f.reg ∈ keys) :
    Kept s (t.setFld f v) keys := h.wr _ hk
theorem Kept.setFlag {s t : State} {keys : List Nat} (h : Kept s t keys) {f : Fld} (b : Bool) (hk : f.reg ∈ keys) :
    Kept s (t.setFlag f b) keys := h.wr _ hk
theorem Kept.setBit {s t : State} {keys : List Nat} (h : Kept s t keys) {k : Nat} (n : Nat) (b : Bool) (hk : k ∈ keys) :
    Kept s (t.setBit k n b) keys := h.wr _ hk
theorem Kept.bump {s t : State} {keys : List Nat} (h : Kept s t keys) {f : Fld} (n : Nat) (hk : f.reg ∈ keys) :
    Kept s (t.bump f n) keys := h.wr _ hk

theorem Kept.setPort {s t : State} {keys : List Nat} (h : Kept s t keys) (p : Nat) (x : PortState) : Kept s (t.setPort p x) keys :=
  h.of_eq (by simp) (by simp) (by simp) (by simp)
theorem Kept.answer {s t : State} {keys : List Nat} (h : Kept s t keys) (p : Nat) (c : Completion) : Kept s (t.answer p c) keys :=
  h.setPort p _
theorem Kept.advance {s t : State} {keys : List Nat} (h : Kept s t keys) (n : Nat) : Kept s (t.advance n) keys :=
  h.of_eq (by simp) (by simp) (by simp) (by simp)
theorem Kept.raise {s t : State} {keys : List Nat} (h : Kept s t keys) (e : Nat) : Kept s (t.raise e) keys := h.of_eq rfl rfl rfl rfl
theorem Kept.raiseIf {s t : State} {keys : List Nat} (h : Kept s t keys) (c : Bool) (e : Nat) : Kept s (t.raiseIf c e) keys :=
  h.of_eq (by simp) (by simp) (by simp) (by simp)
theorem Kept.net {s t : State} {keys : List Nat} (h : Kept s t keys) (x : NetState) : Kept s { t with net := x } keys :=
  h.of_eq rfl rfl rfl rfl
theorem Kept.wire {s t : State} {keys : List Nat} (h : Kept s t keys) (x : List WireFrame) : Kept s { t with wire := x } keys :=
  h.of_eq rfl rfl rfl rfl

/-- A counter field after it counted: it saturates at its width. -/
theorem fld_bump_same (s : State) (f : Fld) (n : Nat) (hl : f.lo ≤ f.hi) (hh : f.hi < 32) :
    (s.bump f n).fld f = min (2 ^ (f.hi + 1 - f.lo) - 1) (s.fld f + n) := by
  have hp := Nat.two_pow_pos (f.hi + 1 - f.lo)
  rw [State.bump, fld_setFld_same _ _ _ hl hh, Nat.mod_eq_of_lt (by omega)]

/-- The end of a step writes only registers of `settleKey`. -/
theorem Kept.settle {s t : State} {keys : List Nat} (h : Kept s t keys) : Kept s t.settle keys := by
  obtain ⟨rd, force, mem, pend⟩ := h
  exact ⟨fun k hk hn => (settle_rd t hk).trans (rd k hk hn), by simp [force], fun a => by simp [mem], by simp [pend]⟩

/-- What the end of a step leaves of a port beside the event ring's bookkeeping. -/
theorem settle_answer (s : State) (p : Nat) : (s.settle.port p).answer = (s.port p).answer :=
  show (keptPort (s.settle.port p)).answer = (keptPort (s.port p)).answer by rw [settle_port]
theorem settle_latches (s : State) (p : Nat) : (s.settle.port p).latches = (s.port p).latches :=
  show (keptPort (s.settle.port p)).latches = (keptPort (s.port p)).latches by rw [settle_port]
theorem settle_statSel (s : State) (p : Nat) : (s.settle.port p).statSel = (s.port p).statSel :=
  show (keptPort (s.settle.port p)).statSel = (keptPort (s.port p)).statSel by rw [settle_port]
theorem settle_adcSel (s : State) (p : Nat) : (s.settle.port p).adcSel = (s.port p).adcSel :=
  show (keptPort (s.settle.port p)).adcSel = (keptPort (s.port p)).adcSel by rw [settle_port]

/-- A source that a command raised is logged at the end of its step (R373). -/
theorem logged_settle {s : State} {r : Raised} (h : r ∈ s.raised) (hr : r.src < 256) : Logged s.settle r.src :=
  fun p hp hs => settle_status s h hp hr (by simpa [State.portInReset] using hs)

end Sys2Proof.Machine
end

section
/-! PROOFS. Host reads of registers: what a read answers and what it does (R17, R18, R218, R238, R267, R283, R359 to R361, R465). -/

namespace Sys2Proof.Machine

open Sys2Proof.Laws

/-! ### The answer of a read -/

theorem pix_lt_two (p : Port) : pix p < 2 := by cases p <;> decide
theorem portOf_pix (p : Port) : portOf (pix p) = p := by cases p <;> rfl

theorem setPort_port_self (s : State) (p : Port) (x : PortState) : (s.setPort (pix p) x).port (pix p) = x := by
  rw [State.setPort_port s (pix_lt_two p) (pix_lt_two p), if_pos rfl]

@[simp] theorem answer_port (s : State) (p : Port) (c : Completion) :
    (s.answer (pix p) c).port (pix p) = { s.port (pix p) with answer := c } := setPort_port_self s p _

@[simp] theorem answer_rd (s : State) (p : Port) (c : Completion) (k : Nat) : (s.answer (pix p) c).rd k = s.rd k := rd_setPort s _ _ k

/-- The offset is a register POS_GRP, whose read acquires the group (R364). -/
abbrev acquires (off : Nat) : Prop := 0x10000 ≤ off ∧ off < 0x10040

theorem hostRead_silent {s : State} {p : Port} (off : Nat) (h : s.portSilent p = true) :
    s.hostRead p off = s.answer (pix p) .unsupported := by simp [State.hostRead, h]

theorem hostRead_inReset {s : State} {p : Port} {off : Nat} (hs : s.portSilent p = false) (hb : s.blkInReset (tableOff off) = true) :
    s.hostRead p off = s.answer (pix p) (.data 0) := by simp [State.hostRead, hs, hb]

/-- A latched high half is answered once (R17). -/
theorem hostRead_latched {s : State} {p : Port} {off : Nat} {w : Word} (hs : s.portSilent p = false)
    (hb : s.blkInReset (tableOff off) = false) (ha : ¬ acquires off) (hl : (s.port (pix p)).latches = [(off, w)]) :
    s.hostRead p off = (s.setPort (pix p) { s.port (pix p) with latches := [] }).answer (pix p) (.data w) := by
  simp [State.hostRead, hs, hb, hl, ha, tabErase]

/-- Any other read answers what the register shows, and has its actions. -/
theorem hostRead_readable {s : State} {p : Port} {off : Nat} (h : Readable s p off) (ha : ¬ acquires off) :
    s.hostRead p off = (s.readActions (pix p) off).answer (pix p) (.data (s.view (pix p) off)) := by
  obtain ⟨hs, hb, hl⟩ := h
  have hf : (s.port (pix p)).latches.find? (fun (e : Nat × Word) => e.1 = off) = none := by simpa [List.find?_eq_none] using hl
  simp [State.hostRead, hs, hb, ha, hf]

/-! ### What a register shows -/

theorem tableOff_of_own {off : Nat} (h : otherView off = false) : tableOff off = off := by
  simp only [otherView, Bool.or_eq_false_iff] at h
  simp [tableOff, h]

theorem view_eq_rd {s : State} {p off : Nat} {a : Acc} {m : Nat} (ho : otherView off = false) (hacc : accOf off = some (a, m))
    (hw : a ≠ .wo) (hc : s.computed p off = none) : s.view p off = s.rd (viewKey p off) := by
  unfold State.view
  rw [tableOff_of_own ho, hacc]
  cases a with
  | wo => exact absurd rfl hw
  | _ => simp [ho, hc]

theorem acc_statInfo : accOf ISP_STAT_INFO = some (.rt, 0xFFFFFFFF) := by decide
theorem acc_seqNum : accOf ADC_SEQ_NUM = some (.rt, 0xFFFFFFFF) := by decide

theorem view_frame (s : State) (p : Nat) : s.view p GLB_FRAME = s.rd GLB_FRAME :=
  view_eq_rd rfl (a := .ro) (m := 0xFFFFFFFF) (by decide) (by decide) rfl
theorem view_appliedFrame (s : State) (p : Nat) : s.view p IMG_APPLIED_FRAME = s.rd IMG_APPLIED_FRAME :=
  view_eq_rd rfl (a := .ro) (m := 0xFFFFFFFF) (by decide) (by decide) rfl
theorem view_imgGen (s : State) (p : Nat) : s.view p IMG_GEN = s.rd IMG_GEN :=
  view_eq_rd rfl (a := .ro) (m := 0xFFFF) (by decide) (by decide) rfl
theorem view_statInfo (s : State) (p : Nat) : s.view p ISP_STAT_INFO = s.rd ISP_STAT_INFO :=
  view_eq_rd rfl acc_statInfo (by decide) rfl
theorem view_seqNum (s : State) (p : Nat) : s.view p ADC_SEQ_NUM = s.rd ADC_SEQ_NUM :=
  view_eq_rd rfl acc_seqNum (by decide) rfl

theorem peak_acc : ∀ j : Fin 12, accOf (FLT_PEAK j) = some (.rt, 0xFFFFFFFF) ∧ otherView (FLT_PEAK j) = false := by decide +kernel

theorem view_peak (s : State) (p : Nat) (j : Fin 12) : s.view p (FLT_PEAK j) = s.rd (FLT_PEAK j) := by
  obtain ⟨hacc, ho⟩ := peak_acc j
  rw [view_eq_rd ho hacc (by decide) (by fin_cases j <;> rfl)]
  have hk : viewKey p (FLT_PEAK j) = FLT_PEAK j := by fin_cases j <;> rfl
  rw [hk]

/-! ### The actions of a read -/

/-- A read of a low half latches the high half for the port (R17). -/
def State.latchHigh (s : State) (p off : Nat) : State :=
  match latchPairs off with
  | some h => s.setPort p { s.port p with latches := tabPut (s.port p).latches h (s.view p h) }
  | none => s

/-- What a read does beside latching a high half (R18, R238, R267, R283). -/
def State.readEffect (s : State) (p off : Nat) : State :=
  if otherView off then s
  else if off = ISP_STAT_INFO then
    s.setPort p { s.port p with statSel := (s.isp.published.getLast?).map (fun (t : StatSet) => t.id) }
  else if off = ADC_SEQ_NUM then
    s.setPort p { s.port p with adcSel := (s.adc.kept.head?).map (fun (e : AdcSet) => e.seq) }
  else if !s.possesses (portOf p) off then s
  else
    match accOf off with
    | some (.rc, _) => s.wr (viewKey p off) 0
    | some (.rt, _) => if 0x3C1000 ≤ off && off < 0x3C1C00 then s.restartDetectors ((off - 0x3C1000) / 256) else s
    | _ => s

theorem readActions_eq (s : State) (p off : Nat) : s.readActions p off = (s.latchHigh p off).readEffect p off := rfl

@[simp] theorem latchHigh_regs (s : State) (p off : Nat) : (s.latchHigh p off).regs = s.regs := by
  unfold State.latchHigh; split <;> simp
@[simp] theorem latchHigh_rd (s : State) (p off k : Nat) : (s.latchHigh p off).rd k = s.rd k := by simp [State.rd]

theorem latchHigh_kept (s : State) (p off : Nat) (keys : List Nat) : Kept s (s.latchHigh p off) keys := by
  unfold State.latchHigh
  split
  · exact (Kept.refl s keys).setPort _ _
  · exact .refl s keys

theorem latchHigh_none {off : Nat} (h : latchPairs off = none) (s : State) (p : Nat) : s.latchHigh p off = s := by
  simp [State.latchHigh, h]

theorem latchHigh_latches (s : State) (p : Port) {off h : Nat} (hl : latchPairs off = some h) :
    tabGet 0 ((s.latchHigh (pix p) off).port (pix p)).latches h = s.view (pix p) h := by
  simp only [State.latchHigh, hl, setPort_port_self, tabGet_tabPut_same]

/-- Who holds a group is read from the registers. -/
theorem possesses_congr {s t : State} (h : t.regs = s.regs) (p : Port) (off : Nat) : t.possesses p off = s.possesses p off := by
  have hf (f : Fld) : t.fld f = s.fld f := fld_congr (by simp [State.rd, h])
  simp only [State.possesses, State.holder, State.flag, hf]
  rfl

/-- A read writes no register but an RC or RT one, and none without the group (R18, R361). -/
theorem readEffect_kept {s : State} {p off : Nat}
    (h : (∀ m, accOf off ≠ some (.rc, m) ∧ accOf off ≠ some (.rt, m)) ∨ s.possesses (portOf p) off = false) :
    Kept s (s.readEffect p off) [] := by
  have hr := Kept.refl s []
  unfold State.readEffect
  split
  · exact hr
  · split
    · exact hr.setPort _ _
    · split
      · exact hr.setPort _ _
      · rcases h with h | h
        · split
          · exact hr
          · split
            next m hm => exact absurd hm (h m).1
            next m hm => exact absurd hm (h m).2
            next => exact hr
        · simpa [h] using hr

@[simp] theorem restartDetectors_port (s : State) (j p : Nat) : (s.restartDetectors j).port p = s.port p := rfl

theorem restartDetectors_rd (s : State) (j k : Nat) :
    (s.restartDetectors j).rd k = (((s.wr (FLT_PEAK j) 0x80007FFF).wr (FLT_RMS j) 0).wr (FLT_ENV j) 0).rd k := rfl

theorem restartDetectors_kept (s : State) (j : Nat) : Kept s (s.restartDetectors j) [FLT_PEAK j, FLT_RMS j, FLT_ENV j] :=
  ((((Kept.refl s _).wr 0x80007FFF (by simp)).wr 0 (by simp)).wr 0 (by simp)).of_eq rfl rfl rfl rfl

theorem readEffect_latches (s : State) (p : Port) (off : Nat) :
    ((s.readEffect (pix p) off).port (pix p)).latches = (s.port (pix p)).latches := by
  unfold State.readEffect
  split
  · rfl
  · split
    · rw [setPort_port_self]
    · split
      · rw [setPort_port_self]
      · split
        · rfl
        · split
          next => rfl
          next =>
            split
            · exact congrArg PortState.latches (restartDetectors_port s _ _)
            · rfl
          next => rfl

/-- A read of an RC register by the port that holds its group clears it (R18). -/
theorem readEffect_rc {s : State} {p off m : Nat} (hacc : accOf off = some (.rc, m)) (ho : otherView off = false)
    (hp : s.possesses (portOf p) off = true) : s.readEffect p off = s.wr (viewKey p off) 0 := by
  have h1 : off ≠ ISP_STAT_INFO := by rintro rfl; rw [acc_statInfo] at hacc; simp at hacc
  have h2 : off ≠ ADC_SEQ_NUM := by rintro rfl; rw [acc_seqNum] at hacc; simp at hacc
  simp [State.readEffect, ho, h1, h2, hp, hacc]

/-- A read of FLT_PEAK by the port that holds the group restarts the chain's detectors (R267). -/
theorem readEffect_peak {s : State} {p : Nat} (j : Fin 12) (hp : s.possesses (portOf p) (FLT_PEAK j) = true) :
    s.readEffect p (FLT_PEAK j) = s.restartDetectors j := by
  obtain ⟨hacc, ho⟩ := peak_acc j
  have hj := j.isLt
  have h1 : FLT_PEAK j ≠ ISP_STAT_INFO := by simp only [FLT_PEAK, ISP_STAT_INFO]; omega
  have h2 : FLT_PEAK j ≠ ADC_SEQ_NUM := by simp only [FLT_PEAK, ADC_SEQ_NUM]; omega
  have h3 : 0x3C1000 ≤ FLT_PEAK j ∧ FLT_PEAK j < 0x3C1C00 := by simp only [FLT_PEAK]; omega
  have h4 : (FLT_PEAK j - 0x3C1000) / 256 = j := by simp only [FLT_PEAK]; omega
  simp [State.readEffect, ho, h1, h2, hp, hacc, h3, h4]

/-- A read-only register is neither cleared nor restarted by a read. -/
theorem not_cleared_of_ro {off k : Nat} (h : accOf off = some (.ro, k)) (m : Nat) :
    accOf off ≠ some (.rc, m) ∧ accOf off ≠ some (.rt, m) := by simp [h]

/-- No register POS_GRP is cleared by a read. -/
theorem not_acquires_of_rc {off m : Nat} (h : accOf off = some (.rc, m)) : ¬ acquires off := by
  rintro ⟨h1, h2⟩
  have hall : ∀ i < 64, (accOf (0x10000 + i)).all (fun e => decide (e.1 ≠ .rc)) = true := by decide +kernel
  have := hall (off - 0x10000) (by omega)
  rw [show 0x10000 + (off - 0x10000) = off by omega, h] at this
  simp at this

/-- ISP_STAT_INFO selects the statistics set published last (R238), ADC_SEQ_NUM the newest result set kept (R283). -/
theorem readActions_statInfo (s : State) (p : Nat) : s.readActions p ISP_STAT_INFO =
    s.setPort p { s.port p with statSel := (s.isp.published.getLast?).map (fun (t : StatSet) => t.id) } := rfl
theorem readActions_seqNum (s : State) (p : Nat) : s.readActions p ADC_SEQ_NUM =
    s.setPort p { s.port p with adcSel := (s.adc.kept.head?).map (fun (e : AdcSet) => e.seq) } := rfl

/-! ### Reads as commands -/

/-- A read of a register that latches another answers it and latches that one as the port sees it (R17, R218, R465). -/
theorem hostRead_latches {s : State} {p : Port} {off h : Nat} (hr : Readable s p off) (hl : latchPairs off = some h)
    (ha : ¬ acquires off) :
    let t := (s.hostRead p off).settle
    (t.port (pix p)).answer = .data (s.view (pix p) off) ∧ tabGet 0 (t.port (pix p)).latches h = s.view (pix p) h
      ∧ ((∀ m, accOf off ≠ some (.rc, m) ∧ accOf off ≠ some (.rt, m)) → Kept s t []) := by
  rw [hostRead_readable hr ha, readActions_eq]
  refine ⟨by simp [settle_answer], ?_, fun hacc => ?_⟩
  · rw [settle_latches, answer_port, readEffect_latches, latchHigh_latches s p hl]
  · exact (Kept.trans (latchHigh_kept s _ off []) (readEffect_kept (.inl hacc))).answer _ _ |>.settle

/-- A read of FLT_PEAK answers the extremes held and restarts the three detectors (R267). -/
theorem hostRead_peak {s : State} {p : Port} (j : Fin 12) (hr : Readable s p (FLT_PEAK j)) (hp : s.possesses p (FLT_PEAK j) = true) :
    let t := (s.hostRead p (FLT_PEAK j)).settle
    (t.port (pix p)).answer = .data (s.rd (FLT_PEAK j)) ∧ t.rd (FLT_PEAK j) = 0x80007FFF ∧ t.rd (FLT_RMS j) = 0
      ∧ t.rd (FLT_ENV j) = 0 ∧ Kept s t [FLT_PEAK j, FLT_RMS j, FLT_ENV j] := by
  have ha : ¬ acquires (FLT_PEAK j) := by simp only [acquires, FLT_PEAK]; omega
  have hn : ∀ i : Fin 12, latchPairs (FLT_PEAK i) = none := by decide +kernel
  have hk : ∀ i : Fin 12, settleKey (FLT_PEAK i) = false ∧ settleKey (FLT_RMS i) = false ∧ settleKey (FLT_ENV i) = false := by
    decide +kernel
  obtain ⟨kp, kr, ke⟩ := hk j
  rw [hostRead_readable hr ha, readActions_eq, latchHigh_none (hn j), readEffect_peak j (by rw [portOf_pix]; exact hp), view_peak]
  have n1 : FLT_PEAK j ≠ FLT_RMS j := by simp [FLT_PEAK, FLT_RMS]
  have n2 : FLT_PEAK j ≠ FLT_ENV j := by simp [FLT_PEAK, FLT_ENV]
  have n3 : FLT_RMS j ≠ FLT_ENV j := by simp [FLT_RMS, FLT_ENV]
  refine ⟨by simp [settle_answer], ?_, ?_, ?_, ?_⟩
  · rw [settle_rd _ kp, answer_rd, restartDetectors_rd]; simp [rd_wr, n1, n2]
  · rw [settle_rd _ kr, answer_rd, restartDetectors_rd]; simp [rd_wr, n3]
  · rw [settle_rd _ ke, answer_rd, restartDetectors_rd]; simp
  · exact (restartDetectors_kept s j).answer _ _ |>.settle

/-- The field of POS_ACC_ERR that counts a port's malformed accesses (R360). -/
def accErrOf : Port → Fld
  | .a => POS_ACC_ERR_PORT_A
  | .b => POS_ACC_ERR_PORT_B

/-- A malformed access is counted for its port; a read is answered Unsupported Request (R360). -/
theorem malformedAccess_gives (p : Port) (w : Bool) {s : State} (hs : s.portSilent p = false) (hc : s.pwr.coreInReset = false) :
    Gives (.malformedAccess p w) s fun t => t.fld (accErrOf p) = min 65535 (s.fld (accErrOf p) + 1)
      ∧ (w = false → (t.port (pix p)).answer = .unsupported) ∧ Kept s t [POS_ACC_ERR] := by
  let a := if w then s else s.answer (pix p) .unsupported
  have hreg : (accErrOf p).reg = POS_ACC_ERR := by cases p <;> rfl
  have hfld : (a.bump (accErrOf p) 1).fld (accErrOf p) = min 65535 (s.fld (accErrOf p) + 1) := by
    have ha : a.fld (accErrOf p) = s.fld (accErrOf p) := by cases w <;> simp [a, State.fld]
    rw [fld_bump_same a _ 1 (by cases p <;> decide) (by cases p <;> decide), ha]
    cases p <;> rfl
  have hkept : Kept s a [POS_ACC_ERR] := by
    cases w
    · exact (Kept.refl s _).answer _ _
    · exact .refl s _
  have hexec : exec (.malformedAccess p w) s = .next (a.bump (accErrOf p) 1).settle := by
    have hgate : (a.portSilent p || a.pwr.coreInReset) = false := by
      cases w <;> cases p <;> exact Bool.or_eq_false_iff.mpr ⟨hs, hc⟩
    have hif : (if (a.portSilent p || a.pwr.coreInReset) = true then a else a.bump (accErrOf p) 1) = a.bump (accErrOf p) 1 := by
      rw [hgate]; rfl
    rw [← hif]
    rfl
  refine ⟨_, hexec, ?_, fun hw => ?_, (hkept.bump 1 (by simp [hreg])).settle⟩
  · rw [settle_fld _ (by rw [hreg]; decide), hfld]
  · subst hw
    rw [settle_answer]
    exact congrArg PortState.answer (answer_port s p .unsupported)

/-- Settles O42: the actions of a read are those of its register, each stated once above. -/
theorem hostReads : Obligations.HostReads := by
  unfold Obligations.HostReads
  refine ⟨?_, ?_, ?_, ?_, ?_, ?_, ?_, ?_, ?_, ?_, ?_, ?_⟩
  · intro p off s h
    refine ⟨_, rfl, ?_⟩
    rw [hostRead_silent _ h]
    exact ⟨by simp [settle_answer], ((Kept.refl s []).answer _ _).settle⟩
  · intro p off s hs hb
    refine ⟨_, rfl, ?_⟩
    rw [hostRead_inReset hs hb]
    exact ⟨by simp [settle_answer], ((Kept.refl s []).answer _ _).settle⟩
  · intro p off m s hr hacc ho hc hp
    refine ⟨_, rfl, ?_⟩
    have hp' : (s.latchHigh (pix p) off.toNat).possesses (portOf (pix p)) off.toNat = true := by
      rw [possesses_congr (latchHigh_regs _ _ _), portOf_pix, hp]
    rw [hostRead_readable hr (not_acquires_of_rc hacc), readActions_eq, readEffect_rc hacc ho hp', view_eq_rd ho hacc (by decide) hc]
    exact ⟨by simp, by simp⟩
  · intro p off m s hr hacc ho hc hp
    refine ⟨_, rfl, ?_⟩
    have hp' : (s.latchHigh (pix p) off.toNat).possesses (portOf (pix p)) off.toNat = false := by
      rw [possesses_congr (latchHigh_regs _ _ _), portOf_pix, hp]
    rw [hostRead_readable hr (not_acquires_of_rc hacc), readActions_eq, view_eq_rd ho hacc (by decide) hc]
    exact ⟨by simp [settle_answer], ((latchHigh_kept s _ _ []).trans (readEffect_kept (.inr hp'))).answer _ _ |>.settle⟩
  · intro p off h s hr hl hlo
    exact ⟨_, rfl, hostRead_latches hr hl (by simp only [acquires]; omega)⟩
  · intro p off w s hs hb hlo hl
    refine ⟨_, rfl, ?_⟩
    rw [hostRead_latched hs hb (by simp only [acquires]; omega) hl]
    exact ⟨by simp [settle_answer], by simp [settle_latches, setPort_port_self], ((Kept.refl s []).setPort _ _).answer _ _ |>.settle⟩
  · intro p w s hs hc
    exact malformedAccess_gives p w hs hc
  · intro p s hr
    obtain ⟨answer, latches, kept⟩ := hostRead_latches hr (h := GLB_LINE) (by decide) (by decide)
    exact ⟨_, rfl, answer.trans (by rw [view_frame]), latches, kept (not_cleared_of_ro (k := 0xFFFFFFFF) (by decide))⟩
  · intro p s hr
    obtain ⟨answer, latches, kept⟩ := hostRead_latches hr (h := IMG_GEN) (by decide) (by decide)
    exact ⟨_, rfl, answer.trans (by rw [view_appliedFrame]), latches.trans (view_imgGen s _),
      kept (not_cleared_of_ro (k := 0xFFFFFFFF) (by decide))⟩
  · intro p s hr
    refine ⟨_, rfl, ?_⟩
    rw [hostRead_readable hr (by decide), readActions_statInfo, view_statInfo]
    exact ⟨by simp [settle_answer], by simp [settle_statSel, setPort_port_self], ((Kept.refl s []).setPort _ _).answer _ _ |>.settle⟩
  · intro p s hr
    refine ⟨_, rfl, ?_⟩
    rw [hostRead_readable hr (by decide), readActions_seqNum, view_seqNum]
    exact ⟨by simp [settle_answer], by simp [settle_adcSel, setPort_port_self], ((Kept.refl s []).setPort _ _).answer _ _ |>.settle⟩
  · intro p j s hr hp
    exact ⟨_, rfl, hostRead_peak j hr hp⟩

end Sys2Proof.Machine
end

section
/-! PROOFS. Device time follows the source in force (R432, R435 to R438, R440, R442). -/

namespace Sys2Proof.Machine

open Sys2Proof.Laws

/-! ### What the passing of time leaves -/

@[simp] theorem fld_advance (s : State) (t : Nat) (f : Fld) : (s.advance t).fld f = s.fld f := fld_congr (rd_advance s t _)
@[simp] theorem flag_advance (s : State) (t : Nat) (f : Fld) : (s.advance t).flag f = s.flag f := flag_congr (rd_advance s t _)
theorem fwRuns_congr {s u : State} (h : u.rd MBX_FW_STATE = s.rd MBX_FW_STATE) : u.fwRuns = s.fwRuns := by
  simp only [State.fwRuns, State.fwCode, fld_congr (f := MBX_FW_STATE_STATE) h]
  rfl
@[simp] theorem fwRuns_advance (s : State) (t : Nat) : (s.advance t).fwRuns = s.fwRuns :=
  fwRuns_congr (rd_advance s t _)
@[simp] theorem link_advance (s : State) (t c : Nat) : (s.advance t).link c = s.link c := by simp [State.link]
@[simp] theorem linkEnabled_advance (s : State) (t c : Nat) : (s.advance t).linkEnabled c = s.linkEnabled c := by
  simp [State.linkEnabled, State.bit]

/-- The network's notes are replaced. -/
def State.setNet (s : State) (x : NetState) : State := { s with net := x }

@[simp] theorem setNet_rd (s : State) (x : NetState) (k : Nat) : (s.setNet x).rd k = s.rd k := rfl
@[simp] theorem setNet_net (s : State) (x : NetState) : (s.setNet x).net = x := rfl
@[simp] theorem setNet_now (s : State) (x : NetState) : (s.setNet x).now = s.now := rfl
@[simp] theorem setNet_devTime (s : State) (x : NetState) : (s.setNet x).devTime = s.devTime := rfl
@[simp] theorem setNet_rateCorr (s : State) (x : NetState) : (s.setNet x).rateCorr = s.rateCorr := rfl
@[simp] theorem setNet_fld (s : State) (x : NetState) (f : Fld) : (s.setNet x).fld f = s.fld f := rfl
@[simp] theorem setNet_flag (s : State) (x : NetState) (f : Fld) : (s.setNet x).flag f = s.flag f := rfl
@[simp] theorem setNet_fwRuns (s : State) (x : NetState) : (s.setNet x).fwRuns = s.fwRuns := rfl

/-- Device time after an advance follows from the clock, device time and the rate in force. -/
theorem advance_devTime_congr {s u : State} (hn : u.now = s.now) (hd : u.devTime = s.devTime) (hr : u.rateCorr = s.rateCorr) (t : Nat) :
    (u.advance t).devTime = (s.advance t).devTime := by
  unfold State.advance
  rw [hn, hd, hr]
  split
  · rfl
  · exact hd

theorem inCore_run {s : State} (h : s.pwr.coreInReset = false) (f : State → State) : s.inCore f = f s := by simp [State.inCore, h]
theorem inCore_reset {s : State} (h : s.pwr.coreInReset = true) (f : State → State) : s.inCore f = s := by simp [State.inCore, h]

theorem has_raiseIf (s : State) (c : Bool) (e : Nat) : (s.raiseIf c e).has e = (s.has e || c) := by
  cases c <;> simp [State.raiseIf, State.raise, State.has]

/-! ### An offset measurement (R435) -/

/-- What a measurement of offset `o` brings about, from `s` to `u`: NET_OFFSET, the run of good measurements, SYNCED with its event, and,
while Priard runs, a step of device time or a rate within its limits. -/
def Measured (s u : State) (o : Int) : Prop :=
  u.rdN NET_OFFSET = toBits 32 o
    ∧ u.net.goodRun = (if o.natAbs ≤ 100 then s.net.goodRun + 1 else 0) ∧ u.net.measAt = some s.now
    ∧ u.flag NET_TIME_STATUS_SYNCED
      = (decide (o.natAbs ≤ 1000) && (s.flag NET_TIME_STATUS_SYNCED || decide (o.natAbs ≤ 100 ∧ 15 ≤ s.net.goodRun)))
    ∧ (u.flag NET_TIME_STATUS_SYNCED ≠ s.flag NET_TIME_STATUS_SYNCED → u.has EV_NET_SYNC = true)
    ∧ (s.fwRuns = true → 1000000 < o.natAbs →
        u.devTime = (((s.advance ((s.now + 2559) / 2560 * 2560)).devTime : Int) - o * 2 ^ 48).toNat % 2 ^ 112)
    ∧ (s.fwRuns = true → o.natAbs ≤ 1000000 → u.devTime = s.devTime ∧ u.rateCorr.natAbs ≤ 549755813)

/-- SYNCED after a measurement of offset `o`: more than 1 µs clears it, the sixteenth in a row within 100 ns sets it. -/
def State.syncedBy (s : State) (o : Int) : Bool :=
  let run := if o.natAbs ≤ 100 then s.net.goodRun + 1 else 0
  if 1000 < o.natAbs then false else s.flag NET_TIME_STATUS_SYNCED || decide (16 ≤ run)

/-- A measurement before Priard's correction: NET_OFFSET, the run, SYNCED and its event. -/
def State.judged (s : State) (o : Int) : State :=
  let now := s.syncedBy o
  let was := s.flag NET_TIME_STATUS_SYNCED
  let net := { s.net with goodRun := if o.natAbs ≤ 100 then s.net.goodRun + 1 else 0, measAt := some s.now,
                          unsyncedAt := if was && !now then s.now else s.net.unsyncedAt }
  (((s.wrN NET_OFFSET (toBits 32 o)).setNet net).setFlag NET_TIME_STATUS_SYNCED now).raiseIf (now ≠ was) EV_NET_SYNC

/-- A measurement leaves every register but NET_OFFSET and NET_TIME_STATUS before the correction. -/
theorem judged_rd (s : State) (o : Int) {k : Nat} (h1 : k ≠ NET_OFFSET) (h2 : k ≠ NET_TIME_STATUS) : (s.judged o).rd k = s.rd k := by
  simp [State.judged, rd_setFlag, rd_wrN, h1, h2, NET_TIME_STATUS_SYNCED]

theorem judged_fwRuns (s : State) (o : Int) : (s.judged o).fwRuns = s.fwRuns :=
  fwRuns_congr (judged_rd s o (by decide) (by decide))

theorem measure_eq (s : State) (o : Int) : s.measure o =
    if s.fwRuns then
      if o.natAbs ≤ 1000000 then (s.judged o).setRate (Config.rateServo o ((s.judged o).rdN NET_TIME_RATE))
      else (s.judged o).stepTime (-o)
    else s.judged o := by
  have hflag : (s.wrN NET_OFFSET (toBits 32 o)).flag NET_TIME_STATUS_SYNCED = s.flag NET_TIME_STATUS_SYNCED :=
    flag_congr (by simp [rd_wrN, NET_TIME_STATUS_SYNCED, NET_TIME_STATUS, NET_OFFSET])
  rw [← judged_fwRuns s o]
  unfold State.measure State.judged State.syncedBy
  simp only [hflag]
  rfl

theorem toBits_lt (n : Nat) (x : Int) : toBits n x < 2 ^ n := by
  have h1 : 0 ≤ x % (2 ^ n : Int) := Int.emod_nonneg _ (by positivity)
  have h2 : x % (2 ^ n : Int) < 2 ^ n := Int.emod_lt_of_pos _ (by positivity)
  unfold toBits
  zify
  rwa [Int.toNat_of_nonneg h1]

theorem judged_offset (s : State) (o : Int) : (s.judged o).rdN NET_OFFSET = toBits 32 o := by
  have h : NET_OFFSET ≠ NET_TIME_STATUS := by decide
  simpa [State.rdN, State.judged, rd_setFlag, rd_wrN, h, NET_TIME_STATUS_SYNCED] using toBits_lt 32 o

theorem judged_synced (s : State) (o : Int) : (s.judged o).flag NET_TIME_STATUS_SYNCED = s.syncedBy o := by
  unfold State.judged
  rw [flag_congr (rd_raiseIf _ _ _ _), flag_setFlag_same _ _ _ (by decide) (by decide)]

theorem syncedBy_eq (s : State) (o : Int) : s.syncedBy o =
    (decide (o.natAbs ≤ 1000) && (s.flag NET_TIME_STATUS_SYNCED || decide (o.natAbs ≤ 100 ∧ 15 ≤ s.net.goodRun))) := by
  unfold State.syncedBy
  by_cases h1 : 1000 < o.natAbs
  · simp [h1]
  · by_cases h2 : o.natAbs ≤ 100
    · simp [h1, h2, Nat.not_lt.mp h1]
    · simp [h1, h2, Nat.not_lt.mp h1]

theorem judged_event (s : State) (o : Int) (h : (s.judged o).flag NET_TIME_STATUS_SYNCED ≠ s.flag NET_TIME_STATUS_SYNCED) :
    (s.judged o).has EV_NET_SYNC = true := by
  rw [judged_synced] at h
  unfold State.judged
  rw [has_raiseIf]
  simp [h]

theorem judged_now (s : State) (o : Int) : (s.judged o).now = s.now := by
  unfold State.judged; rw [State.raiseIf_now, State.setFlag_now, setNet_now, State.wrN_now]
theorem judged_devTime (s : State) (o : Int) : (s.judged o).devTime = s.devTime := by
  unfold State.judged; rw [State.raiseIf_devTime, State.setFlag_devTime, setNet_devTime, State.wrN_devTime]
theorem judged_rateCorr (s : State) (o : Int) : (s.judged o).rateCorr = s.rateCorr := by
  unfold State.judged; rw [State.raiseIf_rateCorr, State.setFlag_rateCorr, setNet_rateCorr, State.wrN_rateCorr]

/-- Priard's correction leaves registers but NET_TIME_RATE, the block's other notes and the events as the measurement made them. -/
theorem measure_judged (s : State) (o : Int) : (∀ k ≠ NET_TIME_RATE, (s.measure o).rd k = (s.judged o).rd k)
    ∧ (s.measure o).net = (s.judged o).net ∧ (s.measure o).raised = (s.judged o).raised := by
  rw [measure_eq]
  split
  · split
    · exact ⟨fun k hk => rd_wr_other _ _ hk, rfl, rfl⟩
    · simp [State.stepTime, State.rd]
  · exact ⟨fun _ _ => rfl, rfl, rfl⟩

/-- A register that no measurement touches. -/
theorem measure_rd (s : State) (o : Int) {k : Nat} (h1 : k ≠ NET_OFFSET) (h2 : k ≠ NET_TIME_STATUS) (h3 : k ≠ NET_TIME_RATE) :
    (s.measure o).rd k = s.rd k := ((measure_judged s o).1 k h3).trans (judged_rd s o h1 h2)

/-- Of the network's notes a measurement changes the run, its instant and since when SYNCED is lost. -/
theorem measure_net (s : State) (o : Int) : (s.measure o).net = { s.net with
    goodRun := (s.measure o).net.goodRun, measAt := (s.measure o).net.measAt, unsyncedAt := (s.measure o).net.unsyncedAt } := by
  obtain ⟨-, hnet, -⟩ := measure_judged s o
  rw [hnet]
  simp [State.judged]

theorem setRate_bound (s : State) (r : Int) : (s.setRate r).rateCorr.natAbs ≤ 549755813 := by
  show (if r < -549755813 then (-549755813 : Int) else if 549755813 < r then 549755813 else r).natAbs ≤ 549755813
  split
  · decide
  · split <;> omega

/-- A measurement does what R435 and R436 say. -/
theorem measure_measured (s : State) (o : Int) : Measured s (s.measure o) o := by
  obtain ⟨hrd, hnet, hraised⟩ := measure_judged s o
  have hsync : (s.measure o).flag NET_TIME_STATUS_SYNCED = (s.judged o).flag NET_TIME_STATUS_SYNCED := flag_congr (hrd _ (by decide))
  refine ⟨?_, ?_, ?_, ?_, fun h => ?_, fun hf hbig => ?_, fun hf hsmall => ?_⟩
  · rw [State.rdN, hrd _ (by decide)]; exact judged_offset s o
  · rw [hnet]; simp [State.judged]
  · rw [hnet]; simp [State.judged]
  · rw [hsync, judged_synced, syncedBy_eq]
  · rw [State.has, hraised]; exact judged_event s o (hsync ▸ h)
  · rw [measure_eq, if_pos hf, if_neg (by omega), State.stepTime, judged_now]
    simp only [advance_devTime_congr (judged_now s o) (judged_devTime s o) (judged_rateCorr s o), neg_mul, ← sub_eq_add_neg]
  · rw [measure_eq, if_pos hf, if_pos hsmall]
    exact ⟨judged_devTime s o, setRate_bound _ _⟩

/-- A measurement reads no more of the state before it than its registers, notes and times. -/
theorem Measured.congr {s s' u : State} {o : Int} (h : Measured s u o) (hr : s'.rd NET_TIME_STATUS = s.rd NET_TIME_STATUS)
    (hg : s'.net.goodRun = s.net.goodRun) (hn : s'.now = s.now) (hd : s'.devTime = s.devTime) (hc : s'.rateCorr = s.rateCorr)
    (hf : s'.fwRuns = s.fwRuns) : Measured s' u o := by
  unfold Measured at h ⊢
  rw [flag_congr (s := s) (t := s') (f := NET_TIME_STATUS_SYNCED) hr, hg, hn, hf, hd, advance_devTime_congr hn hd hc]
  exact h

end Sys2Proof.Machine
end

section
/-! PROOFS. The commands of the network and of time synchronisation (R432, R435 to R438, R440, R442). -/

namespace Sys2Proof.Machine

open Sys2Proof.Laws

/-! ### Ethernet lanes (R432, R443) -/

theorem netLink_changes (l : Fin 4) (lock rf : Bool) {s : State} (hc : s.pwr.coreInReset = false)
    (h : s.bit NET_STATUS l ≠ (lock && !rf)) :
    exec (.netLink l lock rf) s = .next ((s.setBit NET_STATUS l (lock && !rf)).raise EV_NET_LINK).settle := by
  show done (s.inCore _) = _
  rw [inCore_run hc, if_neg h]
  rfl

theorem bit_setBit_same (s : State) (k n : Nat) (b : Bool) (hn : n < 32) : (s.setBit k n b).bit k n = b := by
  rw [State.bit, rd_setBit, if_pos rfl, put_testBit _ _ _ _ (by simp) (by simpa using hn)]
  cases b <;> simp [b2n]

theorem netLink_same (l : Fin 4) (lock rf : Bool) {s : State} (h : s.bit NET_STATUS l = (lock && !rf)) :
    exec (.netLink l lock rf) s = .next s.settle := by
  show done (s.inCore _) = _
  cases hc : s.pwr.coreInReset
  · rw [inCore_run hc, if_pos h]; rfl
  · rw [inCore_reset hc]; rfl

/-- The counters of the lanes lie apart from what the end of a step writes, and from each other. -/
theorem lane_keys : ∀ l : Fin 4, settleKey (NET_LANE_RX_DROP l) = false ∧ settleKey (NET_LANE_FCS_ERR l) = false
    ∧ settleKey (NET_LANE_FEC l) = false ∧ NET_LANE_RX_DROP l ≠ NET_LANE_FCS_ERR l ∧ NET_LANE_RX_DROP l ≠ NET_LANE_FEC l
    ∧ NET_LANE_FCS_ERR l ≠ NET_LANE_FEC l := by decide +kernel

/-- A counter of 32 bits counts modulo 2^32. -/
theorem ofNat_rdN_succ (s : State) (k : Nat) : BitVec.ofNat 32 (s.rdN k + 1) = s.rd k + 1 := by
  apply BitVec.eq_of_toNat_eq; simp [State.rdN]

theorem rd_wrN_succ (s : State) (k : Nat) : (s.wrN k (s.rdN k + 1)).rd k = s.rd k + 1 := by
  rw [rd_wrN, if_pos rfl, ofNat_rdN_succ]

/-- A gPTP frame on a lane other than PTP_LANE is dropped and counted. -/
theorem gptp_dropped (t : Nat) (l : Fin 4) (m : GptpMsg) {s : State} (hc : s.pwr.coreInReset = false)
    (hl : l.val ≠ s.fld NET_TIME_CTRL_PTP_LANE) :
    exec (.gptpFrameReceived t l m) s
      = .next ((s.advance t).wrN (NET_LANE_RX_DROP l) ((s.advance t).rdN (NET_LANE_RX_DROP l) + 1)).settle := by
  show done ((s.advance t).inCore _) = _
  rw [inCore_run (by simpa using hc), if_neg (by simpa using hl)]
  rfl

/-- One on PTP_LANE is taken while Priard runs. -/
theorem gptp_taken (t : Nat) (l : Fin 4) (m : GptpMsg) {s : State} (hc : s.pwr.coreInReset = false) (hf : s.fwRuns = true)
    (hl : l.val = s.fld NET_TIME_CTRL_PTP_LANE) :
    exec (.gptpFrameReceived t l m) s = .next ((s.advance t).gptp m).settle := by
  show done ((s.advance t).inCore _) = _
  rw [inCore_run (by simpa using hc), if_pos (by simpa using hl), if_pos (by simpa using hf)]
  rfl

/-- A frame dropped: the state in which it and what is wrong with it are counted. -/
def State.foreign (s : State) (l : Nat) (ok : Bool) : State :=
  let t := s.wrN (NET_LANE_RX_DROP l) (s.rdN (NET_LANE_RX_DROP l) + 1)
  if ok then t else t.wrN (NET_LANE_FCS_ERR l) (t.rdN (NET_LANE_FCS_ERR l) + 1)

theorem foreignFrame_exec (l : Fin 4) (ok : Bool) (corr uncorr : BitVec 16) {s : State} (hc : s.pwr.coreInReset = false) :
    exec (.foreignFrameDrop l ok corr uncorr) s = .next
      (((s.foreign l ok).bump (NET_LANE_FEC_CORR l) corr.toNat).bump (NET_LANE_FEC_UNCORR l) uncorr.toNat).settle := by
  show done (s.inCore _) = _
  rw [inCore_run hc]
  rfl

theorem foreign_rd (s : State) (l : Fin 4) (ok : Bool) : (s.foreign l ok).rd (NET_LANE_RX_DROP l) = s.rd (NET_LANE_RX_DROP l) + 1
    ∧ (s.foreign l ok).rd (NET_LANE_FCS_ERR l) = (if ok then s.rd (NET_LANE_FCS_ERR l) else s.rd (NET_LANE_FCS_ERR l) + 1)
    ∧ (s.foreign l ok).rd (NET_LANE_FEC l) = s.rd (NET_LANE_FEC l) := by
  obtain ⟨-, -, -, n1, n2, n3⟩ := lane_keys l
  have h2 : (s.wrN (NET_LANE_RX_DROP l) (s.rdN (NET_LANE_RX_DROP l) + 1)).rd (NET_LANE_FCS_ERR l) = s.rd (NET_LANE_FCS_ERR l) :=
    rd_wr_other s _ n1.symm
  have h3 : (s.wrN (NET_LANE_RX_DROP l) (s.rdN (NET_LANE_RX_DROP l) + 1)).rd (NET_LANE_FEC l) = s.rd (NET_LANE_FEC l) :=
    rd_wr_other s _ n2.symm
  cases ok
  · refine ⟨(rd_wr_other _ _ n1).trans (rd_wrN_succ s _), ?_, (rd_wr_other _ _ n3.symm).trans h3⟩
    simpa [State.foreign, h2] using rd_wrN_succ (s.wrN (NET_LANE_RX_DROP l) (s.rdN (NET_LANE_RX_DROP l) + 1)) (NET_LANE_FCS_ERR l)
  · exact ⟨rd_wrN_succ s _, h2, h3⟩

theorem foreign_kept (s : State) (l : Nat) (ok : Bool) :
    Kept s (s.foreign l ok) [NET_LANE_RX_DROP l, NET_LANE_FCS_ERR l, NET_LANE_FEC l] := by
  have h : Kept s (s.wrN (NET_LANE_RX_DROP l) (s.rdN (NET_LANE_RX_DROP l) + 1))
      [NET_LANE_RX_DROP l, NET_LANE_FCS_ERR l, NET_LANE_FEC l] := (Kept.refl s _).wrN _ (by simp)
  cases ok
  · exact h.wrN _ (by simp)
  · exact h

/-- The two counters of NET_LANE_FEC lie side by side. -/
theorem fec_fields (l : Nat) : (NET_LANE_FEC_CORR l).lo ≤ (NET_LANE_FEC_CORR l).hi ∧ (NET_LANE_FEC_CORR l).hi < 32
    ∧ (NET_LANE_FEC_UNCORR l).lo ≤ (NET_LANE_FEC_UNCORR l).hi ∧ (NET_LANE_FEC_UNCORR l).hi < 32
    ∧ (NET_LANE_FEC_CORR l).hi < (NET_LANE_FEC_UNCORR l).lo := by simp [NET_LANE_FEC_CORR, NET_LANE_FEC_UNCORR]

/-- A frame other than gPTP is dropped and counted, a bad FCS and the FEC's codewords with it. -/
theorem foreignFrame_gives (l : Fin 4) (ok : Bool) (corr uncorr : BitVec 16) {s : State} (hc : s.pwr.coreInReset = false) :
    Gives (.foreignFrameDrop l ok corr uncorr) s fun t => t.rd (NET_LANE_RX_DROP l) = s.rd (NET_LANE_RX_DROP l) + 1
      ∧ t.rd (NET_LANE_FCS_ERR l) = (if ok then s.rd (NET_LANE_FCS_ERR l) else s.rd (NET_LANE_FCS_ERR l) + 1)
      ∧ t.fld (NET_LANE_FEC_CORR l) = min 65535 (s.fld (NET_LANE_FEC_CORR l) + corr.toNat)
      ∧ t.fld (NET_LANE_FEC_UNCORR l) = min 65535 (s.fld (NET_LANE_FEC_UNCORR l) + uncorr.toNat)
      ∧ Kept s t [NET_LANE_RX_DROP l, NET_LANE_FCS_ERR l, NET_LANE_FEC l] := by
  obtain ⟨k1, k2, k3, -, n2, n3⟩ := lane_keys l
  obtain ⟨c1, c2, u1, u2, cu⟩ := fec_fields l
  obtain ⟨drop, fcs, fec⟩ := foreign_rd s l ok
  let a := (s.foreign l ok).bump (NET_LANE_FEC_CORR l) corr.toNat
  have hoff {k : Nat} (hk : k ≠ NET_LANE_FEC l) : (a.bump (NET_LANE_FEC_UNCORR l) uncorr.toNat).rd k = (s.foreign l ok).rd k :=
    (rd_wr_other a _ hk).trans (rd_wr_other _ _ hk)
  have hcorr : a.fld (NET_LANE_FEC_CORR l) = min 65535 (s.fld (NET_LANE_FEC_CORR l) + corr.toNat) := by
    rw [fld_bump_same _ _ _ c1 c2, fld_congr (f := NET_LANE_FEC_CORR l) fec]; rfl
  have hunc : a.fld (NET_LANE_FEC_UNCORR l) = s.fld (NET_LANE_FEC_UNCORR l) :=
    (fld_setFld_other _ _ _ _ c1 c2 (.inr (.inr cu))).trans (fld_congr (f := NET_LANE_FEC_UNCORR l) fec)
  refine ⟨_, foreignFrame_exec l ok corr uncorr hc, ?_, ?_, ?_, ?_, ((foreign_kept s l ok).bump _ ?_).bump _ ?_ |>.settle⟩
  · rw [settle_rd _ k1, hoff n2, drop]
  · rw [settle_rd _ k2, hoff n3, fcs]
  · rw [settle_fld _ k3, ← hcorr]
    exact fld_setFld_other _ _ _ _ u1 u2 (.inr (.inl cu))
  · rw [settle_fld _ k3, fld_bump_same _ _ _ u1 u2, hunc]; rfl
  · simp [NET_LANE_FEC_CORR]
  · simp [NET_LANE_FEC_UNCORR]

end Sys2Proof.Machine
end

section
/-! PROOFS. Steps of device time, PPS edges, gPTP and TIME frames as commands, and the statement they make together (R9, R435 to R438, R440,
R442). -/

namespace Sys2Proof.Machine

open Sys2Proof.Laws

/-! ### gPTP messages (R436) -/

/-- A Follow_Up after its Sync is a measurement while gPTP is in force. -/
theorem gptp_followUp {s : State} {rx : Nat} {delay : Int} (origin : Int) (hrx : s.net.syncRx = some rx)
    (hd : s.net.peerDelay = delay) (hf : s.fld NET_TIME_STATUS_IN_FORCE = 1) :
    s.gptp (.followUp origin) = (s.setNet { s.net with syncRx := none }).measure (rx - (origin + delay)) := by
  subst hd
  unfold State.gptp
  simp only [hrx]
  exact if_pos hf

theorem gptp_pdelayRespFollowUp {s : State} {t1 t2 t4 : Int} (t3 : Int) (htx : s.net.pdelayTx = some t1)
    (hrx : s.net.pdelayRx = some (t2, t4)) :
    s.gptp (.pdelayRespFollowUp t3)
      = s.setNet { s.net with peerDelay := ((t4 - t1) - (t3 - t2)).fdiv 2, pdelayTx := none, pdelayRx := none } := by
  unfold State.gptp
  simp only [htx, hrx]
  rfl

theorem measure_syncRx (s : State) (o : Int) : (s.measure o).net.syncRx = s.net.syncRx := by
  rw [measure_net]

/-- A measurement of a state that differs from `s` in the network's notes, but not in the run, is a measurement of `s`. -/
theorem measure_setNet_measured (s : State) {x : NetState} (hg : x.goodRun = s.net.goodRun) (o : Int) :
    Measured s ((s.setNet x).measure o) o :=
  (measure_measured (s.setNet x) o).congr rfl hg.symm rfl rfl rfl rfl

/-! ### Steps of device time (R437) -/

theorem timeStep_exec {s : State} {p : Port} (hi : Word) (h : Reaches s p NET_TIME_STEP_HI) :
    exec (.timeStep p hi) s
      = .next ((s.stepTime (signedN 64 (hi.toNat * 2 ^ 32 + s.rdN NET_TIME_STEP_LO))).wr NET_TIME_STEP_LO 0).settle := by
  obtain ⟨hs, hb, hp⟩ := h
  show done (s.hostGate p NET_TIME_STEP_HI false _) = _
  rw [hostGate_reaches s p _ _ _ hs hb hp rfl]
  rfl

theorem stepTime_kept (s : State) (ns : Int) (keys : List Nat) : Kept s (s.stepTime ns) keys :=
  ((Kept.refl s keys).advance _).of_eq rfl rfl rfl rfl

/-! ### PPS (R438) -/

/-- A PPS edge now comes 0.9999 to 1.0001 s after the last one, or is the first. -/
def State.ppsInTime (s : State) : Bool :=
  match s.net.lastPps with
  | none => true
  | some a => decide (a + 255974400000 ≤ s.now) && decide (s.now ≤ a + 256025600000)

/-- The offset that a PPS edge measures now: against the second that NET_PPS_SEC names, else against the nearest whole second. -/
def State.ppsOffset (s : State) : Int :=
  if s.flag NET_PPS_SEC_VALID then (s.ns : Int) - (s.fld NET_PPS_SEC_SEC : Nat) * 1000000000
  else (s.ns : Int) - (((s.ns : Int) + 500000000).fdiv 1000000000) * 1000000000

theorem ppsOffset_advance (s : State) (t : Nat) : (s.advance t).ppsOffset =
    if s.flag NET_PPS_SEC_VALID then ((s.advance t).ns : Int) - (s.fld NET_PPS_SEC_SEC : Nat) * 1000000000
    else ((s.advance t).ns : Int) - ((((s.advance t).ns : Int) + 500000000).fdiv 1000000000) * 1000000000 := by
  unfold State.ppsOffset
  rw [flag_advance, fld_advance]

/-- A PPS edge is taken now, before it measures: its instant is kept, and NET_PPS_SEC is used up. -/
def State.ppsTaken (s : State) : State :=
  if s.flag NET_PPS_SEC_VALID then (s.setNet { s.net with lastPps := some s.now }).setFlag NET_PPS_SEC_VALID false
  else s.setNet { s.net with lastPps := some s.now }

theorem pps_ignored (t : Nat) {s : State} (hc : s.pwr.coreInReset = false) (hf : s.fld NET_TIME_STATUS_IN_FORCE ≠ 2) :
    exec (.ppsInEdge t) s = .next (s.advance t).settle := by
  show done ((s.advance t).inCore _) = _
  rw [inCore_run (by simpa using hc), if_pos (by simpa using hf)]
  rfl

theorem pps_rejected (t : Nat) {s : State} (hc : s.pwr.coreInReset = false) (hf : s.fld NET_TIME_STATUS_IN_FORCE = 2)
    (hg : (s.advance t).ppsInTime = false) :
    exec (.ppsInEdge t) s = .next ((s.advance t).bump NET_SYNC_ERR_PPS_REJECT 1).settle := by
  show done ((s.advance t).inCore _) = _
  rw [inCore_run (by simpa using hc), if_neg (by simpa using hf)]
  exact congrArg done (if_pos (by rw [Bool.not_eq_true']; exact hg))

theorem pps_taken (t : Nat) {s : State} (hc : s.pwr.coreInReset = false) (hf : s.fld NET_TIME_STATUS_IN_FORCE = 2)
    (hg : (s.advance t).ppsInTime = true) :
    exec (.ppsInEdge t) s = .next ((s.advance t).ppsTaken.measure (s.advance t).ppsOffset).settle := by
  show done ((s.advance t).inCore _) = _
  rw [inCore_run (by simpa using hc), if_neg (by simpa using hf)]
  refine (congrArg done (if_neg (by rw [Bool.not_eq_true']; exact Bool.not_eq_false _ ▸ hg))).trans (congrArg done ?_)
  cases hv : (s.advance t).flag NET_PPS_SEC_VALID
  · have hn : ¬ (s.advance t).flag NET_PPS_SEC_VALID = true := by simp [hv]
    rw [show (s.advance t).ppsTaken = _ from if_neg hn, show (s.advance t).ppsOffset = _ from if_neg hn]
    exact if_neg hn
  · rw [show (s.advance t).ppsTaken = _ from if_pos hv, show (s.advance t).ppsOffset = _ from if_pos hv]
    exact if_pos hv

theorem ppsTaken_rd (s : State) {k : Nat} (h : k ≠ NET_PPS_SEC) : s.ppsTaken.rd k = s.rd k := by
  unfold State.ppsTaken
  split
  · exact rd_wr_other _ _ h
  · rfl

/-- Taking an edge notes its instant, and no time passes. -/
theorem ppsTaken_notes (s : State) : s.ppsTaken.net = { s.net with lastPps := some s.now } ∧ s.ppsTaken.now = s.now
    ∧ s.ppsTaken.devTime = s.devTime ∧ s.ppsTaken.rateCorr = s.rateCorr := by
  unfold State.ppsTaken
  split
  · exact ⟨State.setFlag_net _ _ _, State.setFlag_now _ _ _, State.setFlag_devTime _ _ _, State.setFlag_rateCorr _ _ _⟩
  · exact ⟨rfl, rfl, rfl, rfl⟩

/-- NET_PPS_SEC names the second of one edge only. -/
theorem ppsTaken_valid (s : State) : s.ppsTaken.flag NET_PPS_SEC_VALID = false := by
  unfold State.ppsTaken
  split
  · exact flag_setFlag_same _ _ _ (by decide) (by decide)
  next h => simpa using h

theorem ppsTaken_measured (s : State) (o : Int) : Measured s (s.ppsTaken.measure o) o := by
  obtain ⟨net, now, time, rate⟩ := ppsTaken_notes s
  exact (measure_measured _ o).congr (ppsTaken_rd s (by decide)).symm (by rw [net]) now.symm time.symm rate.symm
    (fwRuns_congr (ppsTaken_rd s (by decide))).symm

/-- P83 rises at second `sec` of device time, which it has now (R438). -/
def State.ppsOut (s : State) (sec : Nat) : State :=
  let s := s.setNet { s.net with ppsSecond := sec }
  if s.flag NET_PPS_CFG_OUT_EN then s.setNet { s.net with ppsUntil := s.now + 2560 * s.fld NET_PPS_CFG_OUT_W } else s

/-- The whole second at which PPS_OUT pulses next. -/
def State.nextSecond (s : State) : Nat :=
  max (s.net.ppsSecond + 1) ((s.devTime + 1000000000 * 2 ^ 48 - 1) / (1000000000 * 2 ^ 48))

theorem ppsOut_exec {s : State} (hc : s.pwr.coreInReset = false) :
    exec .ppsOutPulse s = .next ((s.advance (s.tickAt (s.nextSecond * 1000000000))).ppsOut s.nextSecond).settle := by
  show done (s.inCore _) = _
  rw [inCore_run hc]
  rfl

/-- The pulse is noted, and no time passes. -/
theorem ppsOut_notes (s : State) (sec : Nat) : (s.ppsOut sec).now = s.now ∧ (s.ppsOut sec).net.ppsSecond = sec
    ∧ (s.ppsOut sec).net.ppsUntil
      = if s.flag NET_PPS_CFG_OUT_EN then s.now + 2560 * s.fld NET_PPS_CFG_OUT_W else s.net.ppsUntil := by
  cases hv : s.flag NET_PPS_CFG_OUT_EN <;> simp [State.ppsOut, hv]

theorem ppsOut_kept (s : State) (sec : Nat) (keys : List Nat) : Kept s (s.ppsOut sec) keys := by
  have h : Kept s (s.setNet { s.net with ppsSecond := sec }) keys := (Kept.refl s keys).net _
  unfold State.ppsOut
  extract_lets u
  split
  · exact h.net _
  · exact h

/-! ### TIME frames (R440, R442) -/

/-- A link shows a good frame now. -/
def State.linkGood (s : State) (c : Nat) : State := s.setLink c { s.link c with goodAt := s.now }

theorem linkGood_link (s : State) (c : Fin 2) : (s.linkGood c).link c = { s.link c with goodAt := s.now } := by
  fin_cases c <;> rfl

theorem linkGood_rd (s : State) (c k : Nat) : (s.linkGood c).rd k = s.rd k := by
  unfold State.linkGood State.setLink; split <;> rfl

theorem linkGood_fld (s : State) (c : Nat) (f : Fld) : (s.linkGood c).fld f = s.fld f := fld_congr (linkGood_rd s c _)

theorem linkGood_ns (s : State) (c : Nat) : (s.linkGood c).ns = s.ns := by
  unfold State.linkGood State.setLink; split <;> rfl

theorem linkGood_kept (s : State) (c : Nat) (keys : List Nat) : Kept s (s.linkGood c) keys := by
  unfold State.linkGood State.setLink; split <;> exact (Kept.refl s keys).net _

/-- Which link leads to the chain time master does not depend on when a link's last good frame came. -/
theorem linkGood_masterLink (s : State) (c : Fin 2) : (s.linkGood c).masterLink = s.masterLink := by
  have hl (x : Nat) : ∃ h, (s.linkGood c).link x = { s.link x with goodAt := h } := by
    fin_cases c <;> by_cases hx : x = 0
    · exact ⟨s.now, by simp [State.linkGood, State.setLink, State.link, hx]⟩
    · exact ⟨s.net.link1.goodAt, by simp [State.linkGood, State.setLink, State.link, hx]⟩
    · exact ⟨s.net.link0.goodAt, by simp [State.linkGood, State.setLink, State.link, hx]⟩
    · exact ⟨s.now, by simp [State.linkGood, State.setLink, State.link, hx]⟩
  choose at_ hat using hl
  simp only [State.masterLink, State.ownQuality, State.serial, State.flag, State.rdN, hat, linkGood_fld, linkGood_rd]
  rfl

theorem linkGood_measured (s : State) (c : Fin 2) (o : Int) : Measured s ((s.linkGood c).measure o) o := by
  refine (measure_measured _ o).congr (linkGood_rd s c _).symm ?_ ?_ ?_ ?_ (fwRuns_congr (linkGood_rd s c _)).symm <;>
    fin_cases c <;> rfl

/-- A good TIME frame on an enabled link, arriving now: its instant is kept, and the link that leads to the master measures with IN_FORCE = 3. -/
def State.timeFrame (s : State) (c : Nat) (t2 t3 : Int) : State :=
  let s := s.linkGood c
  match (s.link c).sentNs with
  | some t1 =>
    if s.fld NET_TIME_STATUS_IN_FORCE = 3 && s.masterLink = some c then s.measure ((((t1 : Int) - t2) + ((s.ns : Int) - t3)).fdiv 2)
    else s
  | none => s

theorem timeFrame_exec (t : Nat) (c : Fin 2) (t2 t3 : Int) {s : State} (hc : s.pwr.coreInReset = false) (hl : s.linkEnabled c = true) :
    exec (.timeFrameReceived t c t2 t3) s = .next ((s.advance t).timeFrame c t2 t3).settle := by
  show done ((s.advance t).inCore _) = _
  rw [inCore_run (by simpa using hc)]
  exact congrArg done (if_neg (by rw [linkEnabled_advance, hl]; decide))

/-- A TIME frame on a link that is not enabled is not taken. -/
theorem timeFrame_disabled (t : Nat) (c : Fin 2) (t2 t3 : Int) {s : State} (hl : s.linkEnabled c = false) :
    exec (.timeFrameReceived t c t2 t3) s = .next (s.advance t).settle := by
  show done ((s.advance t).inCore _) = _
  cases hc : (s.advance t).pwr.coreInReset
  · rw [inCore_run hc, if_pos (by rw [linkEnabled_advance, hl]; decide)]; rfl
  · rw [inCore_reset hc]; rfl

theorem masterLink_advance (s : State) (t : Nat) : (s.advance t).masterLink = s.masterLink := by
  unfold State.advance; split <;> rfl

/-- A measured TIME frame of the link to the master, with IN_FORCE = 3. -/
theorem timeFrame_measures {s : State} {c : Fin 2} {t1 : Nat} (t2 t3 : Int) (hf : s.fld NET_TIME_STATUS_IN_FORCE = 3)
    (hm : s.masterLink = some c.val) (ht : (s.link c).sentNs = some t1) :
    s.timeFrame c t2 t3 = (s.linkGood c).measure ((((t1 : Int) - t2) + ((s.ns : Int) - t3)).fdiv 2) := by
  simp [State.timeFrame, linkGood_link, ht, linkGood_ns, linkGood_masterLink, hm, linkGood_fld, hf]

/-- Any other TIME frame only shows that the link works. -/
theorem timeFrame_unmeasured {s : State} {c : Fin 2} (t2 t3 : Int)
    (h : s.fld NET_TIME_STATUS_IN_FORCE ≠ 3 ∨ s.masterLink ≠ some c.val ∨ (s.link c).sentNs = none) :
    s.timeFrame c t2 t3 = s.linkGood c := by
  simp only [State.timeFrame, linkGood_link, linkGood_masterLink, linkGood_fld]
  cases ht : (s.link c).sentNs with
  | none => rfl
  | some t1 =>
    have hn : ¬ (s.fld NET_TIME_STATUS_IN_FORCE = 3 ∧ s.masterLink = some c.val) := by
      rintro ⟨h1, h2⟩
      rcases h with h | h | h
      · exact h h1
      · exact h h2
      · simp [ht] at h
    simp [hn]

/-- A link is as before a measurement. -/
theorem link_measure (s : State) (o : Int) (c : Nat) : (s.measure o).link c = s.link c := by
  rw [State.link, measure_net]; rfl

/-! ### Measurements missed (R435) -/

/-- Three measurements in a row are missed now: SYNCED clears. -/
def State.missed (s : State) : State :=
  let was := s.flag NET_TIME_STATUS_SYNCED
  ((s.setNet { s.net with goodRun := 0, unsyncedAt := if was then s.now else s.net.unsyncedAt }).setFlag NET_TIME_STATUS_SYNCED
    false).raiseIf was EV_NET_SYNC

theorem missed_exec (t : Nat) {s : State} (hc : s.pwr.coreInReset = false) (hf : s.fld NET_TIME_STATUS_IN_FORCE ≠ 0) :
    exec (.missedSyncMeasurement t) s = .next ((s.advance (s.thirdMiss t)).missed).settle := by
  show done (s.inCore _) = _
  rw [inCore_run hc, if_neg hf]
  rfl

theorem missed_free (t : Nat) {s : State} (hf : s.fld NET_TIME_STATUS_IN_FORCE = 0) :
    exec (.missedSyncMeasurement t) s = .next s.settle := by
  show done (s.inCore _) = _
  cases hc : s.pwr.coreInReset
  · rw [inCore_run hc, if_pos hf]; rfl
  · rw [inCore_reset hc]; rfl

theorem missed_effect (s : State) : s.missed.now = s.now ∧ s.missed.flag NET_TIME_STATUS_SYNCED = false ∧ s.missed.net.goodRun = 0
    ∧ (s.flag NET_TIME_STATUS_SYNCED = true → s.missed.has EV_NET_SYNC = true) ∧ Kept s s.missed [NET_TIME_STATUS] := by
  unfold State.missed
  refine ⟨?_, ?_, ?_, fun h => ?_, ?_⟩
  · rw [State.raiseIf_now, State.setFlag_now, setNet_now]
  · rw [flag_congr (rd_raiseIf _ _ _ _), flag_setFlag_same _ _ _ (by decide) (by decide)]
  · rw [State.raiseIf_net, State.setFlag_net, setNet_net]
  · rw [has_raiseIf, h, Bool.or_true]
  · exact (((Kept.refl s _).net _).setFlag _ (by decide)).raiseIf _ _

theorem fallback_exec {s : State} (hc : s.pwr.coreInReset = false) (h1 : s.fld NET_TIME_CTRL_SOURCE ≠ 0)
    (h2 : s.flag NET_TIME_STATUS_SYNCED = false) (h3 : s.syncedSibling = true) :
    exec .chainTimeFallback s
      = .next ((s.advance (s.net.unsyncedAt + 2560000000000)).setFld NET_TIME_STATUS_IN_FORCE 3).settle := by
  show done (s.inCore _) = _
  rw [inCore_run hc, if_pos (by simp [h1, h2, h3])]
  rfl

theorem pdelayReq_exec {s : State} (hc : s.pwr.coreInReset = false) (hf : s.fwRuns = true) :
    exec .pdelayReqSend s = .next (({ s with wire := s.wire ++ [.gptp (s.fld NET_TIME_CTRL_PTP_LANE) 2 ((s.ns : Int) - s.fld NET_PTP_LAT_V)] }
      : State).setNet { s.net with pdelayTx := some ((s.ns : Int) - s.fld NET_PTP_LAT_V), pdelayRx := none }).settle := by
  show done (s.inCore _) = _
  rw [inCore_run hc, if_neg (by simp [hf])]
  rfl

/-- The network's notes after a good frame at tick `t`. -/
theorem linkGood_advance_net (s : State) (c : Fin 2) (t : Nat) :
    ((s.advance t).linkGood c).net = (s.setLink c { s.link c with goodAt := max s.now t }).net := by
  have h : (s.advance t).linkGood c = (s.advance t).setLink c { s.link c with goodAt := max s.now t } := by
    simp [State.linkGood]
  rw [h]
  fin_cases c <;> simp [State.setLink]

/-! ### The commands -/

/-- A gPTP measurement against the source in force (R435, R436). -/
theorem gptpFollowUp_does {t : Nat} {l : Fin 4} {origin : Int} {rx : Nat} {s : State} (hc : s.pwr.coreInReset = false)
    (hf : s.fwRuns = true) (hl : l.val = s.fld NET_TIME_CTRL_PTP_LANE) (hrx : s.net.syncRx = some rx)
    (hforce : s.fld NET_TIME_STATUS_IN_FORCE = 1) :
    Does (.gptpFrameReceived t l (.followUp origin)) s fun u =>
      u.net.syncRx = none ∧ Measured (s.advance t) u (rx - (origin + s.net.peerDelay)) := by
  have hm := gptp_followUp (s := s.advance t) (delay := s.net.peerDelay) origin (by rw [State.advance_net, hrx])
    (by rw [State.advance_net]) (by rw [fld_advance, hforce])
  refine ⟨_, gptp_taken t l _ hc hf hl, ?_, ?_⟩ <;> rw [hm]
  · exact measure_syncRx _ _
  · exact measure_setNet_measured (s.advance t) (x := { (s.advance t).net with syncRx := none }) rfl _

/-- The delay of the peer is half of what its answer took beyond its own share (R436). -/
theorem gptpRespFollowUp_does {t : Nat} {l : Fin 4} {t1 t2 t3 t4 : Int} {s : State} (hc : s.pwr.coreInReset = false)
    (hf : s.fwRuns = true) (hl : l.val = s.fld NET_TIME_CTRL_PTP_LANE) (htx : s.net.pdelayTx = some t1)
    (hrx : s.net.pdelayRx = some (t2, t4)) :
    Does (.gptpFrameReceived t l (.pdelayRespFollowUp t3)) s fun u =>
      u.net.peerDelay = ((t4 - t1) - (t3 - t2)).fdiv 2 ∧ u.net.pdelayTx = none ∧ Kept s u [] := by
  have hm := gptp_pdelayRespFollowUp (s := s.advance t) t3 (by rw [State.advance_net, htx]) (by rw [State.advance_net, hrx])
  refine ⟨_, gptp_taken t l _ hc hf hl, ?_⟩
  rw [hm]
  exact ⟨rfl, rfl, ((Kept.refl s _).advance t).net _⟩

/-- NET_TIME_STEP_HI steps device time at the next reference period (R437). -/
theorem timeStep_gives {p : Port} {hi : Word} {s : State} (h : Reaches s p NET_TIME_STEP_HI) :
    Gives (.timeStep p hi) s fun t => t.rd NET_TIME_STEP_LO = 0 ∧ Kept s t [NET_TIME_STEP_LO]
      ∧ t.devTime = (((s.advance ((s.now + 2559) / 2560 * 2560)).devTime : Int)
        + signedN 64 (hi.toNat * 2 ^ 32 + s.rdN NET_TIME_STEP_LO) * 2 ^ 48).toNat % 2 ^ 112 := by
  refine ⟨_, timeStep_exec hi h, ?_, ((stepTime_kept s _ _).wr _ (by simp)).settle, ?_⟩
  · rw [settle_rd _ (by decide), rd_wr_same]
  · rw [settle_devTime, State.wr_devTime, State.stepTime]

/-- A PPS edge too early or too late is rejected and counted (R438). -/
theorem ppsLate_gives {t a : Nat} {s : State} (hc : s.pwr.coreInReset = false) (hf : s.fld NET_TIME_STATUS_IN_FORCE = 2)
    (hlast : s.net.lastPps = some a) (ht : s.now ≤ t) (hlate : t < a + 255974400000 ∨ a + 256025600000 < t) :
    Gives (.ppsInEdge t) s fun x => x.net = s.net ∧ Kept s x [NET_SYNC_ERR]
      ∧ x.fld NET_SYNC_ERR_PPS_REJECT
        = min (2 ^ (NET_SYNC_ERR_PPS_REJECT.hi + 1 - NET_SYNC_ERR_PPS_REJECT.lo) - 1) (s.fld NET_SYNC_ERR_PPS_REJECT + 1) := by
  have hg : (s.advance t).ppsInTime = false := by
    simp only [State.ppsInTime, State.advance_net, hlast, State.advance_now, Nat.max_eq_right ht, Bool.and_eq_false_iff,
      decide_eq_false_iff_not, not_le]
    exact hlate
  refine ⟨_, pps_rejected t hc hf hg, by simp, (((Kept.refl s _).advance t).bump 1 (by decide)).settle, ?_⟩
  rw [settle_fld _ (by decide), fld_bump_same _ _ _ (by decide) (by decide), fld_advance]

/-- A PPS edge in time measures the offset (R438). -/
theorem ppsInTime_does {t : Nat} {o : Int} {s : State} (hc : s.pwr.coreInReset = false) (hf : s.fld NET_TIME_STATUS_IN_FORCE = 2)
    (hok : ∀ a, s.net.lastPps = some a → a + 255974400000 ≤ max s.now t ∧ max s.now t ≤ a + 256025600000)
    (ho : (s.advance t).ppsOffset = o) :
    Does (.ppsInEdge t) s fun u => u.net.lastPps = some (max s.now t) ∧ u.flag NET_PPS_SEC_VALID = false
      ∧ Measured (s.advance t) u o := by
  subst ho
  have hg : (s.advance t).ppsInTime = true := by
    unfold State.ppsInTime
    split
    · rfl
    next a ha =>
      obtain ⟨h1, h2⟩ := hok a (by simpa using ha)
      simp [h1, h2]
  refine ⟨_, pps_taken t hc hf hg, ?_, ?_, ppsTaken_measured _ _⟩
  · rw [measure_net, (ppsTaken_notes _).1, State.advance_now]
  · rw [flag_congr (measure_rd _ _ (by decide) (by decide) (by decide)), ppsTaken_valid]

/-- P83 rises at the next whole second of device time for OUT_W (R438). -/
theorem ppsOut_gives {s : State} (hc : s.pwr.coreInReset = false) :
    Gives .ppsOutPulse s fun t => t.now = max s.now (s.tickAt (s.nextSecond * 1000000000)) ∧ t.net.ppsSecond = s.nextSecond
      ∧ t.net.ppsUntil = (if s.flag NET_PPS_CFG_OUT_EN then t.now + 2560 * s.fld NET_PPS_CFG_OUT_W else s.net.ppsUntil) ∧ Kept s t [] := by
  obtain ⟨now, second, until_⟩ := ppsOut_notes (s.advance (s.tickAt (s.nextSecond * 1000000000))) s.nextSecond
  refine ⟨_, ppsOut_exec hc, ?_, ?_, ?_, (((Kept.refl s []).advance _).trans (ppsOut_kept _ _ _)).settle⟩
  · rw [settle_now, now, State.advance_now]
  · rw [settle_net, second]
  · rw [settle_net, settle_now, until_, now, flag_advance, fld_advance, State.advance_net]

/-- A TIME frame of the link to the master measures the offset with IN_FORCE = 3 (R442). -/
theorem timeFrameMeasured_does {t : Nat} {c : Fin 2} {t2 t3 : Int} {t1 : Nat} {s : State} (hc : s.pwr.coreInReset = false)
    (hl : s.linkEnabled c = true) (hf : s.fld NET_TIME_STATUS_IN_FORCE = 3) (hm : s.masterLink = some c.val)
    (ht : (s.link c).sentNs = some t1) :
    Does (.timeFrameReceived t c t2 t3) s fun u => (u.link c).goodAt = max s.now t
      ∧ Measured (s.advance t) u ((((t1 : Int) - t2) + (((s.advance t).ns : Int) - t3)).fdiv 2) := by
  have hmeas := timeFrame_measures (s := s.advance t) (c := c) (t1 := t1) t2 t3 (by rw [fld_advance, hf])
    ((masterLink_advance s t).trans hm) (by rw [link_advance, ht])
  refine ⟨_, hmeas ▸ timeFrame_exec t c t2 t3 hc hl, ?_, linkGood_measured (s.advance t) c _⟩
  rw [link_measure, linkGood_link, State.advance_now]

/-- Any other TIME frame on an enabled link only shows that the link works (R440). -/
theorem timeFrameUnmeasured_gives {t : Nat} {c : Fin 2} {t2 t3 : Int} {s : State} (hc : s.pwr.coreInReset = false)
    (hl : s.linkEnabled c = true)
    (h : s.fld NET_TIME_STATUS_IN_FORCE ≠ 3 ∨ s.masterLink ≠ some c.val ∨ (s.link c).sentNs = none) :
    Gives (.timeFrameReceived t c t2 t3) s fun x =>
      x.net = (s.setLink c { s.link c with goodAt := max s.now t }).net ∧ Kept s x [] := by
  have hun := timeFrame_unmeasured (s := s.advance t) (c := c) t2 t3 (by rwa [fld_advance, masterLink_advance, link_advance])
  refine ⟨_, hun ▸ timeFrame_exec t c t2 t3 hc hl, ?_, (((Kept.refl s []).advance t).trans (linkGood_kept _ _ _)).settle⟩
  rw [settle_net, linkGood_advance_net]

/-- Three measurements missed clear SYNCED (R435). -/
theorem missedSync_does {t : Nat} {s : State} (hc : s.pwr.coreInReset = false) (hf : s.fld NET_TIME_STATUS_IN_FORCE ≠ 0) :
    Does (.missedSyncMeasurement t) s fun u => u.now = max s.now (s.thirdMiss t) ∧ u.flag NET_TIME_STATUS_SYNCED = false
      ∧ u.net.goodRun = 0 ∧ (s.flag NET_TIME_STATUS_SYNCED = true → u.has EV_NET_SYNC = true) ∧ Kept s u [NET_TIME_STATUS] := by
  obtain ⟨now, synced, run, event, kept⟩ := missed_effect (s.advance (s.thirdMiss t))
  exact ⟨_, missed_exec t hc hf, by rw [now, State.advance_now], synced, run, fun h => event (by rw [flag_advance, h]),
    ((Kept.refl s _).advance _).trans kept⟩

/-- 10 s without SYNCED, a synced sibling is followed (R435). -/
theorem chainTimeFallback_gives {s : State} (hc : s.pwr.coreInReset = false) (h1 : s.fld NET_TIME_CTRL_SOURCE ≠ 0)
    (h2 : s.flag NET_TIME_STATUS_SYNCED = false) (h3 : s.syncedSibling = true) :
    Gives .chainTimeFallback s fun t => t.now = max s.now (s.net.unsyncedAt + 2560000000000) ∧ t.fld NET_TIME_STATUS_IN_FORCE = 3
      ∧ Kept s t [NET_TIME_STATUS] := by
  refine ⟨_, fallback_exec hc h1 h2 h3, ?_, ?_, (((Kept.refl s _).advance _).setFld _ (by decide)).settle⟩
  · rw [settle_now, State.setFld_now, State.advance_now]
  · rw [settle_fld _ (by decide), fld_setFld_same _ _ _ (by decide) (by decide)]
    rfl

/-- Settles O57: each command's own state is named above, and a measurement against any source is one rule, `measure_measured`. -/
theorem timeFollowsItsSource : Obligations.TimeFollowsItsSource := by
  unfold Obligations.TimeFollowsItsSource
  intro M
  refine ⟨?_, ?_, ?_, fun l ok corr uncorr s hc => foreignFrame_gives l ok corr uncorr hc, ?_, ?_, ?_,
    fun t l origin rx s hc hf hl hrx hforce => gptpFollowUp_does hc hf hl hrx hforce,
    fun t l t1 t2 t3 t4 s hc hf hl htx hrx => gptpRespFollowUp_does hc hf hl htx hrx, ?_,
    fun p hi s hr => timeStep_gives hr, ?_, fun t a s hc hf hlast ht hlate => ppsLate_gives hc hf hlast ht hlate, ?_,
    fun s hc => ppsOut_gives hc, fun t c t2 t3 t1 s hc hl hf hm ht => timeFrameMeasured_does hc hl hf hm ht,
    fun t c t2 t3 s hc hl h => timeFrameUnmeasured_gives hc hl h, ?_, fun t s hc hf => missedSync_does hc hf, ?_,
    fun s hc h1 h2 h3 => chainTimeFallback_gives hc h1 h2 h3⟩
  · intro l lock rf s hc h
    refine ⟨_, netLink_changes l lock rf hc h, ?_, ?_, (((Kept.refl s _).setBit _ _ (by simp)).raise _).settle⟩
    · rw [State.bit, settle_rd _ (by decide)]
      exact bit_setBit_same s _ _ _ (by omega)
    · exact logged_settle (r := ⟨EV_NET_LINK, none⟩) (by simp [State.raise]) (by decide)
  · intro l lock rf s h
    exact ⟨_, netLink_same l lock rf h, (Kept.refl s []).settle⟩
  · intro t l m s hc hl
    refine ⟨_, gptp_dropped t l m hc hl, ?_, by simp, by simp, (((Kept.refl s _).advance t).wrN _ (by simp)).settle⟩
    rw [settle_rd _ (lane_keys l).1, rd_wrN_succ, rd_advance]
  · intro t l s hc hf hl
    refine ⟨_, gptp_taken t l _ hc hf hl, ?_, ((Kept.refl s _).advance t).net _⟩
    show some (((s.advance t).ns : Int) + ((s.advance t).fld NET_PTP_LAT_V : Nat)).toNat = _
    rw [fld_advance]; rfl
  · intro t l s hc hf hl
    refine ⟨_, gptp_taken t l _ hc hf hl, ((Kept.refl s _).advance t).wire _, ?_⟩
    simp [State.gptp, hl]
  · intro t l t2 s hc hf hl
    refine ⟨_, gptp_taken t l _ hc hf hl, ?_, ((Kept.refl s _).advance t).net _⟩
    simp [State.gptp]
  · intro s hc hf
    exact ⟨_, pdelayReq_exec hc hf, rfl, rfl, rfl, ((Kept.refl s _).wire _).net _⟩
  · intro t s hc hf
    exact ⟨_, pps_ignored t hc hf, by simp, by simp, ((Kept.refl s _).advance t).settle⟩
  · intro t s hc hf hok
    exact ppsInTime_does hc hf hok (ppsOffset_advance s t)
  · intro t c t2 t3 s hl
    exact ⟨_, timeFrame_disabled t c t2 t3 hl, by simp, ((Kept.refl s []).advance t).settle⟩
  · intro t s hf
    exact ⟨_, missed_free t hf, by simp, (Kept.refl s []).settle⟩

end Sys2Proof.Machine
end

section
/-! PROOFS. A step on an empty queue; the counts of a sweep, and the set-up of a slot (R9, R33, R74, R75, R88, R435; log entry 64). -/

namespace Sys2Proof.Machine

open Sys2Proof.Laws

/-- Settles O3: an idle step is an advance by 2,560 ticks, which changes the clock and device time. -/
theorem emptyQueueIsOnePeriod : Obligations.EmptyQueueIsOnePeriod := by
  unfold Obligations.EmptyQueueIsOnePeriod
  intro s h
  refine ⟨s.idle, step_empty s h, idle_now s, idle_devTime s, ?_⟩
  unfold State.idle State.advance
  rw [if_pos (by omega)]

/-! ### The counts of a sweep and the sources raised -/

/-- From `s` to `t` the counts of lines started and not run stay, and no source raised is lost. -/
structure SweepKept (s t : State) : Prop where
  started : t.grid.linesStarted = s.grid.linesStarted
  notRun : t.grid.linesNotRun = s.grid.linesNotRun
  raised : ∀ r ∈ s.raised, r ∈ t.raised

theorem SweepKept.refl (s : State) : SweepKept s s := ⟨rfl, rfl, fun _ h => h⟩

theorem SweepKept.trans {s t u : State} (h : SweepKept s t) (g : SweepKept t u) : SweepKept s u :=
  ⟨g.started.trans h.started, g.notRun.trans h.notRun, fun r hr => g.raised r (h.raised r hr)⟩

theorem SweepKept.of_eq {s t : State} (hg : t.grid = s.grid) (hr : t.raised = s.raised) : SweepKept s t :=
  ⟨by rw [hg], by rw [hg], fun r h => by rwa [hr]⟩

theorem SweepKept.of_quiet {s t : State} (h : Quiet s t) : SweepKept s t :=
  ⟨show (keptState t).grid.linesStarted = (keptState s).grid.linesStarted by rw [h.kept],
   show (keptState t).grid.linesNotRun = (keptState s).grid.linesNotRun by rw [h.kept], h.more⟩

theorem SweepKept.ite {s t u : State} {c : Prop} [Decidable c] (h : SweepKept s t) (g : SweepKept s u) :
    SweepKept s (if c then t else u) := by split <;> assumption

theorem SweepKept.wr (s : State) (k : Nat) (w : Word) : SweepKept s (s.wr k w) := .of_eq rfl rfl
theorem SweepKept.setFld (s : State) (f : Fld) (v : Nat) : SweepKept s (s.setFld f v) := .wr s _ _
theorem SweepKept.setFlag (s : State) (f : Fld) (b : Bool) : SweepKept s (s.setFlag f b) := .wr s _ _
theorem SweepKept.setBit (s : State) (k n : Nat) (b : Bool) : SweepKept s (s.setBit k n b) := .wr s _ _
theorem SweepKept.bump (s : State) (f : Fld) (n : Nat) : SweepKept s (s.bump f n) := .wr s _ _
theorem SweepKept.raise (s : State) (e : Nat) : SweepKept s (s.raise e) := .of_quiet (quiet_raise s e)
theorem SweepKept.raiseIf (s : State) (c : Bool) (e : Nat) : SweepKept s (s.raiseIf c e) := .of_quiet (quiet_raiseIf s c e)
theorem SweepKept.advance (s : State) (t : Nat) : SweepKept s (s.advance t) := .of_eq (by simp) (by simp)

theorem SweepKept.loop (n : Nat) (f : Nat → State → State) (s : State) (h : ∀ i t, SweepKept t (f i t)) :
    SweepKept s (loop n f s) := by
  induction n with
  | zero => exact .refl s
  | succ n ih => exact ih.trans (h n _)

/-- The end of a step keeps the counts too. -/
theorem settle_linesStarted (s : State) : s.settle.grid.linesStarted = s.grid.linesStarted :=
  show (keptState s.settle).grid.linesStarted = (keptState s).grid.linesStarted by rw [settle_kept]
theorem settle_linesNotRun (s : State) : s.settle.grid.linesNotRun = s.grid.linesNotRun :=
  show (keptState s.settle).grid.linesNotRun = (keptState s).grid.linesNotRun by rw [settle_kept]

/-! ### The set-up of a slot (R74, R75, R88) -/

/-- The accountant notes rows it removed (R88). -/
def State.noteRemoved (s : State) (n : Nat) : State :=
  if n = 0 then s else
    let s := s.wrN EMT_EYE_SUPP (min (2 ^ 32 - 1) (s.rdN EMT_EYE_SUPP + n))
    let raise := !s.emt.limitRaised
    let s : State := { s with emt := { s.emt with limitRaised := true } }
    s.raiseIf raise EV_EMT_EYE_LIMIT

/-- The record of a slot is posted, and the columns take its own. -/
def State.postRecord (s : State) (r : ShotRec) (cols : BitVec 12) (sel : Nat) : State :=
  { s with hst := { s.hst with posted := s.hst.posted ++ [r], recSeq := s.hst.recSeq + 1 },
           emt := { s.emt with drive := { s.emt.drive with cols := cols, sel := sel, rows := 0, release := none } } }

theorem postRecord_inForce (s : State) (r : ShotRec) (cols : BitVec 12) (sel : Nat) : (s.postRecord r cols sel).inForce = s.inForce := rfl
theorem postRecord_sweep (s : State) (r : ShotRec) (cols : BitVec 12) (sel : Nat) : SweepKept s (s.postRecord r cols sel) := .of_eq rfl rfl

/-- The columns, the current profile and the rows of slot `k` of line `line` as the accountant lets them fire, with how many it removed. -/
def State.slotCols (v : State) (k line : Nat) : Nat := entryCols (v.patBits v.emt.activeBank (v.patternEntry line k))
def State.slotProfile (v : State) (k line : Nat) : Nat := v.patWord v.emt.activeBank (v.patternEntry line k) 6 % 16
def State.slotRows (s v : State) (k line : Nat) (idle : Bool) : List Nat × Nat :=
  s.rowsKept (v.slotProfile k line) (v.slotCols k line)
    (if v.fldF (SHT_SLOT_T_KIND k) = 2 || idle then [] else entryRows (v.patBits v.emt.activeBank (v.patternEntry line k)))

/-- The record that the set-up of a slot posts, from the state with its removals noted. -/
def State.slotRecord (s v : State) (k line lineSeq : Nat) (idle : Bool) (rows : List Nat) : ShotRec :=
  ⟨s.hst.recSeq, lineSeq, s.rdN GLB_FRAME, line, k, v.fldF (SHT_SLOT_T_KIND k), v.slotOffset line k, rowMask rows,
   BitVec.ofNat 12 (v.slotCols k line), idle⟩

theorem setUpSlot_eq (s v : State) (k line lineSeq start : Nat) (idle : Bool) :
    s.setUpSlot v k line lineSeq start idle =
      ((s.noteRemoved (s.slotRows v k line idle).2).postRecord
        ((s.noteRemoved (s.slotRows v k line idle).2).slotRecord v k line lineSeq idle (s.slotRows v k line idle).1)
        (BitVec.ofNat 12 (v.slotCols k line)) (v.slotProfile k line),
       ⟨k, v.fldF (SHT_SLOT_T_KIND k), start, v.slotOffset line k, rowMask (s.slotRows v k line idle).1,
        BitVec.ofNat 12 (v.slotCols k line), v.slotProfile k line, idle, false, false⟩) := rfl

theorem setUpSlot_fst (s v : State) (k line lineSeq start : Nat) (idle : Bool) :
    (s.setUpSlot v k line lineSeq start idle).1 =
      (s.noteRemoved (s.slotRows v k line idle).2).postRecord
        ((s.noteRemoved (s.slotRows v k line idle).2).slotRecord v k line lineSeq idle (s.slotRows v k line idle).1)
        (BitVec.ofNat 12 (v.slotCols k line)) (v.slotProfile k line) := congrArg Prod.fst (setUpSlot_eq s v k line lineSeq start idle)

/-- A dark or idle slot fires no row (R33, R75). -/
theorem slotRows_dark (s v : State) {k line : Nat} {idle : Bool} (h : v.fldF (SHT_SLOT_T_KIND k) = 2 ∨ idle = true) :
    rowMask (s.slotRows v k line idle).1 = 0 := by
  have hd : (decide (v.fldF (SHT_SLOT_T_KIND k) = 2) || idle) = true := by simpa using h
  simp [State.slotRows, State.rowsKept, hd, rowMask]

/-- A removal changes the counter and the accountant's note, and may raise its event. -/
theorem noteRemoved_keeps (s : State) (n : Nat) : (s.noteRemoved n).grid = s.grid ∧ (s.noteRemoved n).hst = s.hst
    ∧ (s.noteRemoved n).inForce = s.inForce ∧ (s.noteRemoved n).rdN GLB_FRAME = s.rdN GLB_FRAME
    ∧ SweepKept s (s.noteRemoved n) := by
  unfold State.noteRemoved
  split
  · exact ⟨rfl, rfl, rfl, rfl, .refl s⟩
  · extract_lets t was e u
    have hu : SweepKept s u := (SweepKept.wr s EMT_EYE_SUPP _ : SweepKept s t).trans (.of_eq rfl rfl)
    refine ⟨?_, ?_, ?_, ?_, hu.trans (.raiseIf u _ _)⟩
    · rw [State.raiseIf_grid]; exact (show u.grid = t.grid from rfl).trans (State.wrN_grid s EMT_EYE_SUPP _)
    · rw [State.raiseIf_hst]; exact (show u.hst = t.hst from rfl).trans (State.wrN_hst s EMT_EYE_SUPP _)
    · rw [State.raiseIf_inForce]; exact (show u.inForce = t.inForce from rfl).trans (State.wrN_inForce s EMT_EYE_SUPP _)
    · rw [State.rdN, rd_raiseIf]
      exact congrArg BitVec.toNat (rd_wr_other s _ (by decide))

theorem setUpSlot_keeps (s v : State) (k line lineSeq start : Nat) (idle : Bool) :
    (s.setUpSlot v k line lineSeq start idle).1.inForce = s.inForce
      ∧ SweepKept s (s.setUpSlot v k line lineSeq start idle).1 := by
  obtain ⟨-, -, force, -, sweep⟩ := noteRemoved_keeps s (s.slotRows v k line idle).2
  rw [setUpSlot_fst]
  exact ⟨(postRecord_inForce _ _ _ _).trans force, sweep.trans (postRecord_sweep _ _ _ _)⟩

end Sys2Proof.Machine
end

section
/-! PROOFS. What a line start leaves of the sweep's counts (R25, R29, R30, R58). -/

namespace Sys2Proof.Machine

open Sys2Proof.Laws

/-! ### Line starts (R25, R29, R30) -/

theorem prepareLine_keeps (s : State) (n t : Nat) (frame : Bool) :
    (s.prepareLine n t frame).inForce = s.inForce ∧ SweepKept s (s.prepareLine n t frame) := by
  unfold State.prepareLine
  extract_lets v
  split
  next start rest idle _ =>
    split
    · extract_lets w
      obtain ⟨force, sweep⟩ := setUpSlot_keeps w v 0 n (w.hst.lineSeq + 1) (t + start) (decide (idle = some 0))
      generalize State.setUpSlot _ _ _ _ _ _ _ = x at *
      obtain ⟨u, f⟩ := x
      exact ⟨force.trans (State.advance_inForce s _), (SweepKept.advance s _).trans (sweep.trans (.of_eq rfl rfl))⟩
    · exact ⟨rfl, .refl s⟩
  next => exact ⟨rfl, .refl s⟩

theorem prepareNext_keeps (s : State) : s.prepareNext.inForce = s.inForce ∧ SweepKept s s.prepareNext := by
  unfold State.prepareNext
  split
  · split
    · exact prepareLine_keeps s _ _ _
    · exact ⟨rfl, .refl s⟩
  · exact ⟨rfl, .refl s⟩

theorem quiet_inForce {s t : State} (h : Quiet s t) : t.inForce = s.inForce :=
  show (keptState t).inForce = (keptState s).inForce by rw [h.kept]

theorem finishLine_keeps (s : State) : s.finishLine.inForce = s.inForce ∧ SweepKept s s.finishLine := by
  have overrun (t : State) : ((t.bump SHT_OVERRUN_V 1).cutLine.raise EV_LINE_OVERRUN).inForce = t.inForce
      ∧ SweepKept t ((t.bump SHT_OVERRUN_V 1).cutLine.raise EV_LINE_OVERRUN) :=
    ⟨(quiet_inForce (quiet_cutLine (t.bump SHT_OVERRUN_V 1))).trans (State.bump_inForce t SHT_OVERRUN_V 1),
     (SweepKept.bump t _ _).trans ((SweepKept.of_quiet (quiet_cutLine _)).trans (.raise _ _))⟩
  unfold State.finishLine
  extract_lets unfinished a _ b
  split
  · obtain ⟨force, sweep⟩ := overrun b
    have hb : SweepKept s b := ⟨rfl, rfl, fun _ h => h⟩
    exact ⟨force, hb.trans sweep⟩
  · split
    · exact ⟨quiet_inForce (quiet_cutLine s), .of_quiet (quiet_cutLine s)⟩
    · exact ⟨quiet_inForce (quiet_deliverLine s), .of_quiet (quiet_deliverLine s)⟩

/-- The line in flight ended, before the next line starts or is not run. -/
theorem endedLine_keeps (s : State) (t : Nat) : (s.prepareNext.advance t).endLine.finishLine.linesInForce = s.linesInForce
    ∧ SweepKept s (s.prepareNext.advance t).endLine.finishLine := by
  obtain ⟨force1, sweep1⟩ := prepareNext_keeps s
  have hq := quiet_endLine (s.prepareNext.advance t)
  obtain ⟨force2, sweep2⟩ := finishLine_keeps (s.prepareNext.advance t).endLine
  have hf : (s.prepareNext.advance t).endLine.finishLine.inForce = s.inForce := by
    rw [force2, quiet_inForce hq, State.advance_inForce, force1]
  exact ⟨by simp only [State.linesInForce, State.fldF, State.rdF, hf],
    sweep1.trans ((SweepKept.advance _ t).trans ((SweepKept.of_quiet hq).trans sweep2))⟩

theorem lineStart_exec {s : State} {t : Nat} (hc : s.pwr.coreInReset = false) (hr : s.grid.running = true)
    (hn : s.ctl.nextLine = some t) : exec .lineStart s = .next (s.prepareNext.advance t).lineStart.settle := by
  show done (s.inCore _) = _
  rw [inCore_run hc, hn]
  exact congrArg done (if_pos hr)

/-- A line start inside the lines in force starts the line. -/
theorem lineStart_inside {s : State} {t : Nat} (h : s.grid.linesStarted < s.linesInForce) :
    (s.prepareNext.advance t).lineStart = (s.prepareNext.advance t).endLine.finishLine.gridLine false := by
  obtain ⟨lines, sweep⟩ := endedLine_keeps s t
  exact if_neg (by rw [lines, sweep.started]; omega)

/-! ### A line beyond those in force (R30) -/

theorem frameValid_sweep (s : State) : SweepKept s s.frameValid := by
  unfold State.frameValid; exact .ite (.of_eq rfl rfl) (.refl s)

theorem atTaps_sweep (s : State) : SweepKept s s.atTaps := .of_eq rfl rfl

theorem endImageLine_sweep (s : State) : SweepKept s s.endImageLine := by
  unfold State.endImageLine
  extract_lets i a _ _ _ _ _ _ _ _ _ _ b
  have ha : SweepKept s a := .of_eq rfl rfl
  have hb : SweepKept a b := .ite (.refl a) (.of_eq rfl rfl)
  exact .ite (.refl s) (.ite (ha.trans (frameValid_sweep a)) (ha.trans (hb.trans ((atTaps_sweep b).trans (frameValid_sweep _)))))

theorem adcStart_sweep (s : State) : SweepKept s s.adcStart := by
  have latched (src : List (Nat × Word)) : SweepKept s (s.adcLatch src) := by
    unfold State.adcLatch
    extract_lets a _ b
    have hb : SweepKept s b := .of_eq rfl rfl
    exact hb.trans ((SweepKept.setFlag b _ _).trans (.setFld _ _ _))
  unfold State.adcStart
  extract_lets a _ b
  have ha : SweepKept s a := by
    cases h : s.adc.staged with
    | none => simpa [a, h] using SweepKept.refl s
    | some src => simpa [a, h] using latched src
  have hb : SweepKept a b := .of_eq rfl rfl
  exact ha.trans (hb.trans (.setFlag b _ _))

theorem adcTrigger_sweep (s : State) (trig : Nat) : SweepKept s (s.adcTrigger trig) := by
  unfold State.adcTrigger
  extract_lets a due
  have ha : SweepKept s a := .bump s _ _
  have noted (x : AdcState) : SweepKept a { a with adc := x } := .of_eq rfl rfl
  exact .ite (.refl s) (.ite (.ite (ha.trans ((noted _).trans (.raise _ _))) ha) (adcStart_sweep s))

theorem noProgram_sweep (s : State) : SweepKept s s.noProgram := by
  unfold State.noProgram
  extract_lets a
  have ha : SweepKept s a := (SweepKept.of_quiet (quiet_dropPrepared s)).trans (.setFlag _ _ _)
  exact ha.trans (.of_eq rfl rfl)

theorem floodLine_sweep (s : State) : SweepKept s s.floodLine := by
  unfold State.floodLine State.floodPeriod
  extract_lets _ a
  have ha : SweepKept s a := .of_eq rfl rfl
  refine .ite (.refl s) (ha.trans (.loop 8 _ a fun m t => ?_))
  exact (SweepKept.setFld t _ _).trans (.setBit _ _ _ _)

theorem nextPlace_sweep (s : State) : SweepKept s s.nextPlace := .of_eq rfl rfl

/-- A line instant beyond the lines in force, from the state in which the line before has ended. -/
def State.lineNotRun (s : State) : State :=
  let first := s.grid.linesNotRun = 0
  let s := (s.endImageLine.adcTrigger 1).noProgram
  let s : State := { s with grid := { s.grid with linesNotRun := s.grid.linesNotRun + 1, lineStart := s.now } }
  (s.raiseIf first EV_FRAME_LONG).floodLine.nextPlace

theorem lineStart_beyond {s : State} {t : Nat} (h : s.linesInForce ≤ s.grid.linesStarted) :
    (s.prepareNext.advance t).lineStart = (s.prepareNext.advance t).endLine.finishLine.lineNotRun := by
  obtain ⟨lines, sweep⟩ := endedLine_keeps s t
  exact if_pos (by rw [lines, sweep.started]; exact h)

/-- A line not run is counted as such, and the first of a frame raises FRAME_LONG (R30). -/
theorem lineNotRun_effect (s : State) : s.lineNotRun.grid.linesStarted = s.grid.linesStarted
    ∧ s.lineNotRun.grid.linesNotRun = s.grid.linesNotRun + 1
    ∧ (s.grid.linesNotRun = 0 → ⟨EV_FRAME_LONG, none⟩ ∈ s.lineNotRun.raised) := by
  unfold State.lineNotRun
  extract_lets first a x b
  have ha : SweepKept s a :=
    (endImageLine_sweep s).trans ((adcTrigger_sweep _ 1).trans (noProgram_sweep _))
  have hb : b.grid.linesStarted = s.grid.linesStarted ∧ b.grid.linesNotRun = s.grid.linesNotRun + 1 :=
    ⟨ha.started, congrArg (· + 1) ha.notRun⟩
  have hlate : SweepKept (b.raiseIf first EV_FRAME_LONG) (b.raiseIf first EV_FRAME_LONG).floodLine.nextPlace :=
    (floodLine_sweep _).trans (nextPlace_sweep _)
  have hall := (SweepKept.raiseIf b first EV_FRAME_LONG).trans hlate
  refine ⟨hall.started.trans hb.1, hall.notRun.trans hb.2, fun h => hlate.raised _ ?_⟩
  simp [first, h, State.raiseIf, State.raise]

/-- A line beyond those in force is not run (R30). -/
theorem lineStartBeyond_gives {t : Nat} {s : State} (hc : s.pwr.coreInReset = false) (hr : s.grid.running = true)
    (hn : s.ctl.nextLine = some t) (h : s.linesInForce ≤ s.grid.linesStarted) :
    Gives .lineStart s fun u => u.grid.linesStarted = s.grid.linesStarted ∧ u.grid.linesNotRun = s.grid.linesNotRun + 1
      ∧ (s.grid.linesNotRun = 0 → Logged u EV_FRAME_LONG) := by
  obtain ⟨-, sweep⟩ := endedLine_keeps s t
  obtain ⟨started, notRun, long⟩ := lineNotRun_effect (s.prepareNext.advance t).endLine.finishLine
  refine ⟨_, lineStart_exec hc hr hn, ?_, ?_, fun h0 => ?_⟩ <;> rw [lineStart_beyond h]
  · rw [settle_linesStarted, started, sweep.started]
  · rw [settle_linesNotRun, notRun, sweep.notRun]
  · exact logged_settle (r := ⟨EV_FRAME_LONG, none⟩) (long (sweep.notRun.trans h0)) (by decide)

end Sys2Proof.Machine
end

section
/-! PROOFS. The instants of the line grid: facet index, image line starts and FRAME_SYNC_IN (R14, R25, R57, R58, R212, R439). -/

namespace Sys2Proof.Machine

open Sys2Proof.Laws

/-- The sequence of R57 and R58, with the state and the declaration of lock that the check for lock answers taken apart by projection. Only
the state that the check starts from is general where its answer is taken apart: the lines before it are never evaluated. -/
theorem facetIndex_eq : State.facetIndex = fun s =>
    let a := s.endSweep30.facetEdge
    let b := a.wrN GLB_FRAME (a.rdN GLB_FRAME + 1)
    let c : State := { b with grid := { b.grid with linesStarted := 0, linesDelivered := 0, linesNotRun := 0, overruns := 0 } }
    let o := c.calLineStart.frameLatches.takeStep.openFrame
    let d := o.lockCheck
    let e := if d.2 then d.1.lockRecheck else d.1
    (e.prepareLine 0 e.now true).gridLine true := by
  delta State.facetIndex
  conv_lhs =>
    ext s a b c o
    change let d := s.lockCheck; let e := if d.2 then d.1.lockRecheck else d.1; (e.prepareLine 0 e.now true).gridLine true

/-- A facet index is, out of reset, that sequence. -/
theorem facetIndex_exec {s : State} (hc : s.pwr.coreInReset = false) (t : Nat) :
    exec (.facetIndex t) s = .next (s.advance t).facetIndex.settle := by
  show done ((s.advance t).inCore State.facetIndex) = _
  rw [inCore_run (by rw [State.advance_pwr]; exact hc)]
  rfl

theorem facetIndex_next {s : State} (hc : s.pwr.coreInReset = false) (t : Nat) :
    let a := (s.advance t).endSweep30.facetEdge
    let b := a.wrN GLB_FRAME (a.rdN GLB_FRAME + 1)
    let c : State := { b with grid := { b.grid with linesStarted := 0, linesDelivered := 0, linesNotRun := 0, overruns := 0 } }
    let d := c.calLineStart.frameLatches.takeStep.openFrame.lockCheck
    let e := if d.2 then d.1.lockRecheck else d.1
    exec (.facetIndex t) s = .next (((e.prepareLine 0 e.now true).gridLine true).settle) := by
  rw [facetIndex_exec hc, facetIndex_eq]

theorem imageInstant_img (s : State) (t : Nat) : (if s.lineRate = 0 then s else s.advance t).img = s.img := by
  split
  · rfl
  · rw [State.advance_img]

/-- An image line start of the line in flight starts its image line (R212). -/
theorem imageLineStart_exec {s : State} (hc : s.pwr.coreInReset = false) (hr : s.grid.running = true) (ho : s.img.lineOpen = true)
    (hl : s.img.line + 1 < 4 * s.rdN GLB_LINE + 4) (tests : List (BitVec 12 × BitVec 14 × BitVec 14)) :
    exec (.imageLineStart tests) s = .next ((((if s.lineRate = 0 then s
      else s.advance (s.grid.lineStart + (s.img.line + 1 - 4 * s.rdN GLB_LINE) * 64000000000000 / s.lineRate)).converterTests tests).beginImageLine
        (s.img.line + 1)).settle) := by
  have hrun : (s.grid.running && s.img.lineOpen && decide (s.img.line + 1 - 4 * s.rdN GLB_LINE < 4)) = true := by
    rw [hr, ho, decide_eq_true (by omega)]
    rfl
  show done (s.inCore _) = _
  rw [inCore_run hc]
  dsimp only
  rw [if_pos hrun, imageInstant_img]
  rfl

theorem settle_fsyncT (s : State) : s.settle.ctl.fsyncT = s.ctl.fsyncT := by rw [settle_ctl]

theorem imgSync_ctl (s : State) : s.imgSync.ctl = s.ctl := by
  unfold State.imgSync
  extract_lets
  split
  · rfl
  · split
    · rw [State.raise_ctl, State.bump_ctl]
    · rfl

/-- A pulse is kept with its instant; it takes a waiting swap of the patterns and starts a waiting capture. -/
def State.keepSync (s : State) : State :=
  let s : State := { s with ctl := { s.ctl with fsyncT := some s.now } }
  let s : State := match s.emt.swap with
    | some (2, true, _) => if s.emt.swapEdge.isSome then s else { s with emt := { s.emt with swapEdge := some s.now } }
    | _ => s
  s.imgSync

theorem keepSync_fsyncT (s : State) : s.keepSync.ctl.fsyncT = some s.now := by
  unfold State.keepSync
  extract_lets _ a _ b
  rw [imgSync_ctl]
  have hb : b.ctl = a.ctl := by
    simp only [b]
    split
    · split <;> rfl
    · rfl
  rw [hb]

/-- A pulse of 20 ns or more is kept with its instant (R439). -/
theorem frameSync_kept {s : State} (hc : s.pwr.coreInReset = false) (t : Nat) {width : Nat} (h : 5120 ≤ width) :
    Gives (.frameSyncInEdge t width) s fun u => u.ctl.fsyncT = some (max s.now t) := by
  refine ⟨(s.advance t).keepSync.settle, ?_, ?_⟩
  · show done ((s.advance t).inCore _) = _
    rw [inCore_run (by rw [State.advance_pwr]; exact hc)]
    dsimp only
    rw [if_neg (by omega)]
    rfl
  · show (s.advance t).keepSync.settle.ctl.fsyncT = _
    rw [settle_fsyncT, keepSync_fsyncT, State.advance_now]

/-- A shorter pulse is only counted (R439). -/
theorem frameSync_short {s : State} (hc : s.pwr.coreInReset = false) (t : Nat) {width : Nat} (h : width < 5120) :
    Gives (.frameSyncInEdge t width) s fun u => u.fld NET_SYNC_ERR_FSYNC_SHORT
        = min (2 ^ (NET_SYNC_ERR_FSYNC_SHORT.hi + 1 - NET_SYNC_ERR_FSYNC_SHORT.lo) - 1) (s.fld NET_SYNC_ERR_FSYNC_SHORT + 1)
      ∧ u.ctl.fsyncT = s.ctl.fsyncT := by
  refine ⟨((s.advance t).bump NET_SYNC_ERR_FSYNC_SHORT 1).settle, ?_, ?_, ?_⟩
  · show done ((s.advance t).inCore _) = _
    rw [inCore_run (by rw [State.advance_pwr]; exact hc)]
    exact congrArg done (if_pos h)
  · rw [settle_fld _ (by decide), fld_bump_same _ _ _ (by decide) (by decide), fld_advance]
  · rw [settle_fsyncT, State.bump_ctl, State.advance_ctl]

end Sys2Proof.Machine
end

section
/-! PROOFS. The set-up and the start of a slot (R74, R75, R128). -/

namespace Sys2Proof.Machine

open Sys2Proof.Laws

theorem inEmission_run {s : State} (h : s.pwr.emissionInReset = false) (f : State → State) : s.inEmission f = f s := by
  simp [State.inEmission, h]

/-! ### Set-up (R74, R75) -/

theorem rdN_advance (s : State) (t k : Nat) : (s.advance t).rdN k = s.rdN k := by rw [State.rdN, rd_advance]; rfl
theorem fldF_advance (s : State) (t : Nat) (f : Fld) : (s.advance t).fldF f = s.fldF f := by
  rw [State.fldF, State.rdF, State.advance_inForce]; rfl

/-- The serve-code offset of a slot does not depend on the clock. -/
theorem slotOffset_advance (s : State) (t n k : Nat) : (s.advance t).slotOffset n k = s.slotOffset n k := by
  unfold State.advance
  split <;> rfl

/-- `u` is `s` with the record of the slot in flight `f`, slot `k` of line `line`, posted as `v` has it in force, and its columns set. -/
def SlotSet (s v u : State) (k line start : Nat) (f : SlotInFlight) (r : ShotRec) : Prop :=
  u.hst.posted = s.hst.posted ++ [r] ∧ f.slot = k ∧ f.start = start ∧ f.started = false ∧ f.emitted = false
    ∧ f.offset = v.slotOffset line k ∧ r.slot = f.slot ∧ r.offset = f.offset ∧ r.frame = s.rdN GLB_FRAME
    ∧ r.line = line ∧ r.kind = v.fldF (SHT_SLOT_T_KIND k)
    ∧ u.emt.drive.cols = f.cols ∧ u.emt.drive.sel = f.profile ∧ u.emt.drive.rows = 0 ∧ r.rows = f.rows

theorem postRecord_set (s v : State) (k line lineSeq start : Nat) (idle : Bool) (rows : List Nat) :
    SlotSet s v (s.postRecord (s.slotRecord v k line lineSeq idle rows) (BitVec.ofNat 12 (v.slotCols k line)) (v.slotProfile k line))
      k line start ⟨k, v.fldF (SHT_SLOT_T_KIND k), start, v.slotOffset line k, rowMask rows,
        BitVec.ofNat 12 (v.slotCols k line), v.slotProfile k line, idle, false, false⟩ (s.slotRecord v k line lineSeq idle rows) :=
  ⟨rfl, rfl, rfl, rfl, rfl, rfl, rfl, rfl, rfl, rfl, rfl, rfl, rfl, rfl, rfl⟩

/-- What was posted before and the frame are all that the set-up reads of the state it starts from. -/
theorem SlotSet.congr {s s' v u : State} {k line start : Nat} {f : SlotInFlight} {r : ShotRec} (h : SlotSet s' v u k line start f r)
    (hh : s'.hst = s.hst) (hg : s'.rdN GLB_FRAME = s.rdN GLB_FRAME) : SlotSet s v u k line start f r := by
  unfold SlotSet at *
  rwa [← hh, ← hg]

/-- The set-up of a slot posts its record and sets its columns; a dark or idle slot has no row. -/
theorem setUpSlot_set (s v : State) (k line lineSeq start : Nat) (idle : Bool) :
    ∃ r, SlotSet s v (s.setUpSlot v k line lineSeq start idle).1 k line start (s.setUpSlot v k line lineSeq start idle).2 r
      ∧ (r.kind = 2 ∨ idle = true → r.rows = 0) := by
  obtain ⟨-, hst, -, frame, -⟩ := noteRemoved_keeps s (s.slotRows v k line idle).2
  rw [setUpSlot_eq]
  exact ⟨_, (postRecord_set _ v k line lineSeq start idle _).congr hst frame, fun h => slotRows_dark s v h⟩

/-- The slot in flight is `f`. -/
def State.fly (s : State) (f : SlotInFlight) : State := { s with sht := { s.sht with flight := some f } }

@[simp] theorem fly_flight (s : State) (f : SlotInFlight) : (s.fly f).sht.flight = some f := rfl
@[simp] theorem fly_now (s : State) (f : SlotInFlight) : (s.fly f).now = s.now := rfl
@[simp] theorem fly_lane (s : State) (f : SlotInFlight) (l : Nat) : (s.fly f).lane l = s.lane l := rfl

/-- A slot set up is put in flight, and counted on its line. -/
def State.flySlot (s : State) (f : SlotInFlight) : State := (s.fly f).countPosted f.kind

theorem flySlot_set {s v u : State} {k line start : Nat} {f : SlotInFlight} {r : ShotRec} (h : SlotSet s v u k line start f r)
    (g : SlotInFlight) : SlotSet s v (u.flySlot g) k line start f r := h

theorem slotSetup_eq (s : State) (k start : Nat) (hk : k = s.sht.nextSlot) (hs : start = s.grid.lineStart + nth 0 s.sht.plan k) :
    s.slotSetup =
      let a := s.advance (start - 2048)
      let x := a.setUpSlot a k (s.rdN GLB_LINE) s.hst.lineSeq start (decide (s.sht.idleSlot = some k))
      x.1.flySlot x.2 := by
  rw [← rdN_advance s (start - 2048), ← State.advance_hst s (start - 2048), ← State.advance_sht s (start - 2048), hs, hk]
  rfl

/-- The set-up reads nothing of the clock. -/
theorem setUpSlot_advance (s : State) (t k line lineSeq start : Nat) (idle : Bool) :
    ∃ r, SlotSet s s ((s.advance t).setUpSlot (s.advance t) k line lineSeq start idle).1 k line start
        ((s.advance t).setUpSlot (s.advance t) k line lineSeq start idle).2 r
      ∧ (r.kind = 2 ∨ idle = true → r.rows = 0) := by
  obtain ⟨r, hset, hdark⟩ := setUpSlot_set (s.advance t) (s.advance t) k line lineSeq start idle
  refine ⟨r, ?_, hdark⟩
  unfold SlotSet at hset ⊢
  rwa [State.advance_hst, rdN_advance, fldF_advance, slotOffset_advance] at hset

theorem slotSetup_exec {s : State} (he : s.pwr.emissionInReset = false) (hd : s.slotDue = true) :
    exec .slotSetup s = .next s.slotSetup.settle := by
  show done (s.inEmission _) = _
  rw [inEmission_run he]
  exact congrArg done (if_pos hd)

theorem slotSetup_does {s : State} (he : s.pwr.emissionInReset = false) (hd : s.slotDue = true) :
    Does .slotSetup s fun u => ∃ f r, u.sht.flight = some f
      ∧ SlotSet s s u s.sht.nextSlot (s.rdN GLB_LINE) (s.grid.lineStart + nth 0 s.sht.plan s.sht.nextSlot) f r
      ∧ (r.kind = 2 ∨ s.sht.idleSlot = some f.slot → r.rows = 0) := by
  refine ⟨_, slotSetup_exec he hd, ?_⟩
  rw [slotSetup_eq s _ _ rfl rfl]
  dsimp only
  generalize hk : s.sht.nextSlot = k
  generalize s.grid.lineStart + nth 0 s.sht.plan k = start
  obtain ⟨r, hset, hdark⟩ := setUpSlot_advance s (start - 2048) k (s.rdN GLB_LINE) s.hst.lineSeq start (decide (s.sht.idleSlot = some k))
  generalize (s.advance (start - 2048)).setUpSlot _ _ _ _ _ _ = x at *
  obtain ⟨-, hslot, -⟩ := id hset
  exact ⟨x.2, r, rfl, flySlot_set hset x.2, fun h => hdark (h.imp_right fun hi => decide_eq_true (hslot ▸ hi))⟩

/-! ### Start (R128) -/

/-- One lane's state and the detector's notes are replaced. -/
def State.putLane (s : State) (l : Nat) (x : Lane) (d : DetState) : State := { s.setLane l x with det := d }

theorem lane_setLane_same (s : State) (l : Nat) (x : Lane) : (s.setLane l x).lane l = x := tabGet_tabSet_same _ _ _ _
theorem lane_setLane_other (s : State) {l m : Nat} (x : Lane) (h : l ≠ m) : (s.setLane m x).lane l = s.lane l :=
  tabGet_tabSet_other _ _ _ _ h

/-- Lane `l`'s window is open in slot `slot`. -/
def OpenIn (l slot : Nat) (s : State) : Prop := (s.lane l).openWin = true ∧ (s.lane l).slot = slot

/-- Lane `l` is in service and not held after a reset. -/
def Ready (l : Nat) (s : State) : Prop := s.laneRole l = 0 ∧ (s.lane l).resetAt = none

/-- The opening of a lane's window replaces the lane, unless it is out of service or held. -/
theorem openLane_cases (s : State) (m slot line start closeAt : Nat) (idle first : Bool) :
    (∃ x d, s.openLane m slot line start closeAt idle first = s.putLane m x d ∧ x.openWin = true ∧ x.slot = slot ∧ x.resetAt = none)
      ∨ (s.openLane m slot line start closeAt idle first = s ∧ ¬ Ready m s) := by
  unfold State.openLane
  extract_lets role x held gen before room y z t c
  split
  next h =>
    refine .inr ⟨rfl, fun ⟨hr, hn⟩ => ?_⟩
    simp [role, held, x, hr, hn] at h
  next =>
    have hz : z.openWin = true ∧ z.slot = slot ∧ z.resetAt = none := by
      simp only [z]
      split <;> exact ⟨rfl, rfl, rfl⟩
    split
    · exact .inl ⟨z, _, rfl, hz⟩
    · exact .inl ⟨z, s.det, rfl, hz⟩

theorem openLane_now (s : State) (m slot line start closeAt : Nat) (idle first : Bool) :
    (s.openLane m slot line start closeAt idle first).now = s.now := by
  obtain ⟨x, d, e, -⟩ | ⟨e, -⟩ := openLane_cases s m slot line start closeAt idle first <;> rw [e]
  rfl

theorem putLane_ready {s : State} {l m : Nat} {x : Lane} (d : DetState) (hx : x.resetAt = none) (h : Ready l s) :
    Ready l (s.putLane m x d) := by
  obtain ⟨role, reset⟩ := h
  refine ⟨role, ?_⟩
  by_cases hlm : l = m
  · subst hlm
    exact (congrArg Lane.resetAt (lane_setLane_same s l x)).trans hx
  · exact (congrArg Lane.resetAt (lane_setLane_other s x hlm)).trans reset

theorem openLane_ready {l : Nat} {s : State} (h : Ready l s) (m slot line start closeAt : Nat) (idle first : Bool) :
    Ready l (s.openLane m slot line start closeAt idle first) := by
  obtain ⟨x, d, e, -, -, hx⟩ | ⟨e, -⟩ := openLane_cases s m slot line start closeAt idle first <;> rw [e]
  · exact putLane_ready d hx h
  · exact h

/-- A lane that is ready is open after its own opening, and stays so in that of another. -/
theorem openLane_opens {l slot : Nat} {s : State} (hr : Ready l s) (m line start closeAt : Nat) (idle first : Bool)
    (h : l = m ∨ OpenIn l slot s) : OpenIn l slot (s.openLane m slot line start closeAt idle first) := by
  obtain ⟨x, d, e, ho, hs, -⟩ | ⟨e, hm⟩ := openLane_cases s m slot line start closeAt idle first <;> rw [e]
  · by_cases hlm : l = m
    · subst hlm
      have hl : (s.putLane l x d).lane l = x := lane_setLane_same s l x
      unfold OpenIn
      rw [hl]
      exact ⟨ho, hs⟩
    · have hl : (s.putLane m x d).lane l = s.lane l := lane_setLane_other s x hlm
      unfold OpenIn
      rw [hl]
      exact h.resolve_left hlm
  · exact h.resolve_left fun hlm => hm (hlm ▸ hr)

/-- The opening of lanes one after another. -/
theorem openLanes_opens (ms : List Nat) {l slot : Nat} {s : State} (hr : Ready l s) (line start closeAt : Nat) (idle first : Bool)
    (h : l ∈ ms ∨ OpenIn l slot s) : OpenIn l slot (ms.foldl (fun t m => t.openLane m slot line start closeAt idle first) s) := by
  induction ms generalizing s with
  | nil => simpa using h
  | cons m ms ih =>
    refine ih (openLane_ready hr ..) ?_
    rcases h with h | h
    · rcases List.mem_cons.mp h with h | h
      · exact .inr (openLane_opens hr _ _ _ _ _ _ (.inl h))
      · exact .inl h
    · exact .inr (openLane_opens hr _ _ _ _ _ _ (.inr h))

theorem openLanes_now (ms : List Nat) (s : State) (slot line start closeAt : Nat) (idle first : Bool) :
    (ms.foldl (fun t m => t.openLane m slot line start closeAt idle first) s).now = s.now := by
  induction ms generalizing s with
  | nil => rfl
  | cons m ms ih => exact (ih _).trans (openLane_now ..)

/-- The windows of lanes `ms` open for slot `f`, at its start. -/
def State.openFor (s : State) (ms : List Nat) (f : SlotInFlight) : State :=
  let s := s.advance f.start
  ms.foldl (fun t m => t.openLane m f.slot (s.rdN GLB_LINE) f.start (f.start + f.offset + s.fldF SHT_LISTEN_V) f.idle (f.slot = 0)) s

theorem OpenIn.fly {l slot : Nat} {s : State} (h : OpenIn l slot s) (f : SlotInFlight) : OpenIn l slot (s.fly f) := h

theorem slotStart_eq (s : State) (f : SlotInFlight) : s.slotStart f = (s.openFor (List.range 208) f).fly { f with started := true } := rfl

theorem ready_advance {l : Nat} {s : State} (h : Ready l s) (t : Nat) : Ready l (s.advance t) := by
  unfold Ready State.laneRole State.lane
  rw [fld_advance, State.advance_tdc]
  exact h

theorem openFor_opens {l : Nat} {s : State} {ms : List Nat} (h : l ∈ ms) (hr : Ready l s) (f : SlotInFlight) :
    OpenIn l f.slot (s.openFor ms f) := openLanes_opens ms (ready_advance hr _) _ _ _ _ _ (.inl h)

theorem openFor_now (s : State) (ms : List Nat) (f : SlotInFlight) : (s.openFor ms f).now = max s.now f.start :=
  (openLanes_now ms _ _ _ _ _ _ _).trans (State.advance_now _ _)

theorem slotStart_exec {s : State} {f : SlotInFlight} (he : s.pwr.emissionInReset = false) (hf : s.sht.flight = some f)
    (hs : f.started = false) : exec .slotStart s = .next (s.slotStart f).settle := by
  show done (s.inEmission _) = _
  rw [inEmission_run he, hf]
  exact congrArg done (if_neg (by simp [hs]))

/-- The start of a slot opens the window of every ready lane, at its instant. -/
theorem slotStart_does {s : State} {f : SlotInFlight} (he : s.pwr.emissionInReset = false) (hf : s.sht.flight = some f)
    (hs : f.started = false) : Does .slotStart s fun u => u.sht.flight = some { f with started := true } ∧ u.now = max s.now f.start
      ∧ ∀ l < 208, Ready l s → OpenIn l f.slot u := by
  refine ⟨_, slotStart_exec he hf hs, ?_⟩
  rw [slotStart_eq]
  generalize hms : List.range 208 = ms
  have hmem : ∀ l < 208, l ∈ ms := fun l hl => hms ▸ List.mem_range.mpr hl
  exact ⟨fly_flight _ _, openFor_now _ _ _, fun l hl hr => (openFor_opens (hmem l hl) hr f).fly _⟩

end Sys2Proof.Machine
end

section
/-! PROOFS. The emission of a slot and the close of its window (R30, R75, R85, R90); with them the instants of the sweep. -/

namespace Sys2Proof.Machine

open Sys2Proof.Laws

/-! ### Emission (R75, R85, R87, R90) -/

/-- What the accountant leaves of a state: the sequencer, the drive, the pulses awaited and the clock. -/
def firing (s : State) : ShtState × RowDrive × List (Nat × Bool) × Nat := (s.sht, s.emt.drive, s.emt.expected, s.now)

theorem firing_foldl {β : Type} (l : List β) (f : State → β → State) (s : State) (h : ∀ t b, firing (f t b) = firing t) :
    firing (l.foldl f s) = firing s := by
  induction l generalizing s with
  | nil => rfl
  | cons b l ih => exact (ih _).trans (h s b)

theorem firing_setFld (s : State) (f : Fld) (v : Nat) : firing (s.setFld f v) = firing s := rfl

theorem firing_eyeAdd (s : State) (i e : Nat) : firing (s.eyeAdd i e) = firing s := firing_foldl _ _ s fun _ _ => rfl

theorem firing_showPeak (s : State) : firing s.showPeak = firing s := firing_setFld s _ _

/-- The accountant counts a firing in its own cells and EMT_EYE_PEAK alone. -/
theorem firing_accountFiring (s : State) (rows : BitVec 16) (cols p : Nat) : firing (s.accountFiring rows cols p) = firing s := by
  refine (firing_showPeak _).trans (firing_foldl _ _ s fun t r => ?_)
  dsimp only
  split
  · exact (firing_eyeAdd _ _ _).trans (firing_foldl _ _ t fun _ _ => firing_eyeAdd _ _ _)
  · rfl

/-- The triggers of rows `rows` of slot `f` rise now, fall TRIG_W later, and the columns are released COL_HOLD after that. -/
def State.trigger (s : State) (f : SlotInFlight) (rows : BitVec 16) : State :=
  let fall := s.now + s.fld EMT_TRIG_CFG_TRIG_W
  { s with sht := { s.sht with flight := some { f with rows := rows, emitted := true } },
           emt := { s.emt with drive := { s.emt.drive with rows := rows, rise := s.now, fall := fall,
                                                           release := some (fall + s.fld EMT_TRIG_CFG_COL_HOLD) } } }

/-- A monitor pulse is awaited from now on, and those past are forgotten. -/
def State.await (s : State) : State :=
  let past := fun (e : Nat × Bool) => e.2 && decide (e.1 + 256 * s.fld EMT_MON_CFG_DLY_MAX < s.now)
  { s with emt := { s.emt with expected := s.emt.expected.filter (fun e => !past e) ++ [(s.now, false)] } }

/-- The record of slot `f` of the line in flight shows no row. -/
def State.showDark (s : State) (f : SlotInFlight) : State :=
  { s with hst := { s.hst with posted := s.hst.posted.map (fun (r : ShotRec) =>
                                 if r.lineSeq = s.hst.lineSeq && r.slot = f.slot then { r with rows := 0 } else r) } }

/-- The rows of slot `f` fire, counted by the accountant and awaited by the monitor. -/
def State.fire (s : State) (f : SlotInFlight) (rows : BitVec 16) : State :=
  ((s.trigger f rows).accountFiring rows f.cols.toNat f.profile).await

theorem slotEmission_eq (s : State) (f : SlotInFlight) (e : Bool) (fl : DriverFlags) : s.slotEmission f e fl =
    let a := s.advance (f.start + f.offset)
    let rows := if a.p87 then f.rows else 0
    if rows = 0 then (a.trigger f rows).showDark f
    else if e then (a.fire f rows).emitterFault (some 6) false fl else a.fire f rows := rfl

theorem p87_advance (s : State) (t : Nat) : (s.advance t).p87 = s.p87 := by rw [State.p87, State.advance_emt]; rfl

/-- With the chain whole and a row enabled, the rows fire. -/
theorem slotEmission_fires {s : State} {f : SlotInFlight} (hp : s.p87 = true) (hr : f.rows ≠ 0) (e : Bool) (fl : DriverFlags) :
    s.slotEmission f e fl = let u := (s.advance (f.start + f.offset)).fire f f.rows
      if e then u.emitterFault (some 6) false fl else u := by
  rw [slotEmission_eq]
  dsimp only
  rw [p87_advance, if_pos hp, if_neg hr]

/-- With the chain open, no row fires. -/
theorem slotEmission_dark {s : State} {f : SlotInFlight} (hp : s.p87 = false) (e : Bool) (fl : DriverFlags) :
    s.slotEmission f e fl = ((s.advance (f.start + f.offset)).trigger f 0).showDark f := by
  rw [slotEmission_eq]
  dsimp only
  have hrows : (if s.p87 = true then f.rows else 0) = 0 := if_neg (by simp [hp])
  rw [p87_advance, hrows, if_pos rfl]

theorem slotEmission_exec {s : State} {f : SlotInFlight} (he : s.pwr.emissionInReset = false) (hf : s.sht.flight = some f)
    (hs : f.started = true) (hm : f.emitted = false) (e : Bool) (fl : DriverFlags) :
    exec (.slotEmission e fl) s = .next (s.slotEmission f e fl).settle := by
  show done (s.inEmission _) = _
  rw [inEmission_run he, hf]
  exact congrArg done (if_pos (by simp [hs, hm]))

/-- A firing leaves the drive and the slot in flight as its triggers set them, and awaits a pulse from its instant. -/
theorem fire_effect (s : State) (f : SlotInFlight) (rows : BitVec 16) : (s.fire f rows).sht = (s.trigger f rows).sht
    ∧ (s.fire f rows).emt.drive = (s.trigger f rows).emt.drive ∧ (s.fire f rows).emt.expected.getLast? = some (s.now, false) := by
  have h := firing_accountFiring (s.trigger f rows) rows f.cols.toNat f.profile
  unfold State.fire
  generalize (s.trigger f rows).accountFiring rows f.cols.toNat f.profile = u at *
  obtain ⟨hsht, hdrive, -, hnow⟩ := by simpa [firing] using h
  refine ⟨hsht, hdrive, ?_⟩
  have hn : u.now = s.now := hnow
  simp [State.await, hn]

/-- An emission with the chain whole and a row enabled. -/
theorem slotEmission_does {s : State} {f : SlotInFlight} (he : s.pwr.emissionInReset = false) (hf : s.sht.flight = some f)
    (hs : f.started = true) (hm : f.emitted = false) (hp : s.p87 = true) (hr : f.rows ≠ 0) (fl : DriverFlags) :
    Does (.slotEmission false fl) s fun u => u.emt.expected.getLast? = some (max s.now (f.start + f.offset), false)
      ∧ u.sht.flight = some { f with emitted := true } ∧ u.emt.drive.rows = f.rows ∧ u.emt.drive.rise = max s.now (f.start + f.offset)
      ∧ u.emt.drive.fall = u.emt.drive.rise + s.fld EMT_TRIG_CFG_TRIG_W
      ∧ u.emt.drive.release = some (u.emt.drive.fall + s.fld EMT_TRIG_CFG_COL_HOLD) := by
  refine ⟨_, slotEmission_exec he hf hs hm false fl, ?_⟩
  rw [slotEmission_fires hp hr]
  dsimp only
  obtain ⟨hsht, hdrive, hlast⟩ := fire_effect (s.advance (f.start + f.offset)) f f.rows
  rw [if_neg (by simp), hsht, hdrive, hlast, ← State.advance_now, ← fld_advance s (f.start + f.offset),
    ← fld_advance s (f.start + f.offset)]
  exact ⟨rfl, rfl, rfl, rfl, rfl, rfl⟩

/-- An emission with the chain open. -/
theorem slotEmission_dark_does {s : State} {f : SlotInFlight} (he : s.pwr.emissionInReset = false) (hf : s.sht.flight = some f)
    (hs : f.started = true) (hm : f.emitted = false) (hp : s.p87 = false) (e : Bool) (fl : DriverFlags) :
    Does (.slotEmission e fl) s fun u => u.emt.expected = s.emt.expected ∧ u.sht.flight = some { f with rows := 0, emitted := true }
      ∧ u.emt.drive.rows = 0 := by
  refine ⟨_, slotEmission_exec he hf hs hm e fl, ?_⟩
  rw [slotEmission_dark hp, ← State.advance_emt s (f.start + f.offset)]
  exact ⟨rfl, rfl, rfl⟩

/-- A write of another field of its register leaves EMT_FAULT's LATCHED. -/
theorem latched_setFld {s : State} (h : s.flag EMT_FAULT_LATCHED = true) (f : Fld) (v : Nat) (hl : f.lo ≤ f.hi) (hh : f.hi < 31) :
    (s.setFld f v).flag EMT_FAULT_LATCHED = true := by
  rw [State.flag, fld_setFld_other s f EMT_FAULT_LATCHED v hl (by omega) (.inr (.inr hh))]
  exact h

/-- An emitter fault is latched (R90). -/
theorem emitterFault_latched (s : State) {b : Nat} (hb : b < 31) (i : Bool) (fl : DriverFlags) :
    (s.emitterFault (some b) i fl).flag EMT_FAULT_LATCHED = true := by
  unfold State.emitterFault
  extract_lets was a c d e g
  have ha : a.flag EMT_FAULT_LATCHED = true := flag_setFlag_same s _ _ rfl (by decide)
  have hc : c.flag EMT_FAULT_LATCHED = true := latched_setFld ha _ _ le_rfl hb
  have hd : d.flag EMT_FAULT_LATCHED = true := by
    simp only [d]; split
    · exact latched_setFld hc _ _ (by decide) (by decide)
    · exact hc
  have hen : e.flag EMT_FAULT_LATCHED = true := by
    simp only [e]; split
    · exact latched_setFld hd _ _ (by decide) (by decide)
    · exact hd
  have hg : g.flag EMT_FAULT_LATCHED = true := by
    simp only [g]; split
    · exact hen
    · exact latched_setFld (s := e.forceLow.sendEcb flagReads) hen _ _ (by decide) (by decide)
  split
  · split
    · exact hg
    · exact hg
  · exact hg

/-- A parity error of the accountant at an emission is a latched fault. -/
theorem slotEmission_parity {s : State} {f : SlotInFlight} (he : s.pwr.emissionInReset = false) (hf : s.sht.flight = some f)
    (hs : f.started = true) (hm : f.emitted = false) (hp : s.p87 = true) (hr : f.rows ≠ 0) (fl : DriverFlags) :
    Does (.slotEmission true fl) s fun u => u.flag EMT_FAULT_LATCHED = true := by
  refine ⟨_, slotEmission_exec he hf hs hm true fl, ?_⟩
  rw [slotEmission_fires hp hr]
  exact emitterFault_latched _ (by decide) false fl

/-! ### The close of the window (R75) -/

theorem close_openWin (x : Lane) (t : Nat) (cut coarseEnd : Bool) : (x.close t cut coarseEnd).openWin = false := by
  unfold Lane.close
  split
  · rfl
  next h => simpa using h

/-- A closed lane stays closed while another, or itself, closes. -/
theorem closeLane_openWin (s : State) {l m : Nat} (cut coarseEnd : Bool) (h : l = m ∨ (s.lane l).openWin = false) :
    ((s.closeLane m cut coarseEnd).lane l).openWin = false := by
  unfold State.closeLane
  by_cases hlm : l = m
  · subst hlm
    rw [lane_setLane_same]
    exact close_openWin _ _ _ _
  · rw [lane_setLane_other s _ hlm]
    exact h.resolve_left hlm

/-- The closing of the open lanes that a list names. -/
theorem closeListed_openWin (es : List (Nat × Lane)) (s : State) (l : Nat) (cut : Bool)
    (h : (∃ x, (l, x) ∈ es ∧ x.openWin = true) ∨ (s.lane l).openWin = false) :
    ((es.foldl (fun t e => if e.2.openWin then t.closeLane e.1 cut false else t) s).lane l).openWin = false := by
  induction es generalizing s with
  | nil => simpa using h
  | cons e es ih =>
    refine ih _ ?_
    dsimp only
    rcases h with ⟨x, hx, ho⟩ | h
    · rcases List.mem_cons.mp hx with rfl | hx
      · exact .inr (by rw [if_pos ho]; exact closeLane_openWin s cut false (.inl rfl))
      · exact .inl ⟨x, hx, ho⟩
    · refine .inr ?_
      split
      · exact closeLane_openWin s cut false (.inr h)
      · exact h

/-- What a table answers is its default or stands in it. -/
theorem tabGet_mem {α : Type} (d : α) (t : List (Nat × α)) (k : Nat) : tabGet d t k = d ∨ (k, tabGet d t k) ∈ t := by
  induction t with
  | nil => exact .inl rfl
  | cons e t ih =>
    obtain ⟨a, v⟩ := e
    by_cases h : k = a
    · exact .inr (by simp [tabGet, h])
    · simpa [tabGet, h] using ih

/-- After the lanes close, none is open. -/
theorem closeLanes_openWin (s : State) (cut : Bool) (l : Nat) : ((s.closeLanes cut).lane l).openWin = false := by
  refine closeListed_openWin s.tdc.lanes s l cut ?_
  cases ho : (s.lane l).openWin with
  | false => exact .inr rfl
  | true =>
    refine .inl ⟨s.lane l, (tabGet_mem Lane.init s.tdc.lanes l).resolve_left fun h => ?_, ho⟩
    have hclosed : (s.lane l).openWin = Lane.init.openWin := congrArg Lane.openWin h
    exact absurd (hclosed.symm.trans ho) (by decide)

theorem closeLanes_nextSlot (s : State) (cut : Bool) : (s.closeLanes cut).sht.nextSlot = s.sht.nextSlot :=
  show (keptState (s.closeLanes cut)).sht.nextSlot = (keptState s).sht.nextSlot by rw [(quiet_closeLanes s cut).kept]

/-- The slot in flight is over, and the next is due. -/
def State.land (s : State) : State :=
  let s : State := { s with sht := { s.sht with flight := none, nextSlot := s.sht.nextSlot + 1 } }
  if s.sht.cut then s.onLine (fun l => { l with launchEnded := true }) else s

theorem land_effect (s : State) : s.land.sht.flight = none ∧ s.land.sht.nextSlot = s.sht.nextSlot + 1 ∧ ∀ l, s.land.lane l = s.lane l := by
  unfold State.land
  extract_lets _ a
  split <;> exact ⟨rfl, rfl, fun _ => rfl⟩

theorem windowClose_eq (s : State) (f : SlotInFlight) :
    s.windowClose f = ((s.advance (f.start + f.offset + s.fldF SHT_LISTEN_V)).closeLanes false).land := rfl

/-- The close of the window closes every lane and moves to the next slot. -/
theorem listenWindowClose_does {s : State} {f : SlotInFlight} (he : s.pwr.emissionInReset = false) (hf : s.sht.flight = some f)
    (hs : f.started = true) : Does .listenWindowClose s fun u => u.sht.flight = none ∧ u.sht.nextSlot = s.sht.nextSlot + 1
      ∧ ∀ l, (u.lane l).openWin = false := by
  refine ⟨s.windowClose f, ?_, ?_⟩
  · show done (s.inEmission _) = _
    rw [inEmission_run he, hf]
    exact congrArg done (if_pos hs)
  · rw [windowClose_eq]
    obtain ⟨flight, next, lanes⟩ := land_effect ((s.advance (f.start + f.offset + s.fldF SHT_LISTEN_V)).closeLanes false)
    refine ⟨flight, ?_, fun l => ?_⟩
    · rw [next, closeLanes_nextSlot, State.advance_sht]
    · rw [lanes]
      exact closeLanes_openWin _ _ l

/-- Settles O7: each instant's effect is its function's, from the lemmas on the grid's instants and on the slot's. -/
theorem sweepInstants : Obligations.SweepInstants := by
  unfold Obligations.SweepInstants
  refine ⟨⟨fun t s hc => facetIndex_next hc t, fun t s hc hr hn hl => ?_, fun t s => lineStartBeyond_gives,
      fun tests s hc hr ho hl => imageLineStart_exec hc hr ho hl tests, fun t width s hc hw => frameSync_kept hc t hw,
      fun t width s hc hw => frameSync_short hc t hw⟩,
    fun s he hd => ?_, fun f s he hf hs => ?_, fun fl f s he hf hs hm hp hr => slotEmission_does he hf hs hm hp hr fl,
    fun fl f s he hf hs hm hp hr => slotEmission_parity he hf hs hm hp hr fl,
    fun e fl f s he hf hs hm hp => slotEmission_dark_does he hf hs hm hp e fl, fun f s => listenWindowClose_does⟩
  · rw [lineStart_exec hc hr hn, lineStart_inside hl]
  · obtain ⟨u, hexec, f, r, hflight, hset, hdark⟩ := slotSetup_does he hd
    obtain ⟨posted, slot, start, started, emitted, offset, rslot, roffset, rframe, rline, rkind, cols, sel, rows, rrows⟩ := hset
    exact ⟨u, hexec, f, r, hflight, posted, slot, start, started, emitted, offset, rslot, roffset, rframe, rline, rkind, cols, sel, rows,
      fun h => ⟨rrows ▸ hdark h, hdark h⟩⟩
  · obtain ⟨u, hexec, flight, now, lanes⟩ := slotStart_does he hf hs
    exact ⟨u, hexec, flight, now, fun l hl role reset => lanes l hl ⟨role, reset⟩⟩

end Sys2Proof.Machine
end

section
/-! PROOFS. The end of a step opens no frame, and outside the chain's own part it leaves the terms of the chain as noted (R34, R85, R86). -/

namespace Sys2Proof.Machine

open Sys2Proof.Laws

/-! ### What opens no frame

Of all that the end of a step is made of, only `settleChain` changes the terms that EMT_CHAIN shows, and nothing opens a frame. -/

/-- From `s` to `t` the noted terms of the chain stay, and no frame opens. -/
structure NoOpening (s t : State) : Prop where
  terms : t.emt.terms = s.emt.terms
  closed : s.grid.frameOpen = false → t.grid.frameOpen = false

theorem NoOpening.refl (s : State) : NoOpening s s := ⟨rfl, id⟩

theorem NoOpening.trans {s t u : State} (h : NoOpening s t) (g : NoOpening t u) : NoOpening s u :=
  ⟨g.terms.trans h.terms, fun hs => g.closed (h.closed hs)⟩

theorem NoOpening.ite {s t u : State} {c : Prop} [Decidable c] (h : NoOpening s t) (g : NoOpening s u) :
    NoOpening s (if c then t else u) := by split <;> assumption

/-- A change that leaves the noted terms, and the frame as open as it was. -/
theorem NoOpening.same {s t : State} (h : t.emt.terms = s.emt.terms := by rfl) (g : t.grid.frameOpen = s.grid.frameOpen := by rfl) :
    NoOpening s t := ⟨h, g.trans⟩

theorem NoOpening.foldl {β : Type} (l : List β) (f : State → β → State) (s : State) (h : ∀ t b, NoOpening t (f t b)) :
    NoOpening s (l.foldl f s) := by
  induction l generalizing s with
  | nil => exact .refl s
  | cons b l ih => exact (h s b).trans (ih _)

theorem NoOpening.loop (n : Nat) (f : Nat → State → State) (s : State) (h : ∀ i t, NoOpening t (f i t)) :
    NoOpening s (loop n f s) := by
  induction n with
  | zero => exact .refl s
  | succ n ih => exact ih.trans (h n _)

theorem NoOpening.wr (s : State) (k : Nat) (w : Word) : NoOpening s (s.wr k w) := .same
theorem NoOpening.setFld (s : State) (f : Fld) (v : Nat) : NoOpening s (s.setFld f v) := .wr s _ _
theorem NoOpening.setFlag (s : State) (f : Fld) (b : Bool) : NoOpening s (s.setFlag f b) := .wr s _ _
theorem NoOpening.setBit (s : State) (k n : Nat) (b : Bool) : NoOpening s (s.setBit k n b) := .wr s _ _
theorem NoOpening.raise (s : State) (e : Nat) : NoOpening s (s.raise e) := .same
theorem NoOpening.raiseInfo (s : State) (e i : Nat) : NoOpening s (s.raiseInfo e i) := .same
theorem NoOpening.raiseIf (s : State) (c : Bool) (e : Nat) : NoOpening s (s.raiseIf c e) := .ite (.raise s e) (.refl s)
theorem NoOpening.pnt (s : State) (x : PntState) : NoOpening s { s with pnt := x } := .same
theorem NoOpening.hst (s : State) (x : HstState) : NoOpening s { s with hst := x } := .same
theorem NoOpening.refused (s : State) (x : Option Word) : NoOpening s { s with refused := x } := .same
theorem NoOpening.setPort (s : State) (p : Nat) (x : PortState) : NoOpening s (s.setPort p x) :=
  .same (by rw [State.setPort_emt]) (by rw [State.setPort_grid])

/-! ### The event log and packets (R192, R193, R195, R197, R373 to R376) -/

theorem noOpening_sendVector (s : State) (p v : Nat) : NoOpening s (s.sendVector p v) := by
  unfold State.sendVector; exact .ite (.setBit s _ _ _) .same

theorem noOpening_groupVector (s : State) (p src : Nat) : NoOpening s (s.groupVector p src) := by
  unfold State.groupVector; exact .ite ((NoOpening.setFlag s _ _).trans (noOpening_sendVector _ _ _)) (.refl s)

theorem noOpening_logEntry (s : State) (p src : Nat) (info : Word) : NoOpening s (s.logEntry p src info) := by
  unfold State.logEntry
  refine .ite ?_ (.refl s)
  extract_lets wr phase nx _ base e a _ b c d
  refine .ite ((NoOpening.wr s _ _).trans (.setPort _ _ _)) ?_
  have ha : NoOpening s a := .same
  have hb : NoOpening a b := .setPort a p _
  have hc : NoOpening b c := (NoOpening.setFld b _ _).trans (.setFlag _ _ _)
  have hd : NoOpening c d := .wr c _ _
  exact ha.trans (hb.trans (hc.trans (hd.trans (noOpening_groupVector d p src))))

theorem noOpening_logOn (s : State) (p src : Nat) (info : Word) : NoOpening s (s.logOn p src info) := by
  unfold State.logOn; exact .ite (.refl s) ((NoOpening.setBit s _ _ _).trans (noOpening_logEntry _ _ _ _))

theorem noOpening_flush (s : State) : NoOpening s s.flush :=
  (NoOpening.foldl (sortRaised s.raised) State.logRaised s fun t r =>
    (noOpening_logOn t 0 r.src _).trans (noOpening_logOn _ 1 r.src _)).trans .same

theorem noOpening_setSeq (s : State) (n : Nat) : NoOpening s (s.setSeq n) := (NoOpening.wr s _ _).trans (.wr _ _ _)

theorem noOpening_setKey (s : State) (slot : Nat) (key : List Byte) : NoOpening s (s.setKey slot key) := by
  unfold State.setKey
  extract_lets _ a
  have ha : NoOpening s a := .same
  exact ha.trans ((NoOpening.setBit _ _ _ _).trans (.setFld _ _ _))

theorem noOpening_adoptStreamKey (s : State) : NoOpening s s.adoptStreamKey := by
  unfold State.adoptStreamKey
  extract_lets k _ a b
  have ha : NoOpening s a := .same
  have hb : NoOpening a b := (noOpening_setKey a 1 k).trans ((NoOpening.setBit _ _ _ _).trans (noOpening_setSeq _ _))
  exact .ite (ha.trans (hb.trans (.setFld b _ _))) (.refl s)

theorem noOpening_sendPacket (s : State) (k ty fl fr ln : Nat) (b : List Byte) : NoOpening s (s.sendPacket k ty fl fr ln b) := by
  unfold State.sendPacket State.formPacket
  refine .ite (.refl s) ?_
  extract_lets a
  have ha : NoOpening s a := .ite (.refl s) (noOpening_adoptStreamKey s)
  exact ha.trans (.ite (.wr a _ _) ((noOpening_setSeq a _).trans (.pnt _ _)))

theorem noOpening_tryFrameEnd (s : State) : NoOpening s s.tryFrameEnd := by
  unfold State.tryFrameEnd
  split
  · exact .refl s
  · split
    · exact .refl s
    · exact .ite (.refl s) (NoOpening.trans .same (noOpening_sendPacket _ _ _ _ _ _ _))

/-! ### The end of a line, a frame and a run (R29, R30, R34, R72) -/

theorem noOpening_closeLanes (s : State) (cut : Bool) : NoOpening s (s.closeLanes cut) :=
  .foldl _ _ s fun t _ => .ite .same (.refl t)

theorem noOpening_discardWindow (s : State) : NoOpening s s.discardWindow := by
  unfold State.discardWindow
  split
  · exact .refl s
  · exact NoOpening.trans .same (.ite (noOpening_closeLanes _ _) (.refl _))

theorem noOpening_dropPrepared (s : State) : NoOpening s s.dropPrepared := by
  unfold State.dropPrepared
  split
  · exact .refl s
  · exact .same

theorem noOpening_stopLaunch (s : State) : NoOpening s s.stopLaunch := by
  unfold State.stopLaunch
  extract_lets _ a
  have ha : NoOpening s a := .same
  refine ha.trans ?_
  split
  · exact .same
  · exact .ite (.refl a) .same

theorem noOpening_deliverLine (s : State) : NoOpening s s.deliverLine := by
  unfold State.deliverLine
  extract_lets a
  have ha : NoOpening s a := .ite .same (.refl s)
  exact .ite (ha.trans .same) (.refl s)

theorem noOpening_endLine (s : State) : NoOpening s s.endLine := by
  unfold State.endLine
  extract_lets dur a amb base mine _ b c
  have ha : NoOpening s a := .wr s _ _
  have hb : NoOpening a b := .same
  have hc : NoOpening b c := .loop 192 _ b fun i t => .setFld t _ _
  exact .ite (.refl s) (ha.trans (hb.trans (hc.trans .same)))

theorem noOpening_frameRates (s : State) : NoOpening s s.frameRates := by
  unfold State.frameRates
  extract_lets d a
  have ha : NoOpening s a := .ite (.refl s) (.loop 192 _ s fun i t => .setFld t _ _)
  exact ha.trans .same

theorem noOpening_cutLine (s : State) : NoOpening s s.cutLine :=
  (noOpening_discardWindow s).trans ((noOpening_stopLaunch _).trans (noOpening_deliverLine _))

/-- The line in flight is delivered and the sweep, where one runs, ends: what a frame's close does before the frame closes. -/
def State.endSweepLines (s : State) : State :=
  let s := s.deliverLine
  if s.grid.sweep then
    let s := s.endLine.frameRates
    { s with grid := { s.grid with sweep := false } }
  else s

theorem noOpening_endSweepLines (s : State) : NoOpening s s.endSweepLines :=
  (noOpening_deliverLine s).trans (.ite ((noOpening_endLine _).trans ((noOpening_frameRates _).trans .same)) (.refl _))

theorem closeFrame_eq (s : State) (c : Nat) : s.closeFrame c = let t := s.endSweepLines
    if t.grid.frameOpen then
      let u := t.endFrameAcc (t.rdN GLB_FRAME) c t.grid.linesDelivered t.grid.linesNotRun t.grid.overruns
      { u with grid := { u.grid with frameOpen := false } }
    else t := rfl

/-- A frame's close leaves none open. -/
theorem closeFrame_frameOpen (s : State) (c : Nat) : (s.closeFrame c).grid.frameOpen = false := by
  rw [closeFrame_eq]
  dsimp only
  split
  · rfl
  next h => exact eq_false_of_ne_true h

theorem noOpening_closeFrame (s : State) (c : Nat) : NoOpening s (s.closeFrame c) := by
  refine ⟨?_, fun _ => closeFrame_frameOpen s c⟩
  rw [closeFrame_eq, ← (noOpening_endSweepLines s).terms]
  dsimp only
  split <;> rfl

/-- The frame closes where emission is lost (R34, R86). -/
theorem loseEmission_frameOpen (s : State) (c : Nat) : (s.loseEmission c).grid.frameOpen = false := closeFrame_frameOpen _ c

theorem noOpening_loseEmission (s : State) (c : Nat) : NoOpening s (s.loseEmission c) :=
  (noOpening_dropPrepared s).trans ((noOpening_stopLaunch _).trans (noOpening_closeFrame _ c))

theorem noOpening_endRun (s : State) : NoOpening s s.endRun := by
  unfold State.endRun
  extract_lets was _ a b
  have ha : NoOpening s a := .same
  have hb : NoOpening a b := .setFlag a _ _
  exact ha.trans (hb.trans (.ite .same (.refl b)))

theorem noOpening_abortRun (s : State) : NoOpening s s.abortRun := by
  unfold State.abortRun
  exact .ite ((noOpening_dropPrepared s).trans ((noOpening_cutLine _).trans ((noOpening_closeFrame _ _).trans (noOpening_endRun _))))
    (noOpening_endRun s)

/-! ### What follows at the end of a step (R49, R119, R353, R396) -/

theorem noOpening_fwEnter (s : State) (n c : Nat) : NoOpening s (s.fwEnter n c) :=
  (NoOpening.setFld s _ _).trans ((NoOpening.setFld _ _ _).trans (.raiseInfo _ _ _))

/-- Priard's changes of state can close a frame, and open none. -/
theorem noOpening_settleFw (s : State) : NoOpening s s.settleFw := by
  have enter (n c : Nat) : NoOpening s (s.fwEnter n c) := noOpening_fwEnter s n c
  have disarm (t : State) : NoOpening t (t.setFlag EMT_ARM_ARM false) := .setFlag t _ _
  have fault : NoOpening s ((s.abortRun.setFlag EMT_ARM_ARM false).fwEnter 7 0x0B) :=
    (noOpening_abortRun s).trans ((disarm _).trans (noOpening_fwEnter _ _ _))
  have critical : NoOpening s ((s.loseEmission 5).endRun.fwEnter 6 0x09) :=
    (noOpening_loseEmission s 5).trans ((noOpening_endRun _).trans (noOpening_fwEnter _ _ _))
  have scanning : NoOpening s (if !s.running then s.fwEnter 3 0x06 else if !s.p87 then s.fwEnter 3 0x05
      else if s.fwCode = 4 && s.degraded ≠ 0 then s.fwEnter 5 0x07 else if s.fwCode = 5 && s.degraded = 0 then s.fwEnter 4 0x08 else s) :=
    .ite (enter 3 6) (.ite (enter 3 5) (.ite (enter 5 7) (.ite (enter 4 8) (.refl s))))
  exact .ite (.refl s) <| .ite fault <| .ite (.ite (disarm s) (enter _ _)) <| .ite critical <|
    .ite (.ite (.refl s) (enter 2 0x0A)) <| .ite (.ite (enter _ 4) (.refl s)) <| .ite (.refl s) scanning

theorem noOpening_settleClamp (s : State) : NoOpening s s.settleClamp :=
  .loop 8 _ s fun _ t => .ite (.refl t) (NoOpening.trans .same (.ite (.raise _ _) (.refl _)))

theorem noOpening_settleCool (s : State) : NoOpening s s.settleCool := by
  unfold State.settleCool
  extract_lets l near lim keep _ a b
  have ha : NoOpening s a := .same
  have hb : NoOpening a b := .ite (.refl a) (.setFlag a _ _)
  exact ha.trans (hb.trans (.ite (.refl b) (.setFlag b _ _)))

theorem noOpening_settleFault (s : State) : NoOpening s s.settleFault :=
  NoOpening.trans .same ((NoOpening.wr _ _ _).trans (.wr _ _ _))

theorem noOpening_noteLongs (s : State) : NoOpening s s.noteLongs := .ite (.refl s) .same

end Sys2Proof.Machine
end

section
/-! PROOFS. The loss of the emission-enable chain at the end of a step (R34, R86). -/

namespace Sys2Proof.Machine

open Sys2Proof.Laws

/-! ### The parts of a step's end -/

/-- What the end of a step does before the chain: the clamps of the set-points and the cooler's status. -/
def State.beforeChain (s : State) : State := if s.pwr.coreInReset then s else s.settleClamp.settleCool

/-- Priard follows the chain. -/
def State.fwFollows (s : State) : State := if s.pwr.coreInReset then s else s.settleFw

/-- What the end of a step does after the chain, before the raised sources are logged. -/
def State.afterChain (s : State) : State := if s.pwr.coreInReset then s else s.settleFault.tryFrameEnd.noteLongs

theorem settle_parts (s : State) :
    s.settle = { s.beforeChain.settleChain.fwFollows.settleChain.afterChain.flush with refused := none } := rfl

theorem noOpening_beforeChain (s : State) : NoOpening s s.beforeChain :=
  .ite (.refl s) ((noOpening_settleClamp s).trans (noOpening_settleCool _))

theorem noOpening_fwFollows (s : State) : NoOpening s s.fwFollows := .ite (.refl s) (noOpening_settleFw s)

theorem noOpening_afterChain (s : State) : NoOpening s s.afterChain :=
  .ite (.refl s) ((noOpening_settleFault s).trans ((noOpening_tryFrameEnd _).trans (noOpening_noteLongs _)))

theorem quiet_fwFollows (s : State) : Quiet s s.fwFollows := .ite (.refl s) (quiet_settleFw s)

theorem quiet_afterChain (s : State) : Quiet s s.afterChain :=
  .ite (.refl s) ((quiet_settleFault s).trans ((quiet_tryFrameEnd _).trans (quiet_noteLongs _)))

/-! ### The chain brought to its terms (R85, R86) -/

/-- The terms of the chain as noted that no longer hold. -/
def State.lostTerms (s : State) : BitVec 8 := s.emt.terms &&& ~~~s.chainTerms

/-- EMT_CHAIN brought to the terms that hold now, without the consequences of a loss. -/
def State.noteTerms (s : State) : State :=
  let t := if s.lostTerms = 0 then s else s.setFld EMT_CHAIN_LAST_OPEN (lowestBit s.lostTerms)
  let t : State := { t with emt := { t.emt with terms := s.chainTerms } }
  (t.setFld ⟨EMT_CHAIN, 7, 0⟩ s.chainTerms.toNat).setFlag EMT_CHAIN_ACTIVE (s.chainTerms = 255)

theorem noteTerms_terms (s : State) : s.noteTerms.emt.terms = s.chainTerms := by
  unfold State.noteTerms
  rw [State.setFlag_emt, State.setFld_emt]

theorem noteTerms_frameOpen (s : State) : s.noteTerms.grid.frameOpen = s.grid.frameOpen := by
  unfold State.noteTerms
  extract_lets t u
  have ht : t.grid = s.grid := by
    simp only [t]
    split
    · rfl
    · rw [State.setFld_grid]
  rw [State.setFlag_grid, State.setFld_grid]
  exact congrArg GridState.frameOpen ht

theorem settleChain_eq (s : State) : s.settleChain =
    if s.emt.terms = 255 && s.lostTerms ≠ 0 then
      (s.noteTerms.forceLow.loseEmission (chainCause s.lostTerms)).raiseIf (s.lostTerms &&& ~~~(2 : BitVec 8) ≠ 0) EV_EMT_CHAIN_OPEN
    else s.noteTerms := rfl

/-- Where the chain was whole, the terms lost are those that do not hold. -/
theorem lostTerms_whole {s : State} (h : s.emt.terms = 255) : s.lostTerms = ~~~s.chainTerms := by
  rw [State.lostTerms, h]
  exact BitVec.allOnes_and

theorem not_eq_zero_iff (x : BitVec 8) : ~~~x = 0 ↔ x = 255 := by
  constructor
  · intro h
    rw [← BitVec.not_not (b := x), h]
    rfl
  · rintro rfl
    rfl

theorem settleChain_whole {s : State} (h : s.emt.terms = 255) (hc : s.chainTerms = 255) : s.settleChain = s.noteTerms := by
  rw [settleChain_eq, if_neg]
  simp [lostTerms_whole h, hc]

/-- Of a whole chain that loses a term, emission is lost with all that R34 lists (R86). -/
theorem settleChain_loss {s : State} (h : s.emt.terms = 255) (hc : s.chainTerms ≠ 255) : s.settleChain =
    (s.noteTerms.forceLow.loseEmission (chainCause s.lostTerms)).raiseIf (s.lostTerms &&& ~~~(2 : BitVec 8) ≠ 0) EV_EMT_CHAIN_OPEN := by
  have hl : s.lostTerms ≠ 0 := by rwa [lostTerms_whole h, Ne, not_eq_zero_iff]
  rw [settleChain_eq, if_pos (Bool.and_eq_true_iff.mpr ⟨decide_eq_true h, decide_eq_true hl⟩)]

/-- A chain that was already open has no further consequence (R86). -/
theorem settleChain_open {s : State} (h : s.emt.terms ≠ 255) : s.settleChain = s.noteTerms := by
  rw [settleChain_eq, decide_eq_false h, Bool.false_and, if_neg Bool.false_ne_true]

/-- A loss of any term but the scanner's lock raises EMT_CHAIN_OPEN (R86). -/
theorem settleChain_raises {s : State} (h : s.emt.terms = 255) (hc : s.chainTerms ||| 2 ≠ 255) :
    ⟨EV_EMT_CHAIN_OPEN, none⟩ ∈ s.settleChain.raised := by
  have hne : s.chainTerms ≠ 255 := fun e => hc (by rw [e]; rfl)
  have hl : s.lostTerms &&& ~~~(2 : BitVec 8) ≠ 0 := by
    rwa [lostTerms_whole h, ← BitVec.not_or, Ne, not_eq_zero_iff]
  rw [settleChain_loss h hne, State.raiseIf, if_pos (decide_eq_true hl)]
  exact List.mem_append_right _ (List.mem_singleton_self _)

/-! ### A frame is open only while the chain is whole -/

/-- While the chain as noted is not whole, no frame is open. -/
def State.frameHeld (s : State) : Prop := s.emt.terms ≠ 255 → s.grid.frameOpen = false

theorem NoOpening.frameHeld {s t : State} (h : NoOpening s t) (hs : s.frameHeld) : t.frameHeld :=
  fun ht => h.closed (hs fun e => ht (h.terms.trans e))

/-- Either the chain is whole after it was brought to its terms, or it is lost now and the frame closes, or it was open and no frame is. -/
theorem frameHeld_settleChain {s : State} (hs : s.frameHeld) : s.settleChain.frameHeld := by
  by_cases h : s.emt.terms = 255
  · by_cases hc : s.chainTerms = 255
    · rw [settleChain_whole h hc]
      exact fun hn => absurd ((noteTerms_terms s).trans hc) hn
    · rw [settleChain_loss h hc]
      exact fun _ => (NoOpening.raiseIf _ _ _).closed (loseEmission_frameOpen _ _)
  · rw [settleChain_open h]
    exact fun _ => (noteTerms_frameOpen s).trans (hs h)

theorem frameHeld_settle {s : State} (hs : s.frameHeld) : s.settle.frameHeld := by
  have before := (noOpening_beforeChain s).frameHeld hs
  have fw := (noOpening_fwFollows _).frameHeld (frameHeld_settleChain before)
  have after := (noOpening_afterChain _).frameHeld (frameHeld_settleChain fw)
  rw [settle_parts]
  exact ((noOpening_flush _).trans (.refused _ none)).frameHeld after

/-! ### The loss is logged -/

/-- The registers that hold terms of the chain (R85). -/
def chainKeys : List Nat := [FLT_TRIP, CTL_STATUS, EMT_EYE_CFG, EMT_FAULT, SEC_KEY_STATUS, EMT_ARM, SHT_STATUS]

/-- The terms are those registers' and of what the end of a step keeps. -/
theorem chainTerms_congr {s t : State} (h : keptState t = keptState s) (hr : ∀ k ∈ chainKeys, t.rd k = s.rd k) :
    t.chainTerms = s.chainTerms := by
  have pwr : t.pwr = s.pwr := show (keptState t).pwr = (keptState s).pwr by rw [h]
  have permitting : t.sec.permitting = s.sec.permitting := show (keptState t).sec.permitting = (keptState s).sec.permitting by rw [h]
  have discrepancy : t.sec.discrepancy = s.sec.discrepancy := show (keptState t).sec.discrepancy = (keptState s).sec.discrepancy by rw [h]
  have redCard : t.emt.redCard = s.emt.redCard := show (keptState t).emt.redCard = (keptState s).emt.redCard by rw [h]
  have force : t.inForce = s.inForce := show (keptState t).inForce = (keptState s).inForce by rw [h]
  have flag (f : Fld) (hf : f.reg ∈ chainKeys) : t.flag f = s.flag f := flag_congr (hr _ hf)
  have serve : t.fldF SHT_SERVE_CFG_BITS = s.fldF SHT_SERVE_CFG_BITS := by simp only [State.fldF, State.rdF, force]
  have key : t.bit SEC_KEY_STATUS 0 = s.bit SEC_KEY_STATUS 0 := by simp only [State.bit, hr SEC_KEY_STATUS (by decide)]
  unfold State.chainTerms State.running
  rw [pwr, permitting, discrepancy, redCard, serve, key, flag FLT_TRIP_LATCHED (by decide), flag CTL_STATUS_LOCK (by decide),
    flag EMT_EYE_CFG_LOCK (by decide), flag EMT_FAULT_LATCHED (by decide), flag EMT_ARM_ARM (by decide), flag SHT_STATUS_RUNNING (by decide)]

theorem settleClamp_regs (s : State) : s.settleClamp.regs = s.regs := by
  have step (n : Nat) (t : State) : (t.settleClamp1 n).regs = t.regs := by
    unfold State.settleClamp1
    extract_lets l c a
    split
    · rfl
    · split <;> rfl
  have all (n : Nat) : (loop n (fun i t => t.settleClamp1 i) s).regs = s.regs := by
    induction n with
    | zero => rfl
    | succ n ih => exact (step n _).trans ih
  exact all 8

theorem settleCool_rd (s : State) {k : Nat} (h : k ≠ DET_COOL_STATUS) : s.settleCool.rd k = s.rd k := by
  unfold State.settleCool
  extract_lets l near lim keep _ a b
  have clear (t : State) (f : Fld) (hf : f.reg = DET_COOL_STATUS) : (t.setFlag f false).rd k = t.rd k :=
    rd_wr_other t _ (hf ▸ h)
  have hb : b.rd k = s.rd k := by
    simp only [b]
    split
    · rfl
    · exact clear a DET_COOL_STATUS_AT_SP rfl
  split
  · exact hb
  · exact (clear b DET_COOL_STATUS_SATURATED rfl).trans hb

/-- The part of a step's end before the chain leaves its terms. -/
theorem chainTerms_beforeChain (s : State) : s.beforeChain.chainTerms = s.chainTerms := by
  unfold State.beforeChain
  split
  · rfl
  · refine chainTerms_congr ((quiet_settleClamp s).trans (quiet_settleCool _)).kept fun k hk => ?_
    have hne : k ≠ DET_COOL_STATUS := fun e => absurd (e ▸ hk) (by decide)
    rw [settleCool_rd _ hne]
    simp only [State.rd, settleClamp_regs]

/-- A source raised when the chain was brought to its terms is logged by the end of the step. -/
theorem logged_of_settleChain {s : State} {r : Raised} (h : r ∈ s.beforeChain.settleChain.raised) (hr : r.src < 256) :
    Logged s.settle r.src := by
  intro p hp hs
  have hq := (quiet_fwFollows s.beforeChain.settleChain).trans ((quiet_settleChain _).trans (quiet_afterChain _))
  rw [settle_parts] at hs ⊢
  generalize s.beforeChain.settleChain.fwFollows.settleChain.afterChain = u at *
  have hu : u.portInReset p = false := (keptState_reset (quiet_logged u).kept p).symm.trans hs
  exact logged_bit u (hq.more r h) hp hr hu

/-- Settles O20: the end of a step keeps `frameHeld`, and the loss of a whole chain raises its event. -/
theorem lossOfTheChainEndsTheFrame : Obligations.LossOfTheChainEndsTheFrame := by
  unfold Obligations.LossOfTheChainEndsTheFrame
  refine ⟨fun s h => frameHeld_settle fun hn => absurd h hn, fun s h hc => ?_⟩
  have terms : s.beforeChain.emt.terms = 255 := (noOpening_beforeChain s).terms.trans h
  rw [← chainTerms_beforeChain] at hc
  exact logged_of_settleChain (r := ⟨EV_EMT_CHAIN_OPEN, none⟩) (settleChain_raises terms hc) (by decide)

end Sys2Proof.Machine
end

section
/-! PROOFS. What the end of a step leaves of the control engine: the slots' clamp marks alone change (R49). -/

namespace Sys2Proof.Machine

open Sys2Proof.Laws

/-! ### What leaves the control engine alone -/

theorem ctl_foldl {β : Type} (l : List β) {f : State → β → State} (s : State) (h : ∀ t b, (f t b).ctl = t.ctl) :
    (l.foldl f s).ctl = s.ctl := by
  induction l generalizing s with
  | nil => rfl
  | cons b l ih => exact (ih _).trans (h s b)

theorem ctl_loop (n : Nat) {f : Nat → State → State} (s : State) (h : ∀ i t, (f i t).ctl = t.ctl) : (loop n f s).ctl = s.ctl := by
  induction n with
  | zero => rfl
  | succ n ih => exact (h n _).trans ih

theorem groupVector_ctl (s : State) (p src : Nat) : (s.groupVector p src).ctl = s.ctl := by
  have send (t : State) (v : Nat) : (t.sendVector p v).ctl = t.ctl := by
    unfold State.sendVector
    split
    · exact State.setBit_ctl _ _ _ _
    · rfl
  unfold State.groupVector
  dsimp only
  split
  · rw [send, State.setFlag_ctl]
  · rfl

theorem logEntry_ctl (s : State) (p src : Nat) (info : Word) : (s.logEntry p src info).ctl = s.ctl := by
  unfold State.logEntry
  extract_lets wr phase nx _ base e a _ b c d
  split
  · split
    · rw [State.setPort_ctl, State.bump_ctl]
    · have hb : b.ctl = a.ctl := State.setPort_ctl a p _
      have hc : c.ctl = b.ctl := by rw [State.setFlag_ctl, State.setFld_ctl]
      have hd : d.ctl = c.ctl := State.wrN_ctl c _ _
      rw [groupVector_ctl, hd, hc, hb]
  · rfl

theorem logOn_ctl (s : State) (p src : Nat) (info : Word) : (s.logOn p src info).ctl = s.ctl := by
  unfold State.logOn
  split
  · rfl
  · rw [logEntry_ctl, State.setBit_ctl]

theorem flush_ctl (s : State) : s.flush.ctl = s.ctl :=
  ctl_foldl (sortRaised s.raised) s fun t r => (logOn_ctl _ 1 r.src _).trans (logOn_ctl t 0 r.src _)

theorem setSeq_ctl (s : State) (n : Nat) : (s.setSeq n).ctl = s.ctl := (State.wrN_ctl _ _ _).trans (State.wrN_ctl s _ _)

theorem adoptStreamKey_ctl (s : State) : s.adoptStreamKey.ctl = s.ctl := by
  unfold State.adoptStreamKey State.setKey
  split
  · rw [State.setFld_ctl, setSeq_ctl, State.setBit_ctl, State.setFld_ctl, State.setBit_ctl]
  · rfl

theorem sendPacket_ctl (s : State) (k ty fl fr ln : Nat) (b : List Byte) : (s.sendPacket k ty fl fr ln b).ctl = s.ctl := by
  unfold State.sendPacket State.formPacket
  split
  · rfl
  · extract_lets a signed head bytes c
    have ha : a.ctl = s.ctl := by
      simp only [a]
      split
      · rfl
      · exact adoptStreamKey_ctl s
    have hc : c.ctl = a.ctl := setSeq_ctl a _
    rw [← ha]
    split
    · exact State.wrN_ctl _ _ _
    · rw [← hc]

theorem tryFrameEnd_ctl (s : State) : s.tryFrameEnd.ctl = s.ctl := by
  unfold State.tryFrameEnd
  split
  · rfl
  · split
    · rfl
    · split
      · rfl
      · exact sendPacket_ctl _ _ _ _ _ _ _

theorem discardWindow_ctl (s : State) : s.discardWindow.ctl = s.ctl := by
  unfold State.discardWindow
  split
  · rfl
  · have lanes (t : State) : (t.closeLanes true).ctl = t.ctl :=
      ctl_foldl _ t fun u e => by simp [State.closeLane, apply_ite State.ctl]
    simp [lanes, apply_ite State.ctl]

theorem stopLaunch_ctl (s : State) : s.stopLaunch.ctl = s.ctl := by
  unfold State.stopLaunch
  dsimp only
  split
  · rfl
  · split <;> rfl

theorem dropPrepared_ctl (s : State) : s.dropPrepared.ctl = s.ctl := by
  unfold State.dropPrepared
  split <;> rfl

theorem deliverLine_ctl (s : State) : s.deliverLine.ctl = s.ctl := by
  simp [State.deliverLine, State.onLine, apply_ite State.ctl]

theorem endLine_ctl (s : State) : s.endLine.ctl = s.ctl := by
  unfold State.endLine
  split
  · rfl
  · extract_lets dur a amb base mine _ b c
    have hc : c.ctl = b.ctl := ctl_loop 192 b fun _ _ => State.setFld_ctl _ _ _
    have ha : a.ctl = s.ctl := State.wrN_ctl s _ _
    have hb : b.ctl = a.ctl := rfl
    rw [← ha, ← hb, ← hc]

theorem frameRates_ctl (s : State) : s.frameRates.ctl = s.ctl := by
  unfold State.frameRates
  dsimp only
  split
  · rfl
  · exact ctl_loop 192 _ fun _ _ => State.setFld_ctl _ _ _

theorem closeFrame_ctl (s : State) (c : Nat) : (s.closeFrame c).ctl = s.ctl := by
  have sweep : s.endSweepLines.ctl = s.ctl := by
    simp [State.endSweepLines, apply_ite State.ctl, frameRates_ctl, endLine_ctl, deliverLine_ctl]
  rw [closeFrame_eq, ← sweep]
  dsimp only
  split <;> rfl

theorem loseEmission_ctl (s : State) (c : Nat) : (s.loseEmission c).ctl = s.ctl := by
  rw [State.loseEmission, closeFrame_ctl, stopLaunch_ctl, dropPrepared_ctl]

theorem endRun_ctl (s : State) : s.endRun.ctl = s.ctl := by simp [State.endRun, apply_ite State.ctl]

theorem abortRun_ctl (s : State) : s.abortRun.ctl = s.ctl := by
  simp [State.abortRun, State.cutLine, apply_ite State.ctl, endRun_ctl, closeFrame_ctl, deliverLine_ctl, stopLaunch_ctl,
    discardWindow_ctl, dropPrepared_ctl]

theorem settleFw_ctl (s : State) : s.settleFw.ctl = s.ctl := by
  have enter (t : State) (n c : Nat) : (t.fwEnter n c).ctl = t.ctl := by
    unfold State.fwEnter
    rw [State.raiseInfo_ctl, State.setFld_ctl, State.setFld_ctl]
  unfold State.settleFw
  dsimp only
  simp only [apply_ite State.ctl, enter, State.setFlag_ctl, abortRun_ctl, endRun_ctl, loseEmission_ctl, ite_self]

theorem settleChain_ctl (s : State) : s.settleChain.ctl = s.ctl := by
  have note : s.noteTerms.ctl = s.ctl := by simp [State.noteTerms, apply_ite State.ctl]
  simp [settleChain_eq, State.forceLow, apply_ite State.ctl, loseEmission_ctl, note]

theorem settleCool_ctl (s : State) : s.settleCool.ctl = s.ctl := by
  simp [State.settleCool, apply_ite State.ctl]

theorem afterChain_ctl (s : State) : s.afterChain.ctl = s.ctl := by
  simp [State.afterChain, State.noteLongs, State.settleFault, apply_ite State.ctl, tryFrameEnd_ctl]

/-- At its end a step changes the control engine only where it compares the targets with their limits. -/
theorem settle_ctl_eq (s : State) : s.settle.ctl = s.beforeChain.ctl := by
  have fw (t : State) : t.fwFollows.ctl = t.ctl := by simp [State.fwFollows, apply_ite State.ctl, settleFw_ctl]
  rw [settle_parts]
  exact (flush_ctl _).trans <| (afterChain_ctl _).trans <| (settleChain_ctl _).trans <| (fw _).trans (settleChain_ctl _)

/-! ### A slot's state -/

theorem slot_setSlot (s : State) (n m : Nat) (l : LoopState) : (s.setSlot n l).slot m = if m = n then l else s.slot m := by
  split
  next h => rw [h]; exact tabGet_tabSet_same _ _ _ _
  next h => exact tabGet_tabSet_other _ _ _ _ h

theorem slot_congr {s t : State} (h : t.ctl = s.ctl) (n : Nat) : t.slot n = s.slot n := by simp [State.slot, h]

/-- The output of a slot stays while its clamp mark is brought up to date. -/
theorem settleClamp_slot_u (s : State) (n : Nat) : (s.settleClamp.slot n).u = (s.slot n).u := by
  have one (i : Nat) (t : State) : ((t.settleClamp1 i).slot n).u = (t.slot n).u := by
    have mark (c : Bool) : ((t.setSlot i { t.slot i with clamped := c }).slot n).u = (t.slot n).u := by
      rw [slot_setSlot]
      split
      next h => rw [h]
      · rfl
    unfold State.settleClamp1
    dsimp only
    split
    · rfl
    · split
      · exact mark _
      · exact mark _
  have all (k : Nat) : ((loop k (fun n s => s.settleClamp1 n) s).slot n).u = (s.slot n).u := by
    induction k with
    | zero => rfl
    | succ k ih => exact (one k _).trans ih
  exact all 8

theorem settle_slot_u (s : State) (n : Nat) : (s.settle.slot n).u = (s.slot n).u := by
  rw [slot_congr (settle_ctl_eq s)]
  unfold State.beforeChain
  split
  · rfl
  · rw [slot_congr (settleCool_ctl _), settleClamp_slot_u]

end Sys2Proof.Machine
end

section
/-! PROOFS. A loop slot opens, the polygon's slots open, lock is lost: bits of the engine's registers fall, and none rises (R34, R44, R47, R54,
R55, R57). -/

namespace Sys2Proof.Machine

open Sys2Proof.Laws

/-! ### Bits of registers -/

/-- A bit of a register after a write of a field. -/
theorem bit_setFld (s : State) {f : Fld} (v k i : Nat) (hl : f.lo ≤ f.hi) (hh : f.hi < 32) :
    (s.setFld f v).bit k i = if k = f.reg ∧ f.lo ≤ i ∧ i ≤ f.hi then v.testBit (i - f.lo) else s.bit k i := by
  rw [State.bit, rd_setFld]
  by_cases hk : k = f.reg
  · rw [if_pos hk, put_testBit f _ v i hl hh, hk]
    simp [State.bit]
  · rw [if_neg hk, if_neg fun h => hk h.1]
    rfl

/-- A flag is the one bit of its field. -/
theorem flag_eq_bit (s : State) {f : Fld} (h : f.hi = f.lo) : s.flag f = s.bit f.reg f.lo := by
  simp only [State.flag, State.bit, State.fld, Fld.get, h, Nat.add_sub_cancel_left, pow_one, Nat.testBit_eq_decide_div_mod_eq,
    Nat.shiftRight_eq_div_pow]
  rcases Nat.mod_two_eq_zero_or_one ((s.rd f.reg).toNat / 2 ^ f.lo) with h0 | h0 <;> simp [h0]

theorem bit_congr {s t : State} {k : Nat} (h : t.rd k = s.rd k) (i : Nat) : t.bit k i = s.bit k i := by simp [State.bit, h]

theorem settleKey_slotCtrl : ∀ {n : Nat}, n < 8 → settleKey (CTL_SLOT_CTRL n) = false := by decide +kernel
theorem settleKey_ctlStatus : settleKey CTL_STATUS = false := by decide +kernel

/-! ### What an opening leaves and what it lowers -/

/-- The control engine without what the opening of a slot changes. -/
def keptLoops (c : CtlState) : CtlState :=
  { c with slots := [], poly := CtlState.init.poly, cool := CtlState.init.cool, lockStreak := 0, phaseValid := false, rcOk := false }

/-- From `s` to `t` slots may open: no bit rises of a register that the end of a step leaves, the bits of faults in CTL_STATUS stay, and so
do the sources raised and the engine's encoder. -/
structure Lowers (s t : State) : Prop where
  bits : ∀ k i, settleKey k = false → s.bit k i = false → t.bit k i = false
  faults : ∀ i, 24 ≤ i → t.bit CTL_STATUS i = s.bit CTL_STATUS i
  raised : ∀ r ∈ s.raised, r ∈ t.raised
  loops : keptLoops t.ctl = keptLoops s.ctl

theorem Lowers.refl (s : State) : Lowers s s := ⟨fun _ _ _ h => h, fun _ _ => rfl, fun _ h => h, rfl⟩

theorem Lowers.trans {s t u : State} (h : Lowers s t) (g : Lowers t u) : Lowers s u :=
  ⟨fun k i hk hs => g.bits k i hk (h.bits k i hk hs), fun i hi => (g.faults i hi).trans (h.faults i hi),
   fun r hr => g.raised r (h.raised r hr), g.loops.trans h.loops⟩

theorem Lowers.ite {s t u : State} {c : Prop} [Decidable c] (h : Lowers s t) (g : Lowers s u) : Lowers s (if c then t else u) := by
  split <;> assumption

theorem Lowers.of_quiet {s t : State} (h : Quiet s t) (hc : t.ctl = s.ctl) : Lowers s t :=
  ⟨fun k i hk hs => (bit_congr (h.rd k hk) i).trans hs, fun i _ => bit_congr (h.rd _ settleKey_ctlStatus) i, h.more, by rw [hc]⟩

/-- A change of the loops alone. -/
theorem Lowers.loopsOnly (s : State) {c : CtlState} (h : keptLoops c = keptLoops s.ctl) : Lowers s { s with ctl := c } :=
  ⟨fun _ _ _ h => h, fun _ _ => rfl, fun _ h => h, h⟩

theorem Lowers.setSlot (s : State) (n : Nat) (l : LoopState) : Lowers s (s.setSlot n l) := .loopsOnly s rfl

theorem Lowers.clearFlag (s : State) {f : Fld} (hl : f.lo ≤ f.hi) (hh : f.hi < 32) (hf : f.reg = CTL_STATUS → f.hi < 24) :
    Lowers s (s.setFlag f false) := by
  refine ⟨fun k i _ hs => ?_, fun i hi => ?_, fun _ h => h, rfl⟩
  · rw [State.setFlag, bit_setFld s _ k i hl hh]
    split
    · exact Nat.zero_testBit _
    · exact hs
  · rw [State.setFlag, bit_setFld s _ _ i hl hh, if_neg fun h => ?_]
    have := hf h.1.symm
    omega

/-! ### The loss of lock (R34, R57) -/

theorem loseLock_lock (s : State) : s.loseLock.flag CTL_STATUS_LOCK = false := by
  unfold State.loseLock
  split
  · rw [flag_congr (rd_raise _ _ _), flag_congr ((quiet_loseEmission _ 3).rd _ settleKey_ctlStatus)]
    exact flag_setFlag_same _ _ _ rfl (by decide)
  next h => exact eq_false_of_ne_true h

theorem loseLock_lowers (s : State) : Lowers s s.loseLock := by
  unfold State.loseLock
  extract_lets a
  have ha : Lowers s a := .ite (.of_quiet (quiet_onLine s _) rfl) (.refl s)
  have lock : Lowers a (a.setFlag CTL_STATUS_LOCK false) := .clearFlag a (by decide) (by decide) fun _ => by decide
  have frame (t : State) : Lowers t (t.loseEmission 3) := .of_quiet (quiet_loseEmission t 3) (loseEmission_ctl t 3)
  exact .ite (ha.trans (lock.trans ((frame _).trans (.of_quiet (quiet_raise _ _) rfl)))) (.refl s)

theorem Kept.quiet {s t u : State} {keys : List Nat} (h : Kept s t keys) (g : Quiet t u) : Kept s u keys := by
  have mem : u.mem = t.mem := show (keptState u).mem = (keptState t).mem by rw [g.kept]
  have pend : u.pending = t.pending := show (keptState u).pending = (keptState t).pending by rw [g.kept]
  exact h.trans ⟨fun k hk _ => g.rd k hk, quiet_inForce g, fun a => by rw [mem], pend⟩

theorem Kept.ite {s t u : State} {keys : List Nat} {c : Prop} [Decidable c] (h : Kept s t keys) (g : Kept s u keys) :
    Kept s (if c then t else u) keys := by split <;> assumption

theorem Kept.ctl {s t : State} {keys : List Nat} (h : Kept s t keys) (c : CtlState) : Kept s { t with ctl := c } keys :=
  h.of_eq rfl rfl rfl rfl

theorem Kept.loseLock {s t : State} {keys : List Nat} (h : Kept s t keys) (hk : CTL_STATUS ∈ keys) : Kept s t.loseLock keys := by
  unfold State.loseLock
  extract_lets a
  have ha : Kept s a keys := .ite (h.quiet (quiet_onLine t _)) h
  exact .ite (((ha.setFlag (f := CTL_STATUS_LOCK) false hk).quiet (quiet_loseEmission _ 3)).raise _) h

/-! ### A slot opens (R44) -/

/-- The slot's loop is open, and the plant it leads holds its output or follows its OPEN_ACTION. -/
def State.openLoop (s : State) (n : Nat) : State :=
  let l := s.slot n
  let t := s.setSlot n { l with closed := false, preload := false }
  if l.closed then
    if n = 0 then ({ t with ctl := { t.ctl with poly := t.openPlant 0 t.ctl.poly } } : State).setFlag CTL_STATUS_SLEWING false
    else if n = 4 then { t with ctl := { t.ctl with cool := t.openPlant 4 t.ctl.cool } }
    else t
  else s

/-- The registers of a slot show it open. -/
def State.showOpen (s : State) (n : Nat) : State :=
  let t := s.setFlag (CTL_SLOT_CTRL_CLOSE n) false
  if n = 5 then t else t.setBit CTL_STATUS (8 + n) false

/-- With slot 0 the reference phase, the learning and the search for lock start anew. -/
def State.restartLock (s : State) (n : Nat) : State :=
  if n = 0 then { s with ctl := { s.ctl with lockStreak := 0, phaseValid := false, rcOk := false } } else s

theorem openSlot_eq (s : State) (n : Nat) :
    s.openSlot n = let t := ((s.showOpen n).openLoop n).restartLock n
      if n = 0 || n = 3 then t.loseLock else t := by
  have hl : (s.showOpen n).slot n = s.slot n := by
    unfold State.showOpen
    split <;> rfl
  unfold State.openSlot State.openLoop State.restartLock
  rw [hl]
  rfl

theorem openLoop_lowers (s : State) (n : Nat) : Lowers s (s.openLoop n) := by
  unfold State.openLoop
  extract_lets l t
  have ht : Lowers s t := .setSlot s n _
  have slewing (c : CtlState) (hc : keptLoops c = keptLoops t.ctl) :
      Lowers t (({ t with ctl := c } : State).setFlag CTL_STATUS_SLEWING false) :=
    (Lowers.loopsOnly t hc).trans (.clearFlag _ (by decide) (by decide) fun _ => by decide)
  exact .ite (.ite (ht.trans (slewing _ rfl)) (.ite (ht.trans (.loopsOnly t rfl)) ht)) (.refl s)

theorem showOpen_lowers (s : State) {n : Nat} (hn : n < 8) : Lowers s (s.showOpen n) := by
  unfold State.showOpen
  extract_lets t
  have close : Lowers s t := .clearFlag s le_rfl (show 0 < 32 by decide) fun _ => show 0 < 24 by decide
  have closed : Lowers t (t.setFlag ⟨CTL_STATUS, 8 + n, 8 + n⟩ false) :=
    .clearFlag t le_rfl (show 8 + n < 32 by omega) fun _ => show 8 + n < 24 by omega
  exact .ite close (close.trans closed)

theorem restartLock_lowers (s : State) (n : Nat) : Lowers s (s.restartLock n) := .ite (.loopsOnly s rfl) (.refl s)

theorem openSlot_lowers (s : State) {n : Nat} (hn : n < 8) : Lowers s (s.openSlot n) := by
  rw [openSlot_eq]
  have open_ := (showOpen_lowers s hn).trans ((openLoop_lowers _ n).trans (restartLock_lowers _ n))
  exact .ite (open_.trans (loseLock_lowers _)) open_

/-- The registers of a slot show it open: its close bit, and its bit in CTL_STATUS where it has one. -/
theorem openSlot_shown (s : State) {n : Nat} (hn : n < 8) :
    (s.openSlot n).flag (CTL_SLOT_CTRL_CLOSE n) = false ∧ (n ≠ 5 → (s.openSlot n).bit CTL_STATUS (8 + n) = false) := by
  have shown : (s.showOpen n).bit (CTL_SLOT_CTRL n) 0 = false ∧ (n ≠ 5 → (s.showOpen n).bit CTL_STATUS (8 + n) = false) := by
    unfold State.showOpen
    extract_lets t
    have ht : t.bit (CTL_SLOT_CTRL n) 0 = false :=
      (flag_eq_bit t (f := CTL_SLOT_CTRL_CLOSE n) rfl).symm.trans (flag_setFlag_same s _ _ rfl (show 0 < 32 by decide))
    have other : CTL_SLOT_CTRL n ≠ CTL_STATUS := by simp only [CTL_SLOT_CTRL, CTL_STATUS]; omega
    split
    next h => exact ⟨ht, fun h5 => absurd h h5⟩
    · exact ⟨(bit_congr (by rw [rd_setBit, if_neg other]) 0).trans ht, fun _ => bit_setBit_same t _ _ _ (by omega)⟩
  rw [flag_eq_bit _ rfl, openSlot_eq]
  have later : Lowers (s.showOpen n) (let t := ((s.showOpen n).openLoop n).restartLock n
      if n = 0 || n = 3 then t.loseLock else t) :=
    have open_ := (openLoop_lowers (s.showOpen n) n).trans (restartLock_lowers _ n)
    .ite (open_.trans (loseLock_lowers _)) open_
  exact ⟨later.bits _ _ (settleKey_slotCtrl hn) shown.1, fun h5 => later.bits _ _ settleKey_ctlStatus (shown.2 h5)⟩

/-- Opening slot 0 or 3 removes scanner lock (R47, R57). -/
theorem openSlot_lock (s : State) {n : Nat} (hn : n = 0 ∨ n = 3) : (s.openSlot n).flag CTL_STATUS_LOCK = false := by
  rw [openSlot_eq]
  dsimp only
  rw [if_pos (by simpa using hn)]
  exact loseLock_lock _

theorem Kept.openSlot {s t : State} {keys : List Nat} (h : Kept s t keys) {n : Nat} (hk : CTL_SLOT_CTRL n ∈ keys)
    (hst : CTL_STATUS ∈ keys) : Kept s (t.openSlot n) keys := by
  have shown : Kept s (t.showOpen n) keys := by
    unfold State.showOpen
    have close : Kept s (t.setFlag (CTL_SLOT_CTRL_CLOSE n) false) keys := h.setFlag false hk
    exact .ite close (close.setBit (8 + n) false hst)
  have loop : Kept s ((t.showOpen n).openLoop n) keys := by
    unfold State.openLoop
    extract_lets l u
    have hu : Kept s u keys := shown.ctl _
    exact .ite (.ite ((hu.ctl _).setFlag (f := CTL_STATUS_SLEWING) false hst) (.ite (hu.ctl _) hu)) shown
  have restart : Kept s (((t.showOpen n).openLoop n).restartLock n) keys := .ite (loop.ctl _) loop
  rw [openSlot_eq]
  exact .ite (restart.loseLock hst) restart

/-! ### The polygon's slots open (R54, R55) -/

theorem openPolygon_lowers (s : State) : Lowers s s.openPolygon :=
  (openSlot_lowers s (by decide)).trans <| (openSlot_lowers _ (by decide)).trans <| (openSlot_lowers _ (by decide)).trans
    (openSlot_lowers _ (by decide))

theorem openPolygon_lock (s : State) : s.openPolygon.flag CTL_STATUS_LOCK = false := openSlot_lock _ (.inr rfl)

/-- Slots 0 to 3 show open: each was opened, and the openings after it set no bit. -/
theorem openPolygon_shown (s : State) {n : Nat} (hn : n < 4) :
    s.openPolygon.flag (CTL_SLOT_CTRL_CLOSE n) = false ∧ s.openPolygon.bit CTL_STATUS (8 + n) = false := by
  have stays {t u : State} (h : Lowers (t.openSlot n) u) :
      u.flag (CTL_SLOT_CTRL_CLOSE n) = false ∧ u.bit CTL_STATUS (8 + n) = false := by
    obtain ⟨close, closed⟩ := openSlot_shown t (n := n) (by omega)
    rw [flag_eq_bit _ rfl] at close ⊢
    exact ⟨h.bits _ _ (settleKey_slotCtrl (by omega)) close, h.bits _ _ settleKey_ctlStatus (closed (by omega))⟩
  have open_ (t : State) (m : Fin 8) : Lowers t (t.openSlot m) := openSlot_lowers t m.isLt
  have h : n = 0 ∨ n = 1 ∨ n = 2 ∨ n = 3 := by omega
  rcases h with rfl | rfl | rfl | rfl
  · exact stays ((open_ _ 1).trans ((open_ _ 2).trans (open_ _ 3)))
  · exact stays ((open_ _ 2).trans (open_ _ 3))
  · exact stays (open_ _ 3)
  · exact stays (.refl _)

theorem Kept.openPolygon {s t : State} {keys : List Nat} (h : Kept s t keys) (hk : ∀ n < 4, CTL_SLOT_CTRL n ∈ keys)
    (hst : CTL_STATUS ∈ keys) : Kept s t.openPolygon keys :=
  (((h.openSlot (hk 0 (by decide)) hst).openSlot (hk 1 (by decide)) hst).openSlot (hk 2 (by decide)) hst).openSlot (hk 3 (by decide)) hst

end Sys2Proof.Machine
end

section
/-! PROOFS. Writes of CTL_SLOT_CTRL: a slot closes, opens, or changes its mode (R44, R45, R47, R57). -/

namespace Sys2Proof.Machine

open Sys2Proof.Laws

/-- A write of a register that no firmware owns, and that reaches its block, has the block's effect. -/
theorem hostGate_unowned {s : State} {p : Port} {off : Nat} (h : Reaches s p off) (f : State → State) :
    s.hostGate p off false f = f s := by
  obtain ⟨silent, reset, group⟩ := h
  exact hostGate_reaches s p off false f silent reset group rfl

/-! ### A refusal of the control engine (R46, R47, R65) -/

theorem Kept.raiseInfo {s t : State} {keys : List Nat} (h : Kept s t keys) (e i : Nat) : Kept s (t.raiseInfo e i) keys :=
  h.of_eq rfl rfl rfl rfl
theorem Kept.ignore {s t : State} {keys : List Nat} (h : Kept s t keys) : Kept s t.ignore keys := h.of_eq rfl rfl rfl rfl

theorem ctlRefuse_settles (s : State) {ev : Nat} (off slot : Nat) (he : ev < 256) :
    Logged (s.ctlRefuse ev off slot).settle ev
      ∧ (s.ctlRefuse ev off slot).settle.rdN CTL_EVT_INFO = off % 65536 * 65536 + slot % 256
      ∧ Kept s (s.ctlRefuse ev off slot).settle [CTL_EVT_INFO] := by
  unfold State.ctlRefuse
  dsimp only
  have lt : off % 65536 * 65536 + slot % 256 < 2 ^ 32 := by omega
  generalize off % 65536 * 65536 + slot % 256 = w at lt
  have raised : ⟨ev, some (BitVec.ofNat 32 w)⟩ ∈ (((s.wrN CTL_EVT_INFO w).raiseInfo ev w).ignore).raised :=
    List.mem_append_right _ (List.mem_singleton_self _)
  have kept : Kept s ((s.wrN CTL_EVT_INFO w).raiseInfo ev w).ignore [CTL_EVT_INFO] :=
    (((Kept.refl s _).wrN w (List.mem_singleton_self _)).raiseInfo ev w).ignore
  refine ⟨logged_settle (r := ⟨ev, some (BitVec.ofNat 32 w)⟩) raised he, ?_, kept.settle⟩
  rw [settle_rdN _ (by decide), State.rdN, rd_ignore, rd_raiseInfo, rd_wrN, if_pos rfl, BitVec.toNat_ofNat]
  exact Nat.mod_eq_of_lt lt

/-! ### The mode and the close bit -/

/-- The number of modes a slot has: slot 0 two, every other one (R47). -/
def modesOf (n : Nat) : Nat := if n = 0 then 2 else 1

/-- A slot takes a mode that it has: a change preloads the integrator, and to mode 0 it loses lock (R45, R47). -/
def State.storeMode (s : State) (n mode : Nat) : State :=
  let t := s.setFld (CTL_SLOT_CTRL_MODE n) mode
  if mode = s.fld (CTL_SLOT_CTRL_MODE n) then t
  else
    let t := t.setSlot n { t.slot n with preload := true }
    let t : State := { t with ctl := { t.ctl with lockStreak := 0 } }
    if mode = 0 then t.loseLock else { t with ctl := { t.ctl with phaseValid := false } }

theorem slotCtrlWrite_allowed {s : State} {n : Nat} {v : Word} (h : v.toNat / 2 % 4 < modesOf n) :
    s.slotCtrlWrite n v = let t := s.storeMode n (v.toNat / 2 % 4)
      if v.toNat % 2 = 1 then if t.plant n = 0 then t else t.setFlag (CTL_SLOT_CTRL_CLOSE n) true else t.openSlot n := by
  unfold State.slotCtrlWrite State.storeMode
  unfold modesOf at h
  dsimp only
  rw [if_neg (by split at h <;> simp <;> omega)]
  by_cases hc : v.toNat % 2 = 1 <;> simp [hc]

theorem slotCtrlWrite_refused {s : State} {n : Nat} {v : Word} (h : modesOf n ≤ v.toNat / 2 % 4) :
    s.slotCtrlWrite n v = s.ctlRefuse EV_CTL_CFG_ERROR (0x1000 + n * 0x80) n := by
  unfold State.slotCtrlWrite
  unfold modesOf at h
  dsimp only
  rw [if_pos (by split at h <;> simp <;> omega)]

/-- The mode and the close bit in a word written to CTL_SLOT_CTRL. -/
theorem ctrlWord {mode close : Nat} (hm : mode < 4) (hc : close < 2) :
    (BitVec.ofNat 32 (2 * mode + close)).toNat / 2 % 4 = mode ∧ (BitVec.ofNat 32 (2 * mode + close)).toNat % 2 = close := by
  rw [BitVec.toNat_ofNat]
  omega

theorem slotMode_lt (s : State) (n : Nat) : s.fld (CTL_SLOT_CTRL_MODE n) < 4 := fld_lt s (CTL_SLOT_CTRL_MODE n)
theorem slotClose_lt (s : State) (n : Nat) : s.fld (CTL_SLOT_CTRL_CLOSE n) < 2 := fld_lt s (CTL_SLOT_CTRL_CLOSE n)

theorem storeMode_same {s : State} {n : Nat} :
    s.storeMode n (s.fld (CTL_SLOT_CTRL_MODE n)) = s.setFld (CTL_SLOT_CTRL_MODE n) (s.fld (CTL_SLOT_CTRL_MODE n)) := if_pos rfl

theorem storeMode_kept (s : State) (n mode : Nat) :
    Kept (s.setFld (CTL_SLOT_CTRL_MODE n) mode) (s.storeMode n mode) [CTL_STATUS] := by
  unfold State.storeMode
  extract_lets t u
  have hu (l : LoopState) (c : CtlState) : Kept t { t.setSlot n l with ctl := c } [CTL_STATUS] := ((Kept.refl t _).ctl _).ctl c
  exact .ite (.refl t _) (.ite ((hu _ _).loseLock (List.mem_singleton_self _)) ((hu _ _).ctl _))

theorem plant_storeMode (s : State) {n : Nat} (hn : n < 8) (m mode : Nat) : (s.storeMode m mode).plant n = s.plant n := by
  have key : settleKey (CTL_SLOT_CFG n) = false := (by decide +kernel : ∀ n < 8, settleKey (CTL_SLOT_CFG n) = false) n hn
  have status : CTL_SLOT_CFG n ∉ [CTL_STATUS] := by simp only [CTL_SLOT_CFG, CTL_STATUS, List.mem_singleton]; omega
  have other : CTL_SLOT_CFG n ≠ CTL_SLOT_CTRL m := by simp only [CTL_SLOT_CFG, CTL_SLOT_CTRL]; omega
  refine fld_congr (f := CTL_SLOT_CFG_PLANT n) ?_
  obtain ⟨rd, -⟩ := storeMode_kept s m mode
  exact (rd _ key status).trans (rd_wr_other s _ other)

theorem storeMode_mode (s : State) {n mode : Nat} (hn : n < 8) (hm : mode < 4) :
    (s.storeMode n mode).fld (CTL_SLOT_CTRL_MODE n) = mode := by
  have status : CTL_SLOT_CTRL n ∉ [CTL_STATUS] := by simp only [CTL_SLOT_CTRL, CTL_STATUS, List.mem_singleton]; omega
  obtain ⟨rd, -⟩ := storeMode_kept s n mode
  rw [fld_congr (f := CTL_SLOT_CTRL_MODE n) (rd _ (settleKey_slotCtrl hn) status),
    fld_setFld_same s (CTL_SLOT_CTRL_MODE n) mode (show 1 ≤ 2 by decide) (show 2 < 32 by decide)]
  exact Nat.mod_eq_of_lt hm

theorem storeMode_lock {s : State} {n : Nat} (h : (0 : Nat) ≠ s.fld (CTL_SLOT_CTRL_MODE n)) :
    (s.storeMode n 0).flag CTL_STATUS_LOCK = false := by
  unfold State.storeMode
  dsimp only
  rw [if_neg h, if_pos rfl]
  exact loseLock_lock _

/-! ### The commands -/

theorem slotClose_gives {p : Port} {n : Fin 8} {s : State} (h : Reaches s p (CTL_SLOT_CTRL n)) (hp : s.plant n ≠ 0)
    (hm : s.fld (CTL_SLOT_CTRL_MODE n) < modesOf n) :
    Gives (.slotClose p n) s fun t => t.flag (CTL_SLOT_CTRL_CLOSE n) = true ∧ Kept s t [CTL_SLOT_CTRL n] := by
  obtain ⟨mode, close⟩ := ctrlWord (slotMode_lt s n) (show 1 < 2 by decide)
  refine ⟨((s.storeMode n (s.fld (CTL_SLOT_CTRL_MODE n))).setFlag (CTL_SLOT_CTRL_CLOSE n) true).settle, ?_, ?_, ?_⟩
  · show done (s.hostGate p _ false _) = _
    rw [hostGate_unowned h, slotCtrlWrite_allowed (by rw [mode]; exact hm), mode, close]
    dsimp only
    rw [if_pos rfl, if_neg (by rwa [plant_storeMode s n.isLt])]
    rfl
  · rw [settle_flag _ (settleKey_slotCtrl n.isLt)]
    exact flag_setFlag_same _ _ _ rfl (show 0 < 32 by decide)
  · rw [storeMode_same]
    have listed : CTL_SLOT_CTRL n ∈ [CTL_SLOT_CTRL n.val] := List.mem_singleton_self _
    exact (((Kept.refl s _).setFld (f := CTL_SLOT_CTRL_MODE n) _ listed).setFlag (f := CTL_SLOT_CTRL_CLOSE n) true listed).settle

theorem slotOpen_gives {p : Port} {n : Fin 8} {s : State} (h : Reaches s p (CTL_SLOT_CTRL n))
    (hm : s.fld (CTL_SLOT_CTRL_MODE n) < modesOf n) :
    Gives (.slotOpen p n) s fun t => t.flag (CTL_SLOT_CTRL_CLOSE n) = false ∧ (n.val ≠ 5 → t.bit CTL_STATUS (8 + n) = false)
      ∧ ((n.val = 0 ∨ n.val = 3) → t.flag CTL_STATUS_LOCK = false) ∧ Kept s t [CTL_SLOT_CTRL n, CTL_STATUS] := by
  obtain ⟨mode, close⟩ := ctrlWord (slotMode_lt s n) (show 0 < 2 by decide)
  rw [Nat.add_zero] at mode close
  refine ⟨((s.storeMode n (s.fld (CTL_SLOT_CTRL_MODE n))).openSlot n).settle, ?_, ?_, fun h5 => ?_, fun h03 => ?_, ?_⟩
  · show done (s.hostGate p _ false _) = _
    rw [hostGate_unowned h, slotCtrlWrite_allowed (by rw [mode]; exact hm), mode, close]
    rfl
  · rw [settle_flag _ (settleKey_slotCtrl n.isLt)]
    exact (openSlot_shown _ n.isLt).1
  · exact (bit_congr (settle_rd _ settleKey_ctlStatus) _).trans ((openSlot_shown _ n.isLt).2 h5)
  · rw [settle_flag _ settleKey_ctlStatus]
    exact openSlot_lock _ h03
  · rw [storeMode_same]
    have listed : CTL_SLOT_CTRL n ∈ [CTL_SLOT_CTRL n.val, CTL_STATUS] := List.mem_cons_self
    exact (((Kept.refl s _).setFld (f := CTL_SLOT_CTRL_MODE n) _ listed).openSlot listed (by simp)).settle

theorem slotModeChange_gives {p : Port} {mode : BitVec 2} {s : State} (h : Reaches s p (CTL_SLOT_CTRL 0)) (hm : mode.toNat < 2)
    (hne : s.fld (CTL_SLOT_CTRL_MODE 0) ≠ mode.toNat) (hc : s.flag (CTL_SLOT_CTRL_CLOSE 0) = true) (hp : s.plant 0 ≠ 0) :
    Gives (.slotModeChange p 0 mode) s fun t => t.fld (CTL_SLOT_CTRL_MODE 0) = mode.toNat
      ∧ (mode = 0 → t.flag CTL_STATUS_LOCK = false) ∧ Kept s t [CTL_SLOT_CTRL 0, CTL_STATUS] := by
  have hc1 : s.fld (CTL_SLOT_CTRL_CLOSE 0) = 1 := by
    have lt := slotClose_lt s 0
    have ne : s.fld (CTL_SLOT_CTRL_CLOSE 0) ≠ 0 := of_decide_eq_true hc
    omega
  obtain ⟨hmode, hclose⟩ := ctrlWord mode.isLt (show 1 < 2 by decide)
  refine ⟨((s.storeMode 0 mode.toNat).setFlag (CTL_SLOT_CTRL_CLOSE 0) true).settle, ?_, ?_, fun h0 => ?_, ?_⟩
  · show done (s.hostGate p (CTL_SLOT_CTRL 0) false
      (fun s => s.slotCtrlWrite 0 (BitVec.ofNat 32 (2 * mode.toNat + s.fld (CTL_SLOT_CTRL_CLOSE 0))))) = _
    rw [hostGate_unowned h, hc1, slotCtrlWrite_allowed (by rw [hmode]; exact hm), hmode, hclose]
    dsimp only
    rw [if_pos rfl, if_neg (by rwa [plant_storeMode s (by decide)])]
    rfl
  · rw [settle_fld _ (by decide), State.setFlag, fld_setFld_other _ _ _ _ (by decide) (by decide) (by decide),
      storeMode_mode s (by decide) mode.isLt]
  · rw [settle_flag _ (by decide), flag_setFlag_other _ _ _ _ (by decide) (by decide) (by decide), h0]
    exact storeMode_lock fun e => hne (by rw [h0]; exact e.symm)
  · have listed : CTL_SLOT_CTRL 0 ∈ [CTL_SLOT_CTRL 0, CTL_STATUS] := List.mem_cons_self
    obtain ⟨rd, force, mem, pend⟩ := storeMode_kept s 0 mode.toNat
    have stored : Kept s (s.storeMode 0 mode.toNat) [CTL_SLOT_CTRL 0, CTL_STATUS] :=
      ((Kept.refl s _).setFld (f := CTL_SLOT_CTRL_MODE 0) mode.toNat listed).trans
        ⟨fun k hk hn => rd k hk fun e => hn (List.mem_cons_of_mem _ e), force, mem, pend⟩
    exact (stored.setFlag (f := CTL_SLOT_CTRL_CLOSE 0) true listed).settle

theorem slotModeChange_refused {p : Port} {n : Fin 8} {mode : BitVec 2} {s : State} (h : Reaches s p (CTL_SLOT_CTRL n))
    (hm : modesOf n ≤ mode.toNat) :
    Gives (.slotModeChange p n mode) s fun t => Logged t EV_CTL_CFG_ERROR
      ∧ t.rdN CTL_EVT_INFO = (0x1000 + 0x80 * n.val) * 65536 + n.val ∧ Kept s t [CTL_EVT_INFO] := by
  obtain ⟨hmode, -⟩ := ctrlWord mode.isLt (slotClose_lt s n)
  obtain ⟨logged, info, kept⟩ := ctlRefuse_settles s (ev := EV_CTL_CFG_ERROR) (0x1000 + n.val * 0x80) n (by decide)
  refine ⟨_, ?_, logged, ?_, kept⟩
  · show done (s.hostGate p _ false _) = _
    rw [hostGate_unowned h, slotCtrlWrite_refused (by rw [hmode]; exact hm)]
    rfl
  · rw [info]
    omega

/-- Settles O8: each command writes CTL_SLOT_CTRL, which takes the mode and then opens the slot or sets CLOSE. -/
theorem loopSlotsOpenAndClose : Obligations.LoopSlotsOpenAndClose := by
  unfold Obligations.LoopSlotsOpenAndClose
  exact ⟨fun p n s h hp hm => slotClose_gives h hp hm, fun p n s h hm => slotOpen_gives h hm,
    fun p mode s h hm hne hc hp => slotModeChange_gives h hm hne hc hp, fun p n mode s h hm => slotModeChange_refused h hm⟩

end Sys2Proof.Machine
end

section
/-! PROOFS. Writes of coefficients and of set-points (R40, R46, R47, R49, R65). -/

namespace Sys2Proof.Machine

open Sys2Proof.Laws

/-! ### Coefficients (R46, R65) -/

theorem loop_congr {α : Type} {n : Nat} {f g : Nat → α → α} (h : ∀ i < n, ∀ a, f i a = g i a) (a : α) : loop n f a = loop n g a := by
  induction n with
  | zero => rfl
  | succ n ih =>
    show f n (loop n f a) = g n (loop n g a)
    rw [ih fun i hi => h i (by omega), h n (by omega)]

/-- The load committed is of the slots' CTL_SLOT_CFG and of the PWM period (R40). -/
theorem committedLoad_congr {s t : State} (hcfg : ∀ n < 8, t.rd (CTL_SLOT_CFG n) = s.rd (CTL_SLOT_CFG n))
    (hpwm : t.rd CTL_PWM_CFG = s.rd CTL_PWM_CFG) : t.committedLoad = s.committedLoad :=
  loop_congr (fun n hn acc => by
    rw [State.plant, fld_congr (f := CTL_SLOT_CFG_PLANT n) (hcfg n hn), fld_congr (f := CTL_SLOT_CFG_RATE n) (hcfg n hn),
      fld_congr (f := CTL_PWM_CFG_PERIOD) hpwm]
    rfl) 0

/-- A write of a coefficient register is a coefficient write. The definition is unfolded as a function and its offset made general at once:
unfolded at `off - 0x380000`, the kernel would evaluate that difference down from its literal. -/
theorem ctlWrite_coefficient {s : State} {off lo hi : Nat} {v : Word} (hs : coefSlots (off - 0x380000) = some (lo, hi))
    (ha : (accOf off).isSome = true) : s.ctlWrite off v = s.coefWrite (off - 0x380000) v lo hi := by
  suffices unfolded : ∀ f, State.ctlWrite = f → f s off v = s.coefWrite (off - 0x380000) v lo hi from unfolded _ rfl
  intro f hf
  delta State.ctlWrite at hf
  subst hf
  beta_reduce
  generalize off - 0x380000 = o at *
  simp only [hs, ha, if_true]

theorem coefWrite_locked {s : State} {lo hi n : Nat} (h : s.lowestClosed lo hi = some n) (o : Nat) (v : Word) :
    s.coefWrite o v lo hi = s.ctlRefuse EV_CTL_COEF_LOCKED o n := by
  unfold State.coefWrite
  rw [h]

/-- A legal write of a coefficient of open slots that leaves the load and is not CTL_RC_CFG's is stored, and CTL_LOAD shows the load. -/
theorem coefWrite_stored {s : State} {lo hi o : Nat} {v : Word} (h : s.lowestClosed lo hi = none) (hv : illegalCoef o v = false)
    (hc : o ≠ 0x1284) (hr : o ≠ 0x40) (hl : (s.plainWrite (0x380000 + o) (0x380000 + o) v).committedLoad = s.committedLoad) :
    s.coefWrite o v lo hi = (s.plainWrite (0x380000 + o) (0x380000 + o) v).setFld CTL_LOAD_V s.committedLoad := by
  unfold State.coefWrite
  rw [h]
  simp only [hv, hc, hr, hl, Bool.false_eq_true, if_false, Nat.lt_irrefl, decide_false, Bool.and_false]

/-- The low half of a word whose writable bits are the low half. -/
theorem lowHalf_stored (old v : Word) :
    ((old &&& ~~~(BitVec.ofNat 32 0xFFFF)) ||| (v &&& BitVec.ofNat 32 0xFFFF)).toNat % 65536 = v.toNat % 65536 := by
  have mask : (BitVec.ofNat 32 0xFFFF).toNat = 2 ^ 16 - 1 := rfl
  refine Nat.eq_of_testBit_eq fun i => ?_
  rw [show 65536 = 2 ^ 16 from rfl, Nat.testBit_mod_two_pow, Nat.testBit_mod_two_pow]
  by_cases hi : i < 16
  · have one : (BitVec.ofNat 32 0xFFFF).getLsbD i = true := by
      rw [← BitVec.testBit_toNat, mask, Nat.testBit_two_pow_sub_one, decide_eq_true hi]
    simp only [BitVec.testBit_toNat, BitVec.getLsbD_or, BitVec.getLsbD_and, BitVec.getLsbD_not, one, Bool.not_true, Bool.and_false,
      Bool.false_or, Bool.and_true]
  · simp [hi]

/-- CTL_KP[n] by its offset in the block: a coefficient of slot n that has no illegal value. -/
theorem kp_place {n : Nat} (hn : n < 8) : coefSlots (0x1008 + 0x80 * n) = some (n, n) ∧ accOf (CTL_KP n) = some (.rw, 0xFFFF)
    ∧ settleKey (CTL_KP n) = false :=
  (by decide +kernel : ∀ n < 8, coefSlots (0x1008 + 0x80 * n) = some (n, n) ∧ accOf (CTL_KP n) = some (.rw, 0xFFFF)
    ∧ settleKey (CTL_KP n) = false) n hn

theorem kp_legal {n : Nat} (hn : n < 8) (v : Word) : illegalCoef (0x1008 + 0x80 * n) v = false := by
  have slot : (0x1008 + 0x80 * n - 0x1000) % 0x80 = 8 := by omega
  unfold illegalCoef
  rw [if_neg (by omega), if_neg (by omega), if_neg (by omega), slot]
  simp

theorem lowestClosed_one {s : State} {n : Nat} (h : s.coefClosed n = false) : s.lowestClosed n n = none := by
  unfold State.lowestClosed
  rw [List.find?_eq_none]
  intro m hm
  rw [List.mem_range] at hm
  by_cases he : m = n
  · simp [he, h]
  · simp; omega

theorem coefficientWrite_exec (p : Port) (off : BitVec 18) (v : Word) (s : State) : exec (.coefficientWrite p off v) s =
    done (s.hostGate p (0x380000 + off.toNat) false fun s => s.ctlWrite (0x380000 + off.toNat) v) := rfl

theorem coefficientWrite_kp_gives {p : Port} {n : Fin 8} (v : Word) {s : State} (h : Reaches s p (CTL_KP n)) (ho : s.coefClosed n = false) :
    Gives (.coefficientWrite p (BitVec.ofNat 18 (0x1008 + 0x80 * n.val)) v) s fun t =>
      t.fld (CTL_KP_V n) = v.toNat % 65536 ∧ Kept s t [CTL_KP n, CTL_LOAD] := by
  have hn := n.isLt
  obtain ⟨slots, acc, key⟩ := kp_place hn
  have hoff : (BitVec.ofNat 18 (0x1008 + 0x80 * n.val)).toNat = 0x1008 + 0x80 * n.val := by rw [BitVec.toNat_ofNat]; omega
  have hkp : 0x380000 + (0x1008 + 0x80 * n.val) = CTL_KP n := by simp only [CTL_KP]; omega
  have hsub : CTL_KP n - 0x380000 = 0x1008 + 0x80 * n.val := by omega
  let w := (s.rd (CTL_KP n) &&& ~~~(BitVec.ofNat 32 0xFFFF)) ||| (v &&& BitVec.ofNat 32 0xFFFF)
  have stored : s.plainWrite (CTL_KP n) (CTL_KP n) v = s.wr (CTL_KP n) w := plainWrite_rw s _ _ v acc
  have load : (s.wr (CTL_KP n) w).committedLoad = s.committedLoad := by
    refine committedLoad_congr (fun m _ => rd_wr_other s w ?_) (rd_wr_other s w ?_)
    · simp only [CTL_SLOT_CFG, CTL_KP]; omega
    · simp only [CTL_PWM_CFG, CTL_KP]; omega
  refine ⟨((s.wr (CTL_KP n) w).setFld CTL_LOAD_V s.committedLoad).settle, ?_, ?_, ?_⟩
  · rw [coefficientWrite_exec, hoff, hkp, hostGate_unowned h, ctlWrite_coefficient (by rw [hsub]; exact slots) (by rw [acc]; rfl), hsub,
      coefWrite_stored (lowestClosed_one ho) (kp_legal hn v) (by omega) (by omega) (by rw [hkp, stored]; exact load), hkp, stored, done]
  · have other : (CTL_KP_V n).reg ≠ CTL_LOAD_V.reg := by simp only [CTL_KP_V, CTL_LOAD_V, CTL_KP, CTL_LOAD]; omega
    rw [settle_fld _ key, fld_setFld_other _ CTL_LOAD_V (CTL_KP_V n) _ (by decide) (by decide) (.inl other), State.fld]
    rw [show (CTL_KP_V n).reg = CTL_KP n from rfl, rd_wr_same]
    exact lowHalf_stored _ _
  · exact (((Kept.refl s _).wr w List.mem_cons_self).setFld (f := CTL_LOAD_V) _ (by simp [CTL_LOAD_V])).settle

theorem coefficientWrite_locked_gives {p : Port} {off : BitVec 18} (v : Word) {lo hi n : Nat} {s : State}
    (h : Reaches s p (0x380000 + off.toNat)) (hs : coefSlots off.toNat = some (lo, hi))
    (ha : (accOf (0x380000 + off.toNat)).isSome = true) (hc : s.lowestClosed lo hi = some n) :
    Gives (.coefficientWrite p off v) s fun t => Logged t EV_CTL_COEF_LOCKED
      ∧ t.rdN CTL_EVT_INFO = (off.toNat % 65536) * 65536 + n % 256 ∧ Kept s t [CTL_EVT_INFO] := by
  obtain ⟨logged, info, kept⟩ := ctlRefuse_settles s (ev := EV_CTL_COEF_LOCKED) off.toNat n (by decide)
  refine ⟨_, ?_, logged, info, kept⟩
  have hsub : 0x380000 + off.toNat - 0x380000 = off.toNat := Nat.add_sub_cancel_left _ _
  rw [coefficientWrite_exec, hostGate_unowned h, ctlWrite_coefficient (by rw [hsub]; exact hs) ha, hsub, coefWrite_locked hc, done]

/-! ### Set-points (R43, R49) -/

/-- The target in force and the target written are of the slot's set-point and limits, and for slot 0 of the shot programs. -/
theorem spFollow_congr {s t : State} {n : Nat} (hsp : t.rd (CTL_SP n) = s.rd (CTL_SP n)) (hlim : t.rd (CTL_SP_LIM n) = s.rd (CTL_SP_LIM n))
    (hforce : t.inForce = s.inForce) (hpend : t.sht.pending = s.sht.pending) (hstaged : t.sht.staged = s.sht.staged) :
    t.spFollow n = s.spFollow n ∧ t.spTarget n = s.spTarget n := by
  have target : t.spTarget n = s.spTarget n := by
    simp only [State.spTarget, State.fldI, fld_congr (f := CTL_SP_V n) hsp]
  have max : t.fldI (CTL_SP_LIM_SP_MAX n) = s.fldI (CTL_SP_LIM_SP_MAX n) := by
    simp only [State.fldI, fld_congr (f := CTL_SP_LIM_SP_MAX n) hlim]
  have min : t.fldI (CTL_SP_LIM_SP_MIN n) = s.fldI (CTL_SP_LIM_SP_MIN n) := by
    simp only [State.fldI, fld_congr (f := CTL_SP_LIM_SP_MIN n) hlim]
  have lines : t.linesInForce = s.linesInForce := by simp only [State.linesInForce, State.fldF, State.rdF, hforce]
  have limits : t.spLimits n = s.spLimits n := by
    unfold State.spLimits
    by_cases h0 : n = 0
    · subst h0
      have spMax (l : Nat) : t.spMaxFor l = s.spMaxFor l := by simp only [State.spMaxFor, max]
      simp only [if_true, min, lines, spMax, hpend, hstaged]
    · simp only [h0, if_false, min, max]
  exact ⟨by simp only [State.spFollow, limits, target], target⟩

/-- CTL_SP[n] as a host write leaves it, with the mark of a clamp. -/
theorem setpointWrite_eq (s : State) (n : Nat) (v : Word) : s.setpointWrite n v =
    let t := s.wrN (CTL_SP n) (v.toNat % 65536)
    (t.setSlot n { t.slot n with clamped := t.spClamped n }).raiseIf (t.spClamped n) EV_CTL_SP_CLAMP := rfl

theorem setpointWrite_gives {p : Port} {n : Fin 8} {v : BitVec 16} {s : State} (h : Reaches s p (CTL_SP n)) :
    Gives (.setpointWrite p n v) s fun t => t.rd (CTL_SP n) = v.setWidth 32 ∧ Kept s t [CTL_SP n]
      ∧ (n.val ≠ 3 → t.spFollow n ≠ t.spTarget n → Logged t EV_CTL_SP_CLAMP) := by
  obtain ⟨key, keyLim⟩ := (by decide +kernel : ∀ n < 8, settleKey (CTL_SP n) = false ∧ settleKey (CTL_SP_LIM n) = false) n n.isLt
  let t := s.wrN (CTL_SP n) ((v.setWidth 32).toNat % 65536)
  let c := t.spClamped n
  let u := t.setSlot n { t.slot n with clamped := c }
  have rd (k : Nat) : (u.raiseIf c EV_CTL_SP_CLAMP).rd k = t.rd k := rd_raiseIf u _ _ _
  refine ⟨(u.raiseIf c EV_CTL_SP_CLAMP).settle, ?_, ?_, ?_, fun h3 hne => ?_⟩
  · show done (s.hostGate p _ false _) = _
    rw [hostGate_unowned h, setpointWrite_eq]
    rfl
  · have lt := v.isLt
    rw [settle_rd _ key, rd, rd_wrN, if_pos rfl]
    apply BitVec.eq_of_toNat_eq
    simp only [BitVec.toNat_ofNat, BitVec.toNat_setWidth]
    omega
  · have hu : Kept s u [CTL_SP n] := ((Kept.refl s _).wrN _ (List.mem_singleton_self _)).ctl _
    exact (hu.raiseIf _ _).settle
  · obtain ⟨follow, target⟩ := spFollow_congr (s := t) (t := (u.raiseIf c EV_CTL_SP_CLAMP).settle) (n := n)
      ((settle_rd _ key).trans (rd _)) ((settle_rd _ keyLim).trans (rd _))
      (by rw [settle_inForce, State.raiseIf_inForce, State.setSlot_inForce])
      (by rw [settle_shtPending, State.raiseIf_sht, State.setSlot_sht])
      (by rw [settle_shtStaged, State.raiseIf_sht, State.setSlot_sht])
    have clamped : c = true := by
      rw [follow, target] at hne
      simp only [c, State.spClamped, ne_eq, h3, hne, not_false_eq_true, decide_true, Bool.and_true]
    refine logged_settle (r := ⟨EV_CTL_SP_CLAMP, none⟩) ?_ (by decide)
    rw [clamped]
    exact List.mem_append_right _ (List.mem_singleton_self _)

/-- Settles O9: a coefficient is stored or refused by its slots' close bits, a set-point is stored at any time. -/
theorem coefficientsLockWhileClosed : Obligations.CoefficientsLockWhileClosed := by
  unfold Obligations.CoefficientsLockWhileClosed
  exact ⟨⟨fun p n v s h ho => coefficientWrite_kp_gives v h ho,
    fun p off v lo hi n s h hs ha hc => coefficientWrite_locked_gives v h hs ha hc⟩, fun p n v s h => setpointWrite_gives h⟩

end Sys2Proof.Machine
end

section
/-! PROOFS. The control law and the set-point limiter stay within their limits (R41, R42, R48), and the cells of the repetitive controller
(R51). -/

namespace Sys2Proof.Machine

open Sys2Proof.Laws

/-! ### The law (R41, R42) -/

theorem clampI_bounds (x : Int) {lo hi : Int} (h : lo ≤ hi) : lo ≤ clampI x lo hi ∧ clampI x lo hi ≤ hi := by
  unfold clampI
  split
  · exact ⟨le_rfl, h⟩
  · split <;> omega

/-- The output and the sum that the law offers are values clamped to their limits. -/
theorem lawStep_clamped (c : Coefs) (l : LoopState) (w y : Int) (tag : Bool) (ff o : Int) :
    (∃ v, (lawStep c l w y tag ff o).1.u = clampI v c.outMin c.outMax) ∧
    ∃ i, (lawStep c l w y tag ff o).2 = clampI i (-(c.ilim * 32768)) (c.ilim * 32768) := by
  refine ⟨⟨_, rfl⟩, ?_⟩
  unfold lawStep
  dsimp only
  split
  · exact ⟨_, rfl⟩
  · exact ⟨_, rfl⟩

theorem lawStep_bounds (c : Coefs) (l : LoopState) (w y ff o : Int) (tag : Bool) (hout : c.outMin ≤ c.outMax) (hsum : 0 ≤ c.ilim) :
    let r := lawStep c l w y tag ff o
    c.outMin ≤ r.1.u ∧ r.1.u ≤ c.outMax ∧ -(c.ilim * 32768) ≤ r.2 ∧ r.2 ≤ c.ilim * 32768 := by
  obtain ⟨⟨v, hv⟩, i, hi⟩ := lawStep_clamped c l w y tag ff o
  obtain ⟨above, below⟩ := clampI_bounds v hout
  obtain ⟨sumAbove, sumBelow⟩ := clampI_bounds i (show -(c.ilim * 32768) ≤ c.ilim * 32768 by omega)
  dsimp only
  rw [hv, hi]
  exact ⟨above, below, sumAbove, sumBelow⟩

theorem slewTo_bounds (out sel : Int) {slew : Int} (h : 0 < slew) : slewTo out sel slew - out ≤ slew ∧ out - slewTo out sel slew ≤ slew := by
  obtain ⟨above, below⟩ := clampI_bounds (sel - out) (show -slew ≤ slew by omega)
  unfold slewTo
  rw [if_neg (by omega)]
  omega

/-! ### The limiter (R48) -/

theorem limiter_rate_bounds (sp rate : Rat) (target : Int) {maxRate hz : Nat} (hr : 0 < maxRate) (hz0 : 0 < hz) :
    let r := (limiterStep sp rate target maxRate 0 hz).1
    (r - sp) * hz ≤ maxRate ∧ (sp - r) * hz ≤ maxRate := by
  have hz' : (0 : Rat) < hz := by exact_mod_cast hz0
  have hstep : (maxRate : Rat) * (1 / (hz : Rat)) * hz = maxRate := by field_simp
  have hpos : (0 : Rat) ≤ maxRate := by positivity
  unfold limiterStep
  simp only [Nat.pos_iff_ne_zero.mp hr, decide_false, Bool.false_and, Bool.false_eq_true, if_false, if_true]
  split
  next h =>
    obtain ⟨below, above⟩ : (target : Rat) - sp ≤ maxRate * (1 / (hz : Rat)) ∧ -(maxRate * (1 / (hz : Rat))) ≤ (target : Rat) - sp := by
      simpa only [Bool.and_eq_true, decide_eq_true_eq] using h
    rw [← hstep]
    constructor <;> nlinarith
  · split
    · constructor <;> nlinarith
    · constructor <;> nlinarith

/-- A rate under the rate limit, where there is one, unless the rate before cannot fall so far in a sample. -/
def capRate (maxRate : Nat) (a rt x : Rat) : Rat := if maxRate = 0 then x else max (min x maxRate) (rt - a)

/-- The rate of the next sample under an acceleration limit, towards the target: the rate before, a step up or a step down, as the distance
that is left allows (`fits`). -/
def nextRate (maxRate : Nat) (a rt : Rat) (fits : Rat → Bool) : Rat :=
  if rt < 0 then capRate maxRate a rt (rt + a)
  else if fits (capRate maxRate a rt (rt + a)) then capRate maxRate a rt (rt + a)
  else if fits (capRate maxRate a rt rt) then capRate maxRate a rt rt else rt - a

theorem capRate_near (maxRate : Nat) {a rt x : Rat} (hlo : rt - a ≤ x) (hhi : x ≤ rt + a) :
    capRate maxRate a rt x - rt ≤ a ∧ rt - capRate maxRate a rt x ≤ a := by
  unfold capRate
  split
  · constructor <;> linarith
  · have upper : max (min x maxRate) (rt - a) ≤ rt + a := max_le ((min_le_left _ _).trans hhi) (by linarith)
    have lower : rt - a ≤ max (min x maxRate) (rt - a) := le_max_right _ _
    constructor <;> linarith

/-- The rate of the next sample differs from the rate before by no more than the acceleration's step. -/
theorem nextRate_near (maxRate : Nat) {a : Rat} (rt : Rat) (fits : Rat → Bool) (ha : 0 ≤ a) :
    nextRate maxRate a rt fits - rt ≤ a ∧ rt - nextRate maxRate a rt fits ≤ a := by
  have up := capRate_near maxRate (show rt - a ≤ rt + a by linarith) le_rfl
  have level := capRate_near maxRate (show rt - a ≤ rt by linarith) (show rt ≤ rt + a by linarith)
  unfold nextRate
  split
  · exact up
  · split
    · exact up
    · split
      · exact level
      · constructor <;> linarith

/-- Under an acceleration limit a sample arrives at the target at rest, or moves by the next rate, towards the target. -/
theorem limiterStep_accelerated (sp rate : Rat) (target : Int) (maxRate : Nat) {acc : Nat} (hz : Nat) (ha : 0 < acc) :
    limiterStep sp rate target maxRate acc hz = ((target : Rat), 0) ∨
    ∃ (sgn : Rat) (fits : Rat → Bool), (sgn = 1 ∨ sgn = -1) ∧ limiterStep sp rate target maxRate acc hz =
      (sp + nextRate maxRate (acc * (1 / (hz : Rat))) (rate * sgn) fits * (1 / (hz : Rat)) * sgn,
        nextRate maxRate (acc * (1 / (hz : Rat))) (rate * sgn) fits * sgn) := by
  have ha' : acc ≠ 0 := by omega
  unfold limiterStep
  extract_lets dist dt r step a sgn d rt x0 cap fits x
  rw [if_neg (by simp [ha']), if_neg ha']
  split
  · exact .inl rfl
  · refine .inr ⟨sgn, fits, ?_, rfl⟩
    simp only [sgn]
    split
    · exact .inr rfl
    · exact .inl rfl

theorem limiter_acceleration_bounds (sp rate : Rat) (target : Int) (maxRate : Nat) {acc hz : Nat} (ha : 0 < acc) (hz0 : 0 < hz) :
    let r := limiterStep sp rate target maxRate acc hz
    (r.1 = target ∧ r.2 = 0) ∨ ((r.1 - sp) * hz = r.2 ∧ (r.2 - rate) * hz ≤ acc ∧ (rate - r.2) * hz ≤ acc) := by
  have hz' : (0 : Rat) < hz := by exact_mod_cast hz0
  have hstep : (acc : Rat) * (1 / (hz : Rat)) * hz = acc := by field_simp
  dsimp only
  rcases limiterStep_accelerated sp rate target maxRate hz ha with h | ⟨sgn, fits, hsgn, h⟩
  · exact .inl (by rw [h]; exact ⟨rfl, rfl⟩)
  · obtain ⟨above, below⟩ := nextRate_near maxRate (rate * sgn) fits (show 0 ≤ (acc : Rat) * (1 / (hz : Rat)) by positivity)
    refine .inr ?_
    rw [h]
    dsimp only
    generalize nextRate maxRate (acc * (1 / (hz : Rat))) (rate * sgn) fits = x at above below
    refine ⟨by field_simp; ring, ?_⟩
    rw [← hstep]
    rcases hsgn with rfl | rfl <;> constructor <;> nlinarith

/-! ### The cells of the repetitive controller (R51) -/

/-- The sums of the cell that the angle has entered start from 0. -/
def State.enterCell (s : State) : State :=
  { s with ctl := { s.ctl with rcCell := s.rcCellNow, rcSum := 0, rcCount := 0, rcOk := true } }

theorem enterCell_gives (s : State) (keys : List Nat) : s.enterCell.settle.ctl.rcCell = s.rcCellNow ∧ s.enterCell.settle.ctl.rcSum = 0
    ∧ s.enterCell.settle.ctl.rcCount = 0 ∧ s.enterCell.settle.ctl.rcOk = true ∧ Kept s s.enterCell.settle keys := by
  rw [settle_ctl]
  exact ⟨rfl, rfl, rfl, rfl, ((Kept.refl s keys).ctl _).settle⟩

/-- The cell that the angle has left, and the value that it takes from its samples (R51). -/
def State.leftCell (s : State) : Fld := halfFld (CTL_RC_TABLE 0) s.ctl.rcCell
def State.learned (s : State) (k : Nat) : Int :=
  clampI (roundDiv (s.fldI CTL_RC_GAIN_F * s.fldI s.leftCell * k + s.fldI CTL_RC_GAIN_L * s.ctl.rcSum) (32768 * k))
    (-(s.fld CTL_RC_LIMIT_V : Nat)) (s.fld CTL_RC_LIMIT_V : Nat)

/-- The table takes the value learned, where every sample in the cell qualified and the table is enabled. -/
def State.learn (s : State) : State :=
  if s.ctl.rcOk && s.ctl.rcCount ≠ 0 && s.flag CTL_RC_CFG_ENABLE then s.setFldI s.leftCell (s.learned (max 1 s.ctl.rcCount)) else s

theorem rcCellUpdate_next {s : State} (hc : s.pwr.coreInReset = false) (hcell : s.rcCellNow ≠ s.ctl.rcCell) :
    exec .rcCellUpdate s = .next s.learn.enterCell.settle := by
  show execRcCellUpdate s = _
  unfold execRcCellUpdate
  rw [if_neg (by simp [hc, hcell])]
  rfl

/-- The block of the repetitive controller's table holds no register that the end of a step writes. -/
theorem settleKey_rcTable {w : Nat} (hw : w < 2560) : settleKey (CTL_RC_TABLE 0 + 4 * w) = false := by
  have lo : 0x382000 ≤ CTL_RC_TABLE 0 + 4 * w := by simp only [CTL_RC_TABLE]; omega
  have hi : CTL_RC_TABLE 0 + 4 * w < 0x384800 := by simp only [CTL_RC_TABLE]; omega
  generalize CTL_RC_TABLE 0 + 4 * w = k at lo hi
  rw [Bool.eq_false_iff]
  simp only [ne_eq, settleKey, eventKey, List.contains_iff_mem, List.mem_cons, List.not_mem_nil, Bool.or_eq_true, Bool.and_eq_true,
    decide_eq_true_eq, or_false]
  simp only [DET_COOL_STATUS, EMT_CHAIN, CTL_LINE_T, SHT_STATUS, EMT_ARM, MBX_FW_STATE, SEC_FAULT, SEC_ILK, SEC_KEY_STATUS, SEC_KEY_KCV,
    PNT_PKT_SEQ_LO, PNT_PKT_SEQ_HI, PNT_PKT_STATUS, PNT_PKT_UNSIGNED, DET_AMB, DET_RATE]
  omega

/-- A cell's half of a table word: a field of 16 bits of a register that the end of a step leaves, and that the angle is not read from. -/
theorem halfFld_place {i : Nat} (hi : i < 5120) :
    let f := halfFld (CTL_RC_TABLE 0) i
    f.lo ≤ f.hi ∧ f.hi < 32 ∧ f.hi + 1 - f.lo = 16 ∧ settleKey f.reg = false ∧ f.reg ≠ CTL_ENC_CFG ∧ f.reg ≠ CTL_RC_CFG := by
  have hw := settleKey_rcTable (w := i / 2) (by omega)
  have place : CTL_RC_TABLE 0 + 4 * (i / 2) ≠ CTL_ENC_CFG ∧ CTL_RC_TABLE 0 + 4 * (i / 2) ≠ CTL_RC_CFG := by
    simp only [CTL_RC_TABLE, CTL_ENC_CFG, CTL_RC_CFG]
    omega
  unfold halfFld
  split
  · exact ⟨show 0 ≤ 15 by decide, show 15 < 32 by decide, rfl, hw, place⟩
  · exact ⟨show 16 ≤ 31 by decide, show 31 < 32 by decide, rfl, hw, place⟩

/-- The cell the angle lies in is of the count and of two registers of the engine (R50). -/
theorem rcCellNow_congr {s t : State} (hctl : t.ctl = s.ctl) (henc : t.rd CTL_ENC_CFG = s.rd CTL_ENC_CFG)
    (hrc : t.rd CTL_RC_CFG = s.rd CTL_RC_CFG) : t.rcCellNow = s.rcCellNow := by
  simp only [State.rcCellNow, State.theta, State.cpr, State.rcCells, hctl, fld_congr (f := CTL_ENC_CFG_CPR_DIV4) henc,
    fld_congr (f := CTL_RC_CFG_CELLS) hrc]

theorem rcCellUpdate_forgets {s : State} (hc : s.pwr.coreInReset = false) (hcell : s.rcCellNow ≠ s.ctl.rcCell) (ho : s.ctl.rcOk = false) :
    Gives .rcCellUpdate s fun t => t.ctl.rcCell = s.rcCellNow ∧ t.ctl.rcSum = 0 ∧ t.ctl.rcCount = 0 ∧ t.ctl.rcOk = true ∧ Kept s t [] := by
  have keeps : s.learn = s := by simp [State.learn, ho]
  refine ⟨_, rcCellUpdate_next hc hcell, ?_⟩
  rw [keeps]
  exact enterCell_gives s []

theorem rcCellUpdate_learns {s : State} (hc : s.pwr.coreInReset = false) (hcell : s.rcCellNow ≠ s.ctl.rcCell) (ho : s.ctl.rcOk = true)
    (hn : s.ctl.rcCount ≠ 0) (he : s.flag CTL_RC_CFG_ENABLE = true) (hi : s.ctl.rcCell < 5120) :
    Gives .rcCellUpdate s fun t => t.fld s.leftCell = toBits 16 (s.learned s.ctl.rcCount) ∧ t.ctl.rcCell = s.rcCellNow ∧ t.ctl.rcSum = 0
      ∧ t.ctl.rcCount = 0 ∧ t.ctl.rcOk = true ∧ Kept s t [s.leftCell.reg] := by
  obtain ⟨hl, hh, width, key, henc, hrc⟩ := halfFld_place hi
  change s.leftCell.lo ≤ s.leftCell.hi at hl
  change s.leftCell.hi < 32 at hh
  change s.leftCell.hi + 1 - s.leftCell.lo = 16 at width
  change settleKey s.leftCell.reg = false at key
  have learns : s.learn = s.setFldI s.leftCell (s.learned s.ctl.rcCount) := by
    unfold State.learn
    rw [if_pos (by simp [ho, hn, he]), Nat.max_eq_right (by omega)]
  have cell : s.learn.rcCellNow = s.rcCellNow := by
    rw [learns]
    exact rcCellNow_congr rfl (rd_wr_other s _ henc.symm) (rd_wr_other s _ hrc.symm)
  obtain ⟨rcCell, sum, count, ok, kept⟩ := enterCell_gives s.learn [s.leftCell.reg]
  refine ⟨_, rcCellUpdate_next hc hcell, ?_, rcCell.trans cell, sum, count, ok, ?_⟩
  · rw [settle_fld _ key]
    show s.learn.fld s.leftCell = _
    rw [learns, State.setFldI, fld_setFld_same _ _ _ hl hh, width]
    exact Nat.mod_eq_of_lt (toBits_lt 16 _)
  · refine Kept.trans ?_ kept
    rw [learns]
    exact (Kept.refl s _).setFld _ (List.mem_singleton_self _)

/-- Settles O12: the law and the limiter by their clamps, the update of a cell by its three steps. -/
theorem loopLawStaysInLimits : Obligations.LoopLawStaysInLimits := by
  unfold Obligations.LoopLawStaysInLimits
  exact ⟨⟨fun c l w y ff o tag hout hsum => lawStep_bounds c l w y ff o tag hout hsum, fun out sel slew h => slewTo_bounds out sel h,
      fun sp rate target maxRate hz hr hz0 => limiter_rate_bounds sp rate target hr hz0,
      fun sp rate target maxRate acc hz ha hz0 => limiter_acceleration_bounds sp rate target maxRate ha hz0⟩,
    fun s hc hcell ho => rcCellUpdate_forgets hc hcell ho, fun s hc hcell ho hn he hi => rcCellUpdate_learns hc hcell ho hn he hi⟩

end Sys2Proof.Machine
end

section
/-! PROOFS. A sample of a closed competitor of the polygon plant on its own sensor, alone at its instant (R39, R42, R44, R48, R62, R63). -/

namespace Sys2Proof.Machine

open Sys2Proof.Laws

/-! ### The limiter moves (R48) -/

/-- The loop of slot `n` with its set-point moved by one sample. -/
def State.limited (s : State) (n : Nat) : LoopState :=
  let l := s.slot n
  let r := limiterStep l.spNow l.spRate (s.spFollow n) (s.fld (CTL_SP_RATE_V n)) (s.fld (CTL_SP_ACC_V n)) (s.slotHz n)
  { l with spNow := r.1, spRate := r.2 }

theorem limitSlot_eq (s : State) (n : Nat) :
    s.limitSlot n = (s.setSlot n (s.limited n)).setFldI (CTL_SP_NOW_V n) (ratInt (s.limited n).spNow) := rfl

theorem limitSlot_slot (s : State) (n m : Nat) : (s.limitSlot n).slot m = if m = n then s.limited n else s.slot m :=
  slot_setSlot s n m _

theorem limitSlot_fld (s : State) (n : Nat) {f : Fld} (h : f.reg ≠ CTL_SP_NOW n) : (s.limitSlot n).fld f = s.fld f :=
  fld_congr (rd_wr_other _ _ h)

/-! ### What a sample of the law reads -/

/-- `t` has the registers and the slots of `s`, and what else the set-points' limits are read from. -/
structure SameLoops (s t : State) : Prop where
  regs : t.regs = s.regs
  slots : t.ctl.slots = s.ctl.slots
  force : t.inForce = s.inForce
  sht : t.sht = s.sht

theorem SameLoops.rd {s t : State} (h : SameLoops s t) (k : Nat) : t.rd k = s.rd k := by simp [State.rd, h.regs]
theorem SameLoops.fld {s t : State} (h : SameLoops s t) (f : Fld) : t.fld f = s.fld f := fld_congr (h.rd _)
theorem SameLoops.slot {s t : State} (h : SameLoops s t) (n : Nat) : t.slot n = s.slot n := by simp [State.slot, h.slots]

theorem SameLoops.limited {s t : State} (h : SameLoops s t) (n : Nat) : t.limited n = s.limited n := by
  obtain ⟨follow, -⟩ := spFollow_congr (n := n) (h.rd _) (h.rd _) h.force (by rw [h.sht]) (by rw [h.sht])
  have hz : t.slotHz n = s.slotHz n := by simp only [State.slotHz, h.fld]
  simp only [State.limited, h.slot, follow, h.fld, hz]

theorem coefs_congr {s t : State} (h : ∀ k, t.rd k = s.rd k) (n : Nat) : t.coefs n = s.coefs n := by
  have f (g : Fld) : t.fld g = s.fld g := fld_congr (h _)
  simp only [State.coefs, State.fldI, State.flag, f]

theorem SameLoops.limitSlot_rd {s t : State} (h : SameLoops s t) (n k : Nat) : (t.limitSlot n).rd k = (s.limitSlot n).rd k := by
  rw [limitSlot_eq, limitSlot_eq, State.setFldI, State.setFldI, rd_setFld, rd_setFld, h.limited]
  have set (u : State) (j : Nat) : (u.setSlot n (s.limited n)).rd j = u.rd j := rfl
  rw [set, set, set, set, h.rd, h.rd]

/-- The instant's clock and the plants' outputs change neither registers nor slots. -/
theorem syncPlants_same (s : State) (t : Nat) : SameLoops s (s.advance t).syncPlants :=
  ⟨State.advance_regs s t, show (s.advance t).ctl.slots = s.ctl.slots by rw [State.advance_ctl], State.advance_inForce s t,
    State.advance_sht s t⟩

theorem syncPlants_polyOut (s : State) (t : Nat) : (s.advance t).syncPlants.ctl.poly.out = s.polyOut := by
  show (s.advance t).polyOut = s.polyOut
  simp only [State.polyOut, State.openOutput, State.slot, State.fldI, State.advance_ctl, fld_advance]
  rfl

/-! ### One slot is due -/

/-- A fold that only `n` of the list moves. -/
theorem foldl_alone {α β : Type} {f : α → β → α} {a : α} {n : β} {l : List β} (hl : l.Nodup) (hn : n ∈ l)
    (skip : ∀ b, ∀ k ∈ l, k ≠ n → f b k = b) : l.foldl f a = f a n := by
  have idle (m : List β) (hm : ∀ k ∈ m, ∀ b, f b k = b) (b : α) : m.foldl f b = b := by
    induction m with
    | nil => rfl
    | cons k m ih => rw [List.foldl_cons, hm k List.mem_cons_self, ih fun j hj => hm j (List.mem_cons_of_mem k hj)]
  induction l with
  | nil => nomatch hn
  | cons k l ih =>
    obtain ⟨hk, hl⟩ := List.nodup_cons.mp hl
    rw [List.foldl_cons]
    by_cases h : k = n
    · rw [← h]
      exact idle l (fun j hj b => skip b j (List.mem_cons_of_mem k hj) fun e => hk (h ▸ e ▸ hj)) _
    · rw [skip a k List.mem_cons_self h]
      exact ih hl ((List.mem_cons.mp hn).resolve_left (Ne.symm h)) fun b j hj => skip b j (List.mem_cons_of_mem k hj)

/-- The slots due are slot `n` alone. -/
theorem due_alone {due : BitVec 8} {n : Nat} (h : due = BitVec.ofNat 8 (2 ^ n)) (k : Nat) (hk : k < 8) :
    due.getLsbD k = decide (k = n) := by
  rw [h, BitVec.getLsbD_ofNat, decide_eq_true hk, Bool.true_and, Nat.testBit_two_pow]
  exact decide_eq_decide.mpr eq_comm

/-- Of the slots that the polygon, the cooler and the pins have, slot 1 or 2 alone is evaluated, on its own sensor (R42, R61). -/
theorem samplePoly_own {s : State} {n : Nat} {due : BitVec 8} (own : List Int) (tags : BitVec 8) (hn : n = 1 ∨ n = 2)
    (hd : ∀ k < 8, due.getLsbD k = decide (k = n)) (hp : s.plant n = 1) (hc : (s.slot n).closed = true)
    (hsrc : s.fld (CTL_SLOT_CFG_SOURCE n) = 0) :
    s.samplePoly due own tags =
      let u := s.limitSlot n
      let r := u.evalSlot n (ratInt (u.slot n).spNow) (nth 0 own n) (tags.getLsbD n) 0 u.ctl.poly.out
      (r.1, [(n, r.2)]) := by
  have plant : (s.limitSlot n).plant n = 1 :=
    (limitSlot_fld s n (f := CTL_SLOT_CFG_PLANT n) (by simp [CTL_SLOT_CFG_PLANT, CTL_SLOT_CFG, CTL_SP_NOW])).trans hp
  have source : (s.limitSlot n).fld (CTL_SLOT_CFG_SOURCE n) = 0 :=
    (limitSlot_fld s n (f := CTL_SLOT_CFG_SOURCE n) (by simp [CTL_SLOT_CFG_SOURCE, CTL_SLOT_CFG, CTL_SP_NOW])).trans hsrc
  have closed : ((s.limitSlot n).slot n).closed = true := by
    rw [limitSlot_slot, if_pos rfl]
    exact hc
  have closes : (s.limitSlot n).closesNow n = true := by simp [State.closesNow, plant, closed]
  have marked : (s.limitSlot n).markClose n = s.limitSlot n := by simp [State.markClose, closed]
  have sensor : (s.limitSlot n).sourceValue 0 (nth 0 own n) (tags.getLsbD n) = (nth 0 own n, tags.getLsbD n) := rfl
  have n0 : n ≠ 0 := by omega
  have n4 : n ≠ 4 := by omega
  have dn : due.getLsbD n = true := (hd n (by omega)).trans (decide_eq_true rfl)
  have mem : n ∈ [0, 1, 2, 4, 6, 7] := by rcases hn with rfl | rfl <;> decide
  unfold State.samplePoly
  rw [foldl_alone (by decide) mem fun acc k hk h => ?_]
  · simp only [dn, hp, plant, source, closes, marked, sensor, n0, n4, decide_false, Bool.false_and, Bool.false_eq_true, if_false,
      ne_eq, decide_true, Bool.true_and, Bool.not_true, Bool.or_self, List.nil_append, if_true, one_ne_zero, not_false_eq_true]
  · have dk : due.getLsbD k = false := (hd k (by have := List.mem_cons.mp hk; simp at hk; omega)).trans (decide_eq_false h)
    have speed : (decide (k = 0) && due.getLsbD 0) = false := by
      by_cases k0 : k = 0
      · rw [← k0, dk, Bool.and_false]
      · rw [decide_eq_false k0, Bool.false_and]
    simp only [dk, speed, Bool.false_and, Bool.false_eq_true, if_false, Bool.not_false, Bool.true_or, if_true]

/-- The polygon plant's state, its winner and its slewing shown (R43, R62). -/
def State.showPolygon (s : State) (p : PlantState) : State :=
  (({ s with ctl := { s.ctl with poly := p } } : State).setFld CTL_STATUS_POLY_WINNER p.winner).setFlag CTL_STATUS_SLEWING p.slewing

/-- The end of a sample at which slot `n` alone was evaluated: its integrator is shown (R63). -/
def State.endSample (s : State) (n : Nat) : State :=
  let t := s.showInteg n (s.slot n)
  { t with ctl := { t.ctl with sampled := some t.now } }

theorem showPolygon_rd (s : State) (p : PlantState) {k : Nat} (h : k ≠ CTL_STATUS) : (s.showPolygon p).rd k = s.rd k := by
  unfold State.showPolygon State.setFlag
  exact (rd_setFld _ _ _ _).trans <| (if_neg h).trans <| (rd_setFld _ _ _ _).trans <| (if_neg h).trans rfl

theorem showPolygon_bit (s : State) (p : PlantState) {i : Nat} (h : 7 ≤ i) : (s.showPolygon p).bit CTL_STATUS i = s.bit CTL_STATUS i := by
  have slewing : ¬ (CTL_STATUS = CTL_STATUS ∧ 3 ≤ i ∧ i ≤ 3) := by omega
  have winner : ¬ (CTL_STATUS = CTL_STATUS ∧ 4 ≤ i ∧ i ≤ 6) := by omega
  unfold State.showPolygon State.setFlag
  exact (bit_setFld _ _ _ _ (by decide) (by decide)).trans <| (if_neg slewing).trans <|
    (bit_setFld _ _ _ _ (by decide) (by decide)).trans <| (if_neg winner).trans rfl

theorem endSample_rd (s : State) (n : Nat) {k : Nat} (h : k ≠ CTL_INTEG n) : (s.endSample n).rd k = s.rd k := by
  unfold State.endSample State.showInteg State.setFldI
  exact (rd_setFld _ _ _ _).trans (if_neg h)

/-- After the laws, with one slot of the polygon evaluated and its leading slot open: the plant follows slot 0's OPEN_ACTION, and the
integrator is shown (R42 to R44, R63). -/
theorem loopSample_open {s e : State} {n : Nat} {i : Int} (own : List Int) (p49 : BitVec 14 × BitVec 14) (tags : BitVec 8)
    (hn : n = 1 ∨ n = 2) (hd : ∀ k < 8, s.dueSlots.getLsbD k = decide (k = n))
    (he : s.syncPlants.samplePoly s.dueSlots own tags = (e, [(n, i)])) (h0 : (e.slot 0).closed = false) (hp : e.plant n = 1) :
    s.loopSample own p49 tags =
      (e.showPolygon { e.ctl.poly with out := e.openOutput 0 e.ctl.poly, slewing := false }).endSample n := by
  generalize hq : ({ e.ctl.poly with out := e.openOutput 0 e.ctl.poly, slewing := false } : PlantState) = p
  have poly : e.formPlant 1 0 e.ctl.poly [(n, i)] = (e, p) := by
    rw [State.formPlant, h0, if_neg Bool.false_ne_true, hq]
  have idle {k : Nat} (hk : k < 8) (h : k ≠ n) : s.dueSlots.getLsbD k = false := (hd k hk).trans (decide_eq_false h)
  have due : (s.dueSlots.getLsbD 1 || s.dueSlots.getLsbD 2) = true := by
    rcases hn with rfl | rfl
    · rw [hd 1 (by decide), decide_eq_true rfl, Bool.true_or]
    · rw [hd 2 (by decide), decide_eq_true rfl, Bool.or_true]
  have gpio : (e.showPolygon p).formGpio (n, i) = e.showPolygon p := by
    have plant : (e.showPolygon p).plant n = 1 :=
      (fld_congr (showPolygon_rd e p (k := CTL_SLOT_CFG n) (by simp only [CTL_SLOT_CFG, CTL_STATUS]; omega))).trans hp
    rw [State.formGpio, plant, if_neg (by decide)]
  rw [State.loopSample]
  simp only [he, due, poly, idle (k := 0) (by decide) (by omega), idle (k := 3) (by decide) (by omega), idle (k := 4) (by decide) (by omega),
    idle (k := 5) (by decide) (by omega), idle (k := 6) (by decide) (by omega), idle (k := 7) (by decide) (by omega),
    Bool.false_or, Bool.or_false, Bool.false_eq_true, if_true, if_false, List.foldl_cons, List.foldl_nil]
  show ((e.showPolygon p).formGpio (n, i)).endSample n = _
  rw [gpio]

/-! ### What an evaluation shows (R63) -/

/-- The output, the measured value and the set-point stand in the slot's registers, its CLOSED bit in CTL_STATUS; no other register
changes. -/
theorem showSlot_shown (s : State) {n : Nat} (hn : n < 8) (y : Int) :
    let t := s.showSlot n y
    t.fld (CTL_OUT_V n) = toBits 16 (s.slot n).u ∧ t.fld (CTL_MEAS_V n) = toBits 16 y
      ∧ t.fld (CTL_SP_NOW_V n) = toBits 16 (ratInt (s.slot n).spNow) ∧ t.bit CTL_STATUS (8 + n) = true
      ∧ ∀ k, k ≠ CTL_OUT n → k ≠ CTL_MEAS n → k ≠ CTL_SP_NOW n → k ≠ CTL_STATUS → t.rd k = s.rd k := by
  let l := s.slot n
  let a := s.setFldI (CTL_OUT_V n) l.u
  let b := a.setFldI (CTL_MEAS_V n) y
  let c := b.setFldI (CTL_SP_NOW_V n) (ratInt l.spNow)
  let d := c.setBit CTL_STATUS (16 + n) (l.u = (s.coefs n).outMax || l.u = (s.coefs n).outMin)
  have put (u : State) {f : Fld} (v : Int) (hf : f.lo = 0 ∧ f.hi = 15) : (u.setFldI f v).fld f = toBits 16 v := by
    rw [State.setFldI, fld_setFld_same _ _ _ (by omega) (by omega), hf.1, hf.2]
    exact Nat.mod_eq_of_lt (toBits_lt 16 v)
  have other (u : State) {f : Fld} (v : Int) {k : Nat} (h : k ≠ f.reg) : (u.setFldI f v).rd k = u.rd k := (rd_setFld u k f _).trans (if_neg h)
  have status {k : Nat} (h : k ≠ CTL_STATUS) : (d.setBit CTL_STATUS (8 + n) true).rd k = c.rd k :=
    ((rd_setBit _ _ _ _ _).trans (if_neg h)).trans ((rd_setBit _ _ _ _ _).trans (if_neg h))
  have apart : CTL_OUT n ≠ CTL_STATUS ∧ CTL_MEAS n ≠ CTL_STATUS ∧ CTL_SP_NOW n ≠ CTL_STATUS ∧ CTL_OUT n ≠ CTL_MEAS n ∧
      CTL_OUT n ≠ CTL_SP_NOW n ∧ CTL_MEAS n ≠ CTL_SP_NOW n := by
    simp only [CTL_OUT, CTL_MEAS, CTL_SP_NOW, CTL_STATUS]
    omega
  obtain ⟨outSt, measSt, spSt, outMeas, outSp, measSp⟩ := apart
  refine ⟨?_, ?_, ?_, bit_setBit_same d _ _ _ (by omega), fun k ho hm hs hst => ?_⟩
  · exact (fld_congr ((status outSt).trans ((other b _ outSp).trans (other a _ outMeas)))).trans (put s _ ⟨rfl, rfl⟩)
  · exact (fld_congr ((status measSt).trans (other b _ measSp))).trans (put a _ ⟨rfl, rfl⟩)
  · exact (fld_congr (status spSt)).trans (put b _ ⟨rfl, rfl⟩)
  · exact (status hst).trans ((other b _ hs).trans ((other a _ hm).trans (other s _ ho)))

/-- What shows an evaluation stays at the end of the sample and of the step. -/
theorem sample_registers : ∀ n < 8,
    (settleKey (CTL_OUT n) = false ∧ CTL_OUT n ≠ CTL_INTEG n ∧ CTL_OUT n ≠ CTL_STATUS) ∧
    (settleKey (CTL_MEAS n) = false ∧ CTL_MEAS n ≠ CTL_INTEG n ∧ CTL_MEAS n ≠ CTL_STATUS) ∧
    (settleKey (CTL_SP_NOW n) = false ∧ CTL_SP_NOW n ≠ CTL_INTEG n ∧ CTL_SP_NOW n ≠ CTL_STATUS) := by decide +kernel

theorem loopSample_exec (t : Nat) (own : List Int) (p49 : BitVec 14 × BitVec 14) (tags : BitVec 8) (s : State) :
    exec (.loopSample t own p49 tags) s =
      done (if (s.advance t).pwr.coreInReset then s.advance t else (s.advance t).loopSample own p49 tags) := rfl

/-- What an evaluation shows stands at the end of the step. -/
theorem endSample_shown (e : State) (p : PlantState) {n : Nat} (hn : n < 8) :
    let r := ((e.showPolygon p).endSample n).settle
    r.fld (CTL_OUT_V n) = e.fld (CTL_OUT_V n) ∧ r.fld (CTL_MEAS_V n) = e.fld (CTL_MEAS_V n)
      ∧ r.fld (CTL_SP_NOW_V n) = e.fld (CTL_SP_NOW_V n) ∧ (r.slot n).u = (e.slot n).u
      ∧ r.bit CTL_STATUS (8 + n) = e.bit CTL_STATUS (8 + n) := by
  have stands {k : Nat} (h : settleKey k = false ∧ k ≠ CTL_INTEG n ∧ k ≠ CTL_STATUS) :
      ((e.showPolygon p).endSample n).settle.rd k = e.rd k :=
    (settle_rd _ h.1).trans ((endSample_rd _ n h.2.1).trans (showPolygon_rd e _ h.2.2))
  obtain ⟨out, meas, sp⟩ := sample_registers n hn
  have integ : CTL_STATUS ≠ CTL_INTEG n := by simp only [CTL_INTEG, CTL_STATUS]; omega
  refine ⟨fld_congr (f := CTL_OUT_V n) (stands out), fld_congr (f := CTL_MEAS_V n) (stands meas),
    fld_congr (f := CTL_SP_NOW_V n) (stands sp), settle_slot_u _ n, ?_⟩
  exact (bit_congr ((settle_rd _ settleKey_ctlStatus).trans (endSample_rd _ n integ)) _).trans (showPolygon_bit e p (by omega))

/-! ### The sample as a whole -/

/-- The state in which slot `n` of `s` stands with its law evaluated and shown. -/
def State.evaluated (s : State) (n : Nat) (l : LoopState) (y : Int) : State := ((s.limitSlot n).setSlot n l).showSlot n y

/-- The law of slot `n`, evaluated on its own sensor after the limiter has moved. -/
def State.ownLaw (s : State) (n : Nat) (own : List Int) : LoopState :=
  let u := s.limitSlot n
  (lawStep (u.coefs n) (u.slot n) (ratInt (u.slot n).spNow) (nth 0 own n) false 0 s.polyOut).1

theorem evaluated_slot (s : State) (n m : Nat) (l : LoopState) (y : Int) :
    (s.evaluated n l y).slot m = if m = n then l else (s.limitSlot n).slot m := slot_setSlot (s.limitSlot n) n m l

theorem SameLoops.limitSlot_slot {s t : State} (h : SameLoops s t) (n m : Nat) : (t.limitSlot n).slot m = (s.limitSlot n).slot m := by
  rw [Machine.limitSlot_slot, Machine.limitSlot_slot, h.limited, h.slot]

theorem samplePoly_law {s a : State} {n : Nat} {due : BitVec 8} (own : List Int) (same : SameLoops s a) (out : a.ctl.poly.out = s.polyOut)
    (hn : n = 1 ∨ n = 2) (hd : ∀ k < 8, due.getLsbD k = decide (k = n)) (hp : s.plant n = 1) (hc : (s.slot n).closed = true)
    (hsrc : s.fld (CTL_SLOT_CFG_SOURCE n) = 0) :
    ∃ i, a.samplePoly due own 0 = (a.evaluated n (s.ownLaw n own) (nth 0 own n), [(n, i)]) := by
  have out' : (a.limitSlot n).ctl.poly.out = s.polyOut := out
  have coefs : (a.limitSlot n).coefs n = (s.limitSlot n).coefs n := coefs_congr (same.limitSlot_rd n) n
  have slot := same.limitSlot_slot n n
  rw [samplePoly_own own 0 hn hd ((same.fld _).trans hp) ((congrArg LoopState.closed (same.slot n)).trans hc) ((same.fld _).trans hsrc)]
  dsimp only
  have untagged : (0 : BitVec 8).getLsbD n = false := BitVec.getLsbD_zero
  rw [out', State.evalSlot, coefs, slot, untagged]
  exact ⟨_, rfl⟩

/-- The slot's configuration stays when its limiter moves and its law is shown. -/
theorem evaluated_plant {s a : State} {n : Nat} (same : SameLoops s a) (hn : n < 8) (l : LoopState) (y : Int) :
    (a.evaluated n l y).plant n = s.plant n := by
  obtain ⟨-, -, -, -, kept⟩ := showSlot_shown ((a.limitSlot n).setSlot n l) hn y
  refine fld_congr (f := CTL_SLOT_CFG_PLANT n) ?_
  rw [State.evaluated, kept _ (by simp only [CTL_SLOT_CFG_PLANT, CTL_SLOT_CFG, CTL_OUT]; omega)
    (by simp only [CTL_SLOT_CFG_PLANT, CTL_SLOT_CFG, CTL_MEAS]; omega) (by simp only [CTL_SLOT_CFG_PLANT, CTL_SLOT_CFG, CTL_SP_NOW]; omega)
    (by simp only [CTL_SLOT_CFG_PLANT, CTL_SLOT_CFG, CTL_STATUS]; omega)]
  exact (same.limitSlot_rd n _).trans
    (rd_wr_other _ _ (by simp only [CTL_SLOT_CFG_PLANT, CTL_SLOT_CFG, CTL_SP_NOW_V, CTL_SP_NOW]; omega))

theorem loopSample_gives {t n : Nat} (own : List Int) (p49 : BitVec 14 × BitVec 14) {s : State} (hn : n = 1 ∨ n = 2)
    (hc : s.pwr.coreInReset = false) (hd : (s.advance t).dueSlots = BitVec.ofNat 8 (2 ^ n)) (hp : s.plant n = 1)
    (h1 : (s.slot n).closed = true) (h0 : (s.slot 0).closed = false) (hsrc : s.fld (CTL_SLOT_CFG_SOURCE n) = 0) :
    let law := s.ownLaw n own
    Gives (.loopSample t own p49 0) s fun r =>
      r.fld (CTL_OUT_V n) = toBits 16 law.u ∧ r.fld (CTL_MEAS_V n) = toBits 16 (nth 0 own n)
        ∧ r.fld (CTL_SP_NOW_V n) = toBits 16 (ratInt ((s.limitSlot n).slot n).spNow) ∧ (r.slot n).u = law.u
        ∧ r.bit CTL_STATUS (8 + n) = true := by
  intro law
  let a := (s.advance t).syncPlants
  have same : SameLoops s a := syncPlants_same s t
  have due := due_alone hd
  obtain ⟨i, sampled⟩ := samplePoly_law own same (syncPlants_polyOut s t) hn due hp h1 hsrc
  obtain ⟨out, meas, sp, closed, -⟩ := showSlot_shown ((a.limitSlot n).setSlot n law) (n := n) (by omega) (nth 0 own n)
  have slotLaw : ((a.limitSlot n).setSlot n law).slot n = law := (slot_setSlot _ n n law).trans (if_pos rfl)
  rw [slotLaw] at out sp
  have open0 : ((a.evaluated n law (nth 0 own n)).slot 0).closed = false := by
    rw [evaluated_slot, if_neg (by omega), same.limitSlot_slot, limitSlot_slot, if_neg (by omega)]
    exact h0
  have plant : (a.evaluated n law (nth 0 own n)).plant n = 1 := (evaluated_plant same (by omega) _ _).trans hp
  have run := loopSample_open own p49 0 hn due sampled open0 plant
  obtain ⟨out', meas', sp', u', closed'⟩ := endSample_shown (a.evaluated n law (nth 0 own n)) _ (n := n) (by omega)
  refine ⟨_, ?_, out'.trans out, meas'.trans meas, sp'.trans sp, u'.trans ?_, closed'.trans closed⟩
  · rw [loopSample_exec, State.advance_pwr, hc, if_neg Bool.false_ne_true, run]
    rfl
  · rw [evaluated_slot, if_pos rfl]

/-- Settles O11: the one slot due moves its limiter and evaluates its law, and the plant's outputs leave what it showed. -/
theorem loopSampleEvaluatesTheLaw : Obligations.LoopSampleEvaluatesTheLaw := by
  unfold Obligations.LoopSampleEvaluatesTheLaw
  exact fun t n own p49 s hn hc hd hp h1 h0 hsrc => loopSample_gives own p49 hn hc hd hp h1 h0 hsrc

end Sys2Proof.Machine
end

section
/-! PROOFS. The encoder's edges and faults, and the trips of the motor and of the cooler (R53, R54, R55, R59). -/

namespace Sys2Proof.Machine

open Sys2Proof.Laws

/-! ### Rules of the state -/

theorem rd_ctl (s : State) (c : CtlState) (k : Nat) : ({ s with ctl := c } : State).rd k = s.rd k := rfl
theorem mem_raise (s : State) (e : Nat) : ⟨e, none⟩ ∈ (s.raise e).raised := List.mem_append_right _ (List.mem_singleton_self _)

/-- What an opening leaves of the encoder and of the phase outputs. -/
theorem keptLoops_encoder {c d : CtlState} (h : keptLoops c = keptLoops d) :
    c.count = d.count ∧ c.facetEdges = d.facetEdges ∧ c.angleValid = d.angleValid ∧ c.phasesLow = d.phasesLow :=
  ⟨(congrArg CtlState.count h :), (congrArg CtlState.facetEdges h :), (congrArg CtlState.angleValid h :), (congrArg CtlState.phasesLow h :)⟩

/-- What the end of a step leaves of the line grid. -/
theorem keptGrid_running {g h : GridState} (e : keptGrid g = keptGrid h) : g.running = h.running ∧ g.facet = h.facet :=
  ⟨(congrArg GridState.running e :), (congrArg GridState.facet e :)⟩

theorem settle_grid (s : State) : s.settle.grid.running = s.grid.running ∧ s.settle.grid.facet = s.grid.facet :=
  keptGrid_running (congrArg State.grid (settle_kept s))

theorem settle_count (s : State) : s.settle.ctl.count = s.ctl.count := by rw [settle_ctl]

/-! ### An encoder fault (R55) -/

/-- The registers that the opening of slots 0 to 3 writes. -/
abbrev polygonKeys : List Nat := [CTL_STATUS, CTL_SLOT_CTRL 0, CTL_SLOT_CTRL 1, CTL_SLOT_CTRL 2, CTL_SLOT_CTRL 3]

theorem slotCtrl_polygonKeys : ∀ n < 4, CTL_SLOT_CTRL n ∈ polygonKeys := by decide +kernel

/-- An encoder fault stands: its flag, no lock, slots 0 to 3 open, its event raised. -/
structure EncFaulted (t : State) : Prop where
  fault : t.flag CTL_STATUS_ENC_FAULT = true
  lock : t.flag CTL_STATUS_LOCK = false
  raised : ⟨EV_CTL_ENC_FAULT, none⟩ ∈ t.raised
  slots : ∀ n < 4, t.flag (CTL_SLOT_CTRL_CLOSE n) = false ∧ t.bit CTL_STATUS (8 + n) = false

theorem EncFaulted.ctl {t : State} (h : EncFaulted t) (c : CtlState) : EncFaulted { t with ctl := c } := ⟨h.fault, h.lock, h.raised, h.slots⟩
theorem EncFaulted.grid {t : State} (h : EncFaulted t) (g : GridState) : EncFaulted { t with grid := g } := ⟨h.fault, h.lock, h.raised, h.slots⟩
theorem EncFaulted.gridCtl {t : State} (h : EncFaulted t) (g : GridState) (c : CtlState) : EncFaulted { t with grid := g, ctl := c } :=
  ⟨h.fault, h.lock, h.raised, h.slots⟩

/-- The fault shows in the registers and in the event log. -/
abbrev ShowsFault (t : State) : Prop :=
  t.flag CTL_STATUS_ENC_FAULT = true ∧ t.flag CTL_STATUS_LOCK = false ∧ Logged t EV_CTL_ENC_FAULT
    ∧ ∀ n < 4, t.flag (CTL_SLOT_CTRL_CLOSE n) = false ∧ t.bit CTL_STATUS (8 + n) = false

theorem EncFaulted.settle {t : State} (h : EncFaulted t) : ShowsFault t.settle := by
  refine ⟨(settle_flag t settleKey_ctlStatus).trans h.fault, (settle_flag t settleKey_ctlStatus).trans h.lock,
    logged_settle (r := ⟨EV_CTL_ENC_FAULT, none⟩) h.raised (by decide), fun n hn => ?_⟩
  obtain ⟨close, closed⟩ := h.slots n hn
  exact ⟨(settle_flag t (settleKey_slotCtrl (by omega))).trans close, (bit_congr (settle_rd t settleKey_ctlStatus) _).trans closed⟩

/-- The phase outputs go low and learning stops. -/
def faultLoops (c : CtlState) : CtlState := { c with phasesLow := true, revClean := false, rcOk := false }

/-- What of an encoder fault precedes the opening of the slots. -/
def State.noteFault (s : State) : State :=
  let t := s.setFlag CTL_STATUS_ENC_FAULT true
  { t with ctl := faultLoops t.ctl }

theorem encoderFault_eq (s : State) :
    s.encoderFault = (s.noteFault.openPolygon.setFlag CTL_STATUS_RC_LEARNING false).raise EV_CTL_ENC_FAULT := rfl

/-- The end of an encoder fault: learning stops and the event is raised. -/
theorem stopLearning_lowers (s : State) : Lowers s ((s.setFlag CTL_STATUS_RC_LEARNING false).raise EV_CTL_ENC_FAULT) :=
  (Lowers.clearFlag s (by decide) (by decide) fun _ => by decide).trans (.of_quiet (quiet_raise _ _) rfl)

theorem stopLearning_faulted {s : State} (fault : s.flag CTL_STATUS_ENC_FAULT = true) (lock : s.flag CTL_STATUS_LOCK = false)
    (slots : ∀ n < 4, s.flag (CTL_SLOT_CTRL_CLOSE n) = false ∧ s.bit CTL_STATUS (8 + n) = false) :
    EncFaulted ((s.setFlag CTL_STATUS_RC_LEARNING false).raise EV_CTL_ENC_FAULT) := by
  have after := stopLearning_lowers s
  refine ⟨?_, ?_, mem_raise _ _, fun n hn => ?_⟩
  · rw [flag_eq_bit _ rfl] at fault ⊢
    exact (after.faults _ (by decide)).trans fault
  · rw [flag_eq_bit _ rfl] at lock ⊢
    exact after.bits _ _ settleKey_ctlStatus lock
  · obtain ⟨close, closed⟩ := slots n hn
    rw [flag_eq_bit _ rfl] at close ⊢
    exact ⟨after.bits _ _ (settleKey_slotCtrl (by omega)) close, after.bits _ _ settleKey_ctlStatus closed⟩

theorem noteFault_flag (s : State) : s.noteFault.flag CTL_STATUS_ENC_FAULT = true := by
  unfold State.noteFault
  exact (flag_congr (rd_ctl _ _ _)).trans (flag_setFlag_same s _ _ rfl (by decide))

theorem openPolygon_fault (s : State) : s.openPolygon.flag CTL_STATUS_ENC_FAULT = s.flag CTL_STATUS_ENC_FAULT := by
  rw [flag_eq_bit _ rfl, flag_eq_bit _ rfl]
  exact (openPolygon_lowers s).faults _ (by decide)

theorem encoderFault_faulted (s : State) : EncFaulted s.encoderFault := by
  rw [encoderFault_eq]
  have noted := noteFault_flag s
  generalize s.noteFault = t at noted ⊢
  exact stopLearning_faulted ((openPolygon_fault t).trans noted) (openPolygon_lock t) fun n hn => openPolygon_shown t hn

theorem noteFault_ctl (s : State) : s.noteFault.ctl = faultLoops s.ctl := by
  show faultLoops (s.setFlag _ true).ctl = _
  rw [State.setFlag_ctl]

theorem encoderFault_loops (s : State) :
    keptLoops s.encoderFault.ctl = keptLoops (faultLoops s.ctl) := by
  rw [encoderFault_eq, ← noteFault_ctl]
  exact ((openPolygon_lowers s.noteFault).trans (stopLearning_lowers _)).loops

/-- The count and its revolution stay. -/
theorem encoderFault_angle (s : State) : s.encoderFault.ctl.count = s.ctl.count ∧ s.encoderFault.ctl.facetEdges = s.ctl.facetEdges
    ∧ s.encoderFault.ctl.angleValid = s.ctl.angleValid := by
  obtain ⟨count, edges, valid, -⟩ := keptLoops_encoder (encoderFault_loops s)
  exact ⟨count, edges, valid⟩

theorem Kept.encoderFault {s t : State} {keys : List Nat} (h : Kept s t keys) (hk : ∀ n < 4, CTL_SLOT_CTRL n ∈ keys)
    (hst : CTL_STATUS ∈ keys) : Kept s t.encoderFault keys := by
  rw [encoderFault_eq]
  have noted : Kept s t.noteFault keys := (h.setFlag (f := CTL_STATUS_ENC_FAULT) true hst).ctl _
  exact ((noted.openPolygon hk hst).setFlag (f := CTL_STATUS_RC_LEARNING) false hst).raise _

/-! ### Quadrature edges (R55, R58) -/

/-- The new levels of the two channels. -/
def State.encLevels (s : State) (a b : Bool) : State := { s with ctl := { s.ctl with encA := a, encB := b } }

/-- The count moves by `d` at an edge of the present instant. -/
def State.encCount (s : State) (d : Int) : State :=
  let at_ := s.now / 256 * 256
  { s with ctl := { s.ctl with count := s.ctl.count + d, edgeAt := at_,
                               edgeGap := if s.ctl.edgeAt = 0 then 0 else at_ - s.ctl.edgeAt } }

/-- By how much one channel's edge moves the count: the levels give a direction, and DIR turns it. -/
def State.encStep (s : State) (a b : Bool) : Int :=
  if (if a ≠ s.ctl.encA then decide (a ≠ b) else decide (a = b)) ≠ s.flag CTL_ENC_CFG_DIR then 1 else -1

theorem placeLine_eq (s : State) : ∃ l, s.placeLine = { s with ctl := { s.ctl with nextLine := l } } := by
  unfold State.placeLine
  split
  · split
    · exact ⟨s.ctl.nextLine, rfl⟩
    · exact ⟨_, rfl⟩
  · exact ⟨_, rfl⟩

theorem quadratureEdge_one {t : Nat} {a b : Bool} {s : State} (hc : s.pwr.coreInReset = false)
    (h : a ≠ s.ctl.encA ↔ b = s.ctl.encB) :
    exec (.quadratureEdge t a b) s = done (((s.advance t).encLevels a b).encCount ((s.advance t).encStep a b)).placeLine := by
  show execQuadratureEdge t a b s = _
  unfold execQuadratureEdge
  extract_lets u c da db u₁ fwd d at_ _ u₂
  have reset : ¬ u.pwr.coreInReset = true := by rw [State.advance_pwr, hc]; decide
  have one : da ↔ ¬ db := by
    simp only [da, db, c, u, State.advance_ctl]
    tauto
  have step : d = u.encStep a b := by
    unfold State.encStep
    simp only [d, fwd, da, c]
    by_cases hA : a = u.ctl.encA <;> cases u.flag CTL_ENC_CFG_DIR <;> by_cases hB : a = b <;> simp [hA, hB]
  rw [if_neg reset, if_neg (by simp [one]), if_neg (by simp [one])]
  show done u₂.placeLine = done ((u.encLevels a b).encCount (u.encStep a b)).placeLine
  rw [← step]
  rfl

theorem quadratureEdge_both (t : Nat) {s : State} (hc : s.pwr.coreInReset = false) :
    exec (.quadratureEdge t (!s.ctl.encA) (!s.ctl.encB)) s =
      done (((s.advance t).encLevels (!s.ctl.encA) (!s.ctl.encB)).bump CTL_ENC_ERR_V 1).encoderFault := by
  show execQuadratureEdge t _ _ s = _
  unfold execQuadratureEdge
  extract_lets u c da db u₁ fwd d at_ _ u₂
  have reset : ¬ u.pwr.coreInReset = true := by rw [State.advance_pwr, hc]; decide
  rw [if_neg reset, if_pos (by simp [da, db, c, u])]
  rfl

theorem quadratureEdge_one_gives {t : Nat} {a b : Bool} {s : State} (hc : s.pwr.coreInReset = false)
    (h : a ≠ s.ctl.encA ↔ b = s.ctl.encB) :
    Gives (.quadratureEdge t a b) s fun u => u.ctl.encA = a ∧ u.ctl.encB = b ∧ u.ctl.count = s.ctl.count + s.encStep a b ∧ Kept s u [] := by
  refine ⟨_, quadratureEdge_one hc h, ?_⟩
  have step : (s.advance t).encStep a b = s.encStep a b := by
    simp only [State.encStep, State.advance_ctl, flag_advance]
  obtain ⟨l, place⟩ := placeLine_eq (((s.advance t).encLevels a b).encCount ((s.advance t).encStep a b))
  rw [place, step]
  refine ⟨by rw [settle_ctl]; rfl, by rw [settle_ctl]; rfl, ?_, ?_⟩
  · rw [settle_count]
    show (s.advance t).ctl.count + _ = _
    rw [State.advance_ctl]
  · exact ((((Kept.refl s []).advance t).ctl _).ctl _).ctl _ |>.settle

theorem quadratureEdge_both_gives (t : Nat) {s : State} (hc : s.pwr.coreInReset = false) :
    Gives (.quadratureEdge t (!s.ctl.encA) (!s.ctl.encB)) s fun u =>
      ShowsFault u ∧ u.ctl.count = s.ctl.count ∧ u.fld CTL_ENC_ERR_V = min 65535 (s.fld CTL_ENC_ERR_V + 1) := by
  refine ⟨_, quadratureEdge_both t hc, (encoderFault_faulted _).settle, ?_, ?_⟩
  · rw [settle_count, (encoderFault_angle _).1, State.bump_ctl]
    show (s.advance t).ctl.count = _
    rw [State.advance_ctl]
  · generalize hu : (s.advance t).encLevels (!s.ctl.encA) (!s.ctl.encB) = u
    have err : u.fld CTL_ENC_ERR_V = s.fld CTL_ENC_ERR_V := by
      rw [← hu]
      exact fld_advance s t CTL_ENC_ERR_V
    have kept : Kept (u.bump CTL_ENC_ERR_V 1) (u.bump CTL_ENC_ERR_V 1).encoderFault polygonKeys :=
      (Kept.refl _ _).encoderFault slotCtrl_polygonKeys List.mem_cons_self
    rw [fld_congr (f := CTL_ENC_ERR_V) (kept.settle.1 CTL_ENC_ERR (by decide) (by decide)), fld_bump_same _ _ _ (by decide) (by decide), err]
    rfl

/-! ### The revolution index (R53, R55) -/

theorem showFallback_ctl (s : State) : s.showFallback.ctl = s.ctl := State.setFlag_ctl s _ _

/-- A revolution starts: the count and the facet edges are 0, and the angle is valid. -/
def Restarted (c : CtlState) : Prop := c.count = 0 ∧ c.facetEdges = 0 ∧ c.angleValid = true

/-- Before the fault is made, the revolution that ends was bad: another number of facet edges than FACETS, or a count off by more than 1. -/
def State.badRevolution (s : State) : Bool :=
  s.ctl.angleValid && (decide (s.ctl.facetEdges ≠ s.fld CTL_ENC_CFG_FACETS) || decide (1 < ((s.ctl.count.natAbs : Int) - (s.cpr : Int)).natAbs))

/-- A bad revolution is an encoder fault; a good one after a good one ends the fault. -/
def State.judgeRevolution (s : State) (bad clean : Bool) : State :=
  if bad then { s.encoderFault with ctl := { s.encoderFault.ctl with revClean := true } }
  else if clean then s.setFlag CTL_STATUS_ENC_FAULT false
  else s

theorem judgeRevolution_bad (s : State) (clean : Bool) : EncFaulted (s.judgeRevolution true clean) :=
  (encoderFault_faulted s).ctl _

theorem judgeRevolution_restarted {s : State} (h : Restarted s.ctl) (bad clean : Bool) : Restarted (s.judgeRevolution bad clean).ctl := by
  unfold State.judgeRevolution
  split
  · obtain ⟨count, edges, valid⟩ := h
    obtain ⟨count', edges', valid'⟩ := encoderFault_angle s
    generalize s.encoderFault = u at count' edges' valid' ⊢
    exact ⟨count'.trans count, edges'.trans edges, valid'.trans valid⟩
  · split
    · rw [State.setFlag_ctl]
      exact h
    · exact h

theorem Kept.judgeRevolution {s t : State} {keys : List Nat} {bad clean : Bool} (h : Kept s t keys)
    (hk : ∀ n < 4, CTL_SLOT_CTRL n ∈ keys) (hst : CTL_STATUS ∈ keys) : Kept s (t.judgeRevolution bad clean) keys :=
  .ite ((h.encoderFault hk hst).ctl _) (.ite (h.setFlag (f := CTL_STATUS_ENC_FAULT) false hst) h)

theorem revolutionIndex_ends {t : Nat} {s : State} (hc : s.pwr.coreInReset = false) :
    ∃ u, exec (.revolutionIndex t) s = done { u with grid := { u.grid with facet := u.fld CTL_ENC_CFG_FACETS } } ∧ Restarted u.ctl
      ∧ (s.badRevolution = true → EncFaulted u) ∧ Kept s u (CTL_RC_SAT :: polygonKeys) := by
  show ∃ u, execRevolutionIndex t s = _ ∧ _
  unfold execRevolutionIndex
  extract_lets a c n lim sat s₁ streak falls bad s₂ s₃ s₄ f _ s₅
  have reset : ¬ a.pwr.coreInReset = true := by rw [State.advance_pwr, hc]; decide
  rw [if_neg reset]
  have was : c = s.ctl := State.advance_ctl s t
  have restarted : Restarted s₄.ctl := by
    have h₂ : Restarted s₂.ctl := ⟨rfl, rfl, rfl⟩
    have h₄ : s₄.ctl = s₂.ctl := (showFallback_ctl s₃).trans (State.raiseIf_ctl s₂ _ _)
    rw [h₄]
    exact h₂
  have hst : CTL_STATUS ∈ CTL_RC_SAT :: polygonKeys := by decide
  have hsl (n : Nat) (hn : n < 4) : CTL_SLOT_CTRL n ∈ CTL_RC_SAT :: polygonKeys := List.mem_cons_of_mem _ (slotCtrl_polygonKeys n hn)
  have kept₁ : Kept s s₁ (CTL_RC_SAT :: polygonKeys) := ((Kept.refl s _).advance t).setFld (f := CTL_RC_SAT_V) sat List.mem_cons_self
  have kept₄ : Kept s s₄ (CTL_RC_SAT :: polygonKeys) := ((kept₁.ctl _).raiseIf falls _).setFlag (f := CTL_STATUS_FALLBACK) _ hst
  have hbad : bad = s.badRevolution := by
    have cfg (f : Fld) (hf : f.reg = CTL_ENC_CFG) : s₁.fld f = s.fld f :=
      fld_congr (kept₁.1 _ (by rw [hf]; decide) (by rw [hf]; decide))
    simp only [bad, was, State.badRevolution, State.cpr, cfg CTL_ENC_CFG_FACETS rfl, cfg CTL_ENC_CFG_CPR_DIV4 rfl]
    rfl
  have judged : s₅ = s₄.judgeRevolution bad (c.angleValid && c.revClean) := rfl
  rw [hbad] at judged
  clear_value s₅
  subst judged
  exact ⟨_, rfl, judgeRevolution_restarted restarted _ _, fun h => h ▸ judgeRevolution_bad _ _, kept₄.judgeRevolution hsl hst⟩

theorem revolutionIndex_gives {t : Nat} {s : State} (hc : s.pwr.coreInReset = false) :
    Gives (.revolutionIndex t) s fun u => u.ctl.count = 0 ∧ u.ctl.facetEdges = 0 ∧ u.ctl.angleValid = true
      ∧ u.grid.facet = s.fld CTL_ENC_CFG_FACETS ∧ (s.badRevolution = true → ShowsFault u) := by
  obtain ⟨u, ends, ⟨count, edges, valid⟩, bad, kept⟩ := revolutionIndex_ends (t := t) hc
  refine ⟨_, ends, ?_, ?_, ?_, ?_, fun h => ((bad h).grid _).settle⟩
  · rw [settle_count]
    exact count
  · rw [settle_ctl]
    exact edges
  · rw [settle_ctl]
    exact valid
  · rw [(settle_grid _).2]
    exact fld_congr (kept.1 CTL_ENC_CFG (by decide) (by decide))

/-! ### The missing facet index (R55) -/

theorem missingFacetIndex_gives {s : State} (hc : s.pwr.coreInReset = false)
    (h : 5 * s.cpr < 4 * s.fld CTL_ENC_CFG_FACETS * (s.ctl.count - s.ctl.countAtFacet).natAbs) :
    Gives .missingFacetIndex s fun u => ShowsFault u ∧ u.grid.running = false ∧ u.ctl.nextLine = none := by
  have missed : s.facetMissed = true := decide_eq_true h
  have run : exec .missingFacetIndex s = done { s.encoderFault with
      grid := { s.encoderFault.grid with running := false }, ctl := { s.encoderFault.ctl with nextLine := none } } := by
    show execMissingFacetIndex s = _
    rw [execMissingFacetIndex, if_neg (by rw [hc, missed]; decide)]
  refine ⟨_, run, ?_⟩
  have faulted := encoderFault_faulted s
  generalize s.encoderFault = u at faulted ⊢
  refine ⟨(faulted.gridCtl _ _).settle, (settle_grid _).1, ?_⟩
  rw [settle_ctl]

/-! ### The trips (R54, R59) -/

theorem motorTrip_trips {code : BitVec 14} {s : State} (hc : s.pwr.coreInReset = false) (h : s.fld CTL_MOTOR_ITRIP_V < code.toNat) :
    exec (.motorTrip code) s =
      done (((({ s with ctl := { s.ctl with phasesLow := true } } : State).setFlag CTL_STATUS_MOTOR_TRIP true).openPolygon).raise
        EV_CTL_MOTOR_TRIP) := by
  show execMotorTrip code s = _
  rw [execMotorTrip, if_neg (by rw [hc]; simpa using h)]

theorem motorTrip_within {code : BitVec 14} {s : State} (h : code.toNat ≤ s.fld CTL_MOTOR_ITRIP_V) :
    Gives (.motorTrip code) s fun t => Kept s t [] := by
  refine ⟨s.settle, ?_, (Kept.refl s []).settle⟩
  show execMotorTrip code s = _
  rw [execMotorTrip, if_pos (by simp [h]), done]

theorem coolerTrip_within {code : BitVec 14} {s : State} (h : code.toNat ≤ s.fld CTL_COOL_ITRIP_V)
    (h' : 16383 - s.fld CTL_COOL_ITRIP_V ≤ code.toNat) : Gives (.coolerTrip code) s fun t => Kept s t [] := by
  refine ⟨s.settle, ?_, (Kept.refl s []).settle⟩
  show execCoolerTrip code s = _
  unfold execCoolerTrip
  extract_lets level
  rw [if_pos (by simp [level, h, h']), done]

/-- Slots 0 to 3 open with the motor's trip shown and the phase outputs low. -/
theorem openPolygon_trips {s u : State} (trip : u.flag CTL_STATUS_MOTOR_TRIP = true) (low : u.ctl.phasesLow = true)
    (kept : Kept s u polygonKeys) :
    let t := (u.openPolygon.raise EV_CTL_MOTOR_TRIP).settle
    t.flag CTL_STATUS_MOTOR_TRIP = true ∧ t.flag CTL_STATUS_LOCK = false ∧ t.ctl.phasesLow = true ∧ Logged t EV_CTL_MOTOR_TRIP
      ∧ (∀ n < 4, t.flag (CTL_SLOT_CTRL_CLOSE n) = false) ∧ Kept s t polygonKeys := by
  have lowers := openPolygon_lowers u
  have lock := openPolygon_lock u
  have slots (n : Nat) (hn : n < 4) : u.openPolygon.flag (CTL_SLOT_CTRL_CLOSE n) = false := (openPolygon_shown u hn).1
  have open_ : Kept s u.openPolygon polygonKeys := kept.openPolygon slotCtrl_polygonKeys List.mem_cons_self
  generalize u.openPolygon = v at lowers lock slots open_ ⊢
  rw [flag_eq_bit _ rfl] at trip
  refine ⟨?_, (settle_flag _ settleKey_ctlStatus).trans lock, ?_, logged_settle (r := ⟨EV_CTL_MOTOR_TRIP, none⟩) (mem_raise _ _) (by decide),
    fun n hn => (settle_flag _ (settleKey_slotCtrl (by omega))).trans (slots n hn), (open_.raise _).settle⟩
  · rw [settle_flag _ settleKey_ctlStatus, flag_eq_bit _ rfl]
    exact (lowers.faults _ (by decide)).trans trip
  · rw [settle_ctl]
    exact (keptLoops_encoder lowers.loops).2.2.2.trans low

theorem motorTrip_gives {code : BitVec 14} {s : State} (hc : s.pwr.coreInReset = false) (h : s.fld CTL_MOTOR_ITRIP_V < code.toNat) :
    Gives (.motorTrip code) s fun t => t.flag CTL_STATUS_MOTOR_TRIP = true ∧ t.flag CTL_STATUS_LOCK = false ∧ t.ctl.phasesLow = true
      ∧ Logged t EV_CTL_MOTOR_TRIP ∧ (∀ n < 4, t.flag (CTL_SLOT_CTRL_CLOSE n) = false) ∧ Kept s t polygonKeys := by
  refine ⟨_, motorTrip_trips hc h, ?_⟩
  generalize ha : ({ s with ctl := { s.ctl with phasesLow := true } } : State) = a
  have kept : Kept s a polygonKeys := ha ▸ (Kept.refl s _).ctl _
  have low : a.ctl.phasesLow = true := ha ▸ rfl
  exact openPolygon_trips (flag_setFlag_same a _ _ rfl (by decide)) low (kept.setFlag (f := CTL_STATUS_MOTOR_TRIP) true List.mem_cons_self)

theorem coolerTrip_trips {code : BitVec 14} {s : State} (hc : s.pwr.coreInReset = false)
    (h : s.fld CTL_COOL_ITRIP_V < code.toNat ∨ code.toNat < 16383 - s.fld CTL_COOL_ITRIP_V) :
    exec (.coolerTrip code) s = done (({ s.openSlot 4 with ctl := { (s.openSlot 4).ctl with
      cool := { (s.openSlot 4).ctl.cool with out := 0, held := 0, forced0 := true } } } : State).raise EV_CTL_COOL_TRIP) := by
  show execCoolerTrip code s = _
  unfold execCoolerTrip
  extract_lets level
  rw [if_neg]
  simp only [hc, level, Bool.false_or, Bool.and_eq_true, decide_eq_true_eq]
  omega

theorem coolerTrip_gives {code : BitVec 14} {s : State} (hc : s.pwr.coreInReset = false)
    (h : s.fld CTL_COOL_ITRIP_V < code.toNat ∨ code.toNat < 16383 - s.fld CTL_COOL_ITRIP_V) :
    Gives (.coolerTrip code) s fun t => t.flag (CTL_SLOT_CTRL_CLOSE 4) = false ∧ t.ctl.cool.out = 0 ∧ Logged t EV_CTL_COOL_TRIP
      ∧ Kept s t [CTL_STATUS, CTL_SLOT_CTRL 4] := by
  refine ⟨_, coolerTrip_trips hc h, ?_⟩
  have kept : Kept s (s.openSlot 4) [CTL_STATUS, CTL_SLOT_CTRL 4] :=
    (Kept.refl s _).openSlot (List.mem_cons_of_mem _ List.mem_cons_self) List.mem_cons_self
  obtain ⟨close, -⟩ := openSlot_shown s (n := 4) (by decide)
  generalize s.openSlot 4 = u at kept close ⊢
  refine ⟨(settle_flag _ (settleKey_slotCtrl (by decide))).trans close, ?_,
    logged_settle (r := ⟨EV_CTL_COOL_TRIP, none⟩) (mem_raise _ _) (by decide), ((kept.ctl _).raise _).settle⟩
  rw [settle_ctl]
  rfl

/-- Settles O10: each command's equation, and what an encoder fault or an opening leaves in the registers. -/
theorem encoderEdges : Obligations.EncoderEdges := by
  unfold Obligations.EncoderEdges
  refine ⟨⟨fun t a b s hc h => quadratureEdge_one_gives hc h, fun t s hc => quadratureEdge_both_gives t hc, fun t s hc => ?_,
    fun s hc h => missingFacetIndex_gives hc h⟩, fun code s hc h => motorTrip_gives hc h, fun code s hc h => coolerTrip_gives hc h,
    fun code s h => motorTrip_within h, fun code s h h' => coolerTrip_within h h'⟩
  obtain ⟨u, run, count, edges, valid, facet, bad⟩ := revolutionIndex_gives (t := t) hc
  exact ⟨u, run, count, edges, valid, facet, fun hv he => bad (by simp [State.badRevolution, hv, he]),
    fun hv hn => bad (by rw [State.badRevolution, hv, decide_eq_true hn, Bool.or_true]; rfl)⟩

end Sys2Proof.Machine
end

section
/-! PROOFS. The outputs at the lands keep their safe levels: the phases' dead time, a forced low of triggers and columns, a port's
identifiers (R54, R75, R333, R358, R463, R482). -/

namespace Sys2Proof.Machine

open Sys2Proof.Laws

/-! ### The dead time of a motor phase (R54) -/

/-- Twice the cycles from the nearest centre of a PWM period. -/
def phaseOffset (period c : Nat) : Int :=
  if 2 * (c % period) < period then 2 * (c % period : Nat) else 2 * ((c % period : Nat) : Int) - 2 * period

theorem phaseLands_eq (period dead d c : Nat) :
    let on : Int := min d period
    let x := phaseOffset period c
    phaseLands period dead d c =
      (decide (2 * dead - on ≤ x) && decide (x < on),
        (decide (x < -on) && decide (on + 2 * dead ≤ x + 2 * period)) || decide (on + 2 * dead ≤ x)) := rfl

/-- The centre nearest to cycle `c`, by its number. -/
def nearestCentre (period c : Nat) : Nat := (2 * c + period) / (2 * period)

theorem nearestCentre_eq {period : Nat} (h : 0 < period) (c : Nat) :
    nearestCentre period c = c / period + if 2 * (c % period) < period then 0 else 1 := by
  have lt := Nat.mod_lt c h
  have parts : 2 * c + period = 2 * period * (c / period) + (2 * (c % period) + period) := by
    rw [Nat.mul_assoc]
    have := Nat.div_add_mod c period
    omega
  rw [nearestCentre, parts, Nat.mul_add_div (by omega)]
  congr 1
  split
  · exact Nat.div_eq_of_lt (by omega)
  · exact Nat.div_eq_of_lt_le (by omega) (by omega)

theorem phaseOffset_eq (period c : Nat) : phaseOffset period c = 2 * c - 2 * (period * nearestCentre period c : Nat) := by
  unfold phaseOffset
  rcases Nat.eq_zero_or_pos period with rfl | h
  · simp
  · have parts := Nat.div_add_mod c period
    rw [nearestCentre_eq h, Nat.mul_add]
    split <;> omega

/-- The offset lies within half a period of its centre. -/
theorem phaseOffset_lt {period : Nat} (h : 0 < period) (c : Nat) : phaseOffset period c < period := by
  have := Nat.mod_lt c h
  unfold phaseOffset
  split <;> omega

/-- After `k` cycles the offset is `2 * k` more, less whole periods. -/
theorem phaseOffset_add (period c k : Nat) :
    ∃ q : Nat, (q = 0 ∨ period ≤ q) ∧ phaseOffset period (c + k) = phaseOffset period c + 2 * k - 2 * q := by
  have mono : nearestCentre period c ≤ nearestCentre period (c + k) := Nat.div_le_div_right (by omega)
  obtain ⟨j, hj⟩ := Nat.exists_eq_add_of_le mono
  refine ⟨period * j, ?_, ?_⟩
  · rcases Nat.eq_zero_or_pos j with rfl | h
    · exact .inl rfl
    · exact .inr (Nat.le_mul_of_pos_right _ h)
  · rw [phaseOffset_eq, phaseOffset_eq, hj, Nat.mul_add]
    omega

theorem phaseLands_apart (period dead d c : Nat) : ((phaseLands period dead d c).1 && (phaseLands period dead d c).2) = false := by
  rw [phaseLands_eq, Bool.eq_false_iff]
  simp only [ne_eq, Bool.and_eq_true, Bool.or_eq_true, decide_eq_true_eq]
  omega

theorem phaseLands_low_dead {period dead d c k : Nat} (hk : k ≤ dead) (h : (phaseLands period dead d c).1 = true) :
    (phaseLands period dead d (c + k)).2 = false := by
  obtain ⟨q, hq, add⟩ := phaseOffset_add period c k
  rw [phaseLands_eq] at h
  rw [phaseLands_eq, Bool.eq_false_iff, add]
  simp only [ne_eq, Bool.and_eq_true, Bool.or_eq_true, decide_eq_true_eq] at h ⊢
  omega

theorem phaseLands_high_dead {period dead d c k : Nat} (hk : k ≤ dead) (h : (phaseLands period dead d c).2 = true) :
    (phaseLands period dead d (c + k)).1 = false := by
  obtain ⟨q, hq, add⟩ := phaseOffset_add period c k
  rw [phaseLands_eq] at h
  rw [phaseLands_eq, Bool.eq_false_iff, add]
  simp only [ne_eq, Bool.and_eq_true, Bool.or_eq_true, decide_eq_true_eq] at h ⊢
  rcases Nat.eq_zero_or_pos period with rfl | hp
  · rw [phaseOffset] at h ⊢
    omega
  · have := phaseOffset_lt hp c
    omega

/-! ### A motor trip (R54) -/

theorem motorLands_low {s : State} (h : s.ctl.phasesLow = true) (ph : Fin 3) : s.motorLands ph = (false, false) := by
  rw [State.motorLands, h, Bool.or_true, if_pos rfl]

theorem motorTrip_lands {code : BitVec 14} {s : State} (hc : s.pwr.coreInReset = false) (h : s.fld CTL_MOTOR_ITRIP_V < code.toNat) :
    Gives (.motorTrip code) s fun t => ∀ ph, t.motorLands ph = (false, false) := by
  obtain ⟨t, run, -, -, low, -⟩ := motorTrip_gives hc h
  exact ⟨t, run, motorLands_low low⟩

/-! ### A forced low of the triggers and the columns (R482) -/

/-- A pulse is begun and not yet at its programmed fall. -/
def RowDrive.begun (d : RowDrive) (now : Nat) : Bool := d.rows ≠ 0 && decide (d.rise ≤ now) && decide (now < d.fall)

/-- What a forced low leaves of the drive: a pulse begun and the release of its columns, or nothing. -/
def RowDrive.forcedLow (d : RowDrive) (now : Nat) : RowDrive :=
  if d.begun now then { d with release := some (d.fall + 256) } else { d with cols := 0, rows := 0 }

theorem forceLow_drive (s : State) : s.forceLow.emt.drive = s.emt.drive.forcedLow s.now := rfl

theorem trgLand_iff (s : State) (r : Fin 16) : s.trgLand r = true ↔
    s.boardTest = false ∧ s.emt.drive.rows.getLsbD r = true ∧ s.emt.drive.rise ≤ s.now ∧ s.now < s.emt.drive.fall := by
  simp only [State.trgLand, Bool.and_eq_true, Bool.not_eq_true', decide_eq_true_eq, and_assoc]

theorem begun_iff (d : RowDrive) (now : Nat) : d.begun now = true ↔ d.rows ≠ 0 ∧ d.rise ≤ now ∧ now < d.fall := by
  simp only [RowDrive.begun, Bool.and_eq_true, decide_eq_true_eq, and_assoc]

/-- A row is high only in a pulse that is begun. -/
theorem begun_of_trgLand {s : State} {r : Fin 16} (h : s.trgLand r = true) : s.emt.drive.begun s.now = true := by
  obtain ⟨-, row, rise, fall⟩ := (trgLand_iff s r).mp h
  exact (begun_iff _ _).mpr ⟨fun h0 => by simp [h0] at row, rise, fall⟩

/-- The columns of a drive without them are low. -/
theorem colLand_none {s : State} (h : s.emt.drive.cols = 0) (c : Fin 12) : s.colLand c = false := by
  simp [State.colLand, h]

/-- The columns are low from their release on. -/
theorem colLand_released {s : State} {t : Nat} (h : s.emt.drive.release = some t) (ht : t ≤ s.now) (c : Fin 12) : s.colLand c = false := by
  simp [State.colLand, h, ht]

/-- `k` ticks after a forced low. -/
def State.afterLow (s : State) (k : Nat) : State := { s.forceLow with now := s.now + k }

theorem afterLow_begun {s : State} (h : s.emt.drive.begun s.now = true) (k : Nat) :
    (s.afterLow k).emt.drive = { s.emt.drive with release := some (s.emt.drive.fall + 256) } :=
  (forceLow_drive s).trans (if_pos h)

theorem afterLow_idle {s : State} (h : ¬ s.emt.drive.begun s.now = true) (k : Nat) :
    (s.afterLow k).emt.drive = { s.emt.drive with cols := 0, rows := 0 } :=
  (forceLow_drive s).trans (if_neg h)

theorem afterLow_trgLand {s : State} {k : Nat} {r : Fin 16} (h : (s.afterLow k).trgLand r = true) :
    s.trgLand r = true ∧ s.now + k < s.emt.drive.fall := by
  obtain ⟨test, row, -, fall⟩ := (trgLand_iff _ r).mp h
  by_cases hb : s.emt.drive.begun s.now = true
  · obtain ⟨-, rise, unfallen⟩ := (begun_iff _ _).mp hb
    rw [afterLow_begun hb] at row fall
    exact ⟨(trgLand_iff s r).mpr ⟨test, row, rise, unfallen⟩, fall⟩
  · rw [afterLow_idle hb] at row
    simp at row

theorem afterLow_colLand_released {s : State} {k : Nat} (h : ∃ r, s.trgLand r = true) (hk : s.emt.drive.fall + 256 ≤ s.now + k) (c : Fin 12) :
    (s.afterLow k).colLand c = false := by
  obtain ⟨r, hr⟩ := h
  exact colLand_released (congrArg RowDrive.release (afterLow_begun (begun_of_trgLand hr) k)) hk c

theorem afterLow_colLand_idle {s : State} {k : Nat} (h : s.emt.drive.rows = 0 ∨ s.now < s.emt.drive.rise ∨ s.emt.drive.fall ≤ s.now)
    (c : Fin 12) : (s.afterLow k).colLand c = false := by
  have idle : ¬ s.emt.drive.begun s.now = true := by
    rw [begun_iff]
    rintro ⟨rows, rise, fall⟩
    rcases h with h | h | h
    · exact rows h
    · omega
    · omega
  exact colLand_none (congrArg RowDrive.cols (afterLow_idle idle k)) c

/-! ### The identifiers of a port (R358, R463) -/

/-- A port in service answers a configuration read. -/
theorem cfgRead_data {s : State} {p : Port} (reset : s.portInReset (pix p) = false) (link : (s.port (pix p)).linkDown = false)
    (perst : (s.port (pix p)).perstLow = false) (until_ : (s.port (pix p)).resetUntil ≤ s.now) (off : Nat) :
    s.cfgRead p off = .data (s.cfgWord p off) := by
  unfold State.cfgRead
  extract_lets q
  rw [if_neg (by simp [q, reset, link, perst]), if_neg (Nat.not_lt.mpr until_)]

theorem cfgWord_vendor (s : State) (p : Port) : s.cfgWord p 0 = match p with | .a => 0x01921F7C | .b => 0x01931F7C := by
  unfold State.cfgWord State.pciIds
  dsimp only
  rw [if_pos rfl]
  cases p <;> rfl

theorem cfgWord_class (s : State) (p : Port) : s.cfgWord p 8 = 0x118000B0 := by
  unfold State.cfgWord State.pciIds
  dsimp only
  rw [if_neg (by decide), if_pos rfl]
  rfl

theorem cfgWord_subsystem (s : State) (p : Port) :
    s.cfgWord p 0x2C = BitVec.ofNat 32 ((s.fld GLB_GRADE_GRADE + 1) * 65536 + 0x1F7C) := by
  unfold State.cfgWord State.pciIds
  dsimp only
  rw [if_neg (by decide), if_neg (by decide), if_pos rfl]

/-- Settles O60: the phase offsets bound the dead time, a forced low leaves a pulse that is begun alone, and the header's words are read. -/
theorem landsAndIdentifiers : Obligations.LandsAndIdentifiers := by
  unfold Obligations.LandsAndIdentifiers
  refine ⟨phaseLands_apart, fun period dead d c k => phaseLands_low_dead, fun period dead d c k => phaseLands_high_dead,
    fun code s => motorTrip_lands, fun s k => ⟨fun r => afterLow_trgLand, afterLow_colLand_released, afterLow_colLand_idle⟩,
    fun p s reset link perst until_ => ?_⟩
  have word := cfgRead_data reset link perst until_
  exact ⟨(word 0).trans (congrArg _ (cfgWord_vendor s p)), (word 8).trans (congrArg _ (cfgWord_class s p)),
    (word 0x2C).trans (congrArg _ (cfgWord_subsystem s p))⟩

end Sys2Proof.Machine
end

section
/-! PROOFS. The emission-enable chain follows its terms at the end of every step, and EMT_CHAIN shows them (R85, R353, R373). -/

namespace Sys2Proof.Machine

open Sys2Proof.Laws

/-! ### The terms of the chain -/

/-- Eight terms as EMT_CHAIN shows them, bit by bit from bit 0. -/
def termsWord (ilk lock eye fault key card arm run : Bool) : BitVec 8 :=
  BitVec.ofNat 8 ([ilk, lock, eye, fault, key, card, arm, run].foldr (fun b acc => b2n b + 2 * acc) 0)

theorem termsWord_whole : ∀ ilk lock eye fault key card arm run : Bool, termsWord ilk lock eye fault key card arm run = 255 ↔
    ilk = true ∧ lock = true ∧ eye = true ∧ fault = true ∧ key = true ∧ card = true ∧ arm = true ∧ run = true := by
  have sum : ∀ ilk lock eye fault key card arm run : Bool, termsWord ilk lock eye fault key card arm run = 255 ↔
      (ilk && lock && eye && fault && key && card && arm && run) = true := by decide
  intros
  rw [sum]
  simp only [Bool.and_eq_true, and_assoc]

theorem chainTerms_eq (s : State) : s.chainTerms = if s.pwr.emissionInReset then 0 else
    termsWord (s.sec.permitting && !s.sec.discrepancy && !s.flag FLT_TRIP_LATCHED) (s.flag CTL_STATUS_LOCK) (s.flag EMT_EYE_CFG_LOCK)
      (!s.flag EMT_FAULT_LATCHED) (s.bit SEC_KEY_STATUS 0 || s.fldF SHT_SERVE_CFG_BITS = 0) (!s.emt.redCard) (s.flag EMT_ARM_ARM)
      (s.flag SHT_STATUS_RUNNING) := rfl

/-- Out of emission reset the chain is whole exactly while all eight terms hold (R85). -/
theorem chainTerms_whole {s : State} (h : s.pwr.emissionInReset = false) : s.chainTerms = 255 ↔
    (s.sec.permitting = true ∧ s.sec.discrepancy = false ∧ s.flag FLT_TRIP_LATCHED = false) ∧ s.flag CTL_STATUS_LOCK = true
      ∧ s.flag EMT_EYE_CFG_LOCK = true ∧ s.flag EMT_FAULT_LATCHED = false
      ∧ (s.bit SEC_KEY_STATUS 0 = true ∨ s.fldF SHT_SERVE_CFG_BITS = 0) ∧ s.emt.redCard = false ∧ s.flag EMT_ARM_ARM = true
      ∧ s.flag SHT_STATUS_RUNNING = true := by
  rw [chainTerms_eq, h, if_neg Bool.false_ne_true, termsWord_whole]
  simp only [Bool.and_eq_true, Bool.not_eq_true', Bool.or_eq_true, decide_eq_true_eq, and_assoc]

/-! ### What leaves the chain as it is shown

Of the registers that the end of a step can write, these hold terms of the chain or show them. -/

/-- EMT_CHAIN, and the registers of terms that the end of a step can write. -/
def shownKeys : List Nat := [EMT_CHAIN, EMT_ARM, SHT_STATUS, SEC_KEY_STATUS]

/-- From `s` to `t` EMT_CHAIN stays, and so do the terms held in registers that the end of a step can write. -/
structure ChainSpared (s t : State) : Prop where
  rd : ∀ k ∈ [EMT_CHAIN, EMT_ARM, SHT_STATUS], t.rd k = s.rd k
  key : t.bit SEC_KEY_STATUS 0 = s.bit SEC_KEY_STATUS 0

theorem ChainSpared.of_regs {s t : State} (h : t.regs = s.regs := by rfl) : ChainSpared s t :=
  ⟨fun _ _ => by simp [State.rd, h], by simp [State.bit, State.rd, h]⟩

theorem ChainSpared.refl (s : State) : ChainSpared s s := .of_regs

theorem ChainSpared.trans {s t u : State} (h : ChainSpared s t) (g : ChainSpared t u) : ChainSpared s u :=
  ⟨fun k hk => (g.rd k hk).trans (h.rd k hk), g.key.trans h.key⟩

theorem ChainSpared.ite {s t u : State} {c : Prop} [Decidable c] (h : ChainSpared s t) (g : ChainSpared s u) :
    ChainSpared s (if c then t else u) := by split <;> assumption

theorem ChainSpared.foldl {β : Type} (l : List β) (f : State → β → State) (s : State) (h : ∀ t b, ChainSpared t (f t b)) :
    ChainSpared s (l.foldl f s) := by
  induction l generalizing s with
  | nil => exact .refl s
  | cons b l ih => exact (h s b).trans (ih _)

theorem ChainSpared.loop (n : Nat) (f : Nat → State → State) (s : State) (h : ∀ i < n, ∀ t, ChainSpared t (f i t)) :
    ChainSpared s (loop n f s) := by
  induction n with
  | zero => exact .refl s
  | succ n ih => exact (ih fun i hi => h i (by omega)).trans (h n (by omega) _)

theorem ChainSpared.wr (s : State) {k : Nat} (w : Word) (h : k ∉ shownKeys) : ChainSpared s (s.wr k w) := by
  have other : SEC_KEY_STATUS ≠ k := fun e => h (by simp [shownKeys, ← e])
  refine ⟨fun j hj => rd_wr_other s w fun e => h ?_, ?_⟩
  · rw [← e]
    exact List.mem_append_left [SEC_KEY_STATUS] hj
  · rw [State.bit, rd_wr_other s w other]
    rfl

theorem ChainSpared.setFld (s : State) (f : Fld) (v : Nat) (h : f.reg ∉ shownKeys) : ChainSpared s (s.setFld f v) := .wr s _ h

/-- A bit of SEC_KEY_STATUS above bit 0 holds no term of the chain. -/
theorem ChainSpared.keyBit (s : State) {n : Nat} (b : Bool) (h : 0 < n) (hn : n < 32) : ChainSpared s (s.setBit SEC_KEY_STATUS n b) := by
  refine ⟨fun j hj => rd_wr_other s _ fun e => ?_, ?_⟩
  · change j = SEC_KEY_STATUS at e
    rw [e] at hj
    exact absurd hj (by decide)
  · rw [State.setBit, State.setFlag, bit_setFld s _ _ _ le_rfl hn, if_neg fun ⟨_, lo, _⟩ => Nat.not_lt.mpr lo h]

/-! ### The event log and packets (R192, R193, R195, R197, R373 to R376) -/

/-- The registers of the event log hold no term. -/
theorem event_notShown (p : Nat) {o : Nat} (h : o < 0x100000 ∨ 0x1000000 ≤ o) : bank p + o ∉ shownKeys := by
  simp only [shownKeys, bank, EMT_CHAIN, EMT_ARM, SHT_STATUS, SEC_KEY_STATUS, List.mem_cons, List.not_mem_nil, or_false]
  omega

theorem spared_sendVector (s : State) (p v : Nat) : ChainSpared s (s.sendVector p v) := by
  unfold State.sendVector
  refine .ite (.setFld s _ _ ?_) .of_regs
  rw [Nat.add_assoc]
  exact event_notShown p (.inr (by omega))

theorem spared_groupVector (s : State) (p src : Nat) : ChainSpared s (s.groupVector p src) := by
  have hg := groupOf_lt src
  unfold State.groupVector
  refine .ite ((ChainSpared.setFld s _ _ ?_).trans (spared_sendVector _ _ _)) (.refl s)
  simp only [EVT_GRP_VEC, Nat.add_assoc]
  exact event_notShown p (.inl (by omega))

theorem spared_logEntry (s : State) (p src : Nat) (info : Word) : ChainSpared s (s.logEntry p src info) := by
  have port (t : State) (x : PortState) : ChainSpared t (t.setPort p x) := .of_regs (by simp)
  have field (t : State) (f : Fld) (v o : Nat) (hf : f.reg = bank p + o) (ho : o < 0x100000) : ChainSpared t (t.setFld f v) :=
    .setFld t f v (hf ▸ event_notShown p (.inl ho))
  unfold State.logEntry
  refine .ite ?_ (.refl s)
  extract_lets wr phase nx _ base e a _ b c d
  refine .ite ((field s _ _ _ rfl (by decide)).trans (port _ _)) ?_
  have ha : ChainSpared s a := .of_regs
  have hb : ChainSpared a b := port a _
  have hc : ChainSpared b c := (field b _ _ _ rfl (by decide)).trans (field _ _ _ _ rfl (by decide))
  have hd : ChainSpared c d := .wr c _ (event_notShown p (.inl (by decide)))
  exact ha.trans (hb.trans (hc.trans (hd.trans (spared_groupVector d p src))))

theorem spared_logOn (s : State) (p src : Nat) (info : Word) : ChainSpared s (s.logOn p src info) := by
  unfold State.logOn
  refine .ite (.refl s) ((ChainSpared.setFld s _ _ ?_).trans (spared_logEntry _ _ _ _))
  simp only [EVT_STATUS, Nat.add_assoc]
  exact event_notShown p (.inl (by omega))

theorem spared_flush (s : State) : ChainSpared s s.flush :=
  (ChainSpared.foldl (sortRaised s.raised) State.logRaised s fun t r =>
    (spared_logOn t 0 r.src _).trans (spared_logOn _ 1 r.src _)).trans .of_regs

theorem spared_setSeq (s : State) (n : Nat) : ChainSpared s (s.setSeq n) :=
  (ChainSpared.wr s _ (by decide)).trans (.wr _ _ (by decide))

/-- The adoption of a stream key writes bits 1 and 17 of SEC_KEY_STATUS, of which no term is read (R85, R193). -/
theorem spared_adoptStreamKey (s : State) : ChainSpared s s.adoptStreamKey := by
  unfold State.adoptStreamKey State.setKey
  extract_lets k _ a _ b
  have ha : ChainSpared s a := .of_regs
  have hb : ChainSpared a b := .of_regs
  have valid : ChainSpared b (b.setBit SEC_KEY_STATUS 1 true) := .keyBit b _ (by decide) (by decide)
  have kcv (t : State) : ChainSpared t (t.setFld (SEC_KEY_KCV_V 1) (kcvOf 1 k)) := .setFld t _ _ (by decide)
  have adopted (t : State) : ChainSpared t (t.setBit SEC_KEY_STATUS 17 false) := .keyBit t _ (by decide) (by decide)
  exact .ite (ha.trans (hb.trans (valid.trans ((kcv _).trans ((adopted _).trans ((spared_setSeq _ _).trans
    (.setFld _ _ _ (by decide)))))))) (.refl s)

theorem spared_sendPacket (s : State) (k ty fl fr ln : Nat) (b : List Byte) : ChainSpared s (s.sendPacket k ty fl fr ln b) := by
  unfold State.sendPacket State.formPacket
  refine .ite (.refl s) ?_
  extract_lets a
  have ha : ChainSpared s a := .ite (.refl s) (spared_adoptStreamKey s)
  exact ha.trans (.ite (.wr a _ (by decide)) ((spared_setSeq a _).trans .of_regs))

theorem spared_tryFrameEnd (s : State) : ChainSpared s s.tryFrameEnd := by
  unfold State.tryFrameEnd
  split
  · exact .refl s
  · split
    · exact .refl s
    · exact .ite (.refl s) (ChainSpared.trans .of_regs (spared_sendPacket _ _ _ _ _ _ _))

/-! ### The loss of emission, and the lands (R34, R86, R353) -/

theorem spared_dropPrepared (s : State) : ChainSpared s s.dropPrepared := by
  unfold State.dropPrepared
  split
  · exact .refl s
  · exact .of_regs

theorem spared_stopLaunch (s : State) : ChainSpared s s.stopLaunch := by
  unfold State.stopLaunch
  extract_lets _ a
  have ha : ChainSpared s a := .of_regs
  refine ha.trans ?_
  split
  · exact .of_regs
  · exact .ite (.refl a) .of_regs

theorem spared_deliverLine (s : State) : ChainSpared s s.deliverLine := by
  unfold State.deliverLine
  extract_lets a
  have ha : ChainSpared s a := .ite .of_regs (.refl s)
  exact .ite (ha.trans .of_regs) (.refl s)

/-- The detectors' registers of a line and of a frame hold no term. -/
theorem detector_notShown {n : Nat} (h : n < 192) : DET_AMB n ∉ shownKeys ∧ DET_RATE n ∉ shownKeys := by
  simp only [shownKeys, DET_AMB, DET_RATE, EMT_CHAIN, EMT_ARM, SHT_STATUS, SEC_KEY_STATUS, List.mem_cons, List.not_mem_nil, or_false]
  omega

theorem spared_endLine (s : State) : ChainSpared s s.endLine := by
  unfold State.endLine
  extract_lets dur a amb base mine _ b c
  have ha : ChainSpared s a := .wr s _ (by decide)
  have hb : ChainSpared a b := .of_regs
  have hc : ChainSpared b c := .loop 192 _ b fun i hi t => .setFld t _ _ (detector_notShown hi).1
  exact .ite (.refl s) (ha.trans (hb.trans (hc.trans .of_regs)))

theorem spared_frameRates (s : State) : ChainSpared s s.frameRates := by
  unfold State.frameRates
  extract_lets d a
  have ha : ChainSpared s a := .ite (.refl s) (.loop 192 _ s fun i hi t => .setFld t _ _ (detector_notShown hi).2)
  exact ha.trans .of_regs

theorem spared_closeFrame (s : State) (c : Nat) : ChainSpared s (s.closeFrame c) := by
  have lines : ChainSpared s s.endSweepLines :=
    (spared_deliverLine s).trans (.ite ((spared_endLine _).trans ((spared_frameRates _).trans .of_regs)) (.refl _))
  rw [closeFrame_eq]
  exact lines.trans (.ite .of_regs (.refl _))

theorem spared_loseEmission (s : State) (c : Nat) : ChainSpared s (s.loseEmission c) :=
  (spared_dropPrepared s).trans ((spared_stopLaunch _).trans (spared_closeFrame _ c))

theorem spared_settleFault (s : State) : ChainSpared s s.settleFault :=
  ChainSpared.trans .of_regs ((ChainSpared.wr _ _ (by decide)).trans (.wr _ _ (by decide)))

theorem spared_afterChain (s : State) : ChainSpared s s.afterChain :=
  .ite (.refl s) ((spared_settleFault s).trans ((spared_tryFrameEnd _).trans (.ite (.refl _) .of_regs)))

/-! ### The chain follows its terms -/

/-- What the end of a step may change and no term is read from leaves the terms. -/
theorem ChainSpared.terms {s t : State} (h : ChainSpared s t) (q : Quiet s t) : t.chainTerms = s.chainTerms := by
  have pwr : t.pwr = s.pwr := show (keptState t).pwr = (keptState s).pwr by rw [q.kept]
  have permitting : t.sec.permitting = s.sec.permitting := show (keptState t).sec.permitting = (keptState s).sec.permitting by rw [q.kept]
  have discrepancy : t.sec.discrepancy = s.sec.discrepancy :=
    show (keptState t).sec.discrepancy = (keptState s).sec.discrepancy by rw [q.kept]
  have redCard : t.emt.redCard = s.emt.redCard := show (keptState t).emt.redCard = (keptState s).emt.redCard by rw [q.kept]
  have serve : t.fldF SHT_SERVE_CFG_BITS = s.fldF SHT_SERVE_CFG_BITS := by simp only [State.fldF, State.rdF, quiet_inForce q]
  have kept (f : Fld) (hf : settleKey f.reg = false) : t.flag f = s.flag f := flag_congr (q.rd _ hf)
  have spared (f : Fld) (hf : f.reg ∈ [EMT_CHAIN, EMT_ARM, SHT_STATUS]) : t.flag f = s.flag f := flag_congr (h.rd _ hf)
  rw [chainTerms_eq, chainTerms_eq, pwr, permitting, discrepancy, redCard, serve, h.key, kept FLT_TRIP_LATCHED (by decide),
    kept CTL_STATUS_LOCK (by decide), kept EMT_EYE_CFG_LOCK (by decide), kept EMT_FAULT_LATCHED (by decide),
    spared EMT_ARM_ARM (by decide), spared SHT_STATUS_RUNNING (by decide)]

/-- The terms noted are those that hold, and EMT_CHAIN shows them. -/
structure ChainFollows (s : State) : Prop where
  terms : s.emt.terms = s.chainTerms
  shown : s.chainShown

theorem ChainFollows.congr {s t : State} (h : ChainFollows s) (terms : t.emt.terms = s.emt.terms) (hold : t.chainTerms = s.chainTerms)
    (shown : t.rd EMT_CHAIN = s.rd EMT_CHAIN) : ChainFollows t := by
  obtain ⟨held, word, active⟩ := h
  refine ⟨terms.trans (held.trans hold.symm), ?_, ?_⟩
  · rw [fld_congr shown, word, terms]
  · rw [flag_congr shown, active, State.p87, State.p87, terms]

theorem ChainFollows.spared {s t : State} (h : ChainFollows s) (c : ChainSpared s t) (q : Quiet s t) (n : NoOpening s t) :
    ChainFollows t := h.congr n.terms (c.terms q) (c.rd _ (by decide))

theorem noteTerms_quiet (s : State) : Quiet s s.noteTerms := by
  unfold State.noteTerms
  extract_lets a _ b
  have ha : Quiet s a := .ite (.refl s) (quiet_setFld s _ _ (by decide))
  have hb : Quiet a b := quiet_terms a _
  exact ha.trans (hb.trans ((quiet_setFld b _ _ (by decide)).trans (quiet_setFlag _ _ _ (by decide))))

/-- The terms noted are written to EMT_CHAIN alone. -/
theorem noteTerms_rd (s : State) {k : Nat} (h : k ≠ EMT_CHAIN) : s.noteTerms.rd k = s.rd k := by
  unfold State.noteTerms
  extract_lets a _ b
  have ha : a.rd k = s.rd k := by
    simp only [a]
    split
    · rfl
    · exact rd_wr_other s _ h
  exact (rd_wr_other _ _ h).trans ((rd_wr_other b _ h).trans ha)

theorem noteTerms_follows (s : State) : ChainFollows s.noteTerms := by
  have hold : s.noteTerms.chainTerms = s.chainTerms :=
    chainTerms_congr (noteTerms_quiet s).kept fun k hk => noteTerms_rd s fun e => absurd (e ▸ hk) (by decide)
  have noted : s.noteTerms.emt.terms = s.chainTerms := noteTerms_terms s
  refine ⟨noted.trans hold.symm, ?_, ?_⟩
  · rw [noted]
    unfold State.noteTerms
    rw [State.setFlag, fld_setFld_other _ _ _ _ (by decide) (by decide) (by decide), fld_setFld_same _ _ _ (by decide) (by decide)]
    exact Nat.mod_eq_of_lt s.chainTerms.isLt
  · rw [State.p87, noted]
    unfold State.noteTerms
    exact flag_setFlag_same _ _ _ rfl (by decide)

/-- Brought to its terms, the chain follows them: what a loss entails touches no term (R34, R86). -/
theorem settleChain_follows (s : State) : ChainFollows s.settleChain := by
  rw [settleChain_eq]
  split
  · have low : ChainFollows s.noteTerms.forceLow := (noteTerms_follows s).spared .of_regs (quiet_forceLow _) .same
    have lost (c : Nat) : ChainFollows (s.noteTerms.forceLow.loseEmission c) :=
      low.spared (spared_loseEmission _ c) (quiet_loseEmission _ c) (noOpening_loseEmission _ c)
    exact (lost _).spared (.of_regs (by simp)) (quiet_raiseIf _ _ _) (.raiseIf _ _ _)
  · exact noteTerms_follows s

theorem settle_follows (s : State) : ChainFollows s.settle := by
  rw [settle_parts]
  generalize s.beforeChain.settleChain.fwFollows = u
  have after : ChainFollows u.settleChain.afterChain :=
    (settleChain_follows u).spared (spared_afterChain _) (quiet_afterChain _) (noOpening_afterChain _)
  generalize u.settleChain.afterChain = v at after
  have logging : ChainFollows (logged v) :=
    after.spared (.foldl _ _ v fun t r => (spared_logOn t 0 r.src _).trans (spared_logOn _ 1 r.src _)) (quiet_logged v)
      (.foldl _ _ v fun t r => (noOpening_logOn t 0 r.src _).trans (noOpening_logOn _ 1 r.src _))
  exact logging.congr rfl rfl rfl

theorem ChainFollows.safe {s : State} (h : ChainFollows s) : s.emissionSafe := fun active =>
  h.terms.symm.trans (of_decide_eq_true active)

/-! ### Every step -/

/-- The outcome of a command is a next state, with the end of a step behind its effect. -/
def EndsStep (o : Host.Outcome State Fault Refusal) : Prop := ∃ u : State, o = .next u.settle

theorem EndsStep.done (u : State) : EndsStep (done u) := ⟨u, rfl⟩

theorem EndsStep.ite {a b : Host.Outcome State Fault Refusal} {c : Prop} [Decidable c] (h : EndsStep a) (g : EndsStep b) :
    EndsStep (if c then a else b) := by split <;> assumption

/-- Every command's meaning ends as a step ends; six of them choose between two effects. -/
theorem exec_settles (c : Instr) (s : State) : EndsStep (exec c s) := by
  cases c with
  | rcCellUpdate => exact .ite (.done _) (.done _)
  | revolutionIndex => exact .ite (.done _) (.done _)
  | quadratureEdge => exact .ite (.done _) (.ite (.done _) (.ite (.done _) (.done _)))
  | missingFacetIndex => exact .ite (.done _) (.done _)
  | motorTrip => exact .ite (.done _) (.done _)
  | coolerTrip => exact .ite (.done _) (.done _)
  | _ => exact .done _

/-- An idle step changes no term, and EMT_CHAIN stays as it is. -/
theorem ChainFollows.idle {s : State} (h : ChainFollows s) : ChainFollows s.idle := by
  refine h.congr (congrArg EmtState.terms (State.advance_emt _ _)) ?_ (rd_advance _ _ _)
  simp only [chainTerms_eq, State.idle, State.advance_pwr, State.advance_sec, State.advance_emt, flag_advance, State.bit, rd_advance,
    fldF_advance]

/-- Settles O5: a command's step ends with `settle`, which brings the chain to its terms, and an idle step changes neither. -/
theorem chainInvariantIsKept : Obligations.ChainInvariantIsKept := by
  unfold Obligations.ChainInvariantIsKept
  intro s t terms shown settled hstep
  cases hp : s.pending with
  | nil =>
    rw [step_empty s hp] at hstep
    cases hstep
    have idle : ChainFollows s.idle := ChainFollows.idle ⟨terms, shown⟩
    obtain ⟨raised, refused⟩ := settled
    exact ⟨idle.terms, idle.shown, ⟨(State.advance_raised _ _).trans raised, (State.advance_refused _ _).trans refused⟩, idle.safe⟩
  | cons c rest =>
    rw [step_front s hp] at hstep
    obtain ⟨u, hu⟩ := exec_settles c { s with pending := rest }
    rw [hu] at hstep
    cases hstep
    have h := settle_follows u
    exact ⟨h.terms, h.shown, ⟨settle_raised u, settle_refused u⟩, h.safe⟩

/-- Settles O19: at the end of a command EMT_CHAIN.ACTIVE shows whether the chain is whole. -/
theorem chainActiveExactlyWhileTermsHold : Obligations.ChainActiveExactlyWhileTermsHold := by
  unfold Obligations.ChainActiveExactlyWhileTermsHold
  intro c s t ht reset
  obtain ⟨u, hu⟩ := exec_settles c s
  rw [hu] at ht
  cases ht
  obtain ⟨terms, -, active⟩ := settle_follows u
  rw [active, State.p87, decide_eq_true_eq, terms]
  exact chainTerms_whole reset

/-- Settles O6: every domain is in reset, where no term holds, and EMT_CHAIN reads 0. -/
theorem chainInvariantAtReset : Obligations.ChainInvariantAtReset := by
  unfold Obligations.ChainInvariantAtReset
  have follows : ChainFollows State.reset := ⟨rfl, rfl, rfl⟩
  exact ⟨follows.terms, follows.shown, ⟨rfl, rfl⟩, follows.safe⟩

end Sys2Proof.Machine
end

section
/-! SUPPORT. What a refusal and an ignored write leave, and what the end of a step may write beside the registers listed. -/

namespace Sys2Proof.Machine

open Sys2Proof.Laws

/-- A write of a firmware-owned register that reaches its block has the block's effect (R401). -/
theorem hostGate_owned {s : State} {p : Port} {off : Nat} (h : ReachesOwned s p off) (f : State → State) :
    s.hostGate p off true f = f s := by
  obtain ⟨⟨silent, reset, group⟩, idle⟩ := h
  exact hostGate_reaches s p off true f silent reset group (by simp [idle])

/-- A command whose write reaches its block has the block's effect, and the step ends. -/
theorem done_unowned {s : State} {p : Port} {off : Nat} (h : Reaches s p off) (f : State → State) :
    done (s.hostGate p off false f) = .next (f s).settle := congrArg done (hostGate_unowned h f)

theorem done_owned {s : State} {p : Port} {off : Nat} (h : ReachesOwned s p off) (f : State → State) :
    done (s.hostGate p off true f) = .next (f s).settle := congrArg done (hostGate_owned h f)

theorem done_inEmission {s : State} (h : s.pwr.emissionInReset = false) (f : State → State) :
    done (s.inEmission f) = .next (f s).settle := congrArg done (inEmission_run h f)

theorem Kept.refused {s t : State} {keys : List Nat} (h : Kept s t keys) (x : Option Word) : Kept s { t with refused := x } keys :=
  h.of_eq rfl rfl rfl rfl

/-- A write of a register that the end of a step can write too. -/
theorem Kept.settleWr {s t : State} {keys : List Nat} (h : Kept s t keys) {k : Nat} (w : Word) (hk : settleKey k = true) :
    Kept s (t.wr k w) keys := by
  refine h.trans ⟨fun j hj _ => rd_wr_other t w fun e => ?_, rfl, fun _ => rfl, rfl⟩
  rw [e, hk] at hj
  exact absurd hj (by decide)

/-- A raised source stands last of those that wait. -/
theorem mem_raised (s : State) (e : Nat) : ⟨e, none⟩ ∈ (s.raise e).raised := List.mem_append_right _ (List.mem_singleton_self _)

theorem logged_raise (s : State) {e : Nat} (h : e < 256) : Logged (s.raise e).settle e :=
  logged_settle (r := ⟨e, none⟩) (mem_raised s e) h

/-- The refusal of a write with the word that its error register takes. -/
def State.refuseWith (s : State) (k ev w : Nat) : State := { (s.wrN k w).raise ev with refused := some (BitVec.ofNat 32 w) }

theorem refuse_eq (s : State) (k ev c d : Nat) : s.refuse k ev c d = s.refuseWith k ev (c * 2 ^ 24 + d % 2 ^ 16) := rfl

/-- A refused write leaves its code and detail, raises its event, and changes nothing else (R486). -/
theorem refuseWith_settles (s : State) {k ev : Nat} (w : Nat) (hk : settleKey k = false) (he : ev < 256) :
    (s.refuseWith k ev w).settle.rd k = BitVec.ofNat 32 w ∧ Logged (s.refuseWith k ev w).settle ev
      ∧ (s.refuseWith k ev w).settle.sht.pending = s.sht.pending ∧ Kept s (s.refuseWith k ev w).settle [k] := by
  have raised : ⟨ev, none⟩ ∈ (s.refuseWith k ev w).raised := mem_raised (s.wrN k w) ev
  refine ⟨?_, logged_settle (r := ⟨ev, none⟩) raised he, settle_shtPending _, ?_⟩
  · rw [settle_rd _ hk]
    exact rd_wr_same s k _
  · exact ((((Kept.refl s _).wrN w (List.mem_singleton_self k)).raise ev).refused _).settle

/-- A write ignored with its block's event changes nothing else (R413). -/
theorem ignoreRaise_settles (s : State) {ev : Nat} (he : ev < 256) :
    Logged (s.ignoreRaise ev).settle ev ∧ Kept s (s.ignoreRaise ev).settle [] :=
  ⟨logged_raise s.ignore he, ((Kept.refl s []).ignore.raise ev).settle⟩

/-- An effect that leaves the registers, the values in force, memory and the queue. -/
theorem Kept.same {s t : State} {keys : List Nat} (hr : t.regs = s.regs := by rfl) (hf : t.inForce = s.inForce := by rfl)
    (hm : t.mem = s.mem := by rfl) (hp : t.pending = s.pending := by rfl) : Kept s t keys := (Kept.refl s keys).of_eq hr hf hm hp

theorem foldl_keeps {β γ : Type} (g : State → γ) (l : List β) {f : State → β → State} (s : State) (h : ∀ t b, g (f t b) = g t) :
    g (l.foldl f s) = g s := by
  induction l generalizing s with
  | nil => rfl
  | cons b l ih => exact (ih _).trans (h s b)

theorem loop_keeps {γ : Type} (g : State → γ) (n : Nat) {f : Nat → State → State} (s : State) (h : ∀ i < n, ∀ t, g (f i t) = g t) :
    g (loop n f s) = g s := by
  induction n with
  | zero => rfl
  | succ n ih => exact (h n (Nat.lt_succ_self n) _).trans (ih fun i hi => h i (Nat.lt_succ_of_lt hi))

/-- What only turn `m` of a loop touches is as that turn leaves it. -/
theorem loop_turn {γ : Type} (g : State → γ) {n m : Nat} {f : Nat → State → State} (s : State) (hm : m < n)
    (h : ∀ i < n, i ≠ m → ∀ t, g (f i t) = g t) : g (loop n f s) = g (f m (loop m f s)) := by
  induction n with
  | zero => exact absurd hm (Nat.not_lt_zero m)
  | succ n ih =>
    by_cases hn : n = m
    · rw [hn]
      rfl
    · exact (h n (Nat.lt_succ_self n) hn _).trans (ih (by omega) fun i hi => h i (Nat.lt_succ_of_lt hi))

end Sys2Proof.Machine
end

section
/-! PROOFS. The commit of a shot program (R68, R70, R486). -/

namespace Sys2Proof.Machine

open Sys2Proof.Laws

/-- A key that a filter lets pass reads as before. -/
theorem tabGet_filter {α : Type} (d : α) (l : List (Nat × α)) (f : Nat → Bool) {k : Nat} (h : f k = true) :
    tabGet d (l.filter fun e => f e.1) k = tabGet d l k := by
  induction l with
  | nil => rfl
  | cons e t ih =>
    obtain ⟨a, v⟩ := e
    by_cases ha : k = a
    · subst ha
      simp [h, tabGet]
    · by_cases hf : f a = true <;> simp [hf, tabGet, ha, ih]

/-- The shadow set holds the registers of its spans. -/
theorem fldIn_shadowSet (s : State) (spans : List (Nat × Nat)) (f : Fld)
    (h : (spans.any fun sp => decide (sp.1 ≤ f.reg) && decide (f.reg < sp.2)) = true) :
    fldIn (s.shadowSet spans) f = s.fld f :=
  congrArg f.get (tabGet_filter _ s.regs (fun k => spans.any fun sp => decide (sp.1 ≤ k) && decide (k < sp.2)) h)

/-- What R70 finds wrong with the shadow set as it stands. -/
def State.programFault (s : State) : Option (Nat × Nat) :=
  programCheck (s.shadowSet programSpans) (s.spMaxFor (fldIn (s.shadowSet programSpans) SHT_CFG_LINES)).toNat
    (s.fld EMT_TRIG_CFG_TRIG_W) (s.fld EMT_TRIG_CFG_COL_HOLD)

/-- The whole shadow set is staged, with its mode and instant. -/
def State.stageProgram (s : State) (m : Bool) : State :=
  ({ s with sht := { s.sht with pending := some (m, s.now), staged := s.shadowSet programSpans } }).setFlag SHT_STATUS_COMMIT_PENDING true

theorem shtCommit_eq (s : State) (m : Bool) : s.shtCommit m =
    match s.programFault with
    | some (c, d) => s.refuseWith SHT_CFG_ERR EV_SHT_CFG_ERROR (c * 2 ^ 24 + d % 2 ^ 16)
    | none => s.stageProgram m := rfl

/-- The count of lines is checked first (R70). -/
theorem programFault_lines {s : State} (h : s.fld SHT_CFG_LINES < 512 ∨ 4096 < s.fld SHT_CFG_LINES) : s.programFault = some (1, 0) := by
  unfold State.programFault programCheck
  rw [fldIn_shadowSet s programSpans SHT_CFG_LINES (by decide)]
  exact if_pos (by simpa using h)

theorem commit_exec {p : Port} {s : State} (h : Reaches s p SHT_COMMIT) (m : Bool) :
    exec (.shotProgramCommit p m) s = .next (s.shtCommit m).settle := done_unowned h _

/-- A program that fails a check is refused whole. -/
theorem commit_refused {p : Port} {s : State} {c d : Nat} (h : Reaches s p SHT_COMMIT) (hc : s.programFault = some (c, d)) (m : Bool) :
    Gives (.shotProgramCommit p m) s fun t => t.rd SHT_CFG_ERR = BitVec.ofNat 32 (c * 2 ^ 24 + d % 2 ^ 16) ∧ Logged t EV_SHT_CFG_ERROR
      ∧ t.sht.pending = s.sht.pending ∧ Kept s t [SHT_CFG_ERR] := by
  refine ⟨_, commit_exec h m, ?_⟩
  rw [shtCommit_eq, hc]
  exact refuseWith_settles s _ (by decide) (by decide)

theorem commit_staged {p : Port} {s : State} (h : Reaches s p SHT_COMMIT) (hc : s.programFault = none) (m : Bool) :
    Gives (.shotProgramCommit p m) s fun t => t.sht.pending = some (m, s.now) ∧ t.sht.staged = s.shadowSet programSpans ∧ Kept s t [] := by
  refine ⟨_, commit_exec h m, ?_⟩
  rw [shtCommit_eq, hc]
  have kept : Kept s (s.stageProgram m) [] := (Kept.same (t := { s with sht := _ })).settleWr _ (by decide)
  exact ⟨settle_shtPending _, settle_shtStaged _, kept.settle⟩

/-- Settles O14: the commit is the check of the shadow set, and then its refusal or its staging. -/
theorem shotProgramCommitChecks : Obligations.ShotProgramCommitChecks := by
  unfold Obligations.ShotProgramCommitChecks
  refine ⟨fun p m s h hc => commit_staged h hc m, fun p m c d s h hc => commit_refused h hc m, fun p m s h hl => ?_⟩
  obtain ⟨t, ht, err, -, pending, -⟩ := commit_refused h (programFault_lines hl) m
  exact ⟨t, ht, by rw [State.rdN, err]; rfl, pending⟩

end Sys2Proof.Machine
end

section
/-! PROOFS. The commands of the run, and the offsets of serve codes (R70, R72, R82, R83). -/

namespace Sys2Proof.Machine

open Sys2Proof.Laws

/-! ### Start and stop (R72) -/

/-- The word that SHT_RUN_START writes. -/
def startWord (n : BitVec 16) : Word := BitVec.ofNat 32 (2 ^ 29 + n.toNat)

theorem startWord_toNat (n : BitVec 16) : (startWord n).toNat = 2 ^ 29 + n.toNat :=
  Nat.mod_eq_of_lt (show 2 ^ 29 + n.toNat < 2 ^ 32 by have := n.isLt; omega)

theorem startWord_bits (n : BitVec 16) : (startWord n).toNat % 65536 = n.toNat ∧ (startWord n).toNat.testBit 31 = false
    ∧ (startWord n).toNat.testBit 30 = false ∧ (startWord n).toNat.testBit 29 = true := by
  have hn := n.isLt
  rw [startWord_toNat]
  refine ⟨by omega, Nat.testBit_lt_two_pow (by omega), Nat.testBit_lt_two_pow (by omega), ?_⟩
  rw [Nat.testBit_two_pow_add_eq, Nat.testBit_lt_two_pow (by omega)]
  rfl

/-- A start with frames above 0 gives a run in progress its new count, or waits. -/
theorem runWrite_start (s : State) {n : BitVec 16} (h : n.toNat ≠ 0) : s.runWrite (startWord n) =
    if s.running then { s with sht := { s.sht with newCount := some n.toNat, stopAtEnd := false } }
    else { s with sht := { s.sht with startPending := some n.toNat } } := by
  obtain ⟨frames, abort, stop, start⟩ := startWord_bits n
  unfold State.runWrite
  simp [frames, abort, stop, start, h]

theorem runWrite_noFrames (s : State) : s.runWrite (startWord 0) = s.refuseWith SHT_CFG_ERR EV_SHT_CFG_ERROR 0x0B000000 := rfl

theorem runWrite_stop (s : State) : s.runWrite 0x40000000 =
    if s.running then { s with sht := { s.sht with stopAtEnd := true } } else s.endRun := rfl

theorem runWrite_abort (s : State) : s.runWrite 0x80000000 = s.abortRun := rfl

theorem runStart_exec {p : Port} {s : State} (h : ReachesOwned s p SHT_RUN) (n : BitVec 16) :
    exec (.shtRunStart p n) s = .next (s.runWrite (startWord n)).settle := done_owned h _

theorem runStop_exec {p : Port} {s : State} (h : ReachesOwned s p SHT_RUN) :
    exec (.shtRunStop p) s = .next (s.runWrite 0x40000000).settle := done_owned h _

theorem runAbort_exec {p : Port} {s : State} (h : ReachesOwned s p SHT_RUN) : exec (.shtRunAbort p) s = .next s.abortRun.settle := done_owned h _

theorem runStart_waits {p : Port} {n : BitVec 16} {s : State} (h : ReachesOwned s p SHT_RUN) (hn : n ≠ 0) (hr : s.running = false) :
    Does (.shtRunStart p n) s fun u => u.sht.startPending = some n.toNat := by
  refine ⟨_, runStart_exec h n, ?_⟩
  rw [runWrite_start s fun e => hn (BitVec.eq_of_toNat_eq e), if_neg (by simp [hr])]

theorem runStart_counts {p : Port} {n : BitVec 16} {s : State} (h : ReachesOwned s p SHT_RUN) (hn : n ≠ 0) (hr : s.running = true) :
    Does (.shtRunStart p n) s fun u => u.sht.newCount = some n.toNat ∧ u.sht.stopAtEnd = false := by
  refine ⟨_, runStart_exec h n, ?_⟩
  rw [runWrite_start s fun e => hn (BitVec.eq_of_toNat_eq e), if_pos hr]
  exact ⟨rfl, rfl⟩

theorem runStart_refused {p : Port} {s : State} (h : ReachesOwned s p SHT_RUN) :
    Gives (.shtRunStart p 0) s fun t => t.rdN SHT_CFG_ERR = 0x0B000000 ∧ Logged t EV_SHT_CFG_ERROR ∧ Kept s t [SHT_CFG_ERR] := by
  refine ⟨_, runStart_exec h 0, ?_⟩
  rw [runWrite_noFrames]
  obtain ⟨err, logged, -, kept⟩ := refuseWith_settles s (k := SHT_CFG_ERR) (ev := EV_SHT_CFG_ERROR) 0x0B000000 (by decide) (by decide)
  exact ⟨by rw [State.rdN, err]; rfl, logged, kept⟩

/-! ### The end of a run (R72) -/

theorem endRun_running (s : State) : s.endRun.running = false := by
  unfold State.endRun
  extract_lets was _ a b
  have hb : b.running = false := flag_setFlag_same a SHT_STATUS_RUNNING false rfl (by decide)
  split
  · exact hb
  · exact hb

theorem endRun_sht (s : State) :
    s.endRun.sht = { s.sht with startPending := none, newCount := none, stopAtEnd := false, barred := false } := by
  simp [State.endRun, apply_ite State.sht]

theorem endRun_grid (s : State) : s.endRun.grid = s.grid := by simp [State.endRun, apply_ite State.grid]

theorem closeLanes_sht (s : State) (cut : Bool) : (s.closeLanes cut).sht = s.sht :=
  foldl_keeps State.sht _ s fun t e => by simp [State.closeLane, State.setLane, apply_ite State.sht]

theorem discardWindow_sht (s : State) : s.discardWindow.sht = { s.sht with flight := none } := by
  unfold State.discardWindow
  split
  next h => rw [← h]
  · simp [apply_ite State.sht, closeLanes_sht]

theorem stopLaunch_idle {s : State} (h : s.sht.flight = none) : s.stopLaunch.sht = { s.sht with cut := true } := by
  simp [State.stopLaunch, h, State.onLine]

theorem dropPrepared_prepared (s : State) : s.dropPrepared.sht.prepared = none := by
  unfold State.dropPrepared
  split
  next h => exact h
  · rfl

theorem deliverLine_sht (s : State) : s.deliverLine.sht = s.sht := by simp [State.deliverLine, State.onLine, apply_ite State.sht]

theorem endLine_sht (s : State) : s.endLine.sht = s.sht := by
  unfold State.endLine
  split
  · rfl
  · extract_lets dur a amb base mine _ b c
    have ha : a.sht = s.sht := State.wrN_sht s _ _
    have hb : b.sht = a.sht := rfl
    have hc : c.sht = b.sht := loop_keeps State.sht 192 b fun _ _ _ => State.setFld_sht _ _ _
    rw [← ha, ← hb, ← hc]

theorem frameRates_sht (s : State) : s.frameRates.sht = s.sht := by
  unfold State.frameRates
  dsimp only
  split
  · rfl
  · exact loop_keeps State.sht 192 _ fun _ _ _ => State.setFld_sht _ _ _

theorem closeFrame_sht (s : State) (c : Nat) : (s.closeFrame c).sht = s.sht := by
  have sweep : s.endSweepLines.sht = s.sht := by
    simp [State.endSweepLines, apply_ite State.sht, frameRates_sht, endLine_sht, deliverLine_sht]
  rw [closeFrame_eq, ← sweep]
  dsimp only
  split <;> rfl

/-- After the line is cut no window is in flight, and what was set up for the next line stays. -/
theorem cutLine_sht (s : State) : s.cutLine.sht = { s.sht with flight := none, cut := true } := by
  rw [State.cutLine, deliverLine_sht, stopLaunch_idle (by rw [discardWindow_sht]), discardWindow_sht]

/-- An abort of a run leaves nothing in flight, set up, waiting or open. -/
theorem abortRun_effect {s : State} (h : s.running = true) : s.abortRun.running = false ∧ s.abortRun.sht.flight = none
    ∧ s.abortRun.sht.prepared = none ∧ s.abortRun.sht.startPending = none ∧ s.abortRun.grid.frameOpen = false := by
  rw [State.abortRun, if_pos h, endRun_running, endRun_sht, endRun_grid, closeFrame_sht, cutLine_sht]
  exact ⟨rfl, rfl, dropPrepared_prepared s, rfl, closeFrame_frameOpen _ _⟩

theorem runStop_running {p : Port} {s : State} (h : ReachesOwned s p SHT_RUN) (hr : s.running = true) :
    Does (.shtRunStop p) s fun u => u.sht.stopAtEnd = true := by
  refine ⟨_, runStop_exec h, ?_⟩
  rw [runWrite_stop, if_pos hr]

theorem runStop_idle {p : Port} {s : State} (h : ReachesOwned s p SHT_RUN) (hr : s.running = false) :
    Does (.shtRunStop p) s fun u => u.sht.startPending = none ∧ u.running = false := by
  refine ⟨_, runStop_exec h, ?_⟩
  rw [runWrite_stop, if_neg (by simp [hr])]
  exact ⟨by rw [endRun_sht], endRun_running s⟩

/-! ### The nonce (R83) -/

/-- A write of a register all of whose bits are writable stores the word. -/
theorem plainWrite_whole (s : State) {off : Nat} (v : Word) (h : accOf off = some (.rw, 0xFFFFFFFF)) :
    s.plainWrite off off v = s.wr off v := by
  have mask : BitVec.ofNat 32 0xFFFFFFFF = BitVec.allOnes 32 := rfl
  rw [plainWrite_rw s off off v h, mask, BitVec.not_allOnes, BitVec.and_zero, BitVec.zero_or, BitVec.and_allOnes]

theorem nonceWrite_does {p : Port} {hi : Word} {s : State} (h : Reaches s p SHT_SERVE_NONCE_HI) :
    Does (.nonceWrite p hi) s fun u => u.rd SHT_SERVE_NONCE_HI = hi ∧ u.flag SHT_STATUS_NONCE_SET = true := by
  have run : exec (.nonceWrite p hi) s
      = .next ((s.plainWrite SHT_SERVE_NONCE_HI SHT_SERVE_NONCE_HI hi).setFlag SHT_STATUS_NONCE_SET true).settle := done_unowned h _
  refine ⟨_, run, ?_, flag_setFlag_same _ _ _ rfl (by decide)⟩
  rw [plainWrite_whole s hi (by decide), rd_setFlag, if_neg (by decide)]
  exact rd_wr_same _ _ _

/-! ### Serve codes (R82) -/

/-- The offset carries the phase in its low bits and keeps to its BITS. -/
theorem serveOffset_spec {bits pl phase : Nat} (b k : Nat) (hb : 1 ≤ bits) (hp : pl ≤ bits) (h : phase < 2 ^ pl) :
    serveOffset b bits pl phase k < 2 ^ bits ∧ serveOffset b bits pl phase k % 2 ^ pl = phase := by
  unfold serveOffset
  rw [if_neg (by omega)]
  dsimp only
  have hx : b >>> (10 * (k % 12)) % 1024 % 2 ^ bits < 2 ^ pl * 2 ^ (bits - pl) := by
    rw [← Nat.pow_add, Nat.add_sub_cancel' hp]
    exact Nat.mod_lt _ (Nat.two_pow_pos _)
  have hq := Nat.div_lt_of_lt_mul hx
  generalize b >>> (10 * (k % 12)) % 1024 % 2 ^ bits / 2 ^ pl = q at hq
  rw [Nat.mul_comm, ← Nat.two_pow_add_eq_or_of_lt h]
  refine ⟨?_, by rw [Nat.mul_add_mod, Nat.mod_eq_of_lt h]⟩
  calc 2 ^ pl * q + phase < 2 ^ pl * (q + 1) := by rw [Nat.mul_succ]; omega
    _ ≤ 2 ^ pl * 2 ^ (bits - pl) := Nat.mul_le_mul_left _ hq
    _ = 2 ^ bits := by rw [← Nat.pow_add, Nat.add_sub_cancel' hp]

/-- Settles O15: each write of SHT_RUN by its bits, the abort by what the line's cut and the frame's close leave. -/
theorem runCommands : Obligations.RunCommands := by
  unfold Obligations.RunCommands
  refine ⟨⟨fun p n s h hn hr => runStart_waits h hn hr, fun p n s h hn hr => runStart_counts h hn hr, fun p s h => runStart_refused h,
    fun p s h hr => runStop_running h hr, fun p s h hr => runStop_idle h hr, fun p s h hr => ⟨_, runAbort_exec h, abortRun_effect hr⟩,
    fun p hi s h => nonceWrite_does h⟩, fun b bits pl phase k hb _ hp h => serveOffset_spec b k hb hp h, fun _ _ _ _ => rfl⟩

end Sys2Proof.Machine
end

section
/-! SUPPORT. What the end of a step leaves of the emission block, and updates of that block that write no register. -/

namespace Sys2Proof.Machine

open Sys2Proof.Laws

/-- Of the emission block the end of a step changes the noted terms and the drive alone. -/
theorem settle_emtOf {α : Type} (g : EmtState → α) (s : State)
    (h : ∀ (e : EmtState) (x : BitVec 8) (d : RowDrive), g { e with terms := x, drive := d } = g e := by intros; rfl) :
    g s.settle.emt = g s.emt := by rw [settle_emt, h]

theorem Kept.emt {s t : State} {keys : List Nat} (h : Kept s t keys) (e : EmtState) : Kept s { t with emt := e } keys :=
  h.of_eq rfl rfl rfl rfl

theorem Kept.sendEcb {s t : State} {keys : List Nat} (h : Kept s t keys) (l : List (BitVec 32)) : Kept s (t.sendEcb l) keys := h.wire _

end Sys2Proof.Machine
end

section
/-! PROOFS. Pattern memory: the shadow window, the request of a swap and the check of the shadow bank (R67, R76 to R78). -/

namespace Sys2Proof.Machine

open Sys2Proof.Laws

/-! ### The shadow window (R76, R78) -/

/-- What word `j` of an entry stores of a word written. -/
def patStored (j : Nat) (v : Word) : Word := if j = 7 then 0 else if j = 6 then v &&& 0xF else v

theorem patStored_toNat (j : Nat) (v : Word) :
    (patStored j v).toNat = if j = 7 then 0 else if j = 6 then v.toNat % 16 else v.toNat := by
  unfold patStored
  split
  · rfl
  · split
    · exact (BitVec.toNat_and v 0xF).trans (Nat.and_two_pow_sub_one_eq_mod v.toNat 4)
    · rfl

/-- Word `w` of the inactive bank stores a word. -/
def State.storePat (s : State) (w : Nat) (v : Word) : State :=
  { s with emt := { s.emt with patterns := tabSet 0 s.emt.patterns (2048 * (1 - s.emt.activeBank) + w) (patStored (w % 8) v) } }

theorem patShadowWrite_stores {s : State} (h : s.flag EMT_PAT_CTRL_PENDING = false) (w : Nat) (v : Word) :
    s.patShadowWrite (EMT_PAT_SHADOW w) v = s.storePat w v := by
  have word : (EMT_PAT_SHADOW w - EMT_PAT_SHADOW 0) / 4 = w := by
    unfold EMT_PAT_SHADOW
    omega
  refine (if_neg (ne_true_of_eq_false h)).trans ?_
  dsimp only
  rw [word]
  rfl

theorem patShadowWrite_pending {s : State} (h : s.flag EMT_PAT_CTRL_PENDING = true) (off : Nat) (v : Word) :
    s.patShadowWrite off v = s.ignoreRaise EV_EMT_CFG_ERROR := if_pos h

theorem shadowWrite_exec {p : Port} {w : BitVec 11} {s : State} (h : Reaches s p (EMT_PAT_SHADOW w.toNat)) (v : Word) :
    exec (.patternShadowWrite p w v) s = .next (s.patShadowWrite (EMT_PAT_SHADOW w.toNat) v).settle := done_unowned h _

theorem shadowWrite_stores {p : Port} {w : BitVec 11} {s : State} (h : Reaches s p (EMT_PAT_SHADOW w.toNat))
    (hp : s.flag EMT_PAT_CTRL_PENDING = false) (v : Word) :
    Gives (.patternShadowWrite p w v) s fun t => t.patWord (1 - s.emt.activeBank) (w.toNat / 8) (w.toNat % 8)
        = (if w.toNat % 8 = 7 then 0 else if w.toNat % 8 = 6 then v.toNat % 16 else v.toNat)
      ∧ (∀ i, i ≠ 2048 * (1 - s.emt.activeBank) + w.toNat → tabGet 0 t.emt.patterns i = tabGet 0 s.emt.patterns i) ∧ Kept s t [] := by
  refine ⟨_, shadowWrite_exec h v, ?_⟩
  rw [patShadowWrite_stores hp]
  have patterns := settle_emtOf EmtState.patterns (s.storePat w.toNat v)
  refine ⟨?_, fun i hi => ?_, ((Kept.refl s []).emt _).settle⟩
  · have place : 2048 * (1 - s.emt.activeBank) + 8 * (w.toNat / 8) + w.toNat % 8 = 2048 * (1 - s.emt.activeBank) + w.toNat := by omega
    rw [State.patWord, patterns, place, ← patStored_toNat]
    exact congrArg BitVec.toNat (tabGet_tabSet_same _ _ _ _)
  · rw [patterns]
    exact tabGet_tabSet_other _ _ _ _ hi

theorem shadowWrite_ignored {p : Port} {w : BitVec 11} {s : State} (h : Reaches s p (EMT_PAT_SHADOW w.toNat))
    (hp : s.flag EMT_PAT_CTRL_PENDING = true) (v : Word) :
    Gives (.patternShadowWrite p w v) s fun t => t.emt.patterns = s.emt.patterns ∧ Logged t EV_EMT_CFG_ERROR ∧ Kept s t [] := by
  refine ⟨_, shadowWrite_exec h v, ?_⟩
  rw [patShadowWrite_pending hp]
  exact ⟨settle_emtOf EmtState.patterns _, ignoreRaise_settles s (by decide)⟩

/-! ### The request of a swap (R77, R78) -/

/-- The word that PATTERN_SWAP_REQUEST writes. -/
def swapWord (sync : BitVec 2) : Word := BitVec.ofNat 32 (2 * sync.toNat + 1)

theorem swapWord_fields : ∀ sync : BitVec 2, (swapWord sync).toNat / 2 % 4 = sync.toNat ∧ (swapWord sync).toNat.testBit 0 = true := by
  decide

/-- A swap of the banks is pending, with its SYNC and from this instant. -/
def State.requestSwap (s : State) (sync : Nat) : State :=
  let t := s.setFld EMT_PAT_CTRL_SYNC sync
  ({ t with emt := { t.emt with swap := some (sync, false, t.now), swapEdge := none } } : State).setFlag EMT_PAT_CTRL_PENDING true

theorem patCtrlWrite_reserved (s : State) : s.patCtrlWrite (swapWord 3) = s.ignoreRaise EV_EMT_CFG_ERROR := rfl

theorem patCtrlWrite_pending {s : State} {sync : BitVec 2} (hs : sync ≠ 3) (h : s.flag EMT_PAT_CTRL_PENDING = true) :
    s.patCtrlWrite (swapWord sync) = s.ignore := by
  obtain ⟨field, swap⟩ := swapWord_fields sync
  have legal : sync.toNat ≠ 3 := fun e => hs (BitVec.eq_of_toNat_eq e)
  unfold State.patCtrlWrite
  rw [field, swap, if_neg legal]
  exact (if_pos h).trans (if_pos rfl)

theorem patCtrlWrite_requests {s : State} {sync : BitVec 2} (hs : sync ≠ 3) (h : s.flag EMT_PAT_CTRL_PENDING = false) :
    s.patCtrlWrite (swapWord sync) = s.requestSwap sync.toNat := by
  obtain ⟨field, swap⟩ := swapWord_fields sync
  have legal : sync.toNat ≠ 3 := fun e => hs (BitVec.eq_of_toNat_eq e)
  unfold State.patCtrlWrite
  rw [field, swap, if_neg legal]
  exact (if_neg (ne_true_of_eq_false h)).trans (if_pos rfl)

theorem swapRequest_exec {p : Port} {s : State} (h : Reaches s p EMT_PAT_CTRL) (sync : BitVec 2) :
    exec (.patternSwapRequest p sync) s = .next (s.patCtrlWrite (swapWord sync)).settle := done_unowned h _

theorem swapRequest_pends {p : Port} {sync : BitVec 2} {s : State} (h : Reaches s p EMT_PAT_CTRL) (hs : sync ≠ 3)
    (hp : s.flag EMT_PAT_CTRL_PENDING = false) :
    Gives (.patternSwapRequest p sync) s fun t => t.emt.swap = some (sync.toNat, false, s.now) ∧ t.flag EMT_PAT_CTRL_PENDING = true
      ∧ t.fld EMT_PAT_CTRL_SYNC = sync.toNat ∧ Kept s t [EMT_PAT_CTRL] := by
  refine ⟨_, swapRequest_exec h sync, ?_⟩
  rw [patCtrlWrite_requests hs hp]
  refine ⟨settle_emtOf EmtState.swap _, ?_, ?_, ?_⟩
  · rw [settle_flag _ (by decide)]
    exact flag_setFlag_same _ _ _ rfl (by decide)
  · rw [settle_fld _ (by decide), State.requestSwap, State.setFlag, fld_setFld_other _ _ _ _ (by decide) (by decide) (by decide)]
    exact (fld_setFld_same s EMT_PAT_CTRL_SYNC _ (by decide) (by decide)).trans (Nat.mod_eq_of_lt sync.isLt)
  · exact ((((Kept.refl s _).setFld (f := EMT_PAT_CTRL_SYNC) _ (List.mem_singleton_self _)).emt _).setFlag (f := EMT_PAT_CTRL_PENDING)
      true (List.mem_singleton_self _)).settle

theorem swapRequest_ignored {p : Port} {sync : BitVec 2} {s : State} (h : Reaches s p EMT_PAT_CTRL) (hs : sync ≠ 3)
    (hp : s.flag EMT_PAT_CTRL_PENDING = true) : Gives (.patternSwapRequest p sync) s fun t => t.emt.swap = s.emt.swap ∧ Kept s t [] := by
  refine ⟨_, swapRequest_exec h sync, ?_⟩
  rw [patCtrlWrite_pending hs hp]
  exact ⟨settle_emtOf EmtState.swap _, (Kept.refl s []).ignore.settle⟩

theorem swapRequest_reserved {p : Port} {s : State} (h : Reaches s p EMT_PAT_CTRL) :
    Gives (.patternSwapRequest p 3) s fun t => t.emt.swap = s.emt.swap ∧ Logged t EV_EMT_CFG_ERROR ∧ Kept s t [] := by
  refine ⟨_, swapRequest_exec h 3, ?_⟩
  rw [patCtrlWrite_reserved]
  exact ⟨settle_emtOf EmtState.swap _, ignoreRaise_settles s (by decide)⟩

/-! ### The check of the shadow bank (R67, R77) -/

/-- The first entry of the inactive bank that is no rectangle. -/
def State.badEntry (s : State) : Option Nat :=
  (List.range 256).find? fun e => !isRectangle (s.patBits (1 - s.emt.activeBank) e)

/-- The requested swap is refused, with the word that shows the entry. -/
def State.refuseSwap (s : State) (w : Nat) : State :=
  let t : State := { s with emt := { s.emt with swap := none } }
  ((t.setFlag EMT_PAT_CTRL_PENDING false).wrN EMT_PAT_ERR w).raise EV_EMT_PATTERN_ERROR

theorem badEntry_first {s : State} {e : Nat} (he : e < 256) (bad : isRectangle (s.patBits (1 - s.emt.activeBank) e) = false)
    (good : ∀ i < e, isRectangle (s.patBits (1 - s.emt.activeBank) i) = true) : s.badEntry = some e :=
  List.find?_range_eq_some.mpr ⟨by simp [bad], by simp [he], fun i hi => by simp [good i hi]⟩

theorem badEntry_none {s : State} (good : ∀ i < 256, isRectangle (s.patBits (1 - s.emt.activeBank) i) = true) : s.badEntry = none :=
  List.find?_eq_none.mpr fun i hi => by simp [good i (List.mem_range.mp hi)]

theorem patternCheckDone_refuses {s : State} {sync at_ e : Nat} (h : s.emt.swap = some (sync, false, at_)) (hb : s.badEntry = some e) :
    s.patternCheckDone = s.refuseSwap (2 ^ 31 + e) := by
  unfold State.badEntry at hb
  unfold State.patternCheckDone
  generalize (List.range 256).find? (fun e => !isRectangle (s.patBits (1 - s.emt.activeBank) e)) = bad at hb ⊢
  rw [h, hb]
  rfl

theorem patternCheckDone_passes {s : State} {sync at_ : Nat} (h : s.emt.swap = some (sync, false, at_)) (hb : s.badEntry = none) :
    s.patternCheckDone = { s with emt := { s.emt with swap := some (sync, true, s.now) } } := by
  unfold State.badEntry at hb
  unfold State.patternCheckDone
  generalize (List.range 256).find? (fun e => !isRectangle (s.patBits (1 - s.emt.activeBank) e)) = bad at hb ⊢
  rw [h, hb]

/-- The refusal writes its word to EMT_PAT_ERR, and no swap is pending. -/
theorem refuseSwap_effect (s : State) (w : Nat) :
    (s.refuseSwap w).rd EMT_PAT_ERR = BitVec.ofNat 32 w ∧ (s.refuseSwap w).flag EMT_PAT_CTRL_PENDING = false := by
  unfold State.refuseSwap
  extract_lets _ t
  refine ⟨?_, ?_⟩
  · rw [rd_raise, rd_wrN, if_pos rfl]
  · have other : ((t.setFlag EMT_PAT_CTRL_PENDING false).wrN EMT_PAT_ERR w).rd EMT_PAT_CTRL
        = (t.setFlag EMT_PAT_CTRL_PENDING false).rd EMT_PAT_CTRL := rd_wr_other _ _ (by decide)
    rw [flag_congr (rd_raise _ _ _), flag_congr (f := EMT_PAT_CTRL_PENDING) other]
    exact flag_setFlag_same t _ _ rfl (by decide)

theorem patternCheck_exec {s : State} (h : s.pwr.emissionInReset = false) :
    exec .patternCheckDone s = .next s.patternCheckDone.settle := done_inEmission h _

theorem patternCheck_refuses {s : State} {sync at_ e : Nat} (h : s.pwr.emissionInReset = false) (hs : s.emt.swap = some (sync, false, at_))
    (he : e < 256) (hb : s.badEntry = some e) :
    Gives .patternCheckDone s fun t => t.rdN EMT_PAT_ERR = 2 ^ 31 + e ∧ t.flag EMT_PAT_CTRL_PENDING = false ∧ t.emt.swap = none
      ∧ Logged t EV_EMT_PATTERN_ERROR ∧ Kept s t [EMT_PAT_ERR, EMT_PAT_CTRL] := by
  refine ⟨_, patternCheck_exec h, ?_⟩
  rw [patternCheckDone_refuses hs hb]
  obtain ⟨err, pending⟩ := refuseSwap_effect s (2 ^ 31 + e)
  refine ⟨?_, ?_, settle_emtOf EmtState.swap _, logged_raise _ (by decide), ?_⟩
  · rw [settle_rdN _ (by decide), State.rdN, err, BitVec.toNat_ofNat]
    exact Nat.mod_eq_of_lt (by omega)
  · rw [settle_flag _ (by decide), pending]
  · exact (((((Kept.refl s _).emt _).setFlag (f := EMT_PAT_CTRL_PENDING) false (by decide)).wrN _ (by decide)).raise _).settle

theorem patternCheck_passes {s : State} {sync at_ : Nat} (h : s.pwr.emissionInReset = false) (hs : s.emt.swap = some (sync, false, at_))
    (hb : s.badEntry = none) :
    Gives .patternCheckDone s fun t => t.emt.swap = some (sync, true, s.now) ∧ Kept s t [] := by
  refine ⟨_, patternCheck_exec h, ?_⟩
  rw [patternCheckDone_passes hs hb]
  exact ⟨settle_emtOf EmtState.swap _, ((Kept.refl s []).emt _).settle⟩

end Sys2Proof.Machine
end

section
/-! PROOFS. The current bus and the energy accountant (R80, R87, R89). -/

namespace Sys2Proof.Machine

open Sys2Proof.Laws

/-! ### The current bus (R80) -/

/-- The codes of the profiles go to the drivers and are read back. -/
def State.sendCodes (s : State) : State :=
  let t : State := { s with emt := { s.emt with codes := s.profileCodes } }
  ((t.sendEcb (profileFrames s.profileCodes)).setFlag EMT_ECB_STATUS_BUSY true).setFlag EMT_ECB_STATUS_VERIFIED false

theorem curCommit_sends {s : State} (hp : s.p87 = false) (hl : s.flag EMT_EYE_CFG_LOCK = false)
    (hb : s.flag EMT_ECB_STATUS_BUSY = false) : s.curCommit = s.sendCodes := by
  unfold State.curCommit
  exact if_neg (by simp [hp, hl, hb])

theorem curCommit_ignored {s : State} (h : s.p87 = true ∨ s.flag EMT_EYE_CFG_LOCK = true ∨ s.flag EMT_ECB_STATUS_BUSY = true) :
    s.curCommit = s.ignoreRaise EV_EMT_CFG_ERROR := by
  unfold State.curCommit
  exact if_pos (by simpa [or_assoc] using h)

theorem curCommit_exec {p : Port} {s : State} (h : Reaches s p EMT_CUR_COMMIT) :
    exec (.currentProfileCommit p) s = .next s.curCommit.settle := done_unowned h _

theorem curCommit_gives {p : Port} {s : State} (h : Reaches s p EMT_CUR_COMMIT) (hp : s.p87 = false)
    (hl : s.flag EMT_EYE_CFG_LOCK = false) (hb : s.flag EMT_ECB_STATUS_BUSY = false) :
    Gives (.currentProfileCommit p) s fun t => t.flag EMT_ECB_STATUS_BUSY = true ∧ t.flag EMT_ECB_STATUS_VERIFIED = false
      ∧ t.emt.codes = s.profileCodes ∧ t.wire = s.wire ++ (profileFrames s.profileCodes).map WireFrame.ecb
      ∧ Kept s t [EMT_ECB_STATUS] := by
  refine ⟨_, curCommit_exec h, ?_⟩
  rw [curCommit_sends hp hl hb]
  refine ⟨?_, ?_, settle_emtOf EmtState.codes _, settle_wire _, ?_⟩
  · rw [settle_flag _ (by decide), State.sendCodes, flag_setFlag_other _ _ _ _ (by decide) (by decide) (by decide)]
    exact flag_setFlag_same _ _ _ rfl (by decide)
  · rw [settle_flag _ (by decide)]
    exact flag_setFlag_same _ _ _ rfl (by decide)
  · exact (((((Kept.refl s _).emt _).sendEcb _).setFlag (f := EMT_ECB_STATUS_BUSY) true (by decide)).setFlag
      (f := EMT_ECB_STATUS_VERIFIED) false (by decide)).settle

/-- The commit is over; flag reads that waited for the bus are sent. -/
def State.freeBus (s : State) : State :=
  let t := s.setFlag EMT_ECB_STATUS_BUSY false
  if t.emt.flagsWaiting then t.sendEcb flagReads else t

theorem curCommitDone_eq {s : State} (h : s.flag EMT_ECB_STATUS_BUSY = true) (codes : List (BitVec 10)) (f : DriverFlags) :
    s.curCommitDone codes f = if codes = s.freeBus.emt.codes
      then (s.freeBus.setFlag EMT_ECB_STATUS_VERIFIED true).setFlag EMT_ECB_STATUS_VERIFY_FAIL false
      else (s.freeBus.setFlag EMT_ECB_STATUS_VERIFY_FAIL true).emitterFault (some 5) false f := by
  unfold State.curCommitDone
  exact if_neg (by simp [h])

theorem freeBus_regs (s : State) : s.freeBus.regs = (s.setFlag EMT_ECB_STATUS_BUSY false).regs := by
  unfold State.freeBus
  dsimp only
  split <;> rfl

theorem freeBus_codes (s : State) : s.freeBus.emt.codes = s.emt.codes := by
  unfold State.freeBus
  dsimp only
  split <;> rfl

theorem freeBus_rd (s : State) (k : Nat) : s.freeBus.rd k = (s.setFlag EMT_ECB_STATUS_BUSY false).rd k := by
  simp only [State.rd, freeBus_regs]

theorem Kept.freeBus (s : State) {keys : List Nat} (h : EMT_ECB_STATUS ∈ keys) : Kept s s.freeBus keys := by
  have idle := (Kept.refl s keys).setFlag (f := EMT_ECB_STATUS_BUSY) false h
  exact .ite (idle.sendEcb _) idle

theorem commitDone_exec {s : State} (h : s.pwr.emissionInReset = false) (codes : List (BitVec 10)) (f : DriverFlags) :
    exec (.currentCommitDone codes f) s = .next (s.curCommitDone codes f).settle := done_inEmission h _

/-- A commit whose readback is what was sent is verified. -/
theorem commitDone_verifies {s : State} (h : s.pwr.emissionInReset = false) (hb : s.flag EMT_ECB_STATUS_BUSY = true) (f : DriverFlags) :
    Gives (.currentCommitDone s.emt.codes f) s fun t => t.flag EMT_ECB_STATUS_BUSY = false ∧ t.flag EMT_ECB_STATUS_VERIFIED = true
      ∧ t.flag EMT_ECB_STATUS_VERIFY_FAIL = false ∧ Kept s t [EMT_ECB_STATUS] := by
  refine ⟨_, commitDone_exec h _ f, ?_⟩
  rw [curCommitDone_eq hb, if_pos (freeBus_codes s).symm]
  refine ⟨?_, ?_, ?_, ?_⟩
  · rw [settle_flag _ (by decide), flag_setFlag_other _ _ _ _ (by decide) (by decide) (by decide),
      flag_setFlag_other _ _ _ _ (by decide) (by decide) (by decide), flag_congr (freeBus_rd s _)]
    exact flag_setFlag_same _ _ _ rfl (by decide)
  · rw [settle_flag _ (by decide), flag_setFlag_other _ _ _ _ (by decide) (by decide) (by decide)]
    exact flag_setFlag_same _ _ _ rfl (by decide)
  · rw [settle_flag _ (by decide)]
    exact flag_setFlag_same _ _ _ rfl (by decide)
  · exact (((Kept.freeBus s (List.mem_singleton_self _)).setFlag (f := EMT_ECB_STATUS_VERIFIED) true (by decide)).setFlag
      (f := EMT_ECB_STATUS_VERIFY_FAIL) false (by decide)).settle

/-! ### The accountant (R87, R89) -/

/-- LOCK is set, the sums are empty and the sub-bins of both windows begin now. -/
def State.lockEye (s : State) : State :=
  let t := s.setFlag EMT_EYE_CFG_LOCK true
  { t with emt := { t.emt with eye := [], eyeEnd := [t.now + t.subBin 0, t.now + t.subBin 1] } }

theorem eyeLock_locks {s : State} (hl : s.flag EMT_EYE_CFG_LOCK = false) (hb : s.flag EMT_ECB_STATUS_BUSY = false)
    (hv : s.flag EMT_ECB_STATUS_VERIFIED = true) : s.eyeLock = s.lockEye.showPeak := by
  unfold State.eyeLock
  rw [if_neg (ne_true_of_eq_false hl)]
  exact if_neg (by simp [hb, hv])

theorem eyeLock_ignored {s : State} (hl : s.flag EMT_EYE_CFG_LOCK = false) (hv : s.flag EMT_ECB_STATUS_VERIFIED = false) :
    s.eyeLock = s.ignoreRaise EV_EMT_CFG_ERROR := by
  unfold State.eyeLock
  rw [if_neg (ne_true_of_eq_false hl)]
  exact if_pos (by simp [hv])

theorem eyeLock_exec {p : Port} {s : State} (h : Reaches s p EMT_EYE_CFG) : exec (.eyeLock p) s = .next s.eyeLock.settle :=
  done_unowned h _

theorem showPeak_rd (s : State) {k : Nat} (h : k ≠ EMT_EYE_PEAK) : s.showPeak.rd k = s.rd k := rd_wr_other s _ h

theorem Kept.showPeak {s t : State} {keys : List Nat} (h : Kept s t keys) (hk : EMT_EYE_PEAK ∈ keys) : Kept s t.showPeak keys :=
  h.setFld (f := EMT_EYE_PEAK_V) _ hk

theorem eyeLock_gives {p : Port} {s : State} (h : Reaches s p EMT_EYE_CFG) (hl : s.flag EMT_EYE_CFG_LOCK = false)
    (hb : s.flag EMT_ECB_STATUS_BUSY = false) (hv : s.flag EMT_ECB_STATUS_VERIFIED = true) :
    Gives (.eyeLock p) s fun t => t.flag EMT_EYE_CFG_LOCK = true ∧ t.emt.eye = [] ∧ Kept s t [EMT_EYE_CFG, EMT_EYE_PEAK] := by
  refine ⟨_, eyeLock_exec h, ?_⟩
  rw [eyeLock_locks hl hb hv]
  refine ⟨?_, settle_emtOf EmtState.eye _, ?_⟩
  · rw [settle_flag _ (by decide), flag_congr (showPeak_rd _ (by decide))]
    exact flag_setFlag_same s EMT_EYE_CFG_LOCK true rfl (by decide)
  · exact (((Kept.refl s _).setFlag (f := EMT_EYE_CFG_LOCK) true (by decide)).emt _ |>.showPeak (by decide)).settle

theorem eyeLock_unverified {p : Port} {s : State} (h : Reaches s p EMT_EYE_CFG) (hl : s.flag EMT_EYE_CFG_LOCK = false)
    (hv : s.flag EMT_ECB_STATUS_VERIFIED = false) :
    Gives (.eyeLock p) s fun t => Logged t EV_EMT_CFG_ERROR ∧ Kept s t [] := by
  refine ⟨_, eyeLock_exec h, ?_⟩
  rw [eyeLock_ignored hl hv]
  exact ignoreRaise_settles s (by decide)

/-- The sub-bin of a window ends at its instant, and the next runs. -/
def State.endSubBin (s : State) (w : Nat) : State := (s.advance (nth 0 s.emt.eyeEnd w)).eyeAdvance w

theorem subBinEnd_exec {s : State} (h : s.pwr.emissionInReset = false) (hl : s.flag EMT_EYE_CFG_LOCK = true) (w : Fin 2) (e : Bool)
    (f : DriverFlags) : exec (.eyeSubBinEnd w e f) s
      = .next (if e then (s.endSubBin w).emitterFault (some 6) false f else s.endSubBin w).settle :=
  (done_inEmission h _).trans (congrArg done (if_neg (by simp [hl])))

/-- The ring of the window moves to an empty bin. -/
theorem endSubBin_emt (s : State) (w : Nat) : let pos := (nth 0 s.emt.eyePos w + 1) % 65
    (s.endSubBin w).emt.eyePos = setNth s.emt.eyePos w pos ∧ (s.endSubBin w).emt.eye = s.emt.eye.filter (fun e => e.1 / 256 ≠ 65 * w + pos)
      ∧ (s.endSubBin w).now = max s.now (nth 0 s.emt.eyeEnd w) := by
  have emt := State.advance_emt s (nth 0 s.emt.eyeEnd w)
  refine ⟨?_, ?_, State.advance_now s _⟩
  · show setNth _ _ _ = _
    rw [emt]
  · show List.filter _ _ = _
    rw [emt]

theorem Kept.endSubBin (s : State) (w : Nat) : Kept s (s.endSubBin w) [EMT_EYE_PEAK] :=
  (((Kept.refl s _).advance _).emt _).showPeak (List.mem_singleton_self _)

theorem subBinEnd_gives {s : State} (h : s.pwr.emissionInReset = false) (hl : s.flag EMT_EYE_CFG_LOCK = true) (w : Fin 2) (f : DriverFlags) :
    let pos := (nth 0 s.emt.eyePos w + 1) % 65
    Gives (.eyeSubBinEnd w false f) s fun t => t.emt.eyePos = setNth s.emt.eyePos w pos
      ∧ (∀ e ∈ t.emt.eye, e.1 / 256 ≠ 65 * w.val + pos) ∧ t.now = max s.now (nth 0 s.emt.eyeEnd w) ∧ Kept s t [EMT_EYE_PEAK] := by
  intro pos
  obtain ⟨place, bins, now⟩ := endSubBin_emt s w
  refine ⟨_, subBinEnd_exec h hl w false f, ?_⟩
  rw [if_neg Bool.false_ne_true]
  refine ⟨(settle_emtOf EmtState.eyePos _).trans place, fun e he => ?_, (settle_now _).trans now, (Kept.endSubBin s w).settle⟩
  rw [settle_emtOf EmtState.eye, bins] at he
  exact of_decide_eq_true (List.mem_filter.mp he).2

/-- Settles O16: each command's own effect, and what the end of its step leaves of it. -/
theorem patternMemoryCommands : Obligations.PatternMemoryCommands := by
  unfold Obligations.PatternMemoryCommands
  exact ⟨⟨fun p w v s h hp => shadowWrite_stores h hp v, fun p w v s h hp => shadowWrite_ignored h hp v,
      fun p sync s h hs hp => swapRequest_pends h hs hp, fun p sync s h hs hp => swapRequest_ignored h hs hp,
      fun p s h => swapRequest_reserved h, fun sync at_ e s h hs he bad good => patternCheck_refuses h hs he (badEntry_first he bad good),
      fun sync at_ s h hs good => patternCheck_passes h hs (badEntry_none good)⟩,
    fun p s h hp hl hb => curCommit_gives h hp hl hb,
    fun p s h hc => ⟨_, curCommit_exec h, by rw [curCommit_ignored hc]; exact ignoreRaise_settles s (by decide)⟩,
    fun f s h hb => commitDone_verifies h hb f, fun p s h hl hb hv => eyeLock_gives h hl hb hv,
    fun p s h hl hv => eyeLock_unverified h hl hv, fun w f s h hl => subBinEnd_gives h hl w f⟩

end Sys2Proof.Machine
end

section
/-! PROOFS. Emitter faults latch with their cause and their emitter (R80, R81, R90, R91). -/

namespace Sys2Proof.Machine

open Sys2Proof.Laws

/-! ### The latch (R91) -/

/-- OPEN and SHORT of EMT_FAULT follow the driver flags; an input with no flag set records both. -/
def State.noteFlags (s : State) (fromInput : Bool) (f : DriverFlags) : State :=
  let t := if anyOpenFlag f || (fromInput && (firstFlag f).isNone) then s.setFlag EMT_FAULT_OPEN true else s
  if anyShortFlag f || (fromInput && (firstFlag f).isNone) then t.setFlag EMT_FAULT_SHORT true else t

/-- The latch with a fault's own cause. -/
def State.latchCause (s : State) (cause : Option Nat) : State :=
  let t := s.setFlag EMT_FAULT_LATCHED true
  match cause with
  | some b => t.setBit EMT_FAULT b true
  | none => t

/-- The first latch: triggers and columns go low, the driver flags are read, and the emitter is recorded. -/
def State.firstLatch (s : State) (f : DriverFlags) : State :=
  ((s.forceLow.sendEcb flagReads).setFld EMT_FAULT_EMITTER ((firstFlag f).getD 0xFF)).raise EV_EMITTER_FAULT

/-- A slot whose triggers have not risen becomes dark, and so does its record. -/
def State.darkenSlot (s : State) : State :=
  match s.sht.flight with
  | some fl =>
    if fl.emitted then s
    else
      let s : State := { s with sht := { s.sht with flight := some { fl with rows := 0 } } }
      { s with hst := { s.hst with posted := s.hst.posted.map (fun (r : ShotRec) =>
                                     if r.slot = fl.slot && r.line = s.rdN GLB_LINE && r.frame = s.rdN GLB_FRAME then { r with rows := 0 } else r) } }
  | none => s

/-- The record of a fault in EMT_FAULT. -/
def State.noteCauses (s : State) (cause : Option Nat) (fromInput : Bool) (f : DriverFlags) : State :=
  (s.latchCause cause).noteFlags fromInput f

theorem emitterFault_eq (s : State) (cause : Option Nat) (i : Bool) (f : DriverFlags) : s.emitterFault cause i f =
    (if s.flag EMT_FAULT_LATCHED then s.noteCauses cause i f else (s.noteCauses cause i f).firstLatch f).darkenSlot := rfl

theorem darkenSlot_regs (s : State) : s.darkenSlot.regs = s.regs := by
  unfold State.darkenSlot
  split
  · split <;> rfl
  · rfl

theorem darkenSlot_raised (s : State) : s.darkenSlot.raised = s.raised := by
  unfold State.darkenSlot
  split
  · split <;> rfl
  · rfl

/-! ### What is recorded (R91) -/

/-- No bit of EMT_FAULT beside its EMITTER is cleared from `s` to `t`. -/
def FaultsStand (s t : State) : Prop := ∀ n, n < 8 ∨ 15 < n → s.bit EMT_FAULT n = true → t.bit EMT_FAULT n = true

theorem FaultsStand.refl (s : State) : FaultsStand s s := fun _ _ h => h

theorem FaultsStand.trans {s t u : State} (h : FaultsStand s t) (g : FaultsStand t u) : FaultsStand s u :=
  fun n hn hs => g n hn (h n hn hs)

theorem FaultsStand.ite {s t u : State} {c : Prop} [Decidable c] (h : FaultsStand s t) (g : FaultsStand s u) :
    FaultsStand s (if c then t else u) := by split <;> assumption

theorem bit_setBit_true (s : State) {n : Nat} (hn : n < 32) : (s.setBit EMT_FAULT n true).bit EMT_FAULT n = true :=
  bit_setBit_same s _ _ _ hn

theorem FaultsStand.setBit (s : State) {n : Nat} (hn : n < 32) : FaultsStand s (s.setBit EMT_FAULT n true) := by
  intro i _ hs
  rw [State.setBit, State.setFlag, bit_setFld s _ _ _ le_rfl hn]
  split
  next h =>
    obtain ⟨-, lo, hi⟩ := h
    rw [show i - n = 0 from Nat.sub_eq_zero_of_le hi]
    rfl
  · exact hs

theorem FaultsStand.noteFlags (s : State) (i : Bool) (f : DriverFlags) : FaultsStand s (s.noteFlags i f) := by
  unfold State.noteFlags
  extract_lets t
  have ht : FaultsStand s t := .ite (.setBit s (n := 0) (by decide)) (.refl s)
  exact .ite (ht.trans (.setBit t (n := 1) (by decide))) ht

theorem FaultsStand.firstLatch (s : State) (f : DriverFlags) : FaultsStand s (s.firstLatch f) := by
  intro n hn hs
  have apart : ¬(EMT_FAULT = EMT_FAULT_EMITTER.reg ∧ EMT_FAULT_EMITTER.lo ≤ n ∧ n ≤ EMT_FAULT_EMITTER.hi) := fun ⟨_, lo, hi⟩ => by
    have lo : 8 ≤ n := lo
    have hi : n ≤ 15 := hi
    omega
  exact (bit_setFld (s.forceLow.sendEcb flagReads) (f := EMT_FAULT_EMITTER) _ EMT_FAULT n (by decide) (by decide)).trans
    ((if_neg apart).trans hs)

/-- After the causes were noted the latch may be announced and a slot darkened, which clears none of them. -/
theorem emitterFault_stands (s : State) (cause : Option Nat) (i : Bool) (f : DriverFlags) :
    FaultsStand (s.noteCauses cause i f) (s.emitterFault cause i f) := by
  rw [emitterFault_eq]
  have h : FaultsStand (s.noteCauses cause i f)
      (if s.flag EMT_FAULT_LATCHED then s.noteCauses cause i f else (s.noteCauses cause i f).firstLatch f) :=
    .ite (.refl _) (.firstLatch _ f)
  exact fun n hn hs => by simpa [State.bit, State.rd, darkenSlot_regs] using h n hn hs

/-- A fault sets LATCHED and its own cause. -/
theorem emitterFault_own (s : State) {cause : Option Nat} (hc : ∀ b ∈ cause, b < 8) (i : Bool) (f : DriverFlags) :
    (s.emitterFault cause i f).flag EMT_FAULT_LATCHED = true ∧ ∀ b ∈ cause, (s.emitterFault cause i f).bit EMT_FAULT b = true := by
  have stands : FaultsStand (s.latchCause cause) (s.emitterFault cause i f) :=
    (FaultsStand.noteFlags _ i f).trans (emitterFault_stands s cause i f)
  have latched : (s.setFlag EMT_FAULT_LATCHED true).bit EMT_FAULT 31 = true := bit_setBit_true s (by decide)
  rw [flag_eq_bit _ rfl]
  cases cause with
  | none => exact ⟨stands 31 (by decide) latched, fun b hb => absurd hb (Option.not_mem_none b)⟩
  | some a =>
    have ha : a < 8 := hc a rfl
    have both := (FaultsStand.setBit (s.setFlag EMT_FAULT_LATCHED true) (n := a) (by omega)).trans stands
    refine ⟨both 31 (by decide) latched, fun b hb => ?_⟩
    obtain rfl : a = b := Option.some.inj hb
    exact stands a (.inl ha) (bit_setBit_true _ (by omega))

/-- EMON_FLT_N with no driver flag set records OPEN and SHORT. -/
theorem emitterFault_input (s : State) (cause : Option Nat) {f : DriverFlags} (hf : firstFlag f = none) :
    (s.emitterFault cause true f).bit EMT_FAULT 0 = true ∧ (s.emitterFault cause true f).bit EMT_FAULT 1 = true := by
  have stands := emitterFault_stands s cause true f
  have noted : s.noteCauses cause true f = ((s.latchCause cause).setFlag EMT_FAULT_OPEN true).setFlag EMT_FAULT_SHORT true := by
    simp [State.noteCauses, State.noteFlags, hf]
  rw [noted] at stands
  refine ⟨stands 0 (by decide) ?_, stands 1 (by decide) (bit_setBit_true _ (by decide))⟩
  exact FaultsStand.setBit _ (n := 1) (by decide) 0 (by decide) (bit_setBit_true _ (by decide))

theorem firstFlag_lt (f : DriverFlags) : (firstFlag f).getD 0xFF < 256 := by
  cases h : firstFlag f with
  | none => exact (by decide : 255 < 256)
  | some e =>
    have he : e < 192 := List.mem_range.mp (List.mem_of_find?_eq_some h)
    show e < 256
    omega

/-- The first latch records the emitter and raises EMITTER_FAULT. -/
theorem emitterFault_first {s : State} (h : s.flag EMT_FAULT_LATCHED = false) (cause : Option Nat) (i : Bool) (f : DriverFlags) :
    (s.emitterFault cause i f).fld EMT_FAULT_EMITTER = (firstFlag f).getD 0xFF
      ∧ ⟨EV_EMITTER_FAULT, none⟩ ∈ (s.emitterFault cause i f).raised := by
  rw [emitterFault_eq, h, if_neg Bool.false_ne_true]
  refine ⟨?_, by rw [darkenSlot_raised]; exact mem_raised _ _⟩
  have same (t : State) : t.darkenSlot.rd EMT_FAULT = t.rd EMT_FAULT := by simp only [State.rd, darkenSlot_regs]
  rw [fld_congr (same _)]
  exact (fld_setFld_same _ EMT_FAULT_EMITTER _ (by decide) (by decide)).trans (Nat.mod_eq_of_lt (firstFlag_lt f))

/-- What a fault leaves beside EMT_FAULT, the drive and the slot in flight. -/
def faultFrame (s : State) : Nat × EmtState := (s.now, { s.emt with drive := EmtState.init.drive })

theorem faultFrame_setFld (s : State) (f : Fld) (v : Nat) : faultFrame (s.setFld f v) = faultFrame s := rfl

theorem faultFrame_ite {s t u : State} {c : Prop} [Decidable c] (h : faultFrame t = faultFrame s) (g : faultFrame u = faultFrame s) :
    faultFrame (if c then t else u) = faultFrame s := by split <;> assumption

theorem latchCause_frame (s : State) (cause : Option Nat) : faultFrame (s.latchCause cause) = faultFrame s := by
  have latch : faultFrame (s.setFlag EMT_FAULT_LATCHED true) = faultFrame s := faultFrame_setFld s EMT_FAULT_LATCHED (b2n true)
  cases cause with
  | none => exact latch
  | some b => exact (faultFrame_setFld _ ⟨EMT_FAULT, b, b⟩ (b2n true)).trans latch

theorem noteFlags_frame (s : State) (i : Bool) (f : DriverFlags) : faultFrame (s.noteFlags i f) = faultFrame s := by
  unfold State.noteFlags
  extract_lets t
  have ht : faultFrame t = faultFrame s := faultFrame_ite (faultFrame_setFld s EMT_FAULT_OPEN (b2n true)) rfl
  exact faultFrame_ite ((faultFrame_setFld t EMT_FAULT_SHORT (b2n true)).trans ht) ht

theorem firstLatch_frame (s : State) (f : DriverFlags) : faultFrame (s.firstLatch f) = faultFrame s := rfl

theorem darkenSlot_frame (s : State) : faultFrame s.darkenSlot = faultFrame s := by
  unfold State.darkenSlot
  split
  · split <;> rfl
  · rfl

theorem emitterFault_frame (s : State) (cause : Option Nat) (i : Bool) (f : DriverFlags) :
    faultFrame (s.emitterFault cause i f) = faultFrame s := by
  have noted : faultFrame (s.noteCauses cause i f) = faultFrame s := (noteFlags_frame _ i f).trans (latchCause_frame s cause)
  rw [emitterFault_eq, darkenSlot_frame]
  exact faultFrame_ite noted ((firstLatch_frame _ f).trans noted)

theorem emitterFault_now (s : State) (cause : Option Nat) (i : Bool) (f : DriverFlags) : (s.emitterFault cause i f).now = s.now :=
  congrArg Prod.fst (emitterFault_frame s cause i f)

/-- A fault changes of the emission block the drive alone. -/
theorem emitterFault_emt {α : Type} (g : EmtState → α) (s : State) (cause : Option Nat) (i : Bool) (f : DriverFlags)
    (h : ∀ (e : EmtState) (d : RowDrive), g { e with drive := d } = g e := by intros; rfl) : g (s.emitterFault cause i f).emt = g s.emt := by
  have frame := congrArg (fun x => g x.2) (emitterFault_frame s cause i f)
  simpa only [faultFrame, h] using frame

/-! ### The commands that latch (R80, R81, R90, R91) -/

/-- The command latches a fault with the causes listed; the first latch records the emitter. -/
def LatchesFault (c : Instr) (s : State) (f : DriverFlags) (causes : List Nat) : Prop := Gives c s fun t =>
  t.flag EMT_FAULT_LATCHED = true ∧ (∀ b ∈ causes, t.bit EMT_FAULT b = true)
    ∧ (s.flag EMT_FAULT_LATCHED = false → t.fld EMT_FAULT_EMITTER = (firstFlag f).getD 0xFF ∧ Logged t EV_EMITTER_FAULT)

/-- A command whose effect ends in an emitter fault, with the latch before it as it was, latches that fault. -/
theorem latchesFault_of {c : Instr} {s u : State} {cause : Option Nat} {i : Bool} {f : DriverFlags} {causes : List Nat}
    (run : exec c s = .next (u.emitterFault cause i f).settle) (was : u.rd EMT_FAULT = s.rd EMT_FAULT) (hc : ∀ b ∈ cause, b < 8)
    (listed : ∀ b ∈ causes, (u.emitterFault cause i f).bit EMT_FAULT b = true) : LatchesFault c s f causes := by
  have key : settleKey EMT_FAULT = false := by decide
  refine ⟨_, run, ?_, fun b hb => (bit_congr (settle_rd _ key) b).trans (listed b hb), fun h => ?_⟩
  · rw [settle_flag _ key]
    exact (emitterFault_own u hc i f).1
  · obtain ⟨emitter, raised⟩ := emitterFault_first ((flag_congr (f := EMT_FAULT_LATCHED) was).trans h) cause i f
    exact ⟨by rw [settle_fld _ key, emitter], logged_settle (r := ⟨EV_EMITTER_FAULT, none⟩) raised (by decide)⟩

/-- A fault with one cause of its own. -/
theorem latchesFault_cause {c : Instr} {s u : State} {b : Nat} {f : DriverFlags} (hb : b < 8)
    (run : exec c s = .next (u.emitterFault (some b) false f).settle) (was : u.rd EMT_FAULT = s.rd EMT_FAULT) : LatchesFault c s f [b] := by
  have small : ∀ a ∈ some b, a < 8 := fun a ha => by
    obtain rfl : b = a := Option.some.inj ha
    exact hb
  refine latchesFault_of run was small fun a ha => ?_
  rw [List.mem_singleton.mp ha]
  exact (emitterFault_own u small false f).2 b rfl

/-- A pulse that begins at `t` meets an expected window of a firing. -/
def State.pulseMeets (s : State) (t : Nat) (e : Nat × Bool) : Bool :=
  decide (e.1 + 256 * s.fld EMT_MON_CFG_DLY_MIN ≤ t) && decide (t ≤ e.1 + 256 * s.fld EMT_MON_CFG_DLY_MAX)

/-- The firings that a pulse at `t` meets have had theirs. -/
def State.matchPulse (s : State) (t : Nat) : State :=
  { s with emt := { s.emt with expected := s.emt.expected.map fun e => if s.pulseMeets t e then (e.1, true) else e } }

theorem monitorPulse_exec {s : State} (h : s.pwr.emissionInReset = false) (t : Nat) (f : DriverFlags) :
    exec (.monitorPulse t f) s = .next (let u := s.advance t
      if u.emt.expected.any (u.pulseMeets t) then u.matchPulse t else u.emitterFault (some 4) false f).settle := done_inEmission h _

theorem pulseMeets_advance (s : State) (t : Nat) : (s.advance t).pulseMeets t = s.pulseMeets t := by
  funext e
  simp only [State.pulseMeets, fld_advance]

theorem monitorPulse_latches {s : State} {t : Nat} (h : s.pwr.emissionInReset = false)
    (out : ∀ e ∈ s.emt.expected, ¬(e.1 + 256 * s.fld EMT_MON_CFG_DLY_MIN ≤ t ∧ t ≤ e.1 + 256 * s.fld EMT_MON_CFG_DLY_MAX))
    (f : DriverFlags) : LatchesFault (.monitorPulse t f) s f [4] := by
  have none_ : ¬ (s.advance t).emt.expected.any ((s.advance t).pulseMeets t) = true := by
    rw [State.advance_emt, pulseMeets_advance, List.any_eq_true]
    rintro ⟨e, he, hm⟩
    exact out e he (by simpa [State.pulseMeets] using hm)
  exact latchesFault_cause (by decide) ((monitorPulse_exec h t f).trans (congrArg done (if_neg none_))) (rd_advance s t _)

theorem monitorPulse_matches {s : State} {t e : Nat} {b : Bool} (h : s.pwr.emissionInReset = false) (he : s.emt.expected = [(e, b)])
    (lo : e + 256 * s.fld EMT_MON_CFG_DLY_MIN ≤ t) (hi : t ≤ e + 256 * s.fld EMT_MON_CFG_DLY_MAX) (f : DriverFlags) :
    Gives (.monitorPulse t f) s fun u => u.emt.expected = [(e, true)] ∧ Kept s u [] := by
  have meets : (s.advance t).pulseMeets t (e, b) = true := by
    rw [pulseMeets_advance, State.pulseMeets, decide_eq_true lo, decide_eq_true hi]
    rfl
  have any : (s.advance t).emt.expected.any ((s.advance t).pulseMeets t) = true := by simp [he, meets]
  refine ⟨_, (monitorPulse_exec h t f).trans (congrArg done (if_pos any)), ?_, (((Kept.refl s []).advance t).emt _).settle⟩
  refine (settle_emtOf EmtState.expected _).trans ?_
  show (s.advance t).emt.expected.map _ = _
  simp [he, meets]

/-- The oldest firing that waits for its pulse has waited DLY_MAX. -/
def State.missPulse (s : State) (e : Nat × Bool) : State :=
  let t := s.advance (e.1 + 256 * s.fld EMT_MON_CFG_DLY_MAX)
  { t with emt := { t.emt with expected := t.emt.expected.erase e } }

theorem pulseMissing_exec {s : State} {e : Nat × Bool} (h : s.pwr.emissionInReset = false)
    (he : s.emt.expected.find? (fun x => !x.2) = some e) (f : DriverFlags) :
    exec (.monitorPulseMissing f) s = .next ((s.missPulse e).emitterFault (some 2) false f).settle := by
  refine (done_inEmission h _).trans ?_
  rw [he]
  rfl

theorem pulseMissing_latches {s : State} {e : Nat} (h : s.pwr.emissionInReset = false)
    (he : s.emt.expected.find? (fun x => !x.2) = some (e, false)) (f : DriverFlags) :
    LatchesFault (.monitorPulseMissing f) s f [2] ∧ Does (.monitorPulseMissing f) s fun u =>
      u.now = max s.now (e + 256 * s.fld EMT_MON_CFG_DLY_MAX) ∧ u.emt.expected = s.emt.expected.erase (e, false) := by
  have run := pulseMissing_exec h he f
  refine ⟨latchesFault_cause (by decide) run (rd_advance s _ _), _, run, ?_, ?_⟩
  · rw [emitterFault_now]
    exact State.advance_now s _
  · rw [emitterFault_emt EmtState.expected]
    show (s.advance _).emt.expected.erase _ = _
    rw [State.advance_emt]

theorem pulseExcess_latches {s : State} {tot : Nat} (h : s.pwr.emissionInReset = false) (ht : s.fld EMT_MON_CFG_TOT_MAX < tot)
    (f : DriverFlags) : LatchesFault (.monitorPulseExcess tot f) s f [3] :=
  latchesFault_cause (by decide) ((done_inEmission h _).trans (congrArg done (if_pos ht))) rfl

theorem commitDone_latches {s : State} {codes : List (BitVec 10)} (h : s.pwr.emissionInReset = false)
    (hb : s.flag EMT_ECB_STATUS_BUSY = true) (hc : codes ≠ s.emt.codes) (f : DriverFlags) :
    LatchesFault (.currentCommitDone codes f) s f [5] := by
  have run := commitDone_exec h codes f
  rw [curCommitDone_eq hb, freeBus_codes, if_neg hc] at run
  refine latchesFault_cause (by decide) run ?_
  rw [rd_setFlag, if_neg (by decide), freeBus_rd, rd_setFlag, if_neg (by decide)]

theorem subBinEnd_latches {s : State} (h : s.pwr.emissionInReset = false) (hl : s.flag EMT_EYE_CFG_LOCK = true) (w : Fin 2)
    (f : DriverFlags) : LatchesFault (.eyeSubBinEnd w true f) s f [6] := by
  obtain ⟨kept, -⟩ := Kept.endSubBin s w
  exact latchesFault_cause (by decide) (subBinEnd_exec h hl w true f) (kept EMT_FAULT (by decide) (by decide))

/-- EMON_FLT_N is seen low. -/
def State.emonFalls (s : State) : State := { s with emt := { s.emt with emonLow := true } }

theorem emonInput_exec {s : State} (h : s.pwr.emissionInReset = false) (f : DriverFlags) :
    exec (.emonFaultInput f) s = .next (s.emonFalls.emitterFault none true f).settle := done_inEmission (s := s.emonFalls) h _

theorem emonInput_latches {s : State} (h : s.pwr.emissionInReset = false) (f : DriverFlags) :
    LatchesFault (.emonFaultInput f) s f (if firstFlag f = none then [0, 1] else [])
      ∧ Does (.emonFaultInput f) s fun u => u.emt.emonLow = true := by
  refine ⟨latchesFault_of (emonInput_exec h f) rfl (fun b hb => absurd hb (Option.not_mem_none b)) fun b hb => ?_,
    _, emonInput_exec h f, emitterFault_emt EmtState.emonLow _ _ _ _⟩
  split at hb
  next hf =>
    obtain ⟨open_, short⟩ := emitterFault_input s.emonFalls none hf
    obtain rfl | rfl : b = 0 ∨ b = 1 := by simpa using hb
    · exact open_
    · exact short
  · exact absurd hb List.not_mem_nil

/-- The flags that a frame start asked for have been read. -/
def State.flagsRead (s : State) : State := { s with emt := { s.emt with flagsWaiting := false } }

theorem flagsReadDone_exec {s : State} (h : s.pwr.emissionInReset = false) (hw : s.emt.flagsWaiting = true)
    (hb : s.flag EMT_ECB_STATUS_BUSY = false) (f : DriverFlags) :
    exec (.driverFlagsReadDone f) s
      = .next (if (firstFlag f).isSome then s.flagsRead.emitterFault none false f else s.flagsRead).settle :=
  (done_inEmission h _).trans (congrArg done (if_neg (by simp [hw, hb])))

theorem flagsRead_latches {s : State} {f : DriverFlags} (h : s.pwr.emissionInReset = false) (hw : s.emt.flagsWaiting = true)
    (hb : s.flag EMT_ECB_STATUS_BUSY = false) (hf : firstFlag f ≠ none) : LatchesFault (.driverFlagsReadDone f) s f [] :=
  latchesFault_of ((flagsReadDone_exec h hw hb f).trans (congrArg done (if_pos (Option.isSome_iff_ne_none.mpr hf)))) rfl
    (fun a ha => absurd ha (Option.not_mem_none a)) fun _ ha => absurd ha List.not_mem_nil

theorem flagsRead_clear {s : State} {f : DriverFlags} (h : s.pwr.emissionInReset = false) (hw : s.emt.flagsWaiting = true)
    (hb : s.flag EMT_ECB_STATUS_BUSY = false) (hf : firstFlag f = none) :
    Gives (.driverFlagsReadDone f) s fun t => t.emt.flagsWaiting = false ∧ Kept s t [] :=
  ⟨_, (flagsReadDone_exec h hw hb f).trans (congrArg done (if_neg (by simp [hf]))), settle_emtOf EmtState.flagsWaiting _,
    ((Kept.refl s []).emt _).settle⟩

end Sys2Proof.Machine
end

section
/-! PROOFS. The re-arm of the emission block after a fault (R92). -/

namespace Sys2Proof.Machine

open Sys2Proof.Laws

/-- A write of 0x5A in time takes the checks: the sequence is over, EMON_FLT_N is seen, and the drivers are read. -/
def State.rearmChecks (s : State) (c : RearmChecks) : State :=
  let t : State := { s with emt := { s.emt with rearmAt := none } }
  let u : State := { t with emt := { t.emt with emonLow := !c.emonHigh } }
  u.sendEcb ((List.range 16).map (fun r => ecbFrame false r 0x102 1) ++ flagReads
    ++ (if s.flag EMT_FAULT_CUR_VERIFY then profileReads else []))

/-- The checks of a re-arm pass. -/
def State.rearmPasses (s : State) (c : RearmChecks) : Bool :=
  c.emonHigh && (firstFlag c.flags).isNone && (!s.flag EMT_FAULT_CUR_VERIFY || c.codes = s.emt.codes)
    && (!s.flag EMT_FAULT_EYE_PARITY || c.parityOk)

/-- The latch and every cause are cleared. -/
def State.clearFaults (s : State) : State := (s.setFlag EMT_FAULT_LATCHED false).setFld ⟨EMT_FAULT, 6, 0⟩ 0

theorem rearmWrite_starts (s : State) (c : RearmChecks) : s.rearmWrite 0xA5 c = { s with emt := { s.emt with rearmAt := some s.now } } := rfl

theorem rearmWrite_checks {s : State} {t0 : Nat} (hr : s.emt.rearmAt = some t0) (ht : s.now ≤ t0 + 256000000)
    (hl : s.flag EMT_FAULT_LATCHED = true) (c : RearmChecks) : s.rearmWrite 0x5A c =
      if s.rearmPasses c then (s.rearmChecks c).clearFaults else (s.rearmChecks c).ignoreRaise EV_EMT_REARM_REFUSED := by
  have timely : (decide ((0x5A : Nat) = 0x5A) && decide (s.now ≤ t0 + 256000000) && s.flag EMT_FAULT_LATCHED) = true := by
    rw [decide_eq_true ht, hl]
    rfl
  have passes : s.rearmPasses c = (!(!c.emonHigh) && (firstFlag c.flags).isNone
      && (!s.flag EMT_FAULT_CUR_VERIFY || decide (c.codes = s.emt.codes)) && (!s.flag EMT_FAULT_EYE_PARITY || c.parityOk)) := by
    rw [Bool.not_not]
    rfl
  unfold State.rearmWrite
  rw [hr, if_neg (by decide), passes]
  exact if_pos timely

theorem rearm_exec {p : Port} {s : State} (h : Reaches s p EMT_REARM) (v : BitVec 8) (c : RearmChecks) :
    exec (.rearmWrite p v c) s = .next (s.rearmWrite v.toNat c).settle := done_unowned h _

theorem rearm_starts {p : Port} {s : State} (h : Reaches s p EMT_REARM) (c : RearmChecks) :
    Gives (.rearmWrite p 0xA5 c) s fun t => t.emt.rearmAt = some s.now ∧ Kept s t [] := by
  refine ⟨_, rearm_exec h 0xA5 c, ?_⟩
  rw [show (0xA5 : BitVec 8).toNat = 0xA5 from rfl, rearmWrite_starts]
  exact ⟨settle_emtOf EmtState.rearmAt _, ((Kept.refl s []).emt _).settle⟩

theorem Kept.rearmChecks (s : State) (c : RearmChecks) (keys : List Nat) : Kept s (s.rearmChecks c) keys :=
  (((Kept.refl s keys).emt _).emt _).sendEcb _

theorem rearm_clears {p : Port} {s : State} {t0 : Nat} {c : RearmChecks} (h : Reaches s p EMT_REARM) (hr : s.emt.rearmAt = some t0)
    (ht : s.now ≤ t0 + 256000000) (hl : s.flag EMT_FAULT_LATCHED = true) (hc : s.rearmPasses c = true) :
    Gives (.rearmWrite p 0x5A c) s fun t => t.flag EMT_FAULT_LATCHED = false ∧ t.fld ⟨EMT_FAULT, 6, 0⟩ = 0
      ∧ t.emt.rearmAt = none ∧ Kept s t [EMT_FAULT] := by
  refine ⟨_, rearm_exec h 0x5A c, ?_⟩
  rw [show (0x5A : BitVec 8).toNat = 0x5A from rfl, rearmWrite_checks hr ht hl, if_pos hc]
  refine ⟨?_, ?_, settle_emtOf EmtState.rearmAt _, ?_⟩
  · rw [settle_flag _ (by decide), State.flag, State.clearFaults, fld_setFld_other _ _ _ _ (by decide) (by decide) (by decide)]
    exact flag_setFlag_same _ EMT_FAULT_LATCHED false rfl (by decide)
  · rw [settle_fld _ (by decide)]
    exact fld_setFld_same _ ⟨EMT_FAULT, 6, 0⟩ 0 (by decide) (by decide)
  · exact (((Kept.rearmChecks s c _).setFlag (f := EMT_FAULT_LATCHED) false (by decide)).setFld (f := ⟨EMT_FAULT, 6, 0⟩) 0 (by decide)).settle

theorem rearm_refused {p : Port} {s : State} {t0 : Nat} {c : RearmChecks} (h : Reaches s p EMT_REARM) (hr : s.emt.rearmAt = some t0)
    (ht : s.now ≤ t0 + 256000000) (hl : s.flag EMT_FAULT_LATCHED = true) (hc : s.rearmPasses c = false) :
    Gives (.rearmWrite p 0x5A c) s fun t => Logged t EV_EMT_REARM_REFUSED ∧ t.emt.rearmAt = none ∧ Kept s t [] := by
  refine ⟨_, rearm_exec h 0x5A c, ?_⟩
  rw [show (0x5A : BitVec 8).toNat = 0x5A from rfl, rearmWrite_checks hr ht hl, if_neg (ne_true_of_eq_false hc)]
  obtain ⟨logged, -⟩ := ignoreRaise_settles (s.rearmChecks c) (ev := EV_EMT_REARM_REFUSED) (by decide)
  exact ⟨logged, settle_emtOf EmtState.rearmAt _, ((Kept.rearmChecks s c []).ignore.raise _).settle⟩

/-- Settles O17: every cause runs into `emitterFault`, and a re-arm in time is decided by its checks. -/
theorem emitterFaultsLatch : Obligations.EmitterFaultsLatch := by
  unfold Obligations.EmitterFaultsLatch
  refine ⟨⟨fun t f s h out => monitorPulse_latches h out f, fun e f s h he => pulseMissing_latches h he f,
    fun tot f s h ht => pulseExcess_latches h ht f, fun codes f s h hb hc => commitDone_latches h hb hc f,
    fun w f s h hl => subBinEnd_latches h hl w f, fun f s h => emonInput_latches h f,
    fun f s h hw hb hf => flagsRead_latches h hw hb hf, fun f s h hw hb hf => flagsRead_clear h hw hb hf,
    fun t e b f s h he lo hi => monitorPulse_matches h he lo hi f⟩,
    fun p c s h => rearm_starts h c, fun p t0 c s h hr ht hl high flags codes parity => rearm_clears h hr ht hl ?_,
    fun p t0 c s h hr ht hl low => rearm_refused h hr ht hl ?_⟩
  · simp [State.rearmPasses, high, flags, codes, parity]
  · simp [State.rearmPasses, low]

end Sys2Proof.Machine
end

section
/-! PROOFS. A flood lamp's exclusion and its clearing (R96, R98). -/

namespace Sys2Proof.Machine

open Sys2Proof.Laws

/-! ### Exclusion (R96) -/

theorem bit_setBit_other (s : State) {j k n i : Nat} (b : Bool) (hn : n < 32) (h : j ≠ k ∨ i ≠ n) : (s.setBit k n b).bit j i = s.bit j i := by
  rw [State.setBit, State.setFlag, bit_setFld s _ _ _ le_rfl hn, if_neg]
  rintro ⟨key, lo, hi⟩
  exact h.elim (fun hk => hk key) fun hb => hb (Nat.le_antisymm hi lo)

/-- The registers of the lamps lie apart. -/
theorem lamp_keys : ∀ m : Fin 8, settleKey (FLD_FAULT m) = false ∧ settleKey (FLD_DENSITY m) = false ∧ FLD_FAULT m ≠ CTL_STATUS
    ∧ FLD_FAULT m ≠ FLD_STATUS ∧ FLD_FAULT m ≠ CTL_FL_CLOSE := by decide +kernel

theorem showLamps_rd (s : State) {k : Nat} (h : k ≠ CTL_STATUS) : s.showLamps.rd k = s.rd k :=
  (rd_wr_other _ _ h).trans (rd_wr_other s _ h)

/-- A lamp's loop that opens writes its two bits, and what CTL_STATUS shows of the lamps. -/
theorem openLamp_rd (s : State) (m : Nat) {k : Nat} (h : k ≠ CTL_STATUS) :
    (s.openLamp m).rd k = ((s.setBit CTL_FL_CLOSE m false).setBit FLD_STATUS m false).rd k := showLamps_rd _ h

/-- The lamp is marked excluded, and its loop opens. -/
def State.markOut (s : State) (m : Nat) : State := (s.setBit FLD_STATUS (8 + m) true).openLamp m

theorem markOut_bits (s : State) {m : Nat} (hm : m < 8) : (s.markOut m).bit FLD_STATUS (8 + m) = true
    ∧ (s.markOut m).bit FLD_STATUS m = false ∧ (s.markOut m).bit CTL_FL_CLOSE m = false := by
  unfold State.markOut
  have other : CTL_FL_CLOSE ≠ FLD_STATUS := by decide
  rw [bit_congr (openLamp_rd _ m (by decide)), bit_congr (openLamp_rd _ m (by decide)), bit_congr (openLamp_rd _ m (by decide))]
  refine ⟨?_, bit_setBit_same _ _ _ _ (by omega), ?_⟩
  · rw [bit_setBit_other _ _ (by omega) (.inr (by omega)), bit_setBit_other _ _ (by omega) (.inl other.symm)]
    exact bit_setBit_same s _ _ _ (by omega)
  · rw [bit_setBit_other _ _ (by omega) (.inl other)]
    exact bit_setBit_same _ _ _ _ (by omega)

/-- The cause of an exclusion and the neighbour are recorded. -/
def State.recordCause (s : State) (m cause nb : Nat) : State := (s.setBit (FLD_FAULT m) cause true).setFld (FLD_FAULT_NEIGHBOUR m) nb

theorem recordCause_bit (s : State) (m nb : Nat) {cause : Nat} (hc : cause < 4) : (s.recordCause m cause nb).bit (FLD_FAULT m) cause = true := by
  have apart : ¬(FLD_FAULT m = (FLD_FAULT_NEIGHBOUR m).reg ∧ (FLD_FAULT_NEIGHBOUR m).lo ≤ cause ∧ cause ≤ (FLD_FAULT_NEIGHBOUR m).hi) :=
    fun ⟨_, lo, _⟩ => Nat.not_lt.mpr lo hc
  rw [State.recordCause, bit_setFld _ _ _ _ (show 4 ≤ 6 by decide) (show 6 < 32 by decide), if_neg apart]
  exact bit_setBit_same s _ _ _ (by omega)

theorem recordCause_rd (s : State) (m cause nb : Nat) {k : Nat} (h : k ≠ FLD_FAULT m) : (s.recordCause m cause nb).rd k = s.rd k :=
  (rd_wr_other _ _ h).trans (rd_wr_other s _ h)

/-- The end of an exclusion: the lamp's runs start anew, and the event is raised. -/
def State.raiseLamp (s : State) (m : Nat) : State :=
  ({ s with flood := { s.flood with openRun := tabSet 0 s.flood.openRun m 0, stuckRun := tabSet 0 s.flood.stuckRun m 0 } } : State).raise
    EV_FLD_LAMP_FAULT

theorem excludeLamp_eq (s : State) (m cause nb : Nat) : s.excludeLamp m cause nb = ((s.markOut m).recordCause m cause nb).raiseLamp m := rfl

theorem raiseLamp_rd (s : State) (m k : Nat) : (s.raiseLamp m).rd k = s.rd k := rfl

/-- A lamp shows excluded, with its loop open and the cause recorded, and the event is logged. -/
def LampOut (t : State) (m : Fin 8) (cause : Nat) : Prop := t.bit FLD_STATUS (8 + m) = true ∧ t.bit FLD_STATUS m = false
  ∧ t.bit CTL_FL_CLOSE m = false ∧ t.bit (FLD_FAULT m) cause = true ∧ Logged t EV_FLD_LAMP_FAULT

theorem excludeLamp_out (s : State) (m : Fin 8) {cause : Nat} (nb : Nat) (hc : cause < 4) :
    LampOut (s.excludeLamp m cause nb).settle m cause := by
  rw [excludeLamp_eq]
  have raised : ⟨EV_FLD_LAMP_FAULT, none⟩ ∈ (((s.markOut m).recordCause m cause nb).raiseLamp m).raised := mem_raised _ _
  obtain ⟨out, active, closed⟩ := markOut_bits s m.isLt
  obtain ⟨key, -, -, status, close⟩ := lamp_keys m
  have kept {k : Nat} (hk : k ≠ FLD_FAULT m) (hs : settleKey k = false) :
      (((s.markOut m).recordCause m cause nb).raiseLamp m).settle.rd k = (s.markOut m).rd k :=
    (settle_rd _ hs).trans ((raiseLamp_rd _ m _).trans (recordCause_rd _ _ _ _ hk))
  refine ⟨?_, ?_, ?_, ?_, logged_settle (r := ⟨EV_FLD_LAMP_FAULT, none⟩) raised (by decide)⟩
  · rw [bit_congr (kept status.symm (by decide)), out]
  · rw [bit_congr (kept status.symm (by decide)), active]
  · rw [bit_congr (kept close.symm (by decide)), closed]
  · rw [bit_congr (settle_rd _ key), bit_congr (raiseLamp_rd _ _ _)]
    exact recordCause_bit _ m nb hc

/-! ### The clear (R98) -/

/-- The exclusion of a lamp ends, and its causes are cleared. -/
def State.clearLamp (s : State) (m : Nat) : State := (s.setBit FLD_STATUS (8 + m) false).wrN (FLD_FAULT m) 0

/-- What a clear touches of lamp `m`. -/
def lampRecord (m : Nat) (s : State) : Bool × Word := (s.bit FLD_STATUS (8 + m), s.rd (FLD_FAULT m))

theorem status_ne_fault (m : Nat) : FLD_STATUS ≠ FLD_FAULT m := by
  unfold FLD_STATUS FLD_FAULT
  omega

theorem clearLamp_own (s : State) {m : Nat} (hm : m < 8) : lampRecord m (s.clearLamp m) = (false, 0) := by
  refine Prod.ext ?_ (rd_wr_same _ _ _)
  show (State.wrN _ _ _).bit _ _ = _
  rw [State.wrN, bit_congr (rd_wr_other _ _ (status_ne_fault m))]
  exact bit_setBit_same s _ _ _ (by omega)

theorem clearLamp_other (s : State) {i m : Nat} (hi : i < 8) (h : i ≠ m) : lampRecord m (s.clearLamp i) = lampRecord m s := by
  have fault : FLD_FAULT m ≠ FLD_FAULT i := by
    unfold FLD_FAULT
    omega
  refine Prod.ext ?_ ((rd_wr_other _ _ fault).trans (rd_wr_other s _ (status_ne_fault m).symm))
  show (State.wrN _ _ _).bit _ _ = _
  rw [State.wrN, bit_congr (rd_wr_other _ _ (status_ne_fault i))]
  exact bit_setBit_other s _ (by omega) (.inr (by omega))

/-- A clear ends the exclusion of the lamps named, and leaves the others' as they are. -/
theorem floodClear_record (s : State) (v : Word) {m : Nat} (hm : m < 8) :
    lampRecord m (s.floodClear v) = if v.toNat.testBit m then (false, 0) else lampRecord m s := by
  have other (i : Nat) (hi : i < 8) (h : i ≠ m) (t : State) :
      lampRecord m (if v.toNat.testBit i then t.clearLamp i else t) = lampRecord m t := by
    split
    · exact clearLamp_other t hi h
    · rfl
  refine (loop_turn (lampRecord m) (f := fun i t => if v.toNat.testBit i then t.clearLamp i else t) s hm other).trans ?_
  split
  · exact clearLamp_own _ hm
  · exact loop_keeps (lampRecord m) m s fun i hi => other i (by omega) (by omega)

theorem lampClear_gives {p : Port} {s : State} (h : Reaches s p FLD_CLEAR) (lamps : BitVec 8) :
    Gives (.floodLampClear p lamps) s fun t => ∀ m < 8,
      (lamps.getLsbD m = true → t.bit FLD_STATUS (8 + m) = false ∧ t.rd (FLD_FAULT m) = 0)
        ∧ (lamps.getLsbD m = false → t.bit FLD_STATUS (8 + m) = s.bit FLD_STATUS (8 + m) ∧ t.rd (FLD_FAULT m) = s.rd (FLD_FAULT m)) := by
  have run : exec (.floodLampClear p lamps) s = .next (s.floodClear (lamps.setWidth 32)).settle := done_unowned h _
  refine ⟨_, run, fun m hm => ?_⟩
  obtain ⟨key, -⟩ := lamp_keys ⟨m, hm⟩
  have record := floodClear_record s (lamps.setWidth 32) hm
  have named : (lamps.setWidth 32).toNat.testBit m = lamps.getLsbD m := by
    rw [BitVec.testBit_toNat, BitVec.getLsbD_setWidth, decide_eq_true (by omega : m < 32), Bool.true_and]
  rw [named] at record
  rw [bit_congr (settle_rd _ (by decide)), settle_rd _ key]
  refine ⟨fun hl => ?_, fun hl => ?_⟩
  · rw [if_pos hl] at record
    exact Prod.mk.inj record
  · rw [if_neg (ne_true_of_eq_false hl)] at record
    exact Prod.mk.inj record

end Sys2Proof.Machine
end

section
/-! PROOFS. The pulse-density period of the lamps, their samples and their readbacks (R94 to R96). -/

namespace Sys2Proof.Machine

open Sys2Proof.Laws

/-! ### The period (R94, R95) -/

/-- The density that a lamp takes when a period begins. -/
def State.lampDensity (s : State) (m : Nat) : Nat :=
  let v := tabGet 0 s.flood.computed m
  let d := if s.bit CTL_FL_CLOSE m && !s.lampOut m then min 4096 ((v * 4096 * 2 + 32768) / 65536) else 0
  if v = 0x7FFF && d ≠ 0 then 4096 else d

/-- The lamp takes its density. -/
def State.driveLamp (s : State) (m : Nat) : State :=
  (s.setFld (FLD_DENSITY_V m) (s.lampDensity m)).setBit FLD_STATUS m (decide (0 < s.lampDensity m))

/-- The period begins before any lamp has its density. -/
def State.newPeriod (s : State) : State :=
  { s with flood := { s.flood with before := s.floodLevels (s.floodGroups - 1), periodAt := s.now, toSample := [], toRead := [] } }

theorem floodPeriod_eq (s : State) : s.floodPeriod = loop 8 (fun m t => t.driveLamp m) s.newPeriod := rfl

/-- The density is 0 for a lamp that is open or excluded, the full 4,096 for full scale, and else the share computed (R94). -/
theorem lampDensity_eq (s : State) (m : Nat) : s.lampDensity m =
    if s.bit CTL_FL_CLOSE m && !s.bit FLD_STATUS (8 + m) then
      (if tabGet 0 s.flood.computed m = 0x7FFF then 4096 else min 4096 ((tabGet 0 s.flood.computed m * 4096 * 2 + 32768) / 65536))
    else 0 := by
  unfold State.lampDensity State.lampOut
  dsimp only
  generalize tabGet 0 s.flood.computed m = v
  cases s.bit CTL_FL_CLOSE m && !s.bit FLD_STATUS (8 + m) with
  | false => simp
  | true =>
    by_cases hv : v = 0x7FFF
    · subst hv
      decide
    · simp [hv]

theorem lampDensity_le (s : State) (m : Nat) : s.lampDensity m ≤ 4096 := by
  rw [lampDensity_eq]
  split
  · split
    · exact Nat.le_refl 4096
    · exact Nat.min_le_left _ _
  · exact Nat.zero_le _

theorem density_keys (m : Nat) : FLD_STATUS ≠ FLD_DENSITY m ∧ (m < 8 → CTL_FL_CLOSE ≠ FLD_DENSITY m) := by
  unfold FLD_STATUS FLD_DENSITY CTL_FL_CLOSE
  omega

theorem driveLamp_rd (s : State) {i k : Nat} (hs : k ≠ FLD_STATUS) (hd : k ≠ FLD_DENSITY i) : (s.driveLamp i).rd k = s.rd k :=
  (rd_wr_other _ _ hs).trans (rd_wr_other s _ hd)

theorem driveLamp_own (s : State) (m : Nat) : (s.driveLamp m).fld (FLD_DENSITY_V m) = s.lampDensity m := by
  have stored : ((s.setFld (FLD_DENSITY_V m) (s.lampDensity m)).setBit FLD_STATUS m (decide (0 < s.lampDensity m))).rd (FLD_DENSITY m)
      = (s.setFld (FLD_DENSITY_V m) (s.lampDensity m)).rd (FLD_DENSITY m) := rd_wr_other _ _ (density_keys m).1.symm
  rw [State.driveLamp, fld_congr (f := FLD_DENSITY_V m) stored, fld_setFld_same _ _ _ (show 0 ≤ 12 by decide) (show 12 < 32 by decide)]
  exact Nat.mod_eq_of_lt (Nat.lt_of_le_of_lt (lampDensity_le s m) (show 4096 < 2 ^ 13 by decide))

theorem driveLamp_other (s : State) {i m : Nat} (h : i ≠ m) : (s.driveLamp i).fld (FLD_DENSITY_V m) = s.fld (FLD_DENSITY_V m) := by
  have apart : FLD_DENSITY m ≠ FLD_DENSITY i := by
    unfold FLD_DENSITY
    omega
  exact fld_congr (driveLamp_rd s (density_keys m).1.symm apart)

/-- A lamp that takes its density changes no other's. -/
theorem driveLamp_density (s : State) {i m : Nat} (hi : i < 8) : (s.driveLamp i).lampDensity m = s.lampDensity m := by
  have out : (s.driveLamp i).bit FLD_STATUS (8 + m) = s.bit FLD_STATUS (8 + m) := by
    rw [State.driveLamp, bit_setBit_other _ _ (by omega) (.inr (by omega))]
    exact bit_congr (rd_wr_other s _ (density_keys i).1) _
  have close : (s.driveLamp i).bit CTL_FL_CLOSE m = s.bit CTL_FL_CLOSE m :=
    bit_congr (driveLamp_rd s (by decide) ((density_keys i).2 hi)) m
  have flood : (s.driveLamp i).flood = s.flood := rfl
  rw [lampDensity_eq, lampDensity_eq, out, close, flood]

theorem floodPeriod_density (s : State) (m : Fin 8) : s.floodPeriod.fld (FLD_DENSITY_V m) = s.lampDensity m := by
  rw [floodPeriod_eq, loop_turn (fun t => t.fld (FLD_DENSITY_V m)) s.newPeriod m.isLt fun i _ hne t => driveLamp_other t hne,
    driveLamp_own, loop_keeps (fun t => t.lampDensity m) m.val s.newPeriod fun i hi t => driveLamp_density t (by omega)]
  rfl

theorem floodPeriod_clock (s : State) : s.floodPeriod.now = s.now ∧ s.floodPeriod.flood.periodAt = s.now := by
  have kept : (s.floodPeriod.now, s.floodPeriod.flood.periodAt) = (s.newPeriod.now, s.newPeriod.flood.periodAt) :=
    loop_keeps (fun t => (t.now, t.flood.periodAt)) 8 s.newPeriod fun _ _ _ => rfl
  exact Prod.mk.inj kept

theorem lampDensity_advance (s : State) (t m : Nat) : (s.advance t).lampDensity m = s.lampDensity m := by
  rw [lampDensity_eq, lampDensity_eq, bit_congr (rd_advance s t _), bit_congr (rd_advance s t _), State.advance_flood]

theorem floodPeriod_gives {s : State} (h : s.pwr.emissionInReset = false) (hr : s.grid.running = false) (m : Fin 8) :
    Gives .floodPeriodStart s fun t => t.now = max s.now (s.flood.periodAt + 25165824) ∧ t.flood.periodAt = t.now
      ∧ t.fld (FLD_DENSITY_V m) = s.lampDensity m := by
  have run : exec .floodPeriodStart s = .next (s.advance (s.flood.periodAt + 25165824)).floodPeriod.settle :=
    (done_inEmission h _).trans (congrArg done (if_neg (ne_true_of_eq_false hr)))
  obtain ⟨now, period⟩ := floodPeriod_clock (s.advance (s.flood.periodAt + 25165824))
  have clock : (s.advance (s.flood.periodAt + 25165824)).floodPeriod.settle.now = max s.now (s.flood.periodAt + 25165824) := by
    rw [settle_now, now, State.advance_now]
  refine ⟨_, run, clock, ?_, ?_⟩
  · rw [settle_flood, settle_now, period, now]
  · obtain ⟨-, key, -⟩ := lamp_keys m
    rw [settle_fld _ key, floodPeriod_density, lampDensity_advance]

/-! ### Samples (R96) -/

theorem Kept.flood {s t : State} {keys : List Nat} (h : Kept s t keys) (x : FldState) : Kept s { t with flood := x } keys :=
  h.of_eq rfl rfl rfl rfl

/-- The next sample of a lamp: its on-group and the instant in the middle of it. -/
def State.nextSample (s : State) (m : Nat) : Option (Nat × Nat) :=
  let gs := 2 ^ s.fld FLD_CFG_GROUP_LOG2
  s.nextGroup (tabGet 0 s.flood.toSample m) (fun g => (2 * g + 1) * gs) 0 (fun g => s.floodLevel m g)

/-- The sample is taken at its instant, and counts in the lamp's mean. -/
def State.takeSample (s : State) (m g at_ code : Nat) : State :=
  let t := s.advance at_
  let a := tabGet (0, 0) t.flood.sense m
  { t with flood := { t.flood with toSample := tabSet 0 t.flood.toSample m (g + 1), sense := tabSet (0, 0) t.flood.sense m (a.1 + code, a.2 + 1) } }

/-- The samples in a row below LIM.OPEN with the lamp driven, after one more. -/
def State.openRunAfter (s : State) (m code : Nat) : Nat :=
  if code < s.fld (FLD_LIM_OPEN m) && 0 < s.fld (FLD_DENSITY_V m) then tabGet 0 s.flood.openRun m + 1 else 0

def State.setOpenRun (s : State) (m run : Nat) : State :=
  { s with flood := { s.flood with openRun := tabSet 0 s.flood.openRun m run } }

/-- The sample is held against the lamp's limits. -/
def State.judgeSample (s : State) (m code : Nat) : State :=
  if s.fld (FLD_LIM_SHORT m) < code then s.excludeLamp m 0 0
  else
    let run := s.openRunAfter m code
    if 64 ≤ run then (s.setOpenRun m run).excludeLamp m 1 0 else s.setOpenRun m run

theorem judgeSample_short {s : State} {m code : Nat} (h : s.fld (FLD_LIM_SHORT m) < code) : s.judgeSample m code = s.excludeLamp m 0 0 :=
  if_pos h

theorem judgeSample_within {s : State} {m code : Nat} (hc : code ≤ s.fld (FLD_LIM_SHORT m)) (ho : s.fld (FLD_LIM_OPEN m) ≤ code) :
    s.judgeSample m code = s.setOpenRun m 0 := by
  have run : s.openRunAfter m code = 0 := if_neg (by simp [Nat.not_lt.mpr ho])
  rw [State.judgeSample, if_neg (Nat.not_lt.mpr hc), run]
  exact if_neg (by decide)

theorem judgeSample_open {s : State} {m code : Nat} (hc : code ≤ s.fld (FLD_LIM_SHORT m)) (ho : code < s.fld (FLD_LIM_OPEN m))
    (hd : 0 < s.fld (FLD_DENSITY_V m)) (hr : tabGet 0 s.flood.openRun m = 63) :
    s.judgeSample m code = (s.setOpenRun m 64).excludeLamp m 1 0 := by
  have run : s.openRunAfter m code = 64 := by rw [State.openRunAfter, hr, if_pos (by simp [ho, hd])]
  rw [State.judgeSample, if_neg (Nat.not_lt.mpr hc), run]
  exact if_pos (by decide)

theorem floodSample_eq {s : State} {m g at_ : Nat} (h : s.nextSample m = some (g, at_)) (code : Nat) :
    s.floodSample m code = (s.takeSample m g at_ code).judgeSample m code := by
  unfold State.nextSample at h
  unfold State.floodSample
  dsimp only at h ⊢
  rw [h]
  rfl

theorem takeSample_fld (s : State) (m g at_ code : Nat) (f : Fld) : (s.takeSample m g at_ code).fld f = s.fld f := fld_advance s at_ f

theorem takeSample_flood (s : State) (m g at_ code : Nat) : (s.takeSample m g at_ code).flood =
    { s.flood with toSample := tabSet 0 s.flood.toSample m (g + 1),
                   sense := tabSet (0, 0) s.flood.sense m ((tabGet (0, 0) s.flood.sense m).1 + code, (tabGet (0, 0) s.flood.sense m).2 + 1) } := by
  rw [← State.advance_flood s at_]
  rfl

theorem groupSample_exec {s : State} {m : Fin 8} {g at_ : Nat} (h : s.pwr.emissionInReset = false)
    (hs : s.nextSample m = some (g, at_)) (code : BitVec 14) :
    exec (.floodGroupSample m code) s = .next ((s.takeSample m g at_ code.toNat).judgeSample m code.toNat).settle :=
  (done_inEmission h _).trans (congrArg done (floodSample_eq hs code.toNat))

theorem groupSample_short {s : State} {m : Fin 8} {g at_ : Nat} {code : BitVec 14} (h : s.pwr.emissionInReset = false)
    (hs : s.nextSample m = some (g, at_)) (hc : s.fld (FLD_LIM_SHORT m) < code.toNat) :
    Gives (.floodGroupSample m code) s fun t => LampOut t m 0 := by
  refine ⟨_, groupSample_exec h hs code, ?_⟩
  rw [judgeSample_short (by rwa [takeSample_fld])]
  exact excludeLamp_out _ m 0 (by decide)

theorem groupSample_open {s : State} {m : Fin 8} {g at_ : Nat} {code : BitVec 14} (h : s.pwr.emissionInReset = false)
    (hs : s.nextSample m = some (g, at_)) (hc : code.toNat ≤ s.fld (FLD_LIM_SHORT m)) (ho : code.toNat < s.fld (FLD_LIM_OPEN m))
    (hd : 0 < s.fld (FLD_DENSITY_V m)) (hr : tabGet 0 s.flood.openRun m = 63) :
    Gives (.floodGroupSample m code) s fun t => LampOut t m 1 := by
  refine ⟨_, groupSample_exec h hs code, ?_⟩
  rw [judgeSample_open (by rwa [takeSample_fld]) (by rwa [takeSample_fld]) (by rwa [takeSample_fld]) (by rwa [takeSample_flood])]
  exact excludeLamp_out ((s.takeSample m g at_ code.toNat).setOpenRun m 64) m 0 (by decide)

theorem groupSample_within {s : State} {m : Fin 8} {g at_ : Nat} {code : BitVec 14} (h : s.pwr.emissionInReset = false)
    (hs : s.nextSample m = some (g, at_)) (hc : code.toNat ≤ s.fld (FLD_LIM_SHORT m)) (ho : s.fld (FLD_LIM_OPEN m) ≤ code.toNat) :
    Gives (.floodGroupSample m code) s fun t => t.now = max s.now at_ ∧ tabGet 0 t.flood.toSample m = g + 1
      ∧ tabGet (0, 0) t.flood.sense m = ((tabGet (0, 0) s.flood.sense m).1 + code.toNat, (tabGet (0, 0) s.flood.sense m).2 + 1)
      ∧ Kept s t [] := by
  refine ⟨_, groupSample_exec h hs code, ?_⟩
  rw [judgeSample_within (by rwa [takeSample_fld]) (by rwa [takeSample_fld])]
  refine ⟨(settle_now _).trans (State.advance_now s at_), ?_, ?_, ?_⟩
  · simp [State.setOpenRun, takeSample_flood]
  · simp [State.setOpenRun, takeSample_flood]
  · exact ((((Kept.refl s []).advance at_).flood _).flood _).settle

/-! ### Readbacks (R96) -/

/-- The next edge of a lamp: its group and the instant 8 ns after it. -/
def State.nextEdge (s : State) (m : Nat) : Option (Nat × Nat) :=
  let gs := 2 ^ s.fld FLD_CFG_GROUP_LOG2
  s.nextGroup (tabGet 0 s.flood.toRead m) (fun g => 2 * g * gs) 2048 (fun g => s.floodEdge m g)

/-- The levels are read back at their instant. -/
def State.takeReadback (s : State) (m g at_ : Nat) : State :=
  let t := s.advance at_
  { t with flood := { t.flood with toRead := tabSet 0 t.flood.toRead m (g + 1) } }

theorem floodLevels_congr {s t : State} (h : ∀ k, t.rd k = s.rd k) (g : Nat) : t.floodLevels g = s.floodLevels g := by
  simp only [State.floodLevels, State.floodLevel, State.lampOut, State.bit, State.fld, h]

theorem floodReadback_eq {s : State} {m g at_ : Nat} (h : s.nextEdge m = some (g, at_)) (levels : BitVec 8) :
    s.floodReadback m levels = (s.takeReadback m g at_).judgeReadback m (levels ^^^ s.floodLevels g) := by
  rw [← floodLevels_congr (rd_advance s at_) g]
  unfold State.nextEdge at h
  unfold State.floodReadback
  dsimp only at h ⊢
  rw [h]
  rfl

theorem edgeReadback_exec {s : State} {m : Fin 8} {g at_ : Nat} (h : s.pwr.emissionInReset = false)
    (hs : s.nextEdge m = some (g, at_)) (levels : BitVec 8) : exec (.floodEdgeReadback m levels) s
      = .next ((s.takeReadback m g at_).judgeReadback m (levels ^^^ s.floodLevels g)).settle :=
  (done_inEmission h _).trans (congrArg done (floodReadback_eq hs levels))

/-- A second readback in a row that differs excludes the lamp. -/
theorem judgeReadback_stuck {s : State} {m : Nat} {differs : BitVec 8} (hd : differs.getLsbD m = true)
    (hr : tabGet 0 s.flood.stuckRun m = 1) : ∃ u : State, s.judgeReadback m differs = u.excludeLamp m 2 0 := by
  unfold State.judgeReadback
  rw [if_pos hd, hr]
  exact ⟨_, if_pos (by decide)⟩

theorem edgeReadback_stuck {s : State} {m : Fin 8} {g at_ : Nat} {levels : BitVec 8} (h : s.pwr.emissionInReset = false)
    (hs : s.nextEdge m = some (g, at_)) (hl : levels.getLsbD m ≠ (s.floodLevels g).getLsbD m)
    (hr : tabGet 0 s.flood.stuckRun m = 1) : Gives (.floodEdgeReadback m levels) s fun t => LampOut t m 2 := by
  have differs : (levels ^^^ s.floodLevels g).getLsbD m = true := by simpa using hl
  have run : tabGet 0 (s.takeReadback m g at_).flood.stuckRun m = 1 := by
    rw [← hr, ← State.advance_flood s at_]
    rfl
  obtain ⟨u, hu⟩ := judgeReadback_stuck differs run
  refine ⟨_, edgeReadback_exec h hs levels, ?_⟩
  rw [hu]
  exact excludeLamp_out u m 0 (by decide)

/-- What a readback with every level as commanded leaves. -/
def readbackFrame (s : State) : List (Nat × Word) × List (Nat × Word) × List Host.Cell × List Instr × Nat × List (Nat × Nat) :=
  (s.regs, s.inForce, s.mem, s.pending, s.now, s.flood.toRead)

/-- Levels as commanded end the runs of the lamp and of its neighbours, and change nothing else. -/
theorem judgeReadback_same (s : State) (m : Nat) : readbackFrame (s.judgeReadback m 0#8) = readbackFrame s := by
  have clear (i : Nat) : (0#8).getLsbD i = false := BitVec.getLsbD_zero
  unfold State.judgeReadback
  rw [if_neg (ne_true_of_eq_false (clear m))]
  refine (congrArg readbackFrame (if_neg (by decide : ¬ 2 ≤ 0))).trans ((foldl_keeps readbackFrame _ _ fun t nb => ?_).trans rfl)
  dsimp only
  rw [if_neg (ne_true_of_eq_false (clear nb)), if_neg (by decide : ¬ 2 ≤ 0)]
  split <;> rfl

theorem edgeReadback_same {s : State} {m : Fin 8} {g at_ : Nat} (h : s.pwr.emissionInReset = false)
    (hs : s.nextEdge m = some (g, at_)) : Gives (.floodEdgeReadback m (s.floodLevels g)) s fun t =>
      t.now = max s.now at_ ∧ tabGet 0 t.flood.toRead m = g + 1 ∧ Kept s t [] := by
  have frame := judgeReadback_same (s.takeReadback m g at_) m
  have run := edgeReadback_exec h hs (s.floodLevels g)
  rw [BitVec.xor_self] at run
  simp only [readbackFrame, Prod.mk.injEq] at frame
  obtain ⟨regs, force, mem, pend, now, read⟩ := frame
  refine ⟨_, run, ?_, ?_, ?_⟩
  · rw [settle_now, now]
    exact State.advance_now s at_
  · rw [settle_flood, read]
    exact tabGet_tabSet_same 0 (s.advance at_).flood.toRead m.val (g + 1)
  · exact ((((Kept.refl s []).advance at_).flood _).of_eq regs force mem pend).settle

/-- Settles O18: a period drives each lamp by its density, and every fault of a lamp ends in its exclusion. -/
theorem floodLampCommands : Obligations.FloodLampCommands := by
  unfold Obligations.FloodLampCommands
  refine ⟨fun m s h hr => ?_, fun m code g at_ s h hs hc => groupSample_short h hs hc,
    fun m code g at_ s h hs hc ho => groupSample_within h hs hc ho,
    fun m code g at_ s h hs hc ho hd hr => groupSample_open h hs hc ho hd hr,
    fun m levels g at_ s h hs hl hr => edgeReadback_stuck h hs hl hr, fun m g at_ s h hs => edgeReadback_same h hs,
    fun p lamps s h => lampClear_gives h lamps⟩
  dsimp only
  rw [← lampDensity_eq]
  exact floodPeriod_gives h hr m

end Sys2Proof.Machine
end

section
/-! SUPPORT. The detector die: what the end of a step leaves of it, and what a channel and the sent-off SPADs read after an update. -/

namespace Sys2Proof.Machine

open Sys2Proof.Laws

/-- Of the detector the end of a step changes the line's counts, the channels and the cooler's instants alone. -/
theorem settle_detOf {α : Type} (g : DetState → α) (s : State)
    (h : ∀ (d : DetState) (n : Nat) (l : List (Nat × DetChan)) (a b : Option Nat),
      g { d with durSum := n, chans := l, atSpSince := a, satSince := b } = g d := by intros; rfl) :
    g s.settle.det = g s.det := by
  have kept : (keptState s.settle).det = (keptState s).det := by rw [settle_kept]
  exact (h _ 0 [] none none).symm.trans ((congrArg g kept).trans (h _ 0 [] none none))

theorem done_inCore {s : State} (h : s.pwr.coreInReset = false) (f : State → State) :
    done (s.inCore f) = .next (f s).settle := congrArg done (inCore_run h f)

/-- What does nothing at an instant does nothing in reset either. -/
theorem inCore_id {s : State} {f : State → State} (h : f s = s) : s.inCore f = s := by
  unfold State.inCore
  split
  · rfl
  · exact h

theorem Kept.det {s t : State} {keys : List Nat} (h : Kept s t keys) (d : DetState) : Kept s { t with det := d } keys :=
  h.of_eq rfl rfl rfl rfl

theorem has_raise (s : State) (e : Nat) : (s.raise e).has e = true :=
  List.any_eq_true.mpr ⟨_, mem_raised s e, decide_eq_true rfl⟩

/-! ### Channels -/

@[simp] theorem chan_setChan_same (s : State) (n : Nat) (c : DetChan) : (s.setChan n c).chan n = c := tabGet_tabSet_same _ _ n c

theorem chan_setChan_other (s : State) {m n : Nat} (c : DetChan) (h : m ≠ n) : (s.setChan n c).chan m = s.chan m :=
  tabGet_tabSet_other _ _ _ c h

theorem chan_congr {s t : State} (h : t.det = s.det) (n : Nat) : t.chan n = s.chan n :=
  congrArg (fun d : DetState => tabGet DetChan.init d.chans n) h

/-- The sent-off SPADs are those of the channel's two registers. -/
theorem scream_congr {s t : State} {n : Nat} (lo : t.rd (DET_SCREAM_LO n) = s.rd (DET_SCREAM_LO n))
    (hi : t.rd (DET_SCREAM_HI n) = s.rd (DET_SCREAM_HI n)) : t.scream n = s.scream n := by
  unfold State.scream State.rdN
  rw [lo, fld_congr (f := DET_SCREAM_HI_V n) hi]

/-- What no turn of a walk over the channels touches. -/
theorem foldl_range_keeps {α γ : Type} (g : α → γ) {f : α → Nat → α} {n : Nat} (a : α) (h : ∀ i < n, ∀ t, g (f t i) = g t) :
    g ((List.range n).foldl f a) = g a := by
  induction n with
  | zero => rfl
  | succ n ih =>
    rw [List.range_succ, List.foldl_append]
    exact (h n (Nat.lt_succ_self n) _).trans (ih fun i hi => h i (Nat.lt_succ_of_lt hi))

/-- A turn of a walk over the channels that alone touches what `g` reads; it finds that as it was. -/
theorem foldl_range_turn {α γ : Type} (g : α → γ) {f : α → Nat → α} {n m : Nat} (a : α) (hm : m < n)
    (h : ∀ i < n, i ≠ m → ∀ t, g (f t i) = g t) : ∃ t, g t = g a ∧ g ((List.range n).foldl f a) = g (f t m) := by
  refine ⟨(List.range m).foldl f a, foldl_range_keeps g a fun i hi => h i (hi.trans hm) hi.ne, ?_⟩
  induction n with
  | zero => exact absurd hm (Nat.not_lt_zero m)
  | succ n ih =>
    rw [List.range_succ, List.foldl_append]
    by_cases hn : n = m
    · rw [hn]
      rfl
    · exact (h n (Nat.lt_succ_self n) hn _).trans (ih (by omega) fun i hi => h i (Nat.lt_succ_of_lt hi))

/-! ### Writes (R121) -/

/-- A write that no check of R121 names is accepted. -/
theorem detWriteCode_unchecked (s : State) {off : Nat} (v : Word)
    (single : off ∉ [DET_CTRL, DET_COINC_WIN, DET_ADAPT_CFG, DET_QUENCH, DET_SURVEY_CFG])
    (th : ¬(DET_ADAPT_TH 0 ≤ off ∧ off ≤ DET_ADAPT_TH 4))
    (cfg : ¬((DET_CH_CFG 0 ≤ off ∧ off ≤ DET_CH_CFG 191) ∧ off % 16 = 8)) :
    s.detWriteCode off v = (0, 0) := by
  simp only [List.mem_cons, List.not_mem_nil, or_false, not_or] at single
  obtain ⟨ctrl, win, adapt, quench, survey⟩ := single
  unfold State.detWriteCode
  simp only [Bool.and_eq_true, decide_eq_true_eq]
  rw [if_neg ctrl, if_neg win, if_neg adapt, if_neg quench, if_neg th, if_neg survey, if_neg cfg]

end Sys2Proof.Machine
end

section
/-! PROOFS. The survey of the SPADs: its start, its steps, and the end of a sweep (R108, R109). -/

namespace Sys2Proof.Machine

open Sys2Proof.Laws

/-! ### The start of a sweep (R108) -/

/-- The state in which a sweep begins. -/
def State.sweepBegun (s : State) : State :=
  (({ s with det := { s.det with rates := [], stepAt := s.now } } : State).setFlag DET_STATUS_SURVEY_BUSY true).setFld
    DET_STATUS_SURVEY_STEP 0

theorem startSweep_idle {s : State} (h : s.flag DET_STATUS_SURVEY_BUSY = false) : s.startSweep = s.sweepBegun :=
  if_neg (by simp [h])

theorem startSweep_busy {s : State} (h : s.flag DET_STATUS_SURVEY_BUSY = true) : s.startSweep = s := if_pos h

theorem sweepBegun_busy (s : State) : s.sweepBegun.flag DET_STATUS_SURVEY_BUSY = true := by
  have other (t : State) : (t.setFld DET_STATUS_SURVEY_STEP 0).flag DET_STATUS_SURVEY_BUSY = t.flag DET_STATUS_SURVEY_BUSY := by
    rw [State.flag, fld_setFld_other _ _ _ _ (by decide) (by decide) (.inr (.inr (by decide)))]
    rfl
  exact (other _).trans (flag_setFlag_same _ _ _ rfl (by decide))

theorem sweepBegun_step (s : State) : s.sweepBegun.fld DET_STATUS_SURVEY_STEP = 0 :=
  fld_setFld_same _ _ _ (by decide) (by decide)

theorem sweepBegun_now (s : State) : s.sweepBegun.now = s.now := (State.setFld_now _ _ _).trans (State.setFlag_now _ _ _)

theorem Kept.sweepBegun {s t : State} {keys : List Nat} (h : Kept s t keys) (hk : DET_STATUS ∈ keys) : Kept s t.sweepBegun keys :=
  ((h.det _).setFlag (f := DET_STATUS_SURVEY_BUSY) true hk).setFld (f := DET_STATUS_SURVEY_STEP) 0 hk

theorem detWrite_surveyGo (s : State) : s.detWrite DET_SURVEY_GO 1 = s.startSweep := by
  unfold State.detWrite
  rw [detWriteCode_unchecked s 1 (by decide) (by decide) (by decide)]
  dsimp only
  rw [if_neg (by decide), if_neg (by decide), if_neg (by decide), if_pos rfl, if_pos (by decide)]

theorem surveyGo_exec {p : Port} {s : State} (h : Reaches s p DET_SURVEY_GO) : exec (.surveyGo p) s = .next s.startSweep.settle := by
  rw [← detWrite_surveyGo]
  exact done_unowned h _

theorem surveyGo_starts {p : Port} {s : State} (h : Reaches s p DET_SURVEY_GO) (idle : s.flag DET_STATUS_SURVEY_BUSY = false) :
    Gives (.surveyGo p) s fun t => t.flag DET_STATUS_SURVEY_BUSY = true ∧ t.fld DET_STATUS_SURVEY_STEP = 0 ∧ t.det.rates = []
      ∧ Kept s t [DET_STATUS] := by
  refine ⟨_, surveyGo_exec h, ?_⟩
  beta_reduce
  rw [startSweep_idle idle, settle_flag _ (by decide), settle_fld _ (by decide)]
  exact ⟨sweepBegun_busy s, sweepBegun_step s, settle_detOf DetState.rates _,
    ((Kept.refl s _).sweepBegun (List.mem_singleton_self _)).settle⟩

theorem surveyGo_dropped {p : Port} {s : State} (h : Reaches s p DET_SURVEY_GO) (busy : s.flag DET_STATUS_SURVEY_BUSY = true) :
    Gives (.surveyGo p) s fun t => t.det.rates = s.det.rates ∧ Kept s t [] := by
  refine ⟨_, surveyGo_exec h, ?_⟩
  beta_reduce
  rw [startSweep_busy busy]
  exact ⟨settle_detOf DetState.rates s, (Kept.refl s []).settle⟩

/-- The instant at which the survey's period ends. -/
def State.periodEnd (s : State) : Nat := s.det.surveyAt + 256000000000 * s.fld DET_SURVEY_CFG_PERIOD

/-- The state at that instant, from which the next period counts. -/
def State.periodOver (s : State) : State :=
  { s.advance s.periodEnd with det := { (s.advance s.periodEnd).det with surveyAt := s.periodEnd } }

theorem periodOver_flag (s : State) (f : Fld) : s.periodOver.flag f = s.flag f := flag_advance s s.periodEnd f

theorem periodOver_now (s : State) : s.periodOver.now = max s.now s.periodEnd := State.advance_now s _

theorem surveyPeriod_starts {s : State} (h : s.pwr.coreInReset = false) (auto : s.flag DET_CTRL_SURVEY_AUTO = true)
    (idle : s.flag DET_STATUS_SURVEY_BUSY = false) (hp : s.fld DET_SURVEY_CFG_PERIOD ≠ 0) :
    Gives .surveyPeriodExpiry s fun t => t.flag DET_STATUS_SURVEY_BUSY = true
      ∧ t.now = max s.now (s.det.surveyAt + 256000000000 * s.fld DET_SURVEY_CFG_PERIOD) ∧ Kept s t [DET_STATUS] := by
  have run : exec .surveyPeriodExpiry s = .next s.periodOver.startSweep.settle :=
    (done_inCore h _).trans (congrArg done (if_pos (by simp [auto, hp])))
  have kept : Kept s s.periodOver [DET_STATUS] := ((Kept.refl s _).advance _).det _
  refine ⟨_, run, ?_⟩
  beta_reduce
  rw [startSweep_idle ((periodOver_flag s _).trans idle), settle_flag _ (by decide), settle_now]
  exact ⟨sweepBegun_busy _, (sweepBegun_now _).trans (periodOver_now s), (kept.sweepBegun (List.mem_singleton_self _)).settle⟩

theorem surveyPeriod_manual {s : State} (manual : s.flag DET_CTRL_SURVEY_AUTO = false) :
    Gives .surveyPeriodExpiry s fun t => Kept s t [] :=
  ⟨_, congrArg done (inCore_id (if_neg (by simp [manual]))), (Kept.refl s []).settle⟩

/-! ### The steps of a sweep (R108) -/

/-- A walk that sets one entry for each channel leaves each channel's entry as its own turn set it. -/
theorem tabGet_foldl_range {α : Type} [DecidableEq α] (d : α) (l : List (Nat × α)) (key : Nat → Nat) (val : Nat → α) {n m : Nat}
    (hm : m < n) (apart : ∀ i, i ≠ m → key m ≠ key i) :
    tabGet d ((List.range n).foldl (fun acc i => tabSet d acc (key i) (val i)) l) (key m) = val m := by
  obtain ⟨t, -, turn⟩ := foldl_range_turn (fun l => tabGet d l (key m)) (f := fun acc i => tabSet d acc (key i) (val i)) l hm
    fun i _ hi t => tabGet_tabSet_other d d t (val i) (apart i hi)
  exact turn.trans (tabGet_tabSet_same d t _ _)

/-- The count of a channel in a step is kept as a rate, at the place of its SPAD. -/
theorem surveyCounts_rate (s : State) (counts : List Nat) (n : Fin 192) :
    tabGet 0 (s.surveyCounts counts).det.rates (48 * n + s.fld DET_STATUS_SURVEY_STEP)
      = ((nth 0 counts n : Nat) : Rat) / (max 1 (s.fld DET_SURVEY_CFG_DWELL) : Nat) :=
  tabGet_foldl_range 0 s.det.rates (fun m => 48 * m + s.fld DET_STATUS_SURVEY_STEP)
    (fun m => ((nth 0 counts m : Nat) : Rat) / (max 1 (s.fld DET_SURVEY_CFG_DWELL) : Nat)) n.isLt fun i hi => by omega

theorem surveyCounts_congr {s t : State} (rates : t.det.rates = s.det.rates) (regs : ∀ k, t.rd k = s.rd k) (counts : List Nat) :
    (t.surveyCounts counts).det.rates = (s.surveyCounts counts).det.rates := by
  unfold State.surveyCounts
  dsimp only
  rw [rates, fld_congr (f := DET_STATUS_SURVEY_STEP) (regs _), fld_congr (f := DET_SURVEY_CFG_DWELL) (regs _)]

/-- The instant at which the step in progress ends. -/
def State.stepEnd (s : State) : Nat := s.det.stepAt + 256000000 * s.fld DET_SURVEY_CFG_DWELL

theorem surveyStep_now (s : State) (counts : List Nat) : (s.surveyStep counts).now = max s.now s.stepEnd := State.advance_now s _

theorem surveyStep_rd (s : State) (counts : List Nat) (k : Nat) : (s.surveyStep counts).rd k = s.rd k := rd_advance s s.stepEnd k

theorem surveyStep_chan (s : State) (counts : List Nat) (n : Nat) : (s.surveyStep counts).chan n = s.chan n :=
  chan_congr (State.advance_det s s.stepEnd) n

theorem surveyStep_rates (s : State) (counts : List Nat) : (s.surveyStep counts).det.rates = (s.surveyCounts counts).det.rates :=
  surveyCounts_congr (congrArg DetState.rates (State.advance_det s s.stepEnd)) (rd_advance s s.stepEnd) counts

theorem Kept.surveyStep (s : State) (counts : List Nat) (keys : List Nat) : Kept s (s.surveyStep counts) keys :=
  (((Kept.refl s keys).advance s.stepEnd).det _).det _

theorem surveyStepEnd_gives {s : State} (counts : List Nat) (n : Fin 192) (h : s.pwr.coreInReset = false)
    (busy : s.flag DET_STATUS_SURVEY_BUSY = true) (hs : s.fld DET_STATUS_SURVEY_STEP < 47) :
    Gives (.surveyStepEnd counts) s fun t => t.fld DET_STATUS_SURVEY_STEP = s.fld DET_STATUS_SURVEY_STEP + 1
      ∧ tabGet 0 t.det.rates (48 * n + s.fld DET_STATUS_SURVEY_STEP)
        = ((nth 0 counts n : Nat) : Rat) / (max 1 (s.fld DET_SURVEY_CFG_DWELL) : Nat)
      ∧ t.now = max s.now (s.det.stepAt + 256000000 * s.fld DET_SURVEY_CFG_DWELL) ∧ Kept s t [DET_STATUS] := by
  have run : exec (.surveyStepEnd counts) s =
      .next ((s.surveyStep counts).setFld DET_STATUS_SURVEY_STEP (s.fld DET_STATUS_SURVEY_STEP + 1)).settle :=
    (done_inCore h _).trans (congrArg done (if_pos (by simp [busy, hs])))
  refine ⟨_, run, ?_, ?_, (settle_now _).trans (surveyStep_now s counts), ?_⟩
  · rw [settle_fld _ (by decide), fld_setFld_same _ _ _ (by decide) (by decide)]
    exact Nat.mod_eq_of_lt (show _ < 64 by omega)
  · rw [settle_detOf DetState.rates, State.setFld_det, surveyStep_rates]
    exact surveyCounts_rate s counts n
  · exact ((Kept.surveyStep s counts _).setFld _ (List.mem_singleton_self _)).settle

/-! ### The end of a sweep (R109) -/

/-- What the end of a sweep finds of a channel: its registers of sent-off SPADs, its masks, the rates, and the limits of R109. -/
def sweepInputs (n : Nat) (s : State) : Word × Word × DetChan × List (Nat × Rat) × Word × Word :=
  (s.rd (DET_SCREAM_LO n), s.rd (DET_SCREAM_HI n), s.chan n, s.det.rates, s.rd DET_SURVEY_CFG, s.rd DET_SCREAM_FLOOR)

/-- The SPADs of a channel that the end of a sweep sends off: found screaming now and in the sweep before. -/
def State.sentOff (s : State) (n : Nat) : BitVec 48 := s.screamersOf n &&& ~~~(s.scream n) &&& (s.chan n).screaming

theorem sweepInputs_scream {s t : State} {n : Nat} (h : sweepInputs n t = sweepInputs n s) :
    t.scream n = s.scream n ∧ t.sentOff n = s.sentOff n := by
  simp only [sweepInputs, Prod.mk.injEq] at h
  obtain ⟨lo, hi, chan, rates, cfg, floor⟩ := h
  have scream := scream_congr lo hi
  have ratio : t.fld DET_SURVEY_CFG_RATIO = s.fld DET_SURVEY_CFG_RATIO := fld_congr cfg
  have least : t.fld DET_SCREAM_FLOOR_V = s.fld DET_SCREAM_FLOOR_V := fld_congr floor
  refine ⟨scream, ?_⟩
  unfold State.sentOff State.screamersOf
  rw [scream, chan, rates, ratio, least]

/-- SPADs marked as sent off read as marked. -/
theorem scream_setScream (s : State) (n : Nat) (m : BitVec 48) : (s.setScream n m).scream n = m := by
  have apart : DET_SCREAM_LO n ≠ DET_SCREAM_HI n := by
    unfold DET_SCREAM_LO DET_SCREAM_HI
    omega
  have lo : (s.setScream n m).rdN (DET_SCREAM_LO n) = m.toNat % 2 ^ 32 := by
    unfold State.rdN State.setScream
    rw [rd_wrN, if_neg apart, rd_wrN, if_pos rfl, BitVec.toNat_ofNat, Nat.mod_mod]
  have hi : (s.setScream n m).fld (DET_SCREAM_HI_V n) = m.toNat / 2 ^ 32 := by
    have word : (s.setScream n m).rd (DET_SCREAM_HI_V n).reg = BitVec.ofNat 32 (m.toNat / 2 ^ 32) := rd_wr_same _ _ _
    have bound := m.isLt
    rw [State.fld, word]
    simp only [Fld.get, DET_SCREAM_HI_V, BitVec.toNat_ofNat, Nat.shiftRight_zero]
    omega
  unfold State.scream
  rw [lo, hi, Nat.mod_add_div', BitVec.ofNat_toNat, BitVec.setWidth_eq]

/-- The channel as the end of a sweep leaves it. -/
def State.noteScreamers (s : State) (n : Nat) : State :=
  let c := s.chan n
  s.setChan n { c with screaming := s.screamersOf n &&& ~~~(s.scream n) &&& ~~~c.screaming, pendingOff := c.pendingOff ||| s.sentOff n,
                       repairFrom := if s.sentOff n = 0 then c.repairFrom else some (s.now + maskDelay) }

/-- The SPADs sent off are marked, and the channel's enable registers and the calibration record follow. -/
def State.markSentOff (s : State) (n : Nat) (m : BitVec 48) : State :=
  (maskBits m).foldl (fun s _ => s.raise EV_DET_SPAD_SENT_OFF)
    ((s.setScream n (s.scream n ||| m)).sendOffRegs n (s.acceptedMask n)).calTouch

theorem sweepChannel_eq (s : State) (n : Nat) : (s.sweepChannel n).1 =
    if s.sentOff n = 0 then s.noteScreamers n else (s.noteScreamers n).markSentOff n (s.sentOff n) := rfl

/-- Where the channel's enable registers and the calibration record follow a send-off, all else stands. -/
theorem sendOffRegs_rd (s : State) (n : Nat) (old : BitVec 48) {k : Nat} (lo : k ≠ DET_SPAD_EN_LO n) (hi : k ≠ DET_SPAD_EN_HI n)
    (epoch : k ≠ CAL_EPOCH) (status : k ≠ CAL_STATUS) : (s.sendOffRegs n old).calTouch.rd k = s.rd k := by
  have touch (t : State) : t.calTouch.rd k = t.rd k := (rd_wr_other _ _ status).trans (rd_wr_other _ _ epoch)
  rw [touch, State.sendOffRegs, rd_wrN, if_neg hi]
  split
  · exact rd_wr_other s _ lo
  · rfl

theorem markSentOff_rd (s : State) (n : Nat) (m : BitVec 48) (k : Nat) : (s.markSentOff n m).rd k =
    ((s.setScream n (s.scream n ||| m)).sendOffRegs n (s.acceptedMask n)).calTouch.rd k :=
  foldl_keeps (fun t => t.rd k) _ _ fun _ _ => rfl

theorem sendOffRegs_det (s : State) (n : Nat) (old : BitVec 48) : (s.sendOffRegs n old).det = s.det := by
  unfold State.sendOffRegs
  dsimp only
  split <;> rfl

theorem setScream_det (s : State) (n : Nat) (m : BitVec 48) : (s.setScream n m).det = s.det := rfl

theorem calTouch_det (s : State) : s.calTouch.det = s.det := (State.setFld_det _ _ _).trans (State.wrN_det _ _ _)

theorem markSentOff_det (s : State) (n : Nat) (m : BitVec 48) : (s.markSentOff n m).det = s.det := by
  unfold State.markSentOff
  refine (foldl_keeps State.det (f := fun t _ => t.raise EV_DET_SPAD_SENT_OFF) _ _ fun _ _ => rfl).trans ?_
  rw [calTouch_det, sendOffRegs_det, setScream_det]

/-- The registers that the end of a sweep reads. -/
def sweepKeys (n : Nat) : List Nat := [DET_SCREAM_LO n, DET_SCREAM_HI n, DET_SURVEY_CFG, DET_SCREAM_FLOOR]

/-- The registers the end of a sweep reads of a channel lie apart from those that a send-off makes follow, and from the marks of another
channel. -/
theorem sweepKeys_apart {m n k : Nat} (hm : m < 192) (hn : n < 192) (hk : k ∈ sweepKeys n) :
    (k ≠ DET_SPAD_EN_LO m ∧ k ≠ DET_SPAD_EN_HI m ∧ k ≠ CAL_EPOCH ∧ k ≠ CAL_STATUS)
      ∧ (m ≠ n → k ≠ DET_SCREAM_LO m ∧ k ≠ DET_SCREAM_HI m) := by
  simp only [sweepKeys, List.mem_cons, List.not_mem_nil, or_false, DET_SCREAM_LO, DET_SCREAM_HI, DET_SURVEY_CFG, DET_SCREAM_FLOOR,
    DET_SPAD_EN_LO, DET_SPAD_EN_HI, CAL_EPOCH, CAL_STATUS] at hk ⊢
  omega

/-- What the end of a sweep reads of a channel, another channel's turn leaves; its own turn marks the SPADs it sends off. -/
theorem sweepChannel_rd (s : State) {m n k : Nat} (hm : m < 192) (hn : n < 192) (hk : k ∈ sweepKeys n) :
    (s.sweepChannel m).1.rd k = if s.sentOff m = 0 then s.rd k else (s.setScream m (s.scream m ||| s.sentOff m)).rd k := by
  obtain ⟨⟨lo, hi, epoch, status⟩, -⟩ := sweepKeys_apart hm hn hk
  rw [sweepChannel_eq, apply_ite (fun t : State => t.rd k), markSentOff_rd, sendOffRegs_rd _ _ _ lo hi epoch status]
  rfl

theorem sweepChannel_other (s : State) {m n : Nat} (hm : m < 192) (hn : n < 192) (h : m ≠ n) :
    sweepInputs n (s.sweepChannel m).1 = sweepInputs n s := by
  have rd {k : Nat} (hk : k ∈ sweepKeys n) : (s.sweepChannel m).1.rd k = s.rd k := by
    obtain ⟨-, marks⟩ := sweepKeys_apart hm hn hk
    obtain ⟨lo, hi⟩ := marks h
    rw [sweepChannel_rd s hm hn hk]
    split
    · rfl
    · exact (rd_wr_other _ _ hi).trans (rd_wr_other s _ lo)
  have det : (s.sweepChannel m).1.det = (s.noteScreamers m).det := by
    rw [sweepChannel_eq, apply_ite State.det, markSentOff_det, ite_self]
  unfold sweepInputs
  rw [rd (by simp [sweepKeys]), rd (by simp [sweepKeys]), rd (by simp [sweepKeys]), rd (by simp [sweepKeys]), chan_congr det, det]
  unfold State.noteScreamers
  rw [chan_setChan_other s _ h.symm]
  rfl

theorem sweepChannel_scream (s : State) {n : Nat} (hn : n < 192) : (s.sweepChannel n).1.scream n = s.scream n ||| s.sentOff n := by
  have lo := sweepChannel_rd s hn hn (k := DET_SCREAM_LO n) (by simp [sweepKeys])
  have hi := sweepChannel_rd s hn hn (k := DET_SCREAM_HI n) (by simp [sweepKeys])
  by_cases none : s.sentOff n = 0
  · rw [if_pos none] at lo hi
    rw [scream_congr lo hi, none]
    exact BitVec.or_zero.symm
  · rw [if_neg none] at lo hi
    rw [scream_congr lo hi, scream_setScream]

/-- The channels' turns at the end of a sweep. -/
def State.sweepChannels (s : State) : State := (List.range 192).foldl (fun s n => (s.sweepChannel n).1) s

theorem sweepChannels_scream (s : State) (n : Fin 192) : s.sweepChannels.scream n = s.scream n ||| s.sentOff n := by
  obtain ⟨t, inputs, turn⟩ := foldl_range_turn (sweepInputs n) (f := fun s m => (s.sweepChannel m).1) s n.isLt
    fun i hi ne t => sweepChannel_other t hi n.isLt ne
  obtain ⟨scream, off⟩ := sweepInputs_scream inputs
  obtain ⟨marked, -⟩ := sweepInputs_scream turn
  exact marked.trans ((sweepChannel_scream t n.isLt).trans (by rw [scream, off]))

/-- The survey stands idle at step 0 after the channels' turns. -/
def State.sweepEnded (s : State) : State := (s.sweepChannels.setFlag DET_STATUS_SURVEY_BUSY false).setFld DET_STATUS_SURVEY_STEP 0

/-- At the end of a sweep the survey stands idle, or starts the next sweep at once (R108). -/
theorem endSweep_cases (s : State) : s.endSweep = s.sweepEnded.startSweep ∨ s.endSweep = s.sweepEnded := by
  unfold State.endSweep
  dsimp only
  generalize hr : List.foldl _ (s, false) _ = r
  obtain ⟨u, again⟩ := r
  have turns : s.sweepChannels = u := (List.foldl_hom Prod.fst (init := (s, false)) fun _ _ => rfl).trans (congrArg Prod.fst hr)
  unfold State.sweepEnded
  rw [turns]
  exact ite_eq_or_eq _ _ _

theorem startSweep_rd (s : State) {k : Nat} (h : k ≠ DET_STATUS) : s.startSweep.rd k = s.rd k := by
  cases busy : s.flag DET_STATUS_SURVEY_BUSY with
  | true => rw [startSweep_busy busy]
  | false =>
    rw [startSweep_idle busy]
    exact (rd_wr_other _ _ h).trans (rd_wr_other _ _ h)

theorem startSweep_step {s : State} (h : s.fld DET_STATUS_SURVEY_STEP = 0) : s.startSweep.fld DET_STATUS_SURVEY_STEP = 0 := by
  cases busy : s.flag DET_STATUS_SURVEY_BUSY with
  | true => rw [startSweep_busy busy, h]
  | false => rw [startSweep_idle busy, sweepBegun_step]

/-- At the end of a sweep the step is 0, and no register but DET_STATUS changes after the channels' turns. -/
theorem endSweep_shown (s : State) : s.endSweep.fld DET_STATUS_SURVEY_STEP = 0
    ∧ ∀ k, k ≠ DET_STATUS → s.endSweep.rd k = s.sweepChannels.rd k := by
  have step : s.sweepEnded.fld DET_STATUS_SURVEY_STEP = 0 := fld_setFld_same _ _ _ (by decide) (by decide)
  have rd {k : Nat} (h : k ≠ DET_STATUS) : s.sweepEnded.rd k = s.sweepChannels.rd k := (rd_wr_other _ _ h).trans (rd_wr_other _ _ h)
  rcases endSweep_cases s with e | e <;> rw [e]
  · exact ⟨startSweep_step step, fun k h => (startSweep_rd _ h).trans (rd h)⟩
  · exact ⟨step, fun k h => rd h⟩

theorem scream_keys (n : Fin 192) : settleKey (DET_SCREAM_LO n) = false ∧ settleKey (DET_SCREAM_HI n) = false
    ∧ DET_SCREAM_LO n ≠ DET_STATUS ∧ DET_SCREAM_HI n ≠ DET_STATUS := by
  revert n
  decide +kernel

theorem surveySweepEnd_gives {s : State} (counts : List Nat) (n : Fin 192) (h : s.pwr.coreInReset = false)
    (busy : s.flag DET_STATUS_SURVEY_BUSY = true) (hs : s.fld DET_STATUS_SURVEY_STEP = 47) :
    Gives (.surveySweepEnd counts) s fun t => t.fld DET_STATUS_SURVEY_STEP = 0
      ∧ t.scream n = s.scream n ||| ((s.surveyCounts counts).screamersOf n &&& ~~~(s.scream n) &&& (s.chan n).screaming) := by
  have run : exec (.surveySweepEnd counts) s = .next (s.surveyStep counts).endSweep.settle :=
    (done_inCore h _).trans (congrArg done (if_pos (by simp [busy, hs])))
  obtain ⟨step, after⟩ := endSweep_shown (s.surveyStep counts)
  obtain ⟨lo, hi, loStatus, hiStatus⟩ := scream_keys n
  have inputs : sweepInputs n (s.surveyStep counts) = sweepInputs n (s.surveyCounts counts) := by
    unfold sweepInputs
    rw [surveyStep_rd, surveyStep_rd, surveyStep_rd, surveyStep_rd, surveyStep_chan, surveyStep_rates]
    rfl
  obtain ⟨scream, off⟩ := sweepInputs_scream inputs
  refine ⟨_, run, (settle_fld _ (by decide)).trans step, ?_⟩
  rw [scream_congr (settle_rd _ lo) (settle_rd _ hi), scream_congr (after _ loStatus) (after _ hiStatus), sweepChannels_scream, scream, off]
  rfl

/-- Settles O22: a sweep starts only while none runs, each step keeps its counts as rates, and its end marks the SPADs that scream in two
sweeps running, channel by channel. -/
theorem surveyCommands : Obligations.SurveyCommands := by
  unfold Obligations.SurveyCommands
  exact ⟨fun p s h idle => surveyGo_starts h idle, fun p s h busy => surveyGo_dropped h busy,
    fun s h auto idle hp => surveyPeriod_starts h auto idle hp, fun s manual => surveyPeriod_manual manual,
    fun counts n s h busy hs => surveyStepEnd_gives counts n h busy hs,
    fun counts n s h busy hs => surveySweepEnd_gives counts n h busy hs⟩

end Sys2Proof.Machine
end

section
/-! PROOFS. Enable masks: their submission, and the instant at which they take effect without a line grid (R106, R109, R121). -/

namespace Sys2Proof.Machine

open Sys2Proof.Laws

/-! ### Submissions (R106, R121) -/

/-- A refusal of the detector's block leaves its code and detail, raises its event, and changes nothing else (R121, R486). -/
theorem detRefuse_settles (s : State) {c d : Nat} (hc : c < 256) (hd : d < 65536) :
    (s.refuse DET_CFG_ERR EV_DET_CFG_ERROR c d).settle.rdN DET_CFG_ERR = c * 2 ^ 24 + d
      ∧ Logged (s.refuse DET_CFG_ERR EV_DET_CFG_ERROR c d).settle EV_DET_CFG_ERROR
      ∧ Kept s (s.refuse DET_CFG_ERR EV_DET_CFG_ERROR c d).settle [DET_CFG_ERR] := by
  obtain ⟨word, logged, -, kept⟩ := refuseWith_settles s (k := DET_CFG_ERR) (ev := EV_DET_CFG_ERROR)
    (c * 2 ^ 24 + d % 2 ^ 16) (by decide) (by decide)
  rw [refuse_eq]
  refine ⟨?_, logged, kept⟩
  rw [State.rdN, word, BitVec.toNat_ofNat]
  omega

/-- The mask that a write of the upper half submits. -/
def State.submitted (s : State) (n : Fin 192) (hi : BitVec 16) : BitVec 48 :=
  BitVec.ofNat 48 (s.rdN (DET_SPAD_EN_LO n) + hi.toNat * 2 ^ 32)

/-- An accepted mask waits 4 µs. -/
def State.acceptMask (s : State) (n : Fin 192) (hi : BitVec 16) : State :=
  let s' := s.wrN (DET_SPAD_EN_HI n) hi.toNat
  s'.setChan n { s'.chan n with waiting := (s.chan n).waiting ++ [(s.submitted n hi, s.now + 1024000)] }

theorem submitMask_eq (s : State) (n : Fin 192) (hi : BitVec 16) : s.submitMask n (hi.setWidth 32) =
    if 40 < maskCount (s.submitted n hi) then s.refuse DET_CFG_ERR EV_DET_CFG_ERROR 0x01 n
    else if s.submitted n hi &&& s.scream n ≠ 0 then s.refuse DET_CFG_ERR EV_DET_CFG_ERROR 0x02 n
    else s.acceptMask n hi := by
  have half : (hi.setWidth 32).toNat % 65536 = hi.toNat := by
    have bound := hi.isLt
    rw [BitVec.toNat_setWidth]
    omega
  unfold State.submitMask
  rw [half]
  rfl

theorem detWrite_spadEn (s : State) (n : Fin 192) (v : Word) : s.detWrite (DET_SPAD_EN_HI n) v = s.submitMask n v := by
  have hn := n.isLt
  have code : s.detWriteCode (DET_SPAD_EN_HI n) v = (0, 0) := by
    refine detWriteCode_unchecked s v ?_ ?_ ?_ <;>
      simp only [DET_SPAD_EN_HI, DET_CTRL, DET_COINC_WIN, DET_ADAPT_CFG, DET_QUENCH, DET_SURVEY_CFG, DET_ADAPT_TH, DET_CH_CFG,
        List.mem_cons, List.not_mem_nil, or_false] <;> omega
  have channel : (DET_SPAD_EN_HI n - DET_SPAD_EN_HI 0) / 16 = n := by
    unfold DET_SPAD_EN_HI
    omega
  have place : DET_SPAD_EN_HI n ≠ DET_CTRL ∧ DET_SPAD_EN_HI n ≠ DET_HV_WIN ∧ DET_SPAD_EN_HI n ≠ DET_SURVEY_GO
      ∧ ((DET_SPAD_EN_HI 0 ≤ DET_SPAD_EN_HI n ∧ DET_SPAD_EN_HI n ≤ DET_SPAD_EN_HI 191) ∧ DET_SPAD_EN_HI n % 16 = 4) := by
    simp only [DET_SPAD_EN_HI, DET_CTRL, DET_HV_WIN, DET_SURVEY_GO]
    omega
  obtain ⟨ctrl, win, go, mask⟩ := place
  unfold State.detWrite
  rw [code]
  simp only [Bool.and_eq_true, decide_eq_true_eq]
  rw [if_neg (by decide), if_neg ctrl, if_neg win, if_neg go, if_pos mask, channel]

theorem maskSubmit_exec {p : Port} {n : Fin 192} {s : State} (h : Reaches s p (DET_SPAD_EN_HI n)) (hi : BitVec 16) :
    exec (.spadMaskSubmit p n hi) s = .next (s.submitMask n (hi.setWidth 32)).settle := by
  rw [← detWrite_spadEn]
  exact done_unowned h _

/-- A submission that fails a check records the check and its channel, and changes nothing else. -/
theorem maskSubmit_refused {p : Port} {n : Fin 192} {s : State} {hi : BitVec 16} {c : Nat} (hc : c < 256)
    (h : Reaches s p (DET_SPAD_EN_HI n)) (hs : s.submitMask n (hi.setWidth 32) = s.refuse DET_CFG_ERR EV_DET_CFG_ERROR c n) :
    Gives (.spadMaskSubmit p n hi) s fun t => t.rdN DET_CFG_ERR = c * 2 ^ 24 + n ∧ Logged t EV_DET_CFG_ERROR ∧ Kept s t [DET_CFG_ERR] :=
  ⟨_, (maskSubmit_exec h hi).trans (by rw [hs]), detRefuse_settles s hc (by omega)⟩

theorem maskSubmit_crowded {p : Port} {n : Fin 192} {hi : BitVec 16} {s : State} (h : Reaches s p (DET_SPAD_EN_HI n))
    (many : 40 < maskCount (s.submitted n hi)) :
    Gives (.spadMaskSubmit p n hi) s fun t => t.rdN DET_CFG_ERR = 0x01000000 + n.val ∧ Logged t EV_DET_CFG_ERROR ∧ Kept s t [DET_CFG_ERR] :=
  maskSubmit_refused (c := 1) (by decide) h ((submitMask_eq s n hi).trans (if_pos many))

theorem maskSubmit_sentOff {p : Port} {n : Fin 192} {hi : BitVec 16} {s : State} (h : Reaches s p (DET_SPAD_EN_HI n))
    (few : maskCount (s.submitted n hi) ≤ 40) (off : s.submitted n hi &&& s.scream n ≠ 0) :
    Gives (.spadMaskSubmit p n hi) s fun t => t.rdN DET_CFG_ERR = 0x02000000 + n.val ∧ Logged t EV_DET_CFG_ERROR ∧ Kept s t [DET_CFG_ERR] :=
  maskSubmit_refused (c := 2) (by decide) h ((submitMask_eq s n hi).trans ((if_neg (by omega)).trans (if_pos off)))

theorem maskSubmit_waits {p : Port} {n : Fin 192} {hi : BitVec 16} {s : State} (h : Reaches s p (DET_SPAD_EN_HI n))
    (few : maskCount (s.submitted n hi) ≤ 40) (on : s.submitted n hi &&& s.scream n = 0) :
    Does (.spadMaskSubmit p n hi) s fun u => (u.chan n).waiting = (s.chan n).waiting ++ [(s.submitted n hi, s.now + 1024000)]
      ∧ (u.chan n).mask = (s.chan n).mask ∧ u.rdN (DET_SPAD_EN_HI n) = hi.toNat := by
  have legal : s.submitMask n (hi.setWidth 32) = s.acceptMask n hi :=
    (submitMask_eq s n hi).trans ((if_neg (by omega)).trans (if_neg (not_not.mpr on)))
  have word : (s.acceptMask n hi).rd (DET_SPAD_EN_HI n) = BitVec.ofNat 32 hi.toNat := rd_wr_same _ _ _
  have bound := hi.isLt
  refine ⟨_, (maskSubmit_exec h hi).trans (by rw [legal]), ?_, ?_, ?_⟩
  · rw [State.acceptMask, chan_setChan_same]
  · rw [State.acceptMask, chan_setChan_same]
    rfl
  · rw [State.rdN, word, BitVec.toNat_ofNat]
    omega

/-! ### Masks take effect (R106, R109) -/

/-- The minimum is judged without a change of the mask. -/
theorem checkMin_frame (s : State) (n : Nat) (host : Bool) : ((s.checkMin n host).chan n).mask = (s.chan n).mask
    ∧ ((s.checkMin n host).chan n).waiting = (s.chan n).waiting ∧ (s.checkMin n host).now = s.now := by
  have raised (u : State) (e : Nat) : (u.raise e).chan n = u.chan n := rfl
  unfold State.checkMin
  dsimp only
  split
  · split
    · exact ⟨rfl, rfl, rfl⟩
    · rw [raised, chan_setChan_same]
      exact ⟨rfl, rfl, rfl⟩
  · split
    · rw [chan_setChan_same]
      exact ⟨rfl, rfl, rfl⟩
    · exact ⟨rfl, rfl, rfl⟩

/-- A mask without a sent-off SPAD needs no repair. -/
theorem sendOffMask_clean {m off : BitVec 48} (h : m &&& off = 0) : sendOffMask m off = (m, 0) := by
  have none : maskBits (0 : BitVec 48) = [] := by decide
  unfold sendOffMask
  rw [h, none]
  rfl

/-- The one mask that waits, due and without a sent-off SPAD, is put in force. -/
theorem applyMask_due {s : State} {n t at_ : Nat} {m : BitVec 48} (waits : (s.chan n).waiting = [(m, at_)])
    (whole : (s.chan n).repairFrom = none) (due : at_ ≤ t) (on : m &&& s.scream n = 0) :
    ((s.applyMask n t).chan n).mask = m ∧ ((s.applyMask n t).chan n).waiting = [] ∧ (s.applyMask n t).now = s.now := by
  have clean (off : BitVec 48) : sendOffMask m (s.scream n &&& off) = (m, 0) :=
    sendOffMask_clean (by rw [← BitVec.and_assoc, on]; exact BitVec.zero_and)
  have applied : s.applyMask n t = (s.setChan n { s.chan n with mask := m, waiting := [] }).checkMin n true := by
    unfold State.applyMask
    simp [waits, whole, due, clean, loop]
  obtain ⟨mask, waiting, now⟩ := checkMin_frame (s.setChan n { s.chan n with mask := m, waiting := [] }) n true
  rw [chan_setChan_same] at mask waiting
  rw [applied]
  exact ⟨mask, waiting, now⟩

theorem maskTimer_gives {n t : Nat} {c : DetChan} {m : BitVec 48} {s : State} (h : s.pwr.coreInReset = false)
    (still : s.grid.running = false) (link : s.flag DET_STATUS_LINK_OK = true) (chans : s.det.chans = [(n, c)])
    (waits : c.waiting = [(m, t)]) (whole : c.repairFrom = none) (on : m &&& s.scream n = 0) :
    Does .spadMaskTimer s fun u => (u.chan n).mask = m ∧ (u.chan n).waiting = [] ∧ u.now = max s.now t := by
  have chan : (s.advance t).chan n = c := by
    unfold State.chan
    rw [State.advance_det, chans]
    exact if_pos rfl
  have scream : (s.advance t).scream n = s.scream n := scream_congr (rd_advance s t _) (rd_advance s t _)
  have run : exec .spadMaskTimer s = .next ((s.advance t).applyMask n (s.advance t).now).settle := by
    refine (done_inCore h _).trans ?_
    rw [if_neg (by simp [still, link]), chans]
    simp [State.applyMasks, chans, waits, whole]
  obtain ⟨mask, waiting, now⟩ := applyMask_due (chan.symm ▸ waits) (chan.symm ▸ whole)
    (show t ≤ (s.advance t).now by rw [State.advance_now]; exact Nat.le_max_right _ _) (scream.symm ▸ on)
  exact ⟨_, run, mask, waiting, now.trans (State.advance_now s t)⟩

end Sys2Proof.Machine
end

section
/-! PROOFS. Detections and stops (R111, R112). -/

namespace Sys2Proof.Machine

open Sys2Proof.Laws

/-! ### The lane behind a channel (R112, R123) -/

/-- A detection adds to the depth of the lane's stamps that stand near it. -/
def State.deepenLane (s : State) (l t w : Nat) : State :=
  if (s.lane l).grow.isEmpty then s else s.setLane l ((s.lane l).deepen t w)

theorem deepenLane_lane (s : State) (l t w m : Nat) : ((s.deepenLane l t w).lane m).openWin = (s.lane m).openWin
    ∧ ((s.deepenLane l t w).lane m).gen = (s.lane m).gen := by
  unfold State.deepenLane
  split
  · exact ⟨rfl, rfl⟩
  · by_cases hm : m = l
    · rw [hm, lane_setLane_same]
      exact ⟨rfl, rfl⟩
    · rw [lane_setLane_other s _ hm]
      exact ⟨rfl, rfl⟩

theorem deepenLane_frame (s : State) (l t w : Nat) : (s.deepenLane l t w).regs = s.regs ∧ (s.deepenLane l t w).det = s.det := by
  unfold State.deepenLane
  split <;> exact ⟨rfl, rfl⟩

/-- Whether a channel is led to a lane is of the crossbar, the lane's role, and the lane's window. -/
theorem linked_congr {s u : State} (regs : u.regs = s.regs)
    (lane : ∀ m, (u.lane m).openWin = (s.lane m).openWin ∧ (u.lane m).gen = (s.lane m).gen) (n : Nat) : u.linked n = s.linked n := by
  have fld (f : Fld) : u.fld f = s.fld f := by simp [State.fld, State.rd, regs]
  unfold State.linked State.laneOf State.laneRole
  dsimp only
  rw [fld, fld, (lane _).1, (lane _).2]

/-! ### A detection -/

/-- A SPAD that is off makes no stop, and changes nothing. -/
theorem detection_off {s : State} {n i : Nat} (h : s.detKept.enable = false ∨ (s.chan n).mask.getLsbD i = false) (t : Nat) :
    s.detection n i t = s := by
  unfold State.detection
  exact if_pos (by rcases h with h | h <;> simp [h])

/-- The first detection of an enabled, live SPAD, at depth 1 on a channel led to a lane, makes the channel's stop. -/
theorem detection_stops {s : State} {n i : Nat} (t : Nat) (enable : s.detKept.enable = true) (linked : s.linked n = true)
    (on : (s.chan n).mask.getLsbD i = true) (live : (s.chan n).dead = []) (depth : (s.chan n).depth = 1)
    (first : (s.chan n).lastStop = none) (window : 0 < s.detKept.window) :
    (∃ e ∈ (s.detection n i t).det.stops, e.channel = n ∧ e.tick = t)
      ∧ ((s.detection n i t).chan n).dead = [(i, t + 256 * s.detKept.holdoff)] ∧ ((s.detection n i t).chan n).lastStop = some t := by
  unfold State.detection
  extract_lets c k w amb dead recent d s1 l s2 fresh stop s3 pile
  have alive : ¬((!k.enable || !c.mask.getLsbD i || c.dead.any fun e => e.1 = i && t < e.2) = true) := by
    simp [k, c, enable, on, live]
  have now : (i, t) ∈ fresh := by simp [fresh, recent, c, first, w, k, window]
  have stops : stop := by
    show c.depth ≤ fresh.length
    rw [show c.depth = 1 from depth]
    exact List.length_pos_of_mem now
  have lane := deepenLane_lane s1 l t w
  obtain ⟨regs, -⟩ := deepenLane_frame s1 l t w
  have led : s3.linked n = true := (linked_congr (s := s) (u := s3) regs lane n).trans linked
  have own : s3.chan n = { c with amb := amb, dead := dead, recent := recent, lastStop := some t } := by
    refine (chan_setChan_same s2 n _).trans ?_
    rw [if_pos stops]
  rw [if_neg alive, if_pos (by simp [stops, led])]
  refine ⟨⟨_, List.mem_append_right _ (List.mem_singleton_self _), rfl, rfl⟩, ?_, congrArg DetChan.lastStop own⟩
  refine (congrArg DetChan.dead own).trans ?_
  show dead = _
  simp [dead, c, live, k]

/-! ### The command -/

theorem detection_exec (n : Fin 192) (i : Fin 48) (t : Nat) (s : State) :
    exec (.spadDetection n i t) s = done (s.inCore fun s => (s.advance t).detection n i (s.advance t).now) := rfl

theorem detKept_advance (s : State) (t : Nat) : (s.advance t).detKept = s.detKept := by
  unfold State.detKept
  rw [State.advance_det, flag_advance, fld_advance, fld_advance]

theorem chan_advance (s : State) (t n : Nat) : (s.advance t).chan n = s.chan n := chan_congr (State.advance_det s t) n

theorem spadDetection_off {n : Fin 192} {i : Fin 48} {s : State} (t : Nat)
    (h : s.detKept.enable = false ∨ (s.chan n).mask.getLsbD i = false) :
    Gives (.spadDetection n i t) s fun u => u.det.stops = s.det.stops ∧ Kept s u [] := by
  have none : (s.advance t).detection n i (s.advance t).now = s.advance t := detection_off (by rwa [detKept_advance, chan_advance]) _
  refine ⟨_, detection_exec n i t s, ?_⟩
  cases reset : s.pwr.coreInReset with
  | true =>
    rw [inCore_reset reset]
    exact ⟨settle_detOf DetState.stops s, (Kept.refl s []).settle⟩
  | false =>
    rw [inCore_run reset, none, settle_detOf DetState.stops, State.advance_det]
    exact ⟨rfl, ((Kept.refl s []).advance t).settle⟩

theorem spadDetection_stops {n : Fin 192} {i : Fin 48} {s : State} (t : Nat) (h : s.pwr.coreInReset = false)
    (enable : s.detKept.enable = true) (linked : s.linked n = true) (on : (s.chan n).mask.getLsbD i = true) (live : (s.chan n).dead = [])
    (depth : (s.chan n).depth = 1) (first : (s.chan n).lastStop = none) (window : 0 < s.detKept.window) :
    Does (.spadDetection n i t) s fun u => (∃ e ∈ u.det.stops, e.channel = n.val ∧ e.tick = max s.now t)
      ∧ (u.chan n).dead = [(i.val, max s.now t + 256 * s.detKept.holdoff)] ∧ (u.chan n).lastStop = some (max s.now t) := by
  have link : (s.advance t).linked n = true := by
    rw [linked_congr (State.advance_regs s t) (fun m => ?_), linked]
    unfold State.lane
    rw [State.advance_tdc]
    exact ⟨rfl, rfl⟩
  have effect := detection_stops (s := s.advance t) (n := n) (i := i) (s.advance t).now (by rwa [detKept_advance]) link
    (by rwa [chan_advance]) (by rwa [chan_advance]) (by rwa [chan_advance]) (by rwa [chan_advance]) (by rwa [detKept_advance])
  rw [detKept_advance, State.advance_now] at effect
  refine ⟨_, (detection_exec n i t s).trans (done_inCore h _), ?_⟩
  beta_reduce
  rw [State.advance_now]
  exact effect

end Sys2Proof.Machine
end

section
/-! PROOFS. The enable of the detector, its link and the cooler's status (R106, R114, R116, R117, R119, R121). -/

namespace Sys2Proof.Machine

open Sys2Proof.Laws

/-! ### The enable (R116, R121) -/

theorem detWriteCode_ctrl (s : State) (v : Word) : s.detWriteCode DET_CTRL v =
    (if v.toNat.testBit 0 && !s.flag DET_CTRL_ENABLE && !s.flag DET_STATUS_HV_OK then 0x03 else 0, 0xFFFF) := by
  unfold State.detWriteCode
  exact if_pos rfl

/-- A write of DET_CTRL that passes its check has its effect. -/
theorem detWrite_ctrl {s : State} {v : Word} (h : (v.toNat.testBit 0 && !s.flag DET_CTRL_ENABLE && !s.flag DET_STATUS_HV_OK) = false) :
    s.detWrite DET_CTRL v = s.detCtrl v := by
  unfold State.detWrite
  rw [detWriteCode_ctrl, h]
  dsimp only
  rw [if_neg (by decide), if_pos rfl]

theorem detWrite_unbiased {s : State} {v : Word} (h : (v.toNat.testBit 0 && !s.flag DET_CTRL_ENABLE && !s.flag DET_STATUS_HV_OK) = true) :
    s.detWrite DET_CTRL v = s.refuse DET_CFG_ERR EV_DET_CFG_ERROR 0x03 0xFFFF := by
  unfold State.detWrite
  rw [detWriteCode_ctrl, h]
  dsimp only
  rw [if_pos rfl, if_pos (by decide)]

theorem detectorEnable_exec {p : Port} {s : State} (h : Reaches s p DET_CTRL) (v : BitVec 2) :
    exec (.detectorEnable p v) s = .next (s.detWrite DET_CTRL (v.setWidth 32)).settle := done_unowned h _

theorem enable_bit {v : BitVec 2} (h : v.getLsbD 0 = true) : (v.setWidth 32).toNat.testBit 0 = true := by
  rw [BitVec.testBit_toNat, BitVec.getLsbD_setWidth, h]
  rfl

theorem enable_refused {p : Port} {v : BitVec 2} {s : State} (h : Reaches s p DET_CTRL) (set : v.getLsbD 0 = true)
    (off : s.flag DET_CTRL_ENABLE = false) (bias : s.flag DET_STATUS_HV_OK = false) :
    Gives (.detectorEnable p v) s fun t => t.rdN DET_CFG_ERR = 0x0300FFFF ∧ Logged t EV_DET_CFG_ERROR ∧ Kept s t [DET_CFG_ERR] :=
  ⟨_, (detectorEnable_exec h v).trans (by rw [detWrite_unbiased (by rw [enable_bit set, off, bias]; rfl)]),
    detRefuse_settles s (c := 3) (d := 0xFFFF) (by decide) (by decide)⟩

/-- The survey's period counts from the write that sets SURVEY_AUTO (R108). -/
def State.countPeriod (s : State) (v : Word) : State :=
  if v.toNat.testBit 1 && !s.flag DET_CTRL_SURVEY_AUTO then { s with det := { s.det with surveyAt := s.now } } else s

theorem countPeriod_rd (s : State) (v : Word) (k : Nat) : (s.countPeriod v).rd k = s.rd k := by
  unfold State.countPeriod
  split <;> rfl

theorem Kept.countPeriod (s : State) (v : Word) (keys : List Nat) : Kept s (s.countPeriod v) keys := by
  unfold State.countPeriod
  exact .ite ((Kept.refl s keys).det _) (.refl s keys)

/-- The word that a write of `v` leaves in DET_CTRL. -/
def State.ctrlWord (s : State) (v : Word) : Word := (s.rd DET_CTRL &&& ~~~(BitVec.ofNat 32 3)) ||| (v &&& BitVec.ofNat 32 3)

theorem ctrlWord_enable (s : State) (v : Word) : (s.ctrlWord v).toNat.testBit 0 = v.toNat.testBit 0 := by
  simp only [State.ctrlWord, BitVec.testBit_toNat, BitVec.getLsbD_or, BitVec.getLsbD_and, BitVec.getLsbD_not, BitVec.getLsbD_ofNat]
  simp

theorem detCtrl_enables {s : State} {v : Word} (set : v.toNat.testBit 0 = true) (off : s.flag DET_CTRL_ENABLE = false) :
    s.detCtrl v = (({ (s.countPeriod v).wr DET_CTRL (s.ctrlWord v) with
      det := { (s.countPeriod v).det with firstFrame := true } } : State).setFlag DET_STATUS_HV_FAULT false) := by
  have stored : (s.countPeriod v).plainWrite DET_CTRL DET_CTRL v = (s.countPeriod v).wr DET_CTRL (s.ctrlWord v) := by
    rw [plainWrite_rw (m := 3) _ _ _ _ (by decide), countPeriod_rd]
    rfl
  unfold State.detCtrl
  rw [off, set]
  exact (if_pos rfl).trans (by rw [← stored]; rfl)

theorem enable_enables {p : Port} {v : BitVec 2} {s : State} (h : Reaches s p DET_CTRL) (set : v.getLsbD 0 = true)
    (off : s.flag DET_CTRL_ENABLE = false) (bias : s.flag DET_STATUS_HV_OK = true) :
    Gives (.detectorEnable p v) s fun t => t.flag DET_CTRL_ENABLE = true ∧ t.flag DET_STATUS_HV_FAULT = false
      ∧ t.det.firstFrame = true ∧ Kept s t [DET_CTRL, DET_STATUS] := by
  have run : s.detWrite DET_CTRL (v.setWidth 32) = s.detCtrl (v.setWidth 32) := detWrite_ctrl (by simp [bias])
  refine ⟨_, (detectorEnable_exec h v).trans (by rw [run, detCtrl_enables (enable_bit set) off]), ?_, ?_, ?_, ?_⟩
  · rw [settle_flag _ (by decide), flag_setFlag_other _ _ _ _ (by decide) (by decide) (.inl (by decide)), flag_eq_bit _ rfl]
    exact (congrArg (fun w : Word => w.toNat.testBit 0) (rd_wr_same _ _ _)).trans ((ctrlWord_enable s _).trans (enable_bit set))
  · rw [settle_flag _ (by decide), flag_setFlag_same _ _ _ rfl (by decide)]
  · rw [settle_detOf DetState.firstFrame, State.setFlag_det]
  · refine (Kept.setFlag ?_ _ (by decide)).settle
    exact ((Kept.countPeriod s _ _).wr _ (by decide)).det _

/-! ### The detector link (R117) -/

theorem linkFrame_good {s : State} (h : s.pwr.coreInReset = false) : Gives (.detectorLinkFrame true) s fun t =>
    t.flag DET_STATUS_LINK_OK = true ∧ t.det.replays = 0 ∧ t.det.kept = none ∧ Kept s t [DET_STATUS] := by
  have run : exec (.detectorLinkFrame true) s =
      .next (({ s with det := { s.det with replays := 0, kept := none } } : State).setFlag DET_STATUS_LINK_OK true).settle :=
    (done_inCore h _).trans (congrArg done (if_pos rfl))
  refine ⟨_, run, ?_, ?_, ?_, ?_⟩
  · rw [settle_flag _ (by decide), flag_setFlag_same _ _ _ rfl (by decide)]
  · rw [settle_detOf DetState.replays, State.setFlag_det]
  · rw [settle_detOf DetState.kept, State.setFlag_det]
  · exact (((Kept.refl s _).det _).setFlag _ (by decide)).settle

theorem linkFrame_replayed {s : State} (h : s.pwr.coreInReset = false) (few : s.det.replays < 3) :
    Gives (.detectorLinkFrame false) s fun t => t.det.replays = s.det.replays + 1 ∧ Kept s t [] := by
  have run : exec (.detectorLinkFrame false) s = .next ({ s with det := { s.det with replays := s.det.replays + 1 } } : State).settle :=
    (done_inCore h _).trans (congrArg done ((if_neg (by decide)).trans (if_pos few)))
  exact ⟨_, run, settle_detOf DetState.replays _, ((Kept.refl s _).det _).settle⟩

theorem linkFrame_fails {s : State} (h : s.pwr.coreInReset = false) (many : 3 ≤ s.det.replays) :
    Gives (.detectorLinkFrame false) s fun t => t.flag DET_STATUS_LINK_OK = false ∧ t.det.kept = some s.detKept
      ∧ Logged t EV_DET_LINK_ERROR ∧ Kept s t [DET_STATUS] := by
  let u := ({ s with det := { s.det with replays := 0, kept := some s.detKept } } : State).setFlag DET_STATUS_LINK_OK false
  have run : exec (.detectorLinkFrame false) s = .next (u.raise EV_DET_LINK_ERROR).settle :=
    (done_inCore h _).trans (congrArg done ((if_neg (by decide)).trans (if_neg (Nat.not_lt.mpr many))))
  refine ⟨_, run, ?_, ?_, logged_raise u (by decide), ?_⟩
  · rw [settle_flag _ (by decide)]
    exact flag_setFlag_same _ _ _ rfl (by decide)
  · rw [settle_detOf DetState.kept, State.raise_det, State.setFlag_det]
  · exact ((((Kept.refl s _).det _).setFlag _ (by decide)).raise _).settle

/-! ### The cooler's status (R119) -/

theorem coolerTimer_atSetPoint {t : Nat} {s : State} (h : s.pwr.coreInReset = false) (since : s.det.atSpSince = some t) :
    Does (.coolerStatusTimer false) s fun u => u.flag DET_COOL_STATUS_AT_SP = true ∧ u.now = max s.now (t + 256000000000) := by
  have run : exec (.coolerStatusTimer false) s = .next ((s.advance (t + 256000000000)).setFlag DET_COOL_STATUS_AT_SP true).settle := by
    refine (done_inCore h _).trans ?_
    simp only [Bool.false_eq_true, if_false, since]
  exact ⟨_, run, flag_setFlag_same _ _ _ rfl (by decide), (State.setFlag_now _ _ _).trans (State.advance_now s _)⟩

theorem coolerTimer_saturated {t : Nat} {s : State} (h : s.pwr.coreInReset = false) (since : s.det.satSince = some t)
    (below : s.flag DET_COOL_STATUS_SATURATED = false) :
    Does (.coolerStatusTimer true) s fun u => u.flag DET_COOL_STATUS_SATURATED = true ∧ u.has EV_DET_COOL_SAT = true
      ∧ u.now = max s.now (t + 256000000000) := by
  have run : exec (.coolerStatusTimer true) s =
      .next (((s.advance (t + 256000000000)).setFlag DET_COOL_STATUS_SATURATED true).raise EV_DET_COOL_SAT).settle := by
    refine (done_inCore h _).trans ?_
    simp only [if_true, since, flag_advance, below, Bool.false_eq_true, if_false]
  exact ⟨_, run, (flag_congr (rd_raise _ _ _)).trans (flag_setFlag_same _ _ _ rfl (by decide)), has_raise _ _,
    (State.raise_now _ _).trans ((State.setFlag_now _ _ _).trans (State.advance_now s _))⟩

/-- Settles O21: each command of the detector has one outcome under its hypotheses, and a refusal changes DET_CFG_ERR alone. -/
theorem maskSubmissions : Obligations.MaskSubmissions := by
  unfold Obligations.MaskSubmissions
  exact ⟨⟨fun p n hi s h many => maskSubmit_crowded h many, fun p n hi s h few off => maskSubmit_sentOff h few off,
      fun p n hi s h few on => maskSubmit_waits h few on,
      fun n c m t s h still link chans waits whole on => maskTimer_gives h still link chans waits whole on⟩,
    fun n i t s off => spadDetection_off t off,
    fun n i t s h enable linked on live depth first window => spadDetection_stops t h enable linked on live depth first window,
    fun p v s h set off bias => enable_refused h set off bias, fun p v s h set off bias => enable_enables h set off bias,
    fun s h => linkFrame_good h, fun s h few => linkFrame_replayed h few, fun s h many => linkFrame_fails h many,
    fun t s h since => coolerTimer_atSetPoint h since, fun t s h since below => coolerTimer_saturated h since below⟩

end Sys2Proof.Machine
end

section
/-! SUPPORT. The lanes of the converter: what each of their updates leaves, and what an edge and a stop do to a lane (R127, R128, R132, R134). -/

namespace Sys2Proof.Machine

open Sys2Proof.Laws

theorem lane_congr {s t : State} (h : t.tdc = s.tdc) (l : Nat) : t.lane l = s.lane l :=
  congrArg (fun x : TdcState => tabGet Lane.init x.lanes l) h

theorem laneRole_congr {s t : State} {l : Nat} (h : t.rd (TDC_LANE_STATUS l) = s.rd (TDC_LANE_STATUS l)) : t.laneRole l = s.laneRole l :=
  fld_congr h

@[simp] theorem lane_advance (s : State) (t l : Nat) : (s.advance t).lane l = s.lane l := lane_congr (State.advance_tdc s t) l

@[simp] theorem laneRole_advance (s : State) (t l : Nat) : (s.advance t).laneRole l = s.laneRole l := laneRole_congr (rd_advance s t _)

@[simp] theorem rd_setLane (s : State) (l : Nat) (x : Lane) (k : Nat) : (s.setLane l x).rd k = s.rd k := rfl
@[simp] theorem fld_setLane (s : State) (l : Nat) (x : Lane) (f : Fld) : (s.setLane l x).fld f = s.fld f := rfl
@[simp] theorem flag_setLane (s : State) (l : Nat) (x : Lane) (f : Fld) : (s.setLane l x).flag f = s.flag f := rfl

/-! ### Counting an edge (R134, R135, R138) -/

/-- The lane with an edge noted at tick `now` where it is an ambient one. -/
def Lane.noteEdge (x : Lane) (now : Nat) (generated : Bool) : Lane :=
  if generated then x
  else { x with ambient := match x.ambient.getLast? with
                  | some (t, n) => if t = now then x.ambient.dropLast ++ [(t, n + 1)] else x.ambient ++ [(now, 1)]
                  | none => [(now, 1)] }

/-- The lane with an edge counted in the run that is collected. -/
def Lane.countCode (x : Lane) (fine : Nat) : Lane :=
  if x.second then { x with runB := tabSet 0 x.runB fine (tabGet 0 x.runB fine + 1), edges := x.edges + 1 }
  else { x with runA := tabSet 0 x.runA fine (tabGet 0 x.runA fine + 1), edges := x.edges + 1 }

/-- The lane as an edge leaves it. -/
def Lane.edge (x : Lane) (fine now : Nat) (generated run : Bool) : Lane :=
  let y := x.noteEdge now generated
  if run && y.edges < 16384 then y.countCode fine else y

theorem countEdge_eq (s : State) (l fine : Nat) (g : Bool) :
    s.countEdge l fine g = s.setLane l ((s.lane l).edge fine s.now g (s.flag TDC_CTRL_CAL_RUN)) :=
  (apply_ite (s.setLane l) _ _ _).symm

/-- What an edge leaves of a lane: all but the counts of the runs and the ambient edges. -/
theorem noteEdge_keeps {α : Type} (f : Lane → α) (x : Lane) (now : Nat) (g : Bool)
    (h : ∀ (y : Lane) (a : List (Nat × Nat)), f { y with ambient := a } = f y := by intros; rfl) : f (x.noteEdge now g) = f x := by
  unfold Lane.noteEdge
  split
  · rfl
  · exact h x _

theorem edge_keeps {α : Type} (f : Lane → α) (x : Lane) (fine now : Nat) (g run : Bool)
    (h : ∀ (y : Lane) (a b c : List (Nat × Nat)) (n : Nat), f { y with ambient := a, runA := b, runB := c, edges := n } = f y := by
      intros; rfl) : f (x.edge fine now g run) = f x := by
  have note : f (x.noteEdge now g) = f x := noteEdge_keeps f x now g fun y a => h y a y.runA y.runB y.edges
  unfold Lane.edge Lane.countCode
  dsimp only
  split
  · split
    · exact (h _ _ _ _ _).trans note
    · exact (h _ _ _ _ _).trans note
  · exact note

/-- While the run is on, an edge counts at its code in the first run of a pair. -/
theorem edge_firstRun {x : Lane} (fine now : Nat) (g : Bool) (few : x.edges < 16384) (first : x.second = false) :
    (x.edge fine now g true).edges = x.edges + 1 ∧ tabGet 0 (x.edge fine now g true).runA fine = tabGet 0 x.runA fine + 1 := by
  have edges := noteEdge_keeps Lane.edges x now g
  have runA := noteEdge_keeps Lane.runA x now g
  have second := noteEdge_keeps Lane.second x now g
  have counted : x.edge fine now g true = (x.noteEdge now g).countCode fine := if_pos (by simpa [edges] using few)
  rw [counted, Lane.countCode, if_neg (by simp [second, first]), ← edges, ← runA]
  refine ⟨rfl, ?_⟩
  dsimp only
  exact tabGet_tabSet_same 0 _ fine _

/-! ### A stop (R127, R132) -/

/-- Reference stops fall in the first window of a line alone. -/
theorem reference_later {x : Lane} (h : x.first = false) (t : Nat) : x.reference t = x := if_neg (by simp [h])

theorem laneEvent_rd (s : State) (src l : Nat) {k : Nat} (h : k ≠ TDC_EVT_INFO) : (s.laneEvent src l).rd k = s.rd k :=
  rd_wr_other s _ h

/-- Counting a dropped stop leaves the lanes and the detector. -/
theorem dropStop_effect (s : State) (l : Nat) {f : Fld} (hl : f.lo ≤ f.hi) (hh : f.hi < 32) (h : f.reg ≠ TDC_EVT_INFO) :
    (s.dropStop l f).det = s.det ∧ (∀ m, (s.dropStop l f).lane m = s.lane m)
      ∧ (s.dropStop l f).fld f = min (2 ^ (f.hi + 1 - f.lo) - 1) (s.fld f + 1) := by
  have count := fld_bump_same s f 1 hl hh
  unfold State.dropStop
  dsimp only
  split
  · exact ⟨rfl, fun _ => rfl, count⟩
  · refine ⟨rfl, fun _ => rfl, (fld_congr (laneEvent_rd _ _ _ h)).trans ?_⟩
    exact count

/-- What a stop that is dropped leaves: its mark on the lane, and its counter. -/
theorem dropMarked_effect (s : State) (l : Nat) (x : Lane) {f : Fld} (hf : f.hi = f.lo + 7) (hh : f.hi < 32)
    (h : f.reg ≠ TDC_EVT_INFO) :
    ((s.setLane l x).dropStop l f).det = s.det ∧ ((s.setLane l x).dropStop l f).lane l = x
      ∧ ((s.setLane l x).dropStop l f).fld f = min 255 (s.fld f + 1) := by
  obtain ⟨det, lane, count⟩ := dropStop_effect (s.setLane l x) l (f := f) (by omega) hh h
  refine ⟨det, (lane l).trans (lane_setLane_same s l x), count.trans ?_⟩
  rw [show f.hi + 1 - f.lo = 8 by omega]
  rfl

theorem takeStop_spacing {s : State} {l t k : Nat} (later : (s.lane l).first = false) (last : (s.lane l).lastTaken = some k)
    (near : t < k + 256) (coarse fine depth : Nat) (pile : Bool) (link : Option Nat) :
    s.takeStop l t coarse fine depth pile link
      = ((s.setLane l (s.lane l)).setLane l { s.lane l with spacingDrop := true }).dropStop l (TDC_DROP_SPACING l) := by
  unfold State.takeStop
  rw [reference_later later]
  exact if_pos (by simpa [last] using near)

theorem takeStop_crowded {s : State} {l : Nat} (t : Nat) (later : (s.lane l).first = false) (last : (s.lane l).lastTaken = none)
    (idle : (s.lane l).osc = []) (full : 16 ≤ (s.lane l).taken) (coarse fine depth : Nat) (pile : Bool) (link : Option Nat) :
    s.takeStop l t coarse fine depth pile link
      = ((s.setLane l (s.lane l)).setLane l { s.lane l with countLimit := true }).dropStop l (TDC_DROP_COUNT l) := by
  unfold State.takeStop
  rw [reference_later later]
  exact (if_neg (by simp [last])).trans ((if_neg (by simp [idle])).trans (if_pos full))

/-- The lane with a stop taken and its stamp in the output stage. -/
def Lane.stamped (x : Lane) (t coarse fine depth : Nat) (pile : Bool) (link : Option Nat) : Lane :=
  { x.launch t with taken := x.taken + 1,
                    grow := match link with | some e => x.grow ++ [(e, x.out.length + 1)] | none => x.grow,
                    out := x.out ++ stampWords coarse fine x.taken depth pile }

theorem takeStop_taken {s : State} {l : Nat} (t : Nat) (later : (s.lane l).first = false) (last : (s.lane l).lastTaken = none)
    (idle : (s.lane l).osc = []) (few : (s.lane l).taken < 16) (item : (s.lane l).noItem = false) (room : (s.lane l).out.length ≤ 65)
    (coarse fine depth : Nat) (pile : Bool) (link : Option Nat) :
    s.takeStop l t coarse fine depth pile link
      = let u := (s.setLane l (s.lane l)).setLane l ((s.lane l).stamped t coarse fine depth pile link)
        if s.laneRole l = 0 then u else u.countEdge l fine true := by
  unfold State.takeStop
  rw [reference_later later]
  extract_lets x s1 grow s2
  rw [if_neg (by simp [x, last]), if_neg (by simp [x, idle]), if_neg (Nat.not_le.mpr few), if_neg (by simpa [x, item] using room)]
  rfl

/-- A stop that passes every check adds its stamp, and on a lane out of service counts in the run. -/
theorem takeStop_effect {s : State} {l : Nat} (t : Nat) (later : (s.lane l).first = false) (last : (s.lane l).lastTaken = none)
    (idle : (s.lane l).osc = []) (few : (s.lane l).taken < 16) (item : (s.lane l).noItem = false) (room : (s.lane l).out.length ≤ 65)
    (coarse fine depth : Nat) (pile : Bool) (link : Option Nat) :
    let u := s.takeStop l t coarse fine depth pile link
    let y := (s.lane l).stamped t coarse fine depth pile link
    u.det = s.det ∧ u.freeCount = s.freeCount
      ∧ u.lane l = if s.laneRole l = 0 then y else y.edge fine s.now true (s.flag TDC_CTRL_CAL_RUN) := by
  rw [takeStop_taken t later last idle few item room]
  dsimp only
  split
  · simp only [State.setLane_det, State.setLane_freeCount, lane_setLane_same, and_self]
  · simp only [countEdge_eq, State.setLane_det, State.setLane_freeCount, State.setLane_now, flag_setLane, lane_setLane_same, and_self]

end Sys2Proof.Machine
end

section
/-! PROOFS. Stops at a lane, and the end of its coarse counter (R125, R127, R129, R134, R143). -/

namespace Sys2Proof.Machine

open Sys2Proof.Laws

/-! ### The end of a window (R125, R128, R132) -/

/-- What the CLOSE word of a lane's item is made of, and the output stage that it joins. -/
def Lane.item (x : Lane) : List (BitVec 16) × Bool × Nat × Bool × Bool × Bool × Bool × Bool :=
  (x.out, x.noItem, x.taken, x.overflow, x.countLimit, x.busyDrop, x.spacingDrop, x.gen)

theorem takeA_item (n : Nat) (x : Lane) (t : Nat) : (Lane.takeA n x t).item = x.item := by
  induction n generalizing x with
  | zero => rfl
  | succ n ih =>
    unfold Lane.takeA
    dsimp only
    split
    · rfl
    · rw [ih]
      split <;> rfl

theorem takeB_item (n : Nat) (x : Lane) (t : Nat) : (Lane.takeB n x t).item = x.item := by
  induction n generalizing x with
  | zero => rfl
  | succ n ih =>
    unfold Lane.takeB
    dsimp only
    split
    · rfl
    · split
      · rw [ih]
        split <;> rfl
      · split
        · rfl
        · split <;> rfl

/-- Reference stops are no part of an item. -/
theorem reference_item (x : Lane) (t : Nat) : (x.reference t).item = x.item := by
  unfold Lane.reference
  split
  · rw [takeB_item, takeA_item]
  · rfl

theorem close_out {x : Lane} (opened : x.openWin = true) (item : x.noItem = false) (t : Nat) (cut coarseEnd : Bool) :
    (x.close t cut coarseEnd).out
      = x.out ++ [closeWord x.taken x.overflow x.countLimit x.busyDrop x.spacingDrop cut x.gen coarseEnd] := by
  have same := reference_item x (min t x.closeAt)
  simp only [Lane.item, Prod.mk.injEq] at same
  obtain ⟨out, none, taken, overflow, count, busy, spacing, gen⟩ := same
  unfold Lane.close
  rw [if_pos opened]
  dsimp only
  rw [out, none, taken, overflow, count, busy, spacing, gen, item]
  rfl

theorem coarseEnd_does {l : Fin 208} {s : State} (h : s.pwr.coreInReset = false) (opened : (s.lane l).openWin = true)
    (item : (s.lane l).noItem = false) (before : (s.lane l).start + s.rdN (TDC_PERIOD l) / 4 < (s.lane l).closeAt) :
    Does (.coarseCounterEnd l) s fun u => (u.lane l).openWin = false ∧ u.now = max s.now ((s.lane l).start + s.rdN (TDC_PERIOD l) / 4)
      ∧ (u.lane l).out = (s.lane l).out ++ [closeWord (s.lane l).taken (s.lane l).overflow (s.lane l).countLimit (s.lane l).busyDrop
          (s.lane l).spacingDrop false (s.lane l).gen true] := by
  let w := s.advance ((s.lane l).start + s.rdN (TDC_PERIOD l) / 4)
  have same : w.lane l = s.lane l := lane_advance s _ l
  have closed : (w.closeLane l false true).lane l = (s.lane l).close w.now false true :=
    (lane_setLane_same w l _).trans (congrArg (fun x : Lane => x.close w.now false true) same)
  refine ⟨w.closeLane l false true, (done_inCore h _).trans (congrArg done (if_pos (by simp [opened, before]))), ?_, State.advance_now s _, ?_⟩
  · rw [closed, close_openWin]
  · rw [closed, close_out opened item]

/-! ### Stops (R127, R129, R143) -/

/-- What a stop at a lane does once its tick is reached. -/
def State.arrive (s : State) (l coarse fine : Nat) : State :=
  let x := s.lane l
  let inside := x.openWin && decide (s.now < x.closeAt)
  if x.openWin && x.gen then
    if inside && s.genPlaces x s.now then
      let s := s.setLane l { x with genCount := x.genCount + 1, lastGen := some s.now }
      let (r, s) := s.fresh
      s.takeStop l s.now coarse fine (r % 8) (r.testBit 3) none
    else s
  else
    match takeEdge (s.fld (TDC_LANE_STATUS_CHANNEL l)) s.det.stops with
    | none => s
    | some (e, rest) =>
      let s : State := { s with det := { s.det with stops := rest } }
      if inside then s.takeStop l s.now coarse fine e.depth e.pile (some e.tick) else s

theorem stopArrival_exec {s : State} (h : s.pwr.coreInReset = false) (l : Fin 208) (t : Nat) (coarse : BitVec 14) (fine : BitVec 6) :
    exec (.stopArrival l t coarse fine) s = .next ((s.advance t).arrive l coarse.toNat fine.toNat).settle := done_inCore h _

/-- The state with a channel's oldest stop edge off its link. -/
def State.unlink (s : State) (rest : List StopEdge) : State := { s with det := { s.det with stops := rest } }

/-- A window that its channel's stops enter takes the oldest edge of the link. -/
theorem arrive_linked {s : State} {l : Nat} {e : StopEdge} {rest : List StopEdge} (opened : (s.lane l).openWin = true)
    (own : (s.lane l).gen = false) (oldest : takeEdge (s.fld (TDC_LANE_STATUS_CHANNEL l)) s.det.stops = some (e, rest))
    (inside : s.now < (s.lane l).closeAt) (coarse fine : Nat) :
    s.arrive l coarse fine = (s.unlink rest).takeStop l s.now coarse fine e.depth e.pile (some e.tick) := by
  unfold State.arrive
  dsimp only
  rw [if_neg (by simp [own]), oldest]
  exact if_pos (by simp [opened, inside])

/-- A window that the generator fills takes its edge where the generator may place one. -/
theorem arrive_generated {s : State} {l : Nat} (opened : (s.lane l).openWin = true) (gen : (s.lane l).gen = true)
    (inside : s.now < (s.lane l).closeAt) (places : s.genPlaces (s.lane l) s.now = true) (coarse fine : Nat) :
    s.arrive l coarse fine
      = (s.setLane l { s.lane l with genCount := (s.lane l).genCount + 1, lastGen := some s.now }).fresh.2.takeStop l s.now coarse fine
          (Config.free s.freeCount % 8) ((Config.free s.freeCount).testBit 3) none := by
  unfold State.arrive
  dsimp only
  rw [if_pos (by simp [opened, gen]), if_pos (by simp [opened, inside, places])]
  rfl

section
variable {s : State} {l : Fin 208} {t : Nat} {coarse : BitVec 14} {fine : BitVec 6} {e : StopEdge} {rest : List StopEdge}

/-- The lane is in service, its channel's oldest stop edge is `e`, and its window, not the line's first, takes it at tick `t`. -/
def StopComes (s : State) (l : Fin 208) (t : Nat) (e : StopEdge) (rest : List StopEdge) : Prop :=
  (s.pwr.coreInReset = false ∧ (s.lane l).openWin = true ∧ (s.lane l).gen = false ∧ (s.lane l).first = false ∧ s.laneRole l = 0
    ∧ takeEdge (s.fld (TDC_LANE_STATUS_CHANNEL l)) s.det.stops = some (e, rest))
    ∧ max s.now t < (s.lane l).closeAt ∧ (s.lane l).noItem = false

theorem stopArrival_linked (h : StopComes s l t e rest) : exec (.stopArrival l t coarse fine) s
    = .next (((s.advance t).unlink rest).takeStop l (max s.now t) coarse.toNat fine.toNat e.depth e.pile (some e.tick)).settle := by
  obtain ⟨⟨core, opened, own, later, role, oldest⟩, inside, item⟩ := h
  rw [stopArrival_exec core, arrive_linked (s := s.advance t) (by rwa [lane_advance]) (by rwa [lane_advance])
    (by rwa [fld_advance, State.advance_det]) (by rwa [State.advance_now, lane_advance]), State.advance_now]

theorem unlink_lane (s : State) (t : Nat) (rest : List StopEdge) (l : Nat) : ((s.advance t).unlink rest).lane l = s.lane l :=
  lane_advance s t l

theorem unlink_fld (s : State) (t : Nat) (rest : List StopEdge) (f : Fld) : ((s.advance t).unlink rest).fld f = s.fld f :=
  fld_advance s t f

theorem stopArrival_taken (h : StopComes s l t e rest) (last : (s.lane l).lastTaken = none) (idle : (s.lane l).osc = [])
    (few : (s.lane l).taken < 16) (room : (s.lane l).out.length ≤ 65) :
    Does (.stopArrival l t coarse fine) s fun u => u.det.stops = rest ∧ (u.lane l).taken = (s.lane l).taken + 1
      ∧ (u.lane l).lastTaken = some (max s.now t)
      ∧ (u.lane l).out = (s.lane l).out ++ stampWords coarse.toNat fine.toNat (s.lane l).taken e.depth e.pile := by
  refine ⟨_, stopArrival_linked h, ?_⟩
  obtain ⟨⟨-, -, -, later, role, -⟩, -, item⟩ := h
  obtain ⟨det, -, lane⟩ := takeStop_effect (s := (s.advance t).unlink rest) (l := l) (max s.now t) (by rwa [unlink_lane])
    (by rwa [unlink_lane]) (by rwa [unlink_lane]) (by rwa [unlink_lane]) (by rwa [unlink_lane]) (by rwa [unlink_lane])
    coarse.toNat fine.toNat e.depth e.pile (some e.tick)
  have served : ((s.advance t).unlink rest).laneRole l = 0 := (unlink_fld s t rest _).trans role
  rw [if_pos served, unlink_lane] at lane
  rw [det, lane]
  exact ⟨rfl, rfl, rfl, rfl⟩

theorem stopArrival_spacing {k : Nat} (h : StopComes s l t e rest) (last : (s.lane l).lastTaken = some k) (near : max s.now t < k + 256) :
    Does (.stopArrival l t coarse fine) s fun u => u.det.stops = rest ∧ (u.lane l).out = (s.lane l).out ∧ (u.lane l).spacingDrop = true
      ∧ u.fld (TDC_DROP_SPACING l) = min 255 (s.fld (TDC_DROP_SPACING l) + 1) := by
  refine ⟨_, stopArrival_linked h, ?_⟩
  obtain ⟨⟨-, -, -, later, -, -⟩, -, -⟩ := h
  rw [takeStop_spacing (by rwa [unlink_lane]) (by rwa [unlink_lane]) near, unlink_lane]
  obtain ⟨det, lane, count⟩ := dropMarked_effect (((s.advance t).unlink rest).setLane l (s.lane l)) l
    { s.lane l with spacingDrop := true } (f := TDC_DROP_SPACING l) rfl (by simp [TDC_DROP_SPACING]) (by simp [TDC_DROP_SPACING, TDC_DROP, TDC_EVT_INFO]; omega)
  rw [det, lane, count, fld_setLane, unlink_fld]
  exact ⟨rfl, rfl, rfl, rfl⟩

theorem stopArrival_count (h : StopComes s l t e rest) (last : (s.lane l).lastTaken = none) (idle : (s.lane l).osc = [])
    (full : 16 ≤ (s.lane l).taken) :
    Does (.stopArrival l t coarse fine) s fun u => u.det.stops = rest ∧ (u.lane l).out = (s.lane l).out ∧ (u.lane l).countLimit = true
      ∧ u.fld (TDC_DROP_COUNT l) = min 255 (s.fld (TDC_DROP_COUNT l) + 1) := by
  refine ⟨_, stopArrival_linked h, ?_⟩
  obtain ⟨⟨-, -, -, later, -, -⟩, -, -⟩ := h
  rw [takeStop_crowded _ (by rwa [unlink_lane]) (by rwa [unlink_lane]) (by rwa [unlink_lane]) (by rwa [unlink_lane]), unlink_lane]
  obtain ⟨det, lane, count⟩ := dropMarked_effect (((s.advance t).unlink rest).setLane l (s.lane l)) l
    { s.lane l with countLimit := true } (f := TDC_DROP_COUNT l) rfl (by simp [TDC_DROP_COUNT]) (by simp [TDC_DROP_COUNT, TDC_DROP, TDC_EVT_INFO]; omega)
  rw [det, lane, count, fld_setLane, unlink_fld]
  exact ⟨rfl, rfl, rfl, rfl⟩

theorem stopArrival_generated (core : s.pwr.coreInReset = false) (opened : (s.lane l).openWin = true) (gen : (s.lane l).gen = true)
    (later : (s.lane l).first = false) (inside : max s.now t < (s.lane l).closeAt) (item : (s.lane l).noItem = false)
    (places : s.genPlaces (s.lane l) (max s.now t) = true) (last : (s.lane l).lastTaken = none) (idle : (s.lane l).osc = [])
    (few : (s.lane l).taken < 16) (room : (s.lane l).out.length ≤ 65) :
    Does (.stopArrival l t coarse fine) s fun u => u.freeCount = s.freeCount + 1 ∧ (u.lane l).genCount = (s.lane l).genCount + 1
      ∧ (∃ d p, (u.lane l).out = (s.lane l).out ++ stampWords coarse.toNat fine.toNat (s.lane l).taken d p)
      ∧ (s.laneRole l ≠ 0 → s.flag TDC_CTRL_CAL_RUN = true → (s.lane l).edges < 16384 → (s.lane l).second = false →
          tabGet 0 (u.lane l).runA fine.toNat = tabGet 0 (s.lane l).runA fine.toNat + 1) := by
  have placed : (s.advance t).genPlaces ((s.advance t).lane l) (s.advance t).now = true := by
    unfold State.genPlaces
    rw [fld_advance, fld_advance, lane_advance, State.advance_now]
    exact places
  let y : Lane := { s.lane l with genCount := (s.lane l).genCount + 1, lastGen := some (max s.now t) }
  let d := Config.free s.freeCount % 8
  let p := (Config.free s.freeCount).testBit 3
  let w := ((s.advance t).setLane l y).fresh.2
  have own : w.lane l = y := lane_setLane_same _ l y
  have run : exec (.stopArrival l t coarse fine) s = .next (w.takeStop l (max s.now t) coarse.toNat fine.toNat d p none).settle := by
    rw [stopArrival_exec core, arrive_generated (by rwa [lane_advance]) (by rwa [lane_advance]) (by rwa [State.advance_now, lane_advance])
      placed, lane_advance, State.advance_now, State.advance_freeCount]
  refine ⟨_, run, ?_⟩
  obtain ⟨-, free, lane⟩ := takeStop_effect (s := w) (l := l) (max s.now t) (by rwa [own]) (by rwa [own]) (by rwa [own]) (by rwa [own])
    (by rwa [own]) (by rwa [own]) coarse.toNat fine.toNat d p none
  rw [own, show w.laneRole l = s.laneRole l from laneRole_advance s t l,
    show w.flag TDC_CTRL_CAL_RUN = s.flag TDC_CTRL_CAL_RUN from flag_advance s t _] at lane
  rw [free, lane]
  refine ⟨congrArg (· + 1) (State.advance_freeCount s t), ?_, ⟨d, p, ?_⟩, fun role on few' first => ?_⟩
  · rw [apply_ite Lane.genCount, edge_keeps Lane.genCount]
    exact ite_self _
  · rw [apply_ite Lane.out, edge_keeps Lane.out]
    exact ite_self _
  · rw [if_neg role, on]
    exact (edge_firstRun (x := y.stamped (max s.now t) coarse.toNat fine.toNat d p none) fine.toNat w.now true few' first).2

end

/-- Settles O23: a stop passes or fails the checks in their order, and the counter's end closes the window with the item's CLOSE word. -/
theorem stopsPassTheChecks : Obligations.StopsPassTheChecks := by
  unfold Obligations.StopsPassTheChecks
  exact ⟨fun l t coarse fine e rest s isOpen inside => stopArrival_taken ⟨isOpen, inside⟩,
    fun l t k coarse fine e rest s isOpen inside => stopArrival_spacing ⟨isOpen, inside⟩,
    fun l t coarse fine e rest s isOpen inside => stopArrival_count ⟨isOpen, inside⟩,
    fun l t coarse fine s core opened gen later ⟨inside, item⟩ => stopArrival_generated core opened gen later inside item,
    fun l s h opened item before => coarseEnd_does h opened item before⟩

end Sys2Proof.Machine
end

section
/-! PROOFS. Code-density runs and the line's measurement of a lane (R132, R133, R134, R135). -/

namespace Sys2Proof.Machine

open Sys2Proof.Laws

/-! ### Edges on their way back (R134) -/

theorem classParity_effect (s : State) (k : Nat) (bad : Bool) : (s.classParity k bad).tdc = s.tdc
    ∧ ∀ f : Fld, f.reg ≠ BGT_PARITY k → (s.classParity k bad).flag f = s.flag f := by
  unfold State.classParity
  split
  · exact ⟨rfl, fun f h => flag_congr (rd_wr_other s _ h)⟩
  · exact ⟨rfl, fun _ _ => rfl⟩

/-- The returns with the next fine code of lane `l` taken out, and that code counted. -/
def State.countReturn (s : State) (l f : Nat) (generated : Bool) (rest : List CalReturn) : State :=
  ({ s with tdc := { s.tdc with returns := rest } } : State).countEdge l f generated

theorem countReturn_effect {s : State} {l : Nat} (f : Nat) (g : Bool) (rest : List CalReturn) (run : s.flag TDC_CTRL_CAL_RUN = true)
    (few : (s.lane l).edges < 16384) (first : (s.lane l).second = false) :
    (s.countReturn l f g rest).tdc.returns = rest ∧ ((s.countReturn l f g rest).lane l).edges = (s.lane l).edges + 1
      ∧ tabGet 0 ((s.countReturn l f g rest).lane l).runA f = tabGet 0 (s.lane l).runA f + 1 := by
  have lane : (s.countReturn l f g rest).lane l = (s.lane l).edge f s.now g true := by
    unfold State.countReturn
    rw [countEdge_eq, lane_setLane_same, ← run]
    rfl
  rw [lane]
  refine ⟨?_, edge_firstRun f s.now g few first⟩
  unfold State.countReturn
  rw [countEdge_eq]
  rfl

theorem takeReturn_only (l f : Nat) (g : Bool) : takeReturn l [⟨l, [f], g⟩] = some (f, g, []) := if_pos rfl

theorem calibrationEdge_counts {l : Fin 208} {f : Nat} {g : Bool} (bad : Bool) {s : State} (h : s.pwr.coreInReset = false)
    (only : s.tdc.returns = [⟨l.val, [f], g⟩]) (run : s.flag TDC_CTRL_CAL_RUN = true) (few : (s.lane l).edges < 16384)
    (first : (s.lane l).second = false) :
    Does (.calibrationEdge l bad) s fun u => u.tdc.returns = [] ∧ (u.lane l).edges = (s.lane l).edges + 1
      ∧ tabGet 0 (u.lane l).runA f = tabGet 0 (s.lane l).runA f + 1 := by
  obtain ⟨tdc, flags⟩ := classParity_effect s 1 bad
  have own : (s.classParity 1 bad).lane l = s.lane l := lane_congr tdc l
  refine ⟨(s.classParity 1 bad).countReturn l f g [], (done_inCore h _).trans ?_, ?_⟩
  · dsimp only
    rw [only, takeReturn_only]
    rfl
  · have effect := countReturn_effect (s := s.classParity 1 bad) (l := l) f g [] ((flags _ (by decide)).trans run) (by rwa [own])
      (by rwa [own])
    rwa [own] at effect

/-! ### The end of a run (R135) -/

theorem runComplete_exec {s : State} (h : s.pwr.coreInReset = false) (l : Fin 208) :
    exec (.calRunComplete l) s = .next (s.runComplete l).settle := done_inCore h _

theorem calRunComplete_first {l : Fin 208} {s : State} (h : s.pwr.coreInReset = false) (full : 16384 ≤ (s.lane l).edges)
    (first : (s.lane l).second = false) :
    Does (.calRunComplete l) s fun u => u.lane l = { s.lane l with second := true, edges := 0 } := by
  have run : s.runComplete l = s.setLane l { s.lane l with second := true, edges := 0 } :=
    (if_neg (Nat.not_lt.mpr full)).trans (if_pos (by simp [first]))
  refine ⟨_, runComplete_exec h l, ?_⟩
  rw [run]
  exact lane_setLane_same s l _

theorem calRunComplete_second {l : Fin 208} {s : State} (h : s.pwr.coreInReset = false) (full : 16384 ≤ (s.lane l).edges)
    (second : (s.lane l).second = true)
    (passes : pairOk (tabGet 0 (s.lane l).runA) (tabGet 0 (s.lane l).runB) (s.rdN (TDC_PERIOD l)) (s.fld TDC_CAL_CFG_AGREE_TOL)
      (s.fld TDC_CAL_CFG_MIN_COUNT) (s.fld TDC_CAL_CFG_MAX_COUNT) (s.fld TDC_CAL_CFG_TOP_MAX) = true) :
    Does (.calRunComplete l) s fun u => (u.lane l).tableNext = some (buildTable (tabGet 0 (s.lane l).runA) (tabGet 0 (s.lane l).runB))
      ∧ (u.lane l).second = false ∧ (u.lane l).edges = 0 ∧ u.fld (TDC_LANE_STATUS_FAIL_STREAK l) = 0 := by
  let x : Lane := { s.lane l with second := false, edges := 0, runA := [], runB := [],
                                  tableNext := some (buildTable (tabGet 0 (s.lane l).runA) (tabGet 0 (s.lane l).runB)) }
  have run : s.runComplete l = (s.setLane l x).setFld (TDC_LANE_STATUS_FAIL_STREAK l) 0 := by
    unfold State.runComplete
    dsimp only
    rw [if_neg (Nat.not_lt.mpr full), if_neg (by simp [second]), if_pos passes]
  have lane : (s.runComplete l).lane l = x := by rw [run, lane_congr (State.setFld_tdc _ _ _), lane_setLane_same]
  refine ⟨_, runComplete_exec h l, ?_⟩
  beta_reduce
  rw [lane, run, fld_setFld_same _ _ _ (by simp [TDC_LANE_STATUS_FAIL_STREAK]) (by simp [TDC_LANE_STATUS_FAIL_STREAK])]
  exact ⟨rfl, rfl, rfl, Nat.zero_mod _⟩

/-! ### The line's measurement (R132, R133) -/

/-- Where an edge stands on a lane's time scale, in periods. -/
def State.position (s : State) (l : Nat) (e : BitVec 14 × BitVec 6) : Rat :=
  (e.1.toNat : Rat) + (tableEntry (s.tableWords l) e.2.toNat : Rat) / 65536

/-- Period and skew that the line's reference stops give, where they were taken at least 100 ns apart. -/
def State.measured (s : State) (l : Nat) (a b : BitVec 14 × BitVec 6) : Option (Rat × Rat) :=
  match (s.lane l).refA, (s.lane l).refB with
  | some ta, some tb =>
    let d := s.position l b - s.position l a
    if tb < ta + 25600 || d ≤ 0 then none
    else some (((tb - ta : Nat) : Rat) / d, ((tb - ta : Nat) : Rat) / d * s.position l a - ((ta : Rat) - ((s.lane l).refStart : Rat)))
  | _, _ => none

/-- The state with the measurement's result kept, or counted as skipped. -/
def State.keepMeasured (s : State) (l : Nat) (r : Option (Rat × Rat)) : State :=
  (if r.isNone then s.wrN TDC_PERIOD_SKIPS (s.rdN TDC_PERIOD_SKIPS + 1) else s).setLane l
    { s.lane l with measDue := false, ownDue := false, meas := (r.toList ++ (s.lane l).meas).take 8 }

/-- A measurement that is due is kept or skipped; beyond that at most the channel-line that awaits it changes. -/
theorem periodDone_due {s : State} {l : Nat} (due : (s.lane l).measDue = true) (closed : (s.lane l).openWin = false)
    (a b : BitVec 14 × BitVec 6) : (s.periodDone l a b).tdc = (s.keepMeasured l (s.measured l a b)).tdc
      ∧ ∀ k, (s.periodDone l a b).rd k = (s.keepMeasured l (s.measured l a b)).rd k := by
  unfold State.periodDone
  dsimp only
  rw [if_neg (by simp [due, closed])]
  split
  · split
    · exact ⟨rfl, fun _ => rfl⟩
    · exact ⟨rfl, fun _ => rfl⟩
  · exact ⟨rfl, fun _ => rfl⟩

theorem keepMeasured_lane (s : State) (l : Nat) (r : Option (Rat × Rat)) : (s.keepMeasured l r).lane l
    = { s.lane l with measDue := false, ownDue := false, meas := (r.toList ++ (s.lane l).meas).take 8 } := lane_setLane_same _ _ _

theorem periodMeasurementDone_due {l : Fin 208} {s : State} (h : s.pwr.coreInReset = false) (due : (s.lane l).measDue = true)
    (closed : (s.lane l).openWin = false) (a b : BitVec 14 × BitVec 6) :
    Does (.periodMeasurementDone l a b) s fun u => u.rd TDC_PERIOD_SKIPS = (s.keepMeasured l (s.measured l a b)).rd TDC_PERIOD_SKIPS
      ∧ (u.lane l).measDue = false ∧ (u.lane l).meas = ((s.measured l a b).toList ++ (s.lane l).meas).take 8 := by
  obtain ⟨tdc, regs⟩ := periodDone_due due closed a b
  refine ⟨_, done_inCore h _, regs _, ?_⟩
  rw [lane_congr tdc, keepMeasured_lane]
  exact ⟨rfl, rfl⟩

theorem periodMeasurementDone_skipped {l : Fin 208} {s : State} (h : s.pwr.coreInReset = false) (due : (s.lane l).measDue = true)
    (closed : (s.lane l).openWin = false) (missing : (s.lane l).refA = none ∨ (s.lane l).refB = none) (a b : BitVec 14 × BitVec 6) :
    Does (.periodMeasurementDone l a b) s fun u => u.rd TDC_PERIOD_SKIPS = s.rd TDC_PERIOD_SKIPS + 1 ∧ (u.lane l).measDue = false
      ∧ (u.lane l).meas = (s.lane l).meas.take 8 := by
  have none : s.measured l a b = none := by
    unfold State.measured
    rcases missing with ha | hb
    · rw [ha]
    · rw [hb]
      cases (s.lane l).refA <;> rfl
  obtain ⟨u, run, skips, done, meas⟩ := periodMeasurementDone_due h due closed a b
  rw [none] at skips meas
  exact ⟨u, run, skips.trans (rd_wrN_succ s _), done, meas⟩

theorem periodMeasurementDone_kept {l : Fin 208} {s : State} {ta tb : Nat} {a b : BitVec 14 × BitVec 6} (h : s.pwr.coreInReset = false)
    (due : (s.lane l).measDue = true) (closed : (s.lane l).openWin = false) (refA : (s.lane l).refA = some ta)
    (refB : (s.lane l).refB = some tb) (apart : ta + 25600 ≤ tb) (rises : 0 < s.position l b - s.position l a) :
    let ts := ((tb - ta : Nat) : Rat) / (s.position l b - s.position l a)
    Does (.periodMeasurementDone l a b) s fun u => u.rd TDC_PERIOD_SKIPS = s.rd TDC_PERIOD_SKIPS ∧ (u.lane l).measDue = false
      ∧ (u.lane l).meas = ((ts, ts * s.position l a - ((ta : Rat) - ((s.lane l).refStart : Rat))) :: (s.lane l).meas).take 8 := by
  intro ts
  have result : s.measured l a b = some (ts, ts * s.position l a - ((ta : Rat) - ((s.lane l).refStart : Rat))) := by
    unfold State.measured
    rw [refA, refB]
    exact if_neg (by simp [apart, sub_pos.mp rises])
  obtain ⟨u, run, skips, done, meas⟩ := periodMeasurementDone_due h due closed a b
  rw [result] at skips meas
  exact ⟨u, run, skips, done, meas⟩

end Sys2Proof.Machine
end

section
/-! PROOFS. The event lanes and the reset of a lane (R141, R142, R144, R145). -/

namespace Sys2Proof.Machine

open Sys2Proof.Laws

/-! ### The output stage into the FIFO (R141, R142) -/

/-- The lane with a CLOSE halfword `h` moved into its FIFO, which completes a read word. -/
def Lane.closeWord (x : Lane) (h : BitVec 16) (rest : List (BitVec 16)) : Lane :=
  { x with grow := (x.grow.filter (fun (e : Nat × Nat) => e.2 ≠ 0)).map (fun (e : Nat × Nat) => (e.1, e.2 - 1)), out := rest,
           forming := [], newItem := true, fifo := x.fifo ++ [⟨x.forming ++ [(h, false)], x.newItem, true⟩] }

/-- The tick at which the halfword that leaves the output stage next is complete. -/
def State.halfDone (s : State) (l : Nat) : Nat := ((s.lane l).headGrows s.detKept.window).getD 0

theorem pushHalf_close {s : State} {l : Nat} {h : BitVec 16} {rest : List (BitVec 16)} (out : (s.lane l).out = h :: rest)
    (served : s.laneRole l = 0) (close : isClose h = true) (room : (s.lane l).fifo.length < 8)
    (good : ∀ e ∈ (s.lane l).forming, e.2 = false) :
    s.pushHalf l false = ((s.advance (s.halfDone l)).setLane l ((s.lane l).closeWord h rest)).setFld (EVL_DEPTH_V l)
      ((s.lane l).fifo.length + 1) := by
  have sound : ((s.lane l).forming ++ [(h, false)]).filter (fun e => e.2) = [] :=
    List.filter_eq_nil_iff.mpr fun e he => by
      rcases List.mem_append.mp he with he | he
      · simp [good e he]
      · simp [List.mem_singleton.mp he]
  unfold State.pushHalf
  dsimp only
  rw [out]
  dsimp only
  rw [if_neg (by simp [served, room]), if_pos (by simp [close]), sound, if_pos List.length_nil, List.length_append, close]
  rfl

theorem eventLanePush_close {l : Fin 208} {h : BitVec 16} {rest : List (BitVec 16)} {s : State} (core : s.pwr.coreInReset = false)
    (out : (s.lane l).out = h :: rest) (served : s.laneRole l = 0) (close : isClose h = true) (room : (s.lane l).fifo.length < 8)
    (good : ∀ e ∈ (s.lane l).forming, e.2 = false) :
    Does (.eventLanePush l false) s fun u => (u.lane l).out = rest ∧ (u.lane l).forming = []
      ∧ (u.lane l).fifo.length = (s.lane l).fifo.length + 1 ∧ u.fld (EVL_DEPTH_V l) = (s.lane l).fifo.length + 1 := by
  refine ⟨_, (done_inCore core _).trans (by rw [pushHalf_close out served close room good]), ?_⟩
  beta_reduce
  rw [lane_congr (State.setFld_tdc _ _ _), lane_setLane_same, fld_setFld_same _ _ _ (by simp [EVL_DEPTH_V]) (by simp [EVL_DEPTH_V])]
  exact ⟨rfl, rfl, List.length_append, Nat.mod_eq_of_lt (show _ < 2 ^ 4 by omega)⟩

theorem pushHalf_full {s : State} {l : Nat} (full : 8 ≤ (s.lane l).fifo.length) (bad : Bool) : s.pushHalf l bad = s := by
  unfold State.pushHalf
  dsimp only
  split
  · rfl
  · exact if_pos (by simp [full])

/-! ### The FIFO into the engine (R144, R298) -/

/-- One transfer more of class STAMP in the over in progress. -/
def State.spendStamp (s : State) : State := { s with bgt := { s.bgt with spend := tabSet 0 s.bgt.spend 0 (s.spent 0 + 1) } }

theorem spendStamp_spent (s : State) : s.spendStamp.spent 0 = s.spent 0 + 1 := by
  show tabGet 0 (tabSet 0 s.bgt.spend 0 (s.spent 0 + 1)) 0 = s.spent 0 + 1
  exact tabGet_tabSet_same 0 _ 0 _

/-- The lane with its oldest read word `w` taken, which ends an item. -/
def Lane.handOn (x : Lane) (w : ReadWord) (rest : List ReadWord) : Lane :=
  { x with fifo := rest, partialItem := [], items := x.items ++ [x.partialItem ++ w.halves] }

theorem popWord_ends {s : State} {l : Nat} {w : ReadWord} {rest : List ReadWord} (first : (s.lane l).fifo = w :: rest)
    (ends : w.eop = true) (budget : s.spent 0 < s.quota 0) :
    s.popWord l = (s.spendStamp.setLane l ((s.lane l).handOn w rest)).setFld (EVL_DEPTH_V l) rest.length := by
  unfold State.popWord
  dsimp only
  rw [first]
  dsimp only
  rw [if_neg (Nat.not_le.mpr budget), if_pos ends]
  rfl

theorem eventLanePop_ends {l : Fin 208} {w : ReadWord} {rest : List ReadWord} {s : State} (core : s.pwr.coreInReset = false)
    (first : (s.lane l).fifo = w :: rest) (few : rest.length < 8) (ends : w.eop = true) (budget : s.spent 0 < s.quota 0) :
    Does (.eventLanePop l) s fun u => (u.lane l).fifo = rest ∧ (u.lane l).partialItem = []
      ∧ (u.lane l).items = (s.lane l).items ++ [(s.lane l).partialItem ++ w.halves] ∧ u.spent 0 = s.spent 0 + 1
      ∧ u.fld (EVL_DEPTH_V l) = rest.length := by
  refine ⟨_, (done_inCore core _).trans (by rw [popWord_ends first ends budget]), ?_⟩
  beta_reduce
  rw [lane_congr (State.setFld_tdc _ _ _), lane_setLane_same, fld_setFld_same _ _ _ (by simp [EVL_DEPTH_V]) (by simp [EVL_DEPTH_V])]
  exact ⟨rfl, rfl, rfl, spendStamp_spent s, Nat.mod_eq_of_lt (show _ < 2 ^ 4 by omega)⟩

theorem popWord_spent {s : State} (l : Nat) (h : s.quota 0 ≤ s.spent 0) : s.popWord l = s := by
  unfold State.popWord
  dsimp only
  split
  · rfl
  · exact if_pos h

/-- A command that finds nothing to do leaves the state as it is. -/
theorem does_nothing {c : Instr} {s : State} {f : State → State} (run : exec c s = done (s.inCore f)) (h : f s = s) :
    Does c s fun u => u = s := ⟨s, run.trans (congrArg done (inCore_id h)), rfl⟩

/-! ### The reset of a lane (R145) -/

/-- The items that a lane's reset discards: of a bench lane, whose items have gone to its own counter, the open one alone. -/
def State.discards (s : State) (l : Nat) : Nat := if s.laneRole l = 1 then b2n (s.lane l).openWin else (s.lane l).lostItems

/-- A reset lane: the counters, table and measurements of its calibration stay (R136). -/
def State.emptied (s : State) (l : Nat) : Lane :=
  let x := s.lane l
  { Lane.init with resetAt := some s.now, runA := x.runA, runB := x.runB, second := x.second, edges := x.edges, tableNext := x.tableNext,
                   meas := x.meas, ambient := x.ambient, vtrimHold := x.vtrimHold, step := x.step, ownDue := x.ownDue,
                   rangeRun := x.rangeRun }

/-- The registers as a lane's reset leaves them. -/
def State.noteDiscards (s : State) (l : Nat) : State :=
  let u := s.wrN (EVL_LOST_ITEMS l) (s.rdN (EVL_LOST_ITEMS l) + s.discards l)
  (u.wrN (BGT_LOST_ITEMS 0) (u.rdN (BGT_LOST_ITEMS 0) + s.discards l)).wrN (EVL_DEPTH l) 0

theorem laneReset_eq (s : State) (l : Nat) :
    s.laneReset l = ((s.noteDiscards l).setLane l (s.emptied l)).laneEvent EV_EVL_LOST l := by
  unfold State.laneReset State.laneResetQuiet
  rfl

theorem laneReset_lane (s : State) (l : Nat) : (s.laneReset l).lane l = s.emptied l := by
  rw [laneReset_eq]
  exact lane_setLane_same _ _ _

/-- The registers that a lane's reset writes. -/
def resetKeys (l : Nat) : List Nat := [EVL_LOST_ITEMS l, BGT_LOST_ITEMS 0, EVL_DEPTH l, TDC_EVT_INFO]

theorem laneReset_rd (s : State) (l : Nat) {k : Nat} (h : k ∉ resetKeys l) : (s.laneReset l).rd k = s.rd k := by
  simp only [resetKeys, List.mem_cons, List.not_mem_nil, or_false, not_or] at h
  obtain ⟨lost, all, depth, info⟩ := h
  rw [laneReset_eq, laneEvent_rd _ _ _ info, rd_setLane, State.noteDiscards, rd_wrN, if_neg depth, rd_wrN, if_neg all, rd_wrN, if_neg lost]

theorem laneReset_lost (s : State) (l : Nat) : (s.laneReset l).rd (EVL_LOST_ITEMS l) = s.rd (EVL_LOST_ITEMS l) + BitVec.ofNat 32 (s.discards l) := by
  have info : EVL_LOST_ITEMS l ≠ TDC_EVT_INFO := by simp only [EVL_LOST_ITEMS, TDC_EVT_INFO]; omega
  have depth : EVL_LOST_ITEMS l ≠ EVL_DEPTH l := by simp only [EVL_LOST_ITEMS, EVL_DEPTH]; omega
  have all : EVL_LOST_ITEMS l ≠ BGT_LOST_ITEMS 0 := by simp only [EVL_LOST_ITEMS, BGT_LOST_ITEMS]; omega
  rw [laneReset_eq, laneEvent_rd _ _ _ info, rd_setLane, State.noteDiscards, rd_wrN, if_neg depth, rd_wrN, if_neg all, rd_wrN, if_pos rfl,
    BitVec.ofNat_add, State.rdN, BitVec.ofNat_toNat, BitVec.setWidth_eq]

theorem laneReset_depth (s : State) (l : Nat) : (s.laneReset l).rd (EVL_DEPTH l) = 0 := by
  rw [laneReset_eq, laneEvent_rd _ _ _ (by simp only [EVL_DEPTH, TDC_EVT_INFO]; omega), rd_setLane, State.noteDiscards, rd_wrN, if_pos rfl]
  rfl

theorem laneReset_has (s : State) (l : Nat) : (s.laneReset l).has EV_EVL_LOST = true := has_raise _ _

theorem tdcWrite_laneReset (s : State) (l : Fin 208) : s.tdcWrite (TDC_LANE_RESET l) 1 = s.laneReset l := by
  have place : (TDC_LANE_RESET l - TDC_LANE_RESET 0) / 64 = l := by simp only [TDC_LANE_RESET]; omega
  have cal : TDC_LANE_RESET l ≠ TDC_CAL_CFG := by simp only [TDC_LANE_RESET, TDC_CAL_CFG]; omega
  have gen : TDC_LANE_RESET l ≠ TDC_GEN_CFG := by simp only [TDC_LANE_RESET, TDC_GEN_CFG]; omega
  have band : TDC_LANE_RESET l ≠ TDC_BAND := by simp only [TDC_LANE_RESET, TDC_BAND]; omega
  have inside : TDC_LANE_RESET 0 ≤ TDC_LANE_RESET l ∧ TDC_LANE_RESET l ≤ TDC_LANE_RESET 207 ∧ TDC_LANE_RESET l % 64 = 0x18 := by
    simp only [TDC_LANE_RESET]
    omega
  unfold State.tdcWrite
  dsimp only
  rw [if_neg (by simp [cal]), if_neg (by simp [gen]), if_neg (by simp [band]), if_pos (by simp [inside]), place]
  exact if_pos (by decide)

theorem laneReset_does {p : Port} {l : Fin 208} {s : State} (h : Reaches s p (TDC_LANE_RESET l)) :
    Does (.laneReset p l) s fun u => (u.lane l).openWin = false ∧ (u.lane l).out = [] ∧ (u.lane l).fifo = [] ∧ (u.lane l).items = []
      ∧ (u.lane l).resetAt = some s.now ∧ u.fld (EVL_DEPTH_V l) = 0
      ∧ u.rd (EVL_LOST_ITEMS l) = s.rd (EVL_LOST_ITEMS l)
        + BitVec.ofNat 32 (if s.laneRole l = 1 then b2n (s.lane l).openWin else (s.lane l).lostItems) ∧ u.has EV_EVL_LOST = true := by
  refine ⟨s.laneReset l, (done_unowned h _).trans (by rw [tdcWrite_laneReset]), ?_⟩
  have depth : (s.laneReset l).fld (EVL_DEPTH_V l) = 0 := congrArg (EVL_DEPTH_V l).get (laneReset_depth s l)
  beta_reduce
  rw [laneReset_lane]
  exact ⟨rfl, rfl, rfl, rfl, rfl, depth, laneReset_lost s l, laneReset_has s l⟩

/-- Settles O24: each command of a lane's calibration and of its event lane has one effect under its hypotheses. -/
theorem codeDensityRuns : Obligations.CodeDensityRuns := by
  unfold Obligations.CodeDensityRuns
  exact ⟨⟨fun l f g bad s h only run few first => calibrationEdge_counts bad h only run few first,
      fun l s h full first => calRunComplete_first h full first,
      fun l s h full second passes => calRunComplete_second h full second passes,
      fun l a b s h due closed missing => periodMeasurementDone_skipped h due closed missing a b,
      fun l a b ta tb s h due closed refA refB apart rises => periodMeasurementDone_kept h due closed refA refB apart rises⟩,
    fun l h rest s core out served close room good => eventLanePush_close core out served close room good,
    fun l bad s full => does_nothing rfl (pushHalf_full full bad),
    fun l w rest s core first few ends budget => eventLanePop_ends core first few ends budget,
    fun l s spent => does_nothing rfl (popWord_spent l spent),
    fun p l s h => laneReset_does h⟩

end Sys2Proof.Machine
end

section
/-! SUPPORT. The words of the lineup map: what a field of the map reads after another was put, and what the writing of a map leaves
(R303, R305). -/

namespace Sys2Proof.Machine

open Sys2Proof.Laws

/-! ### Words and fields of a map -/

/-- A map is a table in which an unlisted word reads as in the factory default. -/
theorem mapGet_eq_tabGet (m : List (Nat × Word)) (w : Nat) : mapGet m w = tabGet (factoryWord w) m w := by
  unfold mapGet
  induction m with
  | nil => rfl
  | cons e m ih =>
    obtain ⟨a, v⟩ := e
    by_cases h : w = a
    · simp [tabGet, h]
    · rw [List.find?_cons_of_neg (by simpa using fun e => h e.symm), ih, tabGet, if_neg h]

theorem mapGet_mapSet_same (m : List (Nat × Word)) (w : Nat) (v : Word) : mapGet (mapSet m w v) w = v :=
  (mapGet_eq_tabGet _ w).trans (tabGet_tabSet_same (factoryWord w) m w v)

theorem mapGet_mapSet_other (m : List (Nat × Word)) {w j : Nat} (v : Word) (h : j ≠ w) : mapGet (mapSet m w v) j = mapGet m j := by
  rw [mapGet_eq_tabGet, mapGet_eq_tabGet]
  exact tabGet_tabSet_other (factoryWord j) (factoryWord w) m v h

/-- Bits of a map word as a field of a register. -/
theorem mapBits_eq_get (m : List (Nat × Word)) (w lo : Nat) {n : Nat} (hn : 0 < n) :
    mapBits m w lo n = (⟨0, lo + n - 1, lo⟩ : Fld).get (mapGet m w) := by
  unfold mapBits Fld.get
  rw [show lo + n - 1 + 1 - lo = n by omega]

theorem mapBits_congr {m m' : List (Nat × Word)} {w : Nat} (h : mapGet m' w = mapGet m w) (lo n : Nat) :
    mapBits m' w lo n = mapBits m w lo n := by rw [mapBits, h, mapBits]

theorem mapBits_mapPut_same (m : List (Nat × Word)) (w lo v : Nat) {n : Nat} (hn : 0 < n) (h : lo + n ≤ 32) :
    mapBits (mapPut m w lo n v) w lo n = v % 2 ^ n := by
  rw [mapBits_eq_get _ _ _ hn, mapPut, mapGet_mapSet_same, get_put_same _ _ _ (by dsimp only; omega) (by dsimp only; omega)]
  dsimp only
  rw [show lo + n - 1 + 1 - lo = n by omega]

theorem mapBits_mapPut_other (m : List (Nat × Word)) {w j lo lo' n n' : Nat} (v : Nat) (hn : 0 < n) (hn' : 0 < n') (h : lo + n ≤ 32)
    (apart : j ≠ w ∨ lo' + n' ≤ lo ∨ lo + n ≤ lo') : mapBits (mapPut m w lo n v) j lo' n' = mapBits m j lo' n' := by
  by_cases hj : j = w
  · rw [hj, mapBits_eq_get _ _ _ hn', mapBits_eq_get _ _ _ hn', mapPut, mapGet_mapSet_same]
    exact get_put_apart ⟨0, lo + n - 1, lo⟩ ⟨0, lo' + n' - 1, lo'⟩ _ v (by dsimp only; omega) (by dsimp only; omega)
      (by dsimp only; omega)
  · exact mapBits_congr (mapGet_mapSet_other m _ hj) lo' n'

/-! ### States of elements -/

/-- The words that hold states lie beyond the channels' words, below the tiles' or beyond them, and before the CRC. -/
theorem stateWord_place {k i : Nat} (hk : k < 3) (hi : i < kindSize k) :
    0xC4 ≤ (stateAt k i).1 ∧ (stateAt k i).1 < 0x167 ∧ (stateAt k i).2 + 2 ≤ 32 := by
  have kinds : k = 0 ∨ k = 1 ∨ k = 2 := by omega
  rcases kinds with rfl | rfl | rfl <;> simp [kindSize, stateAt] at hi ⊢ <;> omega

theorem mapState_congr {m m' : List (Nat × Word)} {k i : Nat} (h : mapGet m' (stateAt k i).1 = mapGet m (stateAt k i).1) :
    mapState m' k i = mapState m k i := mapBits_congr h _ _

theorem mapState_set_same (m : List (Nat × Word)) {k i v : Nat} (hk : k < 3) (hi : i < kindSize k) (hv : v < 4) :
    mapState (mapSetState m k i v) k i = v := by
  obtain ⟨-, -, bits⟩ := stateWord_place hk hi
  exact (mapBits_mapPut_same m _ _ v (by omega) bits).trans (Nat.mod_eq_of_lt hv)

theorem mapState_set_other (m : List (Nat × Word)) {k i j v : Nat} (hk : k < 3) (hi : i < kindSize k) (h : j ≠ i) :
    mapState (mapSetState m k i v) k j = mapState m k j := by
  obtain ⟨-, -, bits⟩ := stateWord_place hk hi
  refine mapBits_mapPut_other m v (by omega) (by omega) bits ?_
  simp only [stateAt]
  omega

theorem mapLane_mapSetState (m : List (Nat × Word)) {k i c : Nat} (v : Nat) (hk : k < 3) (hi : i < kindSize k) (hc : c < 192) :
    mapLane (mapSetState m k i v) c = mapLane m c := by
  obtain ⟨low, -, bits⟩ := stateWord_place hk hi
  exact mapBits_mapPut_other m v (by omega) (by omega) bits (.inl (by omega))

/-- The mark of the factory default lies in a word of its own. -/
theorem mapGet_notFactory (m : List (Nat × Word)) {w : Nat} (h : w ≠ 2) : mapGet (notFactory m) w = mapGet m w := mapGet_mapSet_other m _ h

/-! ### Lanes of channels -/

/-- The channels that a walk over a list of channels has led to lane `n` are those of the list. -/
theorem mapLane_replaced (m : List (Nat × Word)) {n : Nat} (hn : n < 256) (chans : List Nat) (c : Nat) :
    mapLane (chans.foldl (fun m c => mapPut m (4 + c) 24 8 n) m) c = if c ∈ chans then n else mapLane m c := by
  induction chans generalizing m with
  | nil => rfl
  | cons a chans ih =>
    rw [List.foldl_cons, ih]
    by_cases later : c ∈ chans
    · rw [if_pos later, if_pos (List.mem_cons_of_mem a later)]
    · rw [if_neg later]
      by_cases own : c = a
      · rw [own, if_pos List.mem_cons_self]
        exact (mapBits_mapPut_same m _ 24 n (by omega) (by omega)).trans (Nat.mod_eq_of_lt hn)
      · rw [if_neg (by simp [own, later])]
        exact mapBits_mapPut_other m n (by omega) (by omega) (by omega) (.inl (by omega))

theorem mapGet_replaced (m : List (Nat × Word)) (n : Nat) (chans : List Nat) {w : Nat} (h : ∀ c ∈ chans, w ≠ 4 + c) :
    mapGet (chans.foldl (fun m c => mapPut m (4 + c) 24 8 n) m) w = mapGet m w := by
  induction chans generalizing m with
  | nil => rfl
  | cons a chans ih =>
    rw [List.foldl_cons, ih _ fun c hc => h c (List.mem_cons_of_mem a hc)]
    exact mapGet_mapSet_other m _ (h a List.mem_cons_self)

/-! ### A map is written (R305, R310) -/

/-- A map with its EPOCH and its CRC. -/
def sealMap (m : List (Nat × Word)) (epoch : Word) : List (Nat × Word) := mapSet (mapSet m 1 epoch) 0x1FF (mapCrc (mapSet m 1 epoch))

theorem mapGet_sealMap (m : List (Nat × Word)) (epoch : Word) {w : Nat} (h : w ≠ 1) (h' : w ≠ 0x1FF) :
    mapGet (sealMap m epoch) w = mapGet m w := (mapGet_mapSet_other _ _ h').trans (mapGet_mapSet_other m _ h)

theorem sealMap_epoch (m : List (Nat × Word)) (epoch : Word) : mapGet (sealMap m epoch) 1 = epoch :=
  (mapGet_mapSet_other _ _ (by decide)).trans (mapGet_mapSet_same m 1 epoch)

/-- A lane's channel and an element's state are no part of a map's EPOCH or CRC. -/
theorem mapState_sealMap (m : List (Nat × Word)) (epoch : Word) {k i : Nat} (hk : k < 3) (hi : i < kindSize k) :
    mapState (sealMap m epoch) k i = mapState m k i := by
  obtain ⟨low, high, -⟩ := stateWord_place hk hi
  exact mapState_congr (mapGet_sealMap m epoch (by omega) (by omega))

theorem mapLane_sealMap (m : List (Nat × Word)) (epoch : Word) {c : Nat} (hc : c < 192) : mapLane (sealMap m epoch) c = mapLane m c :=
  mapBits_congr (mapGet_sealMap m epoch (by omega) (by omega)) _ _

/-- What copy `i` of the map shows. -/
def State.showCopy (i : Nat) (s : State) : State :=
  (s.setFld (LNP_COPY_TILE i) (mapTile s.lnp.map (20 + i))).setFld (LNP_COPY_EPOCH_LO i) (mapBits (nth [] s.lnp.copies i) 1 0 16)

/-- The state with the map's EPOCH and its FACTORY mark shown. -/
def State.showEpoch (s : State) : State :=
  (s.wr LNP_EPOCH (mapGet s.lnp.map 1)).setFlag LNP_STATUS_FACTORY (mapBits s.lnp.map 2 0 1 = 1)

theorem showMap_eq (s : State) : s.showMap = loop 3 State.showCopy s.showEpoch := by
  unfold State.showMap State.showCopy State.showEpoch
  rfl

/-- What the writing of a map leaves of a state beside the map: LNP_LAST, the sources raised, and the clock. -/
def besideMap (s : State) : Word × List Raised × Nat := (s.rd LNP_LAST, s.raised, s.now)

theorem besideMap_showCopy (s : State) (i : Nat) : besideMap (s.showCopy i) = besideMap s ∧ (s.showCopy i).lnp = s.lnp := by
  have apart : LNP_LAST ≠ LNP_COPY i := by simp only [LNP_LAST, LNP_COPY]; omega
  unfold besideMap State.showCopy
  rw [State.setFld_lnp, State.setFld_lnp, State.setFld_raised, State.setFld_raised, State.setFld_now, State.setFld_now, rd_setFld,
    if_neg (show LNP_LAST ≠ (LNP_COPY_EPOCH_LO i).reg from apart), rd_setFld, if_neg (show LNP_LAST ≠ (LNP_COPY_TILE i).reg from apart)]
  exact ⟨rfl, rfl⟩

theorem besideMap_showEpoch (s : State) : besideMap s.showEpoch = besideMap s ∧ s.showEpoch.lnp = s.lnp := by
  unfold besideMap State.showEpoch
  rw [State.setFlag_lnp, State.wr_lnp, State.setFlag_raised, State.wr_raised, State.setFlag_now, State.wr_now, rd_setFlag,
    if_neg (by decide), rd_wr_other s _ (by decide)]
  exact ⟨rfl, rfl⟩

theorem showMap_frame (s : State) : besideMap s.showMap = besideMap s ∧ s.showMap.lnp = s.lnp := by
  obtain ⟨beside, lnp⟩ := besideMap_showEpoch s
  rw [showMap_eq, loop_keeps besideMap 3 _ fun i _ t => (besideMap_showCopy t i).1,
    loop_keeps State.lnp 3 _ fun i _ t => (besideMap_showCopy t i).2]
  exact ⟨beside, lnp⟩

/-- The lineup with map `m` in force and in all three copies. -/
def LnpState.inAll (l : LnpState) (m : List (Nat × Word)) : LnpState := { l with map := m, copies := [m, m, m] }

/-- The state with the lineup given. -/
def State.setLnp (s : State) (x : LnpState) : State := { s with lnp := x }

theorem besideMap_setLnp (s : State) (x : LnpState) : besideMap (s.setLnp x) = besideMap s := rfl

theorem writeMap_eq (s : State) (m : List (Nat × Word)) :
    s.writeMap m = (s.setLnp (s.lnp.inAll (sealMap m (mapGet s.lnp.map 1 + 1)))).showMap := by
  unfold State.writeMap sealMap
  rfl

theorem writeMap_frame (s : State) (m : List (Nat × Word)) :
    besideMap (s.writeMap m) = besideMap s ∧ (s.writeMap m).lnp = s.lnp.inAll (sealMap m (mapGet s.lnp.map 1 + 1)) := by
  obtain ⟨beside, lnp⟩ := showMap_frame (s.setLnp (s.lnp.inAll (sealMap m (mapGet s.lnp.map 1 + 1))))
  rw [besideMap_setLnp] at beside
  rw [writeMap_eq, beside, lnp]
  exact ⟨rfl, rfl⟩

end Sys2Proof.Machine
end

section
/-! PROOFS. Elements are sent off (R303, R305 to R307). -/

namespace Sys2Proof.Machine

open Sys2Proof.Laws

/-! ### What goes with a sending off -/

/-- `t` differs from `s` neither in the lineup, nor in LNP_LAST, nor in the clock, and no source raised is lost. -/
structure Aside (s t : State) : Prop where
  lnp : t.lnp = s.lnp
  last : t.rd LNP_LAST = s.rd LNP_LAST
  now : t.now = s.now
  more : ∀ r ∈ s.raised, r ∈ t.raised

theorem Aside.refl (s : State) : Aside s s := ⟨rfl, rfl, rfl, fun _ h => h⟩

theorem Aside.trans {s t u : State} (h : Aside s t) (g : Aside t u) : Aside s u :=
  ⟨g.lnp.trans h.lnp, g.last.trans h.last, g.now.trans h.now, fun r hr => g.more r (h.more r hr)⟩

theorem Aside.ite {s t u : State} {c : Prop} [Decidable c] (h : Aside s t) (g : Aside s u) : Aside s (if c then t else u) := by
  split
  · exact h
  · exact g

theorem aside_raise (s : State) (e : Nat) : Aside s (s.raise e) := ⟨rfl, rfl, rfl, fun _ h => List.mem_append_left _ h⟩

theorem aside_wr (s : State) {k : Nat} (w : Word) (h : LNP_LAST ≠ k) : Aside s (s.wr k w) := ⟨rfl, rd_wr_other s w h, rfl, fun _ h => h⟩

theorem aside_setFld (s : State) {f : Fld} (v : Nat) (h : LNP_LAST ≠ f.reg) : Aside s (s.setFld f v) := aside_wr s _ h

theorem aside_laneReset (s : State) (l : Nat) : Aside s (s.laneReset l) := by
  have apart : LNP_LAST ∉ resetKeys l := by
    simp only [resetKeys, LNP_LAST, EVL_LOST_ITEMS, BGT_LOST_ITEMS, EVL_DEPTH, TDC_EVT_INFO, List.mem_cons, List.not_mem_nil, or_false,
      not_or]
    omega
  refine ⟨?_, laneReset_rd s l apart, ?_, fun r hr => ?_⟩
  · rw [laneReset_eq]
    rfl
  · rw [laneReset_eq]
    rfl
  · rw [laneReset_eq]
    exact List.mem_append_left _ hr

/-- Counting an element out of one pool and into another writes its kind's pools alone. -/
theorem pool_rd (s : State) (k src dst : Nat) {j : Nat} (h : j ≠ LNP_POOL k) : (s.pool k src dst).rd j = s.rd j := by
  have reg (r : Nat) : j ≠ (if r = 0 then LNP_POOL_IN_SERVICE k else if r = 1 then LNP_POOL_BENCH_LEFT k else LNP_POOL_SENT_OFF k).reg := by
    split
    · exact h
    · split <;> exact h
  exact (rd_wr_other _ _ (reg dst)).trans (rd_wr_other _ _ (reg src))

theorem aside_pool (s : State) (k src dst : Nat) : Aside s (s.pool k src dst) :=
  ⟨rfl, pool_rd s k src dst (by simp only [LNP_LAST, LNP_POOL]; omega), rfl, fun _ h => h⟩

theorem aside_reselAbandon (s : State) : Aside s s.reselAbandon := by
  unfold State.reselAbandon
  split
  · exact .refl s
  · rename_i k i _
    let u : State := { s with cal := { s.cal with resel := none } }
    have h1 : Aside s u := ⟨rfl, rfl, rfl, fun _ h => h⟩
    exact h1.trans (((aside_wr u _ (by decide)).trans (aside_setFld _ _ (by decide))).trans (aside_raise _ _))

/-! ### The sending off of an element (R306, R307) -/

/-- A sending off reported, in LNP_LAST, which takes `w`, and as an event. -/
def State.reportOff (s : State) (w : Nat) : State := (s.wrN LNP_LAST w).raise EV_LNP_SENT_OFF

/-- The state with the errors of an element forgotten. -/
def State.forgetErrors (s : State) (k i : Nat) : State :=
  { s with lnp := { s.lnp with errors := s.lnp.errors.filter (fun (e : Nat × Nat) => e.1 ≠ 4096 * k + i) } }

/-- A sending off noted: reported, counted in the pools, and the element's errors forgotten. -/
def State.noteOff (s : State) (k i w : Nat) : State := ((s.reportOff w).pool k (mapState s.lnp.map k i) 2).forgetErrors k i

theorem forgetErrors_frame (s : State) (k i : Nat) : (s.forgetErrors k i).lnp.map = s.lnp.map
    ∧ (s.forgetErrors k i).lnp.changes = s.lnp.changes ∧ (s.forgetErrors k i).rd LNP_LAST = s.rd LNP_LAST
    ∧ (s.forgetErrors k i).now = s.now ∧ (s.forgetErrors k i).raised = s.raised := ⟨rfl, rfl, rfl, rfl, rfl⟩

theorem reportOff_effect (s : State) (w : Nat) : (s.reportOff w).lnp = s.lnp ∧ (s.reportOff w).rd LNP_LAST = BitVec.ofNat 32 w
    ∧ (s.reportOff w).now = s.now ∧ ⟨EV_LNP_SENT_OFF, none⟩ ∈ (s.reportOff w).raised :=
  ⟨rfl, rd_wr_same s _ _, rfl, mem_raised _ _⟩

theorem forgetErrors_rd (s : State) (k i j : Nat) : (s.forgetErrors k i).rd j = s.rd j := rfl
theorem forgetErrors_cal (s : State) (k i : Nat) : (s.forgetErrors k i).cal = s.cal := rfl
theorem pool_cal (s : State) (k src dst : Nat) : (s.pool k src dst).cal = s.cal := rfl
theorem reportOff_cal (s : State) (w : Nat) : (s.reportOff w).cal = s.cal := rfl

theorem reportOff_rd (s : State) (w : Nat) {j : Nat} (h : j ≠ LNP_LAST) : (s.reportOff w).rd j = s.rd j := rd_wr_other s _ h

/-- The report, the pools and the forgotten errors are no part of the other registers, nor of the calibration record. -/
theorem noteOff_frame (s : State) (k i w : Nat) : (s.noteOff k i w).cal = s.cal
    ∧ ∀ j, j ≠ LNP_LAST → j ≠ LNP_POOL k → (s.noteOff k i w).rd j = s.rd j := by
  unfold State.noteOff
  refine ⟨?_, fun j last pool => ?_⟩
  · rw [forgetErrors_cal, pool_cal, reportOff_cal]
  · rw [forgetErrors_rd, pool_rd _ _ _ _ pool, reportOff_rd s w last]

/-- The word of LNP_LAST for an element and the cause for which it was sent off (R310). -/
def offWord (k i cause : Nat) : Nat := k * 2 ^ 28 + i * 2 ^ 16 + cause

theorem noteOff_effect (s : State) (k i w : Nat) : (s.noteOff k i w).lnp.map = s.lnp.map
    ∧ (s.noteOff k i w).lnp.changes = s.lnp.changes ∧ (s.noteOff k i w).rd LNP_LAST = BitVec.ofNat 32 w
    ∧ (s.noteOff k i w).now = s.now ∧ ⟨EV_LNP_SENT_OFF, none⟩ ∈ (s.noteOff k i w).raised := by
  obtain ⟨lnp, last, now, event⟩ := reportOff_effect s w
  obtain ⟨lnp', last', now', more⟩ := aside_pool (s.reportOff w) k (mapState s.lnp.map k i) 2
  obtain ⟨map, changes, same, time, raised⟩ := forgetErrors_frame ((s.reportOff w).pool k (mapState s.lnp.map k i) 2) k i
  unfold State.noteOff
  rw [map, changes, same, time, raised, lnp', last', now', lnp, last, now]
  exact ⟨rfl, rfl, rfl, rfl, more _ event⟩

/-- The map with an element sent off. -/
def offMap (m : List (Nat × Word)) (k i : Nat) : List (Nat × Word) := notFactory (mapSetState m k i 2)

theorem mapState_offMap (m : List (Nat × Word)) {k i : Nat} (hk : k < 3) (hi : i < kindSize k) : mapState (offMap m k i) k i = 2 := by
  obtain ⟨low, -, -⟩ := stateWord_place hk hi
  exact (mapState_congr (mapGet_notFactory _ (by omega))).trans (mapState_set_same m hk hi (by decide))

/-- The element is sent off for the cause given, as LNP_LAST and an event say, and the map of the next EPOCH holds it so. -/
def SentOff (s t : State) (k i cause : Nat) : Prop := t.rd LNP_LAST = BitVec.ofNat 32 (offWord k i cause) ∧ Logged t EV_LNP_SENT_OFF
  ∧ mapState t.lnp.map k i = 2 ∧ mapGet t.lnp.map 1 = mapGet s.lnp.map 1 + 1 ∧ t.lnp.copies = [t.lnp.map, t.lnp.map, t.lnp.map]

/-- A sending off that was noted ends with the writing of a map that holds the element sent off. -/
theorem sentOff_settles {s v : State} {k i cause : Nat} {m : List (Nat × Word)} (map : v.lnp.map = s.lnp.map)
    (last : v.rd LNP_LAST = BitVec.ofNat 32 (offWord k i cause)) (event : ⟨EV_LNP_SENT_OFF, none⟩ ∈ v.raised)
    (hk : k < 3) (hi : i < kindSize k) (off : mapState m k i = 2) : SentOff s (v.writeMap m).settle k i cause := by
  obtain ⟨beside, lnp⟩ := writeMap_frame v m
  simp only [besideMap, Prod.mk.injEq] at beside
  obtain ⟨last', raised, -⟩ := beside
  refine ⟨?_, logged_settle (r := ⟨EV_LNP_SENT_OFF, none⟩) (by rwa [raised]) (by decide), ?_, ?_, ?_⟩
  · rw [settle_rd _ (by decide), last', last]
  · rw [settle_lnp, lnp]
    exact (mapState_sealMap m _ hk hi).trans off
  · rw [settle_lnp, lnp, ← map]
    exact sealMap_epoch m _
  · rw [settle_lnp, lnp]
    rfl

/-- A lane of the bench that is sent off is held in reset, and its reselection ends (R123, R314). -/
def State.benchOff (s : State) (k i : Nat) : State :=
  let u := if k = 0 then (s.laneReset i).setFld (TDC_LANE_STATUS_ROLE i) 2 else s
  if k = 0 && u.cal.resel = some (0, i) then u.reselAbandon else u

theorem aside_benchOff (s : State) (k i : Nat) : Aside s (s.benchOff k i) := by
  have apart : LNP_LAST ≠ TDC_LANE_STATUS i := by simp only [LNP_LAST, TDC_LANE_STATUS]; omega
  unfold State.benchOff
  extract_lets u
  have h1 : Aside s u := .ite ((aside_laneReset s i).trans (aside_setFld _ _ apart)) (.refl s)
  exact h1.trans (.ite (aside_reselAbandon u) (.refl u))

theorem sendOff_bench {s : State} {k i : Nat} (hi : i < kindSize k) (bench : mapState s.lnp.map k i = 1) (cause : Nat) :
    s.sendOff k i cause = ((s.noteOff k i (offWord k i cause)).benchOff k i).writeMap (offMap s.lnp.map k i) := by
  rw [← (noteOff_effect s k i (offWord k i cause)).1]
  unfold State.sendOff offWord
  generalize k * 2 ^ 28 + i * 2 ^ 16 + cause = w
  rw [if_neg (by simp [bench, hi]), if_pos bench]
  rfl

theorem sendOff_bench_settles {s : State} {k i : Nat} (hk : k < 3) (hi : i < kindSize k) (bench : mapState s.lnp.map k i = 1)
    (cause : Nat) : SentOff s (s.sendOff k i cause).settle k i cause ∧ (s.sendOff k i cause).now = s.now := by
  obtain ⟨map, -, last, now, event⟩ := noteOff_effect s k i (offWord k i cause)
  have held := aside_benchOff (s.noteOff k i (offWord k i cause)) k i
  rw [sendOff_bench hi bench]
  refine ⟨sentOff_settles ((congrArg LnpState.map held.lnp).trans map) (held.last.trans last) (held.more _ event) hk hi
    (mapState_offMap _ hk hi), ?_⟩
  obtain ⟨beside, -⟩ := writeMap_frame ((s.noteOff k i (offWord k i cause)).benchOff k i) (offMap s.lnp.map k i)
  exact (congrArg (fun x => x.2.2) beside).trans (held.now.trans now)

end Sys2Proof.Machine
end

section
/-! PROOFS. A lane in service is sent off and the bench takes its channels; transient errors, and the scrub of the tiles (R303, R305 to R307,
R310). -/

namespace Sys2Proof.Machine

open Sys2Proof.Laws

/-! ### The bench lane that takes over (R307) -/

/-- What is picked for a lane is a lane of the bench. -/
theorem benchPick_bench {s : State} {n : Nat} (h : s.benchPick 0 = some n) : n < 208 ∧ mapState s.lnp.map 0 n = 1 := by
  have member : n ∈ (List.range (kindSize 0)).filter (fun i => mapState s.lnp.map 0 i = 1) := by
    unfold State.benchPick at h
    extract_lets l busy free at h
    rw [if_pos rfl] at h
    generalize valid : free.filter (fun i => s.flag (TDC_LANE_STATUS_CAL_VALID i)) = v at h
    cases v with
    | cons i rest =>
      have picked : i ∈ free.filter (fun i => s.flag (TDC_LANE_STATUS_CAL_VALID i)) := valid ▸ List.mem_cons_self
      exact Option.some.inj h ▸ List.mem_of_mem_filter (List.mem_of_mem_filter picked)
    | nil =>
      generalize others : free = v at h
      cases v with
      | cons i rest =>
        have picked : i ∈ free := others ▸ List.mem_cons_self
        exact Option.some.inj h ▸ List.mem_of_mem_filter picked
      | nil => exact List.mem_of_mem_head? h
  obtain ⟨below, bench⟩ := List.mem_filter.mp member
  exact ⟨List.mem_range.mp below, of_decide_eq_true bench⟩

theorem benchPick_congr {s t : State} (map : t.lnp.map = s.lnp.map) (cal : t.cal = s.cal)
    (busy : t.flag CAL_STATUS_RESEL_BUSY = s.flag CAL_STATUS_RESEL_BUSY)
    (valid : ∀ i, t.flag (TDC_LANE_STATUS_CAL_VALID i) = s.flag (TDC_LANE_STATUS_CAL_VALID i)) (k : Nat) :
    t.benchPick k = s.benchPick k := by
  unfold State.benchPick
  simp only [map, cal, busy, valid]

theorem servedBy_congr {s t : State} (map : t.lnp.map = s.lnp.map) (k i : Nat) : t.servedBy k i = s.servedBy k i := by
  unfold State.servedBy
  rw [map]

theorem mem_servedBy {s : State} {i c : Nat} (hc : c < 192) : c ∈ s.servedBy 0 i ↔ mapLane s.lnp.map c = i := by
  unfold State.servedBy
  simp [hc]

theorem servedBy_lt {s : State} {k i c : Nat} (h : c ∈ s.servedBy k i) : c < 192 := List.mem_range.mp (List.mem_of_mem_filter h)

/-- The report of a sending off is no part of what picks a substitute. -/
theorem noteOff_pick (s : State) (i w : Nat) : (s.noteOff 0 i w).benchPick 0 = s.benchPick 0 := by
  obtain ⟨cal, regs⟩ := noteOff_frame s 0 i w
  have lane (l : Nat) : TDC_LANE_STATUS l ≠ LNP_LAST ∧ TDC_LANE_STATUS l ≠ LNP_POOL 0 := by
    simp only [TDC_LANE_STATUS, LNP_LAST, LNP_POOL]
    omega
  exact benchPick_congr (noteOff_effect s 0 i w).1 cal (flag_congr (regs _ (by decide) (by decide)))
    (fun l => flag_congr (regs _ (lane l).1 (lane l).2)) 0

/-! ### The substitution of a lane (R305, R307, R308) -/

/-- What follows for an element in service that was noted as sent off: a change to its substitute is listed, the channel-lines in work on it
are marked, and the map is written with the substitute in its place. -/
def State.replaced (s : State) (k i : Nat) (sub : Option Nat) : State :=
  let m := offMap s.lnp.map k i
  let chans := s.servedBy k i
  let pos := if k = 2 then s.posOf i else none
  let u : State := { s with lnp := { s.lnp with changes := s.lnp.changes.filter (fun (c : LineupChange) => !(c.kind = k && c.sub = some i)) } }
  let copying := match pos with
    | some p => if mapRole u.lnp.map p = 0 then none else some p
    | none => none
  let v : State := { u with lnp := { u.lnp with changes := u.lnp.changes ++ [LineupChange.mk k i sub chans 2 copying] } }
  let w := v.markSubst k i chans
  match sub with
  | none => (w.raise EV_LNP_BENCH_EMPTY).writeMap m
  | some n =>
    ((if k = 0 && w.cal.resel = some (0, n) then w.reselAbandon else w).pool k 1 0).writeMap
      (replaceElement (mapSetState m k n 0) k i n chans pos)

theorem sendOff_serving {s : State} {k i : Nat} (hi : i < kindSize k) (serves : mapState s.lnp.map k i = 0) (cause : Nat) :
    s.sendOff k i cause = (s.noteOff k i (offWord k i cause)).replaced k i ((s.noteOff k i (offWord k i cause)).benchPick k) := by
  unfold State.sendOff offWord
  generalize k * 2 ^ 28 + i * 2 ^ 16 + cause = w
  rw [if_neg (by simp [serves, hi]), if_neg (by simp [serves])]
  rfl

/-- The change by which lane `n` takes the channels of lane `i`, two line starts from now; a change that was to bring lane `i` in is
overtaken. -/
def State.planChange (s : State) (i n : Nat) : State :=
  s.setLnp { s.lnp with changes := s.lnp.changes.filter (fun (c : LineupChange) => !(c.kind = 0 && c.sub = some i))
                          ++ [LineupChange.mk 0 i (some n) (s.servedBy 0 i) 2 none] }

/-- The map in which lane `n` has taken the channels of lane `i`. -/
def substMap (m : List (Nat × Word)) (i n : Nat) (chans : List Nat) : List (Nat × Word) :=
  chans.foldl (fun m c => mapPut m (4 + c) 24 8 n) (mapSetState (offMap m 0 i) 0 n 0)

theorem aside_markSubst (s : State) (k i : Nat) (chans : List Nat) : Aside s (s.markSubst k i chans) := ⟨rfl, rfl, rfl, fun _ h => h⟩

theorem replaced_lane (s : State) (i n : Nat) : ∃ v, Aside (s.planChange i n) v
    ∧ s.replaced 0 i (some n) = v.writeMap (substMap s.lnp.map i n (s.servedBy 0 i)) := by
  refine ⟨_, ?_, rfl⟩
  exact ((aside_markSubst (s.planChange i n) 0 i _).trans (.ite (aside_reselAbandon _) (.refl _))).trans (aside_pool _ 0 1 0)

/-- Lanes of channels and states of elements lie in words of their own. -/
theorem mapState_substMap (m : List (Nat × Word)) {i n k : Nat} {chans : List Nat} (hk : k < 208) (below : ∀ c ∈ chans, c < 192) :
    mapState (substMap m i n chans) 0 k = mapState (mapSetState (offMap m 0 i) 0 n 0) 0 k := by
  obtain ⟨low, -, -⟩ := stateWord_place (k := 0) (i := k) (by decide) hk
  exact mapState_congr (mapGet_replaced _ n chans fun c hc => by have := below c hc; omega)

theorem substMap_serves (m : List (Nat × Word)) {i n : Nat} {chans : List Nat} (hn : n < 208) (below : ∀ c ∈ chans, c < 192) :
    mapState (substMap m i n chans) 0 n = 0 := by
  rw [mapState_substMap m hn below]
  exact mapState_set_same _ (by decide) hn (by decide)

section
variable {i n : Nat} (hi : i < 208) (hn : n < 208)
include hi hn

theorem substMap_off (m : List (Nat × Word)) {chans : List Nat} (apart : i ≠ n) (below : ∀ c ∈ chans, c < 192) :
    mapState (substMap m i n chans) 0 i = 2 := by
  rw [mapState_substMap m hi below, mapState_set_other _ (by decide) hn apart]
  exact mapState_offMap m (by decide) hi

theorem mapLane_substMap (m : List (Nat × Word)) (chans : List Nat) {c : Nat} (hc : c < 192) :
    mapLane (substMap m i n chans) c = if c ∈ chans then n else mapLane m c := by
  unfold substMap
  rw [mapLane_replaced _ (by omega), mapLane_mapSetState _ 0 (by decide) hn hc]
  have own : mapLane (offMap m 0 i) c = mapLane (mapSetState m 0 i 2) c := mapBits_congr (mapGet_notFactory _ (by omega)) _ _
  rw [own, mapLane_mapSetState m 2 (by decide) hi hc]

end

/-- Lane `n` of the bench serves the channels of lane `i`, and those alone, by a change that two line starts hold back. -/
def Substituted (s t : State) (i n : Nat) : Prop := mapState t.lnp.map 0 n = 0
  ∧ (∀ c < 192, mapLane t.lnp.map c = if mapLane s.lnp.map c = i then n else mapLane s.lnp.map c)
  ∧ (∃ x ∈ t.lnp.changes, x.kind = 0 ∧ x.index = i ∧ x.sub = some n ∧ x.left = 2 ∧ x.chans = s.servedBy 0 i)

theorem inAll_map (l : LnpState) (m : List (Nat × Word)) : (l.inAll m).map = m := rfl

theorem inAll_changes (l : LnpState) (m : List (Nat × Word)) : (l.inAll m).changes = l.changes := rfl

theorem substituted_settles {s v : State} {i n : Nat} (hi : i < 208) (hn : n < 208)
    (change : LineupChange.mk 0 i (some n) (s.servedBy 0 i) 2 none ∈ v.lnp.changes) :
    Substituted s (v.writeMap (substMap s.lnp.map i n (s.servedBy 0 i))).settle i n := by
  obtain ⟨-, lnp⟩ := writeMap_frame v (substMap s.lnp.map i n (s.servedBy 0 i))
  unfold Substituted
  rw [settle_lnp, lnp, inAll_map, inAll_changes]
  refine ⟨?_, fun c hc => ?_, ⟨_, change, rfl, rfl, rfl, rfl, rfl⟩⟩
  · rw [mapState_sealMap _ _ (by decide) hn]
    exact substMap_serves _ hn fun c => servedBy_lt
  · rw [mapLane_sealMap _ _ hc, mapLane_substMap hi hn _ _ hc]
    simp only [mem_servedBy hc]

theorem planChange_last (s : State) (i n : Nat) : (s.planChange i n).rd LNP_LAST = s.rd LNP_LAST := rfl

theorem planChange_lnp (s : State) (i n : Nat) : (s.planChange i n).lnp.map = s.lnp.map
    ∧ LineupChange.mk 0 i (some n) (s.servedBy 0 i) 2 none ∈ (s.planChange i n).lnp.changes :=
  ⟨rfl, List.mem_append_right _ (List.mem_singleton_self _)⟩

theorem sendOff_lane {s : State} {i n : Nat} (hi : i < 208) (serves : mapState s.lnp.map 0 i = 0) (pick : s.benchPick 0 = some n)
    (cause : Nat) : ∃ v, Aside ((s.noteOff 0 i (offWord 0 i cause)).planChange i n) v
      ∧ s.sendOff 0 i cause = v.writeMap (substMap s.lnp.map i n (s.servedBy 0 i)) := by
  obtain ⟨map, -⟩ := noteOff_effect s 0 i (offWord 0 i cause)
  rw [sendOff_serving hi serves, noteOff_pick, pick]
  generalize s.noteOff 0 i (offWord 0 i cause) = u at map ⊢
  obtain ⟨v, aside, run⟩ := replaced_lane u i n
  rw [map, servedBy_congr map] at run
  exact ⟨v, aside, run⟩

/-- A lane in service is sent off, and the lane of the bench takes its channels and no other, by a change two line starts later. -/
theorem sendOff_lane_settles {s : State} {i n : Nat} (hi : i < 208) (serves : mapState s.lnp.map 0 i = 0) (pick : s.benchPick 0 = some n)
    (cause : Nat) : SentOff s (s.sendOff 0 i cause).settle 0 i cause ∧ Substituted s (s.sendOff 0 i cause).settle i n := by
  obtain ⟨hn, bench⟩ := benchPick_bench pick
  have apart : i ≠ n := fun e => by rw [e, bench] at serves; exact absurd serves (by decide)
  obtain ⟨map, -, last, -, event⟩ := noteOff_effect s 0 i (offWord 0 i cause)
  obtain ⟨v, aside, run⟩ := sendOff_lane hi serves pick cause
  rw [run]
  generalize s.noteOff 0 i (offWord 0 i cause) = u at map last event aside
  obtain ⟨same, change⟩ := planChange_lnp u i n
  rw [servedBy_congr map, ← aside.lnp] at change
  rw [← aside.lnp] at same
  exact ⟨sentOff_settles (same.trans map) (aside.last.trans ((planChange_last u i n).trans last)) (aside.more _ event) (by decide) hi
    (substMap_off hi hn _ apart fun c => servedBy_lt), substituted_settles hi hn change⟩

/-! ### Reports of errors (R306) -/

theorem errorReport_exec {s : State} (h : s.pwr.coreInReset = false) {k : Fin 3} {i : BitVec 12} (hi : i.toNat < kindSize k)
    (cause : BitVec 8) : exec (.elementErrorReport k.castSucc i (.permanent cause)) s = .next (s.sendOff k i.toNat cause.toNat).settle := by
  refine (done_inCore h _).trans (congrArg done ?_)
  exact (if_neg (Nat.not_le.mpr hi)).trans (if_neg (by show ¬ k.val = 3; omega))

theorem errorReport_bench {s : State} (h : s.pwr.coreInReset = false) {k : Fin 3} {i : BitVec 12} (hi : i.toNat < kindSize k)
    (bench : mapState s.lnp.map k i.toNat = 1) (cause : BitVec 8) :
    Gives (.elementErrorReport k.castSucc i (.permanent cause)) s fun t => SentOff s t k i.toNat cause.toNat :=
  ⟨_, errorReport_exec h hi cause, (sendOff_bench_settles k.isLt hi bench cause.toNat).1⟩

theorem errorReport_lane {s : State} (h : s.pwr.coreInReset = false) {i : BitVec 12} {n : Nat} (hi : i.toNat < 208)
    (serves : mapState s.lnp.map 0 i.toNat = 0) (pick : s.benchPick 0 = some n) (cause : BitVec 8) :
    Gives (.elementErrorReport 0 i (.permanent cause)) s fun t => SentOff s t 0 i.toNat cause.toNat ∧ Substituted s t i.toNat n :=
  ⟨_, errorReport_exec (k := 0) h hi cause, sendOff_lane_settles hi serves pick cause.toNat⟩

theorem Kept.lnp {s t : State} {keys : List Nat} (h : Kept s t keys) (x : LnpState) : Kept s (t.setLnp x) keys := h.of_eq rfl rfl rfl rfl

/-- The first transient error of all, below the limit, is only listed. -/
theorem reportTransient_first {s : State} (empty : s.lnp.errors = []) (limit : 1 < s.fld LNP_CFG_ERR_LIMIT) (k i : Nat) :
    s.reportTransient k i = s.setLnp { s.lnp with errors := [(4096 * k + i, s.now)] } := by
  unfold State.reportTransient
  rw [empty]
  refine (if_neg ?_).trans rfl
  show ¬ s.fld LNP_CFG_ERR_LIMIT ≤ _
  simp [limit]

theorem errorReport_transient {s : State} (h : s.pwr.coreInReset = false) {k : Fin 3} {i : BitVec 12} (hi : i.toNat < kindSize k)
    (empty : s.lnp.errors = []) (limit : 1 < s.fld LNP_CFG_ERR_LIMIT) :
    Gives (.elementErrorReport k.castSucc i .transient) s fun t => t.lnp.errors = [(4096 * k.val + i.toNat, s.now)]
      ∧ t.lnp.map = s.lnp.map ∧ Kept s t [] := by
  have run : exec (.elementErrorReport k.castSucc i .transient) s = .next (s.reportTransient k i.toNat).settle := by
    refine (done_inCore h _).trans (congrArg done ?_)
    exact (if_neg (Nat.not_le.mpr hi)).trans (if_neg (by show ¬ k.val = 3; omega))
  refine ⟨_, run, ?_⟩
  beta_reduce
  rw [reportTransient_first empty limit, settle_lnp]
  exact ⟨rfl, rfl, ((Kept.refl s []).lnp _).settle⟩

/-! ### The scrub of the tiles (R306) -/

/-- The state in which a scrub pass takes place. -/
def State.scrubBegun (s : State) : State :=
  let u := s.advance (s.lnp.scrubAt + 256000000000 * s.fld LNP_SCRUB_V)
  u.setLnp { u.lnp with scrubAt := u.now }

/-- What a scrub pass does with one uncorrectable word. -/
def State.scrubWord (s : State) (w : BitVec 9 × BitVec 10 × BitVec 10) : State :=
  if 288 ≤ w.1.toNat || w.2.1 = 0 then s
  else if w.2.1 = w.2.2 then s.sendOff 2 w.1.toNat 0x04
  else s.reportReplays 2 w.1.toNat 1

theorem scrubPass_exec {s : State} (h : s.pwr.coreInReset = false) (w : BitVec 9 × BitVec 10 × BitVec 10) :
    exec (.scrubPass [w]) s = .next (s.scrubBegun.scrubWord w).settle := by
  refine (done_inCore h _).trans (congrArg done ?_)
  unfold State.scrubBegun State.scrubWord
  rfl

theorem scrubBegun_lnp (s : State) : s.scrubBegun.lnp.map = s.lnp.map ∧ s.scrubBegun.lnp.replays = s.lnp.replays := by
  have same := State.advance_lnp s (s.lnp.scrubAt + 256000000000 * s.fld LNP_SCRUB_V)
  exact ⟨(congrArg LnpState.map same :), (congrArg LnpState.replays same :)⟩

theorem scrubBegun_fld (s : State) (f : Fld) : s.scrubBegun.fld f = s.fld f := fld_advance s _ f

theorem scrubBegun_now (s : State) : s.scrubBegun.now = max s.now (s.lnp.scrubAt + 256000000000 * s.fld LNP_SCRUB_V) :=
  State.advance_now s _

theorem scrubPass_permanent {s : State} {i : BitVec 9} {x : BitVec 10} (h : s.pwr.coreInReset = false) (hi : i.toNat < 288)
    (bench : mapState s.lnp.map 2 i.toNat = 1) (hx : x ≠ 0) :
    Gives (.scrubPass [(i, x, x)]) s fun t => SentOff s t 2 i.toNat 4
      ∧ t.now = max s.now (s.lnp.scrubAt + 256000000000 * s.fld LNP_SCRUB_V) := by
  obtain ⟨map, -⟩ := scrubBegun_lnp s
  have word : s.scrubBegun.scrubWord (i, x, x) = s.scrubBegun.sendOff 2 i.toNat 0x04 :=
    (if_neg (by simpa [hi] using hx)).trans (if_pos rfl)
  obtain ⟨off, now⟩ := sendOff_bench_settles (s := s.scrubBegun) (k := 2) (by decide) hi (by rwa [map]) 0x04
  refine ⟨_, (scrubPass_exec h _).trans (by rw [word]), ?_, ?_⟩
  · unfold SentOff at off ⊢
    rwa [map] at off
  · rw [settle_now, now, scrubBegun_now]

/-- The first replay of all, within the limit, is only listed. -/
theorem reportReplays_first {s : State} (empty : s.lnp.replays = []) (limit : 0 < s.fld LNP_CFG_REPLAY_MAX) (k i : Nat) :
    s.reportReplays k i 1 = s.setLnp { s.lnp with replays := [(4096 * k + i, s.now)] } := by
  unfold State.reportReplays
  rw [empty]
  refine (if_neg ?_).trans rfl
  show ¬ s.fld LNP_CFG_REPLAY_MAX < _
  simp
  omega

theorem scrubPass_replay {s : State} {i : BitVec 9} {x y : BitVec 10} (h : s.pwr.coreInReset = false) (hi : i.toNat < 288) (hx : x ≠ 0)
    (differs : x ≠ y) (empty : s.lnp.replays = []) (limit : 0 < s.fld LNP_CFG_REPLAY_MAX) :
    Gives (.scrubPass [(i, x, y)]) s fun t => t.lnp.replays = [(4096 * 2 + i.toNat, t.now)] ∧ t.lnp.map = s.lnp.map ∧ Kept s t [] := by
  obtain ⟨map, replays⟩ := scrubBegun_lnp s
  have word : s.scrubBegun.scrubWord (i, x, y)
      = s.scrubBegun.setLnp { s.scrubBegun.lnp with replays := [(4096 * 2 + i.toNat, s.scrubBegun.now)] } :=
    (if_neg (by simpa [hi] using hx)).trans ((if_neg differs).trans
      (reportReplays_first (replays.trans empty) (by rwa [scrubBegun_fld]) 2 i.toNat))
  refine ⟨_, (scrubPass_exec h _).trans (by rw [word]), ?_⟩
  beta_reduce
  rw [settle_lnp, settle_now]
  exact ⟨rfl, map, (((Kept.refl s []).advance _).lnp _ |>.lnp _).settle⟩

end Sys2Proof.Machine
end

section
/-! PROOFS. A tile's copy ends and poisons what failed (R307), a channel changes over to its new lane (R124, R308), and O36. -/

namespace Sys2Proof.Machine

open Sys2Proof.Laws

/-! ### The end of a tile's copy (R307) -/

/-- Adding word `base + w` to a list of poisoned words. -/
def poisonAt (base : Nat) (l : List Nat) (w : BitVec 15) : List Nat := if l.contains (base + w.toNat) then l else l ++ [base + w.toNat]

theorem mem_poisonAt (base : Nat) (l : List Nat) (w : BitVec 15) : base + w.toNat ∈ poisonAt base l w := by
  unfold poisonAt
  split
  · exact List.contains_iff_mem.mp ‹_›
  · exact List.mem_append_right _ (List.mem_singleton_self _)

theorem subset_poisonAt (base : Nat) (l : List Nat) (w : BitVec 15) : l ⊆ poisonAt base l w := by
  unfold poisonAt
  split
  · exact List.Subset.refl l
  · exact List.subset_append_left l _

theorem subset_poisonAll (base : Nat) (failed : List (BitVec 15)) (l : List Nat) : l ⊆ failed.foldl (poisonAt base) l := by
  induction failed generalizing l with
  | nil => exact List.Subset.refl l
  | cons a failed ih => exact fun _ h => ih _ (subset_poisonAt base l a h)

theorem mem_poisonAll (base : Nat) {failed : List (BitVec 15)} {w : BitVec 15} (h : w ∈ failed) (l : List Nat) :
    base + w.toNat ∈ failed.foldl (poisonAt base) l := by
  induction failed generalizing l with
  | nil => exact absurd h List.not_mem_nil
  | cons a failed ih =>
    rcases List.mem_cons.mp h with rfl | later
    · exact subset_poisonAll base failed _ (mem_poisonAt base l w)
    · exact ih later _

/-- The state with no change of the lineup waiting. -/
def State.noChanges (s : State) : State := s.setLnp { s.lnp with changes := [] }

/-- The state with the failed words of the tile at a position poisoned. -/
def State.poisoned (s : State) (pos : BitVec 8) (failed : List (BitVec 15)) : State :=
  { s with poison := failed.foldl (poisonAt (pos.toNat * 0x8000)) s.poison }

/-- The changeover of a tile that no channel uses lists no channel as DARK and reports itself. -/
theorem changeover_spareTile (s : State) (i n p : Nat) : s.changeover ⟨2, i, some n, [], 0, some p⟩
    = (s.setLnp { s.lnp with dark := s.lnp.dark.filter (fun (c : Nat) => !([] : List Nat).contains c) ++ [] }).raise EV_LNP_SUBSTITUTED := rfl

theorem tileCopyDone_exec {s : State} (h : s.pwr.coreInReset = false) {i n : Nat} {pos : BitVec 8} (failed : List (BitVec 15))
    (changes : s.lnp.changes = [⟨2, i, some n, [], 0, some pos.toNat⟩]) (work : mapRole s.lnp.map pos.toNat ≠ 1) :
    exec (.tileCopyDone pos failed) s
      = .next ((s.noChanges.poisoned pos failed).changeover ⟨2, i, some n, [], 0, some pos.toNat⟩).settle := by
  refine (done_inCore h _).trans (congrArg done ?_)
  rw [changes, List.find?_cons_of_pos (by simp)]
  dsimp only
  rw [List.erase_cons_head, if_pos work]
  rfl

theorem tileCopyDone_poisons {s : State} (h : s.pwr.coreInReset = false) {i n : Nat} {pos : BitVec 8} (failed : List (BitVec 15))
    (changes : s.lnp.changes = [⟨2, i, some n, [], 0, some pos.toNat⟩]) (work : mapRole s.lnp.map pos.toNat ≠ 1) :
    Gives (.tileCopyDone pos failed) s fun t => t.lnp.changes = [] ∧ (∀ w ∈ failed, pos.toNat * 0x8000 + w.toNat ∈ t.poison)
      ∧ Logged t EV_LNP_SUBSTITUTED ∧ Kept s t [] := by
  refine ⟨_, tileCopyDone_exec h failed changes work, ?_⟩
  beta_reduce
  rw [changeover_spareTile, settle_lnp, settle_poison]
  have kept : Kept s (s.noChanges.poisoned pos failed) [] := (Kept.refl s []).of_eq rfl rfl rfl rfl
  exact ⟨rfl, fun w hw => mem_poisonAll _ hw s.poison, logged_raise _ (by decide), ((kept.lnp _).raise _).settle⟩

/-! ### What a changeover shows (R124, R147, R308) -/

/-- What shows a channel's changeover: the channel's entry of the crossbar, the status of the lane, and the changes that wait. -/
def shown (c n : Nat) (s : State) : Word × Word × List LineupChange := (s.rd (TDC_XBAR c), s.rd (TDC_LANE_STATUS n), s.lnp.changes)

theorem laneStatus_inj {l n : Nat} (h : l ≠ n) : TDC_LANE_STATUS n ≠ TDC_LANE_STATUS l := by
  simp only [TDC_LANE_STATUS]
  omega

theorem xbar_apart {c : Nat} (hc : c < 192) (l : Nat) : TDC_XBAR c ≠ TDC_LANE_STATUS l := by
  simp only [TDC_XBAR, TDC_LANE_STATUS]
  omega

theorem lostItems_rd (s : State) (k m : Nat) {j : Nat} (h : j ≠ BGT_LOST_ITEMS k) : (s.lostItems k m).rd j = s.rd j := by
  unfold State.lostItems
  split
  · rfl
  · exact rd_wr_other s _ h

theorem lostItems_lnp (s : State) (k m : Nat) : (s.lostItems k m).lnp = s.lnp := by
  unfold State.lostItems
  split <;> rfl

theorem leaveService_rd (s : State) (l : Nat) {k : Nat} (h : k ∉ BGT_LOST_ITEMS 1 :: resetKeys l) : (s.leaveService l).rd k = s.rd k := by
  obtain ⟨items, keys⟩ := not_or.mp (mt List.mem_cons.mpr h)
  exact (lostItems_rd _ 1 _ items).trans (laneReset_rd s l keys)

theorem leaveService_lnp (s : State) (l : Nat) : (s.leaveService l).lnp = s.lnp :=
  (lostItems_lnp _ 1 _).trans (aside_laneReset s l).lnp

/-- The status of lane `n` as that of a lane in service for a channel. -/
def State.showServing (s : State) (n c : Nat) : State := (s.setFld (TDC_LANE_STATUS_ROLE n) 0).setFld (TDC_LANE_STATUS_CHANNEL n) c

theorem showServing_shows (s : State) {n c : Nat} (hc : c < 192) : (s.showServing n c).laneOf c = s.laneOf c
    ∧ (s.showServing n c).laneRole n = 0 ∧ (s.showServing n c).fld (TDC_LANE_STATUS_CHANNEL n) = c := by
  refine ⟨?_, ?_, ?_⟩
  · refine fld_congr ?_
    exact (rd_wr_other _ _ (xbar_apart hc n)).trans (rd_wr_other _ _ (xbar_apart hc n))
  · refine (fld_setFld_other _ _ _ _ (show 16 ≤ 23 by decide) (show 23 < 32 by decide) (.inr (.inr (show 23 < 30 by decide)))).trans ?_
    exact fld_setFld_same _ _ _ (show 30 ≤ 31 by decide) (show 31 < 32 by decide)
  · refine (fld_setFld_same _ _ _ (show 16 ≤ 23 by decide) (show 23 < 32 by decide)).trans ?_
    exact Nat.mod_eq_of_lt (show c < 256 by omega)

section
variable {c n l : Nat} (hc : c < 192)
include hc

theorem shown_leaveService (s : State) : shown c n (s.leaveService l) = shown c n s := by
  have xbar : TDC_XBAR c ∉ BGT_LOST_ITEMS 1 :: resetKeys l := by
    simp only [resetKeys, TDC_XBAR, EVL_LOST_ITEMS, BGT_LOST_ITEMS, EVL_DEPTH, TDC_EVT_INFO, List.mem_cons, List.not_mem_nil, or_false,
      not_or]
    omega
  have lane : TDC_LANE_STATUS n ∉ BGT_LOST_ITEMS 1 :: resetKeys l := by
    simp only [resetKeys, TDC_LANE_STATUS, EVL_LOST_ITEMS, BGT_LOST_ITEMS, EVL_DEPTH, TDC_EVT_INFO, List.mem_cons, List.not_mem_nil,
      or_false, not_or]
    omega
  unfold shown
  rw [leaveService_rd s l xbar, leaveService_rd s l lane, leaveService_lnp]

/-- A field of another lane's status is no part of what is shown. -/
theorem shown_setFld (s : State) {f : Fld} (v : Nat) (own : f.reg = TDC_LANE_STATUS l) (h : l ≠ n) :
    shown c n (s.setFld f v) = shown c n s := by
  unfold shown
  rw [rd_setFld, if_neg (own ▸ xbar_apart hc l), rd_setFld, if_neg (own ▸ laneStatus_inj h), State.setFld_lnp]

theorem shown_showOldLane (s : State) (h : l ≠ n) : shown c n (s.showOldLane l) = shown c n s := by
  unfold State.showOldLane
  split <;> exact (shown_setFld hc _ _ rfl h).trans (shown_setFld hc s _ rfl h)

end

/-- The crossbar leads a channel to lane `n`, and the lane that it left is reset and shown as the map has it. -/
def State.ledTo (s : State) (c n : Nat) : State := ((s.setFld (TDC_XBAR_LANE c) n).leaveService (s.laneOf c)).showOldLane (s.laneOf c)

/-- A lane that takes up service begins with an empty event lane. -/
def State.freshLane (s : State) (n : Nat) : State :=
  let x := s.lane n
  s.setLane n { x with out := [], forming := [], newItem := true, noItem := x.noItem || x.openWin }

theorem freshLane_frame (s : State) (n : Nat) : (∀ k, (s.freshLane n).rd k = s.rd k) ∧ (s.freshLane n).lnp = s.lnp := ⟨fun _ => rfl, rfl⟩

theorem showServing_lnp (s : State) (n c : Nat) : (s.showServing n c).lnp = s.lnp := by
  rw [State.showServing, State.setFld_lnp, State.setFld_lnp]

theorem crossbar_moves {s : State} {c n : Nat} (lane : mapLane s.lnp.map c = n) (moves : s.laneOf c ≠ n) :
    s.crossbar c = ((s.ledTo c n).freshLane n).showServing n c := by
  unfold State.crossbar
  rw [lane]
  exact if_neg moves

theorem ledTo_shows {s : State} {c n : Nat} (hc : c < 192) (hn : n < 208) (moves : s.laneOf c ≠ n) :
    (s.ledTo c n).laneOf c = n ∧ (s.ledTo c n).lnp.changes = s.lnp.changes := by
  have left : shown c n (s.ledTo c n) = shown c n (s.setFld (TDC_XBAR_LANE c) n) :=
    (shown_showOldLane hc _ moves).trans (shown_leaveService hc _)
  simp only [shown, Prod.mk.injEq] at left
  obtain ⟨xbar, -, changes⟩ := left
  refine ⟨?_, changes⟩
  refine (fld_congr (f := TDC_XBAR_LANE c) xbar).trans ((fld_setFld_same _ _ _ (show 0 ≤ 7 by decide) (show 7 < 32 by decide)).trans ?_)
  exact Nat.mod_eq_of_lt (show n < 256 by omega)

/-- What the changeover of a channel to lane `n` shows: the crossbar leads there, and the lane stands in service for the channel. -/
def ServesNow (t : State) (c n : Nat) : Prop := t.laneOf c = n ∧ t.laneRole n = 0 ∧ t.fld (TDC_LANE_STATUS_CHANNEL n) = c

theorem servesNow_of_shown {s t : State} {c n : Nat} (same : shown c n t = shown c n s) (h : ServesNow s c n) : ServesNow t c n := by
  simp only [shown, Prod.mk.injEq] at same
  obtain ⟨xbar, lane, -⟩ := same
  obtain ⟨leads, role, channel⟩ := h
  exact ⟨(fld_congr xbar).trans leads, (fld_congr lane).trans role, (fld_congr lane).trans channel⟩

theorem crossbar_shows {s : State} {c n : Nat} (hc : c < 192) (hn : n < 208) (lane : mapLane s.lnp.map c = n) (moves : s.laneOf c ≠ n) :
    ServesNow (s.crossbar c) c n ∧ (s.crossbar c).lnp.changes = s.lnp.changes := by
  rw [crossbar_moves lane moves]
  obtain ⟨leads, changes⟩ := ledTo_shows hc hn moves
  obtain ⟨rd, lnp⟩ := freshLane_frame (s.ledTo c n) n
  obtain ⟨own, role, channel⟩ := showServing_shows ((s.ledTo c n).freshLane n) (n := n) hc
  refine ⟨⟨own.trans ((fld_congr (rd _)).trans leads), role, channel⟩, ?_⟩
  rw [showServing_lnp, lnp, changes]

/-! ### The changeover of a lane (R124, R308) -/

/-- The change by which lane `n` takes channel `c` from element `i`, when it is due. -/
def laneChange (i n c : Nat) : LineupChange := ⟨0, i, some n, [c], 0, none⟩

theorem changeovers_one {s : State} {i n c : Nat} (changes : s.lnp.changes = [laneChange i n c]) :
    s.changeovers = s.noChanges.changeover (laneChange i n c) := by
  unfold State.changeovers State.dueChanges
  rw [changes]
  rfl

/-- A lane that is sent off leaves service, where it has not. -/
def State.retired (s : State) (i : Nat) : State :=
  if mapState s.lnp.map 0 i = 2 && s.laneRole i ≠ 2 then
    ((s.leaveService i).setFld (TDC_LANE_STATUS_ROLE i) 2).setFld (TDC_LANE_STATUS_CHANNEL i) 0xFF
  else s

/-- The work in hand that a changeover drops, and the channels that it leaves DARK. -/
def State.droppedFor (s : State) (i c : Nat) : State :=
  (s.setLnp { s.lnp with dark := s.lnp.dark.filter (fun (d : Nat) => !([c].contains d)) ++ [c].filter s.channelDead }).dropChannelWork
    (i = 0xFFF) c

theorem retired_eq (s : State) (i : Nat) : s.retired i = if (0 = 0 && mapState s.lnp.map 0 i = 2 && s.laneRole i ≠ 2 : Bool) then
      ((s.leaveService i).setFld (TDC_LANE_STATUS_ROLE i) 2).setFld (TDC_LANE_STATUS_CHANNEL i) 0xFF else s := by
  unfold State.retired
  simp

theorem changeover_lane (s : State) (i n c : Nat) :
    s.changeover (laneChange i n c) = (((s.crossbar c).retired i).droppedFor i c).raise EV_LNP_SUBSTITUTED := by
  unfold State.changeover
  extract_lets u v w dead x y z last
  have left : v = u.retired i := by
    rw [retired_eq]
    rfl
  have crossed : u = s.crossbar c := rfl
  clear_value v
  clear_value u
  have dropped : z = v.droppedFor i c := rfl
  clear_value z
  rw [← crossed, ← left, ← dropped]
  rfl

theorem shown_retired {c : Nat} (hc : c < 192) {i n : Nat} (apart : i ≠ n) (s : State) : shown c n (s.retired i) = shown c n s := by
  unfold State.retired
  split
  · exact (shown_setFld hc _ _ rfl apart).trans ((shown_setFld hc _ _ rfl apart).trans (shown_leaveService hc s))
  · rfl

theorem shown_droppedFor (c n i d : Nat) (s : State) : shown c n (s.droppedFor i d) = shown c n s := rfl

theorem shown_raise (c n e : Nat) (s : State) : shown c n (s.raise e) = shown c n s := rfl

theorem settleKey_xbar : ∀ {c : Nat}, c < 192 → settleKey (TDC_XBAR c) = false := by decide +kernel
theorem settleKey_laneStatus : ∀ {l : Nat}, l < 208 → settleKey (TDC_LANE_STATUS l) = false := by decide +kernel

theorem shown_settle {c n : Nat} (hc : c < 192) (hn : n < 208) (s : State) : shown c n s.settle = shown c n s := by
  unfold shown
  rw [settle_rd s (settleKey_xbar hc), settle_rd s (settleKey_laneStatus hn), settle_lnp]

theorem changeover_serves {s : State} {c i n : Nat} (hc : c < 192) (hn : n < 208) (apart : i ≠ n) (lane : mapLane s.lnp.map c = n)
    (moves : s.laneOf c ≠ n) : ServesNow (s.changeover (laneChange i n c)).settle c n
      ∧ (s.changeover (laneChange i n c)).settle.lnp.changes = s.lnp.changes := by
  have same : shown c n (s.changeover (laneChange i n c)).settle = shown c n (s.crossbar c) := by
    rw [shown_settle hc hn, changeover_lane, shown_raise, shown_droppedFor, shown_retired hc apart]
  obtain ⟨serves, changes⟩ := crossbar_shows hc hn lane moves
  exact ⟨servesNow_of_shown same serves, (congrArg (fun x => x.2.2) same).trans changes⟩

theorem substitutionChangeover_serves {c i n : Nat} {s : State} (h : s.pwr.coreInReset = false) (hc : c < 192) (hn : n < 208)
    (apart : i ≠ n) (changes : s.lnp.changes = [laneChange i n c]) (lane : mapLane s.lnp.map c = n) (moves : s.laneOf c ≠ n) :
    Gives .substitutionChangeover s fun t => t.lnp.changes = [] ∧ t.laneOf c = n ∧ t.laneRole n = 0
      ∧ t.fld (TDC_LANE_STATUS_CHANNEL n) = c ∧ Logged t EV_LNP_SUBSTITUTED := by
  have run : exec .substitutionChangeover s = .next (s.noChanges.changeover (laneChange i n c)).settle := by
    rw [← changeovers_one changes]
    exact done_inCore h State.changeovers
  obtain ⟨⟨leads, role, channel⟩, empty⟩ := changeover_serves (s := s.noChanges) hc hn apart lane moves
  refine ⟨_, run, empty, leads, role, channel, ?_⟩
  rw [changeover_lane]
  exact logged_raise _ (by decide)

/-- Settles O36: what is sent off is reported and written into the map with what takes its place, an error short of that is only counted, and a
changeover leads the crossbar to the map's lane. -/
theorem elementsAreSentOffAndReplaced : Obligations.ElementsAreSentOffAndReplaced := by
  unfold Obligations.ElementsAreSentOffAndReplaced
  refine ⟨?permanentOnBench, ?permanentInService, ?transient, ?failedAgain, ?replay, ?copied, ?changedOver⟩
  case permanentOnBench => exact fun k i cause s h hi bench => errorReport_bench h hi bench cause
  case permanentInService => exact fun i n cause s h hi serves pick => errorReport_lane h hi serves pick cause
  case transient => exact fun k i s h hi empty limit => errorReport_transient h hi empty limit
  case failedAgain => exact fun i x s h hi bench hx => scrubPass_permanent h hi bench hx
  case replay => exact fun i x y s h hi hx differs empty limit => scrubPass_replay h hi hx differs empty limit
  case copied => exact fun i n pos failed s h changes work => tileCopyDone_poisons h failed changes work
  case changedOver =>
    exact fun c i n s h hc _ hn apart changes lane _ moves => substitutionChangeover_serves h hc hn apart changes lane moves

end Sys2Proof.Machine
end

section
/-! SUPPORT. Tables: what a search answers after a put, so for channel-lines, and what a read answers after a span of keys was left out, so for
memory. -/

namespace Sys2Proof.Machine

open Sys2Proof.Laws

/-- The entry that was put is the first of its key, in any table. -/
theorem find_tabPut_same {α : Type} (l : List (Nat × α)) (k : Nat) (v : α) :
    (tabPut l k v).find? (fun e => e.1 = k) = some (k, v) := by
  induction l with
  | nil => simp [tabPut]
  | cons e t ih =>
    obtain ⟨a, w⟩ := e
    unfold tabPut
    split
    · simp
    · rename_i other
      split
      · simp
      · simp [Ne.symm other, ih]

@[simp] theorem job_setJob_same (s : State) (key : Nat) (x : ChanLine) : (s.setJob key x).job key = some x :=
  congrArg (Option.map fun (e : Nat × ChanLine) => e.2) (find_tabPut_same s.hst.jobs key x)

/-- A key that a filter holds back reads as unlisted. -/
theorem tabGet_filter_out {α : Type} (d : α) (l : List (Nat × α)) (f : Nat → Bool) {k : Nat} (h : f k = false) :
    tabGet d (l.filter fun e => f e.1) k = d := by
  induction l with
  | nil => rfl
  | cons e t ih =>
    obtain ⟨a, v⟩ := e
    by_cases hf : f a = true
    · have apart : k ≠ a := fun e => by simp [← e, h] at hf
      simp [hf, tabGet, apart, ih]
    · simp [hf, ih]

/-- A byte of memory after a span was cleared. -/
theorem memRead_tabDrop (lo hi : Nat) (m : List Host.Cell) (a : Nat) :
    memRead (tabDrop lo hi m) a = if lo ≤ a ∧ a < hi then 0 else memRead m a := by
  let keeps : Nat → Bool := fun k => k < lo || hi ≤ k
  split
  · exact tabGet_filter_out 0 m keeps (by simp [keeps]; omega)
  · exact tabGet_filter 0 m keeps (by simp [keeps]; omega)

theorem memRead_tabDrop_twice (lo hi lo' hi' : Nat) (m : List Host.Cell) (a : Nat) :
    memRead (tabDrop lo' hi' (tabDrop lo hi m)) a = if (lo ≤ a ∧ a < hi) ∨ (lo' ≤ a ∧ a < hi') then 0 else memRead m a := by
  rw [memRead_tabDrop, memRead_tabDrop, ← ite_or]
  simp only [or_comm]

end Sys2Proof.Machine
end

section
/-! PROOFS. The passes of a channel-line: the coarse histogram ends, its windows are placed, the fine pass ends, and the line is collected
(R152 to R163). -/

namespace Sys2Proof.Machine

open Sys2Proof.Laws

/-- The oldest channel-line of channel `c` at a stage is `x`, of the line `l`, under `key`. -/
structure AtStage (s : State) (c stage key : Nat) (l : HstLine) (x : ChanLine) : Prop where
  oldest : s.jobAt c stage = some key
  line : s.lineOf (key / 192) = some l
  job : s.job key = some x

section

variable {s : State} {c key : Nat} {l : HstLine} {x : ChanLine}

/-! ### The coarse pass (R153, R155, R158) -/

/-- With no coarse shot taken no run is found, and the channel's ambient estimate stays. -/
theorem coarseComplete_noShot (h : AtStage s c 0 key l x) (ended : l.launchEnded = true)
    (all : (s.openRecs c (key / 192)).filter (fun r => r.kind = 0) = []) (untaken : x.nC = 0) :
    s.coarseComplete c = s.setJob key { x with stage := 1, amb := tabGet 0 s.hst.amb c } := by
  unfold State.coarseComplete
  simp [h.oldest, h.line, h.job, ended, all, untaken]

/-- The state after the coarse pass: the channel-line has its runs, and the line's estimate is the channel's. -/
def State.picked (s : State) (c key : Nat) (x : ChanLine) (runs : List PickRun) (amb : Nat) : State :=
  ({ s with hst := { s.hst with amb := tabSet 0 s.hst.amb c amb } } : State).setJob key { x with stage := 1, runs := runs, amb := amb }

/-- On a line that is no first of its settings, the runs are picked by the channel's previous estimate. -/
theorem coarseComplete_picks (h : AtStage s c 0 key l x) (ended : l.launchEnded = true)
    (all : (s.openRecs c (key / 192)).filter (fun r => r.kind = 0) = []) (taken : x.nC ≠ 0) (binned : x.notBinned = false)
    (good : x.void = false) (follows : x.fresh = false) (same : l.fresh = false) :
    let runs := findRuns l x.coarse (2 * x.nC * tabGet 0 s.hst.amb c) 65536
    s.coarseComplete c = s.picked c key x runs (ambientOf l x.coarse runs x.nC (tabGet 0 s.hst.amb c)) := by
  unfold State.coarseComplete
  simp [h.oldest, h.line, h.job, ended, all, taken, binned, good, follows, same, State.picked]

/-! ### The windows (R157) -/

theorem windowsPlaced_places (h : AtStage s c 1 key l x) (unheld : x.held = []) :
    ∃ y, s.windowsPlaced c = s.setJob key y ∧ y.stage = 2 ∧ y.windows = placeWindows l x.runs := by
  unfold State.windowsPlaced
  simp only [h.oldest, h.line, h.job, unheld]
  exact ⟨_, rfl, rfl, rfl⟩

/-! ### The fine pass (R160, R169) -/

/-- The fine pass shows the line in the channel's registers. -/
theorem finePass_shows (h : AtStage s c 2 key l x) (ended : l.launchEnded = true) (all : s.openRecs c (key / 192) = []) :
    ∃ y w, s.finePass c = (((s.setJob key y).wrN (HST_CH_SHOTS c)
      (min 127 x.lost * 2 ^ 24 + x.nZ * 2 ^ 16 + x.nC * 256 + x.windows.length)).wrN (HST_CH_AMB c) x.amb).wrN (HST_CH_WIN c) w := by
  unfold State.finePass
  simp [h.oldest, h.line, h.job, ended, all]
  exact ⟨_, _, rfl⟩

theorem settleKey_channel : ∀ c : Fin 192, settleKey (HST_CH_SHOTS c) = false ∧ settleKey (HST_CH_AMB c) = false := by decide +kernel

/-! ### Collection (R163) -/

/-- A collection with the tap off clears both areas of the line's buffer set. -/
theorem collectLine_mem (h : AtStage s c 3 key l x) (untapped : s.flag HST_TAP_CFG_EN = false) (binned : x.notBinned = false) :
    (s.collectLine c).mem = tabDrop (s.chanBase c + 0x4000 + 0x800 * (l.line % 2)) (s.chanBase c + 0x4000 + 0x800 * (l.line % 2 + 1))
      (tabDrop (s.chanBase c + 0x2000 * (l.line % 2)) (s.chanBase c + 0x2000 * (l.line % 2 + 1)) s.mem) := by
  have off (y : ChanLine) (a : Nat) (b : List Byte) : ((s.setJob key y).storeLocal a b).flag HST_TAP_CFG_EN = false := untapped
  unfold State.collectLine
  simp only [h.oldest, h.line, h.job, off, binned]
  rfl

end

/-! ### The commands -/

theorem finePassComplete_gives {s : State} {c : Fin 192} {key : Nat} {l : HstLine} {x : ChanLine} (core : s.pwr.coreInReset = false)
    (h : AtStage s c 2 key l x) (ended : l.launchEnded = true) (all : s.openRecs c (key / 192) = []) :
    Gives (.finePassComplete c) s fun t =>
      t.rd (HST_CH_SHOTS c) = BitVec.ofNat 32 (min 127 x.lost * 2 ^ 24 + x.nZ * 2 ^ 16 + x.nC * 256 + x.windows.length)
        ∧ t.rd (HST_CH_AMB c) = BitVec.ofNat 32 x.amb ∧ Kept s t [HST_CH_SHOTS c, HST_CH_AMB c, HST_CH_WIN c] := by
  obtain ⟨y, w, shown⟩ := finePass_shows h ended all
  obtain ⟨shots, amb⟩ := settleKey_channel c
  have shots_amb : HST_CH_SHOTS c ≠ HST_CH_AMB c := by unfold HST_CH_SHOTS HST_CH_AMB; omega
  have shots_win : HST_CH_SHOTS c ≠ HST_CH_WIN c := by unfold HST_CH_SHOTS HST_CH_WIN; omega
  have amb_win : HST_CH_AMB c ≠ HST_CH_WIN c := by unfold HST_CH_AMB HST_CH_WIN; omega
  have job : Kept s (s.setJob key y) [HST_CH_SHOTS c, HST_CH_AMB c, HST_CH_WIN c] := Kept.same
  refine ⟨_, (done_inCore core _).trans (by rw [shown]), ?_, ?_, ?_⟩
  · rw [settle_rd _ shots, rd_wrN, if_neg shots_win, rd_wrN, if_neg shots_amb, rd_wrN, if_pos rfl]
  · rw [settle_rd _ amb, rd_wrN, if_neg amb_win, rd_wrN, if_pos rfl]
  · exact (((job.wrN _ (by simp)).wrN _ (by simp)).wrN _ (by simp)).settle

/-- A hand-off whose parity holds is the collection alone. -/
theorem lineCollection_exec {s : State} (core : s.pwr.coreInReset = false) (c : Fin 192) :
    exec (.lineCollection c false) s = .next (s.collectLine c).settle := done_inCore core _

/-- Settles O26: each pass has one effect on the channel-line it finds at its stage, and a collection clears two spans of memory. -/
theorem histogramPasses : Obligations.HistogramPasses := by
  unfold Obligations.HistogramPasses
  refine ⟨?noShot, ?picks, ?places, ?shows, ?clears⟩
  case noShot =>
    intro c key l x s core oldest line ended all job untaken
    refine ⟨_, done_inCore core _, ?_⟩
    rw [coarseComplete_noShot ⟨oldest, line, job⟩ ended all untaken]
    exact job_setJob_same _ _ _
  case picks =>
    intro c key l x s core oldest line ended all job taken binned good follows same
    refine ⟨_, done_inCore core _, ?_⟩
    rw [coarseComplete_picks ⟨oldest, line, job⟩ ended all taken binned good follows same]
    exact ⟨job_setJob_same _ _ _, tabGet_tabSet_same _ _ _ _⟩
  case places =>
    intro c key l x s core oldest line job unheld
    obtain ⟨y, placed, stage, windows⟩ := windowsPlaced_places ⟨oldest, line, job⟩ unheld
    exact ⟨_, done_inCore core _, y, placed ▸ job_setJob_same s key y, stage, windows⟩
  case shows =>
    exact fun c key l x s core oldest line ended all job => finePassComplete_gives core ⟨oldest, line, job⟩ ended all
  case clears =>
    intro c key l x s core oldest line job untapped binned
    refine ⟨_, lineCollection_exec core c, fun a => ?_⟩
    rw [settle_mem, collectLine_mem ⟨oldest, line, job⟩ untapped binned]
    exact memRead_tabDrop_twice _ _ _ _ _ _

end Sys2Proof.Machine
end

section
/-! PROOFS. Runs, windows and thresholds stay in bounds (R154, R155, R157), and the writes of HST_COMMIT and of the tap are checked (R165, R166,
R194). -/

namespace Sys2Proof.Machine

open Sys2Proof.Laws

/-! ### Bounds (R154, R155, R157) -/

theorem placeRun_length (l : HstLine) (placed : List (Nat × Nat)) (e : PickRun × Bool) :
    (placeRun l placed e).length ≤ placed.length + 1 := by
  unfold placeRun
  dsimp only
  split
  · simp
  · refine iteInduction (motive := fun q : List (Nat × Nat) => q.length ≤ _) (fun _ => Nat.le_succ _) fun _ => ?_
    refine iteInduction (motive := fun q : List (Nat × Nat) => q.length ≤ _) (fun _ => Nat.le_succ _) fun _ => ?_
    simp

theorem insertWindow_length (w : Nat × Nat) (l : List (Nat × Nat)) : (insertWindow w l).length = l.length + 1 := by
  induction l with
  | nil => rfl
  | cons a t ih =>
    unfold insertWindow
    split
    · rfl
    · simp [ih]

/-- Numbering the windows by their start keeps their count. -/
theorem foldl_insertWindow_length (placed acc : List (Nat × Nat)) :
    (placed.foldl (fun acc w => insertWindow w acc) acc).length = acc.length + placed.length := by
  induction placed generalizing acc with
  | nil => rfl
  | cons w t ih =>
    rw [List.foldl_cons, ih, insertWindow_length, List.length_cons]
    omega

/-- No run is tried once `n` windows stand. -/
theorem foldl_placeRun_length (l : HstLine) (n : Nat) (ranked : List (PickRun × Bool)) (acc : List (Nat × Nat)) (h : acc.length ≤ n) :
    (ranked.foldl (fun acc e => if acc.length < n then placeRun l acc e else acc) acc).length ≤ n := by
  induction ranked generalizing acc with
  | nil => exact h
  | cons e t ih =>
    refine ih _ ?_
    dsimp only
    split
    · exact (placeRun_length l acc e).trans ‹_›
    · exact h

theorem placeWindows_length (l : HstLine) (runs : List PickRun) : (placeWindows l runs).length ≤ l.get HST_ZOOM_CFG_WINDOWS := by
  unfold placeWindows
  dsimp only
  rw [foldl_insertWindow_length, List.length_nil, Nat.zero_add]
  exact foldl_placeRun_length l _ _ [] (Nat.zero_le _)

theorem findRuns_length (l : HstLine) (h : List (Nat × Nat)) (p q : Nat) : (findRuns l h p q).length ≤ 16 := List.length_take_le 16 _

theorem le_threshold (thMin thK p q : Nat) : thMin ≤ threshold thMin thK p q := Nat.le_max_left _ _

/-! ### The commit (R165, R166) -/

theorem hstWrite_commit (s : State) (m : Bool) : s.hstWrite HST_COMMIT (BitVec.ofNat 32 (1 + 2 * b2n m)) = s.hstCommit m := by
  cases m <;> rfl

theorem histogramCommit_exec {p : Port} {s : State} (h : Reaches s p HST_COMMIT) (m : Bool) :
    exec (.histogramCommit p m) s = .next (s.hstCommit m).settle :=
  (done_unowned h _).trans (by rw [hstWrite_commit])

/-- A set that passes the checks is staged whole, with its mode and instant. -/
theorem hstCommit_staged {s : State} (h : s.hstCheck = 0) (m : Bool) :
    s.hstCommit m = ({ s with hst := { s.hst with pending := some (m, s.now), staged := s.shadowSet hstSpans } } : State).setFlag
      HST_STATUS_COMMIT_PENDING true := if_neg (by simp [h])

theorem hstCommit_refused {s : State} (h : s.hstCheck ≠ 0) (m : Bool) :
    s.hstCommit m = s.refuseWith HST_CFG_ERR EV_HST_CFG_ERROR (s.hstCheck * 2 ^ 24) :=
  (if_pos h).trans (by rw [refuse_eq, Nat.zero_mod, Nat.add_zero])

theorem hstRefused (s : State) (w : Nat) :
    let t := (s.refuseWith HST_CFG_ERR EV_HST_CFG_ERROR w).settle
    t.rd HST_CFG_ERR = BitVec.ofNat 32 w ∧ Logged t EV_HST_CFG_ERROR ∧ Kept s t [HST_CFG_ERR] := by
  obtain ⟨err, logged, -, kept⟩ := refuseWith_settles s (k := HST_CFG_ERR) (ev := EV_HST_CFG_ERROR) w (by decide) (by decide)
  exact ⟨err, logged, kept⟩

/-! ### The tap (R166) -/

theorem tapCfg_exec {p : Port} {s : State} (h : Reaches s p HST_TAP_CFG) (v : Word) :
    exec (.tapConfigWrite p 0 v) s = .next (s.hstWrite HST_TAP_CFG v).settle := done_unowned h _

theorem tapChannel_exec {p : Port} {r : Fin 8} {s : State} (h : Reaches s p (HST_TAP_CH r)) (v : Word) :
    exec (.tapConfigWrite p r.succ v) s = .next (s.hstWrite (HST_TAP_CH r) v).settle := done_unowned h _

theorem acc_tapCfg : accOf HST_TAP_CFG = some (.rw, 0xDF00FFFF) := by decide +kernel

/-- A write of HST_TAP_CFG with a DECIM of 1 or more is stored. -/
theorem hstWrite_tapCfg {s : State} {v : Word} (h : v.toNat % 65536 ≠ 0) :
    s.hstWrite HST_TAP_CFG v = s.wr HST_TAP_CFG (s.stored HST_TAP_CFG v) := by
  have store : s.hstWrite HST_TAP_CFG v = s.plainWrite HST_TAP_CFG HST_TAP_CFG v := by
    unfold State.hstWrite
    rw [if_neg (by decide), if_neg (by simp [h]), if_neg (by simp [HST_TAP_CH, HST_TAP_CFG])]
  rw [store, plainWrite_rw s _ _ v acc_tapCfg, State.stored, acc_tapCfg]

theorem hstWrite_noDecim {s : State} {v : Word} (h : v.toNat % 65536 = 0) :
    s.hstWrite HST_TAP_CFG v = s.refuseWith HST_CFG_ERR EV_HST_CFG_ERROR 0x08000000 := by
  unfold State.hstWrite
  rw [if_neg (by decide), if_pos (by simp [h])]
  rfl

/-- A tap channel that is none of the 192 is refused with its entry. -/
theorem hstWrite_noChannel {s : State} {r : Fin 8} {v : Word} (h : 191 < v.toNat % 256) :
    s.hstWrite (HST_TAP_CH r) v = s.refuseWith HST_CFG_ERR EV_HST_CFG_ERROR (0x08000000 + r) := by
  have entry : (HST_TAP_CH r - HST_TAP_CH 0) / 4 % 2 ^ 16 = r := by unfold HST_TAP_CH; omega
  have commit : HST_TAP_CH r ≠ HST_COMMIT := by unfold HST_TAP_CH HST_COMMIT; omega
  have config : HST_TAP_CH r ≠ HST_TAP_CFG := by unfold HST_TAP_CH HST_TAP_CFG; omega
  obtain ⟨first, last⟩ : HST_TAP_CH 0 ≤ HST_TAP_CH r ∧ HST_TAP_CH r ≤ HST_TAP_CH 7 := by unfold HST_TAP_CH; omega
  unfold State.hstWrite
  rw [if_neg commit, if_neg (by simp [config]), if_pos (by simp [first, last, h]), refuse_eq, entry]
  rfl

/-- Settles O27: the picker's bounds by its lists' lengths, and each write by the check it meets. -/
theorem pickingStaysInBounds : Obligations.PickingStaysInBounds := by
  unfold Obligations.PickingStaysInBounds
  refine ⟨⟨findRuns_length, placeWindows_length, le_threshold⟩, ?staged, ?refused, ?stored, ?noDecim, ?noChannel⟩
  case staged =>
    intro p m s h passes
    refine ⟨_, histogramCommit_exec h m, ?_⟩
    rw [hstCommit_staged passes]
    exact ⟨rfl, rfl⟩
  case refused =>
    intro p m s h fails
    refine ⟨_, histogramCommit_exec h m, ?_⟩
    rw [hstCommit_refused fails]
    exact hstRefused s _
  case stored =>
    intro p v s h decim
    refine ⟨_, tapCfg_exec h v, ?_, ?_⟩ <;> rw [hstWrite_tapCfg decim]
    · rw [settle_rd _ (by decide), rd_wr_same]
    · exact ((Kept.refl s _).wr _ (List.mem_singleton_self _)).settle
  case noDecim =>
    intro p v s h decim
    refine ⟨_, tapCfg_exec h v, ?_⟩
    rw [hstWrite_noDecim decim]
    obtain ⟨err, logged, kept⟩ := hstRefused s 0x08000000
    exact ⟨by rw [State.rdN, err]; rfl, logged, kept⟩
  case noChannel =>
    intro p r v s h channel
    refine ⟨_, tapChannel_exec h v, ?_⟩
    rw [hstWrite_noChannel channel]
    obtain ⟨err, logged, kept⟩ := hstRefused s (0x08000000 + r)
    exact ⟨by rw [State.rdN, err, BitVec.toNat_ofNat]; omega, logged, kept⟩

end Sys2Proof.Machine
end

section
/-! PROOFS. The lists of the vendor chain and its run on a collected line (R176, R180, R184, R187, R190). -/

namespace Sys2Proof.Machine

open Sys2Proof.Laws

/-! ### Sorted lists of returns (R180, R187) -/

theorem insertRet_perm {α : Type} (lt : α → α → Bool) (r : α) (l : List α) : (insertRet lt r l).Perm (r :: l) := by
  induction l with
  | nil => exact .refl _
  | cons a t ih =>
    unfold insertRet
    split
    · exact .refl _
    · exact (ih.cons a).trans (.swap r a t)

theorem sortRets_perm {α : Type} (lt : α → α → Bool) (l : List α) : (sortRets lt l).Perm l := by
  have inserted (acc : List α) : (l.foldl (fun acc r => insertRet lt r acc) acc).Perm (l ++ acc) := by
    induction l generalizing acc with
    | nil => exact .refl acc
    | cons r t ih => exact (ih _).trans (((insertRet_perm lt r acc).append_left t).trans List.perm_middle)
  simpa [sortRets] using inserted []

theorem sortRets_length {α : Type} (lt : α → α → Bool) (l : List α) : (sortRets lt l).length = l.length := (sortRets_perm lt l).length_eq

section
variable {α : Type} (f : α → Nat)

/-- The strict order by a number. -/
abbrev byNumber (a b : α) : Bool := f a < f b

theorem insertRet_sorted (r : α) {l : List α} (h : l.Pairwise fun a b => f a ≤ f b) :
    (insertRet (byNumber f) r l).Pairwise fun a b => f a ≤ f b := by
  induction l with
  | nil => exact List.pairwise_singleton _ r
  | cons a t ih =>
    obtain ⟨least, rest⟩ := List.pairwise_cons.mp h
    unfold insertRet
    split
    next less =>
      have first : f r < f a := of_decide_eq_true less
      refine List.pairwise_cons.mpr ⟨fun b hb => ?_, h⟩
      rcases List.mem_cons.mp hb with rfl | hb
      · exact first.le
      · exact first.le.trans (least b hb)
    next more =>
      have second : f a ≤ f r := by simpa using more
      refine List.pairwise_cons.mpr ⟨fun b hb => ?_, ih rest⟩
      rcases List.mem_cons.mp ((insertRet_perm _ r t).mem_iff.mp hb) with rfl | hb
      · exact second
      · exact least b hb

theorem sortRets_sorted (l : List α) : (sortRets (byNumber f) l).Pairwise fun a b => f a ≤ f b := by
  have sorted (acc : List α) (h : acc.Pairwise fun a b => f a ≤ f b) :
      (l.foldl (fun acc r => insertRet (byNumber f) r acc) acc).Pairwise fun a b => f a ≤ f b := by
    induction l generalizing acc with
    | nil => exact h
    | cons r t ih => exact ih _ (insertRet_sorted f r h)
  exact sorted [] .nil

end

theorem keepReturns_length (n : Nat) (l : List Ret) : (keepReturns n l).length ≤ n := by
  unfold keepReturns
  rw [sortRets_length]
  split
  · exact List.length_take_le n _
  · exact Nat.not_lt.mp ‹_›

theorem keepReturns_sorted (n : Nat) (l : List Ret) : (keepReturns n l).Pairwise fun a b => a.code ≤ b.code := sortRets_sorted Ret.code _

theorem kernelList_length (l : List (Nat × Nat)) : (kernelList l).length ≤ 4 :=
  (sortRets_length _ _).trans_le (List.length_take_le 4 _)

theorem kernelList_sorted (l : List (Nat × Nat)) : (kernelList l).Pairwise fun a b => recRange a.1 ≤ recRange b.1 :=
  sortRets_sorted (fun e : Nat × Nat => recRange e.1) _

/-- A record of range 0xF_FFFF is no return (R187). -/
theorem kernelList_range {l : List (Nat × Nat)} {e : Nat × Nat} (h : e ∈ kernelList l) : recRange e.1 ≠ 0xFFFFF := by
  have kept := List.mem_of_mem_take ((sortRets_perm _ _).mem_iff.mp h)
  exact of_decide_eq_true (List.mem_filter.mp kept).2

/-! ### Free values (log entry 10) -/

/-- `t` is `s` after free values were drawn. -/
def Drawn (s t : State) : Prop := ∃ n, t = { s with freeCount := n }

theorem Drawn.refl (s : State) : Drawn s s := ⟨s.freeCount, rfl⟩

theorem Drawn.trans {s t u : State} (h : Drawn s t) (g : Drawn t u) : Drawn s u := by
  obtain ⟨n, rfl⟩ := h
  obtain ⟨m, rfl⟩ := g
  exact ⟨m, rfl⟩

theorem drawn_fresh (s : State) : Drawn s s.fresh.2 := ⟨_, rfl⟩

theorem Drawn.kernelActive {s t : State} (h : Drawn s t) : t.kernelActive = s.kernelActive := by
  obtain ⟨n, rfl⟩ := h
  rfl

theorem drawn_deadFraction (s : State) (l : HstLine) (x : ChanLine) : Drawn s (s.deadFraction l x).2 := by
  unfold State.deadFraction
  dsimp only
  split
  · exact .refl s
  · split
    · exact drawn_fresh s
    · exact .refl s

theorem drawn_walk (s : State) (c width : Nat) : Drawn s (s.walk c width).2 := by
  unfold State.walk
  dsimp only
  split
  · exact drawn_fresh s
  · exact .refl s

theorem drawn_walkIf (s : State) (l : HstLine) (c width : Nat) :
    Drawn s (if l.get PNT_CHAIN_CFG_WALK_EN = 1 then s.walk c width else (0, s)).2 := by
  split
  · exact drawn_walk s c width
  · exact .refl s

theorem drawn_windowReturn (s : State) (c : Nat) (l : HstLine) (x : ChanLine) (j : Nat) : Drawn s (s.windowReturn c l x j).2 := by
  unfold State.windowReturn
  dsimp only
  split
  · exact .refl s
  · split
    · exact .refl s
    · split <;> exact drawn_walkIf s l c _

theorem drawn_coarseReturn (s : State) (c : Nat) (l : HstLine) (x : ChanLine) (e : PickRun × Bool) : Drawn s (s.coarseReturn c l x e).2 := by
  unfold State.coarseReturn
  dsimp only
  split <;> exact drawn_walkIf s l c _

/-! ### The decode (R176, R180) -/

theorem collectRets_length {α : Type} (f : State → α → Option Ret × State) (l : List α) (s : State) :
    (State.collectRets f l s).1.length ≤ l.length := by
  induction l generalizing s with
  | nil => exact Nat.le_refl 0
  | cons a t ih =>
    have one : (f s a).1.toList.length ≤ 1 := by cases (f s a).1 <;> simp
    have rest := ih (f s a).2
    simp only [State.collectRets, List.length_append, List.length_cons]
    omega

theorem drawn_collectRets {α : Type} {f : State → α → Option Ret × State} (h : ∀ s a, Drawn s (f s a).2) (l : List α) (s : State) :
    Drawn s (State.collectRets f l s).2 := by
  induction l generalizing s with
  | nil => exact .refl s
  | cons a t ih => exact (h s a).trans (ih _)

theorem decodeReturns_length (s : State) (c : Nat) (l : HstLine) (x : ChanLine) :
    (s.decodeReturns c l x).1.length ≤ l.get PNT_CHAIN_CFG_MAX_RETURNS := by
  unfold State.decodeReturns
  dsimp only
  split
  · exact Nat.zero_le _
  · split
    · rw [sortRets_length]
      exact (collectRets_length _ _ s).trans (List.length_take_le _ _)
    · exact keepReturns_length _ _

theorem drawn_decodeReturns (s : State) (c : Nat) (l : HstLine) (x : ChanLine) : Drawn s (s.decodeReturns c l x).2 := by
  unfold State.decodeReturns
  dsimp only
  split
  · exact .refl s
  · split
    · exact drawn_collectRets (fun t e => drawn_coarseReturn t c l x e) _ s
    · exact drawn_collectRets (fun t j => drawn_windowReturn t c l x j) _ s

/-! ### Classes and intensity (R181, R182) -/

theorem drawn_intensity (s : State) (l : HstLine) (x : ChanLine) (f : Rat) (code : Nat) (r : Ret) :
    Drawn s (s.intensity l x f code r).2 := by
  unfold State.intensity
  dsimp only
  split
  · exact drawn_fresh s
  · exact .refl s

theorem drawn_finishRecord (s : State) (l : HstLine) (x : ChanLine) (f : Rat) (rs : List Ret) (r : Nat) :
    Drawn s (s.finishRecord l x f rs r).2 := by
  unfold State.finishRecord
  split
  · split
    · exact .refl s
    · exact drawn_intensity s l x f _ _
  · exact drawn_intensity s l x f _ _

theorem finishRecords_length (l : HstLine) (x : ChanLine) (f : Rat) (rs : List Ret) (list : List (Nat × Nat)) (s : State) :
    (State.finishRecords l x f rs list s).1.length = list.length := by
  induction list generalizing s with
  | nil => rfl
  | cons e t ih => simp [State.finishRecords, ih]

theorem drawn_finishRecords (l : HstLine) (x : ChanLine) (f : Rat) (rs : List Ret) (list : List (Nat × Nat)) (s : State) :
    Drawn s (State.finishRecords l x f rs list s).2 := by
  induction list generalizing s with
  | nil => exact .refl s
  | cons e t ih => exact (drawn_finishRecord s l x f rs e.1).trans (ih _)

/-! ### The run (R174, R176, R184, R187, R190) -/

theorem runKernel_inactive {s : State} (h : s.kernelActive = false) (hook : Nat) (k : KernelRun) (l : List (Nat × Nat)) :
    s.runKernel hook k l = (l, false, s) := if_pos (by simp [h])

theorem job_storeReturns (s : State) (c : Nat) (l : HstLine) (x : ChanLine) (key : Nat) : (s.storeReturns c l x).job key = s.job key := rfl

/-- The stage that the chain takes a channel-line to. -/
abbrev HstLine.afterChain (l : HstLine) : Nat := if l.get PNT_CHAIN_CFG_COLOUR = 1 then 5 else 6

theorem forceList_length (x : ChanLine) (l : List (Nat × Nat)) : (forceList x l).length ≤ l.length := by
  unfold forceList
  split
  · exact Nat.zero_le _
  · split
    · rw [List.length_map]
    · exact Nat.le_refl _

theorem forceConf_conf (r : Nat) : forceConf r / 2 ^ 12 % 256 = 0 := by
  unfold forceConf
  omega

/-- An uncalibrated channel's returns have confidence 0 (R184). -/
theorem forceList_uncal {x : ChanLine} (h : x.uncal = true) {l : List (Nat × Nat)} {e : Nat × Nat} (he : e ∈ forceList x l) :
    e.1 / 2 ^ 12 % 256 = 0 := by
  unfold forceList at he
  split at he
  · exact absurd he List.not_mem_nil
  · obtain ⟨r, -, rfl⟩ := List.mem_map.mp he
    exact forceConf_conf r.1

section

variable {s : State} {c key : Nat} {l : HstLine} {x : ChanLine}

theorem runChain_notNormal (h : AtStage s c 4 key l x) (status : statusOf x ≠ 0) (k : KernelRun) :
    s.runChain c k = s.setJob key { x with stage := l.afterChain, returns := [] } := by
  unfold State.runChain
  simp only [h.oldest, h.job, h.line]
  exact if_pos status

/-- With no kernel the chain's records become the channel-line's list. -/
theorem runChain_normal (h : AtStage s c 4 key l x) (status : statusOf x = 0) (idle : s.kernelActive = false) (k : KernelRun) :
    ∃ list : List (Nat × Nat), list.length ≤ l.get PNT_CHAIN_CFG_MAX_RETURNS
      ∧ (s.runChain c k).job key = some { x with stage := l.afterChain, returns := forceList x list, kernelAbort := false } := by
  let f := (s.deadFraction l x).1
  let decoded := (s.deadFraction l x).2.decodeReturns c l x
  let finished := State.finishRecords l x f decoded.1 (decoded.1.map fun r => (r.record, 0)) decoded.2
  have idle1 : decoded.2.kernelActive = false :=
    ((drawn_deadFraction s l x).trans (drawn_decodeReturns _ c l x)).kernelActive.trans idle
  have idle2 : finished.2.kernelActive = false := (drawn_finishRecords l x f decoded.1 _ decoded.2).kernelActive.trans idle1
  have run : s.runChain c k = (finished.2.setJob key
      { x with stage := l.afterChain, returns := forceList x finished.1, kernelAbort := false }).storeReturns c l
      { x with stage := l.afterChain, returns := forceList x finished.1, kernelAbort := false } := by
    unfold State.runChain
    simp only [h.oldest, h.job, h.line]
    rw [if_neg (not_not.mpr status), runKernel_inactive idle1]
    dsimp only
    rw [runKernel_inactive idle2, ite_self]
    rfl
  refine ⟨finished.1, ?_, ?_⟩
  · rw [finishRecords_length, List.length_map]
    exact decodeReturns_length _ c l x
  · rw [run, job_storeReturns, job_setJob_same]

theorem runChain_none (h : s.jobAt c 4 = none) (k : KernelRun) : s.runChain c k = s := by
  unfold State.runChain
  rw [h]

end

end Sys2Proof.Machine
end

section
/-! PROOFS. Errors in the memory of a point engine (R175, R306). -/

namespace Sys2Proof.Machine

open Sys2Proof.Laws

/-! ### What the sending off of an engine leaves (R32, R306) -/

/-- Discarding work twice is discarding it once. -/
theorem discard_discard (x : ChanLine) : x.discard.discard = x.discard := by
  simp [ChanLine.discard]

/-- From `s` to `t` the registers above the lineup's are as they were, no source raised is lost, and a channel-line is kept or its work
discarded. -/
structure LineupOnly (s t : State) : Prop where
  rd : ∀ k, 0x280000 ≤ k → t.rd k = s.rd k
  more : ∀ r ∈ s.raised, r ∈ t.raised
  job : ∀ key x, s.job key = some x → t.job key = some x ∨ t.job key = some x.discard

theorem LineupOnly.refl (s : State) : LineupOnly s s := ⟨fun _ _ => rfl, fun _ h => h, fun _ _ h => .inl h⟩

theorem LineupOnly.trans {s t u : State} (h : LineupOnly s t) (g : LineupOnly t u) : LineupOnly s u := by
  refine ⟨fun k hk => (g.rd k hk).trans (h.rd k hk), fun r hr => g.more r (h.more r hr), fun key x hx => ?_⟩
  rcases h.job key x hx with kept | gone
  · exact g.job key x kept
  · have twice := g.job key _ gone
    rw [discard_discard] at twice
    exact .inr (or_self_iff.mp twice)

theorem LineupOnly.ite {s t u : State} {c : Prop} [Decidable c] (h : LineupOnly s t) (g : LineupOnly s u) :
    LineupOnly s (if c then t else u) := by
  split
  · exact h
  · exact g

theorem LineupOnly.loop {s : State} {f : Nat → State → State} {n : Nat} (h : ∀ i < n, ∀ t, LineupOnly t (f i t)) :
    LineupOnly s (loop n f s) := by
  induction n with
  | zero => exact .refl s
  | succ n ih => exact (ih fun i hi => h i (Nat.lt_succ_of_lt hi)).trans (h n (Nat.lt_succ_self n) _)

theorem lineupOnly_setLnp (s : State) (x : LnpState) : LineupOnly s (s.setLnp x) := ⟨fun _ _ => rfl, fun _ h => h, fun _ _ h => .inl h⟩

theorem lineupOnly_raise (s : State) (e : Nat) : LineupOnly s (s.raise e) :=
  ⟨fun _ _ => rfl, fun _ h => List.mem_append_left _ h, fun _ _ h => .inl h⟩

theorem lineupOnly_wr (s : State) {k : Nat} (w : Word) (h : k < 0x280000) : LineupOnly s (s.wr k w) :=
  ⟨fun _ hj => rd_wr_other s w (h.trans_le hj).ne', fun _ h => h, fun _ _ h => .inl h⟩

theorem lineupOnly_setFld (s : State) {f : Fld} (v : Nat) (h : f.reg < 0x280000) : LineupOnly s (s.setFld f v) := lineupOnly_wr s _ h

theorem lineupOnly_pool (s : State) (k src dst : Nat) (hk : k < 4) : LineupOnly s (s.pool k src dst) :=
  ⟨fun _ hj => pool_rd s k src dst (by simp only [LNP_POOL]; omega), fun _ h => h, fun _ _ h => .inl h⟩

theorem lineupOnly_writeMap (s : State) (m : List (Nat × Word)) : LineupOnly s (s.writeMap m) := by
  rw [writeMap_eq, showMap_eq]
  generalize s.lnp.inAll _ = x
  have shown : LineupOnly (s.setLnp x) (s.setLnp x).showEpoch := (lineupOnly_wr _ _ (by decide)).trans (lineupOnly_setFld _ _ (by decide))
  refine ((lineupOnly_setLnp s x).trans shown).trans (.loop fun i hi t => ?_)
  have below : LNP_COPY i < 0x280000 := by simp only [LNP_COPY]; omega
  exact (lineupOnly_setFld t _ below).trans (lineupOnly_setFld _ _ below)

/-- The channel-lines that a sending off touches carry its mark, under their keys (R32). -/
theorem lineupOnly_markSubst (s : State) (k i : Nat) (chans : List Nat) : LineupOnly s (s.markSubst k i chans) := by
  refine ⟨fun _ _ => rfl, fun _ h => h, fun key x hx => ?_⟩
  unfold State.job State.markSubst at *
  obtain ⟨e, found, rfl⟩ := Option.map_eq_some_iff.mp hx
  rw [List.find?_map]
  have keys (a : Nat × ChanLine) : (if chans.contains (a.1 % 192) && (a.1 / 192 = s.hst.lineSeq || a.2.worksOn k i) then (a.1, a.2.discard)
      else a).1 = a.1 := by split <;> rfl
  simp only [Function.comp_def, keys, found, Option.map_some]
  split
  · exact .inr rfl
  · exact .inl rfl

theorem lineupOnly_noteOff (s : State) (k i w : Nat) (hk : k < 4) : LineupOnly s (s.noteOff k i w) := by
  unfold State.noteOff
  exact ((lineupOnly_wr s _ (by decide)).trans (lineupOnly_raise _ _)).trans
    ((lineupOnly_pool _ k _ 2 hk).trans (lineupOnly_setLnp _ _))

theorem lineupOnly_replaced (s : State) (i : Nat) (sub : Option Nat) : LineupOnly s (s.replaced 1 i sub) := by
  unfold State.replaced
  extract_lets m chans pos _ u copying _ v w
  have planned : LineupOnly s v := (lineupOnly_setLnp s _).trans (lineupOnly_setLnp u _)
  have marked : LineupOnly s w := planned.trans (lineupOnly_markSubst v 1 i chans)
  cases sub with
  | none => exact marked.trans ((lineupOnly_raise w _).trans (lineupOnly_writeMap _ _))
  | some n => exact marked.trans ((lineupOnly_pool w 1 1 0 (by decide)).trans (lineupOnly_writeMap _ _))

theorem sendOff_gone {s : State} {k i : Nat} (h : mapState s.lnp.map k i = 2 ∨ kindSize k ≤ i) (cause : Nat) : s.sendOff k i cause = s :=
  if_pos (by simpa using h)

/-- An element that is neither of the bench nor gone gives way to its substitute. -/
theorem sendOff_replaced {s : State} {k i : Nat} (here : ¬ (mapState s.lnp.map k i = 2 ∨ kindSize k ≤ i))
    (serves : mapState s.lnp.map k i ≠ 1) (cause : Nat) :
    s.sendOff k i cause = (s.noteOff k i (offWord k i cause)).replaced k i ((s.noteOff k i (offWord k i cause)).benchPick k) := by
  unfold State.sendOff offWord
  generalize k * 2 ^ 28 + i * 2 ^ 16 + cause = w
  rw [if_neg (by simpa using here), if_neg serves]
  rfl

theorem lineupOnly_sendOff (s : State) (i cause : Nat) : LineupOnly s (s.sendOff 1 i cause) := by
  have noted := lineupOnly_noteOff s 1 i (offWord 1 i cause) (by decide)
  by_cases gone : mapState s.lnp.map 1 i = 2 ∨ kindSize 1 ≤ i
  · rw [sendOff_gone gone]
    exact .refl s
  · by_cases bench : mapState s.lnp.map 1 i = 1
    · rw [sendOff_bench (by omega) bench]
      exact noted.trans (lineupOnly_writeMap _ _)
    · rw [sendOff_replaced gone bench]
      exact noted.trans (lineupOnly_replaced _ i _)

theorem lineupOnly_reportTransient (s : State) (i : Nat) : LineupOnly s (s.reportTransient 1 i) := by
  unfold State.reportTransient
  extract_lets key win l _ u
  have listed : LineupOnly s u := lineupOnly_setLnp s _
  exact .ite (listed.trans (lineupOnly_sendOff u i _)) listed

theorem lineupOnly_reportReplays (s : State) (i n : Nat) : LineupOnly s (s.reportReplays 1 i n) := by
  unfold State.reportReplays
  extract_lets key win l _ u
  have listed : LineupOnly s u := lineupOnly_setLnp s _
  exact .ite (listed.trans (lineupOnly_sendOff u i _)) listed

/-! ### Replays and lost lines (R175) -/

/-- A replay counted and reported. -/
def State.replayed (s : State) : State := (s.wrN PNT_REPLAYS (s.rdN PNT_REPLAYS + 1)).raise EV_PNT_REPLAY

/-- The state with a channel-line's replay abandoned: the line is lost, counted and reported. -/
def State.abandoned (s : State) (key : Nat) (x : ChanLine) : State :=
  let t := s.setJob key { x with lineLost := true, returns := [], replays := x.replays + 1 }
  (t.wrN PNT_LINE_LOST (t.rdN PNT_LINE_LOST + 1)).raise EV_PNT_LINE_LOST

/-- The report of an engine's error and of its replay (R306). -/
def State.reportError (s : State) (e : Nat) : State := (s.reportTransient 1 e).reportReplays 1 e 1

theorem lineupOnly_reportError (s : State) (e : Nat) : LineupOnly s (s.reportError e) :=
  (lineupOnly_reportTransient s e).trans (lineupOnly_reportReplays _ e 1)

/-- The channel-line that an engine holds for a channel. -/
abbrev State.servedLine (s : State) (e c : Nat) : Option (Nat × ChanLine) :=
  s.hst.jobs.find? fun j => decide (j.1 % 192 = c) && decide (j.2.engine = e) && decide (4 ≤ j.2.stage)

section
variable {s : State} {e c key : Nat} {x : ChanLine}

/-- An error that a replay repairs in time. -/
theorem memoryError_replays (held : s.servedLine e c = some (key, x)) (job : s.job key = some x) (w : Nat) :
    s.memoryError e c .parity w false = (s.replayed.setJob key { x with replays := x.replays + 1 }).reportError e := by
  have job' : ((s.wrN PNT_REPLAYS (s.rdN PNT_REPLAYS + 1)).raise EV_PNT_REPLAY).job key = some x := job
  unfold State.servedLine at held
  unfold State.memoryError
  dsimp only
  rw [if_neg (by decide), held]
  dsimp only [Option.map_some]
  rw [if_neg (by simp), job']
  rfl

/-- An uncorrectable error whose replay cannot end in time. -/
theorem memoryError_abandons (held : s.servedLine e c = some (key, x)) (job : s.job key = some x) (w : Nat) :
    s.memoryError e c .uncorrectable w true
      = ((s.bump (PNT_ENG_STATUS_UNCORRECTED e) 1).replayed.abandoned key x).reportError e := by
  have held' : (s.bump (PNT_ENG_STATUS_UNCORRECTED e) 1).servedLine e c = some (key, x) := held
  have job' : (s.bump (PNT_ENG_STATUS_UNCORRECTED e) 1).replayed.job key = some x := job
  unfold State.servedLine at held'
  unfold State.replayed at job'
  unfold State.memoryError
  dsimp only
  rw [if_pos rfl, held']
  dsimp only [Option.map_some]
  rw [if_pos (by simp), job']
  rfl

/-! ### The command -/

theorem localMemoryError_exec (core : s.pwr.coreInReset = false) (e : Fin 52) (c : Fin 192) (kind : MemError) (w : BitVec 14) (late : Bool) :
    exec (.localMemoryError e c kind w late) s = .next (s.memoryError e c kind w.toNat late).settle := done_inCore core _

end

theorem engStatus_fields (e : Nat) : (PNT_ENG_STATUS_CORRECTED e).lo ≤ (PNT_ENG_STATUS_CORRECTED e).hi
    ∧ (PNT_ENG_STATUS_CORRECTED e).hi < 32 := by simp [PNT_ENG_STATUS_CORRECTED]

theorem settleKey_engStatus : ∀ e : Fin 52, settleKey (PNT_ENG_STATUS e) = false := by decide +kernel

/-- A corrected error is counted on its engine, and no more. -/
theorem localMemoryError_counts {s : State} (core : s.pwr.coreInReset = false) (e : Fin 52) (c : Fin 192) (w : BitVec 14) (late : Bool) :
    Gives (.localMemoryError e c .corrected w late) s fun t => t.fld (PNT_ENG_STATUS_CORRECTED e)
        = min (2 ^ ((PNT_ENG_STATUS_CORRECTED e).hi + 1 - (PNT_ENG_STATUS_CORRECTED e).lo) - 1) (s.fld (PNT_ENG_STATUS_CORRECTED e) + 1)
      ∧ Kept s t [PNT_ENG_STATUS e] := by
  obtain ⟨below, within⟩ := engStatus_fields e
  refine ⟨_, localMemoryError_exec core e c .corrected w late, ?_, ?_⟩
  · have settled : (s.bump (PNT_ENG_STATUS_CORRECTED e) 1).settle.fld (PNT_ENG_STATUS_CORRECTED e)
        = (s.bump (PNT_ENG_STATUS_CORRECTED e) 1).fld (PNT_ENG_STATUS_CORRECTED e) := fld_congr (settle_rd _ (settleKey_engStatus e))
    exact settled.trans (fld_bump_same s _ 1 below within)
  · exact ((Kept.refl s _).bump 1 (List.mem_singleton_self _)).settle

/-- The counters and events of a replay. -/
theorem replayed_counts (s : State) : s.replayed.rd PNT_REPLAYS = s.rd PNT_REPLAYS + 1
    ∧ s.replayed.rd PNT_LINE_LOST = s.rd PNT_LINE_LOST ∧ ⟨EV_PNT_REPLAY, none⟩ ∈ s.replayed.raised :=
  ⟨rd_wrN_succ s _, rd_wr_other s _ (by decide), mem_raised _ _⟩

/-- The counters and events of a line lost. -/
theorem abandoned_counts (s : State) (key : Nat) (x : ChanLine) : (s.abandoned key x).rd PNT_REPLAYS = s.rd PNT_REPLAYS
    ∧ (s.abandoned key x).rd PNT_LINE_LOST = s.rd PNT_LINE_LOST + 1 ∧ ⟨EV_PNT_LINE_LOST, none⟩ ∈ (s.abandoned key x).raised
    ∧ (∀ r ∈ s.raised, r ∈ (s.abandoned key x).raised)
    ∧ (s.abandoned key x).job key = some { x with lineLost := true, returns := [], replays := x.replays + 1 } :=
  ⟨rd_wr_other _ _ (by decide), rd_wrN_succ _ _, mem_raised _ _, fun _ h => List.mem_append_left _ h, job_setJob_same s key _⟩

theorem has_of_mem {s : State} {e : Nat} (h : ⟨e, none⟩ ∈ s.raised) : s.has e = true :=
  List.any_eq_true.mpr ⟨_, h, decide_eq_true rfl⟩

/-- What an error leaves of a channel-line is its marks, whether or not its work is discarded with its engine. -/
theorem reportError_job {s : State} {key : Nat} {x : ChanLine} (h : s.job key = some x) (e : Nat) :
    ∃ y, (s.reportError e).job key = some y ∧ y.lineLost = x.lineLost ∧ y.replays = x.replays ∧ (x.returns = [] → y.returns = []) := by
  rcases (lineupOnly_reportError s e).job key x h with kept | gone
  · exact ⟨x, kept, rfl, rfl, id⟩
  · exact ⟨x.discard, gone, rfl, rfl, fun _ => rfl⟩

section

variable {s : State} {e c key : Nat} {x : ChanLine} (held : s.servedLine e c = some (key, x)) (job : s.job key = some x) (w : Nat)
include held job

theorem memoryError_parity :
    let u := s.memoryError e c .parity w false
    u.rd PNT_REPLAYS = s.rd PNT_REPLAYS + 1 ∧ u.rd PNT_LINE_LOST = s.rd PNT_LINE_LOST ∧ u.has EV_PNT_REPLAY = true
      ∧ ∃ y, u.job key = some y ∧ y.lineLost = x.lineLost ∧ y.replays = x.replays + 1 := by
  obtain ⟨replays, lost, event⟩ := replayed_counts s
  let t := s.replayed.setJob key { x with replays := x.replays + 1 }
  have only : LineupOnly t (t.reportError e) := lineupOnly_reportError t e
  obtain ⟨y, found, own, count, -⟩ := reportError_job (job_setJob_same s.replayed key { x with replays := x.replays + 1 }) e
  rw [memoryError_replays held job]
  exact ⟨(only.rd _ (by decide)).trans replays, (only.rd _ (by decide)).trans lost, has_of_mem (only.more _ event), y, found, own, count⟩

theorem memoryError_lost :
    let u := s.memoryError e c .uncorrectable w true
    u.rd PNT_REPLAYS = s.rd PNT_REPLAYS + 1 ∧ u.rd PNT_LINE_LOST = s.rd PNT_LINE_LOST + 1 ∧ u.has EV_PNT_REPLAY = true
      ∧ u.has EV_PNT_LINE_LOST = true ∧ ∃ y, u.job key = some y ∧ y.lineLost = true ∧ y.returns = [] ∧ y.replays = x.replays + 1 := by
  let b := s.bump (PNT_ENG_STATUS_UNCORRECTED e) 1
  have counted (k : Nat) (h : k < 0x280100) : b.rd k = s.rd k := by
    refine (rd_bump s k _ 1).trans (if_neg ?_)
    simp only [PNT_ENG_STATUS_UNCORRECTED, PNT_ENG_STATUS]
    omega
  obtain ⟨replays, lost, event⟩ := replayed_counts b
  obtain ⟨replays', lost', event', more, job'⟩ := abandoned_counts b.replayed key x
  have only := lineupOnly_reportError (b.replayed.abandoned key x) e
  obtain ⟨y, found, own, count, empty⟩ := reportError_job job' e
  rw [memoryError_abandons held job]
  refine ⟨?_, ?_, has_of_mem (only.more _ (more _ event)), has_of_mem (only.more _ event'), y, found, own, empty rfl, count⟩
  · rw [only.rd _ (by decide), replays', replays, counted _ (by decide)]
  · rw [only.rd _ (by decide), lost', lost, counted _ (by decide)]

end

end Sys2Proof.Machine
end

section
/-! PROOFS. Colour is joined to the returns of the oldest line (R176, R188, R240). -/

namespace Sys2Proof.Machine

open Sys2Proof.Laws

/-! ### Tables of channel-lines -/

/-- A search for another key finds what it found before a put, in any table. -/
theorem find_tabPut_other {α : Type} (l : List (Nat × α)) {j k : Nat} (v : α) (h : j ≠ k) :
    (tabPut l k v).find? (fun e => e.1 = j) = l.find? (fun e => e.1 = j) := by
  induction l with
  | nil => simp [tabPut, Ne.symm h]
  | cons e t ih =>
    obtain ⟨a, w⟩ := e
    unfold tabPut
    split
    next own => simp [← own, Ne.symm h]
    next =>
      split
      · simp [Ne.symm h]
      · simp only [List.find?_cons, ih]

theorem job_setJob_other (s : State) {j key : Nat} (x : ChanLine) (h : j ≠ key) : (s.setJob key x).job j = s.job j :=
  congrArg (Option.map fun (e : Nat × ChanLine) => e.2) (find_tabPut_other s.hst.jobs x h)

/-- The keys of a table in canonical form rise. -/
theorem tabSorted_pairwise {α : Type} {lo : Nat} {l : List (Nat × α)} (h : tabSorted lo l = true) :
    (∀ e ∈ l, lo ≤ e.1) ∧ l.Pairwise fun a b => a.1 < b.1 := by
  induction l generalizing lo with
  | nil => exact ⟨fun _ h => absurd h List.not_mem_nil, .nil⟩
  | cons e t ih =>
    simp only [tabSorted, Bool.and_eq_true, decide_eq_true_eq] at h
    obtain ⟨least, rest⟩ := h
    obtain ⟨above, rising⟩ := ih rest
    refine ⟨fun b hb => ?_, List.pairwise_cons.mpr ⟨above, rising⟩⟩
    rcases List.mem_cons.mp hb with rfl | hb
    · exact least
    · have := above b hb
      omega

theorem mem_of_job {s : State} {key : Nat} {x : ChanLine} (h : s.job key = some x) : (key, x) ∈ s.hst.jobs := by
  obtain ⟨e, found, rfl⟩ := Option.map_eq_some_iff.mp h
  have own : e.1 = key := of_decide_eq_true (List.find?_some found :)
  exact own ▸ List.mem_of_find?_eq_some found

/-! ### A channel-line takes its colour (R188, R240) -/

/-- A channel-line with the colour of its scene angle in every return. -/
def State.joined (s : State) (l : HstLine) (key : Nat) (x : ChanLine) : ChanLine :=
  let ext := s.colourExt l (key % 192)
  { x with stage := 6, colour := ext, returns := forceList x (x.returns.map fun r => (r.1, ext)) }

/-- What the join does with one channel-line of the line. -/
def State.joinTurn (runs : List (BitVec 8 × KernelRun)) (l : HstLine) (s : State) (e : Nat × ChanLine) : State :=
  if e.2.stage ≠ 5 then s
  else
    let c := e.1 % 192
    let ext := s.colourExt l c
    let list := e.2.returns.map (fun r => (r.1, ext))
    let k := ((runs.find? (fun r => r.1.toNat = c)).map (fun r => r.2)).getD .unchanged
    let (list, abort, s) := if statusOf e.2 = 0 then s.runKernel 1 k list else (list, false, s)
    let x := { e.2 with stage := 6, colour := ext, returns := forceList e.2 list, kernelAbort := e.2.kernelAbort || abort }
    (s.setJob e.1 x).storeReturns c l x

section

variable (runs : List (BitVec 8 × KernelRun)) (l : HstLine)

theorem joinTurn_done (s : State) {e : Nat × ChanLine} (h : e.2.stage ≠ 5) : s.joinTurn runs l e = s := if_pos h

theorem joinTurn_idle {s : State} (idle : s.kernelActive = false) {e : Nat × ChanLine} (h : e.2.stage = 5) :
    s.joinTurn runs l e = (s.setJob e.1 (s.joined l e.1 e.2)).storeReturns (e.1 % 192) l (s.joined l e.1 e.2) := by
  unfold State.joinTurn
  rw [if_neg (not_not.mpr h)]
  dsimp only
  rw [runKernel_inactive idle, ite_self]
  dsimp only
  rw [Bool.or_false]
  rfl

/-- What colours and the kernel are read from. -/
structure SameColours (s t : State) : Prop where
  regs : t.regs = s.regs
  inForce : t.inForce = s.inForce
  isp : t.isp = s.isp

theorem SameColours.flag {s t : State} (h : SameColours s t) (f : Fld) : t.flag f = s.flag f :=
  flag_congr (by rw [State.rd, State.rd, h.regs])

theorem SameColours.flagF {s t : State} (h : SameColours s t) (f : Fld) : t.flagF f = s.flagF f := by
  rw [State.flagF, State.fldF, State.rdF, h.inForce]
  rfl

theorem SameColours.kernelActive {s t : State} (h : SameColours s t) : t.kernelActive = s.kernelActive := by
  simp only [State.kernelActive, h.flag, h.flagF]

theorem SameColours.joined {s t : State} (h : SameColours s t) (key : Nat) (x : ChanLine) : t.joined l key x = s.joined l key x := by
  simp only [State.joined, State.colourExt, h.flag, h.isp]

theorem joinTurn_same {s : State} (idle : s.kernelActive = false) (e : Nat × ChanLine) : SameColours s (s.joinTurn runs l e) := by
  by_cases h : e.2.stage = 5
  · rw [joinTurn_idle runs l idle h]
    exact ⟨rfl, rfl, rfl⟩
  · rw [joinTurn_done runs l s h]
    exact ⟨rfl, rfl, rfl⟩

theorem joinTurns_same {s : State} (idle : s.kernelActive = false) (jobs : List (Nat × ChanLine)) :
    SameColours s (jobs.foldl (State.joinTurn runs l) s) := by
  induction jobs generalizing s with
  | nil => exact ⟨rfl, rfl, rfl⟩
  | cons e t ih =>
    have one := joinTurn_same runs l idle e
    obtain ⟨regs, inForce, isp⟩ := ih (one.kernelActive.trans idle)
    exact ⟨regs.trans one.regs, inForce.trans one.inForce, isp.trans one.isp⟩

/-- A turn concerns its own channel-line alone. -/
theorem joinTurn_job_other {s : State} (idle : s.kernelActive = false) {e : Nat × ChanLine} {key : Nat} (h : key ≠ e.1) :
    (s.joinTurn runs l e).job key = s.job key := by
  by_cases turn : e.2.stage = 5
  · rw [joinTurn_idle runs l idle turn, job_storeReturns, job_setJob_other s _ h]
  · rw [joinTurn_done runs l s turn]

theorem joinTurns_job_other {s : State} (idle : s.kernelActive = false) {jobs : List (Nat × ChanLine)} {key : Nat}
    (h : ∀ e ∈ jobs, key ≠ e.1) : (jobs.foldl (State.joinTurn runs l) s).job key = s.job key := by
  induction jobs generalizing s with
  | nil => rfl
  | cons e t ih =>
    exact (ih ((joinTurn_same runs l idle e).kernelActive.trans idle) fun a ha => h a (List.mem_cons_of_mem e ha)).trans
      (joinTurn_job_other runs l idle (h e List.mem_cons_self))

/-- Of channel-lines under keys of their own, each takes the colour that stands at the join. -/
theorem joinTurns_job {s : State} (idle : s.kernelActive = false) {jobs : List (Nat × ChanLine)} {key : Nat} {x : ChanLine}
    (rising : jobs.Pairwise fun a b => a.1 < b.1) (mem : (key, x) ∈ jobs) (turn : x.stage = 5) :
    (jobs.foldl (State.joinTurn runs l) s).job key = some (s.joined l key x) := by
  obtain ⟨before, after, rfl⟩ := List.append_of_mem mem
  obtain ⟨-, own, -⟩ := List.pairwise_append.mp rising
  have later (e : Nat × ChanLine) (he : e ∈ after) : key ≠ e.1 := (List.rel_of_pairwise_cons own he).ne
  have same := joinTurns_same runs l idle before
  have idle' := same.kernelActive.trans idle
  rw [List.foldl_append, List.foldl_cons,
    joinTurns_job_other runs l ((joinTurn_same runs l idle' (key, x)).kernelActive.trans idle') later,
    joinTurn_idle runs l idle' turn, job_storeReturns, job_setJob_same, same.joined]

end

section

variable {s : State} {seq : Nat} {l : HstLine} {rest : List (Nat × HstLine)} (oldest : s.hst.lines = (seq, l) :: rest)
  (runs : List (BitVec 8 × KernelRun))
include oldest

theorem colourJoin_waits (h : ∃ e ∈ s.hst.jobs, e.1 / 192 = seq ∧ e.2.stage < 5) : s.colourJoin runs = s := by
  obtain ⟨e, mem, own, early⟩ := h
  unfold State.colourJoin
  rw [oldest]
  exact if_pos (List.any_eq_true.mpr ⟨e, List.mem_filter.mpr ⟨mem, decide_eq_true own⟩, decide_eq_true early⟩)

theorem colourJoin_ready (h : ∀ e ∈ s.hst.jobs, e.1 / 192 = seq → 5 ≤ e.2.stage) :
    s.colourJoin runs = (s.hst.jobs.filter fun e => e.1 / 192 = seq).foldl (State.joinTurn runs l) s := by
  unfold State.colourJoin
  rw [oldest]
  refine if_neg fun waits => ?_
  obtain ⟨e, mem, early⟩ := List.any_eq_true.mp waits
  obtain ⟨mem, own⟩ := List.mem_filter.mp mem
  exact absurd (of_decide_eq_true early) (Nat.not_lt.mpr (h e mem (of_decide_eq_true own)))

theorem colourJoin_joins {key : Nat} {x : ChanLine} (h : ∀ e ∈ s.hst.jobs, e.1 / 192 = seq → 5 ≤ e.2.stage)
    (sorted : tabSorted 0 s.hst.jobs = true) (idle : s.kernelActive = false) (job : s.job key = some x) (own : key / 192 = seq)
    (turn : x.stage = 5) : (s.colourJoin runs).job key = some (s.joined l key x) := by
  rw [colourJoin_ready oldest runs h]
  exact joinTurns_job runs l idle ((tabSorted_pairwise sorted).2.filter _)
    (List.mem_filter.mpr ⟨mem_of_job job, decide_eq_true own⟩) turn

end

/-- Settles O28: the lists of the chain by their sorting and cutting, each command by what it does with the channel-line it finds. -/
theorem returnsAreBounded : Obligations.ReturnsAreBounded := by
  unfold Obligations.ReturnsAreBounded
  refine ⟨⟨?decode, ?kernel, ?notNormal, ?normal, ?none⟩, ?corrected, ?replay, ?lost, ?waits, ?joins⟩
  case decode => exact fun n l => ⟨keepReturns_length n l, keepReturns_sorted n l⟩
  case kernel => exact fun l => ⟨kernelList_length l, kernelList_sorted l, fun _ => kernelList_range⟩
  case notNormal =>
    intro c k key l x s core oldest line job status
    refine ⟨_, done_inCore core _, ?_⟩
    rw [runChain_notNormal ⟨oldest, line, job⟩ status]
    exact job_setJob_same s key _
  case normal =>
    intro c k key l x s core oldest line job status idle
    obtain ⟨list, bound, found⟩ := runChain_normal ⟨oldest, line, job⟩ status idle k
    exact ⟨_, done_inCore core _, _, found, rfl, rfl, (forceList_length x list).trans bound, fun uncal _ => forceList_uncal uncal⟩
  case none => exact fun c k s absent => does_nothing rfl (runChain_none absent k)
  case corrected => exact fun e c w a s core => localMemoryError_counts core e c w a
  case replay => exact fun e c w key x s core held job => ⟨_, localMemoryError_exec core e c _ w _, memoryError_parity held job w.toNat⟩
  case lost => exact fun e c w key x s core held job => ⟨_, localMemoryError_exec core e c _ w _, memoryError_lost held job w.toNat⟩
  case waits => exact fun runs seq l rest s oldest early => does_nothing rfl (colourJoin_waits oldest runs early)
  case joins =>
    exact fun runs seq key l rest x s core oldest ready sorted idle job own turn =>
      ⟨_, done_inCore core _, colourJoin_joins oldest runs ready sorted idle job own turn⟩

end Sys2Proof.Machine
end

section
/-! PROOFS. Packets are formed in SEQ order, and a line's packets are formed together (R192, R193, R195, R196). -/

namespace Sys2Proof.Machine

open Sys2Proof.Laws

/-! ### SEQ (R192) -/

theorem seq_congr {s t : State} (hi : t.rd PNT_PKT_SEQ_HI = s.rd PNT_PKT_SEQ_HI) (lo : t.rd PNT_PKT_SEQ_LO = s.rd PNT_PKT_SEQ_LO) :
    t.seq = s.seq := by simp only [State.seq, State.rdN, hi, lo]

theorem seq_lt (s : State) : s.seq < 2 ^ 64 := by
  have hi := (s.rd PNT_PKT_SEQ_HI).isLt
  have lo := (s.rd PNT_PKT_SEQ_LO).isLt
  simp only [State.seq, State.rdN]
  omega

theorem seq_setSeq (s : State) (n : Nat) : (s.setSeq n).seq = n % 2 ^ 64 := by
  have hi : (s.setSeq n).rdN PNT_PKT_SEQ_HI = n / 2 ^ 32 % 2 ^ 32 := by
    rw [State.rdN, State.setSeq, rd_wrN, if_pos rfl, BitVec.toNat_ofNat, Nat.mod_mod]
  have lo : (s.setSeq n).rdN PNT_PKT_SEQ_LO = n % 2 ^ 32 := by
    rw [State.rdN, State.setSeq, rd_wrN, if_neg (by decide), rd_wrN, if_pos rfl, BitVec.toNat_ofNat, Nat.mod_mod]
  rw [State.seq, hi, lo]
  omega

theorem rd_setSeq (s : State) (n : Nat) {k : Nat} (hi : k ≠ PNT_PKT_SEQ_HI) (lo : k ≠ PNT_PKT_SEQ_LO) : (s.setSeq n).rd k = s.rd k := by
  rw [State.setSeq, rd_wrN, if_neg hi, rd_wrN, if_neg lo]

/-! ### A packet (R192, R193, R195) -/

/-- The assembler forms packets under the key in force: it is not frozen, and no key waits to be adopted. -/
structure State.Forming (s : State) : Prop where
  going : s.frozen = false
  adopted : s.bit SEC_KEY_STATUS 17 = false

/-- The state with the packets given waiting at their destinations. -/
def State.setWaiting (s : State) (w : List (Nat × Packet)) : State := { s with pnt := { s.pnt with waiting := w } }

theorem setWaiting_rd (s : State) (w : List (Nat × Packet)) (k : Nat) : (s.setWaiting w).rd k = s.rd k := rfl
theorem setWaiting_inForce (s : State) (w : List (Nat × Packet)) : (s.setWaiting w).inForce = s.inForce := rfl
theorem setWaiting_waiting (s : State) (w : List (Nat × Packet)) : (s.setWaiting w).pnt.waiting = w := rfl
theorem setSeq_inForce (s : State) (n : Nat) : (s.setSeq n).inForce = s.inForce := rfl
theorem setSeq_pnt (s : State) (n : Nat) : (s.setSeq n).pnt = s.pnt := rfl

/-- The state with a packet waiting at its destinations, and the next SEQ. -/
def State.formed (s : State) (dests : List Nat) (p : Packet) : State :=
  let t := s.setSeq (s.seq + 1)
  t.setWaiting (t.pnt.waiting ++ dests.map fun d => (d, p))

theorem formed_rd (s : State) (dests : List Nat) (p : Packet) {k : Nat} (hi : k ≠ PNT_PKT_SEQ_HI) (lo : k ≠ PNT_PKT_SEQ_LO) :
    (s.formed dests p).rd k = s.rd k := by rw [State.formed, setWaiting_rd, rd_setSeq s _ hi lo]

theorem formed_seq (s : State) (dests : List Nat) (p : Packet) : (s.formed dests p).seq = (s.seq + 1) % 2 ^ 64 := by
  rw [State.formed, seq_congr (setWaiting_rd _ _ _) (setWaiting_rd _ _ _), seq_setSeq]

theorem formed_waiting (s : State) (dests : List Nat) (p : Packet) :
    (s.formed dests p).pnt.waiting = s.pnt.waiting ++ dests.map fun d => (d, p) := by
  rw [State.formed, setWaiting_waiting, setSeq_pnt]

theorem formed_inForce (s : State) (dests : List Nat) (p : Packet) : (s.formed dests p).inForce = s.inForce := by
  rw [State.formed, setWaiting_inForce, setSeq_inForce]

/-- The bytes of a packet: its header and body, and a tag where the stream key is valid (R192, R193). -/
def State.packetBytes (s : State) (type flags frame line : Nat) (body : List Byte) : List Byte :=
  let head := s.packetHead type (flags + 32 * b2n (!s.keyValid 1)) frame line body
  head ++ (if s.keyValid 1 then packetTag (s.key 1) head else List.replicate 16 0)

theorem packetBytes_signed {s : State} (valid : s.keyValid 1 = true) (type flags frame line : Nat) (body : List Byte) :
    s.packetBytes type flags frame line body
      = s.packetHead type flags frame line body ++ packetTag (s.key 1) (s.packetHead type flags frame line body) := by
  simp [State.packetBytes, valid, b2n]

theorem not_withheld_of_valid {s : State} (valid : s.keyValid 1 = true) : s.withheld = false := by
  simp [State.withheld, valid]

section
variable {s : State} (h : s.Forming) (d : List Nat) (r : Bool) (type flags frame line : Nat) (body : List Byte)
include h

/-- With no key that waits, whether a run is active makes no difference to a packet. -/
theorem adopt_nothing : (if s.flag SHT_STATUS_RUNNING then s else s.adoptStreamKey) = s := by
  have kept : s.adoptStreamKey = s := if_neg (by simp [h.adopted])
  rw [kept, ite_self]

theorem formPacket_formed (sent : s.withheld = false) :
    s.formPacket d r type flags frame line body = s.formed d ⟨s.packetBytes type flags frame line body, r⟩ := by
  unfold State.formPacket
  rw [adopt_nothing h, if_neg (by simp [h.going])]
  dsimp only
  rw [if_neg (by simp [sent])]
  rfl

theorem formPacket_withheld (held : s.withheld = true) :
    s.formPacket d r type flags frame line body = s.wrN PNT_PKT_UNSIGNED (s.rdN PNT_PKT_UNSIGNED + 1) := by
  unfold State.formPacket
  rw [adopt_nothing h, if_neg (by simp [h.going])]
  exact if_pos held

end

/-! ### The packets of a line (R196, R199) -/

/-- `n` packets were formed from `s` to `t`, each for every destination of a LINE packet. -/
structure Forms (s t : State) (n : Nat) : Prop where
  seq : t.seq = (s.seq + n) % 2 ^ 64
  waiting : t.pnt.waiting.length = s.pnt.waiting.length + n * (s.route 0).length
  rd : ∀ k, k ≠ PNT_PKT_SEQ_HI → k ≠ PNT_PKT_SEQ_LO → t.rd k = s.rd k
  inForce : t.inForce = s.inForce

theorem Forms.refl (s : State) : Forms s s 0 :=
  ⟨by rw [Nat.add_zero, Nat.mod_eq_of_lt (seq_lt s)], by rw [Nat.zero_mul, Nat.add_zero], fun _ _ _ => rfl, rfl⟩

theorem Forms.forming {s t : State} {n : Nat} (h : Forms s t n) (g : s.Forming) : t.Forming :=
  ⟨(flag_congr (h.rd _ (by decide) (by decide))).trans g.going, (bit_congr (h.rd _ (by decide) (by decide)) 17).trans g.adopted⟩

theorem Forms.fldF {s t : State} {n : Nat} (h : Forms s t n) (f : Fld) : t.fldF f = s.fldF f := by
  simp only [State.fldF, State.rdF, h.inForce]

theorem Forms.withheld {s t : State} {n : Nat} (h : Forms s t n) : t.withheld = s.withheld := by
  have key : t.keyValid 1 = s.keyValid 1 := bit_congr (h.rd SEC_KEY_STATUS (by decide) (by decide)) 1
  have allowed : t.flagF PNT_PKT_CFG_ALLOW_UNSIGNED = s.flagF PNT_PKT_CFG_ALLOW_UNSIGNED := by simp only [State.flagF, h.fldF]
  rw [State.withheld, State.withheld, key, allowed]

theorem Forms.route {s t : State} {n : Nat} (h : Forms s t n) : t.route 0 = s.route 0 := by
  simp only [State.route, h.fldF]

/-- A LINE packet more. -/
theorem Forms.sendPacket {s t : State} {n : Nat} (h : Forms s t n) (g : s.Forming) (sent : s.withheld = false)
    (flags frame line : Nat) (body : List Byte) : Forms s (t.sendPacket 0 0x02 flags frame line body) (n + 1) := by
  rw [State.sendPacket, formPacket_formed (h.forming g) _ _ _ _ _ _ _ (h.withheld.trans sent)]
  refine ⟨?_, ?_, fun k hi lo => (formed_rd t _ _ hi lo).trans (h.rd k hi lo), (formed_inForce t _ _).trans h.inForce⟩
  · rw [formed_seq, h.seq, Nat.mod_add_mod, Nat.add_assoc]
  · rw [formed_waiting, List.length_append, List.length_map, h.waiting, h.route, Nat.add_mul, Nat.one_mul, Nat.add_assoc]

/-- The packets of a line's segments, one for each (R196). -/
def State.sendSegments (s : State) (l : HstLine) (jobs : List (Nat × ChanLine)) : State :=
  let seg := max 1 (l.get PNT_PKT_CFG_SEGMENT)
  (List.range (192 / seg)).foldl (fun s i =>
    s.sendPacket 0 0x02 (if l.get PNT_CHAIN_CFG_COLOUR = 1 then 64 else 0) l.frame l.line (lineBody l jobs (seg * i) seg)) s

theorem forms_sendSegments {s : State} (g : s.Forming) (sent : s.withheld = false) (l : HstLine) (jobs : List (Nat × ChanLine)) :
    Forms s (s.sendSegments l jobs) (192 / max 1 (l.get PNT_PKT_CFG_SEGMENT)) := by
  unfold State.sendSegments
  dsimp only
  induction 192 / max 1 (l.get PNT_PKT_CFG_SEGMENT) with
  | zero => exact .refl s
  | succ n ih =>
    rw [List.range_succ, List.foldl_append]
    exact ih.sendPacket g sent _ _ _ _

section
variable {s : State} {seq : Nat} {l : HstLine} {rest : List (Nat × HstLine)} (oldest : s.hst.lines = (seq, l) :: rest)
include oldest

theorem assembleLine_waits (h : ∃ e ∈ s.hst.jobs, e.1 / 192 = seq ∧ e.2.stage < 6) : s.assembleLine = s := by
  obtain ⟨e, mem, own, early⟩ := h
  unfold State.assembleLine
  rw [oldest]
  exact if_pos (List.any_eq_true.mpr ⟨e, List.mem_filter.mpr ⟨mem, decide_eq_true own⟩, decide_eq_true early⟩)

/-- A line whose channel-lines are all ready is sent and let go: the account of its frame and what the grid keeps of it are all that
follows. -/
theorem assembleLine_ready (h : ∀ e ∈ s.hst.jobs, e.1 / 192 = seq → 6 ≤ e.2.stage) :
    let jobs := s.hst.jobs.filter fun e => e.1 / 192 = seq
    let t := s.sendSegments l jobs
    ∃ a d, s.assembleLine = { t.onFrame l.frame a with
      hst := { t.hst with lines := rest, jobs := t.hst.jobs.filter (fun e => e.1 / 192 ≠ seq),
                          posted := t.hst.posted.filter (fun r => r.lineSeq ≠ seq) },
      grid := { t.grid with darkLast := d } } := by
  have ready : ¬ (s.hst.jobs.filter fun e => e.1 / 192 = seq).any (fun e => e.2.stage < 6) = true := by
    rw [List.any_eq_true]
    rintro ⟨e, mem, early⟩
    obtain ⟨mem, own⟩ := List.mem_filter.mp mem
    exact absurd (of_decide_eq_true early) (Nat.not_lt.mpr (h e mem (of_decide_eq_true own)))
  unfold State.assembleLine
  rw [oldest]
  dsimp only
  rw [if_neg ready]
  exact ⟨_, _, rfl⟩

theorem assembleLine_lets_go (h : ∀ e ∈ s.hst.jobs, e.1 / 192 = seq → 6 ≤ e.2.stage) (g : s.Forming) (sent : s.withheld = false) :
    let n := 192 / max 1 (l.get PNT_PKT_CFG_SEGMENT)
    s.assembleLine.hst.lines = rest ∧ (∀ e ∈ s.assembleLine.hst.jobs, e.1 / 192 ≠ seq) ∧ s.assembleLine.seq = (s.seq + n) % 2 ^ 64
      ∧ s.assembleLine.pnt.waiting.length = s.pnt.waiting.length + n * (s.route 0).length := by
  obtain ⟨a, d, run⟩ := assembleLine_ready oldest h
  have forms := forms_sendSegments g sent l (s.hst.jobs.filter fun e => e.1 / 192 = seq)
  rw [run]
  exact ⟨rfl, fun e mem => of_decide_eq_true (List.mem_filter.mp mem).2, forms.seq, forms.waiting⟩

end

end Sys2Proof.Machine
end

section
/-! PROOFS. A destination sends or drops its oldest packet (R199), and packet settings are written while no run is active (R200). -/

namespace Sys2Proof.Machine

open Sys2Proof.Laws

/-! ### Destinations (R199) -/

/-- A drop is counted, and raised where none was in this frame. -/
theorem packetDropped_counts (s : State) (d : Nat) (bytes : List Byte) :
    (s.packetDropped d bytes).pnt.waiting = s.pnt.waiting ∧ (s.packetDropped d bytes).rd (PNT_PKT_DROP d) = s.rd (PNT_PKT_DROP d) + 1
      ∧ (s.pnt.dropRaised = false → (s.packetDropped d bytes).has EV_PNT_PKT_DROP = true) := by
  unfold State.packetDropped
  extract_lets a b
  have counted : b.pnt.waiting = s.pnt.waiting ∧ b.pnt.dropRaised = s.pnt.dropRaised ∧ b.rd (PNT_PKT_DROP d) = s.rd (PNT_PKT_DROP d) + 1 := by
    have one : a.rd (PNT_PKT_DROP d) = s.rd (PNT_PKT_DROP d) + 1 := rd_wrN_succ s _
    simp only [b]
    split
    · exact ⟨rfl, rfl, one⟩
    · exact ⟨rfl, rfl, one⟩
  obtain ⟨waiting, raised, count⟩ := counted
  split
  · exact ⟨waiting, count, fun none => absurd (raised.symm.trans ‹_›) (by simp [none])⟩
  · exact ⟨waiting, count, fun _ => has_raise _ _⟩

section
variable {s : State} {d : Nat} {q : Packet} {rest : List (Nat × Packet)} (oldest : takePacket d s.pnt.waiting = some (q, rest))
include oldest

theorem destinationSend_full (room : q.reserved = false) : s.destinationSend d true = (s.setWaiting rest).packetDropped d q.bytes := by
  unfold State.destinationSend
  rw [oldest]
  exact if_pos (by simp [room])

theorem destinationSend_port {full : Bool} (room : full = false ∨ q.reserved = true) (port : d < 2) :
    s.destinationSend d full = (s.setWaiting rest).queueItem d
      (if d = 0 then s.fldF PNT_PKT_QUEUE_QUEUE_A else s.fldF PNT_PKT_QUEUE_QUEUE_B) 0 q.bytes := by
  unfold State.destinationSend
  rw [oldest]
  dsimp only
  rw [if_neg (by rcases room with e | e <;> simp [e]), if_pos port]
  rfl

end

theorem queueItem_ready (s : State) (port queue producer : Nat) (data : List Byte) :
    (s.queueItem port queue producer data).dma.ready = s.dma.ready ++ [⟨port, queue, producer, data⟩] := rfl

/-! ### Settings (R200) -/

/-- Register `r` of the packet settings. -/
abbrev packetReg (r : Fin 4) : Nat := 0x280040 + 4 * r.val

theorem acc_packetReg : ∀ r, ∃ m, accOf (packetReg r) = some (.rw, m)
  | 0 => ⟨0xFF000001, by decide +kernel⟩
  | 1 => ⟨0xFFFFFFFF, by decide +kernel⟩
  | 2 => ⟨0x0000FFFF, by decide +kernel⟩
  | 3 => ⟨0x00001F1F, by decide +kernel⟩

theorem settleKey_packetReg : ∀ r, settleKey (packetReg r) = false := by decide +kernel

/-- The segments a line can be cut into (R200). -/
abbrev legalSegments : List Nat := [12, 24, 48, 96, 192]

theorem packetReg_in (r : Fin 4) : (0x280040 ≤ packetReg r && packetReg r ≤ 0x28004C) = true := by
  revert r; decide

theorem packetReg_eq_cfg (r : Fin 4) : packetReg r = PNT_PKT_CFG ↔ r = 0 := by
  revert r; decide

/-- The check of a SEGMENT (R200). -/
theorem badSegment_iff (r : Fin 4) (n : Nat) : (packetReg r = PNT_PKT_CFG && !legalSegments.contains n) = true ↔ r = 0 ∧ n ∉ legalSegments := by
  rw [Bool.and_eq_true, decide_eq_true_iff, packetReg_eq_cfg, Bool.not_eq_true', ← Bool.not_eq_true, List.contains_iff_mem]

theorem packetConfig_exec {p : Port} {r : Fin 4} {s : State} (h : Reaches s p (packetReg r)) (v : Word) :
    exec (.packetConfigWrite p r v) s = .next (s.pntWrite (packetReg r) v).settle := done_unowned h _

theorem pntWrite_stored {s : State} {r : Fin 4} {v : Word} (idle : s.running = false)
    (legal : r = 0 → v.toNat / 2 ^ 24 ∈ legalSegments) : s.pntWrite (packetReg r) v = s.wr (packetReg r) (s.stored (packetReg r) v) := by
  obtain ⟨m, acc⟩ := acc_packetReg r
  have store : s.pntWrite (packetReg r) v = s.plainWrite (packetReg r) (packetReg r) v := by
    unfold State.pntWrite
    rw [if_pos (packetReg_in r), if_neg (by simp [idle])]
    refine if_neg fun bad => ?_
    obtain ⟨first, illegal⟩ := (badSegment_iff r _).mp bad
    exact illegal (legal first)
  rw [store, plainWrite_rw s _ _ v acc, State.stored, acc]

/-- A refused write names its register and why: a run is active, or the SEGMENT is none of the legal ones. -/
theorem pntWrite_refused {s : State} {r : Fin 4} {v : Word} (h : s.running = true ∨ (r = 0 ∧ v.toNat / 2 ^ 24 ∉ legalSegments)) :
    s.pntWrite (packetReg r) v
      = s.refuseWith PNT_CFG_ERR EV_PNT_CFG_ERROR ((if s.running then 1 else 2) * 2 ^ 24 + 0x40 + 4 * r.val) := by
  have detail : (packetReg r - 0x280000) % 2 ^ 16 = 0x40 + 4 * r.val := by dsimp only [packetReg]; omega
  unfold State.pntWrite
  rw [if_pos (packetReg_in r)]
  by_cases run : s.running = true
  · rw [if_pos run, if_pos run, refuse_eq, detail, Nat.add_assoc]
  · rw [if_neg run, if_neg run, if_pos ((badSegment_iff r _).mpr (h.resolve_left run)), refuse_eq, detail, Nat.add_assoc]

/-- Settles O29: a packet is formed or withheld, a line's packets are formed one by one, a destination sends or drops, and settings are
judged. -/
theorem packetsAreFormedAndRouted : Obligations.PacketsAreFormedAndRouted := by
  unfold Obligations.PacketsAreFormedAndRouted
  refine ⟨?formed, ?withheld, ?waits, ?assembled, ?dropped, ?sent, ?stored, ?refused⟩
  case formed =>
    intro d r type flags frame line body s going adopted valid
    dsimp only
    rw [formPacket_formed ⟨going, adopted⟩ _ _ _ _ _ _ _ (not_withheld_of_valid valid), packetBytes_signed valid]
    exact ⟨formed_seq s d _, formed_waiting s d _⟩
  case withheld =>
    intro d r type flags frame line body s going adopted held
    dsimp only
    rw [formPacket_withheld ⟨going, adopted⟩ _ _ _ _ _ _ _ held]
    exact ⟨seq_congr (rd_wr_other s _ (by decide)) (rd_wr_other s _ (by decide)), rfl, rd_wrN_succ s _⟩
  case waits => exact fun seq l rest s oldest early => does_nothing rfl (assembleLine_waits oldest early)
  case assembled =>
    exact fun seq l rest s core oldest ready going held adopted =>
      ⟨_, done_inCore core _, assembleLine_lets_go oldest ready ⟨going, adopted⟩ held⟩
  case dropped =>
    intro d q rest s core oldest room
    refine ⟨_, done_inCore core _, ?_⟩
    rw [destinationSend_full oldest room]
    exact packetDropped_counts _ d q.bytes
  case sent =>
    intro d full q rest s core oldest room
    refine ⟨_, done_inCore core _, ?_⟩
    rw [Fin.val_castSucc, destinationSend_port oldest room d.isLt]
    refine ⟨rfl, ?_⟩
    rw [queueItem_ready]
    simp only [Fin.val_eq_zero_iff]
    rfl
  case stored =>
    intro p r v s h idle legal
    refine ⟨_, packetConfig_exec h v, ?_⟩
    rw [pntWrite_stored idle legal]
    exact ⟨(settle_rd _ (settleKey_packetReg r)).trans (rd_wr_same s _ _),
      ((Kept.refl s _).wr _ (List.mem_singleton_self _)).settle⟩
  case refused =>
    intro p r v s h why
    refine ⟨_, packetConfig_exec h v, ?_⟩
    rw [pntWrite_refused why]
    obtain ⟨err, logged, -, kept⟩ := refuseWith_settles s (k := PNT_CFG_ERR) (ev := EV_PNT_CFG_ERROR)
      ((if s.running then 1 else 2) * 2 ^ 24 + 0x40 + 4 * r.val) (by decide) (by decide)
    refine ⟨?_, logged, kept⟩
    rw [State.rdN, err, BitVec.toNat_ofNat]
    split <;> omega

end Sys2Proof.Machine
end

section
/-! PROOFS. Gate steps of the colour column (R204 to R206). -/

namespace Sys2Proof.Machine

open Sys2Proof.Laws

theorem Kept.img {s t : State} {keys : List Nat} (h : Kept s t keys) (x : ImgState) : Kept s { t with img := x } keys :=
  h.of_eq rfl rfl rfl rfl

/-! ### What a generation's settings and a packet's exposure are read from -/

theorem genCfg_congr {s t : State} (h : t.img.gens = s.img.gens) (g : Nat) : t.genCfg g = s.genCfg g := by
  unfold State.genCfg
  rw [h]

@[simp] theorem genCfg_advance (s : State) (t g : Nat) : (s.advance t).genCfg g = s.genCfg g := genCfg_congr (by rw [State.advance_img]) g

theorem stepPacket_advance (s : State) (t : Nat) : (s.advance t).stepPacket = s.stepPacket := by
  funext p
  simp only [State.stepPacket, State.collecting, flag_advance, genCfg_advance, State.advance_img]
  rfl

/-! ### Lines at their tap (R206) -/

/-- A line that has come to its exit tap takes what its packets hold, and closes at this instant. -/
def State.closedAtTap (s : State) (l : ColourLine) : ColourLine :=
  if l.left = 0 && l.lit.isNone then { s.atTap l with closedAt := s.now } else l

theorem atTaps_img (s : State) : s.atTaps.img = { s.img with closing := s.img.closing.map s.closedAtTap } := rfl

theorem atTap_left (s : State) (l : ColourLine) : (s.atTap l).left = l.left := by
  unfold State.atTap
  split <;> rfl

theorem atTap_lit (s : State) (l : ColourLine) : (s.atTap l).lit.isSome = true := by
  unfold State.atTap
  split
  · assumption
  · rfl

theorem closedAtTap_left (s : State) (l : ColourLine) : (s.closedAtTap l).left = l.left := by
  unfold State.closedAtTap
  split
  · exact atTap_left s l
  · rfl

theorem closedAtTap_lit (s : State) (l : ColourLine) (h : l.left = 0) : (s.closedAtTap l).lit.isSome = true := by
  unfold State.closedAtTap
  cases hl : l.lit with
  | none => simpa [h] using atTap_lit s l
  | some n => simp [hl]

theorem atTaps_left (s : State) : s.atTaps.img.closing.map (fun l => l.left) = s.img.closing.map (fun l => l.left) := by
  rw [atTaps_img, List.map_map]
  exact List.map_congr_left fun l _ => closedAtTap_left s l

theorem atTaps_lit (s : State) : ∀ l ∈ s.atTaps.img.closing, l.left = 0 → l.lit.isSome = true := by
  rw [atTaps_img]
  intro l hl
  obtain ⟨k, -, rfl⟩ := List.mem_map.mp hl
  rw [closedAtTap_left]
  exact closedAtTap_lit s k

/-! ### The gate step (R204) -/

/-- No gate step is due: the column or the grid stands, or the image line has had its steps. -/
theorem gateStep_none {s : State} (h : s.flag IMG_STATUS_RUNNING = false ∨ s.grid.running = false ∨ s.img.lineOpen = false
    ∨ stepsIn s.img.dieVel s.img.line ≤ s.img.steps) : s.gateStep = s :=
  if_pos (by rcases h with h | h | h | h <;> simp [h])

/-- The instant of the next gate step: the middle of its share of the image line. -/
def State.gateInstant (s : State) : Nat :=
  s.img.lineAt + (2 * s.img.steps + 1) * s.imageLineTicks / (2 * stepsIn s.img.dieVel s.img.line)

/-- The column moved by one gate: every packet, and every line on its way to its tap. -/
def State.movedColumn (s : State) : ImgState :=
  { s.img with packets := (TdiPacket.enter (s.fld IMG_GEN_V) s.img.dieGen :: s.img.packets.map s.stepPacket).take 320,
               steps := s.img.steps + 1, closing := s.img.closing.map (fun l => { l with left := l.left - 1 }) }

/-- A packet that leaves gate 119 crosses the centre line. -/
def ImgState.crossedBy (i : ImgState) : Option TdiPacket → ImgState
  | none => i
  | some p => { i with started := true, crossed := i.crossed + 1, first := i.first.orElse (fun _ => some p) }

theorem crossedBy_packets (i : ImgState) (c : Option TdiPacket) : (i.crossedBy c).packets = i.packets := by cases c <;> rfl
theorem crossedBy_steps (i : ImgState) (c : Option TdiPacket) : (i.crossedBy c).steps = i.steps := by cases c <;> rfl
theorem crossedBy_closing (i : ImgState) (c : Option TdiPacket) : (i.crossedBy c).closing = i.closing := by cases c <;> rfl
theorem crossedBy_crossed (i : ImgState) (c : Option TdiPacket) : (i.crossedBy c).crossed = i.crossed + if c.isSome then 1 else 0 := by
  cases c <;> rfl

/-- The gate step at this instant, before the lines that have come to their taps close. -/
def State.columnStepped (s : State) : State :=
  { s with img := s.movedColumn.crossedBy (s.img.packets.map s.stepPacket)[119]? }

theorem gateStep_due {s : State} (running : s.flag IMG_STATUS_RUNNING = true) (grid : s.grid.running = true)
    (lineOpen : s.img.lineOpen = true) (due : s.img.steps < stepsIn s.img.dieVel s.img.line) :
    s.gateStep = (s.advance s.gateInstant).columnStepped.atTaps := by
  unfold State.gateStep
  extract_lets n a i moved cross j b
  rw [if_neg (by simpa [running, grid, lineOpen, n] using due)]
  suffices h : b = { a with img := a.movedColumn.crossedBy cross } from congrArg State.atTaps h
  simp only [b]
  cases cross <;> rfl

theorem columnStepped_img (s : State) (t : Nat) :
    (s.advance t).columnStepped.img = s.movedColumn.crossedBy (s.img.packets.map s.stepPacket)[119]? := by
  unfold State.columnStepped State.movedColumn
  rw [stepPacket_advance, State.advance_img, fld_advance]

/-- A gate step comes at its instant and moves the column by one gate; it writes no register. -/
theorem gateStep_moves {s : State} (core : s.pwr.coreInReset = false) (running : s.flag IMG_STATUS_RUNNING = true)
    (grid : s.grid.running = true) (lineOpen : s.img.lineOpen = true) (due : s.img.steps < stepsIn s.img.dieVel s.img.line) :
    Gives .gateStep s fun t => t.img.packets = (TdiPacket.enter (s.fld IMG_GEN_V) s.img.dieGen :: s.img.packets.map s.stepPacket).take 320
      ∧ t.now = max s.now (s.img.lineAt + (2 * s.img.steps + 1) * s.imageLineTicks / (2 * stepsIn s.img.dieVel s.img.line))
      ∧ t.img.steps = s.img.steps + 1 ∧ t.img.closing.map (fun l => l.left) = s.img.closing.map (fun l => l.left - 1)
      ∧ (∀ l ∈ t.img.closing, l.left = 0 → l.lit.isSome = true)
      ∧ t.img.crossed = s.img.crossed + (if s.img.packets[119]?.isSome then 1 else 0) ∧ Kept s t [] := by
  have img := columnStepped_img s s.gateInstant
  refine ⟨_, done_inCore core _, ?_⟩
  beta_reduce
  rw [gateStep_due running grid lineOpen due, settle_img, settle_now]
  refine ⟨?packets, State.advance_now s _, ?steps, ?left, atTaps_lit _, ?crossed, ?kept⟩
  case packets => rw [atTaps_img, img, crossedBy_packets]; rfl
  case steps => rw [atTaps_img, img, crossedBy_steps]; rfl
  case left =>
    rw [atTaps_left, img, crossedBy_closing, State.movedColumn, List.map_map]
    rfl
  case crossed =>
    rw [atTaps_img, img, crossedBy_crossed, List.getElem?_map, Option.isSome_map]
    rfl
  case kept => exact ((((Kept.refl s []).advance _).img _).img _).settle

end Sys2Proof.Machine
end

section
/-! PROOFS. The close of a sense interval and the conversion of a line (R205, R206, R211, R212, R215). -/

namespace Sys2Proof.Machine

open Sys2Proof.Laws

/-! ### Codes (R211, R212) -/

/-- No converter puts out a code beyond its 14 bits. -/
theorem convCode_le (cfg : List (Nat × Word)) (b : Bool) (vel n lit : Nat) (x : Int) : convCode cfg b vel n lit x ≤ 16383 := by
  unfold convCode
  extract_lets q
  split
  · exact le_refl _
  · obtain ⟨-, top⟩ := clampI_bounds ((fldIn cfg IMG_CONV_CFG_PEDESTAL : Nat) + roundDiv q ((67108864 * max 1 n : Nat) : Int))
      (lo := 0) (hi := 16383) (by decide)
    omega

theorem roundDiv_zero (n : Nat) : roundDiv 0 n = 0 := by
  unfold roundDiv
  split
  · rfl
  · rw [Int.fdiv_eq_ediv_of_nonneg _ (by omega)]
    exact Int.ediv_eq_zero_of_lt (by omega) (by omega)

/-- A line cut is delivered as zeros. -/
theorem convert_cut (s : State) (l : ColourLine) (x : List Int) (cut : l.cut = true) : ∀ p ∈ (s.convert l x).pixels, p = 0 := by
  intro p hp
  obtain ⟨q, -, rfl⟩ := List.mem_map.mp hp
  simp [cut, roundDiv_zero]

/-! ### The close of a sense interval (R206, R215) -/

/-- Marking the pixels of converters sent off leaves the column. -/
theorem defectLine_img (s : State) : s.defectLine.img = { s.img with defectDue := [] } :=
  foldl_keeps State.img _ _ fun _ _ => rfl

/-- The codes of a line follow from the registers and the generations in use. -/
theorem convert_congr {s t : State} (hr : t.regs = s.regs) (hg : t.img.gens = s.img.gens) (l : ColourLine) (x : List Int) :
    t.convert l x = s.convert l x := by
  have marks : t.defective = s.defective := by
    funext p
    simp only [State.defective, State.bit, State.rd, hr]
  unfold State.convert
  rw [genCfg_congr hg, marks]

/-- A line at its tap with the instant from which it may be sent, and where the logic die expects it. -/
def State.tapLeft (s : State) (l m : ColourLine) : State :=
  { s with img := { s.img with closing := s.img.closing.erase l,
                               expected := if l.expect then s.img.expected ++ [m] else s.img.expected } }

/-- A converted line in the line store; the converters are busy until `free`. -/
def State.intoStore (s : State) (m : ColourLine) (free : Nat) (x : List Int) : State :=
  { s with img := { s.img with convFree := free, store := s.img.store ++ [s.convert m x] } }

theorem tapLeft_intoStore_img (s : State) (l m : ColourLine) (free : Nat) (x : List Int) :
    ((s.tapLeft l m).intoStore m free x).img =
      { s.img with closing := s.img.closing.erase l, expected := if l.expect then s.img.expected ++ [m] else s.img.expected,
                   convFree := free, store := s.img.store ++ [s.convert m x] } := by
  have conv : (s.tapLeft l m).convert m x = s.convert m x := convert_congr rfl rfl m x
  unfold State.intoStore
  rw [conv]
  rfl

section
variable {s : State} (x : List Int)

/-- No sense interval closes: the column or the grid stands, or no line is at its tap. -/
theorem senseClose_none (h : s.flag IMG_STATUS_RUNNING = false ∨ s.grid.running = false
    ∨ s.img.closing.find? (fun l => l.left = 0) = none) : s.senseClose x = s := by
  unfold State.senseClose
  split
  · rfl
  next stands =>
    rcases h with h | h | h
    · simp [h] at stands
    · simp [h] at stands
    · rw [h]

theorem senseClose_read {l : ColourLine} (running : s.flag IMG_STATUS_RUNNING = true) (grid : s.grid.running = true)
    (oldest : s.img.closing.find? (fun l => l.left = 0) = some l) (read : l.read = true) :
    let d := (s.advance l.closedAt).defectLine
    let start := max (l.closedAt + 25600) d.img.convFree
    s.senseClose x = (d.tapLeft l { l with readyAt := start + 307200 }).intoStore { l with readyAt := start + 307200 } (start + 256000) x := by
  unfold State.senseClose
  rw [if_neg (by simp [running, grid]), oldest]
  dsimp only
  rw [if_pos read, if_pos read]
  rfl

/-- The oldest line at its tap is converted, stored and given the instant from which it may be sent. -/
theorem senseClose_stores {l : ColourLine} (core : s.pwr.coreInReset = false) (running : s.flag IMG_STATUS_RUNNING = true)
    (grid : s.grid.running = true) (oldest : s.img.closing.find? (fun l => l.left = 0) = some l) (read : l.read = true) :
    Gives (.senseIntervalClose x) s fun t =>
      let m := { l with readyAt := max (l.closedAt + 25600) s.img.convFree + 307200 }
      t.img.closing = s.img.closing.erase l ∧ t.img.store = s.img.store ++ [(s.advance l.closedAt).defectLine.convert m x]
      ∧ t.img.convFree + 51200 = m.readyAt ∧ t.img.expected = (if l.expect then s.img.expected ++ [m] else s.img.expected) := by
  refine ⟨_, done_inCore core _, ?_⟩
  dsimp only
  have img : (s.advance l.closedAt).defectLine.img = { s.img with defectDue := [] } := by rw [defectLine_img, State.advance_img]
  rw [senseClose_read x running grid oldest read, settle_img, tapLeft_intoStore_img, img]
  exact ⟨rfl, rfl, Nat.add_assoc _ 256000 51200, rfl⟩

end

end Sys2Proof.Machine
end

section
/-! PROOFS. The pixel bus: lines are sent, received, and delivered (R213 to R217). -/

namespace Sys2Proof.Machine

open Sys2Proof.Laws

/-! ### Transfer (R213 to R215, R217) -/

/-- A line on the bus from this instant: the header beat, then its pixel beats. -/
def State.busOf (s : State) (l : ColourLine) : PixelBus :=
  ⟨l, BitVec.ofNat 56 (headerBeat (s.genCfg l.die) l) :: pixelBeats l.pixels, s.now⟩

theorem pixelTransfer_sends {s : State} {l : ColourLine} (free : s.img.bus = none)
    (oldest : s.img.store.find? (fun l => !s.earlierUnsent l) = some l) :
    s.pixelTransfer = { s.advance (max l.readyAt (s.img.busFree + 16384)) with
      img := { s.img with store := s.img.store.erase l, bus := some ((s.advance (max l.readyAt (s.img.busFree + 16384))).busOf l),
                          fv := true, fvFrame := l.frame } } := by
  unfold State.pixelTransfer State.busOf
  rw [free, if_neg (by decide), oldest]
  dsimp only
  rw [State.advance_img]

/-! ### Reception (R215 to R217) -/

/-- Of the state, FV alone follows the lines still to be sent. -/
theorem frameValid_fv (s : State) : ∃ v, s.frameValid = { s with img := { s.img with fv := v } } := by
  unfold State.frameValid
  split
  · exact ⟨false, rfl⟩
  · exact ⟨s.img.fv, rfl⟩

/-- The line on the bus ends at this instant. -/
def State.busFreed (s : State) : State := ({ s with img := { s.img with bus := none, busFree := s.now } } : State).frameValid

theorem busFreed_eq (s : State) : ∃ v, s.busFreed = { s with img := { s.img with bus := none, busFree := s.now, fv := v } } :=
  frameValid_fv { s with img := { s.img with bus := none, busFree := s.now } }

/-- A line as the logic die delivers it: padded or truncated to the pixels it expects, and marked so (R216). -/
def State.fitted (s : State) (l : ColourLine) : ColourLine :=
  let n := outPixels (s.genCfg l.gen)
  { l with pixels := (l.pixels ++ List.replicate (n - l.pixels.length) 0).take n, short := decide (l.pixels.length < n),
           long := decide (n < l.pixels.length) }

/-- A count that a condition adds to a register's field. -/
def State.bumpIf (s : State) (c : Bool) (f : Fld) : State := if c then s.bump f 1 else s

/-- Counting changes one register only. -/
theorem bumpIf_eq (s : State) (c : Bool) (f : Fld) : ∃ w, s.bumpIf c f = s ∨ s.bumpIf c f = s.wr f.reg w := by
  unfold State.bumpIf
  split
  · exact ⟨_, .inr rfl⟩
  · exact ⟨0, .inl rfl⟩

theorem bumpIf_img (s : State) (c : Bool) (f : Fld) : (s.bumpIf c f).img = s.img := by
  obtain ⟨w, h | h⟩ := bumpIf_eq s c f <;> rw [h]
  rfl

theorem bumpIf_now (s : State) (c : Bool) (f : Fld) : (s.bumpIf c f).now = s.now := by
  obtain ⟨w, h | h⟩ := bumpIf_eq s c f <;> rw [h]
  rfl

theorem mem_raiseIf {s : State} {c : Bool} (e : Nat) (h : c = true) : ⟨e, none⟩ ∈ (s.raiseIf c e).raised := by
  subst h
  exact mem_raised s e

theorem mem_raiseIf_of_mem {s : State} {r : Raised} (c : Bool) (e : Nat) (h : r ∈ s.raised) : r ∈ (s.raiseIf c e).raised := by
  cases c
  · exact h
  · exact List.mem_append_left _ h

/-- A line that came short or long is counted. -/
def State.countLine (s : State) (y : ColourLine) : State := (s.bumpIf y.short IMG_LINE_ERR_SHORT).bumpIf y.long IMG_LINE_ERR_LONG

/-- The events of a line that came short or long, each once a frame. -/
def State.raiseShort (s : State) (y : ColourLine) : State := s.raiseIf (y.short && !s.img.shortRaised) EV_LINE_SHORT
def State.raiseLong (s : State) (y : ColourLine) : State := s.raiseIf (y.long && !s.img.longRaised) EV_LINE_LONG

/-- A line joins those that have arrived; what it shows for the first time in its frame is noted. -/
def State.lineArrived (s : State) (y : ColourLine) : State :=
  { s with img := { s.img with shortRaised := s.img.shortRaised || y.short, longRaised := s.img.longRaised || y.long,
                               arrived := s.img.arrived ++ [y] } }

theorem deliverColour_eq (s : State) (l : ColourLine) :
    s.deliverColour l = (((s.countLine (s.fitted l)).raiseShort (s.fitted l)).raiseLong (s.fitted l)).lineArrived (s.fitted l) := rfl

theorem countLine_img (s : State) (y : ColourLine) : (s.countLine y).img = s.img := by rw [State.countLine, bumpIf_img, bumpIf_img]

theorem raiseShort_img (s : State) (y : ColourLine) : (s.raiseShort y).img = s.img := State.raiseIf_img _ _ _
theorem raiseLong_img (s : State) (y : ColourLine) : (s.raiseLong y).img = s.img := State.raiseIf_img _ _ _

theorem deliverColour_arrived (s : State) (l : ColourLine) : (s.deliverColour l).img.arrived = s.img.arrived ++ [s.fitted l] := by
  rw [deliverColour_eq, State.lineArrived, raiseLong_img, raiseShort_img, countLine_img]

/-- Of the column a delivery leaves all but the lines that have arrived and the two marks of the frame. -/
theorem deliverColour_img (s : State) (l : ColourLine) : ∃ a b c,
    (s.deliverColour l).img = { s.img with shortRaised := a, longRaised := b, arrived := c } := by
  rw [deliverColour_eq, State.lineArrived, raiseLong_img, raiseShort_img, countLine_img]
  exact ⟨_, _, _, rfl⟩

theorem deliverColour_now (s : State) (l : ColourLine) : (s.deliverColour l).now = s.now := by
  rw [deliverColour_eq, State.lineArrived, State.raiseLong, State.raiseIf_now, State.raiseShort, State.raiseIf_now, State.countLine,
    bumpIf_now, bumpIf_now]

theorem deliverColour_short {s : State} {l : ColourLine} (short : (s.fitted l).short = true) (first : s.img.shortRaised = false) :
    ⟨EV_LINE_SHORT, none⟩ ∈ (s.deliverColour l).raised := by
  rw [deliverColour_eq]
  exact mem_raiseIf_of_mem _ _ (mem_raiseIf _ (by rw [short, countLine_img, first]; rfl))

theorem deliverColour_long {s : State} {l : ColourLine} (long : (s.fitted l).long = true) (first : s.img.longRaised = false) :
    ⟨EV_LINE_LONG, none⟩ ∈ (s.deliverColour l).raised := by
  rw [deliverColour_eq]
  exact mem_raiseIf _ (by rw [long, raiseShort_img, countLine_img, first]; rfl)

/-- A line `l` with the pixels `px` has arrived as the logic die expects it (R216). -/
def Delivered (s t : State) (l : ColourLine) (px : List Nat) : Prop :=
  ∃ y, t.img.arrived = s.img.arrived ++ [y] ∧
    (let n := outPixels (s.genCfg l.gen)
     y.pixels = (px ++ List.replicate (n - px.length) 0).take n ∧ y.short = decide (px.length < n) ∧ y.long = decide (n < px.length)
      ∧ (y.short = true → s.img.shortRaised = false → Logged t EV_LINE_SHORT)
      ∧ (y.long = true → s.img.longRaised = false → Logged t EV_LINE_LONG))

/-- A delivery shows in every state that follows it with the lines arrived and the sources raised. -/
theorem delivered_of_deliverColour {s u v : State} {l k : ColourLine} {bus : Option PixelBus} {busFree : Nat} {fv : Bool}
    {expected : List ColourLine} (img : u.img = { s.img with bus := bus, busFree := busFree, fv := fv, expected := expected })
    (gen : k.gen = l.gen) (arrived : v.img.arrived = (u.deliverColour k).img.arrived)
    (raised : ∀ r ∈ (u.deliverColour k).raised, r ∈ v.raised) :
    Delivered s v.settle l k.pixels := by
  have same : u.img.gens = s.img.gens ∧ u.img.arrived = s.img.arrived ∧ u.img.shortRaised = s.img.shortRaised
      ∧ u.img.longRaised = s.img.longRaised := by
    rw [img]
    exact ⟨rfl, rfl, rfl, rfl⟩
  obtain ⟨gens, before, short, long⟩ := same
  have cfg : u.genCfg k.gen = s.genCfg l.gen := (genCfg_congr gens _).trans (by rw [gen])
  have log {e : Nat} (he : e < 256) (h : ⟨e, none⟩ ∈ (u.deliverColour k).raised) : Logged v.settle e :=
    logged_settle (r := ⟨e, none⟩) (raised _ h) he
  refine ⟨u.fitted k, by rw [settle_img, arrived, deliverColour_arrived, before], ?_⟩
  rw [← cfg, ← short, ← long]
  exact ⟨rfl, rfl, rfl, fun h first => log (by decide) (deliverColour_short h first),
    fun h first => log (by decide) (deliverColour_long h first)⟩

/-! ### A capture to LPDDR5X leaves the column alone (R245) -/

/-- The column and the clock are as before, and no raised source is lost. -/
def SameColumn (s t : State) : Prop := t.img = s.img ∧ t.now = s.now ∧ ∀ r ∈ s.raised, r ∈ t.raised

theorem SameColumn.refl (s : State) : SameColumn s s := ⟨rfl, rfl, fun _ h => h⟩

theorem SameColumn.trans {s t u : State} (h : SameColumn s t) (g : SameColumn t u) : SameColumn s u := by
  obtain ⟨img, now, raised⟩ := h
  obtain ⟨img', now', raised'⟩ := g
  exact ⟨img'.trans img, now'.trans now, fun r hr => raised' r (raised r hr)⟩

theorem captureCopy_column (s : State) (beats : List (BitVec 56)) (l : ColourLine) : SameColumn s (s.captureCopy beats l) := by
  unfold State.captureCopy
  split
  · split
    · dsimp only
      split <;> exact ⟨rfl, rfl, fun _ h => h⟩
    · exact .refl s
  · exact .refl s

/-- A capture of `n` lines has ended. -/
def State.captureEnded (s : State) (n : Nat) : State :=
  ((((({ s with isp := { s.isp with capture := none } } : State).setFld ISP_MEM_CTRL_LINES n).setFlag ISP_MEM_CTRL_CAPTURE false).setFlag
    ISP_STATUS_CAPTURE_ACTIVE false).raise EV_ISP_CAPTURE_DONE)

theorem captureEnded_column (s : State) (n : Nat) : SameColumn s (s.captureEnded n) := by
  unfold State.captureEnded
  refine ⟨?_, ?_, fun r hr => ?_⟩
  · rw [State.raise_img, State.setFlag_img, State.setFlag_img, State.setFld_img]
  · rw [State.raise_now, State.setFlag_now, State.setFlag_now, State.setFld_now]
  · rw [State.raise_raised, State.setFlag_raised, State.setFlag_raised, State.setFld_raised]
    exact List.mem_append_left _ hr

theorem captureCheck_column (s : State) : SameColumn s s.captureCheck := by
  unfold State.captureCheck
  split
  next n _ _ =>
    extract_lets i open_ s1 s2
    split
    · exact .refl s
    · exact captureEnded_column s n
  · exact .refl s

/-- The line that arrived last is copied to a capture in progress. -/
def State.captureLast (s : State) (beats : List (BitVec 56)) : State :=
  match s.img.arrived.getLast? with
  | some y => s.captureCopy beats y
  | none => s

theorem captureLast_column (s : State) (beats : List (BitVec 56)) : SameColumn s (s.captureLast beats) := by
  unfold State.captureLast
  split
  · exact captureCopy_column s beats _
  · exact .refl s

/-! ### The last beat of a line (R215, R216) -/

/-- The state after the last beat of the line on the bus. -/
def State.lastBeat (s : State) (b : PixelBus) : State := (s.advance (b.lvAt + 1024 * b.beats.length)).busFreed

theorem lastBeat_img (s : State) (b : PixelBus) :
    ∃ n v, (s.lastBeat b).img = { s.img with bus := none, busFree := n, fv := v } := by
  obtain ⟨v, h⟩ := busFreed_eq (s.advance (b.lvAt + 1024 * b.beats.length))
  refine ⟨(s.advance (b.lvAt + 1024 * b.beats.length)).now, v, ?_⟩
  rw [State.lastBeat, h, State.advance_img]

theorem lastBeat_now (s : State) (b : PixelBus) : (s.lastBeat b).now = max s.now (b.lvAt + 1024 * b.beats.length) := by
  obtain ⟨v, h⟩ := busFreed_eq (s.advance (b.lvAt + 1024 * b.beats.length))
  rw [State.lastBeat, h]
  exact State.advance_now s _

theorem lastBeat_flag (s : State) (b : PixelBus) (f : Fld) : (s.lastBeat b).flag f = s.flag f := by
  obtain ⟨v, h⟩ := busFreed_eq (s.advance (b.lvAt + 1024 * b.beats.length))
  rw [State.lastBeat, h]
  exact flag_advance s _ f

theorem lastBeat_expects (s : State) (b : PixelBus) (l : ColourLine) : (s.lastBeat b).expects l = s.expects l := by
  obtain ⟨n, v, h⟩ := lastBeat_img s b
  unfold State.expects
  rw [h]

/-- A line is no longer among those the logic die expects. -/
def State.expectLess (s : State) (x : ColourLine) : State := { s with img := { s.img with expected := s.img.expected.erase x } }

/-- What is made of the line received, by its place among the lines expected; while SRC is 1 the bus is not read (R246). -/
def State.takeLine (s : State) (b : PixelBus) : Option ColourLine → State
  | none => s.captureCheck
  | some x =>
    if s.flag ISP_CTRL_SRC then (s.expectLess x).captureCheck
    else (((s.expectLess x).deliverColour b.received).captureLast b.beats).captureCheck

theorem pixelReceived_eq {s : State} {b : PixelBus} (onBus : s.img.bus = some b) :
    s.pixelReceived = (s.lastBeat b).takeLine b (s.expects b.received) := by
  rw [← lastBeat_expects s b]
  unfold State.pixelReceived State.takeLine
  rw [onBus]
  rfl

theorem takeLine_expected {s : State} {b : PixelBus} (x : ColourLine) (src : s.flag ISP_CTRL_SRC = false) :
    SameColumn ((s.expectLess x).deliverColour b.received) (s.takeLine b (some x)) := by
  rw [State.takeLine, if_neg (by simp [src])]
  exact (captureLast_column _ _).trans (captureCheck_column _)

/-! ### The commands of the bus -/

theorem pixelLineTransfer_gives {s : State} {l : ColourLine} (core : s.pwr.coreInReset = false) (free : s.img.bus = none)
    (oldest : s.img.store.find? (fun l => !s.earlierUnsent l) = some l) :
    Gives .pixelLineTransfer s fun t => ∃ b, t.img.bus = some b ∧ b.line = l ∧ b.lvAt = t.now
      ∧ b.beats = BitVec.ofNat 56 (headerBeat (s.genCfg l.die) l) :: pixelBeats l.pixels
      ∧ t.now = max s.now (max l.readyAt (s.img.busFree + 16384))
      ∧ t.img.store = s.img.store.erase l ∧ t.img.fv = true ∧ Kept s t [] := by
  refine ⟨_, done_inCore core _, (s.advance (max l.readyAt (s.img.busFree + 16384))).busOf l, ?_⟩
  rw [pixelTransfer_sends free oldest, settle_img, settle_now]
  refine ⟨rfl, rfl, rfl, ?_, State.advance_now s _, rfl, rfl, (((Kept.refl s []).advance _).img _).settle⟩
  rw [State.busOf, genCfg_advance]

section
variable {s : State} {b : PixelBus} (core : s.pwr.coreInReset = false) (onBus : s.img.bus = some b)
include core onBus

/-- A line that the logic die expects is taken off the bus and delivered. -/
theorem pixelLineReceived_delivers {x : ColourLine} (place : s.expects b.received = some x) (src : s.flag ISP_CTRL_SRC = false) :
    Gives .pixelLineReceived s fun t => t.img.bus = none ∧ t.now = max s.now (b.lvAt + 1024 * b.beats.length)
      ∧ t.img.expected = s.img.expected.erase x ∧ Delivered s t b.received b.received.pixels := by
  refine ⟨_, done_inCore core _, ?_⟩
  rw [pixelReceived_eq onBus, place]
  obtain ⟨img, now, raised⟩ := takeLine_expected (b := b) x ((lastBeat_flag s b ISP_CTRL_SRC).trans src)
  obtain ⟨n, v, beat⟩ := lastBeat_img s b
  have taken : ((s.lastBeat b).expectLess x).img =
      { s.img with bus := none, busFree := n, fv := v, expected := s.img.expected.erase x } := by rw [State.expectLess, beat]
  obtain ⟨_, _, _, delivered⟩ := deliverColour_img ((s.lastBeat b).expectLess x) b.received
  rw [settle_img, settle_now, now, deliverColour_now]
  refine ⟨?_, lastBeat_now s b, ?_, delivered_of_deliverColour taken rfl (by rw [img]) raised⟩
  · rw [img, delivered, taken]
  · rw [img, delivered, taken]

/-- A line that is not expected is not taken. -/
theorem pixelLineReceived_passes (place : s.expects b.received = none) :
    Gives .pixelLineReceived s fun t => t.img.bus = none ∧ t.img.expected = s.img.expected ∧ t.img.arrived = s.img.arrived := by
  refine ⟨_, done_inCore core _, ?_⟩
  rw [pixelReceived_eq onBus, place]
  obtain ⟨img, -, -⟩ := captureCheck_column (s.lastBeat b)
  obtain ⟨n, v, beat⟩ := lastBeat_img s b
  rw [settle_img, State.takeLine, img, beat]
  exact ⟨rfl, rfl, rfl⟩

end

/-- A line whose header did not come: one of 0 beats (R216). -/
def State.missing (s : State) (l : ColourLine) : ColourLine :=
  { l with pixels := [], velChange := false, cut := false, stale := false, marked := s.markedPixels (s.genCfg l.gen) }

/-- The wait for the line expected longest ends. -/
def State.givenUp (s : State) (l : ColourLine) (rest : List ColourLine) : State :=
  { s.advance (l.readyAt + s.imageLineTicks) with img := { (s.advance (l.readyAt + s.imageLineTicks)).img with expected := rest } }

theorem headerTimeout_delivers {s : State} {l : ColourLine} {rest : List ColourLine} (oldest : s.img.expected = l :: rest)
    (header : s.img.bus.any (fun b => b.line.frame = l.frame && b.line.line = l.line) = false) (src : s.flag ISP_CTRL_SRC = false) :
    s.headerTimeout = (s.givenUp l rest).deliverColour ((s.givenUp l rest).missing l) := by
  have src' : (s.givenUp l rest).flag ISP_CTRL_SRC = false := (flag_advance s _ _).trans src
  unfold State.headerTimeout
  rw [oldest]
  dsimp only
  rw [if_neg (by simp [header])]
  exact if_neg (Bool.eq_false_iff.mp src')

/-- A missing header delivers the line expected longest as zeros, one image line after its instant. -/
theorem pixelHeaderTimeout_delivers {s : State} {l : ColourLine} {rest : List ColourLine} (core : s.pwr.coreInReset = false)
    (oldest : s.img.expected = l :: rest)
    (header : s.img.bus.any (fun b => b.line.frame = l.frame && b.line.line = l.line) = false) (src : s.flag ISP_CTRL_SRC = false) :
    Gives .pixelHeaderTimeout s fun t => t.img.expected = rest ∧ t.now = max s.now (l.readyAt + s.imageLineTicks) ∧ Delivered s t l [] := by
  refine ⟨_, done_inCore core _, ?_⟩
  beta_reduce
  rw [headerTimeout_delivers oldest header src]
  have img : (s.givenUp l rest).img = { s.img with bus := s.img.bus, busFree := s.img.busFree, fv := s.img.fv, expected := rest } := by
    rw [State.givenUp, State.advance_img]
  obtain ⟨_, _, _, delivered⟩ := deliverColour_img (s.givenUp l rest) ((s.givenUp l rest).missing l)
  rw [settle_img, settle_now, deliverColour_now, delivered, img]
  exact ⟨rfl, State.advance_now s _, delivered_of_deliverColour img rfl rfl fun _ h => h⟩

/-- What answers its own state keeps the column. -/
theorem gives_same_column {c : Instr} {s : State} {f : State → State} (run : exec c s = done (s.inCore f)) (h : f s = s) :
    Gives c s fun t => t.img = s.img ∧ Kept s t [] :=
  ⟨s.settle, run.trans (congrArg done (inCore_id h)), settle_img s, (Kept.refl s []).settle⟩

/-- Settles O30: the gate step, the close of a sense interval, and the bus, each by the lemmas above. -/
theorem colourLinesAreShiftedAndRead : Obligations.ColourLinesAreShiftedAndRead := by
  unfold Obligations.ColourLinesAreShiftedAndRead
  refine ⟨?step, ?noStep, convCode_le, fun s l x cut => convert_cut s l x cut, ?close, ?noClose, ?transfer, ?received, ?passed, ?timeout⟩
  case step => exact fun s core running grid lineOpen due => gateStep_moves core running grid lineOpen due
  case noStep => exact fun s h => gives_same_column rfl (gateStep_none h)
  case close => exact fun x l s core running grid oldest read => senseClose_stores x core running grid oldest read
  case noClose => exact fun x s h => gives_same_column rfl (senseClose_none x h)
  case transfer => exact fun l s core free oldest => pixelLineTransfer_gives core free oldest
  case received => exact fun b x s core onBus place src => pixelLineReceived_delivers core onBus place src
  case passed => exact fun b s core onBus place => pixelLineReceived_passes core onBus place
  case timeout => exact fun l rest s core oldest header src => pixelHeaderTimeout_delivers core oldest header src

end Sys2Proof.Machine
end

section
/-! PROOFS. The commit of an imaging set and the enable of the column (R218 to R220, R222, R486). -/

namespace Sys2Proof.Machine

open Sys2Proof.Laws

/-! ### Stored writes (R18) -/

theorem plainWrite_stored (s : State) {off m : Nat} (v : Word) (acc : accOf off = some (.rw, m)) :
    s.plainWrite off off v = s.wr off (s.stored off v) := by
  rw [plainWrite_rw s _ _ v acc, State.stored, acc]

/-- A field whose bits a write stores reads as the word written. -/
theorem get_stored (s : State) {f : Fld} {m : Nat} (v : Word) (acc : accOf f.reg = some (.rw, m))
    (writable : ∀ i < f.hi + 1 - f.lo, (BitVec.ofNat 32 m).getLsbD (f.lo + i) = true) : f.get (s.stored f.reg v) = f.get v := by
  rw [State.stored, acc]
  apply Nat.eq_of_testBit_eq
  intro i
  rw [get_testBit, get_testBit, BitVec.testBit_toNat, BitVec.testBit_toNat]
  by_cases hi : i < f.hi + 1 - f.lo
  · simp [writable i hi]
  · simp [hi]

/-! ### Refusals (R486) -/

/-- A refusal of the column or of the pipeline changes IMG_CFG_ERR alone. -/
theorem imgRefused (s : State) (w : Nat) :
    let t := (s.refuseWith IMG_CFG_ERR EV_IMG_CFG_ERROR w).settle
    t.rd IMG_CFG_ERR = BitVec.ofNat 32 w ∧ Logged t EV_IMG_CFG_ERROR ∧ t.img = s.img ∧ t.isp = s.isp ∧ Kept s t [IMG_CFG_ERR] := by
  obtain ⟨err, logged, -, kept⟩ := refuseWith_settles s (k := IMG_CFG_ERR) (ev := EV_IMG_CFG_ERROR) w (by decide) (by decide)
  exact ⟨err, logged, settle_img _, settle_isp _, kept⟩

/-! ### The commit (R218, R219, R222) -/

theorem fldIn_regs (s : State) (f : Fld) : fldIn s.regs f = s.fld f := rfl

/-- A ROW_BIN of 3 is refused where the rows are legal without binning. -/
theorem imgCheck_rowBin {s : State} (even : s.fld IMG_ROWS_START % 2 = 0) (counted : s.fld IMG_ROWS_COUNT ≠ 0)
    (pairs : s.fld IMG_ROWS_COUNT % 2 = 0) (inside : s.fld IMG_ROWS_START + s.fld IMG_ROWS_COUNT ≤ 1536) (bin : s.fld IMG_BIN_ROW_BIN = 3) :
    s.imgCheck = some (0x02, 0) := by
  have factor : binFactor s.regs = 1 := by
    unfold binFactor
    rw [fldIn_regs, bin]
    rfl
  unfold State.imgCheck
  extract_lets cfg f b vel badVel badSet facets
  have rows : (f IMG_ROWS_START % 2 = 1 || f IMG_ROWS_COUNT = 0 || f IMG_ROWS_COUNT % (2 * b) ≠ 0
      || 1536 < f IMG_ROWS_START + f IMG_ROWS_COUNT) = false := by
    simp [f, b, cfg, factor, fldIn_regs, even, counted, pairs, Nat.not_lt.mpr inside]
  rw [rows, if_neg (by decide), if_pos (by rw [← bin]; rfl)]

/-- The whole shadow set is staged with its instant; a halt ends. -/
def State.stageImaging (s : State) : State :=
  ((({ s with img := { s.img with commit := some s.now, staged := s.shadowSet imgSpans } } : State).setFlag IMG_STATUS_COMMIT_PENDING
    true).setFlag IMG_STATUS_TDI_HALT false)

theorem imgCommit_stages {s : State} (passes : s.imgCheck = none) : s.imgCommit = s.stageImaging := by
  unfold State.imgCommit
  rw [passes]
  rfl

theorem imgCommit_refuses {s : State} {c d : Nat} (fails : s.imgCheck = some (c, d)) :
    s.imgCommit = s.refuseWith IMG_CFG_ERR EV_IMG_CFG_ERROR (c * 2 ^ 24 + d % 2 ^ 16) := by
  unfold State.imgCommit
  rw [fails]
  rfl

theorem imgWrite_commit (s : State) : s.imgWrite IMG_COMMIT 1 = s.imgCommit := by
  unfold State.imgWrite
  rw [if_pos rfl, if_pos (by decide)]

theorem imagingCommit_exec {p : Port} {s : State} (h : Reaches s p IMG_COMMIT) :
    exec (.imagingCommit p) s = .next s.imgCommit.settle := by
  rw [← imgWrite_commit]
  exact done_unowned h _

theorem imagingCommit_stages {p : Port} {s : State} (h : Reaches s p IMG_COMMIT) (passes : s.imgCheck = none) :
    Gives (.imagingCommit p) s fun t => t.img.commit = some s.now ∧ t.img.staged = s.shadowSet imgSpans
      ∧ t.flag IMG_STATUS_COMMIT_PENDING = true ∧ t.flag IMG_STATUS_TDI_HALT = false ∧ Kept s t [IMG_STATUS] := by
  refine ⟨_, imagingCommit_exec h, ?_⟩
  beta_reduce
  rw [imgCommit_stages passes, settle_img, settle_flag _ (by decide), settle_flag _ (by decide), State.stageImaging, State.setFlag_img,
    State.setFlag_img]
  refine ⟨rfl, rfl, ?_, flag_setFlag_same _ _ _ rfl (by decide), ?_⟩
  · rw [flag_setFlag_other _ _ _ _ (by decide) (by decide) (.inr (.inr (by decide)))]
    exact flag_setFlag_same _ _ _ rfl (by decide)
  · have listed : IMG_STATUS ∈ [IMG_STATUS] := List.mem_singleton_self _
    exact ((((Kept.refl s _).img _).setFlag (f := IMG_STATUS_COMMIT_PENDING) true listed).setFlag (f := IMG_STATUS_TDI_HALT) false listed).settle

theorem imagingCommit_refuses {p : Port} {s : State} {c d : Nat} (h : Reaches s p IMG_COMMIT) (fails : s.imgCheck = some (c, d)) :
    Gives (.imagingCommit p) s fun t => t.rd IMG_CFG_ERR = BitVec.ofNat 32 (c * 2 ^ 24 + d % 2 ^ 16) ∧ Logged t EV_IMG_CFG_ERROR
      ∧ t.img.commit = s.img.commit ∧ t.img.staged = s.img.staged ∧ Kept s t [IMG_CFG_ERR] := by
  refine ⟨_, imagingCommit_exec h, ?_⟩
  rw [imgCommit_refuses fails]
  obtain ⟨err, logged, img, -, kept⟩ := imgRefused s (c * 2 ^ 24 + d % 2 ^ 16)
  exact ⟨err, logged, by rw [img], by rw [img], kept⟩

/-! ### The enable (R220) -/

theorem acc_imgCtrl : accOf IMG_CTRL = some (.rw, 1) := by decide +kernel

theorem imgWrite_ctrl (s : State) (v : Word) : s.imgWrite IMG_CTRL v = s.wr IMG_CTRL (s.stored IMG_CTRL v) :=
  (if_neg (by decide)).trans (plainWrite_stored s v acc_imgCtrl)

theorem imagingEnable_exec {p : Port} {s : State} (h : Reaches s p IMG_CTRL) (on : Bool) :
    exec (.imagingEnable p on) s = .next (s.wr IMG_CTRL (s.stored IMG_CTRL (BitVec.ofNat 32 (b2n on)))).settle := by
  rw [← imgWrite_ctrl]
  exact done_unowned h _

theorem enable_stored (s : State) (on : Bool) : IMG_CTRL_ENABLE.get (s.stored IMG_CTRL (BitVec.ofNat 32 (b2n on))) = b2n on :=
  (get_stored s (f := IMG_CTRL_ENABLE) _ acc_imgCtrl (by decide)).trans (by cases on <;> rfl)

theorem imagingEnable_stores {p : Port} {s : State} (h : Reaches s p IMG_CTRL) (on : Bool) :
    Gives (.imagingEnable p on) s fun t => t.flag IMG_CTRL_ENABLE = on
      ∧ t.rd IMG_CTRL = s.stored IMG_CTRL (BitVec.ofNat 32 (b2n on)) ∧ Kept s t [IMG_CTRL] := by
  refine ⟨_, imagingEnable_exec h on, ?_⟩
  beta_reduce
  rw [settle_flag _ (by decide), settle_rd _ (by decide), rd_wr_same, State.flag, State.fld]
  refine ⟨?_, rfl, ((Kept.refl s _).wr _ (List.mem_singleton_self _)).settle⟩
  rw [show IMG_CTRL_ENABLE.reg = IMG_CTRL from rfl, rd_wr_same, enable_stored]
  cases on <;> rfl

end Sys2Proof.Machine
end

section
/-! PROOFS. Writes of the pipeline's control: ISP_CTRL, captures and reprocessing (R234, R245, R246). -/

namespace Sys2Proof.Machine

open Sys2Proof.Laws

theorem Kept.isp {s t : State} {keys : List Nat} (h : Kept s t keys) (x : IspState) : Kept s { t with isp := x } keys :=
  h.of_eq rfl rfl rfl rfl

theorem fld_setFlag_other (s : State) (f g : Fld) (b : Bool) (hl : f.lo ≤ f.hi) (hh : f.hi < 32)
    (h : g.reg ≠ f.reg ∨ g.hi < f.lo ∨ f.hi < g.lo) : (s.setFlag f b).fld g = s.fld g := fld_setFld_other s f g _ hl hh h

/-- The command is refused with `code`, and the pipeline is as before. -/
def IspRefused (s t : State) (code : Nat) : Prop :=
  t.rdN IMG_CFG_ERR = code * 2 ^ 24 + 0xFFFF ∧ Logged t EV_IMG_CFG_ERROR ∧ t.isp = s.isp ∧ Kept s t [IMG_CFG_ERR]

/-- The refusal of a write of the pipeline's control. -/
def State.ispRefuse (s : State) (code : Nat) : State := s.refuseWith IMG_CFG_ERR EV_IMG_CFG_ERROR (code * 2 ^ 24 + 0xFFFF)

theorem ispRefuse_settles (s : State) {code : Nat} (h : code < 256) : IspRefused s (s.ispRefuse code).settle code := by
  obtain ⟨err, logged, -, isp, kept⟩ := imgRefused s (code * 2 ^ 24 + 0xFFFF)
  refine ⟨?_, logged, isp, kept⟩
  rw [State.ispRefuse, State.rdN, err, BitVec.toNat_ofNat]
  omega

/-! ### ISP_CTRL (R234) -/

theorem acc_ispCtrl : accOf ISP_CTRL = some (.rw, 3) := by decide +kernel

theorem ispControl_exec {p : Port} {s : State} (h : Reaches s p ISP_CTRL) (v : BitVec 2) :
    exec (.ispControlWrite p v) s = .next (s.ispWrite ISP_CTRL (v.setWidth 32)).settle := done_unowned h _

theorem ispWrite_ctrl_idle {s : State} (idle : s.flag IMG_CTRL_ENABLE = false) (v : Word) :
    s.ispWrite ISP_CTRL v = s.wr ISP_CTRL (s.stored ISP_CTRL v) := by
  unfold State.ispWrite
  rw [if_pos rfl, if_neg (by simp [idle])]
  exact plainWrite_stored s v acc_ispCtrl

theorem ispWrite_ctrl_enabled {s : State} (on : s.flag IMG_CTRL_ENABLE = true) (v : Word) : s.ispWrite ISP_CTRL v = s.ispRefuse 0x23 := by
  unfold State.ispWrite
  rw [if_pos rfl, if_pos on]
  rfl

/-! ### ISP_MEM_CTRL (R245, R246) -/

theorem captureWord_bits (n : BitVec 16) : (BitVec.ofNat 32 (2 ^ 30 + n.toNat)).toNat.testBit 31 = false
    ∧ (BitVec.ofNat 32 (2 ^ 30 + n.toNat)).toNat.testBit 30 = true ∧ (BitVec.ofNat 32 (2 ^ 30 + n.toNat)).toNat % 65536 = n.toNat := by
  have hn := n.isLt
  rw [BitVec.toNat_ofNat, Nat.mod_eq_of_lt (by omega)]
  refine ⟨Nat.testBit_lt_two_pow (by omega), ?_, by omega⟩
  rw [Nat.testBit_two_pow_add_eq, Nat.testBit_lt_two_pow (by omega)]
  rfl

theorem reprocWord_bits (n : BitVec 16) : (BitVec.ofNat 32 (2 ^ 31 + n.toNat)).toNat.testBit 31 = true
    ∧ (BitVec.ofNat 32 (2 ^ 31 + n.toNat)).toNat.testBit 30 = false ∧ (BitVec.ofNat 32 (2 ^ 31 + n.toNat)).toNat % 65536 = n.toNat := by
  have hn := n.isLt
  rw [BitVec.toNat_ofNat, Nat.mod_eq_of_lt (by omega)]
  refine ⟨?_, ?_, by omega⟩
  · rw [Nat.testBit_two_pow_add_eq, Nat.testBit_lt_two_pow (by omega)]
    rfl
  · rw [Nat.testBit_two_pow_add_gt (by omega), Nat.testBit_lt_two_pow (by omega)]

theorem lines_ne_zero {n : BitVec 16} (h : n ≠ 0) : n.toNat ≠ 0 := fun e => h (BitVec.eq_of_toNat_eq e)

/-- A request noted in ISP_MEM_CTRL and in ISP_STATUS, with the pipeline's state that holds it. -/
def State.request (s : State) (x : IspState) (bit busy : Fld) : State := (({ s with isp := x } : State).setFlag bit true).setFlag busy true

/-- A capture that waits for the next frame. -/
def State.awaitCapture (s : State) : State :=
  s.request { s.isp with capture := some (none, 0, s.memBase) } ISP_MEM_CTRL_CAPTURE ISP_STATUS_CAPTURE_ACTIVE

/-- A reprocessing that begins at the region's base. -/
def State.beginReproc (s : State) (lines : Nat) : State :=
  s.request { s.isp with reproc := some (lines, s.memBase, 0) } ISP_MEM_CTRL_REPROC ISP_STATUS_REPROC_BUSY

/-- LINES of ISP_MEM_CTRL as a legal write leaves it. -/
def State.setLines (s : State) (lines : Nat) : State := s.setFld ISP_MEM_CTRL_LINES lines

theorem memBase_setLines (s : State) (lines : Nat) : (s.setLines lines).memBase = s.memBase := by
  unfold State.memBase State.rdN State.setLines
  rw [rd_setFld, if_neg (by decide)]

theorem ispWrite_memCtrl (s : State) (v : Word) : s.ispWrite ISP_MEM_CTRL v = s.memCtrlWrite v :=
  (if_neg (by decide)).trans (if_pos rfl)

section
variable {s : State} {v : Word}

theorem memCtrlWrite_enabled (req : v.toNat.testBit 31 = true ∨ v.toNat.testBit 30 = true) (on : s.flag IMG_CTRL_ENABLE = true) :
    s.memCtrlWrite v = s.ispRefuse 0x23 := if_pos (by rcases req with e | e <;> simp [e, on])

theorem memCtrlWrite_noLines (rep : v.toNat.testBit 31 = true) (empty : v.toNat % 65536 = 0) : s.memCtrlWrite v = s.ispRefuse 0x23 :=
  if_pos (by simp [rep, empty])

section
variable (idle : s.flag IMG_CTRL_ENABLE = false)
include idle

theorem captureWrite_unfit (rep : v.toNat.testBit 31 = false) (cap : v.toNat.testBit 30 = true)
    (bad : s.regionBad (4 * s.linesInForce * s.recordBytes) = true) : s.memCtrlWrite v = s.ispRefuse 0x24 :=
  (if_neg (by simp [rep, idle])).trans (if_pos (by simp [rep, cap, bad]))

theorem reprocWrite_unfit (rep : v.toNat.testBit 31 = true) (lines : v.toNat % 65536 ≠ 0)
    (bad : s.regionBad (v.toNat % 65536 * s.recordBytes) = true) : s.memCtrlWrite v = s.ispRefuse 0x24 :=
  (if_neg (by simp [lines, idle])).trans (if_pos (by simp [rep, bad]))

theorem captureWrite_awaits (rep : v.toNat.testBit 31 = false) (cap : v.toNat.testBit 30 = true)
    (fits : s.regionBad (4 * s.linesInForce * s.recordBytes) = false) (free : s.isp.capture = none) :
    s.memCtrlWrite v = (s.setLines (v.toNat % 65536)).awaitCapture := by
  unfold State.memCtrlWrite
  extract_lets rep' cap' lines a isp c b
  have hr : rep' = false := rep
  have hc : cap' = true := cap
  have captured : b = a.awaitCapture := if_pos (by simp [hc, a, free])
  rw [if_neg (by simp [hr, idle]), if_neg (by simp [hr, hc, fits]), if_neg (by simp [hr]), captured]
  rfl

theorem reprocWrite_begins (rep : v.toNat.testBit 31 = true) (cap : v.toNat.testBit 30 = false) (src : s.flag ISP_CTRL_SRC = true)
    (nonzero : v.toNat % 65536 ≠ 0) (fits : s.regionBad (v.toNat % 65536 * s.recordBytes) = false) (free : s.isp.reproc = none) :
    s.memCtrlWrite v = (s.setLines (v.toNat % 65536)).beginReproc (v.toNat % 65536) := by
  unfold State.memCtrlWrite
  extract_lets rep' cap' lines a isp c b
  have hr : rep' = true := rep
  have hc : cap' = false := cap
  have source : a.flag ISP_CTRL_SRC = true := (flag_congr (rd_wr_other s _ (by decide))).trans src
  have begun (b : State) (same : b = a) :
      (if rep' && b.flag ISP_CTRL_SRC && b.isp.reproc.isNone then b.beginReproc lines else b) = a.beginReproc lines := by
    rw [same]
    exact if_pos (by simp [hr, source, a, free])
  rw [if_neg (by simp [idle, nonzero, lines]), if_neg (by simp [hc, fits, lines])]
  exact begun b (if_neg (by simp [hc]))

end

end

/-- A request shows in both registers and changes no other. -/
theorem request_settles (s : State) (x : IspState) (n : BitVec 16) {bit busy : Fld} (hbit : bit.reg = ISP_MEM_CTRL)
    (one : bit.lo = bit.hi) (above : 16 ≤ bit.lo) (fits : bit.hi < 32) (hbusy : busy.reg = ISP_STATUS) (one' : busy.lo = busy.hi)
    (fits' : busy.hi < 32) :
    let t := ((s.setLines n.toNat).request x bit busy).settle
    t.isp = x ∧ t.flag bit = true ∧ t.flag busy = true ∧ t.fld ISP_MEM_CTRL_LINES = n.toNat ∧ Kept s t [ISP_MEM_CTRL, ISP_STATUS] := by
  have apart : ISP_MEM_CTRL ≠ ISP_STATUS := by decide
  have quiet : settleKey ISP_MEM_CTRL = false ∧ settleKey ISP_STATUS = false := by decide
  obtain ⟨quiet, quiet'⟩ := quiet
  refine ⟨settle_isp _, ?bit, ?busy, ?lines, ?kept⟩
  case bit =>
    rw [settle_flag _ (by rw [hbit]; exact quiet), State.request,
      flag_setFlag_other _ _ _ _ one'.le fits' (.inl (by rw [hbit, hbusy]; exact apart)), flag_setFlag_same _ _ _ one fits]
  case busy => rw [settle_flag _ (by rw [hbusy]; exact quiet'), State.request, flag_setFlag_same _ _ _ one' fits']
  case lines =>
    have hn := n.isLt
    rw [settle_fld _ quiet, State.request, fld_setFlag_other _ _ _ _ one'.le fits' (.inl (by rw [hbusy]; exact apart)),
      fld_setFlag_other _ _ _ _ one.le fits (.inr (.inl (show 15 < bit.lo by omega)))]
    exact (fld_setFld_same s ISP_MEM_CTRL_LINES _ (by decide) (by decide)).trans (Nat.mod_eq_of_lt hn)
  case kept =>
    have lines : Kept s (s.setLines n.toNat) [ISP_MEM_CTRL, ISP_STATUS] := (Kept.refl s _).setFld (f := ISP_MEM_CTRL_LINES) _ (by decide)
    exact (((lines.isp x).setFlag true (by simp [hbit])).setFlag true (by simp [hbusy])).settle

/-! ### The commands -/

section
variable {p : Port} {s : State} (h : Reaches s p ISP_MEM_CTRL) (n : BitVec 16)
include h

theorem captureRequest_exec :
    exec (.ispCaptureRequest p n) s = .next (s.memCtrlWrite (BitVec.ofNat 32 (2 ^ 30 + n.toNat))).settle := by
  rw [← ispWrite_memCtrl]
  exact done_unowned h _

theorem reprocRequest_exec :
    exec (.ispReprocRequest p n) s = .next (s.memCtrlWrite (BitVec.ofNat 32 (2 ^ 31 + n.toNat))).settle := by
  rw [← ispWrite_memCtrl]
  exact done_unowned h _

theorem captureRequest_enabled (on : s.flag IMG_CTRL_ENABLE = true) : Gives (.ispCaptureRequest p n) s fun t => IspRefused s t 0x23 := by
  obtain ⟨-, cap, -⟩ := captureWord_bits n
  refine ⟨_, captureRequest_exec h n, ?_⟩
  rw [memCtrlWrite_enabled (.inr cap) on]
  exact ispRefuse_settles s (by decide)

theorem reprocRequest_refused (why : s.flag IMG_CTRL_ENABLE = true ∨ n = 0) :
    Gives (.ispReprocRequest p n) s fun t => IspRefused s t 0x23 := by
  obtain ⟨rep, -, lines⟩ := reprocWord_bits n
  have refused : s.memCtrlWrite (BitVec.ofNat 32 (2 ^ 31 + n.toNat)) = s.ispRefuse 0x23 := by
    rcases why with on | rfl
    · exact memCtrlWrite_enabled (.inl rep) on
    · exact memCtrlWrite_noLines rep lines
  refine ⟨_, reprocRequest_exec h n, ?_⟩
  rw [refused]
  exact ispRefuse_settles s (by decide)

section
variable (idle : s.flag IMG_CTRL_ENABLE = false)
include idle

theorem captureRequest_unfit (bad : s.regionBad (4 * s.linesInForce * s.recordBytes) = true) :
    Gives (.ispCaptureRequest p n) s fun t => IspRefused s t 0x24 := by
  obtain ⟨rep, cap, -⟩ := captureWord_bits n
  refine ⟨_, captureRequest_exec h n, ?_⟩
  rw [captureWrite_unfit idle rep cap bad]
  exact ispRefuse_settles s (by decide)

theorem captureRequest_awaits (fits : s.regionBad (4 * s.linesInForce * s.recordBytes) = false) (free : s.isp.capture = none) :
    Gives (.ispCaptureRequest p n) s fun t => t.isp = { s.isp with capture := some (none, 0, s.memBase) }
      ∧ t.flag ISP_MEM_CTRL_CAPTURE = true ∧ t.flag ISP_STATUS_CAPTURE_ACTIVE = true ∧ t.fld ISP_MEM_CTRL_LINES = n.toNat
      ∧ Kept s t [ISP_MEM_CTRL, ISP_STATUS] := by
  obtain ⟨rep, cap, lines⟩ := captureWord_bits n
  refine ⟨_, captureRequest_exec h n, ?_⟩
  rw [captureWrite_awaits idle rep cap fits free, lines, State.awaitCapture, memBase_setLines]
  exact request_settles s _ n rfl rfl (by decide) (by decide) rfl rfl (by decide)

variable {n} (nonzero : n ≠ 0)
include nonzero

theorem reprocRequest_unfit (bad : s.regionBad (n.toNat * s.recordBytes) = true) :
    Gives (.ispReprocRequest p n) s fun t => IspRefused s t 0x24 := by
  obtain ⟨rep, -, lines⟩ := reprocWord_bits n
  refine ⟨_, reprocRequest_exec h n, ?_⟩
  rw [reprocWrite_unfit idle rep (by rw [lines]; exact lines_ne_zero nonzero) (by rw [lines]; exact bad)]
  exact ispRefuse_settles s (by decide)

theorem reprocRequest_begins (src : s.flag ISP_CTRL_SRC = true) (fits : s.regionBad (n.toNat * s.recordBytes) = false)
    (free : s.isp.reproc = none) :
    Gives (.ispReprocRequest p n) s fun t => t.isp = { s.isp with reproc := some (n.toNat, s.memBase, 0) }
      ∧ t.flag ISP_MEM_CTRL_REPROC = true ∧ t.flag ISP_STATUS_REPROC_BUSY = true ∧ t.fld ISP_MEM_CTRL_LINES = n.toNat
      ∧ Kept s t [ISP_MEM_CTRL, ISP_STATUS] := by
  obtain ⟨rep, cap, lines⟩ := reprocWord_bits n
  refine ⟨_, reprocRequest_exec h n, ?_⟩
  rw [reprocWrite_begins idle rep cap src (by rw [lines]; exact lines_ne_zero nonzero) (by rw [lines]; exact fits) free, lines,
    State.beginReproc, memBase_setLines]
  exact request_settles s _ n rfl rfl (by decide) (by decide) rfl rfl (by decide)

end

end

theorem ispControl_stores {p : Port} {s : State} (h : Reaches s p ISP_CTRL) (idle : s.flag IMG_CTRL_ENABLE = false) (v : BitVec 2) :
    Gives (.ispControlWrite p v) s fun t => t.rd ISP_CTRL = s.stored ISP_CTRL (v.setWidth 32) ∧ Kept s t [ISP_CTRL] := by
  refine ⟨_, ispControl_exec h v, ?_⟩
  beta_reduce
  rw [ispWrite_ctrl_idle idle, settle_rd _ (by decide), rd_wr_same]
  exact ⟨rfl, ((Kept.refl s _).wr _ (List.mem_singleton_self _)).settle⟩

theorem ispControl_enabled {p : Port} {s : State} (h : Reaches s p ISP_CTRL) (on : s.flag IMG_CTRL_ENABLE = true) (v : BitVec 2) :
    Gives (.ispControlWrite p v) s fun t => IspRefused s t 0x23 := by
  refine ⟨_, ispControl_exec h v, ?_⟩
  rw [ispWrite_ctrl_enabled on]
  exact ispRefuse_settles s (by decide)

/-- Settles O31: the commit by its check, and each write of the pipeline's control by ENABLE, its lines and its region. -/
theorem imagingSettings : Obligations.ImagingSettings := by
  unfold Obligations.ImagingSettings
  refine ⟨⟨?staged, ?refused, ?rowBin, ?enable⟩, ?control, ?controlOn, ?capture, ?reproc, ?captureOn, ?reprocOn, ?captureBad, ?reprocBad⟩
  case staged => exact fun p s h passes => imagingCommit_stages h passes
  case refused => exact fun p c d s h fails => imagingCommit_refuses h fails
  case rowBin =>
    intro p s h even counted pairs inside bin
    obtain ⟨t, ht, err, -⟩ := imagingCommit_refuses h (imgCheck_rowBin even counted pairs inside bin)
    exact ⟨t, ht, (congrArg BitVec.toNat err).trans (by decide)⟩
  case enable => exact fun p on s h => imagingEnable_stores h on
  case control => exact fun p v s h idle => ispControl_stores h idle v
  case controlOn => exact fun p v s h on => ispControl_enabled h on v
  case capture => exact fun p n s h idle fits free => captureRequest_awaits h n idle fits free
  case reproc => exact fun p n s h idle src nonzero fits free => reprocRequest_begins h idle nonzero src fits free
  case captureOn => exact fun p n s h on => captureRequest_enabled h n on
  case reprocOn => exact fun p n s h why => reprocRequest_refused h n why
  case captureBad => exact fun p n s h idle bad => captureRequest_unfit h n idle (Bool.not_eq_false _ |>.mp bad)
  case reprocBad => exact fun p n s h idle nonzero bad => reprocRequest_unfit h idle nonzero (Bool.not_eq_false _ |>.mp bad)

end Sys2Proof.Machine
end

section
/-! PROOFS. The input queue of the pipeline (R235). -/

namespace Sys2Proof.Machine

open Sys2Proof.Laws

/-- The oldest line that arrived is taken, and `rest` stays behind it. -/
def State.arrivalTaken (s : State) (rest : List ColourLine) : State := { s with img := { s.img with arrived := rest } }

/-- A line goes to the end of the queue, whose level is shown. -/
def State.queueLine (s : State) (l : ColourLine) : State :=
  ({ s with isp := { s.isp with queue := s.isp.queue ++ [l] } } : State).showQueue

/-- A line or a record that goes no further is counted. -/
def State.countDrop (s : State) : State := s.wrN ISP_DROP (s.rdN ISP_DROP + 1)

/-- The frame's first drop is raised. -/
def State.noteDrop (s : State) : State :=
  if s.isp.dropRaised then s else ({ s with isp := { s.isp with dropRaised := true } } : State).raise EV_ISP_LINE_DROP

theorem countDrop_counts (s : State) : s.countDrop.rd ISP_DROP = s.rd ISP_DROP + 1 := rd_wrN_succ s ISP_DROP

theorem Kept.countDrop (s : State) : Kept s s.countDrop [ISP_DROP] := (Kept.refl s _).wrN _ (List.mem_singleton_self _)

/-- ISP_STATUS.QUEUE shows any level up to 63. -/
theorem showQueue_fld (s : State) (few : s.isp.queue.length < 64) : s.showQueue.fld ISP_STATUS_QUEUE = s.isp.queue.length :=
  (fld_setFld_same s ISP_STATUS_QUEUE _ (by decide) (by decide)).trans (Nat.mod_eq_of_lt few)

/-- Noting a drop leaves the column, the queue and every register. -/
theorem noteDrop_frame (s : State) (keys : List Nat) : s.noteDrop.img = s.img ∧ s.noteDrop.isp.queue = s.isp.queue
    ∧ s.noteDrop.rd ISP_DROP = s.rd ISP_DROP ∧ Kept s s.noteDrop keys := by
  unfold State.noteDrop
  split
  · exact ⟨rfl, rfl, rfl, .refl s keys⟩
  · exact ⟨rfl, rfl, rfl, .same⟩

theorem noteDrop_raises {s : State} (first : s.isp.dropRaised = false) : ⟨EV_ISP_LINE_DROP, none⟩ ∈ s.noteDrop.raised := by
  rw [State.noteDrop, if_neg (by simp [first])]
  exact mem_raised _ _

section
variable {l : ColourLine} {rest : List ColourLine} {s : State} (oldest : s.img.arrived = l :: rest)
include oldest

theorem enqueue_eq : s.enqueue = if !s.flag ISP_CTRL_ENABLE then s.arrivalTaken rest
    else if 32 ≤ s.isp.queue.length then (s.arrivalTaken rest).countDrop.noteDrop else (s.arrivalTaken rest).queueLine l := by
  unfold State.enqueue
  rw [oldest]
  rfl

theorem enqueue_disabled (off : s.flag ISP_CTRL_ENABLE = false) : s.enqueue = s.arrivalTaken rest := by
  rw [enqueue_eq oldest, off, if_pos (by decide)]

theorem enqueue_room (on : s.flag ISP_CTRL_ENABLE = true) (room : s.isp.queue.length < 32) :
    s.enqueue = (s.arrivalTaken rest).queueLine l := by
  rw [enqueue_eq oldest, on, if_neg (by decide), if_neg (Nat.not_le.mpr room)]

theorem enqueue_full (on : s.flag ISP_CTRL_ENABLE = true) (full : 32 ≤ s.isp.queue.length) :
    s.enqueue = (s.arrivalTaken rest).countDrop.noteDrop := by
  rw [enqueue_eq oldest, on, if_neg (by decide), if_pos full]

variable (core : s.pwr.coreInReset = false)
include core

theorem ispLineEnqueue_takes (on : s.flag ISP_CTRL_ENABLE = true) (room : s.isp.queue.length < 32) :
    Gives .ispLineEnqueue s fun t => t.img.arrived = rest ∧ t.isp.queue = s.isp.queue ++ [l]
      ∧ t.fld ISP_STATUS_QUEUE = s.isp.queue.length + 1 ∧ Kept s t [ISP_STATUS] := by
  refine ⟨_, done_inCore core _, ?_⟩
  beta_reduce
  rw [enqueue_room oldest on room, settle_img, settle_isp, settle_fld _ (by decide)]
  have level : (s.isp.queue ++ [l]).length = s.isp.queue.length + 1 := by simp
  refine ⟨rfl, rfl, ?_, ?_⟩
  · exact (showQueue_fld _ (level.trans_lt (by omega))).trans level
  · exact ((((Kept.refl s _).img _).isp _).setFld (f := ISP_STATUS_QUEUE) _ (List.mem_singleton_self _)).settle

theorem ispLineEnqueue_drops (on : s.flag ISP_CTRL_ENABLE = true) (full : 32 ≤ s.isp.queue.length) :
    Gives .ispLineEnqueue s fun t => t.img.arrived = rest ∧ t.isp.queue = s.isp.queue ∧ t.rd ISP_DROP = s.rd ISP_DROP + 1
      ∧ (s.isp.dropRaised = false → Logged t EV_ISP_LINE_DROP) ∧ Kept s t [ISP_DROP] := by
  refine ⟨_, done_inCore core _, ?_⟩
  beta_reduce
  obtain ⟨img, queue, count, kept⟩ := noteDrop_frame (s.arrivalTaken rest).countDrop [ISP_DROP]
  rw [enqueue_full oldest on full, settle_img, settle_isp, settle_rd _ (by decide), img, queue, count]
  refine ⟨rfl, rfl, countDrop_counts _, fun first => ?_, ?_⟩
  · exact logged_settle (r := ⟨EV_ISP_LINE_DROP, none⟩) (noteDrop_raises first) (by decide)
  · exact ((((Kept.refl s _).img _).trans (.countDrop _)).trans kept).settle

theorem ispLineEnqueue_disabled (off : s.flag ISP_CTRL_ENABLE = false) :
    Gives .ispLineEnqueue s fun t => t.img.arrived = rest ∧ t.isp.queue = s.isp.queue ∧ Kept s t [] := by
  refine ⟨_, done_inCore core _, ?_⟩
  beta_reduce
  rw [enqueue_disabled oldest off, settle_img, settle_isp]
  exact ⟨rfl, rfl, ((Kept.refl s _).img _).settle⟩

end

end Sys2Proof.Machine
end

section
/-! PROOFS. A line passes the stages and counts in its frame's statistics (R224, R226 to R230, R236, R239, R243). -/

namespace Sys2Proof.Machine

open Sys2Proof.Laws

/-! ### What the stages and the packets leave -/

/-- The queue with its level shown, and the records still to be reprocessed. -/
def lineFrame (s : State) : List ColourLine × Word × Option (Nat × Nat × Nat) := (s.isp.queue, s.rd ISP_STATUS, s.isp.reproc)

/-- The same, with the statistics being gathered. -/
def sumsFrame (s : State) : List StatSet × List ColourLine × Word × Option (Nat × Nat × Nat) := (s.isp.sums, lineFrame s)

theorem lineFrame_of_sumsFrame {s t : State} (h : sumsFrame t = sumsFrame s) : lineFrame t = lineFrame s := congrArg Prod.snd h

theorem sums_of_sumsFrame {s t : State} (h : sumsFrame t = sumsFrame s) : t.isp.sums = s.isp.sums := congrArg Prod.fst h

theorem reproc_of_lineFrame {s t : State} (h : lineFrame t = lineFrame s) : t.isp.reproc = s.isp.reproc :=
  congrArg (fun x => x.2.2) h

/-- An update of neither the registers nor what the frame names. -/
theorem sumsFrame_same {s t : State} (sums : t.isp.sums = s.isp.sums := by rfl) (queue : t.isp.queue = s.isp.queue := by rfl)
    (regs : t.regs = s.regs := by rfl) (reproc : t.isp.reproc = s.isp.reproc := by rfl) : sumsFrame t = sumsFrame s := by
  simp only [sumsFrame, lineFrame, State.rd, sums, queue, regs, reproc]

theorem sumsFrame_wrN (s : State) {k : Nat} (v : Nat) (h : ISP_STATUS ≠ k) : sumsFrame (s.wrN k v) = sumsFrame s := by
  rw [sumsFrame, lineFrame, rd_wrN, if_neg h]
  rfl

theorem sumsFrame_quiet {s t : State} (h : Quiet s t) : sumsFrame t = sumsFrame s := by
  have isp : (keptState t).isp = (keptState s).isp := by rw [h.kept]
  change t.isp = s.isp at isp
  rw [sumsFrame, lineFrame, isp, h.rd ISP_STATUS (by decide)]
  rfl

theorem sumsFrame_drawn {s t : State} (h : Drawn s t) : sumsFrame t = sumsFrame s := by
  obtain ⟨n, rfl⟩ := h
  rfl

theorem sumsFrame_sendPacket (s : State) (kind type flags frame line : Nat) (body : List Byte) :
    sumsFrame (s.sendPacket kind type flags frame line body) = sumsFrame s := sumsFrame_quiet (quiet_sendPacket s _ _ _ _ _ _)

theorem drawn_scaleB (ratio : Nat) (l : List Nat) (s : State) : Drawn s (State.scaleB ratio l s).2 := by
  induction l generalizing s with
  | nil => exact .refl s
  | cons v t ih =>
    unfold State.scaleB
    dsimp only
    split
    · exact (drawn_fresh s).trans (ih _)
    · exact ih s

/-- The function's body replaces its name before it meets its arguments: comparing the two when applied, the kernel would evaluate the
line's address, and unfold a product with 0x100000. -/
theorem sumsFrame_storeFrameLine (s : State) (l : ColourLine) (flawed : Bool) (codes : List Nat) :
    sumsFrame (s.storeFrameLine l flawed codes) = sumsFrame s := by
  generalize body : @State.storeFrameLine = f
  delta State.storeFrameLine at body
  subst body
  beta_reduce
  split
  · rfl
  · exact sumsFrame_same

/-- A line that temporal noise reduction skips is counted (R228). -/
theorem sumsFrame_countSkip (s : State) (skipped : Bool) :
    sumsFrame (if skipped then s.wrN ISP_TNR_SKIP (s.rdN ISP_TNR_SKIP + 1) else s) = sumsFrame s := by
  split
  · exact sumsFrame_wrN s _ (by decide)
  · rfl

/-- Of the stages, temporal noise reduction stores the line and counts what it skips, and HDR draws free values (R228, R230). -/
theorem sumsFrame_stages (s : State) (cfg : List (Nat × Word)) (l : ColourLine) : sumsFrame (s.stages cfg l).2 = sumsFrame s := by
  unfold State.stages
  extract_lets
  split
  extract_lets
  split
  next t noise =>
    have stored : sumsFrame t = sumsFrame s := by
      have after : _ = t := congrArg (fun x => x.2.2) noise
      rw [← after]
      split
      · rfl
      · exact (sumsFrame_storeFrameLine _ _ _ _).trans (sumsFrame_countSkip s _)
    rw [← stored]
    extract_lets
    split
    -- without HDR
    · rfl
    · split
      -- set B is scaled
      · exact sumsFrame_drawn (drawn_scaleB _ _ _)
      -- set A takes pixels from its partner, where it has one
      · split <;> rfl

theorem sumsFrame_imagePackets (s : State) (cfg : List (Nat × Word)) (l : ColourLine) (st : Staged) (out : Array (List Nat)) :
    sumsFrame (s.imagePackets cfg l st out) = sumsFrame s := by
  unfold State.imagePackets
  extract_lets
  split
  · rfl
  · exact foldl_keeps sumsFrame _ s fun t i => sumsFrame_sendPacket t _ _ _ _ _ _

theorem sumsFrame_statPackets (s : State) (t : StatSet) : sumsFrame (s.statPackets t) = sumsFrame s :=
  (sumsFrame_sendPacket _ _ _ _ _ _ _).trans (sumsFrame_sendPacket s _ _ _ _ _ _)

theorem sumsFrame_publish (s : State) (t : StatSet) : sumsFrame (s.publish t) = sumsFrame s := by
  unfold State.publish
  extract_lets named keep x1 s1 s2
  have listed : sumsFrame s1 = sumsFrame s := sumsFrame_same
  have shown : sumsFrame s2 = sumsFrame s1 := sumsFrame_wrN s1 _ (by decide)
  exact (sumsFrame_quiet (quiet_raise _ _)).trans ((sumsFrame_statPackets s2 named).trans (shown.trans listed))

/-! ### A line is counted (R236) -/

/-- The sums of a line's frame are of that frame, and gathered with it. -/
theorem sumsOf_key (s : State) (l : ColourLine) : (s.sumsOf l).frame = l.frame ∧ (s.sumsOf l).reproc = l.reproc := by
  unfold State.sumsOf
  split
  next t found => simpa using List.find?_some found
  next => exact ⟨rfl, rfl⟩

/-- The lines counted for a frame so far follow from the sums gathered alone. -/
theorem sumsOf_lines_congr {s t : State} (h : t.isp.sums = s.isp.sums) (l : ColourLine) : (t.sumsOf l).lines = (s.sumsOf l).lines := by
  unfold State.sumsOf
  rw [h]
  split <;> rfl

/-- Line `l` is counted in its frame's sums. -/
def LineCounted (s t : State) (l : ColourLine) : Prop :=
  ∃ x ∈ t.isp.sums, x.frame = l.frame ∧ x.reproc = l.reproc ∧ x.lines = (s.sumsOf l).lines + 1

/-- The state with a set B line kept for its partner. -/
def State.keepPartner (s : State) (l : ColourLine) (st : Staged) : State :=
  if l.setB then
    { s with isp := { s.isp with partners := s.isp.partners ++ [StageLine.mk l.frame l.line l.reproc st.codes.toList st.values.toList] } }
  else s

/-- The line's samples are added to its frame's sums. -/
def State.sumLine (s : State) (cfg : List (Nat × Word)) (l : ColourLine) (st : Staged) (old : Bool) : State :=
  s.setSums { (s.sumsOf l).add cfg l st with oldLines := (s.sumsOf l).oldLines + b2n old }

/-- A line that is neither reprocessed nor cut gets its row of the colour table (R239). -/
def State.addRow (s : State) (l : ColourLine) (row : ColourRow) : State :=
  if l.reproc || l.cut then s else { s with isp := { s.isp with table := s.isp.table ++ [row] } }

theorem sumsFrame_keepPartner (s : State) (l : ColourLine) (st : Staged) : sumsFrame (s.keepPartner l st) = sumsFrame s := by
  unfold State.keepPartner
  split <;> rfl

theorem sumsFrame_addRow (s : State) (l : ColourLine) (row : ColourRow) : sumsFrame (s.addRow l row) = sumsFrame s := by
  unfold State.addRow
  split <;> rfl

theorem lineFrame_sumLine (s : State) (cfg : List (Nat × Word)) (l : ColourLine) (st : Staged) (old : Bool) :
    lineFrame (s.sumLine cfg l st old) = lineFrame s := rfl

theorem lineCounted_sumLine (s : State) (cfg : List (Nat × Word)) (l : ColourLine) (st : Staged) (old : Bool) :
    LineCounted s (s.sumLine cfg l st old) l := by
  obtain ⟨frame, reproc⟩ := sumsOf_key s l
  exact ⟨_, List.mem_append_right _ (List.mem_singleton_self _), frame, reproc, rfl⟩

/-- The sums alone say whether a line is counted. -/
theorem LineCounted.congr {s s' t t' : State} {l : ColourLine} (h : LineCounted s t l) (before : s.isp.sums = s'.isp.sums)
    (after : t'.isp.sums = t.isp.sums) : LineCounted s' t' l := by
  unfold LineCounted
  rw [after, ← sumsOf_lines_congr before]
  exact h

/-- The passing of a line: after the stages come its sums, its row of the colour table, and its packets. -/
theorem processLine_eq (s : State) (cfg : List (Nat × Word)) (l : ColourLine) :
    ∃ (u : State) (st : Staged) (old : Bool) (row : ColourRow) (out : Array (List Nat)), sumsFrame u = sumsFrame s
      ∧ s.processLine cfg l = (((u.keepPartner l st).sumLine cfg l st old).addRow l row).imagePackets cfg l st out :=
  ⟨(s.stages cfg l).2, _, _, _, _, sumsFrame_stages s cfg l, rfl⟩

theorem processLine_passes (s : State) (cfg : List (Nat × Word)) (l : ColourLine) :
    lineFrame (s.processLine cfg l) = lineFrame s ∧ LineCounted s (s.processLine cfg l) l := by
  obtain ⟨u, st, old, row, out, staged, passed⟩ := processLine_eq s cfg l
  have kept : sumsFrame (u.keepPartner l st) = sumsFrame s := (sumsFrame_keepPartner u l st).trans staged
  have packed := (sumsFrame_imagePackets _ cfg l st out).trans (sumsFrame_addRow ((u.keepPartner l st).sumLine cfg l st old) l row)
  rw [passed]
  refine ⟨(lineFrame_of_sumsFrame packed).trans ?_, ?_⟩
  · exact (lineFrame_sumLine _ cfg l st old).trans (lineFrame_of_sumsFrame kept)
  · exact (lineCounted_sumLine _ cfg l st old).congr (sums_of_sumsFrame kept) (sums_of_sumsFrame packed)

end Sys2Proof.Machine
end

section
/-! PROOFS. ISP_LINE_PROCESS (R224, R235, R236). -/

namespace Sys2Proof.Machine

open Sys2Proof.Laws

/-- A line leaves the queue, whose level is shown. -/
def State.unqueue (s : State) (l : ColourLine) : State :=
  ({ s with isp := { s.isp with queue := s.isp.queue.erase l } } : State).showQueue

theorem ispProcess_waits {s : State} (waiting : s.isp.queue.find? (fun l => !s.partnerComing l) = none) : s.ispProcess = s := by
  unfold State.ispProcess
  rw [waiting]

theorem ispProcess_line {s : State} {l : ColourLine} (oldest : s.isp.queue.find? (fun l => !s.partnerComing l) = some l) :
    ∃ cfg, s.ispProcess = ((s.unqueue l).processLine cfg l).pruneGens := by
  unfold State.ispProcess
  rw [oldest]
  exact ⟨_, rfl⟩

theorem ispLineProcess_counts {s : State} {l : ColourLine} (core : s.pwr.coreInReset = false)
    (oldest : s.isp.queue.find? (fun l => !s.partnerComing l) = some l) (few : s.isp.queue.length ≤ 32) :
    Gives .ispLineProcess s fun t => t.isp.queue = s.isp.queue.erase l ∧ t.fld ISP_STATUS_QUEUE = (s.isp.queue.erase l).length
      ∧ LineCounted s t l := by
  refine ⟨_, done_inCore core _, ?_⟩
  beta_reduce
  obtain ⟨cfg, processed⟩ := ispProcess_line oldest
  obtain ⟨frame, counted⟩ := processLine_passes (s.unqueue l) cfg l
  have less : (s.isp.queue.erase l).length ≤ s.isp.queue.length := List.length_erase_le
  rw [processed, settle_isp, settle_fld _ (by decide)]
  refine ⟨congrArg Prod.fst frame, ?_, ?_⟩
  · have shown : ((s.unqueue l).processLine cfg l).rd ISP_STATUS = (s.unqueue l).rd ISP_STATUS := congrArg (fun x => x.2.1) frame
    exact (fld_congr (f := ISP_STATUS_QUEUE) shown).trans (showQueue_fld _ (less.trans_lt (by omega)))
  · exact counted.congr rfl (by rw [settle_isp]; rfl)

theorem ispLineProcess_waits {s : State} (waiting : s.isp.queue.find? (fun l => !s.partnerComing l) = none) :
    Gives .ispLineProcess s fun t => t.isp = s.isp ∧ Kept s t [] :=
  ⟨_, congrArg done (inCore_id (ispProcess_waits waiting)), settle_isp s, (Kept.refl s []).settle⟩

end Sys2Proof.Machine
end

section
/-! PROOFS. Reprocessing (R246), the bounds of the black level and of the colour matrix (R229, R232), and O32. -/

namespace Sys2Proof.Machine

open Sys2Proof.Laws

/-! ### Records (R245, R246) -/

/-- A record that is not malformed waits for its partner, or goes through the stages with those that waited for it (R230). -/
def State.passRecord (s : State) (a : Nat) (cfg : List (Nat × Word)) (l : ColourLine) : State :=
  if fldIn cfg IMG_TDI_CFG_MULTI = 1 && fldIn cfg ISP_CFG_HDR_EN = 1 && !l.setB && (s.partner l).isNone then
    { s with isp := { s.isp with held := s.isp.held ++ [a] } }
  else (s.processLine cfg l).runHeld false

/-- Reprocessing goes on at address `a`. -/
def State.nextRecord (s : State) (left a n : Nat) : State := { s with isp := { s.isp with reproc := some (left, a, n) } }

/-- No record is left, and no line waits for a reprocessed partner. -/
def State.reprocOver (s : State) : State :=
  { s with isp := { s.isp with reproc := none, partners := s.isp.partners.filter (fun x => !x.reproc) } }

/-- The statistics of reprocessed lines are no longer gathered. -/
def State.reprocUnsummed (s : State) : State :=
  { s with isp := { s.isp with sums := s.isp.sums.filter (fun (x : StatSet) => !x.reproc) } }

/-- The statistics of the reprocessed lines are published, if there are any. -/
def State.publishLast (s : State) (all : List StatSet) : State :=
  match all.getLast? with
  | some t => s.publish t
  | none => s

/-- The end of reprocessing shows. -/
def State.reprocDone (s : State) : State :=
  ((s.setFlag ISP_MEM_CTRL_REPROC false).setFlag ISP_STATUS_REPROC_BUSY false).raise EV_ISP_REPROC_DONE

theorem reprocDone_flag (s : State) (f : Fld) :
    s.reprocDone.flag f = ((s.setFlag ISP_MEM_CTRL_REPROC false).setFlag ISP_STATUS_REPROC_BUSY false).flag f := flag_congr (rd_raise _ _ _)

theorem reprocDone_isp (s : State) : s.reprocDone.isp = s.isp := by
  rw [State.reprocDone, State.raise_isp, State.setFlag_isp, State.setFlag_isp]

theorem reprocDone_shows (s : State) : s.reprocDone.flag ISP_MEM_CTRL_REPROC = false ∧ s.reprocDone.flag ISP_STATUS_REPROC_BUSY = false
    ∧ Logged s.reprocDone.settle EV_ISP_REPROC_DONE := by
  rw [reprocDone_flag, reprocDone_flag, flag_setFlag_same _ ISP_STATUS_REPROC_BUSY _ rfl (by decide),
    flag_setFlag_other _ ISP_STATUS_REPROC_BUSY _ _ (by decide) (by decide) (.inl (by decide))]
  exact ⟨flag_setFlag_same s _ _ rfl (by decide), rfl, logged_raise _ (by decide)⟩

theorem sumsFrame_publishLast (s : State) (all : List StatSet) : sumsFrame (s.publishLast all) = sumsFrame s := by
  unfold State.publishLast
  split
  · exact sumsFrame_publish s _
  · rfl

section
variable {left a n : Nat} {s : State} (reproc : s.isp.reproc = some (left, a, n))
include reproc

theorem reprocess_record {len : Nat} {l : ColourLine} {cfg : List (Nat × Word)} (more : 1 < left)
    (record : s.readRecord a = some (l, len, cfg)) : s.reprocess = (s.passRecord a cfg l).nextRecord (left - 1) (a + len) (n + 1) := by
  unfold State.reprocess
  rw [reproc]
  dsimp only
  rw [record]
  exact if_pos more

theorem reprocess_malformed (more : 1 < left) (record : s.readRecord a = none) :
    s.reprocess = s.countDrop.nextRecord (left - 1) (a + s.recordBytes) n := by
  unfold State.reprocess
  rw [reproc]
  dsimp only
  rw [record]
  exact if_pos more

theorem reprocess_last (last : left ≤ 1) : ∃ (t : State) (all : List StatSet),
    s.reprocess = (t.reprocOver.reprocUnsummed.publishLast all).reprocDone := by
  unfold State.reprocess
  split
  next idle => exact absurd (idle.symm.trans reproc) (by simp)
  next found =>
    cases reproc.symm.trans found
    split
    next t step got _ =>
      rw [if_neg (Nat.not_lt.mpr last)]
      exact ⟨t.runHeld true, _, rfl⟩

variable (core : s.pwr.coreInReset = false)
include core

theorem reprocessRecord_counts {len : Nat} {l : ColourLine} {cfg : List (Nat × Word)} (more : 1 < left)
    (record : s.readRecord a = some (l, len, cfg)) :
    Gives .reprocessRecord s fun t => t.isp.reproc = some (left - 1, a + len, n + 1) := by
  refine ⟨_, done_inCore core _, ?_⟩
  beta_reduce
  rw [settle_isp, reprocess_record reproc more record]
  rfl

theorem reprocessRecord_malformed (more : 1 < left) (record : s.readRecord a = none) :
    Gives .reprocessRecord s fun t => t.isp.reproc = some (left - 1, a + s.recordBytes, n) ∧ t.rd ISP_DROP = s.rd ISP_DROP + 1
      ∧ Kept s t [ISP_DROP] := by
  refine ⟨_, done_inCore core _, ?_⟩
  beta_reduce
  rw [settle_isp, settle_rd _ (by decide), reprocess_malformed reproc more record]
  exact ⟨rfl, countDrop_counts s, ((Kept.countDrop s).isp _).settle⟩

theorem reprocessRecord_ends (last : left ≤ 1) :
    Gives .reprocessRecord s fun t => t.isp.reproc = none ∧ t.flag ISP_MEM_CTRL_REPROC = false ∧ t.flag ISP_STATUS_REPROC_BUSY = false
      ∧ (∀ x ∈ t.isp.sums, x.reproc = false) ∧ Logged t EV_ISP_REPROC_DONE := by
  refine ⟨_, done_inCore core _, ?_⟩
  beta_reduce
  obtain ⟨t, all, ended⟩ := reprocess_last reproc last
  obtain ⟨quit, idle, raised⟩ := reprocDone_shows (t.reprocOver.reprocUnsummed.publishLast all)
  have published := sumsFrame_publishLast t.reprocOver.reprocUnsummed all
  rw [ended, settle_isp, settle_flag _ (by decide), settle_flag _ (by decide), reprocDone_isp, sums_of_sumsFrame published,
    reproc_of_lineFrame (lineFrame_of_sumsFrame published)]
  refine ⟨rfl, quit, idle, fun x gathered => ?_, raised⟩
  simpa using (List.mem_filter.mp gathered).2

end

/-! ### Values of 20 bits (R229, R232) -/

theorem clampI_toNat_lt (x : Int) : (clampI x 0 1048575).toNat < 2 ^ 20 := by
  obtain ⟨-, most⟩ := clampI_bounds x (lo := 0) (hi := 1048575) (by decide)
  omega

theorem blackLevel_lt (cfg : List (Nat × Word)) (q code : Nat) : blackLevel cfg q code < 2 ^ 20 := clampI_toNat_lt _

theorem colourMatrix_lt (m : List (List Int)) (px : List Nat) : ∀ v ∈ colourMatrix m px, v < 2 ^ 20 := by
  intro v band
  obtain ⟨row, -, rfl⟩ := List.mem_map.mp band
  exact clampI_toNat_lt _

/-- Settles O32: the queue by its level, a line by what its passing leaves and counts, and a record by its header and its place. -/
theorem pipelineLinesAndRecords : Obligations.PipelineLinesAndRecords := by
  unfold Obligations.PipelineLinesAndRecords
  refine ⟨?takes, ?drops, ?disabled, ?counts, ?waits, ?record, ?malformed, ?ends, blackLevel_lt, colourMatrix_lt⟩
  case takes => exact fun l rest s core oldest on room => ispLineEnqueue_takes oldest core on room
  case drops => exact fun l rest s core oldest on full => ispLineEnqueue_drops oldest core on full
  case disabled => exact fun l rest s core oldest off => ispLineEnqueue_disabled oldest core off
  case counts => exact fun l s core oldest few => ispLineProcess_counts core oldest few
  case waits => exact fun s waiting => ispLineProcess_waits waiting
  case record => exact fun left a n len l cfg s core reproc more record => reprocessRecord_counts reproc core more record
  case malformed => exact fun left a n s core reproc more record => reprocessRecord_malformed reproc core more record
  case ends => exact fun left a n s core reproc last => reprocessRecord_ends reproc core last

end Sys2Proof.Machine
end

section
/-! SUPPORT. The front end and the converters: values in force after a latch, and what a channel and a chain read after an update. -/

namespace Sys2Proof.Machine

open Sys2Proof.Laws

/-! ### Values in force -/

/-- The first of two tables answers, and the second for what the first does not list. -/
theorem tabGet_append {α : Type} (d : α) (l m : List (Nat × α)) (k : Nat) : tabGet d (l ++ m) k = tabGet (tabGet d m k) l k := by
  induction l with
  | nil => rfl
  | cons e t ih => simp only [List.cons_append, tabGet, ih]

/-- A span of keys reads as in the table it was copied from. -/
theorem tabGet_tabCopy {α : Type} (d : α) {lo hi : Nat} (src dst : List (Nat × α)) (k : Nat) (span : lo ≤ hi) :
    tabGet d (tabCopy lo hi src dst) k = if lo ≤ k ∧ k < hi then tabGet d src k else tabGet d dst k := by
  let below : Nat → Bool := fun k => k < lo
  let inside : Nat → Bool := fun k => lo ≤ k && k < hi
  let above : Nat → Bool := fun k => hi ≤ k
  show tabGet d (dst.filter (fun e => below e.1) ++ src.filter (fun e => inside e.1) ++ dst.filter fun e => above e.1) k = _
  rw [tabGet_append, tabGet_append]
  split
  · rw [tabGet_filter_out _ _ below (by simp [below]; omega), tabGet_filter _ _ inside (by simp [inside]; omega),
      tabGet_filter_out _ _ above (by simp [above]; omega)]
  · rw [tabGet_filter_out _ src inside (by simp [inside]; omega)]
    by_cases low : k < lo
    · rw [tabGet_filter_out _ dst above (by simp [above]; omega), tabGet_filter _ dst below (by simp [below, low])]
    · rw [tabGet_filter_out _ dst below (by simp [below]; omega), tabGet_filter _ dst above (by simp [above]; omega)]

theorem rdF_latch (s : State) {lo hi : Nat} (src : List (Nat × Word)) (k : Nat) (span : lo ≤ hi) :
    (s.latch lo hi src).rdF k = if lo ≤ k ∧ k < hi then tabGet (resetOf k) src k else s.rdF k :=
  tabGet_tabCopy (resetOf k) src s.inForce k span

/-- The register as it stands is in force after its latch. -/
theorem rdF_latch_regs (s : State) {lo hi k : Nat} (low : lo ≤ k) (high : k < hi) : (s.latch lo hi s.regs).rdF k = s.rd k := by
  rw [rdF_latch s s.regs k (by omega), if_pos ⟨low, high⟩]
  rfl

/-! ### Channels and chains -/

@[simp] theorem afeChan_setAfe_same (s : State) (m : Nat) (c : AfeChan) : (s.setAfe m c).afeChan m = c := tabGet_tabSet_same _ _ m c

@[simp] theorem chain_setChain_same (s : State) (j : Nat) (c : FltChain) : (s.setChain j c).chain j = c := tabGet_tabSet_same _ _ j c

theorem rd_setAfe (s : State) (m : Nat) (c : AfeChan) (k : Nat) : (s.setAfe m c).rd k = s.rd k := by rw [State.rd, State.setAfe_regs, State.rd]

theorem afeChan_congr {s t : State} (h : t.afe.chans = s.afe.chans) (m : Nat) : t.afeChan m = s.afeChan m :=
  congrArg (fun l => tabGet AfeChan.init l m) h

@[simp] theorem afeChan_advance (s : State) (t m : Nat) : (s.advance t).afeChan m = s.afeChan m :=
  afeChan_congr (by rw [State.advance_afe]) m

@[simp] theorem afeChan_settle (s : State) (m : Nat) : s.settle.afeChan m = s.afeChan m := afeChan_congr (by rw [settle_afe]) m

@[simp] theorem chain_settle (s : State) (j : Nat) : s.settle.chain j = s.chain j :=
  congrArg (fun (x : AfeState) => tabGet FltChain.init x.chains j) (settle_afe s)

theorem rdF_congr {s t : State} (h : t.inForce = s.inForce) (k : Nat) : t.rdF k = s.rdF k := by simp only [State.rdF, h]

theorem fldF_congr {s t : State} {f : Fld} (h : t.rdF f.reg = s.rdF f.reg) : t.fldF f = s.fldF f := by simp only [State.fldF, h]

theorem Kept.setAfe {s t : State} {keys : List Nat} (h : Kept s t keys) (m : Nat) (c : AfeChan) : Kept s (t.setAfe m c) keys :=
  h.of_eq rfl rfl rfl rfl

theorem Kept.setChain {s t : State} {keys : List Nat} (h : Kept s t keys) (j : Nat) (c : FltChain) : Kept s (t.setChain j c) keys :=
  h.of_eq rfl rfl rfl rfl

theorem Kept.adc {s t : State} {keys : List Nat} (h : Kept s t keys) (x : AdcState) : Kept s { t with adc := x } keys :=
  h.of_eq rfl rfl rfl rfl

theorem settle_bit (s : State) {k : Nat} (h : settleKey k = false) (n : Nat) : s.settle.bit k n = s.bit k n := bit_congr (settle_rd s h) n

/-! ### The detectors of a chain (R267) -/

theorem detector_keys : ∀ j : Fin 12, settleKey (FLT_PEAK j) = false ∧ settleKey (FLT_RMS j) = false ∧ settleKey (FLT_ENV j) = false
    ∧ FLT_PEAK j ≠ FLT_RMS j ∧ FLT_PEAK j ≠ FLT_ENV j ∧ FLT_RMS j ≠ FLT_ENV j ∧ AFE_STATUS ∉ [FLT_PEAK j, FLT_RMS j, FLT_ENV j] := by
  decide +kernel

/-- The detectors after their restart: the peaks at their ends, RMS and envelope at 0. -/
theorem restartDetectors_shows (s : State) (j : Fin 12) : (s.restartDetectors j).settle.rd (FLT_PEAK j) = 0x80007FFF
    ∧ (s.restartDetectors j).settle.rd (FLT_RMS j) = 0 ∧ (s.restartDetectors j).settle.rd (FLT_ENV j) = 0 := by
  obtain ⟨peak, rms, env, peakRms, peakEnv, rmsEnv, -⟩ := detector_keys j
  refine ⟨?_, ?_, ?_⟩
  · rw [settle_rd _ peak, restartDetectors_rd, rd_wr_other _ _ peakEnv, rd_wr_other _ _ peakRms, rd_wr_same]
  · rw [settle_rd _ rms, restartDetectors_rd, rd_wr_other _ _ rmsEnv, rd_wr_same]
  · rw [settle_rd _ env, restartDetectors_rd, rd_wr_same]

end Sys2Proof.Machine
end

section
/-! PROOFS. A sample of a filter chain: the value, its count, and what the detectors and the switches leave (R261, R264 to R271). -/

namespace Sys2Proof.Machine

open Sys2Proof.Laws

/-! ### What a chain leaves -/

/-- Register `k`, the channels, the converters and the clock are as before. -/
structure Untouched (k : Nat) (s t : State) : Prop where
  rd : t.rd k = s.rd k
  chans : t.afe.chans = s.afe.chans
  adc : t.adc = s.adc
  now : t.now = s.now

namespace Untouched

variable {k : Nat} {s t u : State}

theorem of_regs (regs : t.regs = s.regs := by rfl) (chans : t.afe.chans = s.afe.chans := by rfl) (adc : t.adc = s.adc := by rfl)
    (now : t.now = s.now := by rfl) : Untouched k s t :=
  ⟨by simp only [State.rd, regs], chans, adc, now⟩

theorem refl (s : State) : Untouched k s s := of_regs

theorem trans (h : Untouched k s t) (g : Untouched k t u) : Untouched k s u :=
  ⟨g.rd.trans h.rd, g.chans.trans h.chans, g.adc.trans h.adc, g.now.trans h.now⟩

theorem ite {c : Prop} [Decidable c] (h : Untouched k s t) (g : Untouched k s u) : Untouched k s (if c then t else u) := by
  split <;> assumption

theorem wr (s : State) {j : Nat} (w : Word) (apart : k ≠ j) : Untouched k s (s.wr j w) := ⟨rd_wr_other s w apart, rfl, rfl, rfl⟩

theorem setFld (s : State) (f : Fld) (v : Nat) (apart : k ≠ f.reg) : Untouched k s (s.setFld f v) := wr s _ apart

theorem setFlag (s : State) (f : Fld) (b : Bool) (apart : k ≠ f.reg) : Untouched k s (s.setFlag f b) := wr s _ apart

theorem setBit (s : State) {j : Nat} (n : Nat) (b : Bool) (apart : k ≠ j) : Untouched k s (s.setBit j n b) := wr s _ apart

theorem setChain (s : State) (j : Nat) (c : FltChain) : Untouched k s (s.setChain j c) := of_regs

theorem det (s : State) (x : DetState) : Untouched k s { s with det := x } := of_regs

theorem raise (s : State) (e : Nat) : Untouched k s (s.raise e) := of_regs

theorem loop (n : Nat) {f : Nat → State → State} (h : ∀ i t, Untouched k t (f i t)) (s : State) : Untouched k s (loop n f s) := by
  induction n with
  | zero => exact .refl s
  | succ n ih => exact ih.trans (h n _)

theorem foldl {β : Type} {f : State → β → State} (h : ∀ t b, Untouched k t (f t b)) (l : List β) (s : State) :
    Untouched k s (l.foldl f s) := by
  induction l generalizing s with
  | nil => exact .refl s
  | cons b l ih => exact (h s b).trans (ih _)

end Untouched

/-- What the detectors and the switches of chain `j` write. -/
def judgeKeys (j : Nat) : List Nat := [FLT_PEAK j, FLT_RMS j, FLT_ENV j, FLT_SW_STATE j, FLT_EVT_INFO, FLT_TRIP]

/-- What a sample of chain `j` writes. -/
def sampleKeys (j : Nat) : List Nat := FLT_VALUE j :: FLT_COUNT j :: judgeKeys j

section
variable {j k : Nat} (spared : k ∉ judgeKeys j)
include spared

theorem ne_of_spared {i : Nat} (listed : i ∈ judgeKeys j) : k ≠ i := fun e => spared (e ▸ listed)

theorem feedDetectors_untouched (s : State) (v : Int) : Untouched k s (s.feedDetectors j v) := by
  have peak : k ≠ FLT_PEAK j := ne_of_spared spared (by simp [judgeKeys])
  have env : k ≠ FLT_ENV j := ne_of_spared spared (by simp [judgeKeys])
  have rms : k ≠ FLT_RMS j := ne_of_spared spared (by simp [judgeKeys])
  unfold State.feedDetectors
  extract_lets s₁ s₂ e s₃ c sum n block
  have fed : Untouched k s s₃ :=
    (Untouched.setFld s (FLT_PEAK_MAX j) _ peak).trans ((Untouched.setFld s₁ (FLT_PEAK_MIN j) _ peak).trans (.setFld s₂ (FLT_ENV_V j) _ env))
  exact .ite (fed.trans ((Untouched.setFld s₃ (FLT_RMS_V j) _ rms).trans (.setChain _ _ _))) (fed.trans (.setChain _ _ _))

theorem swChange_untouched (s : State) (i : Nat) (on : Bool) : Untouched k s (s.swChange j i on) := by
  have state : k ≠ FLT_SW_STATE j := ne_of_spared spared (by simp [judgeKeys])
  have info : k ≠ FLT_EVT_INFO := ne_of_spared spared (by simp [judgeKeys])
  have trip : k ≠ FLT_TRIP := ne_of_spared spared (by simp [judgeKeys])
  unfold State.swChange
  extract_lets s₁ s₂ s₃
  have changed : Untouched k s s₂ := (Untouched.setBit s i on state).trans (.ite ((Untouched.wr s₁ _ info).trans .of_regs) (.refl s₁))
  have latched : Untouched k s₂ s₃ :=
    .ite (.refl s₂) ((Untouched.setFlag s₂ FLT_TRIP_LATCHED _ trip).trans ((Untouched.setFld _ FLT_TRIP_CHAIN _ trip).trans
      (.setFld _ FLT_TRIP_SWITCH _ trip)))
  exact .ite (changed.trans (latched.trans (.raise s₃ _))) changed

theorem swCall_untouched (s : State) (i : Nat) (call : Bool) : Untouched k s (s.swCall j i call) := by
  unfold State.swCall
  exact .ite ((Untouched.setChain s j _).trans (swChange_untouched spared _ i _)) (.setChain s j _)

theorem evalSwitch_untouched (s : State) (i : Nat) (v : Int) (near : Option (Int × Int)) (t : SampleTags) :
    Untouched k s (s.evalSwitch j i v near t) := by
  have state : k ≠ FLT_SW_STATE j := ne_of_spared spared (by simp [judgeKeys])
  unfold State.evalSwitch
  extract_lets ilk on untagged s₁ s₂
  have marked : Untouched k s s₂ :=
    (Untouched.ite (.setBit s _ _ state) (.refl s)).trans (.ite (.setBit s₁ _ _ state) (.refl s₁))
  have called (c : Bool) : Untouched k s (s₂.swCall j i c) := marked.trans (swCall_untouched spared s₂ i c)
  refine .ite (.refl s) (.ite marked (.ite (called _) (.ite (.ite ?_ marked) (.ite (called _) (.ite marked (called _))))))
  cases near with
  | none => exact called _
  | some p => exact called _

end

theorem chainTau_untouched (s : State) (j k : Nat) : Untouched k s (s.chainTau j).2 := by
  unfold State.chainTau
  extract_lets free
  split
  · exact .refl s
  · exact .of_regs
  · extract_lets d
    split
    · exact .of_regs
    · exact .refl s

/-! ### A sample (R264) -/

/-- A polynomial written since the last sample is latched (R266). -/
def State.takePoly (s : State) (j : Nat) : State :=
  if (s.chain j).polyDue then
    (s.latch (FLT_POLY_CFG j) (FLT_POLY_CFG j + 4) s.regs |>.latch (FLT_COEF j 0) (FLT_COEF j 24) s.regs).setChain j
      { s.chain j with polyDue := false }
  else s

/-- A value is shown and counted. -/
def State.countValue (s : State) (j w : Nat) : State := (s.wrN (FLT_VALUE j) w).wrN (FLT_COUNT j) (s.rdN (FLT_COUNT j) + 1)

/-- The detectors and the switches of a chain take a value (R265, R267, R268). -/
def State.judgeValue (s : State) (j : Nat) (v : Int) (near : Option (Int × Int)) (t : SampleTags) : State :=
  let s := if t.settling || t.sat || t.suspect || t.notReady || t.fault then s else s.setChain j { s.chain j with lastT := some v }
  let s := if t.settling || t.notReady || t.suspect then s else s.feedDetectors j v
  loop 4 (fun k s => s.evalSwitch j k v near t) s

theorem chainSample_forms (s : State) (j : Nat) (x : Int) (pair : Option (Int × Int)) (t : SampleTags) :
    ∃ w v near, s.chainSample j x pair t = (((s.takePoly j).chainTau j).2.countValue j w).judgeValue j v near t :=
  ⟨_, _, _, rfl⟩

theorem takePoly_untouched (s : State) (j k : Nat) : Untouched k s (s.takePoly j) := .ite .of_regs (.refl s)

theorem judgeValue_untouched {j k : Nat} (spared : k ∉ judgeKeys j) (s : State) (v : Int) (near : Option (Int × Int)) (t : SampleTags) :
    Untouched k s (s.judgeValue j v near t) := by
  unfold State.judgeValue
  extract_lets c s₁ s₂
  have noted : Untouched k s s₁ := .ite (.refl s) (.setChain s j _)
  have fed : Untouched k s₁ s₂ := .ite (.refl s₁) (feedDetectors_untouched spared s₁ v)
  exact noted.trans (fed.trans (.loop 4 (fun i u => evalSwitch_untouched spared u i v near t) s₂))

theorem chainSample_untouched {j k : Nat} (spared : k ∉ sampleKeys j) (s : State) (x : Int) (pair : Option (Int × Int)) (t : SampleTags) :
    Untouched k s (s.chainSample j x pair t) := by
  obtain ⟨value, count, judged⟩ : k ≠ FLT_VALUE j ∧ k ≠ FLT_COUNT j ∧ k ∉ judgeKeys j := by simpa [sampleKeys] using spared
  obtain ⟨w, v, near, forms⟩ := chainSample_forms s j x pair t
  rw [forms]
  exact ((takePoly_untouched s j k).trans (chainTau_untouched _ j k)).trans
    (((Untouched.wr _ _ value).trans (.wr _ _ count)).trans (judgeValue_untouched judged _ v near t))

/-- A sample counts once in FLT_COUNT, modulo 2^32. -/
theorem chainSample_counts (s : State) (j : Nat) (x : Int) (pair : Option (Int × Int)) (t : SampleTags) :
    (s.chainSample j x pair t).rd (FLT_COUNT j) = s.rd (FLT_COUNT j) + 1 := by
  have spared : FLT_COUNT j ∉ judgeKeys j := by
    simp [judgeKeys, FLT_COUNT, FLT_PEAK, FLT_RMS, FLT_ENV, FLT_SW_STATE, FLT_EVT_INFO, FLT_TRIP]
    omega
  obtain ⟨w, v, near, forms⟩ := chainSample_forms s j x pair t
  have before := (takePoly_untouched s j (FLT_COUNT j)).trans (chainTau_untouched _ j _)
  rw [forms, (judgeValue_untouched spared _ v near t).rd, State.countValue, rd_wrN, if_pos rfl, ofNat_rdN_succ, before.rd]

/-- A polynomial's value stays within 16 bits. -/
theorem polyValue_bounds (s : State) (j : Nat) (x tau : Int) : -32768 ≤ (s.polyValue j x tau).1 ∧ (s.polyValue j x tau).1 ≤ 32767 :=
  clampI_bounds _ (by decide)

end Sys2Proof.Machine
end

section
/-! PROOFS. An output sample of a sensor channel (R249 to R263). -/

namespace Sys2Proof.Machine

open Sys2Proof.Laws

/-! ### The raw value (R251 to R257) -/

/-- The carried offset rests on the channel's charge and decay alone. -/
theorem carriedAt_congr {s u : State} {m : Nat} (chg : u.rd (AFE_CHG m) = s.rd (AFE_CHG m))
    (carried : (u.afeChan m).carried = (s.afeChan m).carried) (since : (u.afeChan m).carriedAt = (s.afeChan m).carriedAt) (t : Nat) :
    u.carriedAt m t = s.carriedAt m t := by
  simp only [State.carriedAt, carried, since, fld_congr (f := AFE_CHG_DECAY m) chg]

/-- The raw value rests on the channel's mode, lead, range in force and charge alone. -/
theorem rawX_congr {s u : State} {m : Nat} (mode : u.rd (AFE_MODE m) = s.rd (AFE_MODE m))
    (lead : u.fld (AFE_LEAD_SET m) = s.fld (AFE_LEAD_SET m)) (force : u.inForce = s.inForce)
    (sat : (u.afeChan m).satRange = (s.afeChan m).satRange) (offset : ∀ t, u.carriedAt m t = s.carriedAt m t) (v : AfeInput) (t : Nat) :
    u.rawX m v t = s.rawX m v t := by
  unfold State.rawX State.chargeRange State.afeMode
  rw [fld_congr (f := AFE_MODE_RANGE m) mode, fld_congr (f := AFE_MODE_MODE m) mode, lead, sat, offset,
    fldF_congr (f := AFE_MODE_RANGE m) (rdF_congr force _)]

/-- A lead is shown in MEAS, where it is, of the state as it was or with one free value drawn (R255; log entry 52). -/
theorem showLead_forms (s : State) (m : Nat) (r : Option Int) :
    s.showLead m r = s ∨ ∃ u y, (u = s ∨ u = s.fresh.2) ∧ s.showLead m r = u.setFld (AFE_LEAD_MEAS m) y := by
  unfold State.showLead
  split
  · exact .inl rfl
  · split
    · exact .inr ⟨_, _, .inr rfl, rfl⟩
    · exact .inr ⟨_, _, .inl rfl, rfl⟩

/-- What the showing of a lead leaves. -/
structure LeadShown (m : Nat) (s t : State) : Prop where
  rd : ∀ k ≠ AFE_LEAD m, t.rd k = s.rd k
  set : t.fld (AFE_LEAD_SET m) = s.fld (AFE_LEAD_SET m)
  afe : t.afe = s.afe
  force : t.inForce = s.inForce
  now : t.now = s.now

theorem setMeas_shown (s : State) (m y : Nat) : LeadShown m s (s.setFld (AFE_LEAD_MEAS m) y) where
  rd _ apart := rd_wr_other s _ apart
  set := fld_setFld_other s _ _ y (show 16 ≤ 31 by decide) (show 31 < 32 by decide) (.inr (.inl (show 15 < 16 by decide)))
  afe := State.setFld_afe s _ y
  force := State.setFld_inForce s _ y
  now := State.setFld_now s _ y

theorem showLead_shown (s : State) (m : Nat) (r : Option Int) : LeadShown m s (s.showLead m r) := by
  obtain none | ⟨u, y, from_, shown⟩ := showLead_forms s m r
  · rw [none]
    exact ⟨fun _ _ => rfl, rfl, rfl, rfl, rfl⟩
  · have regs (k : Nat) : u.rd k = s.rd k := by obtain rfl | rfl := from_ <;> rfl
    have rest : u.afe = s.afe ∧ u.inForce = s.inForce ∧ u.now = s.now := by obtain rfl | rfl := from_ <;> exact ⟨rfl, rfl, rfl⟩
    obtain ⟨afe, force, now⟩ := rest
    have put := setMeas_shown u m y
    rw [shown]
    exact ⟨fun k apart => (put.rd k apart).trans (regs k), put.set.trans (fld_congr (regs _)), put.afe.trans afe, put.force.trans force,
      put.now.trans now⟩

theorem lead_keys : ∀ m : Fin 8, AFE_MODE m ≠ AFE_LEAD m ∧ AFE_CHG m ≠ AFE_LEAD m ∧ FLT_COUNT m ≠ AFE_LEAD m := by decide +kernel

theorem rawX_showLead (s : State) (m : Fin 8) (r : Option Int) (v : AfeInput) (t : Nat) :
    (s.showLead m r).rawX m v t = s.rawX m v t := by
  have shown := showLead_shown s m r
  obtain ⟨mode, chg, -⟩ := lead_keys m
  have chan : (s.showLead m r).afeChan m = s.afeChan m := afeChan_congr (by rw [shown.afe]) m
  have offset := carriedAt_congr (shown.rd _ chg) (congrArg AfeChan.carried chan) (congrArg AfeChan.carriedAt chan)
  exact rawX_congr (shown.rd _ mode) shown.set shown.force (congrArg AfeChan.satRange chan) offset v t

/-! ### Faults (R276) -/

theorem faultWord_overrange (k : Nat) (opened low beyond : Bool) :
    (⟨k, 0, 0⟩ : Fld).get (BitVec.ofNat 32 (4 * b2n opened + 2 * b2n low + b2n beyond)) = b2n beyond := by
  have bit : b2n beyond < 2 := by cases beyond <;> decide
  simp only [Fld.get, BitVec.toNat_ofNat, Nat.shiftRight_zero]
  omega

theorem showFaults_rd (s : State) {m k : Nat} (opened low beyond : Bool) (fault : k ≠ AFE_FAULT m) (status : k ≠ AFE_STATUS) :
    (s.showFaults m opened low beyond).rd k = s.rd k :=
  (rd_raiseIf _ _ _ _).trans ((rd_wr_other _ _ status).trans (rd_wr_other s _ fault))

theorem showFaults_frame (s : State) (m : Nat) (opened low beyond : Bool) :
    (s.showFaults m opened low beyond).afe = s.afe ∧ (s.showFaults m opened low beyond).now = s.now := by
  unfold State.showFaults
  extract_lets rose a
  exact ⟨State.raiseIf_afe _ _ _, State.raiseIf_now _ _ _⟩

theorem showFaults_overrange (s : State) (m : Fin 8) (opened low beyond : Bool) :
    (s.showFaults m opened low beyond).flag (AFE_FAULT_OVERRANGE m) = beyond := by
  have apart : AFE_FAULT m ≠ AFE_STATUS := by simp only [AFE_FAULT, AFE_STATUS]; omega
  have word : (s.showFaults m opened low beyond).rd (AFE_FAULT m) = BitVec.ofNat 32 (4 * b2n opened + 2 * b2n low + b2n beyond) :=
    (rd_raiseIf _ _ _ _).trans ((rd_wr_other _ _ apart).trans (rd_wr_same s _ _))
  rw [State.flag, State.fld, show (AFE_FAULT_OVERRANGE m).reg = AFE_FAULT m from rfl, word, AFE_FAULT_OVERRANGE, faultWord_overrange]
  cases beyond <;> rfl

/-! ### The sample -/

theorem clamp_acts (x : Int) : decide (clampI x (-32768) 32767 ≠ x) = decide (x < -32768 ∨ 32767 < x) := by
  refine decide_eq_decide.mpr ?_
  unfold clampI
  split
  · omega
  · split <;> omega

/-- A sample of a settled channel whose inputs give a raw value: its runs of samples in `c`, QUAD in `q`, and its tags. -/
theorem afeSample_forms {s : State} {m : Fin 8} {v : AfeInput} {t : Nat} {x : Int} (settled : (s.afeChan m).settleUntil = none)
    (steady : (s.afeChan m).settleDue = false) (raw : s.rawX m v t = some x) :
    ∃ c q opened low tags, c.satRange = none ∧ c.nextOut = (s.afeChan m).nextOut ∧
      s.afeSample m t v = ((((s.showLead m (s.leadMeas m v)).setAfe m c).wrN (AFE_RAW m)
        (q * 65536 + toBits 16 (clampI x (-32768) 32767))).showFaults m opened low (decide (x < -32768 ∨ 32767 < x))).chainSample m
          (clampI x (-32768) 32767) none tags := by
  have chan : (s.showLead m (s.leadMeas m v)).afeChan m = s.afeChan m :=
    afeChan_congr (by rw [(showLead_shown s m (s.leadMeas m v)).afe]) m
  unfold State.afeSample
  simp only [settled, steady, if_neg Bool.false_ne_true, rawX_showLead, raw, clamp_acts]
  exact ⟨_, _, _, _, _, rfl, by rw [chan], rfl⟩

theorem sample_keys : ∀ m : Fin 8, AFE_RAW m ∉ sampleKeys m ∧ AFE_FAULT m ∉ sampleKeys m ∧ AFE_RAW m ≠ AFE_FAULT m ∧ AFE_RAW m ≠ AFE_STATUS
    ∧ FLT_COUNT m ≠ AFE_FAULT m ∧ FLT_COUNT m ≠ AFE_STATUS ∧ FLT_COUNT m ≠ AFE_RAW m ∧ settleKey (AFE_RAW m) = false
    ∧ settleKey (AFE_FAULT m) = false ∧ settleKey (FLT_COUNT m) = false := by decide +kernel

/-- A sample of a settled channel shows the raw value clamped, OVERRANGE where the clamp acts, and counts (R251, R259, R276). -/
theorem afeSample_shows {s : State} {m : Fin 8} {v : AfeInput} {t : Nat} {x : Int} (settled : (s.afeChan m).settleUntil = none)
    (steady : (s.afeChan m).settleDue = false) (raw : s.rawX m v t = some x) :
    let u := s.afeSample m t v
    u.rdN (AFE_RAW m) % 65536 = toBits 16 (clampI x (-32768) 32767)
      ∧ u.flag (AFE_FAULT_OVERRANGE m) = decide (x < -32768 ∨ 32767 < x) ∧ u.rd (FLT_COUNT m) = s.rd (FLT_COUNT m) + 1
      ∧ (u.afeChan m).satRange = none ∧ u.now = s.now ∧ (u.afeChan m).nextOut = (s.afeChan m).nextOut := by
  obtain ⟨rawSpared, faultSpared, rawFault, rawStatus, countFault, countStatus, countRaw, -⟩ := sample_keys m
  have shown := showLead_shown s m (s.leadMeas m v)
  obtain ⟨c, q, opened, low, tags, sat, next, forms⟩ := afeSample_forms settled steady raw
  rw [forms]
  generalize toBits_eq : toBits 16 (clampI x (-32768) 32767) = bits
  have short : bits < 65536 := toBits_eq ▸ toBits_lt 16 _
  set a := ((s.showLead m (s.leadMeas m v)).setAfe m c).wrN (AFE_RAW m) (q * 65536 + bits) with ha
  obtain ⟨afe, now⟩ := showFaults_frame a m opened low (decide (x < -32768 ∨ 32767 < x))
  have left (k : Nat) (spared : k ∉ sampleKeys m) :=
    chainSample_untouched spared (a.showFaults m opened low (decide (x < -32768 ∨ 32767 < x))) (clampI x (-32768) 32767) none tags
  have own : a.afeChan m = c := by rw [afeChan_congr (congrArg AfeState.chans (State.wrN_afe _ _ _)) m, afeChan_setAfe_same]
  have chan := (afeChan_congr (left _ rawSpared).chans m).trans ((afeChan_congr (congrArg AfeState.chans afe) m).trans own)
  refine ⟨?_, ?_, ?_, ?_, ?_, ?_⟩
  · rw [State.rdN, (left _ rawSpared).rd, showFaults_rd a _ _ _ rawFault rawStatus, ha, State.wrN, rd_wr_same, BitVec.toNat_ofNat]
    omega
  · exact (flag_congr (f := AFE_FAULT_OVERRANGE m) (left _ faultSpared).rd).trans (showFaults_overrange a m _ _ _)
  · rw [chainSample_counts, showFaults_rd a _ _ _ countFault countStatus, ha, State.wrN, rd_wr_other _ _ countRaw]
    exact congrArg (· + 1) (shown.rd _ (lead_keys m).2.2)
  · exact (congrArg AfeChan.satRange chan).trans sat
  · rw [(left _ rawSpared).now, now, ha, State.wrN_now, State.setAfe_now, shown.now]
  · exact (congrArg AfeChan.nextOut chan).trans next

/-! ### The command (R249, R251, R259) -/

/-- What a channel's inputs give, demodulated where the channel drives its excitation (R249, R251). -/
def State.afeInput (s : State) (m : Nat) (a b : Int × Int) (f i : Int) : AfeInput :=
  let phase := s.fldF (AFE_PHASE_EXC_PHASE m) + s.fldF (AFE_PHASE_DEMOD_PHASE m)
  let p := if s.excited m then demodulate phase a else (a.1, 0)
  ⟨p.1, if s.excited m then (demodulate phase b).1 else b.1, p.2, f, i⟩

/-- The clock stands at the channel's output instant, and the next one is an output period later (R259). -/
def State.outputInstant (s : State) (m : Nat) : State :=
  (s.advance (s.afeChan m).nextOut).setAfe m
    { s.afeChan m with nextOut := (s.afeChan m).nextOut + outputTicks (s.fld (AFE_MODE_PRESET m)) }

theorem outputInstant_rd (s : State) (m k : Nat) : (s.outputInstant m).rd k = s.rd k := rd_advance s _ k

theorem outputInstant_now (s : State) (m : Nat) : (s.outputInstant m).now = max s.now (s.afeChan m).nextOut := State.advance_now s _

theorem outputInstant_force (s : State) (m : Nat) : (s.outputInstant m).inForce = s.inForce := State.advance_inForce s _

theorem outputInstant_chan (s : State) (m : Nat) : (s.outputInstant m).afeChan m
    = { s.afeChan m with nextOut := (s.afeChan m).nextOut + outputTicks (s.fld (AFE_MODE_PRESET m)) } := afeChan_setAfe_same _ m _

theorem excited_congr {s u : State} {m : Nat} (ctrl : u.rd AFE_CTRL = s.rd AFE_CTRL) (mode : u.rd (AFE_MODE m) = s.rd (AFE_MODE m)) :
    u.excited m = s.excited m := by
  unfold State.excited State.afeRuns State.afeMode
  rw [bit_congr ctrl, fld_congr (f := AFE_MODE_MODE m) mode]

theorem afeInput_outputInstant (s : State) (m : Nat) (a b : Int × Int) (f i : Int) :
    (s.outputInstant m).afeInput m a b f i = s.afeInput m a b f i := by
  have excited : (s.outputInstant m).excited m = s.excited m := excited_congr (outputInstant_rd s m _) (outputInstant_rd s m _)
  have force (g : Fld) : (s.outputInstant m).fldF g = s.fldF g := fldF_congr (rdF_congr (outputInstant_force s m) _)
  simp only [State.afeInput, excited, force]

theorem rawX_outputInstant (s : State) (m : Nat) (v : AfeInput) (t : Nat) : (s.outputInstant m).rawX m v t = s.rawX m v t := by
  have chan := outputInstant_chan s m
  have offset := carriedAt_congr (u := s.outputInstant m) (outputInstant_rd s m (AFE_CHG m)) (by rw [chan]) (by rw [chan])
  exact rawX_congr (outputInstant_rd s m _) (fld_congr (outputInstant_rd s m _)) (outputInstant_force s m) (by rw [chan]) offset v t

theorem afeOutputSample_exec {s : State} {m : Fin 8} (core : s.pwr.coreInReset = false) (runs : s.afeRuns m = true) (a b : Int × Int)
    (f i : Int) : exec (.afeOutputSample m a b f i) s
      = .next ((s.outputInstant m).afeSample m (s.outputInstant m).now ((s.outputInstant m).afeInput m a b f i)).settle := by
  refine (done_inCore core _).trans ?_
  rw [if_pos runs]
  simp only [State.outputInstant, afeChan_advance, fld_advance]
  rfl

theorem afeOutputSample_shows {s : State} {m : Fin 8} {a b : Int × Int} {f i x : Int} (core : s.pwr.coreInReset = false)
    (runs : s.afeRuns m = true) (settled : (s.afeChan m).settleUntil = none) (steady : (s.afeChan m).settleDue = false)
    (raw : s.rawX m (s.afeInput m a b f i) (max s.now (s.afeChan m).nextOut) = some x) :
    Gives (.afeOutputSample m a b f i) s fun u => u.rdN (AFE_RAW m) % 65536 = toBits 16 (clampI x (-32768) 32767)
      ∧ u.flag (AFE_FAULT_OVERRANGE m) = decide (x < -32768 ∨ 32767 < x) ∧ u.rd (FLT_COUNT m) = s.rd (FLT_COUNT m) + 1
      ∧ (u.afeChan m).satRange = none ∧ u.now = max s.now (s.afeChan m).nextOut
      ∧ (u.afeChan m).nextOut = (s.afeChan m).nextOut + outputTicks (s.fld (AFE_MODE_PRESET m)) := by
  obtain ⟨-, -, -, -, -, -, -, rawKey, faultKey, countKey⟩ := sample_keys m
  have chan := outputInstant_chan s m
  refine ⟨_, afeOutputSample_exec core runs a b f i, ?_⟩
  beta_reduce
  rw [settle_rdN _ rawKey, settle_flag _ (f := AFE_FAULT_OVERRANGE m) faultKey, settle_rd _ countKey, afeChan_settle, settle_now, afeInput_outputInstant, outputInstant_now]
  obtain ⟨shown, beyond, count, sat, now, next⟩ := afeSample_shows (s := s.outputInstant m) (v := s.afeInput m a b f i) (by rw [chan]; exact settled)
    (by rw [chan]; exact steady) ((rawX_outputInstant s m _ _).trans raw)
  exact ⟨shown, beyond, by rw [count, outputInstant_rd], sat, by rw [now, outputInstant_now], by rw [next, chan]⟩

theorem afeOutputSample_idle {s : State} {m : Fin 8} (a b : Int × Int) (f i : Int) (idle : s.afeRuns m = false) :
    Gives (.afeOutputSample m a b f i) s fun u => u.afe = s.afe ∧ Kept s u [] :=
  ⟨_, congrArg done (inCore_id (if_neg (by simp [idle]))), settle_afe s, (Kept.refl s []).settle⟩

end Sys2Proof.Machine
end

section
/-! PROOFS. Excitation changes, settling and charge resets of a sensor channel (R252, R257, R258, R262), and O33. -/

namespace Sys2Proof.Machine

open Sys2Proof.Laws

/-! ### The excitation takes effect (R252) -/

theorem settleKey_afeStatus : settleKey AFE_STATUS = false := by decide

theorem takeExcitation_force (s : State) {m k : Nat} (low : AFE_EXC m ≤ k) (high : k ≤ AFE_PHASE m) : (s.takeExcitation m).rdF k = s.rd k :=
  rdF_latch_regs s low (by omega)

theorem takeExcitation_chan (s : State) (m : Nat) : (s.takeExcitation m).afeChan m = { s.afeChan m with excDue := none } :=
  afeChan_setAfe_same _ m _

/-- A settling interval that begins has an end, and waits for no sample (R262). -/
theorem beginSettling_chan (s : State) (m t : Nat) :
    ∃ e, (s.beginSettling m t).afeChan m = { s.afeChan m with settleDue := false, settleUntil := some e } :=
  ⟨_, afeChan_setAfe_same s m _⟩

theorem excitationZeroCrossing_exec {s : State} {m : Fin 8} {e : Nat} (core : s.pwr.coreInReset = false) (excited : s.excited m = true)
    (due : (s.afeChan m).excDue = some e) :
    exec (.excitationZeroCrossing m) s = .next (((s.advance e).takeExcitation m).beginSettling m (max s.now e)).settle := by
  refine (done_inCore core _).trans ?_
  rw [due]
  exact congrArg (fun u => Host.Outcome.next (State.settle u)) (if_pos excited)

theorem excitationZeroCrossing_takes {s : State} {m : Fin 8} {e : Nat} (core : s.pwr.coreInReset = false) (excited : s.excited m = true)
    (due : (s.afeChan m).excDue = some e) :
    Gives (.excitationZeroCrossing m) s fun u => u.rdF (AFE_EXC m) = s.rd (AFE_EXC m) ∧ u.rdF (AFE_PHASE m) = s.rd (AFE_PHASE m)
      ∧ u.now = max s.now e ∧ (u.afeChan m).excDue = none ∧ (u.afeChan m).settleUntil.isSome = true ∧ u.bit AFE_STATUS (16 + m) = true := by
  have order : AFE_EXC m ≤ AFE_PHASE m := by simp only [AFE_EXC, AFE_PHASE]; omega
  have taken (k : Nat) (low : AFE_EXC m ≤ k) (high : k ≤ AFE_PHASE m) : ((s.advance e).takeExcitation m).rdF k = s.rd k :=
    (takeExcitation_force _ low high).trans (rd_advance s e k)
  obtain ⟨until_, chan⟩ := beginSettling_chan ((s.advance e).takeExcitation m) m (max s.now e)
  refine ⟨_, excitationZeroCrossing_exec core excited due, ?_⟩
  beta_reduce
  rw [rdF_congr (settle_inForce _), rdF_congr (settle_inForce _), settle_now, afeChan_settle, settle_bit _ settleKey_afeStatus, chan,
    takeExcitation_chan]
  exact ⟨taken _ le_rfl order, taken _ order le_rfl, State.advance_now s e, rfl, rfl, bit_setBit_same _ _ _ _ (by omega)⟩

theorem excitationZeroCrossing_idle {s : State} {m : Fin 8} (idle : s.excited m = false ∨ (s.afeChan m).excDue = none) :
    Gives (.excitationZeroCrossing m) s fun u => u.afe = s.afe ∧ Kept s u [] := by
  refine ⟨_, congrArg done (inCore_id ?_), settle_afe s, (Kept.refl s []).settle⟩
  rcases idle with still | none
  · split
    · rw [if_neg (by simp [still])]
    · rfl
  · rw [none]

/-! ### Settling ends (R262) -/

/-- No interval is in progress, and SETTLING shows it. -/
def State.settlingOver (s : State) (m : Nat) : State :=
  (s.setAfe m { s.afeChan m with settleUntil := none }).setBit AFE_STATUS (16 + m) false

theorem endSettling_eq (s : State) (m : Nat) : s.endSettling m = (s.settlingOver m).restartDetectors m := rfl

theorem settlingOver_chan (s : State) (m : Nat) : (s.settlingOver m).afeChan m = { s.afeChan m with settleUntil := none } :=
  afeChan_setAfe_same s m _

theorem endSettling_chan (s : State) (m : Nat) : (s.endSettling m).afeChan m = { s.afeChan m with settleUntil := none } :=
  (afeChan_congr (s := s.settlingOver m) rfl m).trans (settlingOver_chan s m)

theorem Kept.endSettling (s : State) (m : Nat) : Kept s (s.endSettling m) [AFE_STATUS, FLT_PEAK m, FLT_RMS m, FLT_ENV m] := by
  have calm : Kept s (s.settlingOver m) [AFE_STATUS, FLT_PEAK m, FLT_RMS m, FLT_ENV m] := ((Kept.refl s _).setAfe m _).setBit _ _ (by simp)
  exact (((calm.wr 0x80007FFF (by simp)).wr 0 (by simp)).wr 0 (by simp)).setChain m _

theorem settlingEnd_exec {s : State} {m : Fin 8} {e : Nat} (core : s.pwr.coreInReset = false) (settling : (s.afeChan m).settleUntil = some e) :
    exec (.settlingEnd m) s = .next ((s.advance e).endSettling m).settle := by
  refine (done_inCore core _).trans ?_
  rw [settling]

theorem settlingEnd_ends {s : State} {m : Fin 8} {e : Nat} (core : s.pwr.coreInReset = false) (settling : (s.afeChan m).settleUntil = some e) :
    Gives (.settlingEnd m) s fun u => (u.afeChan m).settleUntil = none ∧ u.bit AFE_STATUS (16 + m) = false ∧ u.now = max s.now e
      ∧ u.rd (FLT_PEAK m) = 0x80007FFF ∧ u.rd (FLT_RMS m) = 0 ∧ u.rd (FLT_ENV m) = 0
      ∧ Kept s u [AFE_STATUS, FLT_PEAK m, FLT_RMS m, FLT_ENV m] := by
  obtain ⟨-, -, -, -, -, -, status⟩ := detector_keys ⟨m, by omega⟩
  obtain ⟨peak, rms, env⟩ := restartDetectors_shows ((s.advance e).settlingOver m) ⟨m, by omega⟩
  have shown : ((s.advance e).endSettling m).settle.rd AFE_STATUS = ((s.advance e).settlingOver m).rd AFE_STATUS :=
    (restartDetectors_kept _ m).settle.1 _ settleKey_afeStatus status
  refine ⟨_, settlingEnd_exec core settling, ?_⟩
  beta_reduce
  rw [afeChan_settle, endSettling_chan, settle_now, bit_congr shown]
  exact ⟨rfl, bit_setBit_same _ _ _ _ (by omega), State.advance_now s e, peak, rms, env,
    (((Kept.refl s _).advance e).trans (.endSettling _ m)).settle⟩

/-! ### Charge resets (R257, R258) -/

/-- What the amplifier held goes into the carried offset (R257). -/
def State.chargeTaken (s : State) (m t : Nat) (q : Int) : State :=
  s.setAfe m { s.afeChan m with carried := s.carriedAt m t + q * 65536, carriedAt := t }

theorem chargeReset_eq (s : State) (m t : Nat) (q : Int) : s.chargeReset m t q
    = ((s.chargeTaken m t q).latch (AFE_MODE m) (AFE_MODE m + 4) (s.chargeTaken m t q).regs).setFlag (AFE_MODE_RANGE_PENDING m) false := rfl

theorem chargeReset_chan (s : State) (m t : Nat) (q : Int) : (s.chargeReset m t q).afeChan m
    = { s.afeChan m with carried := s.carriedAt m t + q * 65536, carriedAt := t } := by
  have chans : (s.chargeReset m t q).afe.chans = (s.chargeTaken m t q).afe.chans := by rw [chargeReset_eq, State.setFlag_afe, State.latch_afe]
  rw [afeChan_congr chans, State.chargeTaken, afeChan_setAfe_same]

/-- A charge reset puts the range in force that AFE_MODE holds (R258). -/
theorem chargeReset_range (s : State) (m t : Nat) (q : Int) : (s.chargeReset m t q).chargeRange m = s.fld (AFE_MODE_RANGE m) := by
  have force : (s.chargeReset m t q).rdF (AFE_MODE m) = (s.chargeTaken m t q).rd (AFE_MODE m) := by
    rw [chargeReset_eq, rdF_congr (State.setFlag_inForce _ _ _)]
    exact rdF_latch_regs _ le_rfl (by omega)
  exact congrArg (AFE_MODE_RANGE m).get force

theorem chargeReset_pending (s : State) (m t : Nat) (q : Int) : (s.chargeReset m t q).flag (AFE_MODE_RANGE_PENDING m) = false := by
  rw [chargeReset_eq]
  exact flag_setFlag_same _ _ _ rfl (show 29 < 32 by decide)

theorem chargeReset_now (s : State) (m t : Nat) (q : Int) : (s.chargeReset m t q).now = s.now := by
  rw [chargeReset_eq, State.setFlag_now, State.latch_now, State.chargeTaken, State.setAfe_now]

theorem chargeReset_earlyAt (s : State) (m t : Nat) (q : Int) : (s.chargeReset m t q).afe.earlyAt = s.afe.earlyAt := by
  rw [chargeReset_eq, State.setFlag_afe, State.latch_afe]
  rfl

theorem settleKey_afeMode : ∀ m : Fin 8, settleKey (AFE_MODE m) = false := by decide +kernel

theorem chargeRange_settle (s : State) (m : Nat) : s.settle.chargeRange m = s.chargeRange m := fldF_congr (rdF_congr (settle_inForce s) _)

/-- The clock stands at the periodic reset, from which the next one counts. -/
def State.resetInstant (s : State) (m : Nat) : State :=
  let a := s.advance ((s.afeChan m).resetFrom + 256000000 * s.fld (AFE_CHG_RESET_MS m))
  a.setAfe m { a.afeChan m with resetFrom := a.now }

theorem resetInstant_now (s : State) (m : Nat) :
    (s.resetInstant m).now = max s.now ((s.afeChan m).resetFrom + 256000000 * s.fld (AFE_CHG_RESET_MS m)) := State.advance_now s _

theorem chargeResetInstant_exec {s : State} {m : Fin 8} (core : s.pwr.coreInReset = false) (runs : s.afeRuns m = true)
    (charges : s.afeMode m = 7) (charge : Int) :
    exec (.chargeResetInstant m charge) s = .next ((s.resetInstant m).chargeReset m (s.resetInstant m).now charge).settle := by
  refine (done_inCore core _).trans ?_
  rw [if_pos (by simp [runs, charges])]
  rfl

theorem chargeResetInstant_resets {s : State} {m : Fin 8} (core : s.pwr.coreInReset = false) (runs : s.afeRuns m = true)
    (charges : s.afeMode m = 7) (charge : Int) :
    Gives (.chargeResetInstant m charge) s fun u => u.chargeRange m = s.fld (AFE_MODE_RANGE m) ∧ (u.afeChan m).carriedAt = u.now
      ∧ u.now = max s.now ((s.afeChan m).resetFrom + 256000000 * s.fld (AFE_CHG_RESET_MS m)) ∧ (u.afeChan m).resetFrom = u.now
      ∧ (u.afeChan m).carried = s.carriedAt m u.now + charge * 65536 ∧ u.flag (AFE_MODE_RANGE_PENDING m) = false := by
  have regs (k : Nat) : (s.resetInstant m).rd k = s.rd k := rd_advance s _ k
  have chan : (s.resetInstant m).afeChan m = { s.afeChan m with resetFrom := (s.resetInstant m).now } :=
    (afeChan_setAfe_same _ m _).trans (by rw [afeChan_advance]; rfl)
  have offset := carriedAt_congr (u := s.resetInstant m) (s := s) (regs (AFE_CHG m)) (by rw [chan]) (by rw [chan])
  refine ⟨_, chargeResetInstant_exec core runs charges charge, ?_⟩
  beta_reduce
  rw [chargeRange_settle, afeChan_settle, settle_now, settle_flag _ (f := AFE_MODE_RANGE_PENDING m) (settleKey_afeMode m), chargeReset_range, chargeReset_chan, chan, offset,
    chargeReset_now]
  exact ⟨fld_congr (regs _), rfl, resetInstant_now s m, rfl, rfl, chargeReset_pending _ _ _ _⟩

/-- An early reset marks the next sample with the range that saturated. -/
def State.markSaturated (s : State) (m : Nat) : State :=
  s.setAfe m { s.afeChan m with satRange := some ((s.afeChan m).satRange.getD (s.chargeRange m)) }

/-- The first early reset notes its frame and instant, and is raised (R258). -/
def State.raiseEarly (s : State) : State :=
  ({ s with afe := { s.afe with earlyAt := some (s.rdN GLB_FRAME, s.now) } } : State).raise EV_AFE_EARLY_RESET

/-- The state in which the integrator is reset early. -/
def State.resetEarly (s : State) (m : Nat) (charge : Int) : State := (s.markSaturated m).chargeReset m s.now charge

theorem resetEarly_sat (s : State) (m : Nat) (charge : Int) : ((s.resetEarly m charge).afeChan m).satRange.isSome = true := by
  rw [State.resetEarly, chargeReset_chan, State.markSaturated, afeChan_setAfe_same]
  rfl

theorem resetEarly_range (s : State) (m : Nat) (charge : Int) : (s.resetEarly m charge).chargeRange m = s.fld (AFE_MODE_RANGE m) := by
  rw [State.resetEarly, chargeReset_range]
  exact fld_congr (rd_setAfe s m _ _)

theorem raiseEarly_chan (s : State) (m : Nat) : s.raiseEarly.afeChan m = s.afeChan m := rfl

theorem raiseEarly_range (s : State) (m : Nat) : s.raiseEarly.chargeRange m = s.chargeRange m := rfl

theorem chargeEarlyReset_exec {s : State} {m : Fin 8} {charge : Int} (core : s.pwr.coreInReset = false) (runs : s.afeRuns m = true)
    (charges : s.afeMode m = 7) (full : 31 * chargeFull (s.chargeRange m) ≤ 32 * charge.natAbs) (first : s.afe.earlyAt = none) (t : Nat) :
    exec (.chargeEarlyReset m t charge) s = .next ((s.advance t).resetEarly m charge).raiseEarly.settle := by
  have range : (s.advance t).chargeRange m = s.chargeRange m := fldF_advance s t (AFE_MODE_RANGE m)
  have running : (s.advance t).afeRuns m = true := by
    rw [← runs, State.afeRuns, State.afeRuns, bit_congr (rd_advance s t _), State.afeMode, fld_advance]
    rfl
  have mode : (s.advance t).afeMode m = 7 := (fld_advance s t _).trans charges
  have early : ((s.advance t).resetEarly m charge).afe.earlyAt = none := by
    rw [State.resetEarly, chargeReset_earlyAt]
    exact (congrArg AfeState.earlyAt (State.advance_afe s t)).trans first
  refine (done_inCore core _).trans ?_
  rw [if_pos (by simp [range, running, mode, full])]
  extract_lets c marked reset frame due
  have same : reset = (s.advance t).resetEarly m charge := rfl
  rw [← same] at early ⊢
  have chosen : due = true := by
    unfold due
    rw [early]
  clear_value reset
  rw [if_pos chosen]
  rfl

theorem chargeEarlyReset_resets {s : State} {m : Fin 8} {charge : Int} (core : s.pwr.coreInReset = false) (runs : s.afeRuns m = true)
    (charges : s.afeMode m = 7) (full : 31 * chargeFull (s.chargeRange m) ≤ 32 * charge.natAbs) (first : s.afe.earlyAt = none) (t : Nat) :
    Gives (.chargeEarlyReset m t charge) s fun u => (u.afeChan m).satRange.isSome = true ∧ u.chargeRange m = s.fld (AFE_MODE_RANGE m)
      ∧ Logged u EV_AFE_EARLY_RESET := by
  refine ⟨_, chargeEarlyReset_exec core runs charges full first t, ?_⟩
  beta_reduce
  rw [afeChan_settle, chargeRange_settle, raiseEarly_chan, raiseEarly_range, resetEarly_range, fld_advance]
  exact ⟨resetEarly_sat _ m charge, rfl, logged_raise _ (by decide)⟩

theorem chargeEarlyReset_below {s : State} {m : Fin 8} {charge : Int} (below : 32 * charge.natAbs < 31 * chargeFull (s.chargeRange m))
    (t : Nat) : Gives (.chargeEarlyReset m t charge) s fun u => u.afe = s.afe ∧ Kept s u [] := by
  have range : (s.advance t).chargeRange m = s.chargeRange m := fldF_advance s t _
  cases core : s.pwr.coreInReset with
  | true => exact ⟨_, congrArg done (inCore_reset core _), settle_afe s, (Kept.refl s []).settle⟩
  | false =>
    refine ⟨_, (done_inCore core _).trans (by rw [if_neg (by simp [range]; omega)]), ?_⟩
    exact ⟨(settle_afe _).trans (State.advance_afe s t), ((Kept.refl s []).advance t).settle⟩

/-- Settles O33: a sample by the raw value it is formed from, an excitation and a range by the latch that puts them in force. -/
theorem frontEndSamples : Obligations.FrontEndSamples := by
  unfold Obligations.FrontEndSamples
  refine ⟨?idle, ?sample, polyValue_bounds, ?excitation, ?still, ?settled, ?reset, ?early, ?below⟩
  case idle => exact fun m a b f i s _ idle => afeOutputSample_idle a b f i idle
  case sample => exact fun m a b f i x s core runs settled steady raw => afeOutputSample_shows core runs settled steady raw
  case excitation => exact fun m e s core excited due => excitationZeroCrossing_takes core excited due
  case still => exact fun m s idle => excitationZeroCrossing_idle idle
  case settled => exact fun m e s core settling => settlingEnd_ends core settling
  case reset => exact fun m charge s core runs charges => chargeResetInstant_resets core runs charges charge
  case early => exact fun m t charge s core runs charges full first => chargeEarlyReset_resets core runs charges full first t
  case below => exact fun m t charge s below => chargeEarlyReset_below below t

end Sys2Proof.Machine
end

section
/-! PROOFS. The reference, the triggers and the control of the housekeeping converters (R280, R281, R284, R288). -/

namespace Sys2Proof.Machine

open Sys2Proof.Laws

theorem settleKey_adc : settleKey ADC_STATUS = false ∧ settleKey ADC_SEQ_NUM = false ∧ settleKey ADC_OVERRUN = false
    ∧ settleKey ADC_CTRL = false ∧ settleKey ADC_CFG_ERR = false := by decide

/-! ### The reference (R280) -/

/-- The reference is ready from `t` on, and shows it. -/
def State.referenceUp (s : State) (t : Nat) : State :=
  (({ s with adc := { s.adc with readyAt := some t } } : State).setFlag ADC_STATUS_REF_READY true).raise EV_ADC_REF_READY

theorem referenceUp_adc (s : State) (t : Nat) : (s.referenceUp t).adc = { s.adc with readyAt := some t } := by
  rw [State.referenceUp, State.raise_adc, State.setFlag_adc]

theorem referenceUp_now (s : State) (t : Nat) : (s.referenceUp t).now = s.now := by
  rw [State.referenceUp, State.raise_now, State.setFlag_now]

theorem referenceUp_ready (s : State) (t : Nat) : (s.referenceUp t).flag ADC_STATUS_REF_READY = true := by
  rw [State.referenceUp, flag_congr (rd_raise _ _ _)]
  exact flag_setFlag_same _ _ _ rfl (by decide)

theorem referenceReady_exec {s : State} {t : Nat} (core : s.pwr.coreInReset = false) (since : s.adc.refSince = some t)
    (unready : s.flag ADC_STATUS_REF_READY = false) :
    exec .referenceReady s = .next ((s.advance (t + 512000000)).referenceUp (t + 512000000)).settle := by
  refine (done_inCore core _).trans ?_
  rw [since]
  exact congrArg (fun u => Host.Outcome.next (State.settle u)) (if_neg (by simp [unready]))

theorem referenceReady_raises {s : State} {t0 : Nat} (core : s.pwr.coreInReset = false) (since : s.adc.refSince = some t0)
    (unready : s.flag ADC_STATUS_REF_READY = false) :
    Gives .referenceReady s fun t => t.flag ADC_STATUS_REF_READY = true ∧ t.adc.readyAt = some (t0 + 512000000)
      ∧ t.now = max s.now (t0 + 512000000) ∧ Logged t EV_ADC_REF_READY ∧ Kept s t [ADC_STATUS] := by
  refine ⟨_, referenceReady_exec core since unready, ?_⟩
  beta_reduce
  rw [settle_flag _ settleKey_adc.1, settle_adc, settle_now, referenceUp_adc, referenceUp_now]
  refine ⟨referenceUp_ready _ _, rfl, State.advance_now s _, logged_raise _ (by decide), ?_⟩
  exact (((((Kept.refl s _).advance _).adc _).setFlag (f := ADC_STATUS_REF_READY) true (List.mem_singleton_self _)).raise _).settle

theorem referenceReady_off {s : State} (off : s.adc.refSince = none) :
    Gives .referenceReady s fun t => t.adc = s.adc ∧ Kept s t [] :=
  ⟨_, congrArg done (inCore_id (by rw [off])), settle_adc s, (Kept.refl s []).settle⟩

/-! ### A sequence starts (R281, R284) -/

/-- A sequence is in progress from now on. -/
def State.beginSequence (s : State) : State :=
  ({ s with adc := { s.adc with seqStart := some s.now, readyBefore := [], trim := s.adc.trimNext.getD s.adc.trim, trimNext := none } } :
    State).setFlag ADC_STATUS_RUNNING true

theorem beginSequence_adc (s : State) : s.beginSequence.adc = { s.adc with
    seqStart := some s.now, readyBefore := [], trim := s.adc.trimNext.getD s.adc.trim, trimNext := none } := by
  rw [State.beginSequence, State.setFlag_adc]

theorem beginSequence_shows (s : State) : s.beginSequence.adc.seqStart = some s.now ∧ s.beginSequence.adc.staged = s.adc.staged
    ∧ s.beginSequence.adc.timerFrom = s.adc.timerFrom ∧ s.beginSequence.flag ADC_STATUS_RUNNING = true := by
  rw [beginSequence_adc]
  exact ⟨rfl, rfl, rfl, flag_setFlag_same _ _ _ rfl (by decide)⟩

theorem adcStart_unstaged {s : State} (none : s.adc.staged = none) : s.adcStart = s.beginSequence := by
  unfold State.adcStart
  rw [none]
  rfl

theorem adcStart_staged {s : State} {src : List (Nat × Word)} (waits : s.adc.staged = some src) :
    s.adcStart = (s.adcLatch src).beginSequence := by
  unfold State.adcStart
  rw [waits]
  rfl

theorem adcLatch_adc (s : State) (src : List (Nat × Word)) : (s.adcLatch src).adc = { s.adc with staged := none, timerFrom := s.now } := by
  unfold State.adcLatch
  rw [State.setFld_adc, State.setFlag_adc]
  rfl

theorem adcLatch_now (s : State) (src : List (Nat × Word)) : (s.adcLatch src).now = s.now := by
  unfold State.adcLatch
  rw [State.setFld_now, State.setFlag_now]
  rfl

/-- A sequence starts now, and takes what was committed (R281, R284). -/
theorem adcStart_shows (s : State) : s.adcStart.adc.seqStart = some s.now ∧ s.adcStart.adc.staged = none
    ∧ s.adcStart.flag ADC_STATUS_RUNNING = true := by
  cases waits : s.adc.staged with
  | none =>
    obtain ⟨start, staged, -, running⟩ := beginSequence_shows s
    rw [adcStart_unstaged waits]
    exact ⟨start, staged.trans waits, running⟩
  | some src =>
    obtain ⟨start, staged, -, running⟩ := beginSequence_shows (s.adcLatch src)
    rw [adcStart_staged waits]
    rw [adcLatch_now] at start
    rw [adcLatch_adc] at staged
    exact ⟨start, staged, running⟩

/-! ### Triggers (R281) -/

section
variable {s : State} {trig : Nat} (run : s.flag ADC_CTRL_RUN = true) (chosen : s.fldF ADC_SEQ_CFG_TRIG = trig)
include run chosen

theorem adcTrigger_starts (idle : s.adc.seqStart = none) : s.adcTrigger trig = s.adcStart := by
  unfold State.adcTrigger
  rw [if_neg (by simp [run, chosen]), if_neg (by simp [idle])]

/-- A trigger that is skipped counts in ADC_OVERRUN, and raises it where none was raised before. -/
theorem adcTrigger_skips {t0 : Nat} (busy : s.adc.seqStart = some t0) :
    (s.adcTrigger trig = s.bump ADC_OVERRUN_V 1 ∧ s.adc.overrunAt ≠ none) ∨ s.adcTrigger trig
      = ({ s.bump ADC_OVERRUN_V 1 with adc := { s.adc with overrunAt := some s.now } } : State).raise EV_ADC_OVERRUN := by
  unfold State.adcTrigger
  rw [if_neg (by simp [run, chosen]), if_pos (by simp [busy])]
  extract_lets counted due
  cases raises : due with
  | true => exact .inr (if_pos rfl)
  | false =>
    refine .inl ⟨if_neg Bool.false_ne_true, fun first => ?_⟩
    have same : counted.adc = s.adc := State.bump_adc s _ _
    simp [due, same, first] at raises

end

/-- The clock stands at the timer's instant, from which PERIOD counts again. -/
def State.timerInstant (s : State) (t : Nat) : State := { s.advance t with adc := { (s.advance t).adc with timerFrom := t } }

theorem adcTimerTrigger_starts {s : State} (core : s.pwr.coreInReset = false) (run : s.flag ADC_CTRL_RUN = true)
    (timer : s.fldF ADC_SEQ_CFG_TRIG = 0) (idle : s.adc.seqStart = none) (unstaged : s.adc.staged = none) :
    let at_ := s.adc.timerFrom + 256000 * s.fldF ADC_SEQ_CFG_PERIOD
    Gives .adcTimerTrigger s fun t => t.adc.seqStart = some (max s.now at_) ∧ t.adc.timerFrom = at_ ∧ t.flag ADC_STATUS_RUNNING = true
      ∧ Kept s t [ADC_STATUS] := by
  intro at_
  have adc : (s.timerInstant at_).adc = { s.adc with timerFrom := at_ } := by rw [State.timerInstant, State.advance_adc]
  have runs : (s.timerInstant at_).flag ADC_CTRL_RUN = true := (flag_advance s at_ _).trans run
  have chosen : (s.timerInstant at_).fldF ADC_SEQ_CFG_TRIG = 0 := (fldF_advance s at_ _).trans timer
  have started : (s.timerInstant at_).adcTrigger 0 = (s.timerInstant at_).beginSequence := by
    rw [adcTrigger_starts runs chosen (by rw [adc]; exact idle), adcStart_unstaged (by rw [adc]; exact unstaged)]
  refine ⟨(s.timerInstant at_).beginSequence.settle, ?_, ?_⟩
  · refine (done_inCore core _).trans ?_
    rw [if_pos (by simp [run, timer]), ← started]
    rfl
  · obtain ⟨start, -, counts, running⟩ := beginSequence_shows (s.timerInstant at_)
    rw [settle_adc, settle_flag _ settleKey_adc.1, start, counts, adc]
    refine ⟨congrArg some (State.advance_now s at_), rfl, running, ?_⟩
    exact (((((Kept.refl s _).advance at_).adc _).adc _).setFlag (f := ADC_STATUS_RUNNING) true (List.mem_singleton_self _)).settle

theorem adcGo_exec {p : Port} {s : State} (h : Reaches s p ADC_GO) : exec (.adcGo p) s = .next (s.adcTrigger 2).settle := by
  have written : s.adcWrite ADC_GO 1 = s.adcTrigger 2 := by
    unfold State.adcWrite
    rw [if_neg (by decide), if_neg (by decide), if_pos rfl, if_pos (by decide)]
  rw [← written]
  exact done_unowned h _

theorem adcGo_starts {p : Port} {s : State} (h : Reaches s p ADC_GO) (run : s.flag ADC_CTRL_RUN = true)
    (chosen : s.fldF ADC_SEQ_CFG_TRIG = 2) (idle : s.adc.seqStart = none) :
    Gives (.adcGo p) s fun t => t.adc.seqStart = some s.now ∧ t.adc.staged = none ∧ t.flag ADC_STATUS_RUNNING = true := by
  refine ⟨_, adcGo_exec h, ?_⟩
  beta_reduce
  rw [adcTrigger_starts run chosen idle, settle_adc, settle_flag _ settleKey_adc.1]
  exact adcStart_shows s

theorem adcGo_skips {p : Port} {s : State} {t0 : Nat} (h : Reaches s p ADC_GO) (run : s.flag ADC_CTRL_RUN = true)
    (chosen : s.fldF ADC_SEQ_CFG_TRIG = 2) (busy : s.adc.seqStart = some t0) :
    Gives (.adcGo p) s fun t => t.adc.seqStart = some t0 ∧ (s.adc.overrunAt = none → Logged t EV_ADC_OVERRUN)
      ∧ t.fld ADC_OVERRUN_V = min (2 ^ (ADC_OVERRUN_V.hi + 1 - ADC_OVERRUN_V.lo) - 1) (s.fld ADC_OVERRUN_V + 1) ∧ Kept s t [ADC_OVERRUN] := by
  have counted := fld_bump_same s ADC_OVERRUN_V 1 (by decide) (by decide)
  have kept : Kept s (s.bump ADC_OVERRUN_V 1) [ADC_OVERRUN] := (Kept.refl s _).bump 1 (List.mem_singleton_self _)
  refine ⟨_, adcGo_exec h, ?_⟩
  beta_reduce
  rw [settle_adc, settle_fld _ (f := ADC_OVERRUN_V) settleKey_adc.2.2.1]
  obtain ⟨skipped, before⟩ | skipped := adcTrigger_skips run chosen busy
  · rw [skipped]
    exact ⟨busy, fun first => absurd first before, counted, kept.settle⟩
  · rw [skipped]
    exact ⟨busy, fun _ => logged_raise _ (by decide), counted, ((kept.adc _).raise _).settle⟩

/-! ### Writes of ADC_CTRL (R280, R281, R288) -/

theorem acc_adcCtrl : accOf ADC_CTRL = some (.rw, 0x13) := by decide +kernel

/-- The reference is off: what it was ready for is noted, and it is not ready (R280). -/
def State.referenceDown (s : State) : State :=
  ({ s with adc := { s.adc with refSince := none, readyAt := none,
                                readyBefore := s.adc.readyBefore ++ (s.adc.readyAt.map (fun r => (r, s.now))).toList } } : State).setFlag
    ADC_STATUS_REF_READY false

/-- What a change of REF_EN does, where it stood at `was`. -/
def State.switchReference (s : State) (was : Bool) : State :=
  if s.flag ADC_CTRL_REF_EN && !was then { s with adc := { s.adc with refSince := some s.now } }
  else if was && !s.flag ADC_CTRL_REF_EN then s.referenceDown
  else s

/-- The sequence in progress is abandoned, and no bias reading stands (R288). -/
def State.abandonSequence (s : State) : State :=
  ((({ s with adc := { s.adc with seqStart := none } } : State).setFlag ADC_STATUS_RUNNING false).setFld DET_HV_V 0).biasNone

/-- What a change of RUN does, where it stood at `was`. -/
def State.switchRun (s : State) (was : Bool) : State :=
  if s.flag ADC_CTRL_RUN && !was then { s with adc := { s.adc with timerFrom := s.now } }
  else if was && !s.flag ADC_CTRL_RUN then s.abandonSequence
  else s

theorem adcCtrl_refuses {s : State} {v : Word} (on : s.flag ADC_CTRL_REF_EN = true) (changes : v.toNat.testBit 4 ≠ s.flag ADC_CTRL_REF_SRC) :
    s.adcCtrl v = s.refuseWith ADC_CFG_ERR EV_ADC_CFG_ERROR 0x0500FFFF := by
  unfold State.adcCtrl
  rw [if_pos (by simp [on, changes])]
  rfl

theorem adcCtrl_takes {s : State} {v : Word} (same : s.flag ADC_CTRL_REF_EN = false ∨ v.toNat.testBit 4 = s.flag ADC_CTRL_REF_SRC) :
    s.adcCtrl v = ((s.wr ADC_CTRL (s.stored ADC_CTRL v)).switchReference (s.flag ADC_CTRL_REF_EN)).switchRun (s.flag ADC_CTRL_RUN) := by
  unfold State.adcCtrl
  rw [if_neg (by rcases same with off | src <;> simp_all), plainWrite_stored s v acc_adcCtrl]
  rfl

theorem switchReference_frame (s : State) (was : Bool) :
    (s.switchReference was).rd ADC_CTRL = s.rd ADC_CTRL ∧ (s.switchReference was).now = s.now := by
  have down : s.referenceDown.rd ADC_CTRL = s.rd ADC_CTRL ∧ s.referenceDown.now = s.now := by
    unfold State.referenceDown
    rw [rd_setFlag, if_neg (by decide), State.setFlag_now]
    exact ⟨rfl, rfl⟩
  unfold State.switchReference
  split
  · exact ⟨rfl, rfl⟩
  · split
    · exact down
    · exact ⟨rfl, rfl⟩

theorem switchReference_on {s : State} (on : s.flag ADC_CTRL_REF_EN = true) : (s.switchReference false).adc.refSince = some s.now := by
  rw [State.switchReference, if_pos (by simp [on])]

theorem switchReference_off {s : State} (off : s.flag ADC_CTRL_REF_EN = false) :
    (s.switchReference true).flag ADC_STATUS_REF_READY = false := by
  rw [State.switchReference, if_neg (by simp [off]), if_pos (by simp [off])]
  exact flag_setFlag_same _ _ _ rfl (by decide)

theorem biasNone_adc (s : State) : s.biasNone.adc = s.adc := by rw [State.biasNone, State.setFlag_adc]

theorem biasNone_rd (s : State) {k : Nat} (status : k ≠ DET_STATUS) : s.biasNone.rd k = s.rd k :=
  rd_wr_other { s with det := { s.det with hvBad := 0, hvSeen := false } } _ status

theorem abandonSequence_adc (s : State) : s.abandonSequence.adc = { s.adc with seqStart := none } := by
  rw [State.abandonSequence, biasNone_adc, State.setFld_adc, State.setFlag_adc]

theorem abandonSequence_rd (s : State) {k : Nat} (hv : k ≠ DET_HV) (status : k ≠ DET_STATUS) : s.abandonSequence.rd k
    = (({ s with adc := { s.adc with seqStart := none } } : State).setFlag ADC_STATUS_RUNNING false).rd k := by
  rw [State.abandonSequence, biasNone_rd _ status, rd_setFld]
  exact if_neg hv

theorem abandonSequence_shows (s : State) : s.abandonSequence.rd ADC_CTRL = s.rd ADC_CTRL ∧ s.abandonSequence.adc.refSince = s.adc.refSince
    ∧ s.abandonSequence.flag ADC_STATUS_REF_READY = s.flag ADC_STATUS_REF_READY ∧ s.abandonSequence.adc.seqStart = none
    ∧ s.abandonSequence.flag ADC_STATUS_RUNNING = false := by
  have status := abandonSequence_rd s (k := ADC_STATUS) (by decide) (by decide)
  rw [abandonSequence_adc, abandonSequence_rd s (by decide) (by decide), flag_congr (f := ADC_STATUS_REF_READY) status,
    flag_congr (f := ADC_STATUS_RUNNING) status, rd_setFlag, if_neg (by decide)]
  exact ⟨rfl, rfl, Laws.flag_setFlag_other _ _ _ _ (by decide) (by decide) (.inr (.inr (by decide))), rfl,
    flag_setFlag_same _ _ _ rfl (by decide)⟩

theorem switchRun_frame (s : State) (was : Bool) : (s.switchRun was).rd ADC_CTRL = s.rd ADC_CTRL
    ∧ (s.switchRun was).adc.refSince = s.adc.refSince ∧ (s.switchRun was).flag ADC_STATUS_REF_READY = s.flag ADC_STATUS_REF_READY := by
  unfold State.switchRun
  split
  · exact ⟨rfl, rfl, rfl⟩
  · split
    · obtain ⟨ctrl, since, ready, -⟩ := abandonSequence_shows s
      exact ⟨ctrl, since, ready⟩
    · exact ⟨rfl, rfl, rfl⟩

/-- Clearing RUN abandons the sequence (log entry 85). -/
theorem switchRun_stops {s : State} (stopped : s.flag ADC_CTRL_RUN = false) :
    (s.switchRun true).adc.seqStart = none ∧ (s.switchRun true).flag ADC_STATUS_RUNNING = false := by
  rw [State.switchRun, if_neg (by simp [stopped]), if_pos (by simp [stopped])]
  exact (abandonSequence_shows s).2.2.2

theorem adcControl_exec {p : Port} {s : State} (h : Reaches s p ADC_CTRL) (v : BitVec 5) :
    exec (.adcControlWrite p v) s = .next (s.adcCtrl (v.setWidth 32)).settle := by
  have written : s.adcWrite ADC_CTRL (v.setWidth 32) = s.adcCtrl (v.setWidth 32) := if_pos rfl
  rw [← written]
  exact done_unowned h _

theorem refSrc_bit (v : BitVec 5) : (v.setWidth 32).toNat.testBit 4 = v.getLsbD 4 := by
  rw [BitVec.testBit_toNat, BitVec.getLsbD_setWidth]
  simp

theorem adcControl_takes {p : Port} {v : BitVec 5} {s : State} (h : Reaches s p ADC_CTRL)
    (same : s.flag ADC_CTRL_REF_EN = false ∨ v.getLsbD 4 = s.flag ADC_CTRL_REF_SRC) :
    Gives (.adcControlWrite p v) s fun t => t.rd ADC_CTRL = s.stored ADC_CTRL (v.setWidth 32)
      ∧ (s.flag ADC_CTRL_RUN = true → t.flag ADC_CTRL_RUN = false → t.adc.seqStart = none ∧ t.flag ADC_STATUS_RUNNING = false)
      ∧ (s.flag ADC_CTRL_REF_EN = false → t.flag ADC_CTRL_REF_EN = true → t.adc.refSince = some s.now)
      ∧ (s.flag ADC_CTRL_REF_EN = true → t.flag ADC_CTRL_REF_EN = false → t.flag ADC_STATUS_REF_READY = false) := by
  let a := s.wr ADC_CTRL (s.stored ADC_CTRL (v.setWidth 32))
  let b := a.switchReference (s.flag ADC_CTRL_REF_EN)
  have taken : s.adcCtrl (v.setWidth 32) = b.switchRun (s.flag ADC_CTRL_RUN) := adcCtrl_takes (by rw [refSrc_bit]; exact same)
  obtain ⟨statusKey, -, -, ctrlKey, -⟩ := settleKey_adc
  obtain ⟨refCtrl, refNow⟩ := switchReference_frame a (s.flag ADC_CTRL_REF_EN)
  obtain ⟨runCtrl, since, ready⟩ := switchRun_frame b (s.flag ADC_CTRL_RUN)
  refine ⟨_, adcControl_exec h v, ?_⟩
  beta_reduce
  rw [taken, settle_rd _ ctrlKey, settle_adc, settle_flag _ (f := ADC_CTRL_RUN) ctrlKey, settle_flag _ (f := ADC_STATUS_RUNNING) statusKey,
    settle_flag _ (f := ADC_CTRL_REF_EN) ctrlKey, settle_flag _ (f := ADC_STATUS_REF_READY) statusKey,
    flag_congr (f := ADC_CTRL_RUN) runCtrl, flag_congr (f := ADC_CTRL_REF_EN) (runCtrl.trans refCtrl), since, ready]
  refine ⟨(runCtrl.trans refCtrl).trans (rd_wr_same s _ _), fun ran stopped => ?_, fun was on => ?_, fun was off => ?_⟩
  · rw [ran]
    exact switchRun_stops stopped
  · exact (congrArg (fun w => (a.switchReference w).adc.refSince) was).trans (switchReference_on on)
  · exact (congrArg (fun w => (a.switchReference w).flag ADC_STATUS_REF_READY) was).trans (switchReference_off off)

/-- A refusal of the converters changes ADC_CFG_ERR alone (R486). -/
theorem adcRefused (s : State) (w : Nat) :
    let t := (s.refuseWith ADC_CFG_ERR EV_ADC_CFG_ERROR w).settle
    t.rd ADC_CFG_ERR = BitVec.ofNat 32 w ∧ Logged t EV_ADC_CFG_ERROR ∧ t.adc = s.adc ∧ Kept s t [ADC_CFG_ERR] := by
  obtain ⟨err, logged, -, kept⟩ := refuseWith_settles s (k := ADC_CFG_ERR) (ev := EV_ADC_CFG_ERROR) w (by decide) (by decide)
  exact ⟨err, logged, settle_adc _, kept⟩

theorem adcControl_refuses {p : Port} {v : BitVec 5} {s : State} (h : Reaches s p ADC_CTRL) (on : s.flag ADC_CTRL_REF_EN = true)
    (changes : v.getLsbD 4 ≠ s.flag ADC_CTRL_REF_SRC) :
    Gives (.adcControlWrite p v) s fun t => t.rdN ADC_CFG_ERR = 0x0500FFFF ∧ Logged t EV_ADC_CFG_ERROR ∧ t.adc = s.adc
      ∧ Kept s t [ADC_CFG_ERR] := by
  obtain ⟨err, logged, adc, kept⟩ := adcRefused s 0x0500FFFF
  refine ⟨_, adcControl_exec h v, ?_⟩
  beta_reduce
  rw [adcCtrl_refuses on (by rw [refSrc_bit]; exact changes), State.rdN, err]
  exact ⟨rfl, logged, adc, kept⟩

/-! ### The commit (R284) -/

theorem adcCommit_exec {p : Port} {s : State} (h : Reaches s p ADC_COMMIT) : exec (.adcCommit p) s = .next s.adcCommit.settle := by
  have written : s.adcWrite ADC_COMMIT 1 = s.adcCommit := by
    unfold State.adcWrite
    rw [if_neg (by decide), if_pos rfl, if_pos (by decide)]
  rw [← written]
  exact done_unowned h _

/-- The shadow set waits for the next sequence. -/
def State.stageAdc (s : State) : State :=
  ({ s with adc := { s.adc with staged := some s.adcShadow } } : State).setFlag ADC_STATUS_COMMIT_PENDING true

section
variable {p : Port} {s : State} (h : Reaches s p ADC_COMMIT)
include h

theorem adcCommit_stages (passes : s.adcCheckCode.1 = 0) (run : s.flag ADC_CTRL_RUN = true) :
    Gives (.adcCommit p) s fun t => t.adc.staged = some s.adcShadow ∧ t.flag ADC_STATUS_COMMIT_PENDING = true ∧ Kept s t [ADC_STATUS] := by
  have staged : s.adcCommit = s.stageAdc := by
    unfold State.adcCommit
    exact (if_neg (not_not_intro passes)).trans (if_pos run)
  refine ⟨_, adcCommit_exec h, ?_⟩
  beta_reduce
  rw [staged, settle_adc, settle_flag _ settleKey_adc.1]
  refine ⟨rfl, flag_setFlag_same _ _ _ rfl (by decide), ?_⟩
  exact (((Kept.refl s _).adc _).setFlag (f := ADC_STATUS_COMMIT_PENDING) true (List.mem_singleton_self _)).settle

theorem adcCommit_refuses {c d : Nat} (fails : s.adcCheckCode = (c, d)) (code : c ≠ 0) :
    Gives (.adcCommit p) s fun t => t.rd ADC_CFG_ERR = BitVec.ofNat 32 (c * 2 ^ 24 + d % 2 ^ 16) ∧ Logged t EV_ADC_CFG_ERROR
      ∧ t.adc = s.adc ∧ Kept s t [ADC_CFG_ERR] := by
  have refused : s.adcCommit = s.refuseWith ADC_CFG_ERR EV_ADC_CFG_ERROR (c * 2 ^ 24 + d % 2 ^ 16) := by
    unfold State.adcCommit
    rw [fails]
    exact if_pos code
  refine ⟨_, adcCommit_exec h, ?_⟩
  rw [refused]
  exact adcRefused s _

end

/-- A register of the converters' set reads the same in the shadow set. -/
theorem adcShadow_rd (s : State) {k : Nat} (h : k = ADC_SEQ_CFG ∨ k = ADC_CHECK_CFG ∨ (ADC_STEP 0 ≤ k ∧ k < ADC_STEP 64)) :
    tabGet (resetOf k) s.adcShadow k = s.rd k := by
  let listed : Nat → Bool := fun k => k = ADC_SEQ_CFG || k = ADC_CHECK_CFG || (ADC_STEP 0 ≤ k && k < ADC_STEP 64)
  exact tabGet_filter (resetOf k) s.regs listed (by simpa [listed, or_assoc] using h)

/-- The three spans of registers that a set puts in force. -/
def State.latchSpans (s : State) (src : List (Nat × Word)) : State :=
  ((s.latch ADC_SEQ_CFG (ADC_SEQ_CFG + 4) src).latch ADC_CHECK_CFG (ADC_CHECK_CFG + 4) src).latch (ADC_STEP 0) (ADC_STEP 64) src

theorem adcLatch_inForce (s : State) (src : List (Nat × Word)) : (s.adcLatch src).inForce = (s.latchSpans src).inForce := by
  unfold State.adcLatch
  rw [State.setFld_inForce, State.setFlag_inForce]
  rfl

/-- A set put in force: ADC_SEQ_CFG, ADC_CHECK_CFG and the steps as it lists them. -/
theorem latchSpans_force (s : State) (src : List (Nat × Word)) :
    (s.latchSpans src).rdF ADC_SEQ_CFG = tabGet (resetOf ADC_SEQ_CFG) src ADC_SEQ_CFG
      ∧ (s.latchSpans src).rdF ADC_CHECK_CFG = tabGet (resetOf ADC_CHECK_CFG) src ADC_CHECK_CFG
      ∧ ∀ k < 64, (s.latchSpans src).rdF (ADC_STEP k) = tabGet (resetOf (ADC_STEP k)) src (ADC_STEP k) := by
  unfold State.latchSpans
  refine ⟨?_, ?_, fun k hk => ?_⟩
  · rw [rdF_latch _ _ _ (by decide), if_neg (by decide), rdF_latch _ _ _ (by decide), if_neg (by decide), rdF_latch _ _ _ (by decide),
      if_pos (by decide)]
  · rw [rdF_latch _ _ _ (by decide), if_neg (by decide), rdF_latch _ _ _ (by decide), if_pos (by decide)]
  · rw [rdF_latch _ _ _ (by decide), if_pos (by simp only [ADC_STEP]; omega)]

theorem adcCommit_latches {p : Port} {s : State} (h : Reaches s p ADC_COMMIT) (passes : s.adcCheckCode.1 = 0)
    (stopped : s.flag ADC_CTRL_RUN = false) :
    Gives (.adcCommit p) s fun t => t.adc.staged = none ∧ t.rdF ADC_SEQ_CFG = s.rd ADC_SEQ_CFG ∧ t.rdF ADC_CHECK_CFG = s.rd ADC_CHECK_CFG
      ∧ ∀ k < 64, t.rdF (ADC_STEP k) = s.rd (ADC_STEP k) := by
  have latched : s.adcCommit = s.adcLatch s.adcShadow := by
    unfold State.adcCommit
    exact (if_neg (not_not_intro passes)).trans (if_neg (by simp [stopped]))
  obtain ⟨seq, check, steps⟩ := latchSpans_force s s.adcShadow
  have force (k : Nat) : (s.adcLatch s.adcShadow).settle.rdF k = (s.latchSpans s.adcShadow).rdF k :=
    rdF_congr ((settle_inForce _).trans (adcLatch_inForce s _)) k
  refine ⟨_, adcCommit_exec h, ?_⟩
  beta_reduce
  rw [latched, settle_adc, adcLatch_adc, force, force, seq, check, adcShadow_rd s (.inl rfl), adcShadow_rd s (.inr (.inl rfl))]
  refine ⟨rfl, rfl, rfl, fun k hk => ?_⟩
  rw [force, steps k hk, adcShadow_rd s (.inr (.inr (by simp only [ADC_STEP]; omega)))]

/-! ### Codes saturate (R278) -/

theorem adcCode_bounds (g : Nat) (v : Int) :
    0 ≤ (adcCode false g v).1 ∧ (adcCode false g v).1 ≤ 16383 ∧ -8192 ≤ (adcCode true g v).1 ∧ (adcCode true g v).1 ≤ 8191 := by
  obtain ⟨least, most⟩ := clampI_bounds (roundDiv (v * 2 ^ g * 16384) 2500000000) (lo := 0) (hi := 16383) (by decide)
  obtain ⟨low, high⟩ := clampI_bounds (roundDiv (v * 2 ^ g * 8192) 2500000000) (lo := -8192) (hi := 8191) (by decide)
  exact ⟨least, most, low, high⟩

end Sys2Proof.Machine
end

section
/-! PROOFS. The end of a sequence: the check, the set that is published, the bias reading and the chains it feeds (R272, R283, R287, R288). -/

namespace Sys2Proof.Machine

open Sys2Proof.Laws

/-! ### The check (R287) -/

theorem judgeCheck_seqNum (s : State) (c0 c1 : Int) (ready : Bool) : (s.judgeCheck c0 c1 ready).1.rd ADC_SEQ_NUM = s.rd ADC_SEQ_NUM := by
  unfold State.judgeCheck
  extract_lets was counted adc judged n
  have apart : judged.rd ADC_SEQ_NUM = s.rd ADC_SEQ_NUM := by
    unfold judged
    rw [rd_setFlag, if_neg (by decide)]
    exact rd_wr_other s _ (by decide)
  split
  · rfl
  · split
    · exact (rd_raiseIf _ _ _ _).trans apart
    · rfl

/-- Check codes that differ by more than TOL make the sequence suspect, and SUSPECT does not clear at its end. -/
theorem judgeCheck_disagrees {s : State} {c0 c1 : Int} (differ : s.fldF ADC_CHECK_CFG_TOL < (c0 - c1).natAbs) :
    (s.judgeCheck c0 c1 true).1.flag ADC_STATUS_SUSPECT = true ∧ (s.judgeCheck c0 c1 true).1.adc.agree = 0
      ∧ (s.judgeCheck c0 c1 true).2.2 = false := by
  unfold State.judgeCheck
  rw [if_neg (by decide), if_pos differ]
  extract_lets was counted judged
  refine ⟨?_, ?_, rfl⟩
  · rw [flag_congr (rd_raiseIf _ _ _ _)]
    exact flag_setFlag_same _ _ _ rfl (by decide)
  · rw [State.raiseIf_adc]
    unfold judged
    rw [State.setFlag_adc]

/-! ### The set (R283) -/

/-- A set is published, and no sequence runs. -/
def State.publishSet (s : State) (set : AdcSet) : State :=
  let keep := s.adc.kept.filter (fun (e : AdcSet) => s.portA.adcSel = some e.seq || s.portB.adcSel = some e.seq)
  (({ s with adc := { s.adc with seqStart := none, kept := set :: keep } } : State).wrN ADC_SEQ_NUM set.seq).setFlag ADC_STATUS_RUNNING false

theorem publishSet_adc (s : State) (set : AdcSet) :
    ∃ rest, (s.publishSet set).adc = { s.adc with seqStart := none, kept := set :: rest } := by
  unfold State.publishSet
  rw [State.setFlag_adc, State.wrN_adc]
  exact ⟨_, rfl⟩

theorem publishSet_seqNum (s : State) (set : AdcSet) : (s.publishSet set).rd ADC_SEQ_NUM = BitVec.ofNat 32 set.seq := by
  unfold State.publishSet
  rw [rd_setFlag, if_neg (by decide)]
  exact rd_wr_same _ _ _

theorem publishSet_status (s : State) (set : AdcSet) : (s.publishSet set).flag ADC_STATUS_RUNNING = false
    ∧ (s.publishSet set).flag ADC_STATUS_SUSPECT = s.flag ADC_STATUS_SUSPECT := by
  unfold State.publishSet
  refine ⟨flag_setFlag_same _ _ _ rfl (by decide), ?_⟩
  rw [Laws.flag_setFlag_other _ _ _ _ (by decide) (by decide) (.inr (.inr (by decide)))]
  exact flag_congr (rd_wr_other _ _ (by decide))

/-! ### What follows from the set (R272, R288) -/

theorem biasReading_untouched {k : Nat} (hv : k ≠ DET_HV) (status : k ≠ DET_STATUS) (ctrl : k ≠ DET_CTRL) (s : State) (v : Nat) :
    Untouched k s (s.biasReading v) := by
  unfold State.biasReading
  extract_lets shown ok bad det judged off
  have read : Untouched k s judged :=
    (Untouched.setFld s DET_HV_V _ hv).trans ((Untouched.det shown _).trans (.setFlag _ DET_STATUS_HV_OK ok status))
  have latched : Untouched k judged off := (Untouched.setFlag judged DET_CTRL_ENABLE _ ctrl).trans (.setFlag _ DET_STATUS_HV_FAULT _ status)
  exact .ite (read.trans (latched.trans ((Untouched.det off _).trans (.raise _ _)))) read

theorem chainFromAdc_untouched {j k : Nat} (spared : k ∉ sampleKeys j) (s : State) (r0 r1 : List AdcResult) :
    Untouched k s (s.chainFromAdc j r0 r1) :=
  .ite (.foldl (fun t _ => chainSample_untouched spared t _ _ _) _ s) (.foldl (fun t _ => chainSample_untouched spared t _ _ _) _ s)

/-- Chains 8 to 11 take the results of their inputs. -/
def State.feedChains (s : State) (r0 r1 : State → Nat → List AdcResult) : State :=
  (List.range 4).foldl (fun s i => s.chainFromAdc (8 + i) (r0 s i) (r1 s i)) s

/-- The registers that show a sequence lie apart from what a chain writes. -/
theorem adc_spared (j : Nat) : ADC_STATUS ∉ sampleKeys j ∧ ADC_SEQ_NUM ∉ sampleKeys j := by
  simp [sampleKeys, judgeKeys, ADC_STATUS, ADC_SEQ_NUM, FLT_VALUE, FLT_COUNT, FLT_PEAK, FLT_RMS, FLT_ENV, FLT_SW_STATE, FLT_EVT_INFO, FLT_TRIP]
  omega

/-- The bias reading and the chains leave what the converters show. -/
theorem feedChains_untouched (s : State) (v : Nat) (r0 r1 : State → Nat → List AdcResult) :
    Untouched ADC_STATUS s ((s.biasReading v).feedChains r0 r1) ∧ Untouched ADC_SEQ_NUM s ((s.biasReading v).feedChains r0 r1) :=
  ⟨(biasReading_untouched (by decide) (by decide) (by decide) s v).trans
      (.foldl (fun t i => chainFromAdc_untouched (adc_spared (8 + i)).1 t _ _) _ _),
    (biasReading_untouched (by decide) (by decide) (by decide) s v).trans
      (.foldl (fun t i => chainFromAdc_untouched (adc_spared (8 + i)).2 t _ _) _ _)⟩

/-! ### The end of the sequence -/

/-- SUSPECT clears where the check says so. -/
def State.clearSuspect (s : State) (clears : Bool) : State := if clears then s.setFlag ADC_STATUS_SUSPECT false else s

theorem clearSuspect_frame (s : State) (clears : Bool) : (s.clearSuspect clears).adc = s.adc
    ∧ (s.clearSuspect clears).rd ADC_SEQ_NUM = s.rd ADC_SEQ_NUM
    ∧ (s.clearSuspect clears).flag ADC_STATUS_RUNNING = s.flag ADC_STATUS_RUNNING := by
  unfold State.clearSuspect
  split
  · exact ⟨State.setFlag_adc _ _ _, rd_wr_other s _ (by decide),
      Laws.flag_setFlag_other s _ _ _ (by decide) (by decide) (.inr (.inl (by decide)))⟩
  · exact ⟨rfl, rfl, rfl⟩

/-- A sequence's end: the check is judged, a set is published, and the bias reading and the chains follow. -/
theorem adcEnd_forms (s : State) (start : Nat) (check bias : Int × Int) (volts : List (Int × Int)) :
    let judged := s.judgeCheck (adcCode false 0 check.1).1 (adcCode false 0 check.2).1 (s.refReadyAt start)
    ∃ set v r0 r1, set.seq = (judged.1.rdN ADC_SEQ_NUM + 1) % 2 ^ 32 ∧ set.check0 = (adcCode false 0 check.1).1.toNat
      ∧ set.check1 = (adcCode false 0 check.2).1.toNat
      ∧ s.adcEnd start check bias volts = (((judged.1.publishSet set).biasReading v).feedChains r0 r1).clearSuspect judged.2.2 :=
  ⟨⟨_, _, _, _, _, _⟩, _, _, _, rfl, rfl, rfl, rfl⟩

theorem adcEnd_publishes (s : State) (start : Nat) (check bias : Int × Int) (volts : List (Int × Int)) :
    let t := s.adcEnd start check bias volts
    t.adc.seqStart = none ∧ t.flag ADC_STATUS_RUNNING = false ∧ t.rd ADC_SEQ_NUM = s.rd ADC_SEQ_NUM + 1
      ∧ (∃ x rest, t.adc.kept = x :: rest ∧ x.seq = t.rdN ADC_SEQ_NUM ∧ x.check0 = (adcCode false 0 check.1).1.toNat
        ∧ x.check1 = (adcCode false 0 check.2).1.toNat)
      ∧ (s.refReadyAt start = true → s.fldF ADC_CHECK_CFG_TOL < ((adcCode false 0 check.1).1 - (adcCode false 0 check.2).1).natAbs →
          t.flag ADC_STATUS_SUSPECT = true ∧ t.adc.agree = 0) := by
  intro t
  obtain ⟨set, v, r0, r1, seq, check0, check1, forms⟩ := adcEnd_forms s start check bias volts
  generalize judges : s.judgeCheck (adcCode false 0 check.1).1 (adcCode false 0 check.2).1 (s.refReadyAt start) = judged at seq forms
  have numbered : judged.1.rd ADC_SEQ_NUM = s.rd ADC_SEQ_NUM := judges ▸ judgeCheck_seqNum s _ _ _
  obtain ⟨rest, adc⟩ := publishSet_adc judged.1 set
  obtain ⟨stopped, suspect⟩ := publishSet_status judged.1 set
  obtain ⟨status, num⟩ := feedChains_untouched (judged.1.publishSet set) v r0 r1
  obtain ⟨shownAdc, shownNum, shownRun⟩ := clearSuspect_frame (((judged.1.publishSet set).biasReading v).feedChains r0 r1) judged.2.2
  rw [← forms] at shownAdc shownNum shownRun
  have kept : t.adc = { judged.1.adc with seqStart := none, kept := set :: rest } := (shownAdc.trans status.adc).trans adc
  have word : t.rd ADC_SEQ_NUM = BitVec.ofNat 32 set.seq := (shownNum.trans num.rd).trans (publishSet_seqNum _ _)
  have next : BitVec.ofNat 32 set.seq = s.rd ADC_SEQ_NUM + 1 := by
    rw [seq, ← numbered, ← ofNat_rdN_succ]
    exact BitVec.eq_of_toNat_eq (by simp)
  have small : set.seq < 2 ^ 32 := seq ▸ Nat.mod_lt _ (by decide)
  refine ⟨by rw [kept], ?_, word.trans next, ⟨set, rest, by rw [kept], ?_, check0, check1⟩, fun ready differ => ?_⟩
  · exact shownRun.trans ((flag_congr (f := ADC_STATUS_RUNNING) status.rd).trans stopped)
  · rw [State.rdN, word, BitVec.toNat_ofNat, Nat.mod_eq_of_lt small]
  · obtain ⟨marks, restarts, stays⟩ := judgeCheck_disagrees differ
    rw [ready] at judges
    rw [judges] at marks restarts stays
    have shown : t = ((judged.1.publishSet set).biasReading v).feedChains r0 r1 := forms.trans (by rw [stays]; rfl)
    refine ⟨?_, by rw [kept]; exact restarts⟩
    rw [shown]
    exact (flag_congr (f := ADC_STATUS_SUSPECT) status.rd).trans (suspect.trans marks)

theorem adcSequenceEnd_exec {s : State} {t0 : Nat} (core : s.pwr.coreInReset = false) (runs : s.adc.seqStart = some t0)
    (check bias : Int × Int) (volts : List (Int × Int)) :
    exec (.adcSequenceEnd check bias volts) s
      = .next ((s.advance (t0 + s.stepOffset s.adcSteps)).adcEnd t0 check bias volts).settle := by
  refine (done_inCore core _).trans ?_
  rw [runs]

theorem adcSequenceEnd_publishes {s : State} {t0 : Nat} (core : s.pwr.coreInReset = false) (runs : s.adc.seqStart = some t0)
    (c b : Int × Int) (v : List (Int × Int)) :
    Gives (.adcSequenceEnd c b v) s fun t => t.adc.seqStart = none ∧ t.flag ADC_STATUS_RUNNING = false
      ∧ t.rd ADC_SEQ_NUM = s.rd ADC_SEQ_NUM + 1 ∧ (∃ x rest, t.adc.kept = x :: rest ∧ x.seq = t.rdN ADC_SEQ_NUM
        ∧ x.check0 = (adcCode false 0 c.1).1.toNat ∧ x.check1 = (adcCode false 0 c.2).1.toNat)
      ∧ (s.refReadyAt t0 = true → (s.fldF ADC_CHECK_CFG_TOL : Nat) < ((adcCode false 0 c.1).1 - (adcCode false 0 c.2).1).natAbs →
          t.flag ADC_STATUS_SUSPECT = true ∧ t.adc.agree = 0) := by
  obtain ⟨statusKey, numKey, -⟩ := settleKey_adc
  obtain ⟨start, running, num, kept, suspect⟩ := adcEnd_publishes (s.advance (t0 + s.stepOffset s.adcSteps)) t0 c b v
  have ready : (s.advance (t0 + s.stepOffset s.adcSteps)).refReadyAt t0 = s.refReadyAt t0 := by
    rw [State.refReadyAt, State.advance_adc, State.refReadyAt]
  rw [ready, fldF_advance] at suspect
  refine ⟨_, adcSequenceEnd_exec core runs c b v, ?_⟩
  beta_reduce
  rw [settle_adc, settle_flag _ (f := ADC_STATUS_RUNNING) statusKey, settle_rd _ numKey, settle_rdN _ numKey,
    settle_flag _ (f := ADC_STATUS_SUSPECT) statusKey]
  exact ⟨start, running, num.trans (by rw [rd_advance]), kept, suspect⟩

end Sys2Proof.Machine
end

section
/-! PROOFS. Writes of the front end and of the filter chains (R264, R266, R267, R271, R275), and O34. -/

namespace Sys2Proof.Machine

open Sys2Proof.Laws

/-! ### Refusals (R275) -/

/-- The definition is unfolded as a function, and its offset and its check are made opaque before its branches are read: the kernel would
evaluate both down from the offset's literal (see `ctlWrite_coefficient`). -/
theorem afeWrite_refuses {s : State} {off c d : Nat} {v : Word} (fails : s.afeWriteCode (off - 0x3C0000) v = (c, d)) (code : c ≠ 0) :
    s.afeWrite off v = s.refuseWith AFE_CFG_ERR EV_AFE_CFG_ERROR (c * 2 ^ 24 + d % 2 ^ 16) := by
  obtain ⟨o, offset⟩ : ∃ o, o = off - 0x3C0000 := ⟨_, rfl⟩
  obtain ⟨codeOf, codes⟩ : ∃ f, f = State.afeWriteCode := ⟨_, rfl⟩
  obtain ⟨f, unfolded⟩ : ∃ f, f = State.afeWrite := ⟨_, rfl⟩
  rw [← unfolded]
  delta State.afeWrite at unfolded
  replace unfolded := congrFun (congrFun (congrFun unfolded s) off) v
  beta_reduce at unfolded
  rw [← offset, ← codes] at unfolded fails
  simp only [fails] at unfolded
  exact unfolded.trans ((if_pos code).trans (refuse_eq s _ _ c d))

/-- A refusal of the front end changes AFE_CFG_ERR alone (R486). -/
theorem afeRefused (s : State) (w : Nat) :
    let t := (s.refuseWith AFE_CFG_ERR EV_AFE_CFG_ERROR w).settle
    t.rd AFE_CFG_ERR = BitVec.ofNat 32 w ∧ Logged t EV_AFE_CFG_ERROR ∧ t.afe = s.afe ∧ Kept s t [AFE_CFG_ERR] := by
  obtain ⟨err, logged, -, kept⟩ := refuseWith_settles s (k := AFE_CFG_ERR) (ev := EV_AFE_CFG_ERROR) w (by decide) (by decide)
  exact ⟨err, logged, settle_afe _, kept⟩

theorem afeConfig_exec {p : Port} {off : BitVec 14} {s : State} (h : Reaches s p (0x3C0000 + off.toNat / 4 * 4)) (v : Word) :
    exec (.afeConfigWrite p off v) s = .next (s.afeWrite (0x3C0000 + off.toNat / 4 * 4) v).settle := done_unowned h _

theorem afeConfig_refuses {p : Port} {off : BitVec 14} {v : Word} {c d : Nat} {s : State} (h : Reaches s p (0x3C0000 + off.toNat / 4 * 4))
    (fails : s.afeWriteCode (off.toNat / 4 * 4) v = (c, d)) (code : c ≠ 0) :
    Gives (.afeConfigWrite p off v) s fun t => t.rd AFE_CFG_ERR = BitVec.ofNat 32 (c * 2 ^ 24 + d % 2 ^ 16) ∧ Logged t EV_AFE_CFG_ERROR
      ∧ t.afe = s.afe ∧ Kept s t [AFE_CFG_ERR] := by
  refine ⟨_, afeConfig_exec h v, ?_⟩
  rw [afeWrite_refuses (by rw [Nat.add_sub_cancel_left]; exact fails) code]
  exact afeRefused s _

/-! ### Registers of a chain (R266 to R268) -/

/-- The code and DETAIL of a write of register `r` of chain `j` (R275). -/
def chainCode (j r n : Nat) : Nat × Nat :=
  if r = 0 then (if j < 8 then 0x06 else 0, j)
  else if r = 4 then
    (if 5 < (n / 256) % 8 || 3 < (n / 4096) % 8 || 24 < (n / 65536) % 32 || !tsrcLegal j (n % 256) then 0x05 else 0, j)
  else if r = 0xA4 then (if (n / 65536) % 16 = 0 || n % 16 < 4 then 0x06 else 0, j)
  else (0, j)

/-- An accepted write of register `r` of chain `j`, which lies at `off`. -/
def State.chainWrite (s : State) (j r off : Nat) (v : Word) : State :=
  if r = 4 then (s.plainWrite off off v).setChain j { s.chain j with polyDue := true }
  else if r = 0xB4 then (if v.toNat.testBit 0 then s.restartDetectors j else s)
  else if 0x80 ≤ r && r < 0xA0 && r % 8 = 4 then s.swCfgWrite j ((r - 0x80) / 8) v
  else s.plainWrite off off v

section
variable (s : State) {j r o : Nat} (chain : j < 12) (reg : r < 256) (at_ : o = 0x1000 + 256 * j + r) (v : Word)
include chain reg at_

theorem chain_place : (o - 0x1000) / 256 = j ∧ (o - 0x1000) % 256 = r ∧ (0x100 ≤ o && o < 0x300) = false
    ∧ (0x1000 ≤ o && o < 0x1C00) = true := by
  refine ⟨by omega, by omega, ?_, ?_⟩
  · rw [Bool.and_eq_false_iff, decide_eq_false_iff_not, decide_eq_false_iff_not]
    omega
  · rw [Bool.and_eq_true, decide_eq_true_eq, decide_eq_true_eq]
    omega

theorem afeWriteCode_chain : s.afeWriteCode o v = chainCode j r v.toNat := by
  obtain ⟨place, which, outside, inside⟩ := chain_place chain reg at_
  unfold State.afeWriteCode
  rw [outside, inside, if_neg Bool.false_ne_true, if_pos rfl, place, which]
  rfl

theorem afeWrite_chain (taken : (chainCode j r v.toNat).1 = 0) : s.afeWrite (0x3C0000 + o) v = s.chainWrite j r (0x3C0000 + o) v := by
  obtain ⟨place, which, outside, inside⟩ := chain_place chain reg at_
  have code := afeWriteCode_chain s chain reg at_ v
  have ctrl : 0x3C0000 + o ≠ AFE_CTRL := by simp only [AFE_CTRL]; omega
  have trip : 0x3C0000 + o ≠ FLT_TRIP := by simp only [FLT_TRIP]; omega
  obtain ⟨codeOf, codes⟩ : ∃ f, f = State.afeWriteCode := ⟨_, rfl⟩
  obtain ⟨f, unfolded⟩ : ∃ f, f = State.afeWrite := ⟨_, rfl⟩
  rw [← unfolded]
  delta State.afeWrite at unfolded
  replace unfolded := congrFun (congrFun (congrFun unfolded s) (0x3C0000 + o)) v
  beta_reduce at unfolded
  rw [Nat.add_sub_cancel_left, ← codes] at unfolded
  rw [← codes] at code
  generalize 0x3C0000 + o = off at *
  simp only [code, taken, ne_eq, not_true, ctrl, trip, outside, inside, place, which, if_false, if_true, Bool.false_eq_true] at unfolded
  exact unfolded

end

/-! ### FLT_DET_CFG (R267) -/

theorem detCfg_keys : ∀ j : Fin 12, accOf (FLT_DET_CFG j) = some (.rw, 0xF000F) ∧ settleKey (FLT_DET_CFG j) = false := by decide +kernel

theorem afeWrite_detCfg (s : State) (j : Fin 12) {v : Word} (rel : v.toNat / 65536 % 16 ≠ 0) (win : 4 ≤ v.toNat % 16) :
    s.afeWrite (FLT_DET_CFG j) v = s.wr (FLT_DET_CFG j) (s.stored (FLT_DET_CFG j) v) := by
  have place : FLT_DET_CFG j = 0x3C0000 + (0x1000 + 256 * j + 0xA4) := by simp only [FLT_DET_CFG]; omega
  have legal : (chainCode j 0xA4 v.toNat).1 = 0 := if_neg (by simp [rel]; omega)
  rw [place, afeWrite_chain s j.isLt (by decide) rfl v legal, ← place, ← plainWrite_stored s v (detCfg_keys j).1]
  rfl

theorem afeConfig_detCfg {p : Port} {j : Fin 12} {v : Word} {s : State} (h : Reaches s p (FLT_DET_CFG j)) (rel : v.toNat / 65536 % 16 ≠ 0)
    (win : 4 ≤ v.toNat % 16) :
    Gives (.afeConfigWrite p (BitVec.ofNat 14 (0x10A4 + 256 * j.val)) v) s fun t => t.rd (FLT_DET_CFG j) = s.stored (FLT_DET_CFG j) v
      ∧ t.afe = s.afe ∧ Kept s t [FLT_DET_CFG j] := by
  have place : 0x3C0000 + (BitVec.ofNat 14 (0x10A4 + 256 * j.val)).toNat / 4 * 4 = FLT_DET_CFG j := by
    simp only [FLT_DET_CFG, BitVec.toNat_ofNat]
    omega
  refine ⟨_, afeConfig_exec (by rw [place]; exact h) v, ?_⟩
  beta_reduce
  rw [place, afeWrite_detCfg s j rel win, settle_rd _ (detCfg_keys j).2, rd_wr_same, settle_afe]
  exact ⟨rfl, rfl, ((Kept.refl s _).wr _ (List.mem_singleton_self _)).settle⟩

/-! ### FLT_POLY_CFG (R264, R266) -/

theorem polyCfg_keys : ∀ j : Fin 12, accOf (FLT_POLY_CFG j) = some (.rw, 0x1F77FF) ∧ settleKey (FLT_POLY_CFG j) = false := by decide +kernel

theorem polyCfg_place (j : Nat) : FLT_POLY_CFG j = 0x3C0000 + (0x1000 + 256 * j + 4) := by simp only [FLT_POLY_CFG]; omega

theorem polyCode (s : State) (j : Fin 12) (v : Word) : s.afeWriteCode (0x1004 + 256 * j.val) v = chainCode j 4 v.toNat :=
  afeWriteCode_chain s j.isLt (by decide) (by omega) v

/-- A TSRC that names its own chain is refused with code 0x05. -/
theorem chainCode_ownSource (j : Fin 12) {n : Nat} (own : n % 256 = 0x10 + j.val) : chainCode j 4 n = (0x05, j.val) := by
  have illegal : tsrcLegal j (n % 256) = false := by simp [tsrcLegal, own]
  unfold chainCode
  rw [if_neg (by decide), if_pos rfl, illegal, if_pos (by simp)]

/-- A polynomial's settings are stored, and latch at the next sample. -/
def State.storePoly (s : State) (j : Nat) (v : Word) : State :=
  (s.wr (FLT_POLY_CFG j) (s.stored (FLT_POLY_CFG j) v)).setChain j { s.chain j with polyDue := true }

theorem afeWrite_polyCfg (s : State) (j : Fin 12) {v : Word} (legal : (chainCode j 4 v.toNat).1 = 0) :
    s.afeWrite (FLT_POLY_CFG j) v = s.storePoly j v := by
  rw [polyCfg_place, afeWrite_chain s j.isLt (by decide) rfl v legal, ← polyCfg_place, State.storePoly, ← plainWrite_stored s v (polyCfg_keys j).1]
  rfl

theorem polyConfig_exec {p : Port} {j : Fin 12} {s : State} (h : Reaches s p (FLT_POLY_CFG j)) (v : Word) :
    exec (.polyConfigWrite p j v) s = .next (s.afeWrite (FLT_POLY_CFG j) v).settle := done_unowned h _

theorem polyConfig_stores {p : Port} {j : Fin 12} {v : Word} {s : State} (h : Reaches s p (FLT_POLY_CFG j))
    (legal : (s.afeWriteCode (0x1004 + 256 * j.val) v).1 = 0) :
    Gives (.polyConfigWrite p j v) s fun t => t.rd (FLT_POLY_CFG j) = s.stored (FLT_POLY_CFG j) v ∧ (t.chain j).polyDue = true
      ∧ Kept s t [FLT_POLY_CFG j] := by
  refine ⟨_, polyConfig_exec h v, ?_⟩
  beta_reduce
  rw [afeWrite_polyCfg s j (by rw [← polyCode s]; exact legal), settle_rd _ (polyCfg_keys j).2, chain_settle, State.storePoly,
    chain_setChain_same]
  exact ⟨rd_wr_same s _ _, rfl, (((Kept.refl s _).wr _ (List.mem_singleton_self _)).setChain j _).settle⟩

theorem polyConfig_refuses {p : Port} {j : Fin 12} {v : Word} {s : State} (h : Reaches s p (FLT_POLY_CFG j))
    (own : v.toNat % 256 = 0x10 + j.val) :
    Gives (.polyConfigWrite p j v) s fun t => t.rdN AFE_CFG_ERR = 0x05000000 + j.val ∧ Logged t EV_AFE_CFG_ERROR ∧ t.afe = s.afe
      ∧ Kept s t [AFE_CFG_ERR] := by
  have place : FLT_POLY_CFG j - 0x3C0000 = 0x1004 + 256 * j.val := by simp only [FLT_POLY_CFG]; omega
  have fails : s.afeWriteCode (FLT_POLY_CFG j - 0x3C0000) v = (0x05, j.val) := by rw [place, polyCode, chainCode_ownSource j own]
  obtain ⟨err, logged, afe, kept⟩ := afeRefused s (0x05 * 2 ^ 24 + j.val % 2 ^ 16)
  refine ⟨_, polyConfig_exec h v, ?_⟩
  beta_reduce
  rw [afeWrite_refuses fails (by decide), State.rdN, err, BitVec.toNat_ofNat]
  exact ⟨by omega, logged, afe, kept⟩

/-! ### FLT_DET_RESTART (R267) -/

theorem afeWrite_restart (s : State) (j : Fin 12) : s.afeWrite (FLT_DET_RESTART j) 1 = s.restartDetectors j := by
  have place : FLT_DET_RESTART j = 0x3C0000 + (0x1000 + 256 * j + 0xB4) := by simp only [FLT_DET_RESTART]; omega
  rw [place, afeWrite_chain s j.isLt (by decide) rfl 1 rfl]
  rfl

theorem detectorRestart_restarts {p : Port} {j : Fin 12} {s : State} (h : Reaches s p (FLT_DET_RESTART j)) :
    Gives (.detectorRestart p j) s fun t => t.rd (FLT_PEAK j) = 0x80007FFF ∧ t.rd (FLT_RMS j) = 0 ∧ t.rd (FLT_ENV j) = 0
      ∧ (t.chain j).rmsSum = 0 ∧ (t.chain j).rmsCount = 0 ∧ Kept s t [FLT_PEAK j, FLT_RMS j, FLT_ENV j] := by
  obtain ⟨peak, rms, env⟩ := restartDetectors_shows s j
  have chain : ∃ c : FltChain, (s.restartDetectors j).chain j = { c with rmsSum := 0, rmsCount := 0 } := ⟨_, chain_setChain_same _ j _⟩
  obtain ⟨c, restarted⟩ := chain
  refine ⟨_, (done_unowned h _).trans (by rw [afeWrite_restart]), ?_⟩
  beta_reduce
  rw [chain_settle, restarted]
  exact ⟨peak, rms, env, rfl, rfl, (restartDetectors_kept s j).settle⟩

/-! ### FLT_TRIP (R271) -/

theorem afeWrite_trip (s : State) : s.afeWrite FLT_TRIP 1 = if s.ilkSwitchesOff then s.wr FLT_TRIP 0 else s.ignore := by
  have code : s.afeWriteCode (FLT_TRIP - 0x3C0000) 1 = (0, 0) := by
    unfold State.afeWriteCode
    rw [if_neg (by decide), if_neg (by decide)]
  unfold State.afeWrite
  extract_lets o
  rw [show s.afeWriteCode o 1 = (0, 0) from code]
  exact (if_neg (by decide)).trans ((if_neg (by decide)).trans ((if_pos rfl).trans (if_pos (by decide))))

theorem tripClear_exec {p : Port} {s : State} (h : Reaches s p FLT_TRIP) :
    exec (.interlockTripClear p) s = .next (if s.ilkSwitchesOff then s.wr FLT_TRIP 0 else s.ignore).settle :=
  (done_unowned h _).trans (by rw [afeWrite_trip])

theorem tripClear_clears {p : Port} {s : State} (h : Reaches s p FLT_TRIP) (off : s.ilkSwitchesOff = true) :
    Gives (.interlockTripClear p) s fun t => t.rd FLT_TRIP = 0 ∧ Kept s t [FLT_TRIP] := by
  refine ⟨_, tripClear_exec h, ?_⟩
  rw [off]
  exact ⟨(settle_rd _ (by decide)).trans (rd_wr_same s _ _), ((Kept.refl s _).wr 0 (List.mem_singleton_self _)).settle⟩

theorem tripClear_waits {p : Port} {s : State} (h : Reaches s p FLT_TRIP) (on : s.ilkSwitchesOff = false) :
    Gives (.interlockTripClear p) s fun t => t.afe = s.afe ∧ Kept s t [] := by
  refine ⟨_, tripClear_exec h, ?_⟩
  rw [on]
  exact ⟨settle_afe _, (Kept.refl s []).ignore.settle⟩

/-- Settles O34: the converters by what a trigger, a sequence's end and a write do to them, the front end by the code of a write. -/
theorem converterSequences : Obligations.ConverterSequences := by
  unfold Obligations.ConverterSequences
  refine ⟨⟨?ready, ?off, ?timer, ?go, ?overrun, ?ends, ?control, ?source, ?staged, ?latched, ?refused, adcCode_bounds⟩,
    ?config, ?detCfg, ?polyCfg, ?own, ?restart, ?clears, ?waits⟩
  case ready => exact fun t0 s core since unready => referenceReady_raises core since unready
  case off => exact fun s off => referenceReady_off off
  case timer => exact fun s core run timer idle unstaged => adcTimerTrigger_starts core run timer idle unstaged
  case go => exact fun p s h run chosen idle => adcGo_starts h run chosen idle
  case overrun => exact fun p t0 s h run chosen busy => adcGo_skips h run chosen busy
  case ends => exact fun c b v t0 s core runs => adcSequenceEnd_publishes core runs c b v
  case control => exact fun p v s h same => adcControl_takes h same
  case source => exact fun p v s h on changes => adcControl_refuses h on changes
  case staged => exact fun p s h passes run => adcCommit_stages h passes run
  case latched => exact fun p s h passes stopped => adcCommit_latches h passes stopped
  case refused => exact fun p c d s h fails code => adcCommit_refuses h fails code
  case config => exact fun p off v c d s h fails code => afeConfig_refuses h fails code
  case detCfg => exact fun p j v s h rel win => afeConfig_detCfg h rel win
  case polyCfg => exact fun p j v s h legal => polyConfig_stores h legal
  case own => exact fun p j v s h own => polyConfig_refuses h own
  case restart => exact fun p j s h => detectorRestart_restarts h
  case clears => exact fun p s h off => tripClear_clears h off
  case waits => exact fun p s h on => tripClear_waits h on

end Sys2Proof.Machine
end
